-- ==== Sys2Proof/Word.lean ====
section
/-! DEFINITION. The units of the model: time, bytes, and the sparse canonical table every memory and register file is kept in. -/

namespace Sys2Proof

/-- One byte. -/
abbrev Byte := BitVec 8

/-- An instant or a length of system time, extended (never wrapped): a count of 2^-32 of the 0.125 ps LSB of fine
delay (R474).  Both grids the manual uses are whole numbers of this unit: 0.125 ps is `2^32` units, and 2^-32 ns
(the LSB of a 32.32 time, R273) is 8,000 units. -/
abbrev Time := Nat

namespace Time

/-- One LSB of fine delay, 0.125 ps. -/
def quantum : Time := 4294967296

/-- One LSB of a 32.32 time, 2^-32 ns. -/
def lsb : Time := 8000

/-- One nanosecond. -/
def ns : Time := 34359738368000

/-- `n` whole nanoseconds. -/
def ofNs (n : Nat) : Time := n * 34359738368000

/-- `q` units of 0.125 ps. -/
def ofQ (q : Nat) : Time := q * 4294967296

/-- A 32.32 value (an extended one has more than 32 integer bits). -/
def ofFix (v : Nat) : Time := v * 8000

/-- R474: the nearest 32.32 value; exactly halfway goes to the later one. -/
def toFix (t : Time) : Nat := (t + 4000) / 8000

/-- R474: the nearest multiple of 0.125 ps; exactly halfway goes to the later one. -/
def toQ (t : Time) : Nat := (t + 2147483648) / 4294967296

/-- Integer nanoseconds, extended. -/
def toNs (t : Time) : Nat := t / 34359738368000

/-- Integer nanoseconds as a register holds them (R275). -/
def ns32 (t : Time) : Nat := toNs t % 4294967296

/-- The fraction register of the 32.32 value recorded for `t`. -/
def frac32 (t : Time) : Nat := toFix t % 4294967296

/-- The integer register of the 32.32 value recorded for `t`. -/
def int32 (t : Time) : Nat := toFix t / 4294967296 % 4294967296

end Time

/-- A sparse table in canonical form: keys strictly rising, and no entry equal to what an unlisted key reads as. -/
abbrev Tbl (α : Type) := List (Nat × α)

namespace Tbl

/-- What key `k` holds; `d k` where nothing is listed. -/
def get {α : Type} (d : Nat → α) (m : Tbl α) (k : Nat) : α :=
  match m with
  | [] => d k
  | (j, v) :: t => if j = k then v else get d t k

/-- The table without any entry at `k`. -/
def erase {α : Type} (m : Tbl α) (k : Nat) : Tbl α :=
  match m with
  | [] => []
  | (j, v) :: t => if j = k then erase t k else (j, v) :: erase t k

/-- Put one entry at its place in a rising list. -/
def insert {α : Type} (m : Tbl α) (k : Nat) (v : α) : Tbl α :=
  match m with
  | [] => [(k, v)]
  | (j, w) :: t => if k < j then (k, v) :: (j, w) :: t else (j, w) :: insert t k v

/-- Key `k` now holds `v`; writing what an unlisted key reads as removes the entry. -/
def set {α : Type} [DecidableEq α] (d : Nat → α) (m : Tbl α) (k : Nat) (v : α) : Tbl α :=
  if v = d k then erase m k else insert (erase m k) k v

/-- Rising keys above `lo`. -/
def rising {α : Type} (lo : Option Nat) (m : Tbl α) : Bool :=
  match m with
  | [] => true
  | (j, _) :: t =>
    (match lo with
      | none => true
      | some b => decide (b < j)) && rising (some j) t

/-- No entry holds the value an unlisted key reads as. -/
def lean {α : Type} [DecidableEq α] (d : Nat → α) (m : Tbl α) : Bool :=
  match m with
  | [] => true
  | (j, v) :: t => decide (v ≠ d j) && lean d t

/-- The canonical form. -/
def wf {α : Type} [DecidableEq α] (d : Nat → α) (m : Tbl α) : Bool := rising none m && lean d m

end Tbl

/-- Two's complement value of the low `w` bits. -/
def sext (w n : Nat) : Int :=
  let m := n % 2 ^ w
  if m < 2 ^ (w - 1) then (m : Int) else (m : Int) - (2 ^ w : Nat)

/-- The low `w` bits of an integer in two's complement. -/
def trunc (w : Nat) (z : Int) : Nat := (z % (2 ^ w : Nat)).toNat

/-- Bit `i` of `n` as 0 or 1. -/
def bit (n i : Nat) : Nat := n / 2 ^ i % 2

/-- Is bit `i` of `n` set? -/
def hasBit (n i : Nat) : Bool := n / 2 ^ i % 2 == 1

/-- Bits [hi:lo] of `n`. -/
def bits (n hi lo : Nat) : Nat := n / 2 ^ lo % 2 ^ (hi + 1 - lo)

/-- `n` with bit `i` set. -/
def setBit (n i : Nat) : Nat := if hasBit n i then n else n + 2 ^ i

/-- `n` with bit `i` clear. -/
def clearBit (n i : Nat) : Nat := if hasBit n i then n - 2 ^ i else n

/-- Number of ones in the low `w` bits. -/
def popcount (w n : Nat) : Nat :=
  match w with
  | 0 => 0
  | k + 1 => bit n k + popcount k n

/-- `v` saturated at the largest `w`-bit value. -/
def satAt (w v : Nat) : Nat := if v < 2 ^ w then v else 2 ^ w - 1

/-- The first element that satisfies `p`, together with the list without it. -/
def takeFirst {α : Type} (p : α → Bool) (l : List α) : Option (α × List α) :=
  match l with
  | [] => none
  | x :: t => if p x then some (x, t) else
      match takeFirst p t with
      | none => none
      | some (y, r) => some (y, x :: r)

end Sys2Proof
end

