-- ==== Sys2Proof/Syntax.lean ====
section
/-! DEFINITION. The commands the block takes: one constructor per row of the table of operations and events, with the
data that comes from outside the model (who writes, what a pin or a message carries, at which sub-tick instant). -/

namespace Sys2Proof

/-- The PCIe function an access comes from (R435): PF0, or the VF of local site `n`. -/
inductive Fn where
  | pf0
  | vf (n : Fin 16)
  deriving DecidableEq, Repr

/-- A timed-action request on its way to the island that acts (R18). -/
inductive TimedReq where
  /-- The pulses and flash code of a segment start (R156). -/
  | segStart (oct : Fin 8) (trg flash : Nat) (target : Time)
  /-- A frame launch (R178). -/
  | launch (ch : Fin 64) (id : Nat) (target : Time)
  /-- The apply instant of a class F commit (R242). -/
  | classF (site : Fin 16) (target : Time)
  /-- The apply instant of a class X change (R245). -/
  | classX (site : Fin 16) (target : Time)
  /-- A time trigger of acquisition (R216). -/
  | acqTrig (ch : Fin 64) (target : Time)
  deriving DecidableEq, Repr

/-- What error correction found in a memory block (R337, R340). -/
inductive MemErr where
  | clean | corrected | uncorrectable
  deriving DecidableEq, Repr

/-- What an OUTCOME message carries (R282). -/
inductive Verdict where
  | committed | aborted | unknown
  deriving DecidableEq, Repr

/-- The three copies of a FLASH word as they arrived (R301); `none` is a copy that did not. -/
structure Copies where
  c1 : Option Nat
  c2 : Option Nat
  c3 : Option Nat
  deriving DecidableEq, Repr

/-- One flooded link-state change (R310): the link at `port` of chip `a` to chip `b` is up or down, with its measured
flight in 0.1 ns; and what chip `a`'s HELLO says of it: time root, digest of its identity (log entry 9). -/
structure LinkState where
  a : Nat
  port : Nat
  b : Nat
  up : Bool
  flight : Nat
  root : Bool
  digest : Nat
  deriving DecidableEq, Repr

/-- Who sent a CTRL cell of a site: SRC and EPOCH (R304). -/
structure Sender where
  chip : Nat
  epoch : Nat
  deriving DecidableEq, Repr

/-- How a retraining step of one DRAM channel ended (R352, R353). -/
inductive TrainRes where
  | pass (wmarg rmarg attempts : Nat)
  | fail
  deriving DecidableEq, Repr

/-- The PLLs of R359 and R360. -/
inductive Pll where
  | line (n : Fin 4)
  | core
  | timebase
  deriving DecidableEq, Repr

/-- The quality figures of a slice and its trims (R371, R376): where each code of the five delay lines and of the TDC truly lies, in
2^-26 of the range, and the offsets of the receive DSP. -/
structure Figures where
  eyew : Nat
  inlrms : Nat
  inlmax : Nat
  dnlmin : Nat
  dnlmax : Nat
  trims : List Nat
  deriving DecidableEq, Repr

/-- What a code-density pass measured (R372, R376): the figures of the eye and of the edges, the hits of each code of the delay lines of DA,
DB, DC, SA and SB, those of each TDC code, and the offsets of the receive DSP. -/
structure Density where
  eyew : Nat
  inlrms : Nat
  inlmax : Nat
  lines : List (List Nat)
  tdc : List Nat
  dsp : List Nat
  deriving DecidableEq, Repr

/-- A Sumac fault source (R387). -/
inductive FaultSrc where
  | site (s : Fin 16) (b : Fin 13)
  | chip (b : Fin 7)
  deriving DecidableEq, Repr

/-- What the board holds when PGOOD rises: the boot flash (R411), its SFDP space (R412), and whether OCXO_REF runs (R420). -/
structure Board where
  flash : List Byte
  sfdp : List Byte
  refOk : Bool
  deriving DecidableEq, Repr

/-- TAP instructions (R470). -/
inductive JtagIns where
  | bypass | samplePreload | extest | extestPulse | extestTrain | clamp | highz
  deriving DecidableEq, Repr

/-- What a row names and the state of the block already tells (an instant, the bits received, the channels in service): one value, which says
nothing more. -/
abbrev Known := Unit

/-- What error correction found in the word of acquisition SRAM that a sample goes to: not correctable, and words corrected (R337). -/
structure SramErr where
  ue : Bool
  ce : Nat
  deriving DecidableEq, Repr

/-- What the roving sampler meets: the level at the RX balls in microvolts, and its word of SRAM. -/
structure Roving where
  uv : Int
  sram : SramErr
  deriving DecidableEq, Repr

/-- The line bits that a port has received since a comma (R297). -/
structure PortLine where
  port : Fin 12
  line : List Bool
  deriving DecidableEq, Repr

/-- The commands. -/
inductive Instr where
  /-- TIMEBASE_TICK (R273). On each 1.0 GHz timebase tick, system time and every island's local copy advance by the TBS_INC value in force. -/
  | timebaseTick
  /-- BEACON_SEND (R15). Every 1,024 ticks the timebase island sends each timed island a beacon carrying a future tick's time value and TBS_INC. -/
  | beaconSend
  /-- BEACON_ARRIVE (R17). An island checks its local time copy against an arriving beacon; a STEP beacon is loaded without the check. -/
  | beaconArrive (isl : Nat)
  /-- INC_APPLY (R16). A new TBS_INC takes effect in every island at the tick named in the first beacon that carries it. -/
  | incApply
  /-- TIMED_REQUEST_ARRIVE (R18). A timed-action request arrives in the acting island and is armed or falls to its function's late rule. -/
  | timedRequestArrive (isl : Nat) (req : TimedReq)
  /-- TIMED_ACTION (R18). An armed timed action takes effect at its target time, with the fraction placed by fine delay. -/
  | timedAction (isl : Nat)
  /-- WORD_ISSUE (R117). An engine issues a word 64 ns before its start, checks it and raises at most one synchronous exception. -/
  | wordIssue (e : Fin 16) (upset : Nat)
  /-- MCHK_REWRITE_DONE (R141). The mirror rewrite completes; the word issues after a transient error, or the engine retires after a lasting one. -/
  | mchkRewriteDone (e : Fin 16) (mirrorBad : Bool) (upset : Nat)
  /-- WORD_RESOLVE (R117). At E(W) − 64 ns the engine samples conditions, performs the internal completion and issues the next word. -/
  | wordResolve (e : Fin 16)
  /-- POST_ENTRY_FREED (R261). A microcode post that waited for an entry completes once an entry frees, and the word then completes. -/
  | postEntryFreed (site : Fin 16)
  /-- TRIGO_PULSE (R108). At E(W) an 8 ns pulse is sent on each site trigger output slot that TRIGO selects. -/
  | trigoPulse (e : Fin 16)
  /-- FSIG_SEND (R302). At E(W) the engine sends a FLASH CODE word to every chip of the site. -/
  | fsigSend (e : Fin 16)
  /-- EVT_HOST_EVENT (R108). At E(W) host event n of the site's VF is raised in the host island. -/
  | evtHostEvent (e : Fin 16)
  /-- WOP_START_CHAIN (R153). WOP 1 stops whatever plays and starts the chain at entry OBJ, anchored at E(W). -/
  | wopStartChain (e : Fin 16)
  /-- WOP_STOP_CHAIN (R153). WOP 2 stops the chain at the end of the pass in play. -/
  | wopStopChain (e : Fin 16)
  /-- WOP_CONTINUE (R153). WOP 3 redirects the chain to entry OBJ at the end of the current pass. -/
  | wopContinue (e : Fin 16)
  /-- POP_EARLIEST (R176). POP 1 queues a launch request for the earliest launch on each of the group's protocol lanes. -/
  | popEarliest (e : Fin 16)
  /-- POP_TIMED (R178). POP 2 queues a timed launch request and judges it under the half-window rule. -/
  | popTimed (e : Fin 16)
  /-- CAPT_START (R191). At E(W) a capture set becomes active. -/
  | captStart (e : Fin 16)
  /-- CAPT_STOP (R191). At E(W) a capture set becomes inactive. -/
  | captStop (e : Fin 16)
  /-- CAPT_WORD (R107). At E(W) a capture WORD span ends and its records enter the page, unless the word raised an exception. -/
  | captWord (e : Fin 16)
  /-- MODE_CHANGE_EFFECT (R123). A registered MODE change takes effect at the start of the second following word. -/
  | modeChangeEffect (e : Fin 16)
  /-- PERS_IDLE_END (R31). The 24 ns of electrical idle after a personality change end, and the pairs drive the new idle output. -/
  | persIdleEnd (oct : Fin 8)
  /-- MATCH_ARM (R126). A word with ARML or ARMS arms a match window at its start and clears LMATCH or SMATCH. -/
  | matchArm (e : Fin 16)
  /-- ASYNC_EXCEPTION_TAKE (R132). A pending SAFE, FAB or PRE exception is taken at the next unprotected word boundary. -/
  | asyncExceptionTake (e : Fin 16)
  /-- UFL_REPORT (R135). An octet's underrun report reaches the engine, which takes UFL and places the handler start. -/
  | uflReport (e : Fin 16) (arrival : Time)
  /-- BURST_SUSPEND (R142). A burst's context saving into the engine's slot completes. -/
  | burstSuspend (e : Fin 16)
  /-- BURST_RESTORE (R142). When the burst that took the engine ends, the saved burst is restored. -/
  | burstRestore (e : Fin 16) (tm : Time)
  /-- RELOAD (R115). A RELOAD write starts a signed control-store reload or is refused with RLD_REJ. -/
  | reload (fn : Fn) (e : Fin 16) (sec : Nat) (copy : Bool)
  /-- RELOAD_DONE (R115). The reload finishes, writing the store and mirror or setting RLD_FAIL, and the engine returns to IDLE. -/
  | reloadDone (e : Fin 16)
  /-- VECTOR_READ (R119). An octet reads a vector from the beat buffer or stream FIFO 48 ns before it starts and detects any underrun. -/
  | vectorRead (oct : Fin 8) (e : Fin 16) (sramUe : Nat) (sramCe : Nat)
  /-- DRIVE_EDGE (R65). A scheduled drive edge is driven, or dropped when it is too close to the last driven edge. -/
  | driveEdge (ch : Fin 64)
  /-- STROBE (R66). A strobe instant is taken or skipped, and the comparator level is sampled. -/
  | strobe (ch : Fin 64)
  /-- COMPARE_COMPLETE (R68). A vector's compare completes at its SB instant, counting fails and forming match results. -/
  | compareComplete (ch : Fin 64)
  /-- CONDITION_ARRIVE (R125). Compare results reach the engine's CMP group and LMATCH within 12 ns. -/
  | conditionArrive (e : Fin 16)
  /-- COMPARATOR_EDGE (R43). The RX input crosses THR ± H and the comparator output changes level. -/
  | comparatorEdge (ch : Fin 64) (uv : Int) (tm : Time)
  /-- SIGDET_CHANGE (R50). The observed RX signal rises above, or stays below, the detection level for 1 µs, and SIGDET changes. -/
  | sigdetChange (ch : Fin 64) (above : Bool)
  /-- RX_ADAPT_UPDATE (R41). LMS adaptation updates the live RX FFE and DFE coefficients. -/
  | rxAdaptUpdate (ch : Fin 64)
  /-- SAFE_REACH_OCTET (R48). Sumac's safe-state signal reaches an octet and the affected TX pairs go to electrical idle within 6 ns. -/
  | safeReachOctet (oct : Fin 8)
  /-- BB_WINDOW_WRITE (R71). A host write through the beat-buffer window changes only the nibbles that the function's site owns. -/
  | bbWindowWrite (fn : Fn) (oct : Fin 8) (off : Nat) (size : Nat) (data : Nat)
  /-- STREAM_START (R79). START admits a long-haul stream, setting LTOL and beginning the fill, or refuses it with ADM_REJ. -/
  | streamStart (fn : Fn) (slot : Fin 4)
  /-- STREAM_STOP (R78). STOP ends a stream and releases its slot. -/
  | streamStop (fn : Fn) (slot : Fin 4)
  /-- STREAM_REFILL (R80). A stream whose FIFO is half empty or less requests a refill from DRAM. -/
  | streamRefill (slot : Fin 4)
  /-- DRAM_REQUEST_COMPLETE (R346). A DRAM request completes after class and age scheduling, with error correction applied. -/
  | dramRequestComplete (dc : Fin 16) (err : MemErr)
  /-- DRAM_PD_ENTER (R348). After its idle time a DRAM channel enters L1 or L2 when its conditions allow. -/
  | dramPdEnter (dc : Fin 16) (lvl : Fin 3)
  /-- SEGMENT_ENTRY_READ (R151). The octet reads the next segment entry whole, checks it and sends the segment-start trigger request. -/
  | segmentEntryRead (oct : Fin 8)
  /-- SEGMENT_PASS_START (R152). A segment pass begins at the next sample instant after the previous pass. -/
  | segmentPassStart (oct : Fin 8)
  /-- RING_SLOT_READ (R160). A ring slot is read 48 ns before it plays, and plays idle if it is incomplete. -/
  | ringSlotRead (oct : Fin 8)
  /-- GRANULE_ARRIVE (R159). A host granule completes and is accepted or discarded against its slot's read instant. -/
  | granuleArrive (oct : Fin 8) (data : List Byte)
  /-- WFRING_WRITE (R162). A write to OCT_WFRING is accepted while RUN = 0 and zeroes RPTR and WPTR, or sets CFG_REJ. -/
  | wfringWrite (fn : Fn) (oct : Fin 8) (data : Nat)
  /-- LAUNCH_HEAD (R179). A launch entry reaches the queue head and its preamble start is decided, or it completes with a status. -/
  | launchHead (ch : Fin 64) (tm : Time)
  /-- PREAMBLE_START (R179). The lane starts transmitting the frame's preamble, re-anchoring the grid for a timed frame. -/
  | preambleStart (ch : Fin 64)
  /-- FRAME_TX_END (R181). The frame's last symbol leaves the TX ball and the IPG begins. -/
  | frameTxEnd (ch : Fin 64)
  /-- TIMESTAMP_WRITE (R181). A completion entry is written to the timestamp queue, or dropped when the queue is full. -/
  | timestampWrite (ch : Fin 64)
  /-- TSQ_POP (R182). POP removes the head entry of the timestamp queue. -/
  | tsqPop (fn : Fn) (ch : Fin 64)
  /-- RX_LOCK (R184). The receiver recovers symbol timing and LOCK becomes 1. -/
  | rxLock (ch : Fin 64)
  /-- RX_LOCK_LOSS (R184). Lock is lost: LOCKLOST is set and a frame being received is discarded. -/
  | rxLockLoss (ch : Fin 64)
  /-- SD_MATCH (R185). The received bits match the start delimiter and a receive frame begins. -/
  | sdMatch (ch : Fin 64) (ingress : Known)
  /-- RX_FRAME_COMPLETE (R186). A received frame completes: its CRC is checked, its identifier extracted and its record updated. -/
  | rxFrameComplete (ch : Fin 64) (data tm : Known)
  /-- CHECKER_BIT_ERROR (R173). The PRBS checker counts a received bit that differs from the sequence. -/
  | checkerBitError (ch : Fin 64) (tm sym : Known)
  /-- FAIL_CLEAR (R189). CLR clears a channel's FCNT, FFIDX, FFBEAT and FFV. -/
  | failClear (fn : Fn) (ch : Fin 64)
  /-- RECORD_ENTER (R201). A capture record enters the open page, opening or closing pages, or an overrun begins. -/
  | recordEnter (site : Fin 16)
  /-- CAPTURE_WINDOW_END (R204). At each 1,024 ns window end the decimation rules act: d changes, capture stops, or capture restarts. -/
  | captureWindowEnd (site : Fin 16)
  /-- PAGE_FLUSH_TIMEOUT (R201). No record has entered for FLTO µs and the open page closes. -/
  | pageFlushTimeout (site : Fin 16)
  /-- CAPTURE_FLUSH (R207). SITE_CCTL.FLUSH closes the site's open page. -/
  | captureFlush (fn : Fn) (site : Fin 16)
  /-- PAGE_MOVE (R202). A closed page moves from staging into the DRAM backlog under the capture reservation. -/
  | pageMove (site : Fin 16) (sramUe : Nat) (sramCe : Nat)
  /-- PAGE_DELIVER (R199). A backlog page is written into a host result-page slot, DONE last. -/
  | pageDeliver (site : Fin 16) (known : Known)
  /-- ADC_SAMPLE (R39). The ADC takes one sample per UI, which feeds crossings, histograms and the triggered record. -/
  | adcSample (ch : Fin 64) (uv : Int) (tm : Time) (sram : SramErr)
  /-- ACQ_RECORD_DONE (R215). The POST samples are written, ARMED clears and TRIGD is set. -/
  | acqRecordDone (ch : Fin 64)
  /-- ROVING_SAMPLE (R212). The roving sampler takes a sample at its phase offset and counts it into the map. -/
  | rovingSample (ch : Fin 64) (r : Roving)
  /-- ROVING_STEP (R212). The dwell count expires and the roving phase advances, incrementing PASS after column 127. -/
  | rovingStep (ch : Fin 64)
  /-- ACQ_RUN_START (R220). RUN = 1 starts counting at the next UI boundary and records ACQ_RUNT0. -/
  | acqRunStart (ch : Fin 64) (tm : Time)
  /-- ACQ_RUN_STOP (R220). RUN = 0 stops counting at the next UI boundary. -/
  | acqRunStop (ch : Fin 64) (tm : Time)
  /-- ACQ_STOP_DONE (R220). The last increment of the run is in SRAM and ACTIVE clears. -/
  | acqStopDone (ch : Fin 64)
  /-- ACQ_ARM (R215). ARM starts or restarts the triggered record. -/
  | acqArm (fn : Fn) (ch : Fin 64)
  /-- ACQ_FORCE (R214). FORCE triggers the record with any TSRC. -/
  | acqForce (fn : Fn) (ch : Fin 64)
  /-- ACQ_CLR (R220). CLR starts zeroing the slot and ACQ_PASS. -/
  | acqClr (fn : Fn) (ch : Fin 64)
  /-- ACQ_CLR_DONE (R220). The slot is zero within 20 µs of CLR. -/
  | acqClrDone (ch : Fin 64)
  /-- ACQ_EYE (R222). EYE starts eye-width extraction on a stopped map, or is refused with CFG_REJ. -/
  | acqEye (fn : Fn) (ch : Fin 64)
  /-- ACQ_EYE_DONE (R222). The eye result is written to ACQ_EYER and VALID is set. -/
  | acqEyeDone (ch : Fin 64)
  /-- ACQ_TTRIG_SUBMIT (R216). A write to ACQ_TTRIG_HI submits a time trigger that is armed or sets TMISS. -/
  | acqTtrigSubmit (fn : Fn) (ch : Fin 64) (ns : Nat)
  /-- TDC_STAMP (R229). An admitted comparator edge is stamped, or skipped under the dead time, and completes values. -/
  | tdcStamp (ch : Fin 64) (fine : Nat)
  /-- TDC_GATE_END (R230). A frequency gate ends, and SPAN and E update the accumulators or the gate is discarded. -/
  | tdcGateEnd (ch : Fin 64)
  /-- TDC_START_TIMEOUT (R230). A pending start finds no stop within 2^36 − 1 LSB and is discarded. -/
  | tdcStartTimeout (ch : Fin 64)
  /-- TDC_RUN_START (R232). RUN = 1 starts the TDC at the next 1 ns tick. -/
  | tdcRunStart (fn : Fn) (ch : Fin 64)
  /-- TDC_RUN_STOP (R232). RUN = 0 stops the TDC and discards a pending start or open gate. -/
  | tdcRunStop (fn : Fn) (ch : Fin 64)
  /-- TDC_SNAP (R232). SNAP copies every accumulator, SWARM and the copy time in one step. -/
  | tdcSnap (fn : Fn) (ch : Fin 64)
  /-- TDC_CLR (R232). CLR zeroes the live accumulators, OCT_TDCDISC and OCT_TDCSKIP. -/
  | tdcClr (fn : Fn) (ch : Fin 64)
  /-- DLL_LOCK (R227). The TDC DLL locks and DLLLOCK becomes 1. -/
  | dllLock (ch : Fin 64)
  /-- DLL_UNLOCK (R227). The DLL loses lock: DLLUL is set and a pending start is discarded. -/
  | dllUnlock (ch : Fin 64)
  /-- OCXO_WARM_CHANGE (R234). The synchronised OCXO_WARM flag changes and values are marked WARM. -/
  | ocxoWarmChange (level : Bool)
  /-- COMMIT (R242). A write of COMMIT requests a class F commit, assigned to the gap of the next freeze instant. -/
  | commit (fn : Fn) (site : Fin 16)
  /-- COMMIT_FREEZE (R242). At Z(F) the site's shadows are frozen and sent to the acting islands. -/
  | commitFreeze (site : Fin 16)
  /-- GAP_APPLY (R244). At B(F) − GAP the class F values and then the class X changes apply, each register checked by its rules. -/
  | gapApply (site : Fin 16)
  /-- BEAT_START (R238). Beat F begins at B(F); the vector grid and index restart and held words resume. -/
  | beatStart (site : Fin 16)
  /-- PIN_SAMPLE (R250). The read-back sampler samples a driven edge for a PIN signature. -/
  | pinSample (ch : Fin 64) (uv : Int)
  /-- SIGNATURE_RESULT (R253). A signature unit completes for the beat with a status, and acts on MISMATCH by ACT. -/
  | signatureResult (site : Fin 16) (u : Fin 8)
  /-- ITEM_ARRIVE (R257). A work item enters the dispatcher, is checked and enters the ready store or is REJECTED. -/
  | itemArrive (site : Fin 16) (src : Fin 3) (chip : Sender) (desc : List Nat)
  /-- ENGINE_BIND (R263). An eligible engine is bound to the highest waiting item within 8 ns. -/
  | engineBind (e : Fin 16)
  /-- BURST_START (R263). A bound burst's first word starts at a grid start at or after the decision + 80 ns. -/
  | burstStart (e : Fin 16) (tm : Time)
  /-- RECORD_RELEASE (R268). A dispatcher record is released to the completion queue in flow order. -/
  | recordRelease (site : Fin 16)
  /-- DSP_STOP (R270). STOP = 1 cancels waiting items and stops running bursts of the site. -/
  | dspStop (fn : Fn) (site : Fin 16)
  /-- DSP_UNSTOP (R270). STOP = 0 admits items again. -/
  | dspUnstop (fn : Fn) (site : Fin 16)
  /-- WHIST_CLEAR (R271). DSP_WCLR.CLR zeroes the wait histogram. -/
  | whistClear (fn : Fn) (site : Fin 16)
  /-- TBS_SNAP (R274). SNAP copies NS, FRAC and the wrap count of the function in one tick. -/
  | tbsSnap (fn : Fn)
  /-- TBS_SET (R279). SET steps the root's time to SETNS.0, or is ignored while a site runs beats. -/
  | tbsSet (fn : Fn)
  /-- TIME_EXCHANGE_START (R276). Every 2^EXLOG µs the child sends a time-exchange request to its parent. -/
  | timeExchangeStart
  /-- TIME_REQUEST_RECEIVE (R276). The parent stamps a request, replies and sends t2 and t3 in a follow-up. -/
  | timeRequestReceive (port : Fin 12) (child : Nat) (t1 : Nat)
  /-- EXCHANGE_COMPLETE (R277). The follow-up completes an exchange: θ and δ are computed, the servo runs and the state may change. -/
  | exchangeComplete (port : Fin 12) (t2 : Nat) (t3 : Nat) (t4 : Nat)
  /-- EXCHANGE_LOST (R276). An exchange with no reply within 2^EXLOG µs is lost, and 8 in a row lose the parent. -/
  | exchangeLost
  /-- SAF_OPEN (R283). OPEN on the leader allocates a TXID and sends OPEN to the members. -/
  | safOpen (fn : Fn) (site : Fin 16)
  /-- SAF_STAGE (R284). A write to SAF_STGD stages an address and value pair, or sets STG_REJ. -/
  | safStage (fn : Fn) (site : Fin 16) (data : Nat)
  /-- SAF_PREPARE (R285). PREPARE checks the target and sends PREPARE, or queues the transaction behind a running one. -/
  | safPrepare (fn : Fn) (site : Fin 16)
  /-- SAF_ABORT (R286). A host ABORT aborts the open, queued and running transactions not yet committed. -/
  | safAbort (fn : Fn) (site : Fin 16)
  /-- SAF_RESOLVE_COMMIT (R288). RESOLVE commit applies an in-doubt buffer at the first gap that is still in time. -/
  | safResolveCommit (fn : Fn) (site : Fin 16) (txid : Nat)
  /-- SAF_RESOLVE_ABORT (R288). RESOLVE abort discards an in-doubt buffer. -/
  | safResolveAbort (fn : Fn) (site : Fin 16) (txid : Nat)
  /-- OPEN_RECEIVE (R283). A member opens a staging buffer for the TXID, queuing or superseding an earlier open buffer. -/
  | openReceive (site : Fin 16) (epoch : Nat) (txid : Nat)
  /-- PREPARE_RECEIVE (R285). A member freezes and checks its buffer and votes within 8 µs, or NACKs STALE. -/
  | prepareReceive (site : Fin 16) (epoch : Nat) (txid : Nat) (beat : Nat)
  /-- VOTE_RECEIVE (R286). The leader records a vote, aborting on NO or committing when all are YES in time. -/
  | voteReceive (site : Fin 16) (epoch : Nat) (txid : Nat) (chip : Nat) (reason : Nat)
  /-- DECISION_DEADLINE (R286). At L(F) with votes incomplete the leader sends DEFER, or ABORT after a deferral. -/
  | decisionDeadline (site : Fin 16)
  /-- DEFER_RECEIVE (R287). A member moves the target of the transaction to F + 1. -/
  | deferReceive (site : Fin 16) (epoch : Nat) (txid : Nat) (beat : Nat)
  /-- COMMIT_RECEIVE (R287). A member schedules its apply at B(target) − GAP, or treats a late COMMIT as an OUTCOME. -/
  | commitReceive (site : Fin 16) (epoch : Nat) (txid : Nat) (beat : Nat)
  /-- ABORT_RECEIVE (R287). A member discards its buffer for the TXID. -/
  | abortReceive (site : Fin 16) (epoch : Nat) (txid : Nat) (outcome : Nat)
  /-- PARTICIPANT_DEADLINE (R287). At X(F) a prepared member without an outcome enters INDOUBT, or an unprepared one discards. -/
  | participantDeadline (site : Fin 16)
  /-- QUERY_SEND (R288). An in-doubt member sends QUERY to the leader every 100 µs. -/
  | querySend (site : Fin 16)
  /-- QUERY_RECEIVE (R282). The leader answers a QUERY with an OUTCOME from its last 8 transactions. -/
  | queryReceive (site : Fin 16) (epoch : Nat) (txid : Nat) (chip : Nat)
  /-- OUTCOME_RECEIVE (R288). An in-doubt member acts on COMMITTED, ABORTED or UNKNOWN. -/
  | outcomeReceive (site : Fin 16) (epoch : Nat) (txid : Nat) (verdict : Verdict) (beat : Nat)
  /-- NACK_STALE_RECEIVE (R282). A NACK STALE returns to the sender and is counted as a stale message. -/
  | nackStaleReceive (site : Fin 16) (chip : Nat) (txid : Nat) (ofPrepare : Bool)
  /-- FLASH_CODE (R302). A voted CODE word sets the FLASH condition group of the site's engines and is forwarded. -/
  | flashCode (port : Fin 12) (copies : Copies)
  /-- FLASH_MATCH (R302). A voted MATCH word updates the site match and is forwarded. -/
  | flashMatch (port : Fin 12) (copies : Copies) (src : Nat)
  /-- FLASH_ABORT (R302). A voted ABORT word raises FAB in the site's engines and is forwarded. -/
  | flashAbort (port : Fin 12) (copies : Copies)
  /-- FLASH_FAULT (R391). A voted FAULT word idles the site's pins and raises REMOTE. -/
  | flashFault (port : Fin 12) (copies : Copies)
  /-- FLASH_SYS (R302). A voted SYS word writes FAB_SYSRX and raises SYSFL, or cancels a sleep when it is CANCEL. -/
  | flashSys (port : Fin 12) (copies : Copies)
  /-- SYS_FLASH_SEND (R302). FAB_SYSFL.SEND broadcasts a system flash code, or is refused for code 0 or 15. -/
  | sysFlashSend (fn : Fn) (code : Nat)
  /-- CELL_RECEIVE (R305). A cell is checked by CRC and LSEQ, then accepted and delivered once in ESEQ order, or NACKed. -/
  | cellReceive (port : Fin 12) (words : List Nat)
  /-- LINK_ACK (R305). A LINK acknowledgement frees cells from the retry buffer. -/
  | linkAck (port : Fin 12) (lseq : Nat)
  /-- LINK_NACK (R305). A negative acknowledgement resends from the first unacknowledged cell. -/
  | linkNack (port : Fin 12)
  /-- RETRY_TIMEOUT (R305). 200 ns pass with no acknowledgement, so the sender resends; four resends retrain the port. -/
  | retryTimeout (port : Fin 12)
  /-- CREDIT_RETURN (R307). A CTRL cell returns a work-item credit to the sending chip. -/
  | creditReturn (site : Fin 16) (chip : Sender)
  /-- PORT_TRAIN_START (R308). A port starts a training attempt and is DOWN for routing. -/
  | portTrainStart (port : Fin 12)
  /-- RETRAIN (R308). RETRAIN starts training on the port. -/
  | retrain (fn : Fn) (port : Fin 12)
  /-- PORT_TRAIN_DONE (R309). A training attempt ends; the port is UP, retries, or retires after three failures. -/
  | portTrainDone (port : Fin 12) (ok : Bool) (flight : Nat)
  /-- HELLO_RECEIVE (R310). A HELLO admits the partner or sets DUPID. -/
  | helloReceive (port : Fin 12) (chip : Nat) (digest : Nat) (troot : Bool)
  /-- LINK_STATE_RECEIVE (R310). A flooded link-state change updates the peer table and the routes. -/
  | linkStateReceive (link : LinkState)
  /-- PORT_DOWN (R310). A port with no valid word for 2 µs goes DOWN. -/
  | portDown (port : Fin 12)
  /-- SLEEP_VOTE (R315). VOTE sends a sleep vote to the shelf root, or is refused while a site runs beats. -/
  | sleepVote (fn : Fn)
  /-- SLEEP_VOTE_RECEIVE (R315). The shelf root collects votes and sends SLEEP-AT(T) when the shelf is complete. -/
  | sleepVoteReceive (chip : Nat)
  /-- SLEEP_AT_RECEIVE (R317). A chip schedules the deep state at T, or enters it at once when T has passed. -/
  | sleepAtReceive (tm : Nat)
  /-- SLEEP_CANCEL_INSTANT (R316). At C = T − 48 ns a chip that holds a wake request sends CANCEL. -/
  | sleepCancelInstant
  /-- SLEEP_ENTER (R316). At T the lanes enter the deep state, and a chip with a wake request sends the wake tone. -/
  | sleepEnter
  /-- FAB_WAKE (R316). A PF0 WAKE write makes a wake request. -/
  | fabWake (fn : Fn)
  /-- WAKE_TONE_DETECT (R314). The squelch detector senses a wake tone; the port exits the deep state and passes the tone on. -/
  | wakeToneDetect (port : Fin 12)
  /-- SITE_RESET (R331). RESET puts the site in safe state, stops it and discards its transactions, records and pages. -/
  | siteReset (fn : Fn) (site : Fin 16)
  /-- SITE_RESET_BURSTS_ENDED (R331). Once every burst has ended, the epoch increments and zeroing begins. -/
  | siteResetBurstsEnded (site : Fin 16)
  /-- SITE_RESET_DONE (R331). The site's resources are zero and its safe-state source clears. -/
  | siteResetDone (site : Fin 16)
  /-- SCRUB_DONE (R332). The last of a site's DRAM regions is zero and SCRUB clears. -/
  | scrubDone (site : Fin 16)
  /-- RETRAIN_PASS_START (R353). Every TRINT ms SE15 is bound to a DRAM retraining pass. -/
  | retrainPassStart
  /-- RETRAIN_STEP (R353). A retraining step holds one DRAM channel out of service for at most 500 ns. -/
  | retrainStep (dc : Fin 16) (res : TrainRes)
  /-- MIRROR_REWRITE_DONE (R354). A new control-store mirror copy is written and MIR2 returns to 1. -/
  | mirrorRewriteDone
  /-- REF_LOSS (R358). The OCXO reference is lost and every PLL goes to bypass. -/
  | refLoss
  /-- REF_PRESENT (R358). The reference counts as present after 1 ms without loss. -/
  | refPresent
  /-- PLL_LOSS_OF_LOCK (R367). A PLL loses lock, switches to bypass and puts the affected sites in safe state. -/
  | pllLossOfLock (pll : Pll)
  /-- PLL_RELOCK (R367). A PLL relocks and switches back without a glitch. -/
  | pllRelock (pll : Pll)
  /-- UPDNOW (R363). UPDNOW applies pending line-PLL outputs at once, or is refused while the owner's beats run. -/
  | updnow (fn : Fn) (lp : Fin 4)
  /-- SLICE_FAIL (R377). A back-end slice fails; Clove takes it over or the channel is retired, and SUSPECT is written. -/
  | sliceFail (oct : Fin 8) (slice : Fin 9)
  /-- FRONT_END_FAIL (R23). A channel front end fails and the channel is retired. -/
  | frontEndFail (ch : Fin 64)
  /-- CLV_TAKE (R377). TAKE asks Clove to serve a channel from the next gap. -/
  | clvTake (fn : Fn) (oct : Fin 8) (pos : Fin 8)
  /-- CLV_RETRIM (R379). RETRIM moves the channel to Clove and starts a code-density pass on its slice. -/
  | clvRetrim (fn : Fn) (oct : Fin 8) (pos : Fin 8)
  /-- CLV_RETURN (R380). RETURN starts a hand-back from Clove. -/
  | clvReturn (fn : Fn) (oct : Fin 8) (pos : Fin 8)
  /-- CLV_SAVE (R383). SAVE writes the slice's live trims to its NVM field set, or is refused with REQ_REJ. -/
  | clvSave (fn : Fn) (oct : Fin 8) (pos : Fin 8)
  /-- RETRIM_DONE (R379). The retrim pass ends, the figures update and a return starts. -/
  | retrimDone (oct : Fin 8) (pass : Density)
  /-- SAVE_DONE (R383). The NVM store ends and sets SAVED or SAVE_FAIL. -/
  | saveDone (oct : Fin 8) (ok : Bool)
  /-- FAULT_SOURCE_ACTIVE (R387). A fault source becomes active, and Sumac decides safe state and sends FAULT words. -/
  | faultSourceActive (src : FaultSrc)
  /-- FAULT_SOURCE_CLEAR (R394). The last active source of a scope clears and its quiet period starts. -/
  | faultSourceClear (src : FaultSrc)
  /-- WIRE_FAULT (R386). Equal true and complement wires for two samples count as the source being active. -/
  | wireFault (src : FaultSrc)
  /-- QUIET_END (R395). The quiet period ends, and the scope either increments its recovery count or latches. -/
  | quietEnd (k : Fin 17)
  /-- RECOVERY_WRITE_DONE (R426). The recovery snapshot write completes and the scope exits safe state. -/
  | recoveryWriteDone (k : Fin 17) (ok : Bool)
  /-- FLT_CLEAR (R395). CLEAR sets RBASE to RCNT and exits a latched scope when no source is active. -/
  | fltClear (fn : Fn) (k : Fin 17)
  /-- FAULT_REPEAT (R391). Every 100 µs while a source is active, the FAULT word is sent again. -/
  | faultRepeat
  /-- REMOTE_EXPIRE (R387). 200 µs pass with no FAULT word for the site and REMOTE clears. -/
  | remoteExpire (site : Fin 16)
  /-- FLTIN_CHANGE (R393). A FLT_IN pair state is recognised after 8 ns and sets or clears FLTIN. -/
  | fltinChange (p : Bool) (n : Bool)
  /-- ILK_OPEN (R398). An interlock input is recognised open and ILK becomes active. -/
  | ilkOpen (b : Bool)
  /-- ILK_CLOSE (R398). An interlock input is recognised closed after 1 ms. -/
  | ilkClose (b : Bool)
  /-- DISCREPANCY_LATCH (R399). A disagreement lasting beyond DTIME latches DISCREPANCY. -/
  | discrepancyLatch
  /-- SELF_FAULT (R397). Sumac's duplicated copies disagree and the chip enters safe state until reset. -/
  | selfFault
  /-- CONVERSION_END (R407). A monitor conversion ends clean, over-range or discarded, and updates its input. -/
  | conversionEnd (raw : Int)
  /-- MON_SELECT (R406). A write to MON_SEL selects the input from the next conversion start. -/
  | monSelect (fn : Fn) (sel : Nat)
  /-- MON_SNAP (R409). SNAP copies the statistics of all 32 inputs and MON_SNT in one step. -/
  | monSnap (fn : Fn)
  /-- MON_CLR (R409). CLR zeroes the live statistics of every input. -/
  | monClr (fn : Fn)
  /-- PGOOD_RISE (R420). PGOOD is recognised high and the boot starts. -/
  | pgoodRise (board : Board)
  /-- PGOOD_FALL (R419). A recognised PGOOD fall resets everything except Nutmeg. -/
  | pgoodFall
  /-- DRAM_TRAINING_DONE (R352). Boot DRAM training ends and NCH is fixed. -/
  | dramTrainingDone (inService : Known)
  /-- BOOT_RUN (R420). Autorun is queued, PHASE becomes RUN and BOOT clears. -/
  | bootRun (us : Nat)
  /-- BROWN_OUT (R460). VAUX falls below the brown-out threshold, Nutmeg resets and PWR_EN goes low. -/
  | brownOut
  /-- REBOOT (R432). REBOOT resets everything but Nutmeg and boots again. -/
  | reboot (fn : Fn)
  /-- PWR_REQ_ACTIVE (R429). GO with REQ ACTIVE returns the chip to full operation. -/
  | pwrReqActive (fn : Fn)
  /-- PWR_REQ_IDLE (R429). GO with REQ IDLE enters IDLE, or sets PWR_REJ. -/
  | pwrReqIdle (fn : Fn)
  /-- PWR_REQ_DORMANT (R429). GO with REQ DORMANT casts the sleep vote. -/
  | pwrReqDormant (fn : Fn)
  /-- PWR_REQ_STANDBY (R430). GO with REQ STANDBY latches WAKEPOL and drives PWR_EN low. -/
  | pwrReqStandby (fn : Fn)
  /-- POWER_TRANSITION_DONE (R429). A power-state transition finishes and BUSY clears. -/
  | powerTransitionDone
  /-- WAKE_PIN (R430). WAKE at its active level is recognised as a wake request. -/
  | wakePin
  /-- STANDBY_HOLD_END (R430). After at least 10 ms with a wake held, Nutmeg drives PWR_EN high. -/
  | standbyHoldEnd
  /-- NVM_KEY (R424). A write to NVM_KEY advances the key sequence that arms KEYARM. -/
  | nvmKey (fn : Fn) (data : Nat)
  /-- KEYARM_EXPIRE (R424). KEYARM clears 10 µs after the key sequence. -/
  | keyarmExpire
  /-- NVM_STORE (R424). GO with CMD STORE writes NVM_PSBUF to the settings copy that is not in force. -/
  | nvmStore (fn : Fn)
  /-- NVM_PROGRAM (R423). GO with CMD PROGRAM writes a key digest into an EMPTY slot. -/
  | nvmProgram (fn : Fn) (slot : Fin 2)
  /-- NVM_REVOKE (R423). GO with CMD REVOKE revokes a VALID key slot. -/
  | nvmRevoke (fn : Fn) (slot : Fin 2)
  /-- NVM_WRITE_DONE (R422). An NVM page write completes or fails and DONE or FAIL is set. -/
  | nvmWriteDone (ok : Bool)
  /-- REGISTER_WRITE (R436). A write to a register with no row of its own is applied by its field types and ownership rules. -/
  | registerWrite (fn : Fn) (addr : Nat) (size : Nat) (data : Nat)
  /-- RING_ENABLE (R442). EN = 1 enables a ring and zeroes PROD and CONS, or sets CFGERR. -/
  | ringEnable (vf : Fin 16) (ring : Fin 4) (log2n : Nat)
  /-- RING_DISABLE (R442). EN = 0 stops the ring at the next slot boundary. -/
  | ringDisable (vf : Fin 16) (ring : Fin 4)
  /-- SUBMIT_PROD_WRITE (R443). A PROD write on the submission ring makes slots available. -/
  | submitProdWrite (vf : Fin 16) (prod : Nat)
  /-- SUBMIT_SLOT_READ (R443). The device reads slot CONS, the item arrives and CONS advances. -/
  | submitSlotRead (vf : Fin 16) (slot : List Nat) (ok : Bool)
  /-- CONS_WRITE (R442). Host software returns completion or result-page slots by writing CONS, or PTRERR is set. -/
  | consWrite (vf : Fin 16) (ring : Fin 4) (cons : Nat)
  /-- COMPLETION_WRITE (R444). A released record is written into the completion ring with CSEQ when room exists. -/
  | completionWrite (vf : Fin 16)
  /-- STREAM_IN_PROD_WRITE (R445). A PROD write on the stream-in ring makes descriptors available. -/
  | streamInProdWrite (vf : Fin 16) (prod : Nat)
  /-- STREAM_IN_DESCRIPTOR (R445). The next descriptor is checked and its data written, then CONS advances. -/
  | streamInDescriptor (vf : Fin 16) (desc : List Nat) (data : List Byte) (ok : Bool)
  /-- WINDOW_BASE_WRITE (R440). A write to HST_WINk changes the base of a VF window from its registration. -/
  | windowBaseWrite (vf : Fin 16) (k : Fin 3) (base : Nat)
  /-- EVMSK_WRITE (R446). Unmasking an event bit that is already set sends its MSI-X message. -/
  | evmskWrite (fn : Fn) (mask : Nat)
  /-- VF_FLR (R440). A VF Function Level Reset resets its host register group and MSI-X table, except CSEQ. -/
  | vfFlr (vf : Fin 16)
  /-- PERST (R464). PE_PERST_N low resets the endpoint and every host register group. -/
  | perst
  /-- TRG_IN_EDGE (R465). A TRGn input level is registered at a 1 ns tick. -/
  | trgInEdge (ball : Fin 16) (level : Bool)
  /-- JTAG_INSTRUCTION (R470). A TAP instruction is loaded and acts, or acts as BYPASS outside RESET, FAILED or NOKEY. -/
  | jtagInstruction (ins : JtagIns)
  /-- TDC_STOP_DONE (R232). The last update of a stopped TDC run is in the accumulators, at most 200 ns after the stop, and ACTIVE clears. -/
  | tdcStopDone (ch : Fin 64)
  /-- DEEP_STATE_EXIT_DONE (R314). A Tiltik port finishes its exit from the deep state and is UP again, so held cells flow, a sleeping parent resumes exchanges in ACQ, and DORMANT exit timing starts. -/
  | deepStateExitDone (port : Fin 12)
  /-- CODE_VIOLATION (R298). A Tiltik receiver finds a stuffed bit equal to its run that does not start a comma, counts it in FAB_PCVk and discards the block up to the next comma. -/
  | codeViolation (p : PortLine)
  /-- FLASH_RESERVED_FTYPE (R302). A voted FLASH word with FTYPE 5 to 7 arrives and is forwarded under R300, and no chip acts on it or counts it. -/
  | flashReservedFtype (port : Fin 12) (copies : Copies)
  /-- VIO_VALID (R404). VIO becomes valid, so the monitor converter begins its gapless conversions and the ERR pair is driven, held at FAULT by BOOT. -/
  | vioValid
  /-- VAUX_RISE (R460). VAUX rises above the brown-out threshold and Nutmeg leaves reset, so the next boot reports COLD. -/
  | vauxRise
  deriving DecidableEq, Repr

end Sys2Proof
end

