-- ==== Sys2Proof/Decode.lean ====
section
/-! DEFINITION. Words of commands. The table of operations and events gives no row any bits, and the manual gives the
block no command words, so no word spells a command. -/

namespace Sys2Proof

/-- The command that a word of `nbits` bits spells by the table: none, since no row of the table has bits. -/
def decodeTableWord (_nbits _w : Nat) : Option Instr := none

end Sys2Proof
end

