-- ==== Sys2Proof/Machine/Crc.lean ====
section
/-! DEFINITION. The reflected CRCs of R174 (frames) and R413 (boot image). -/

namespace Sys2Proof.Machine

/-- `n` steps of a reflected CRC register with reflected polynomial `p`. -/
def crcShift (p : Nat) : Nat → Nat → Nat
  | 0, c => c
  | n + 1, c => crcShift p n (if c % 2 = 1 then (c / 2) ^^^ p else c / 2)

/-- A reflected CRC over bytes from register `c`. -/
def crcRun (p : Nat) (l : List Byte) (c : Nat) : Nat := l.foldl (fun a b => crcShift p 8 (a ^^^ b.toNat)) c

/-- A reflected CRC of width `w`: it starts with all ones and is complemented at the end (R174). -/
def crcOf (w p : Nat) (l : List Byte) : Nat := crcRun p l (2 ^ w - 1) ^^^ (2 ^ w - 1)

/-- CRC-32, polynomial 0x04C1_1DB7. -/
def crc32 (l : List Byte) : Nat := crcOf 32 0xEDB88320 l
/-- CRC-32C, polynomial 0x1EDC_6F41. -/
def crc32c (l : List Byte) : Nat := crcOf 32 0x82F63B78 l
/-- CRC-16, polynomial 0x1021. -/
def crc16 (l : List Byte) : Nat := crcOf 16 0x8408 l

/-- The CRC of code `k` of R174: its length in bytes and its value. -/
def frameCrc (k : Nat) (l : List Byte) : Nat × Nat :=
  match k with
  | 1 => (4, crc32 l)
  | 2 => (4, crc32c l)
  | 3 => (2, crc16 l)
  | _ => (0, 0)

/-- Length in bytes of the CRC of code `k`. -/
def crcLen (k : Nat) : Nat := match k with | 1 => 4 | 2 => 4 | 3 => 2 | _ => 0

end Sys2Proof.Machine
end

