-- ==== Sys2Proof/Config.lean ====
section
/-! DEFINITION. What the manual leaves open: uninterpreted constants. No statement can see a value of any of them. -/

namespace Sys2Proof.Config

/-- Where the manual says "either outcome can happen": the outcome of the draw numbered `n` (log entry 5). -/
opaque coin : Nat → Bool

/-- A value the manual does not state: the draw numbered `n` (log entry 5). -/
opaque value : Nat → Nat

/-- How much more than 128 ns ahead a beacon's named tick lies, in ticks (R15 gives only the lower bound; log entry 6). -/
opaque beaconLead : Nat → Nat

/-- SHA-384 (R414): named by the manual, not defined by it (log entry 7). -/
opaque sha384 : List Byte → List Byte

/-- Whether a 96-byte ECDSA P-384 signature (r, s) of a digest checks under a 97-byte key (R414; log entry 7). -/
opaque ecdsaP384 : List Byte → List Byte → List Byte → Bool

/-- R185, R38: what the slicer decides, 0 to 3 (NRZ: its lowest bit alone counts), from the equalised sample in 1/64 codes about the
middle code, D1 of the DFE in force (0 without it) and the decision before it; the manual states no decision level. The first argument
says PAM4 (log entry 50). -/
opaque slicer : Bool → Int → Int → Nat → Nat

/-- R38: the CTLE's output for an input level at a peaking of 1 to 15 dB, draw number `n`; the manual gives the peaking at one
frequency only (log entry 50). -/
opaque ctle : Nat → Int → Nat → Int

/-- Where in its block a port's line stands when the out log holds `n` entries: words of the block sent, and the run of equal bits so
far; the manual gives the payload of no idle word (log entry 51). -/
opaque linePos : Nat → Nat → Nat

/-- The payload of the LINK word that acknowledges (true) or negatively acknowledges an LSEQ (R296, R305); the manual gives no layout (log
entry 51). -/
opaque linkWord : Bool → Nat → Nat

/-- The DRAM channel of the first mirror copy of store word `n` (engine × 8,192 + address); the manual gives its second copy's relative to it
(R341; log entry 54). -/
opaque mirrorDc : Nat → Nat

/-- Word `k` of an NVM structure of kind 1 (intent record), 2 (snapshot), 3 (key slot) or 4 (trim set) with its contents; the manual gives no
layout (R421, R422, R426; log entry 68). -/
opaque nvmWord : Nat → List Nat → Nat → Nat

/-- Value `k` of a factory trim set with these bytes; the manual gives no layout (R371, R421; log entry 68). -/
opaque trimField : List Byte → Nat → Nat

/-- Where in its spread triangle a line PLL stands at system time 0, in FMOD × 2^-32 of 0.125 ps, past whole periods; the manual does not
say (R366; log entry 58). -/
opaque sscPhase : Nat → Nat

/-- TYPE and payload word `i` of a message of a kind with its fields (R304); the manual gives neither (log entry 51). -/
opaque msgType : List Nat → Nat
opaque msgWord : List Nat → Nat → Nat

/-- Tap `i` of the LMS adaptation of R41 at update number `n`; the manual gives no rule for it (log entry 5). -/
opaque lmsCoef : Nat → Nat → Nat

end Sys2Proof.Config
end

