-- ==== Sys2Proof/Machine/Regs.lean ====
section
/-! DEFINITION. The register map (R436, R437): every field of every register the chapters' tables give, with its bits,
type and reset value, and every register with its block address, its index strides, its LIVE address and who may write
and read it. One field is one entry of a sparse table keyed by the field and the register's index, so reserved bits read 0 (R6). -/

namespace Sys2Proof.Machine

/-- Register field types (R5). -/
inductive FType where
  | rw | ro | w1c | wsc | rwl | sh
  deriving DecidableEq, Repr

/-- A register field: its number in the model's tables, its lowest bit, its width, its type, and its reset value (`tab`
lists reset values that differ by index). -/
structure Fld where
  id : Nat
  lo : Nat
  width : Nat
  ty : FType
  rst : Nat
  tab : List Nat
  deriving DecidableEq, Repr

/-- The reset value of instance `i`. -/
def Fld.reset (f : Fld) (i : Nat) : Nat := f.tab.getD i f.rst

/-- The key of instance `i` of a field in a field table. -/
def Fld.key (f : Fld) (i : Nat) : Nat := f.id * 1048576 + i

/-- Who may write a register: the class its chapter gives. -/
inductive WAcc where
  | no | pf | chan | chanpf | chants | lane | oct8 | oct0 | octany | site | sitepf | fn | fnoct | vs | acq | lp | lp1
  | hst | hst1 | hst3 | scope
  deriving DecidableEq, Repr

/-- Who may read a register (PF0 reads all of them). -/
inductive RAcc where
  | pf | all | chan | chants | lane | oct8 | octany | octslice | site | fn | fnoct | vs | acq | lp | lp4 | hst | hst1 | hst3
  | scope | eng | dspeng
  deriving DecidableEq, Repr

/-- A register: name, PF0 address of instance 0, (stride, count) of each index from the outermost, whether every
function has its own copy, the distance to its LIVE address, access classes and fields. -/
structure RegDesc where
  name : String
  base : Nat
  dims : List (Nat × Nat)
  perFn : Bool
  live : Option Nat
  wr : WAcc
  rd : RAcc
  flds : List Fld
  deriving DecidableEq, Repr

namespace F

/-- OCT_PERS.PERS (R29). -/
def OCT_PERS_PERS : Fld := ⟨0, 0, 2, .sh, 0x0, []⟩
/-- OCT_OSTAT.PERS_REJ (R32). -/
def OCT_OSTAT_PERS_REJ : Fld := ⟨1, 0, 1, .w1c, 0x0, []⟩
/-- OCT_OSTAT.CLVPOS (R32). -/
def OCT_OSTAT_CLVPOS : Fld := ⟨2, 1, 3, .ro, 0x0, []⟩
/-- OCT_OSTAT.CLVBUSY (R32). -/
def OCT_OSTAT_CLVBUSY : Fld := ⟨3, 4, 1, .ro, 0x0, []⟩
/-- OCT_TXAMP.AMP (R34). -/
def OCT_TXAMP_AMP : Fld := ⟨4, 0, 10, .sh, 0x140, []⟩
/-- OCT_TXFFE0.PRE2 (R35). -/
def OCT_TXFFE0_PRE2 : Fld := ⟨5, 0, 8, .sh, 0x0, []⟩
/-- OCT_TXFFE0.PRE1 (R35). -/
def OCT_TXFFE0_PRE1 : Fld := ⟨6, 8, 8, .sh, 0x0, []⟩
/-- OCT_TXFFE0.MAIN (R35). -/
def OCT_TXFFE0_MAIN : Fld := ⟨7, 16, 8, .sh, 0x40, []⟩
/-- OCT_TXFFE0.POST1 (R35). -/
def OCT_TXFFE0_POST1 : Fld := ⟨8, 24, 8, .sh, 0x0, []⟩
/-- OCT_TXFFE1.POST2 (R35). -/
def OCT_TXFFE1_POST2 : Fld := ⟨9, 0, 8, .sh, 0x0, []⟩
/-- OCT_TXFFE1.POST3 (R35). -/
def OCT_TXFFE1_POST3 : Fld := ⟨10, 8, 8, .sh, 0x0, []⟩
/-- OCT_RXCFG.CTLE (R38). -/
def OCT_RXCFG_CTLE : Fld := ⟨11, 0, 4, .sh, 0x0, []⟩
/-- OCT_RXCFG.FS (R38). -/
def OCT_RXCFG_FS : Fld := ⟨12, 4, 2, .sh, 0x0, []⟩
/-- OCT_RXCFG.ACM (R38). -/
def OCT_RXCFG_ACM : Fld := ⟨13, 6, 1, .sh, 0x0, []⟩
/-- OCT_RXCFG.FFEEN (R38). -/
def OCT_RXCFG_FFEEN : Fld := ⟨14, 8, 1, .sh, 0x0, []⟩
/-- OCT_RXCFG.DFEEN (R38). -/
def OCT_RXCFG_DFEEN : Fld := ⟨15, 9, 1, .sh, 0x0, []⟩
/-- OCT_RXCFG.ADAPT (R38). -/
def OCT_RXCFG_ADAPT : Fld := ⟨16, 10, 1, .sh, 0x0, []⟩
/-- OCT_THR.THR (R42). -/
def OCT_THR_THR : Fld := ⟨17, 0, 11, .sh, 0x0, []⟩
/-- OCT_THR.SLOPE (R42). -/
def OCT_THR_SLOPE : Fld := ⟨18, 11, 2, .sh, 0x0, []⟩
/-- OCT_THR.HYST (R42). -/
def OCT_THR_HYST : Fld := ⟨19, 16, 4, .sh, 0x0, []⟩
/-- OCT_LBCFG.NEAR (R46). -/
def OCT_LBCFG_NEAR : Fld := ⟨20, 0, 1, .sh, 0x0, []⟩
/-- OCT_RXCOEF0.F0 (R40). -/
def OCT_RXCOEF0_F0 : Fld := ⟨21, 0, 8, .sh, 0x0, []⟩
/-- OCT_RXCOEF0.F1 (R40). -/
def OCT_RXCOEF0_F1 : Fld := ⟨22, 8, 8, .sh, 0x0, []⟩
/-- OCT_RXCOEF0.F2 (R40). -/
def OCT_RXCOEF0_F2 : Fld := ⟨23, 16, 8, .sh, 0x0, []⟩
/-- OCT_RXCOEF0.F3 (R40). -/
def OCT_RXCOEF0_F3 : Fld := ⟨24, 24, 8, .sh, 0x40, []⟩
/-- OCT_RXCOEF1.F4 (R40). -/
def OCT_RXCOEF1_F4 : Fld := ⟨25, 0, 8, .sh, 0x0, []⟩
/-- OCT_RXCOEF1.F5 (R40). -/
def OCT_RXCOEF1_F5 : Fld := ⟨26, 8, 8, .sh, 0x0, []⟩
/-- OCT_RXCOEF1.F6 (R40). -/
def OCT_RXCOEF1_F6 : Fld := ⟨27, 16, 8, .sh, 0x0, []⟩
/-- OCT_RXCOEF1.F7 (R40). -/
def OCT_RXCOEF1_F7 : Fld := ⟨28, 24, 8, .sh, 0x0, []⟩
/-- OCT_RXCOEF2.F8 (R40). -/
def OCT_RXCOEF2_F8 : Fld := ⟨29, 0, 8, .sh, 0x0, []⟩
/-- OCT_RXCOEF2.F9 (R40). -/
def OCT_RXCOEF2_F9 : Fld := ⟨30, 8, 8, .sh, 0x0, []⟩
/-- OCT_RXCOEF2.F10 (R40). -/
def OCT_RXCOEF2_F10 : Fld := ⟨31, 16, 8, .sh, 0x0, []⟩
/-- OCT_RXCOEF2.F11 (R40). -/
def OCT_RXCOEF2_F11 : Fld := ⟨32, 24, 8, .sh, 0x0, []⟩
/-- OCT_RXCOEF3.D1 (R40). -/
def OCT_RXCOEF3_D1 : Fld := ⟨33, 0, 8, .sh, 0x0, []⟩
/-- OCT_FESTAT.CLAMP (R50). -/
def OCT_FESTAT_CLAMP : Fld := ⟨34, 0, 1, .w1c, 0x0, []⟩
/-- OCT_FESTAT.FFE_REJ (R50). -/
def OCT_FESTAT_FFE_REJ : Fld := ⟨35, 1, 1, .w1c, 0x0, []⟩
/-- OCT_FESTAT.CFG_REJ (R50). -/
def OCT_FESTAT_CFG_REJ : Fld := ⟨36, 2, 1, .w1c, 0x0, []⟩
/-- OCT_FESTAT.IDLE (R50). -/
def OCT_FESTAT_IDLE : Fld := ⟨37, 3, 1, .ro, 0x1, []⟩
/-- OCT_FESTAT.ONCLV (R50). -/
def OCT_FESTAT_ONCLV : Fld := ⟨38, 4, 1, .ro, 0x0, []⟩
/-- OCT_FESTAT.RETIRED (R50). -/
def OCT_FESTAT_RETIRED : Fld := ⟨39, 5, 1, .ro, 0x0, []⟩
/-- OCT_FESTAT.SIGDET (R50). -/
def OCT_FESTAT_SIGDET : Fld := ⟨40, 6, 1, .ro, 0x0, []⟩
/-- OCT_TSPER.PER (R57). -/
def OCT_TSPER_PER : Fld := ⟨41, 0, 24, .sh, 0x1f40, []⟩
/-- OCT_TSPER.FMT (R57). -/
def OCT_TSPER_FMT : Fld := ⟨42, 24, 3, .sh, 0x0, []⟩
/-- OCT_TSPER.SMODE (R57). -/
def OCT_TSPER_SMODE : Fld := ⟨43, 27, 1, .sh, 0x0, []⟩
/-- OCT_TSDA.DA (R57). -/
def OCT_TSDA_DA : Fld := ⟨44, 0, 24, .sh, 0x0, []⟩
/-- OCT_TSDB.DB (R57). -/
def OCT_TSDB_DB : Fld := ⟨45, 0, 24, .sh, 0x0, []⟩
/-- OCT_TSDC.DC (R57). -/
def OCT_TSDC_DC : Fld := ⟨46, 0, 24, .sh, 0x0, []⟩
/-- OCT_TSSA.SA (R57). -/
def OCT_TSSA_SA : Fld := ⟨47, 0, 24, .sh, 0xfa0, []⟩
/-- OCT_TSSB.SB (R57). -/
def OCT_TSSB_SB : Fld := ⟨48, 0, 24, .sh, 0x1770, []⟩
/-- OCT_BBPAGE.PAGE (R71). -/
def OCT_BBPAGE_PAGE : Fld := ⟨49, 0, 6, .rw, 0x0, []⟩
/-- OCT_FETCH.ROT (R74). -/
def OCT_FETCH_ROT : Fld := ⟨50, 0, 3, .sh, 0x0, []⟩
/-- OCT_FETCH.REV (R74). -/
def OCT_FETCH_REV : Fld := ⟨51, 3, 1, .sh, 0x0, []⟩
/-- MEM_VSBASE_LO.BASE (R78). -/
def MEM_VSBASE_LO_BASE : Fld := ⟨52, 0, 32, .rw, 0x0, []⟩
/-- MEM_VSBASE_HI.BASE (R78). -/
def MEM_VSBASE_HI_BASE : Fld := ⟨53, 0, 4, .rw, 0x0, []⟩
/-- MEM_VSLEN.LEN (R78). -/
def MEM_VSLEN_LEN : Fld := ⟨54, 0, 32, .rw, 0x0, []⟩
/-- MEM_VSCFG.OCTM (R78). -/
def MEM_VSCFG_OCTM : Fld := ⟨55, 0, 8, .rw, 0x0, []⟩
/-- MEM_VSCFG.FDEPTH (R78). -/
def MEM_VSCFG_FDEPTH : Fld := ⟨56, 8, 9, .rw, 0x0, []⟩
/-- MEM_VSFBASE.FBASE (R78). -/
def MEM_VSFBASE_FBASE : Fld := ⟨57, 0, 22, .rw, 0x0, []⟩
/-- MEM_VSRATE.MINPER (R78). -/
def MEM_VSRATE_MINPER : Fld := ⟨58, 0, 24, .rw, 0x7d0, []⟩
/-- MEM_VSCHM_LO.CHM (R78). -/
def MEM_VSCHM_LO_CHM : Fld := ⟨59, 0, 32, .rw, 0x0, []⟩
/-- MEM_VSCHM_HI.CHM (R78). -/
def MEM_VSCHM_HI_CHM : Fld := ⟨60, 0, 32, .rw, 0x0, []⟩
/-- MEM_VSCTL.START (R78). -/
def MEM_VSCTL_START : Fld := ⟨61, 0, 1, .wsc, 0x0, []⟩
/-- MEM_VSCTL.STOP (R78). -/
def MEM_VSCTL_STOP : Fld := ⟨62, 1, 1, .wsc, 0x0, []⟩
/-- MEM_VSSTAT.STATE (R78). -/
def MEM_VSSTAT_STATE : Fld := ⟨63, 0, 2, .ro, 0x0, []⟩
/-- MEM_VSSTAT.ADM_REJ (R78). -/
def MEM_VSSTAT_ADM_REJ : Fld := ⟨64, 2, 1, .w1c, 0x0, []⟩
/-- MEM_VSSTAT.UFL (R78). -/
def MEM_VSSTAT_UFL : Fld := ⟨65, 3, 1, .w1c, 0x0, []⟩
/-- MEM_VSSTAT.RATE_EXC (R78). -/
def MEM_VSSTAT_RATE_EXC : Fld := ⟨66, 4, 1, .w1c, 0x0, []⟩
/-- MEM_VSLTOL.LTOL (R78). -/
def MEM_VSLTOL_LTOL : Fld := ⟨67, 0, 32, .ro, 0x0, []⟩
/-- MEM_VSUFCNT.UFCNT (R78). -/
def MEM_VSUFCNT_UFCNT : Fld := ⟨68, 0, 32, .ro, 0x0, []⟩
/-- OCT_VSTAT.TS_REJ (R84). -/
def OCT_VSTAT_TS_REJ : Fld := ⟨69, 0, 1, .w1c, 0x0, []⟩
/-- OCT_VSTAT.ROT_REJ (R84). -/
def OCT_VSTAT_ROT_REJ : Fld := ⟨70, 1, 1, .w1c, 0x0, []⟩
/-- OCT_VSTAT.EDGE_DROP (R84). -/
def OCT_VSTAT_EDGE_DROP : Fld := ⟨71, 2, 1, .w1c, 0x0, []⟩
/-- OCT_VSTAT.STRB_SKIP (R84). -/
def OCT_VSTAT_STRB_SKIP : Fld := ⟨72, 3, 1, .w1c, 0x0, []⟩
/-- OCT_VSTAT.TSREJ_SET (R84). -/
def OCT_VSTAT_TSREJ_SET : Fld := ⟨73, 8, 6, .ro, 0x0, []⟩
/-- OCT_VSTAT.TSREJ_POS (R84). -/
def OCT_VSTAT_TSREJ_POS : Fld := ⟨74, 16, 3, .ro, 0x0, []⟩
/-- OCT_EDCNT.EDCNT (R84). -/
def OCT_EDCNT_EDCNT : Fld := ⟨75, 0, 32, .ro, 0x0, []⟩
/-- OCT_SSCNT.SSCNT (R84). -/
def OCT_SSCNT_SSCNT : Fld := ⟨76, 0, 32, .ro, 0x0, []⟩
/-- SITE_STEP.LOG2 (R98). -/
def SITE_STEP_LOG2 : Fld := ⟨77, 0, 3, .rwl, 0x3, []⟩
/-- SITE_TO.TO (R98). -/
def SITE_TO_TO : Fld := ⟨78, 0, 32, .rwl, 0xffffffff, []⟩
/-- SITE_CHG_LO.MASK (R98). -/
def SITE_CHG_LO_MASK : Fld := ⟨79, 0, 32, .rwl, 0x0, []⟩
/-- SITE_CHG_HI.MASK (R98). -/
def SITE_CHG_HI_MASK : Fld := ⟨80, 0, 32, .rwl, 0x0, []⟩
/-- SEQ_UCODE_VER.UVER (R112). -/
def SEQ_UCODE_VER_UVER : Fld := ⟨81, 0, 16, .ro, 0x0, []⟩
/-- SEQ_UCODE_VER.SECT (R112). -/
def SEQ_UCODE_VER_SECT : Fld := ⟨82, 16, 8, .ro, 0x0, []⟩
/-- SEQ_UCODE_VER.COPY (R112). -/
def SEQ_UCODE_VER_COPY : Fld := ⟨83, 24, 1, .ro, 0x0, []⟩
/-- SEQ_UCODE_VER.KSLOT (R112). -/
def SEQ_UCODE_VER_KSLOT : Fld := ⟨84, 25, 1, .ro, 0x0, []⟩
/-- SEQ_UCODE_VER.RELOADED (R112). -/
def SEQ_UCODE_VER_RELOADED : Fld := ⟨85, 26, 1, .ro, 0x0, []⟩
/-- SEQ_UCODE_VER.VALID (R112). -/
def SEQ_UCODE_VER_VALID : Fld := ⟨86, 27, 1, .ro, 0x0, []⟩
/-- SEQ_UCODE_DIG.DIG (R111). -/
def SEQ_UCODE_DIG_DIG : Fld := ⟨87, 0, 32, .ro, 0x0, []⟩
/-- SE_STATE.STATE (R113). -/
def SE_STATE_STATE : Fld := ⟨88, 0, 3, .ro, 0x0, []⟩
/-- SE_STATE.SITEV (R113). -/
def SE_STATE_SITEV : Fld := ⟨89, 7, 1, .ro, 0x0, []⟩
/-- SE_STATE.SITE (R113). -/
def SE_STATE_SITE : Fld := ⟨90, 8, 4, .ro, 0x0, []⟩
/-- SE_STATE.PC (R113). -/
def SE_STATE_PC : Fld := ⟨91, 16, 13, .ro, 0x0, []⟩
/-- SE_CTL.RELSEC (R114). -/
def SE_CTL_RELSEC : Fld := ⟨92, 0, 8, .rw, 0x0, []⟩
/-- SE_CTL.RELCOPY (R114). -/
def SE_CTL_RELCOPY : Fld := ⟨93, 8, 1, .rw, 0x0, []⟩
/-- SE_CTL.RELOAD (R114). -/
def SE_CTL_RELOAD : Fld := ⟨94, 16, 1, .wsc, 0x0, []⟩
/-- SE_STAT.RLD_DONE (R113). -/
def SE_STAT_RLD_DONE : Fld := ⟨95, 0, 1, .w1c, 0x0, []⟩
/-- SE_STAT.RLD_FAIL (R113). -/
def SE_STAT_RLD_FAIL : Fld := ⟨96, 1, 1, .w1c, 0x0, []⟩
/-- SE_STAT.RLD_REJ (R113). -/
def SE_STAT_RLD_REJ : Fld := ⟨97, 2, 1, .w1c, 0x0, []⟩
/-- SE_STAT.PACEMIS (R113). -/
def SE_STAT_PACEMIS : Fld := ⟨98, 3, 1, .w1c, 0x0, []⟩
/-- SE_STAT.MODE_REJ (R113). -/
def SE_STAT_MODE_REJ : Fld := ⟨99, 4, 1, .w1c, 0x0, []⟩
/-- SE_STAT.MIRSTR (R113). -/
def SE_STAT_MIRSTR : Fld := ⟨100, 5, 1, .w1c, 0x0, []⟩
/-- SE_STAT.CHGMSK (R113). -/
def SE_STAT_CHGMSK : Fld := ⟨101, 6, 1, .w1c, 0x0, []⟩
/-- SE_PARCNT.CNT (R111). -/
def SE_PARCNT_CNT : Fld := ⟨102, 0, 16, .ro, 0x0, []⟩
/-- SE_CSADDR.ADDR (R111). -/
def SE_CSADDR_ADDR : Fld := ⟨103, 0, 13, .rw, 0x0, []⟩
/-- SE_VA.ROW (R100). -/
def SE_VA_ROW : Fld := ⟨104, 0, 22, .ro, 0x0, []⟩
/-- SE_VA.STR (R100). -/
def SE_VA_STR : Fld := ⟨105, 22, 1, .ro, 0x0, []⟩
/-- SE_VA.SLOT (R100). -/
def SE_VA_SLOT : Fld := ⟨106, 23, 2, .ro, 0x0, []⟩
/-- SE_LC.LC (R104). -/
def SE_LC_LC : Fld := ⟨107, 0, 32, .ro, 0x0, []⟩
/-- SE_SP.SP (R111). -/
def SE_SP_SP : Fld := ⟨108, 0, 4, .ro, 0x0, []⟩
/-- SE_STK.ADDR (R111). -/
def SE_STK_ADDR : Fld := ⟨109, 0, 13, .ro, 0x0, []⟩
/-- SE_PAR.PAR (R111). -/
def SE_PAR_PAR : Fld := ⟨110, 0, 32, .ro, 0x0, []⟩
/-- SE_EXC.CODE (R140). -/
def SE_EXC_CODE : Fld := ⟨111, 0, 4, .ro, 0x0, []⟩
/-- SE_EXC.CAUSE (R140). -/
def SE_EXC_CAUSE : Fld := ⟨112, 4, 4, .ro, 0x0, []⟩
/-- SE_EXC.TRAPN (R140). -/
def SE_EXC_TRAPN : Fld := ⟨113, 8, 3, .ro, 0x0, []⟩
/-- SE_EXC.DS (R140). -/
def SE_EXC_DS : Fld := ⟨114, 11, 1, .ro, 0x0, []⟩
/-- SE_EXC.MS (R140). -/
def SE_EXC_MS : Fld := ⟨115, 12, 1, .ro, 0x0, []⟩
/-- SE_EXC.DBL (R140). -/
def SE_EXC_DBL : Fld := ⟨116, 13, 1, .ro, 0x0, []⟩
/-- SE_EXC.VALID (R140). -/
def SE_EXC_VALID : Fld := ⟨117, 14, 1, .ro, 0x0, []⟩
/-- SE_EXC.EPC (R140). -/
def SE_EXC_EPC : Fld := ⟨118, 16, 13, .ro, 0x0, []⟩
/-- SE_EXCB.BTGT (R140). -/
def SE_EXCB_BTGT : Fld := ⟨119, 0, 13, .ro, 0x0, []⟩
/-- SE_EXCB.ESP (R140). -/
def SE_EXCB_ESP : Fld := ⟨120, 16, 4, .ro, 0x0, []⟩
/-- SE_EXCB.PSAFE (R140). -/
def SE_EXCB_PSAFE : Fld := ⟨121, 20, 1, .ro, 0x0, []⟩
/-- SE_EXCB.PFAB (R140). -/
def SE_EXCB_PFAB : Fld := ⟨122, 21, 1, .ro, 0x0, []⟩
/-- SE_EXCB.PPRE (R140). -/
def SE_EXCB_PPRE : Fld := ⟨123, 22, 1, .ro, 0x0, []⟩
/-- SE_EXCT.TIME (R140). -/
def SE_EXCT_TIME : Fld := ⟨124, 0, 32, .ro, 0x0, []⟩
/-- SE_EXCF.BEAT (R140). -/
def SE_EXCF_BEAT : Fld := ⟨125, 0, 32, .ro, 0x0, []⟩
/-- SE_EXCV.VIDX (R140). -/
def SE_EXCV_VIDX : Fld := ⟨126, 0, 32, .ro, 0x0, []⟩
/-- SE_EXCCNT.CNT (R140). -/
def SE_EXCCNT_CNT : Fld := ⟨127, 0, 16, .ro, 0x0, []⟩
/-- SE_MCREC.MCADDR (R140). -/
def SE_MCREC_MCADDR : Fld := ⟨128, 0, 13, .ro, 0x0, []⟩
/-- SE_MCREC.MCLAST (R140). -/
def SE_MCREC_MCLAST : Fld := ⟨129, 16, 1, .ro, 0x0, []⟩
/-- SE_MCSLIP.SLIP (R140). -/
def SE_MCSLIP_SLIP : Fld := ⟨130, 0, 32, .ro, 0x0, []⟩
/-- OCT_SEGBLK.BLK (R149). -/
def OCT_SEGBLK_BLK : Fld := ⟨131, 0, 13, .rw, 0x0, []⟩
/-- OCT_SEGLEN.NGR (R149). -/
def OCT_SEGLEN_NGR : Fld := ⟨132, 0, 13, .rw, 0x0, []⟩
/-- OCT_SEGCTL.NEXT (R149). -/
def OCT_SEGCTL_NEXT : Fld := ⟨133, 0, 12, .rw, 0x0, []⟩
/-- OCT_SEGCTL.END (R149). -/
def OCT_SEGCTL_END : Fld := ⟨134, 12, 1, .rw, 0x0, []⟩
/-- OCT_SEGCTL.RING (R149). -/
def OCT_SEGCTL_RING : Fld := ⟨135, 13, 1, .rw, 0x0, []⟩
/-- OCT_SEGCTL.TRG (R149). -/
def OCT_SEGCTL_TRG : Fld := ⟨136, 16, 4, .rw, 0x0, []⟩
/-- OCT_SEGCTL.FLASH (R149). -/
def OCT_SEGCTL_FLASH : Fld := ⟨137, 20, 4, .rw, 0x0, []⟩
/-- OCT_SEGCTL.RPT (R149). -/
def OCT_SEGCTL_RPT : Fld := ⟨138, 24, 8, .rw, 0x0, []⟩
/-- OCT_SEGVAL.VALID (R149). -/
def OCT_SEGVAL_VALID : Fld := ⟨139, 0, 1, .rw, 0x0, []⟩
/-- OCT_WFCFG.SDIV (R161). -/
def OCT_WFCFG_SDIV : Fld := ⟨140, 0, 3, .sh, 0x0, []⟩
/-- OCT_WFCFG.IDLEC (R161). -/
def OCT_WFCFG_IDLEC : Fld := ⟨141, 8, 8, .sh, 0x80, []⟩
/-- OCT_WFCFG.IDLEEI (R161). -/
def OCT_WFCFG_IDLEEI : Fld := ⟨142, 16, 1, .sh, 0x1, []⟩
/-- OCT_WFRING.RBASE (R161). -/
def OCT_WFRING_RBASE : Fld := ⟨143, 0, 13, .rw, 0x0, []⟩
/-- OCT_WFRING.RSIZE (R161). -/
def OCT_WFRING_RSIZE : Fld := ⟨144, 16, 13, .rw, 0x0, []⟩
/-- OCT_WFSTAT.RUN (R161). -/
def OCT_WFSTAT_RUN : Fld := ⟨145, 0, 1, .ro, 0x0, []⟩
/-- OCT_WFSTAT.UNDERRUN (R161). -/
def OCT_WFSTAT_UNDERRUN : Fld := ⟨146, 1, 1, .w1c, 0x0, []⟩
/-- OCT_WFSTAT.SEGERR (R161). -/
def OCT_WFSTAT_SEGERR : Fld := ⟨147, 2, 1, .w1c, 0x0, []⟩
/-- OCT_WFSTAT.TRGLATE (R161). -/
def OCT_WFSTAT_TRGLATE : Fld := ⟨148, 3, 1, .w1c, 0x0, []⟩
/-- OCT_WFSTAT.CFG_REJ (R161). -/
def OCT_WFSTAT_CFG_REJ : Fld := ⟨149, 4, 1, .w1c, 0x0, []⟩
/-- OCT_WFSTAT.CUR (R161). -/
def OCT_WFSTAT_CUR : Fld := ⟨150, 16, 12, .ro, 0x0, []⟩
/-- OCT_WFLOST.LOST (R161). -/
def OCT_WFLOST_LOST : Fld := ⟨151, 0, 32, .ro, 0x0, []⟩
/-- OCT_WFTRGCNT.TRGCNT (R161). -/
def OCT_WFTRGCNT_TRGCNT : Fld := ⟨152, 0, 32, .ro, 0x0, []⟩
/-- OCT_WFRPTR.RPTR (R161). -/
def OCT_WFRPTR_RPTR : Fld := ⟨153, 0, 32, .ro, 0x0, []⟩
/-- OCT_WFWPTR.WPTR (R161). -/
def OCT_WFWPTR_WPTR : Fld := ⟨154, 0, 32, .ro, 0x0, []⟩
/-- OCT_WFERRENT.ENT (R161). -/
def OCT_WFERRENT_ENT : Fld := ⟨155, 0, 12, .ro, 0x0, []⟩
/-- OCT_PCFG.LDIV (R166). -/
def OCT_PCFG_LDIV : Fld := ⟨156, 0, 3, .sh, 0x0, []⟩
/-- OCT_PSTAT.CFG_REJ (R166). -/
def OCT_PSTAT_CFG_REJ : Fld := ⟨157, 0, 1, .w1c, 0x0, []⟩
/-- OCT_PSTAT.RATEBLK (R166). -/
def OCT_PSTAT_RATEBLK : Fld := ⟨158, 8, 8, .ro, 0x0, []⟩
/-- OCT_LCFG.LINE (R168). -/
def OCT_LCFG_LINE : Fld := ⟨159, 0, 1, .sh, 0x0, []⟩
/-- OCT_LCFG.PREC (R168). -/
def OCT_LCFG_PREC : Fld := ⟨160, 1, 1, .sh, 0x0, []⟩
/-- OCT_LCFG.TXINV (R168). -/
def OCT_LCFG_TXINV : Fld := ⟨161, 2, 1, .sh, 0x0, []⟩
/-- OCT_LCFG.RXINV (R168). -/
def OCT_LCFG_RXINV : Fld := ⟨162, 3, 1, .sh, 0x0, []⟩
/-- OCT_LCFG.TXSRC (R168). -/
def OCT_LCFG_TXSRC : Fld := ⟨163, 4, 2, .sh, 0x0, []⟩
/-- OCT_LCFG.POLY (R168). -/
def OCT_LCFG_POLY : Fld := ⟨164, 6, 3, .sh, 0x4, []⟩
/-- OCT_LCFG.CHKEN (R168). -/
def OCT_LCFG_CHKEN : Fld := ⟨165, 9, 1, .sh, 0x0, []⟩
/-- OCT_LCFG.RXFRM (R168). -/
def OCT_LCFG_RXFRM : Fld := ⟨166, 10, 1, .sh, 0x0, []⟩
/-- OCT_LCFG.INNER (R168). -/
def OCT_LCFG_INNER : Fld := ⟨167, 16, 8, .sh, 0x55, []⟩
/-- OCT_LRXSD_LO.SD (R168). -/
def OCT_LRXSD_LO_SD : Fld := ⟨168, 0, 32, .sh, 0x0, []⟩
/-- OCT_LRXSD_HI.SD (R168). -/
def OCT_LRXSD_HI_SD : Fld := ⟨169, 0, 32, .sh, 0x0, []⟩
/-- OCT_LRXFMT.SDBITS (R168). -/
def OCT_LRXFMT_SDBITS : Fld := ⟨170, 0, 7, .sh, 0x8, []⟩
/-- OCT_LRXFMT.RXLEN (R168). -/
def OCT_LRXFMT_RXLEN : Fld := ⟨171, 8, 16, .sh, 0x40, []⟩
/-- OCT_LRXFMT.RXCRC (R168). -/
def OCT_LRXFMT_RXCRC : Fld := ⟨172, 24, 2, .sh, 0x0, []⟩
/-- OCT_LRXID.IDOFF (R168). -/
def OCT_LRXID_IDOFF : Fld := ⟨173, 0, 16, .sh, 0x0, []⟩
/-- OCT_LRXID.IDEN (R168). -/
def OCT_LRXID_IDEN : Fld := ⟨174, 16, 1, .sh, 0x0, []⟩
/-- OCT_LSTAT.LOCK (R168). -/
def OCT_LSTAT_LOCK : Fld := ⟨175, 0, 1, .ro, 0x0, []⟩
/-- OCT_LSTAT.LOCKLOST (R168). -/
def OCT_LSTAT_LOCKLOST : Fld := ⟨176, 1, 1, .w1c, 0x0, []⟩
/-- OCT_LSTAT.TSQ_OVF (R168). -/
def OCT_LSTAT_TSQ_OVF : Fld := ⟨177, 2, 1, .w1c, 0x0, []⟩
/-- OCT_LSTAT.LQ_FULL (R168). -/
def OCT_LSTAT_LQ_FULL : Fld := ⟨178, 3, 1, .w1c, 0x0, []⟩
/-- OCT_LSTAT.TSQN (R168). -/
def OCT_LSTAT_TSQN : Fld := ⟨179, 8, 4, .ro, 0x0, []⟩
/-- OCT_LSTAT.LQN (R168). -/
def OCT_LSTAT_LQN : Fld := ⟨180, 16, 5, .ro, 0x0, []⟩
/-- OCT_LTSQDROP.DROP (R168). -/
def OCT_LTSQDROP_DROP : Fld := ⟨181, 0, 32, .ro, 0x0, []⟩
/-- OCT_LMISS.MISS (R168). -/
def OCT_LMISS_MISS : Fld := ⟨182, 0, 32, .ro, 0x0, []⟩
/-- OCT_LSEQ.SEQ (R168). -/
def OCT_LSEQ_SEQ : Fld := ⟨183, 0, 16, .ro, 0x0, []⟩
/-- OCT_TSQHEAD.ID (R168). -/
def OCT_TSQHEAD_ID : Fld := ⟨184, 0, 16, .ro, 0x0, []⟩
/-- OCT_TSQHEAD.STATUS (R168). -/
def OCT_TSQHEAD_STATUS : Fld := ⟨185, 16, 4, .ro, 0x0, []⟩
/-- OCT_TSQHEAD.VALID (R168). -/
def OCT_TSQHEAD_VALID : Fld := ⟨186, 31, 1, .ro, 0x0, []⟩
/-- OCT_TSQT_LO.FRAC (R168). -/
def OCT_TSQT_LO_FRAC : Fld := ⟨187, 0, 32, .ro, 0x0, []⟩
/-- OCT_TSQT_HI.NS (R168). -/
def OCT_TSQT_HI_NS : Fld := ⟨188, 0, 32, .ro, 0x0, []⟩
/-- OCT_TSQPOP.POP (R168). -/
def OCT_TSQPOP_POP : Fld := ⟨189, 0, 1, .wsc, 0x0, []⟩
/-- OCT_LRXTS_LO.FRAC (R168). -/
def OCT_LRXTS_LO_FRAC : Fld := ⟨190, 0, 32, .ro, 0x0, []⟩
/-- OCT_LRXTS_HI.NS (R168). -/
def OCT_LRXTS_HI_NS : Fld := ⟨191, 0, 32, .ro, 0x0, []⟩
/-- OCT_LRXREC.ID (R168). -/
def OCT_LRXREC_ID : Fld := ⟨192, 0, 16, .ro, 0x0, []⟩
/-- OCT_LRXREC.CRCERR (R168). -/
def OCT_LRXREC_CRCERR : Fld := ⟨193, 16, 1, .ro, 0x0, []⟩
/-- OCT_LRXREC.IDV (R168). -/
def OCT_LRXREC_IDV : Fld := ⟨194, 17, 1, .ro, 0x0, []⟩
/-- OCT_LRXREC.VALID (R168). -/
def OCT_LRXREC_VALID : Fld := ⟨195, 31, 1, .ro, 0x0, []⟩
/-- OCT_LRXFRM.FRM (R168). -/
def OCT_LRXFRM_FRM : Fld := ⟨196, 0, 32, .ro, 0x0, []⟩
/-- OCT_LRXCRCERR.CRCERR (R168). -/
def OCT_LRXCRCERR_CRCERR : Fld := ⟨197, 0, 32, .ro, 0x0, []⟩
/-- OCT_LBITERR.ERR (R168). -/
def OCT_LBITERR_ERR : Fld := ⟨198, 0, 32, .ro, 0x0, []⟩
/-- OCT_LBITCNT_LO.CNT (R168). -/
def OCT_LBITCNT_LO_CNT : Fld := ⟨199, 0, 32, .ro, 0x0, []⟩
/-- OCT_LBITCNT_HI.CNT (R168). -/
def OCT_LBITCNT_HI_CNT : Fld := ⟨200, 0, 32, .ro, 0x0, []⟩
/-- OCT_LTXLAT.TXLAT (R168). -/
def OCT_LTXLAT_TXLAT : Fld := ⟨201, 0, 24, .ro, 0x0, []⟩
/-- OCT_LRXLAT.RXLAT (R168). -/
def OCT_LRXLAT_RXLAT : Fld := ⟨202, 0, 24, .ro, 0x0, []⟩
/-- OCT_TPL0.PRELEN (R174). -/
def OCT_TPL0_PRELEN : Fld := ⟨203, 0, 8, .rw, 0x0, []⟩
/-- OCT_TPL0.PREB (R174). -/
def OCT_TPL0_PREB : Fld := ⟨204, 8, 8, .rw, 0x0, []⟩
/-- OCT_TPL0.SDLEN (R174). -/
def OCT_TPL0_SDLEN : Fld := ⟨205, 16, 4, .rw, 0x0, []⟩
/-- OCT_TPL0.IDINS (R174). -/
def OCT_TPL0_IDINS : Fld := ⟨206, 20, 1, .rw, 0x0, []⟩
/-- OCT_TPL1.SD (R174). -/
def OCT_TPL1_SD : Fld := ⟨207, 0, 32, .rw, 0x0, []⟩
/-- OCT_TPL2.SD (R174). -/
def OCT_TPL2_SD : Fld := ⟨208, 0, 32, .rw, 0x0, []⟩
/-- OCT_TPL3.HADDR (R174). -/
def OCT_TPL3_HADDR : Fld := ⟨209, 0, 24, .rw, 0x0, []⟩
/-- OCT_TPL4.HLEN (R174). -/
def OCT_TPL4_HLEN : Fld := ⟨210, 0, 9, .rw, 0x0, []⟩
/-- OCT_TPL4.IDOFF (R174). -/
def OCT_TPL4_IDOFF : Fld := ⟨211, 16, 9, .rw, 0x0, []⟩
/-- OCT_TPL5.PLEN (R174). -/
def OCT_TPL5_PLEN : Fld := ⟨212, 0, 16, .rw, 0x0, []⟩
/-- OCT_TPL5.PSRC (R174). -/
def OCT_TPL5_PSRC : Fld := ⟨213, 16, 3, .rw, 0x0, []⟩
/-- OCT_TPL5.PPOLY (R174). -/
def OCT_TPL5_PPOLY : Fld := ⟨214, 19, 3, .rw, 0x0, []⟩
/-- OCT_TPL5.PSEED (R174). -/
def OCT_TPL5_PSEED : Fld := ⟨215, 22, 1, .rw, 0x0, []⟩
/-- OCT_TPL5.CSEED (R174). -/
def OCT_TPL5_CSEED : Fld := ⟨216, 24, 8, .rw, 0x0, []⟩
/-- OCT_TPL6.PADDR (R174). -/
def OCT_TPL6_PADDR : Fld := ⟨217, 0, 24, .rw, 0x0, []⟩
/-- OCT_TPL6.CRC (R174). -/
def OCT_TPL6_CRC : Fld := ⟨218, 24, 2, .rw, 0x0, []⟩
/-- OCT_TPL6.EDLEN (R174). -/
def OCT_TPL6_EDLEN : Fld := ⟨219, 28, 4, .rw, 0x0, []⟩
/-- OCT_TPL7.ED (R174). -/
def OCT_TPL7_ED : Fld := ⟨220, 0, 32, .rw, 0x0, []⟩
/-- OCT_TPL8.ED (R174). -/
def OCT_TPL8_ED : Fld := ⟨221, 0, 32, .rw, 0x0, []⟩
/-- OCT_TPL9.IPG (R174). -/
def OCT_TPL9_IPG : Fld := ⟨222, 0, 16, .rw, 0x0, []⟩
/-- OCT_TPL9.IDLE (R174). -/
def OCT_TPL9_IDLE : Fld := ⟨223, 16, 2, .rw, 0x0, []⟩
/-- OCT_TPL9.IDLEB (R174). -/
def OCT_TPL9_IDLEB : Fld := ⟨224, 24, 8, .rw, 0x0, []⟩
/-- OCT_TPL10.VALID (R174). -/
def OCT_TPL10_VALID : Fld := ⟨225, 0, 1, .rw, 0x0, []⟩
/-- OCT_FCNT.FCNT (R188). -/
def OCT_FCNT_FCNT : Fld := ⟨226, 0, 32, .ro, 0x0, []⟩
/-- OCT_FFIDX.FFIDX (R188). -/
def OCT_FFIDX_FFIDX : Fld := ⟨227, 0, 32, .ro, 0x0, []⟩
/-- OCT_FFBEAT.FFBEAT (R188). -/
def OCT_FFBEAT_FFBEAT : Fld := ⟨228, 0, 32, .ro, 0x0, []⟩
/-- OCT_FCTL.CLR (R188). -/
def OCT_FCTL_CLR : Fld := ⟨229, 0, 1, .wsc, 0x0, []⟩
/-- OCT_FCTL.FFV (R188). -/
def OCT_FCTL_FFV : Fld := ⟨230, 1, 1, .ro, 0x0, []⟩
/-- OCT_FCTL.FFKIND (R188). -/
def OCT_FCTL_FFKIND : Fld := ⟨231, 2, 2, .ro, 0x0, []⟩
/-- SITE_CQCFG.SRC (R190). -/
def SITE_CQCFG_SRC : Fld := ⟨232, 0, 2, .sh, 0x0, []⟩
/-- SITE_CQCFG.FONLY (R190). -/
def SITE_CQCFG_FONLY : Fld := ⟨233, 2, 1, .sh, 0x0, []⟩
/-- SITE_CQCFG.FLIM (R190). -/
def SITE_CQCFG_FLIM : Fld := ⟨234, 8, 8, .sh, 0x0, []⟩
/-- SITE_CQCFG.FRSEL (R190). -/
def SITE_CQCFG_FRSEL : Fld := ⟨235, 16, 2, .sh, 0x0, []⟩
/-- SITE_CQCFG.IDM (R190). -/
def SITE_CQCFG_IDM : Fld := ⟨236, 18, 1, .sh, 0x0, []⟩
/-- SITE_CQCHM_LO.CHM (R190). -/
def SITE_CQCHM_LO_CHM : Fld := ⟨237, 0, 32, .sh, 0x0, []⟩
/-- SITE_CQCHM_HI.CHM (R190). -/
def SITE_CQCHM_HI_CHM : Fld := ⟨238, 0, 32, .sh, 0x0, []⟩
/-- SITE_CQFID.IDVAL (R190). -/
def SITE_CQFID_IDVAL : Fld := ⟨239, 0, 16, .sh, 0x0, []⟩
/-- SITE_CQFID.IDMSK (R190). -/
def SITE_CQFID_IDMSK : Fld := ⟨240, 16, 16, .sh, 0x0, []⟩
/-- SITE_CQSNAP.SNAP (R190). -/
def SITE_CQSNAP_SNAP : Fld := ⟨241, 0, 12, .sh, 0x40, []⟩
/-- SITE_CAPSTAT.DEC (R207). -/
def SITE_CAPSTAT_DEC : Fld := ⟨242, 0, 4, .ro, 0x0, []⟩
/-- SITE_CAPSTAT.STOPPED (R207). -/
def SITE_CAPSTAT_STOPPED : Fld := ⟨243, 4, 1, .ro, 0x0, []⟩
/-- SITE_CAPSTAT.CAPT_FULL (R207). -/
def SITE_CAPSTAT_CAPT_FULL : Fld := ⟨244, 5, 1, .w1c, 0x0, []⟩
/-- SITE_CAPSTAT.OVERRUN (R207). -/
def SITE_CAPSTAT_OVERRUN : Fld := ⟨245, 6, 1, .w1c, 0x0, []⟩
/-- SITE_CAPSTAT.REDUCED (R207). -/
def SITE_CAPSTAT_REDUCED : Fld := ⟨246, 7, 1, .w1c, 0x0, []⟩
/-- SITE_CAPSTAT.CQ_REJ (R207). -/
def SITE_CAPSTAT_CQ_REJ : Fld := ⟨247, 8, 1, .w1c, 0x0, []⟩
/-- SITE_CAPSTAT.SUSPECT (R207). -/
def SITE_CAPSTAT_SUSPECT : Fld := ⟨248, 9, 1, .w1c, 0x0, []⟩
/-- SITE_CWIN.CWIN (R207). -/
def SITE_CWIN_CWIN : Fld := ⟨249, 0, 16, .ro, 0x0, []⟩
/-- SITE_CSTG.SSIZE (R207). -/
def SITE_CSTG_SSIZE : Fld := ⟨250, 0, 12, .ro, 0x0, []⟩
/-- SITE_CSTG.SUSED (R207). -/
def SITE_CSTG_SUSED : Fld := ⟨251, 16, 12, .ro, 0x0, []⟩
/-- SITE_CBKSZ.BKSZ (R207). -/
def SITE_CBKSZ_BKSZ : Fld := ⟨252, 0, 20, .ro, 0x0, []⟩
/-- SITE_CBKOCC.BKOCC (R207). -/
def SITE_CBKOCC_BKOCC : Fld := ⟨253, 0, 20, .ro, 0x0, []⟩
/-- SITE_CSEQ.SEQ (R207). -/
def SITE_CSEQ_SEQ : Fld := ⟨254, 0, 32, .ro, 0x0, []⟩
/-- SITE_CDLV.DLV (R207). -/
def SITE_CDLV_DLV : Fld := ⟨255, 0, 32, .ro, 0x0, []⟩
/-- SITE_CLOST.LOST (R207). -/
def SITE_CLOST_LOST : Fld := ⟨256, 0, 32, .ro, 0x0, []⟩
/-- SITE_CGAPN.GAPN (R207). -/
def SITE_CGAPN_GAPN : Fld := ⟨257, 0, 32, .ro, 0x0, []⟩
/-- SITE_CFLTO.FLTO (R207). -/
def SITE_CFLTO_FLTO : Fld := ⟨258, 0, 16, .rw, 0x0, []⟩
/-- SITE_CCTL.FLUSH (R207). -/
def SITE_CCTL_FLUSH : Fld := ⟨259, 0, 1, .wsc, 0x0, []⟩
/-- ACQ_CFG.FUNC (R221). -/
def ACQ_CFG_FUNC : Fld := ⟨260, 0, 2, .rw, 0x0, []⟩
/-- ACQ_CFG.TSRC (R221). -/
def ACQ_CFG_TSRC : Fld := ⟨261, 2, 3, .rw, 0x0, []⟩
/-- ACQ_CFG.TSLOPE (R221). -/
def ACQ_CFG_TSLOPE : Fld := ⟨262, 5, 2, .rw, 0x0, []⟩
/-- ACQ_CFG.TCH (R221). -/
def ACQ_CFG_TCH : Fld := ⟨263, 7, 6, .rw, 0x0, []⟩
/-- ACQ_CFG.TIN (R221). -/
def ACQ_CFG_TIN : Fld := ⟨264, 13, 2, .rw, 0x0, []⟩
/-- ACQ_CFG.GATE (R221). -/
def ACQ_CFG_GATE : Fld := ⟨265, 15, 2, .rw, 0x0, []⟩
/-- ACQ_CFG.VSRC (R221). -/
def ACQ_CFG_VSRC : Fld := ⟨266, 17, 1, .rw, 0x0, []⟩
/-- ACQ_TLEV.LEV (R221). -/
def ACQ_TLEV_LEV : Fld := ⟨267, 0, 8, .rw, 0x80, []⟩
/-- ACQ_TLEV.HYS (R221). -/
def ACQ_TLEV_HYS : Fld := ⟨268, 8, 4, .rw, 0x0, []⟩
/-- ACQ_WIN.PRE (R221). -/
def ACQ_WIN_PRE : Fld := ⟨269, 0, 17, .rw, 0x0, []⟩
/-- ACQ_POST.POST (R221). -/
def ACQ_POST_POST : Fld := ⟨270, 0, 17, .rw, 0x10000, []⟩
/-- ACQ_ROV.SWEEP (R221). -/
def ACQ_ROV_SWEEP : Fld := ⟨271, 0, 1, .rw, 0x0, []⟩
/-- ACQ_ROV.PHASE (R221). -/
def ACQ_ROV_PHASE : Fld := ⟨272, 1, 7, .rw, 0x40, []⟩
/-- ACQ_ROV.DWELL (R221). -/
def ACQ_ROV_DWELL : Fld := ⟨273, 8, 5, .rw, 0x10, []⟩
/-- ACQ_CTL.RUN (R221). -/
def ACQ_CTL_RUN : Fld := ⟨274, 0, 1, .rw, 0x0, []⟩
/-- ACQ_CTL.ARM (R221). -/
def ACQ_CTL_ARM : Fld := ⟨275, 1, 1, .wsc, 0x0, []⟩
/-- ACQ_CTL.FORCE (R221). -/
def ACQ_CTL_FORCE : Fld := ⟨276, 2, 1, .wsc, 0x0, []⟩
/-- ACQ_CTL.CLR (R221). -/
def ACQ_CTL_CLR : Fld := ⟨277, 3, 1, .wsc, 0x0, []⟩
/-- ACQ_CTL.EYE (R221). -/
def ACQ_CTL_EYE : Fld := ⟨278, 4, 1, .wsc, 0x0, []⟩
/-- ACQ_STAT.ACTIVE (R221). -/
def ACQ_STAT_ACTIVE : Fld := ⟨279, 0, 1, .ro, 0x0, []⟩
/-- ACQ_STAT.ARMED (R221). -/
def ACQ_STAT_ARMED : Fld := ⟨280, 1, 1, .ro, 0x0, []⟩
/-- ACQ_STAT.TRIGD (R221). -/
def ACQ_STAT_TRIGD : Fld := ⟨281, 2, 1, .ro, 0x0, []⟩
/-- ACQ_STAT.SAT (R221). -/
def ACQ_STAT_SAT : Fld := ⟨282, 3, 1, .w1c, 0x0, []⟩
/-- ACQ_STAT.CFG_REJ (R221). -/
def ACQ_STAT_CFG_REJ : Fld := ⟨283, 4, 1, .w1c, 0x0, []⟩
/-- ACQ_STAT.TMISS (R221). -/
def ACQ_STAT_TMISS : Fld := ⟨284, 5, 1, .w1c, 0x0, []⟩
/-- ACQ_STAT.PSTOP (R221). -/
def ACQ_STAT_PSTOP : Fld := ⟨285, 6, 1, .w1c, 0x0, []⟩
/-- ACQ_STAT.ROVPH (R221). -/
def ACQ_STAT_ROVPH : Fld := ⟨286, 8, 7, .ro, 0x0, []⟩
/-- ACQ_PASS.PASS (R221). -/
def ACQ_PASS_PASS : Fld := ⟨287, 0, 32, .ro, 0x0, []⟩
/-- ACQ_TTRIG_LO.FRAC (R221). -/
def ACQ_TTRIG_LO_FRAC : Fld := ⟨288, 0, 32, .rw, 0x0, []⟩
/-- ACQ_TTRIG_HI.NS (R221). -/
def ACQ_TTRIG_HI_NS : Fld := ⟨289, 0, 32, .rw, 0x0, []⟩
/-- ACQ_TRGT_LO.FRAC (R221). -/
def ACQ_TRGT_LO_FRAC : Fld := ⟨290, 0, 32, .ro, 0x0, []⟩
/-- ACQ_TRGT_HI.NS (R221). -/
def ACQ_TRGT_HI_NS : Fld := ⟨291, 0, 32, .ro, 0x0, []⟩
/-- ACQ_TREC.TIDX (R221). -/
def ACQ_TREC_TIDX : Fld := ⟨292, 0, 17, .ro, 0x0, []⟩
/-- ACQ_TREC.TFRAC (R221). -/
def ACQ_TREC_TFRAC : Fld := ⟨293, 24, 8, .ro, 0x0, []⟩
/-- ACQ_TRBEAT.BEAT (R221). -/
def ACQ_TRBEAT_BEAT : Fld := ⟨294, 0, 32, .ro, 0x0, []⟩
/-- ACQ_TRGCNT.TRGCNT (R221). -/
def ACQ_TRGCNT_TRGCNT : Fld := ⟨295, 0, 32, .ro, 0x0, []⟩
/-- ACQ_RUNT0.NS (R221). -/
def ACQ_RUNT0_NS : Fld := ⟨296, 0, 32, .ro, 0x0, []⟩
/-- ACQ_RUNT1.NS (R221). -/
def ACQ_RUNT1_NS : Fld := ⟨297, 0, 32, .ro, 0x0, []⟩
/-- ACQ_EYECFG.BLO (R221). -/
def ACQ_EYECFG_BLO : Fld := ⟨298, 0, 8, .rw, 0x78, []⟩
/-- ACQ_EYECFG.BHI (R221). -/
def ACQ_EYECFG_BHI : Fld := ⟨299, 8, 8, .rw, 0x88, []⟩
/-- ACQ_ETHR.ETHR (R221). -/
def ACQ_ETHR_ETHR : Fld := ⟨300, 0, 32, .rw, 0x0, []⟩
/-- ACQ_EYER.LEFT (R221). -/
def ACQ_EYER_LEFT : Fld := ⟨301, 0, 7, .ro, 0x0, []⟩
/-- ACQ_EYER.RIGHT (R221). -/
def ACQ_EYER_RIGHT : Fld := ⟨302, 8, 7, .ro, 0x0, []⟩
/-- ACQ_EYER.WIDTH (R221). -/
def ACQ_EYER_WIDTH : Fld := ⟨303, 16, 8, .ro, 0x0, []⟩
/-- ACQ_EYER.VALID (R221). -/
def ACQ_EYER_VALID : Fld := ⟨304, 31, 1, .ro, 0x0, []⟩
/-- OCT_TDCCFG.MEAS (R233). -/
def OCT_TDCCFG_MEAS : Fld := ⟨305, 0, 2, .rw, 0x0, []⟩
/-- OCT_TDCCFG.STOPCH (R233). -/
def OCT_TDCCFG_STOPCH : Fld := ⟨306, 2, 6, .rw, 0x0, []⟩
/-- OCT_TDCCFG.EDIV (R233). -/
def OCT_TDCCFG_EDIV : Fld := ⟨307, 8, 4, .rw, 0x0, []⟩
/-- OCT_TDCCFG.FGATE (R233). -/
def OCT_TDCCFG_FGATE : Fld := ⟨308, 16, 16, .rw, 0x3d1, []⟩
/-- OCT_TDCREF.REF (R233). -/
def OCT_TDCREF_REF : Fld := ⟨309, 0, 32, .rw, 0x0, []⟩
/-- OCT_TDCCTL.RUN (R233). -/
def OCT_TDCCTL_RUN : Fld := ⟨310, 0, 1, .rw, 0x0, []⟩
/-- OCT_TDCCTL.SNAP (R233). -/
def OCT_TDCCTL_SNAP : Fld := ⟨311, 1, 1, .wsc, 0x0, []⟩
/-- OCT_TDCCTL.CLR (R233). -/
def OCT_TDCCTL_CLR : Fld := ⟨312, 2, 1, .wsc, 0x0, []⟩
/-- OCT_TDCSTAT.DLLLOCK (R233). -/
def OCT_TDCSTAT_DLLLOCK : Fld := ⟨313, 0, 1, .ro, 0x0, []⟩
/-- OCT_TDCSTAT.DLLUL (R233). -/
def OCT_TDCSTAT_DLLUL : Fld := ⟨314, 1, 1, .w1c, 0x0, []⟩
/-- OCT_TDCSTAT.SWARM (R233). -/
def OCT_TDCSTAT_SWARM : Fld := ⟨315, 2, 1, .ro, 0x0, []⟩
/-- OCT_TDCSTAT.SQSAT (R233). -/
def OCT_TDCSTAT_SQSAT : Fld := ⟨316, 3, 1, .w1c, 0x0, []⟩
/-- OCT_TDCSTAT.CFG_REJ (R233). -/
def OCT_TDCSTAT_CFG_REJ : Fld := ⟨317, 4, 1, .w1c, 0x0, []⟩
/-- OCT_TDCSTAT.ACTIVE (R233). -/
def OCT_TDCSTAT_ACTIVE : Fld := ⟨318, 5, 1, .ro, 0x0, []⟩
/-- OCT_TDCSTAT.WARMNOW (R233). -/
def OCT_TDCSTAT_WARMNOW : Fld := ⟨319, 6, 1, .ro, 0x0, []⟩
/-- OCT_TDCCNT.CNT (R233). -/
def OCT_TDCCNT_CNT : Fld := ⟨320, 0, 32, .ro, 0x0, []⟩
/-- OCT_TDCSUM_LO.SUM (R233). -/
def OCT_TDCSUM_LO_SUM : Fld := ⟨321, 0, 32, .ro, 0x0, []⟩
/-- OCT_TDCSUM_HI.SUM (R233). -/
def OCT_TDCSUM_HI_SUM : Fld := ⟨322, 0, 32, .ro, 0x0, []⟩
/-- OCT_TDCSQ_LO.SQ (R233). -/
def OCT_TDCSQ_LO_SQ : Fld := ⟨323, 0, 32, .ro, 0x0, []⟩
/-- OCT_TDCSQ_HI.SQ (R233). -/
def OCT_TDCSQ_HI_SQ : Fld := ⟨324, 0, 32, .ro, 0x0, []⟩
/-- OCT_TDCMIN_LO.MIN (R233). -/
def OCT_TDCMIN_LO_MIN : Fld := ⟨325, 0, 32, .ro, 0xffffffff, []⟩
/-- OCT_TDCMIN_HI.MIN (R233). -/
def OCT_TDCMIN_HI_MIN : Fld := ⟨326, 0, 4, .ro, 0xf, []⟩
/-- OCT_TDCMAX_LO.MAX (R233). -/
def OCT_TDCMAX_LO_MAX : Fld := ⟨327, 0, 32, .ro, 0x0, []⟩
/-- OCT_TDCMAX_HI.MAX (R233). -/
def OCT_TDCMAX_HI_MAX : Fld := ⟨328, 0, 4, .ro, 0x0, []⟩
/-- OCT_TDCDISC.DISC (R233). -/
def OCT_TDCDISC_DISC : Fld := ⟨329, 0, 32, .ro, 0x0, []⟩
/-- OCT_TDCSKIP.SKIP (R233). -/
def OCT_TDCSKIP_SKIP : Fld := ⟨330, 0, 32, .ro, 0x0, []⟩
/-- OCT_TDCSNT.NS (R233). -/
def OCT_TDCSNT_NS : Fld := ⟨331, 0, 32, .ro, 0x0, []⟩
/-- OCT_TDCECNT_LO.ECNT (R233). -/
def OCT_TDCECNT_LO_ECNT : Fld := ⟨332, 0, 32, .ro, 0x0, []⟩
/-- OCT_TDCECNT_HI.ECNT (R233). -/
def OCT_TDCECNT_HI_ECNT : Fld := ⟨333, 0, 32, .ro, 0x0, []⟩
/-- OCT_QEYE.EYEW (R376). -/
def OCT_QEYE_EYEW : Fld := ⟨334, 0, 16, .ro, 0x0, []⟩
/-- OCT_QINL.INLRMS (R376). -/
def OCT_QINL_INLRMS : Fld := ⟨335, 0, 16, .ro, 0x0, []⟩
/-- OCT_QINL.INLMAX (R376). -/
def OCT_QINL_INLMAX : Fld := ⟨336, 16, 16, .ro, 0x0, []⟩
/-- OCT_QDNL.DNLMIN (R376). -/
def OCT_QDNL_DNLMIN : Fld := ⟨337, 0, 16, .ro, 0x0, []⟩
/-- OCT_QDNL.DNLMAX (R376). -/
def OCT_QDNL_DNLMAX : Fld := ⟨338, 16, 16, .ro, 0x0, []⟩
/-- OCT_QSRC.FIELD (R376). -/
def OCT_QSRC_FIELD : Fld := ⟨339, 0, 1, .ro, 0x0, []⟩
/-- OCT_QSRC.UNSAVED (R376). -/
def OCT_QSRC_UNSAVED : Fld := ⟨340, 1, 1, .ro, 0x0, []⟩
/-- OCT_QCNT.CNT (R376). -/
def OCT_QCNT_CNT : Fld := ⟨341, 0, 32, .ro, 0x0, []⟩
/-- OCT_CLVCTL.POS (R384). -/
def OCT_CLVCTL_POS : Fld := ⟨342, 0, 3, .rw, 0x0, []⟩
/-- OCT_CLVCTL.TAKE (R384). -/
def OCT_CLVCTL_TAKE : Fld := ⟨343, 3, 1, .wsc, 0x0, []⟩
/-- OCT_CLVCTL.RETRIM (R384). -/
def OCT_CLVCTL_RETRIM : Fld := ⟨344, 4, 1, .wsc, 0x0, []⟩
/-- OCT_CLVCTL.RETURN (R384). -/
def OCT_CLVCTL_RETURN : Fld := ⟨345, 5, 1, .wsc, 0x0, []⟩
/-- OCT_CLVCTL.SAVE (R384). -/
def OCT_CLVCTL_SAVE : Fld := ⟨346, 6, 1, .wsc, 0x0, []⟩
/-- OCT_CLVSTAT.STATE (R384). -/
def OCT_CLVSTAT_STATE : Fld := ⟨347, 0, 3, .ro, 0x0, []⟩
/-- OCT_CLVSTAT.RETURN_FAIL (R384). -/
def OCT_CLVSTAT_RETURN_FAIL : Fld := ⟨348, 3, 1, .w1c, 0x0, []⟩
/-- OCT_CLVSTAT.RSN (R384). -/
def OCT_CLVSTAT_RSN : Fld := ⟨349, 4, 3, .ro, 0x0, []⟩
/-- OCT_CLVSTAT.REQ_REJ (R384). -/
def OCT_CLVSTAT_REQ_REJ : Fld := ⟨350, 7, 1, .w1c, 0x0, []⟩
/-- OCT_CLVSTAT.SAVED (R384). -/
def OCT_CLVSTAT_SAVED : Fld := ⟨351, 8, 1, .w1c, 0x0, []⟩
/-- OCT_CLVSTAT.SAVE_FAIL (R384). -/
def OCT_CLVSTAT_SAVE_FAIL : Fld := ⟨352, 9, 1, .w1c, 0x0, []⟩
/-- OCT_CLVTKN.CNT (R384). -/
def OCT_CLVTKN_CNT : Fld := ⟨353, 0, 32, .ro, 0x0, []⟩
/-- OCT_CLVDIFF.CNT (R384). -/
def OCT_CLVDIFF_CNT : Fld := ⟨354, 0, 32, .ro, 0x0, []⟩
/-- SITE_BLEN.BLEN (R248). -/
def SITE_BLEN_BLEN : Fld := ⟨355, 0, 32, .rwl, 0x0, []⟩
/-- SITE_BGAP.GAP (R248). -/
def SITE_BGAP_GAP : Fld := ⟨356, 0, 16, .rwl, 0x40, []⟩
/-- SITE_BANCH.BANCH (R248). -/
def SITE_BANCH_BANCH : Fld := ⟨357, 0, 32, .ro, 0x0, []⟩
/-- SITE_BNUM0.BNUM0 (R248). -/
def SITE_BNUM0_BNUM0 : Fld := ⟨358, 0, 32, .ro, 0x0, []⟩
/-- SITE_BNOW.BNOW (R248). -/
def SITE_BNOW_BNOW : Fld := ⟨359, 0, 32, .ro, 0x0, []⟩
/-- SITE_BSTART.BSTART (R248). -/
def SITE_BSTART_BSTART : Fld := ⟨360, 0, 32, .ro, 0x0, []⟩
/-- SITE_BCTL.COMMIT (R248). -/
def SITE_BCTL_COMMIT : Fld := ⟨361, 0, 1, .wsc, 0x0, []⟩
/-- SITE_BSTAT.RUN (R248). -/
def SITE_BSTAT_RUN : Fld := ⟨362, 0, 1, .ro, 0x0, []⟩
/-- SITE_BSTAT.XOVR (R248). -/
def SITE_BSTAT_XOVR : Fld := ⟨363, 1, 1, .w1c, 0x0, []⟩
/-- SITE_BSTAT.LATE (R248). -/
def SITE_BSTAT_LATE : Fld := ⟨364, 2, 1, .w1c, 0x0, []⟩
/-- SITE_BSTAT.SG_REJ (R248). -/
def SITE_BSTAT_SG_REJ : Fld := ⟨365, 3, 1, .w1c, 0x0, []⟩
/-- SITE_BSTAT.SGMM (R248). -/
def SITE_BSTAT_SGMM : Fld := ⟨366, 4, 1, .w1c, 0x0, []⟩
/-- SITE_BFAPP.F (R248). -/
def SITE_BFAPP_F : Fld := ⟨367, 0, 32, .ro, 0x0, []⟩
/-- SITE_BFPEND.F (R248). -/
def SITE_BFPEND_F : Fld := ⟨368, 0, 32, .ro, 0x0, []⟩
/-- SITE_BXAPP.F (R248). -/
def SITE_BXAPP_F : Fld := ⟨369, 0, 32, .ro, 0x0, []⟩
/-- SITE_BFCNT.CNT (R248). -/
def SITE_BFCNT_CNT : Fld := ⟨370, 0, 32, .ro, 0x0, []⟩
/-- SITE_SGCFG.EN (R254). -/
def SITE_SGCFG_EN : Fld := ⟨371, 0, 1, .sh, 0x0, []⟩
/-- SITE_SGCFG.SRC (R254). -/
def SITE_SGCFG_SRC : Fld := ⟨372, 1, 1, .sh, 0x0, []⟩
/-- SITE_SGCFG.ACT (R254). -/
def SITE_SGCFG_ACT : Fld := ⟨373, 2, 2, .sh, 0x0, []⟩
/-- SITE_SGCFG.CHLO (R254). -/
def SITE_SGCFG_CHLO : Fld := ⟨374, 4, 6, .sh, 0x0, []⟩
/-- SITE_SGCFG.CHHI (R254). -/
def SITE_SGCFG_CHHI : Fld := ⟨375, 10, 6, .sh, 0x0, []⟩
/-- SITE_SGVLO.VLO (R254). -/
def SITE_SGVLO_VLO : Fld := ⟨376, 0, 32, .sh, 0x0, []⟩
/-- SITE_SGVHI.VHI (R254). -/
def SITE_SGVHI_VHI : Fld := ⟨377, 0, 32, .sh, 0x0, []⟩
/-- SITE_SGEXP.EXP (R254). -/
def SITE_SGEXP_EXP : Fld := ⟨378, 0, 32, .sh, 0x0, []⟩
/-- SITE_SGRES.SIG (R254). -/
def SITE_SGRES_SIG : Fld := ⟨379, 0, 32, .ro, 0x0, []⟩
/-- SITE_SGRST.STATUS (R254). -/
def SITE_SGRST_STATUS : Fld := ⟨380, 0, 3, .ro, 0x0, []⟩
/-- SITE_SGRST.VALID (R254). -/
def SITE_SGRST_VALID : Fld := ⟨381, 3, 1, .ro, 0x0, []⟩
/-- SITE_SGRST.MM (R254). -/
def SITE_SGRST_MM : Fld := ⟨382, 4, 1, .w1c, 0x0, []⟩
/-- SITE_SGRBEAT.BEAT (R254). -/
def SITE_SGRBEAT_BEAT : Fld := ⟨383, 0, 32, .ro, 0x0, []⟩
/-- SITE_SGMMCNT.CNT (R254). -/
def SITE_SGMMCNT_CNT : Fld := ⟨384, 0, 32, .ro, 0x0, []⟩
/-- DSP_EOWN.SITE (R271). -/
def DSP_EOWN_SITE : Fld := ⟨385, 0, 4, .ro, 0x0, []⟩
/-- DSP_EOWN.SITEV (R271). -/
def DSP_EOWN_SITEV : Fld := ⟨386, 4, 1, .ro, 0x0, []⟩
/-- DSP_EOWN.LENT (R271). -/
def DSP_EOWN_LENT : Fld := ⟨387, 5, 1, .ro, 0x0, []⟩
/-- DSP_EOWN.PRIO (R271). -/
def DSP_EOWN_PRIO : Fld := ⟨388, 6, 3, .ro, 0x0, []⟩
/-- DSP_EOWN.SUSP (R271). -/
def DSP_EOWN_SUSP : Fld := ⟨389, 9, 1, .ro, 0x0, []⟩
/-- DSP_EOWN.RSV (R271). -/
def DSP_EOWN_RSV : Fld := ⟨390, 10, 1, .ro, 0x0, []⟩
/-- DSP_EOWN.QSITE (R271). -/
def DSP_EOWN_QSITE : Fld := ⟨391, 11, 4, .ro, 0x0, []⟩
/-- DSP_EBUSY.BUSY (R271). -/
def DSP_EBUSY_BUSY : Fld := ⟨392, 0, 32, .ro, 0x0, []⟩
/-- DSP_EBURST.CNT (R271). -/
def DSP_EBURST_CNT : Fld := ⟨393, 0, 32, .ro, 0x0, []⟩
/-- DSP_SQ.QENT (R271). -/
def DSP_SQ_QENT : Fld := ⟨394, 0, 13, .ro, 0x0, []⟩
/-- DSP_SQ.QUSED (R271). -/
def DSP_SQ_QUSED : Fld := ⟨395, 16, 13, .ro, 0x0, []⟩
/-- DSP_SENG.QMASK (R271). -/
def DSP_SENG_QMASK : Fld := ⟨396, 0, 16, .ro, 0x0, []⟩
/-- DSP_SENG.QSHORT (R271). -/
def DSP_SENG_QSHORT : Fld := ⟨397, 16, 1, .ro, 0x0, []⟩
/-- DSP_SFLOW.FLOWLO (R271). -/
def DSP_SFLOW_FLOWLO : Fld := ⟨398, 0, 8, .ro, 0x0, []⟩
/-- DSP_SFLOW.FLOWN (R271). -/
def DSP_SFLOW_FLOWN : Fld := ⟨399, 8, 9, .ro, 0x0, []⟩
/-- DSP_SCTL.STOP (R271). -/
def DSP_SCTL_STOP : Fld := ⟨400, 0, 1, .rw, 0x0, []⟩
/-- DSP_SSTAT.REJ (R271). -/
def DSP_SSTAT_REJ : Fld := ⟨401, 0, 1, .w1c, 0x0, []⟩
/-- DSP_SSTAT.BP (R271). -/
def DSP_SSTAT_BP : Fld := ⟨402, 1, 1, .ro, 0x0, []⟩
/-- DSP_SSTAT.POSTWAIT (R271). -/
def DSP_SSTAT_POSTWAIT : Fld := ⟨403, 2, 1, .ro, 0x0, []⟩
/-- DSP_SSTAT.STOPPED (R271). -/
def DSP_SSTAT_STOPPED : Fld := ⟨404, 3, 1, .ro, 0x0, []⟩
/-- DSP_SSTAT.NRUN (R271). -/
def DSP_SSTAT_NRUN : Fld := ⟨405, 8, 5, .ro, 0x0, []⟩
/-- DSP_SSTAT.NSUSP (R271). -/
def DSP_SSTAT_NSUSP : Fld := ⟨406, 16, 5, .ro, 0x0, []⟩
/-- DSP_SREJCNT.CNT (R271). -/
def DSP_SREJCNT_CNT : Fld := ⟨407, 0, 32, .ro, 0x0, []⟩
/-- DSP_SBPUS.US (R271). -/
def DSP_SBPUS_US : Fld := ⟨408, 0, 32, .ro, 0x0, []⟩
/-- DSP_QDEPTH.DEPTH (R271). -/
def DSP_QDEPTH_DEPTH : Fld := ⟨409, 0, 13, .ro, 0x0, []⟩
/-- DSP_WHIST.CNT (R271). -/
def DSP_WHIST_CNT : Fld := ⟨410, 0, 32, .ro, 0x0, []⟩
/-- DSP_WCLR.CLR (R271). -/
def DSP_WCLR_CLR : Fld := ⟨411, 0, 1, .wsc, 0x0, []⟩
/-- DSP_PT0.ENTRY (R271). -/
def DSP_PT0_ENTRY : Fld := ⟨412, 0, 13, .rwl, 0x0, []⟩
/-- DSP_PT0.PRIO (R271). -/
def DSP_PT0_PRIO : Fld := ⟨413, 13, 3, .rwl, 0x0, []⟩
/-- DSP_PT0.FLOW (R271). -/
def DSP_PT0_FLOW : Fld := ⟨414, 16, 8, .rwl, 0x0, []⟩
/-- DSP_PT0.ORD (R271). -/
def DSP_PT0_ORD : Fld := ⟨415, 24, 1, .rwl, 0x0, []⟩
/-- DSP_PT0.RPT (R271). -/
def DSP_PT0_RPT : Fld := ⟨416, 25, 1, .rwl, 0x0, []⟩
/-- DSP_PT0.LEND (R271). -/
def DSP_PT0_LEND : Fld := ⟨417, 26, 1, .rwl, 0x0, []⟩
/-- DSP_PT0.RSVD (R271). -/
def DSP_PT0_RSVD : Fld := ⟨418, 27, 5, .rwl, 0x0, []⟩
/-- DSP_PT1.ENGM (R271). -/
def DSP_PT1_ENGM : Fld := ⟨419, 0, 32, .rwl, 0x0, []⟩
/-- DSP_PT2.ITEM (R271). -/
def DSP_PT2_ITEM : Fld := ⟨420, 0, 32, .rwl, 0x0, []⟩
/-- TBS_NS.NS (R274). -/
def TBS_NS_NS : Fld := ⟨421, 0, 32, .ro, 0x0, []⟩
/-- TBS_FRAC.FRAC (R274). -/
def TBS_FRAC_FRAC : Fld := ⟨422, 0, 32, .ro, 0x0, []⟩
/-- TBS_SNAP.SNAP (R274). -/
def TBS_SNAP_SNAP : Fld := ⟨423, 0, 1, .wsc, 0x0, []⟩
/-- TBS_SNS.NS (R274). -/
def TBS_SNS_NS : Fld := ⟨424, 0, 32, .ro, 0x0, []⟩
/-- TBS_SFRAC.FRAC (R274). -/
def TBS_SFRAC_FRAC : Fld := ⟨425, 0, 32, .ro, 0x0, []⟩
/-- TBS_SWRAP.WRAP (R274). -/
def TBS_SWRAP_WRAP : Fld := ⟨426, 0, 32, .ro, 0x0, []⟩
/-- TBS_WRAPCNT.WRAP (R274). -/
def TBS_WRAPCNT_WRAP : Fld := ⟨427, 0, 32, .ro, 0x0, []⟩
/-- TBS_STAT.WRAPF (R274). -/
def TBS_STAT_WRAPF : Fld := ⟨428, 0, 1, .w1c, 0x0, []⟩
/-- TBS_STAT.STATE (R274). -/
def TBS_STAT_STATE : Fld := ⟨429, 1, 2, .ro, 0x0, []⟩
/-- TBS_STAT.ROOT (R274). -/
def TBS_STAT_ROOT : Fld := ⟨430, 3, 1, .ro, 0x0, []⟩
/-- TBS_STAT.OFFEXC (R274). -/
def TBS_STAT_OFFEXC : Fld := ⟨431, 4, 1, .w1c, 0x0, []⟩
/-- TBS_STAT.STEPPED (R274). -/
def TBS_STAT_STEPPED : Fld := ⟨432, 5, 1, .w1c, 0x0, []⟩
/-- TBS_STAT.TIME_SLIP (R274). -/
def TBS_STAT_TIME_SLIP : Fld := ⟨433, 6, 1, .w1c, 0x0, []⟩
/-- TBS_STAT.PARLOST (R274). -/
def TBS_STAT_PARLOST : Fld := ⟨434, 7, 1, .w1c, 0x0, []⟩
/-- TBS_STAT.PARENT (R274). -/
def TBS_STAT_PARENT : Fld := ⟨435, 16, 4, .ro, 0x0, []⟩
/-- TBS_STAT.PARV (R274). -/
def TBS_STAT_PARV : Fld := ⟨436, 20, 1, .ro, 0x0, []⟩
/-- TBS_INC_LO.FRAC (R274). -/
def TBS_INC_LO_FRAC : Fld := ⟨437, 0, 32, .ro, 0x0, []⟩
/-- TBS_INC_HI.INT (R274). -/
def TBS_INC_HI_INT : Fld := ⟨438, 0, 8, .ro, 0x1, []⟩
/-- TBS_INCNOM_LO.FRAC (R274). -/
def TBS_INCNOM_LO_FRAC : Fld := ⟨439, 0, 32, .rwl, 0x0, []⟩
/-- TBS_INCNOM_HI.INT (R274). -/
def TBS_INCNOM_HI_INT : Fld := ⟨440, 0, 8, .rwl, 0x1, []⟩
/-- TBS_SERVO.KPSH (R274). -/
def TBS_SERVO_KPSH : Fld := ⟨441, 0, 5, .rwl, 0x2, []⟩
/-- TBS_SERVO.KISH (R274). -/
def TBS_SERVO_KISH : Fld := ⟨442, 8, 5, .rwl, 0x8, []⟩
/-- TBS_SERVO.EXLOG (R274). -/
def TBS_SERVO_EXLOG : Fld := ⟨443, 16, 4, .rwl, 0x4, []⟩
/-- TBS_SERVO.MAXPPM (R274). -/
def TBS_SERVO_MAXPPM : Fld := ⟨444, 24, 8, .rwl, 0x32, []⟩
/-- TBS_OFFLIM.OFFLIM (R274). -/
def TBS_OFFLIM_OFFLIM : Fld := ⟨445, 0, 16, .rwl, 0x3e8, []⟩
/-- TBS_OFFS.THETA (R274). -/
def TBS_OFFS_THETA : Fld := ⟨446, 0, 32, .ro, 0x0, []⟩
/-- TBS_DELAY.DELTA (R274). -/
def TBS_DELAY_DELTA : Fld := ⟨447, 0, 32, .ro, 0x0, []⟩
/-- TBS_ASYM.ASYM (R274). -/
def TBS_ASYM_ASYM : Fld := ⟨448, 0, 16, .rwl, 0x0, []⟩
/-- TBS_SETNS.NS (R274). -/
def TBS_SETNS_NS : Fld := ⟨449, 0, 32, .rw, 0x0, []⟩
/-- TBS_SETCTL.SET (R274). -/
def TBS_SETCTL_SET : Fld := ⟨450, 0, 1, .wsc, 0x0, []⟩
/-- TBS_SLIP.ISL (R274). -/
def TBS_SLIP_ISL : Fld := ⟨451, 0, 5, .ro, 0x0, []⟩
/-- TBS_SLIP.CNT (R274). -/
def TBS_SLIP_CNT : Fld := ⟨452, 16, 16, .ro, 0x0, []⟩
/-- TBS_EXCNT.CNT (R274). -/
def TBS_EXCNT_CNT : Fld := ⟨453, 0, 32, .ro, 0x0, []⟩
/-- TBS_EXFAIL.CNT (R274). -/
def TBS_EXFAIL_CNT : Fld := ⟨454, 0, 32, .ro, 0x0, []⟩
/-- SAF_CTL.OPEN (R294). -/
def SAF_CTL_OPEN : Fld := ⟨455, 0, 1, .wsc, 0x0, []⟩
/-- SAF_CTL.PREPARE (R294). -/
def SAF_CTL_PREPARE : Fld := ⟨456, 1, 1, .wsc, 0x0, []⟩
/-- SAF_CTL.ABORT (R294). -/
def SAF_CTL_ABORT : Fld := ⟨457, 2, 1, .wsc, 0x0, []⟩
/-- SAF_TGT.F (R294). -/
def SAF_TGT_F : Fld := ⟨458, 0, 32, .rw, 0x0, []⟩
/-- SAF_OPEN.TXID (R294). -/
def SAF_OPEN_TXID : Fld := ⟨459, 0, 16, .ro, 0x0, []⟩
/-- SAF_OPEN.STATE (R294). -/
def SAF_OPEN_STATE : Fld := ⟨460, 16, 4, .ro, 0x0, []⟩
/-- SAF_RUN.TXID (R294). -/
def SAF_RUN_TXID : Fld := ⟨461, 0, 16, .ro, 0x0, []⟩
/-- SAF_RUN.STATE (R294). -/
def SAF_RUN_STATE : Fld := ⟨462, 16, 4, .ro, 0x0, []⟩
/-- SAF_QUE.TXID (R294). -/
def SAF_QUE_TXID : Fld := ⟨463, 0, 16, .ro, 0x0, []⟩
/-- SAF_QUE.STATE (R294). -/
def SAF_QUE_STATE : Fld := ⟨464, 16, 4, .ro, 0x0, []⟩
/-- SAF_RTGT.F (R294). -/
def SAF_RTGT_F : Fld := ⟨465, 0, 32, .ro, 0x0, []⟩
/-- SAF_LAST.TXID (R294). -/
def SAF_LAST_TXID : Fld := ⟨466, 0, 16, .ro, 0x0, []⟩
/-- SAF_LAST.OUTCOME (R294). -/
def SAF_LAST_OUTCOME : Fld := ⟨467, 16, 4, .ro, 0x0, []⟩
/-- SAF_LAST.NOCHIP (R294). -/
def SAF_LAST_NOCHIP : Fld := ⟨468, 20, 9, .ro, 0x0, []⟩
/-- SAF_LAST.NOREASON (R294). -/
def SAF_LAST_NOREASON : Fld := ⟨469, 29, 3, .ro, 0x0, []⟩
/-- SAF_LASTF.F (R294). -/
def SAF_LASTF_F : Fld := ⟨470, 0, 32, .ro, 0x0, []⟩
/-- SAF_BND.BND (R294). -/
def SAF_BND_BND : Fld := ⟨471, 0, 32, .ro, 0x0, []⟩
/-- SAF_STGA.ADDR (R294). -/
def SAF_STGA_ADDR : Fld := ⟨472, 0, 32, .rw, 0x0, []⟩
/-- SAF_STGD.DATA (R294). -/
def SAF_STGD_DATA : Fld := ⟨473, 0, 32, .rw, 0x0, []⟩
/-- SAF_STGN.N (R294). -/
def SAF_STGN_N : Fld := ⟨474, 0, 11, .ro, 0x0, []⟩
/-- SAF_SWAP.MASK (R294). -/
def SAF_SWAP_MASK : Fld := ⟨475, 0, 16, .rw, 0x0, []⟩
/-- SAF_STAT.STG_REJ (R294). -/
def SAF_STAT_STG_REJ : Fld := ⟨476, 0, 1, .w1c, 0x0, []⟩
/-- SAF_STAT.CTL_REJ (R294). -/
def SAF_STAT_CTL_REJ : Fld := ⟨477, 1, 1, .w1c, 0x0, []⟩
/-- SAF_STAT.INDOUBT (R294). -/
def SAF_STAT_INDOUBT : Fld := ⟨478, 2, 1, .ro, 0x0, []⟩
/-- SAF_STAT.ABORTED (R294). -/
def SAF_STAT_ABORTED : Fld := ⟨479, 3, 1, .w1c, 0x0, []⟩
/-- SAF_STAT.SUPERSEDED (R294). -/
def SAF_STAT_SUPERSEDED : Fld := ⟨480, 4, 1, .w1c, 0x0, []⟩
/-- SAF_RESOLVE.ACT (R294). -/
def SAF_RESOLVE_ACT : Fld := ⟨481, 0, 2, .wsc, 0x0, []⟩
/-- SAF_RESOLVE.TXID (R294). -/
def SAF_RESOLVE_TXID : Fld := ⟨482, 16, 16, .rw, 0x0, []⟩
/-- SAF_APPCNT.CNT (R294). -/
def SAF_APPCNT_CNT : Fld := ⟨483, 0, 32, .ro, 0x0, []⟩
/-- FAB_ID.CHIP (R319). -/
def FAB_ID_CHIP : Fld := ⟨484, 0, 9, .ro, 0x0, []⟩
/-- FAB_ID.TROOT (R319). -/
def FAB_ID_TROOT : Fld := ⟨485, 9, 1, .ro, 0x0, []⟩
/-- FAB_ID.SROOT (R319). -/
def FAB_ID_SROOT : Fld := ⟨486, 10, 1, .ro, 0x0, []⟩
/-- FAB_TOPOVER.VER (R319). -/
def FAB_TOPOVER_VER : Fld := ⟨487, 0, 32, .ro, 0x0, []⟩
/-- FAB_TTLDROP.CNT (R319). -/
def FAB_TTLDROP_CNT : Fld := ⟨488, 0, 32, .ro, 0x0, []⟩
/-- FAB_FLSTALE.CNT (R319). -/
def FAB_FLSTALE_CNT : Fld := ⟨489, 0, 32, .ro, 0x0, []⟩
/-- FAB_PCTL.EN (R319). -/
def FAB_PCTL_EN : Fld := ⟨490, 0, 1, .rwl, 0x1, []⟩
/-- FAB_PCTL.RETRAIN (R319). -/
def FAB_PCTL_RETRAIN : Fld := ⟨491, 1, 1, .wsc, 0x0, []⟩
/-- FAB_PSTAT.STATE (R319). -/
def FAB_PSTAT_STATE : Fld := ⟨492, 0, 3, .ro, 0x0, []⟩
/-- FAB_PSTAT.DUPID (R319). -/
def FAB_PSTAT_DUPID : Fld := ⟨493, 3, 1, .w1c, 0x0, []⟩
/-- FAB_PSTAT.FLIGHT (R319). -/
def FAB_PSTAT_FLIGHT : Fld := ⟨494, 4, 12, .ro, 0x0, []⟩
/-- FAB_PSTAT.FAR (R319). -/
def FAB_PSTAT_FAR : Fld := ⟨495, 16, 9, .ro, 0x0, []⟩
/-- FAB_PSTAT.FARV (R319). -/
def FAB_PSTAT_FARV : Fld := ⟨496, 25, 1, .ro, 0x0, []⟩
/-- FAB_PTRANS.CNT (R319). -/
def FAB_PTRANS_CNT : Fld := ⟨497, 0, 32, .ro, 0x0, []⟩
/-- FAB_PRTRN.CNT (R319). -/
def FAB_PRTRN_CNT : Fld := ⟨498, 0, 32, .ro, 0x0, []⟩
/-- FAB_PCV.CNT (R319). -/
def FAB_PCV_CNT : Fld := ⟨499, 0, 32, .ro, 0x0, []⟩
/-- FAB_PFLERR.CNT (R319). -/
def FAB_PFLERR_CNT : Fld := ⟨500, 0, 32, .ro, 0x0, []⟩
/-- FAB_PEERSEL.CHIP (R319). -/
def FAB_PEERSEL_CHIP : Fld := ⟨501, 0, 9, .rw, 0x0, []⟩
/-- FAB_SLPCTL.VOTE (R319). -/
def FAB_SLPCTL_VOTE : Fld := ⟨502, 0, 1, .wsc, 0x0, []⟩
/-- FAB_SLPCTL.WAKE (R319). -/
def FAB_SLPCTL_WAKE : Fld := ⟨503, 1, 1, .wsc, 0x0, []⟩
/-- FAB_SLPSTAT.STATE (R319). -/
def FAB_SLPSTAT_STATE : Fld := ⟨504, 0, 2, .ro, 0x0, []⟩
/-- FAB_SLPSTAT.CANCELLED (R319). -/
def FAB_SLPSTAT_CANCELLED : Fld := ⟨505, 2, 1, .w1c, 0x0, []⟩
/-- FAB_SLPSTAT.CTL_REJ (R319). -/
def FAB_SLPSTAT_CTL_REJ : Fld := ⟨506, 3, 1, .w1c, 0x0, []⟩
/-- FAB_SLPT.NS (R319). -/
def FAB_SLPT_NS : Fld := ⟨507, 0, 32, .ro, 0x0, []⟩
/-- FAB_SLPLEAD.US (R319). -/
def FAB_SLPLEAD_US : Fld := ⟨508, 0, 16, .rwl, 0x14, []⟩
/-- FAB_SYSFL.CODE (R319). -/
def FAB_SYSFL_CODE : Fld := ⟨509, 0, 4, .rw, 0x0, []⟩
/-- FAB_SYSFL.SEND (R319). -/
def FAB_SYSFL_SEND : Fld := ⟨510, 4, 1, .wsc, 0x0, []⟩
/-- FAB_SYSRX.CODE (R319). -/
def FAB_SYSRX_CODE : Fld := ⟨511, 0, 4, .ro, 0x0, []⟩
/-- FAB_SEPOCH.EPOCH (R319). -/
def FAB_SEPOCH_EPOCH : Fld := ⟨512, 0, 16, .ro, 0x0, []⟩
/-- FAB_SSTALE.CNT (R319). -/
def FAB_SSTALE_CNT : Fld := ⟨513, 0, 32, .ro, 0x0, []⟩
/-- SITE_MAP.WORD (R323). -/
def SITE_MAP_WORD : Fld := ⟨514, 0, 32, .ro, 0x0, []⟩
/-- SITE_GSTAT.RESV_OVER (R323). -/
def SITE_GSTAT_RESV_OVER : Fld := ⟨515, 0, 1, .ro, 0x0, []⟩
/-- SITE_GSTAT.MAPCOPY (R323). -/
def SITE_GSTAT_MAPCOPY : Fld := ⟨516, 1, 1, .ro, 0x0, []⟩
/-- SITE_GDIG.DIG (R323). -/
def SITE_GDIG_DIG : Fld := ⟨517, 0, 32, .ro, 0x0, []⟩
/-- SITE_SCTL.RESET (R335). -/
def SITE_SCTL_RESET : Fld := ⟨518, 0, 1, .wsc, 0x0, []⟩
/-- SITE_SSTAT.SCRUB (R335). -/
def SITE_SSTAT_SCRUB : Fld := ⟨519, 0, 1, .ro, 0x1, []⟩
/-- SITE_SSTAT.RESETTING (R335). -/
def SITE_SSTAT_RESETTING : Fld := ⟨520, 1, 1, .ro, 0x0, []⟩
/-- SITE_SSTAT.CONFLICT (R335). -/
def SITE_SSTAT_CONFLICT : Fld := ⟨521, 2, 1, .w1c, 0x0, []⟩
/-- SITE_SCFL.LSRC (R335). -/
def SITE_SCFL_LSRC : Fld := ⟨522, 0, 2, .ro, 0x0, []⟩
/-- SITE_SCFL.WSRC (R335). -/
def SITE_SCFL_WSRC : Fld := ⟨523, 2, 2, .ro, 0x0, []⟩
/-- SITE_SCFLA.ADDR (R335). -/
def SITE_SCFLA_ADDR : Fld := ⟨524, 0, 32, .ro, 0x0, []⟩
/-- SITE_SCFLN.CNT (R335). -/
def SITE_SCFLN_CNT : Fld := ⟨525, 0, 32, .ro, 0x0, []⟩
/-- SITE_SFLWAIT.CNT (R335). -/
def SITE_SFLWAIT_CNT : Fld := ⟨526, 0, 32, .ro, 0x0, []⟩
/-- MEM_STAT.NCH (R357). -/
def MEM_STAT_NCH : Fld := ⟨527, 0, 5, .ro, 0x10, []⟩
/-- MEM_STAT.MODMAP (R357). -/
def MEM_STAT_MODMAP : Fld := ⟨528, 5, 1, .ro, 0x0, []⟩
/-- MEM_STAT.TRBUSY (R357). -/
def MEM_STAT_TRBUSY : Fld := ⟨529, 6, 1, .ro, 0x0, []⟩
/-- MEM_STAT.TRLATE (R357). -/
def MEM_STAT_TRLATE : Fld := ⟨530, 7, 1, .w1c, 0x0, []⟩
/-- MEM_STAT.MIR2 (R357). -/
def MEM_STAT_MIR2 : Fld := ⟨531, 8, 1, .ro, 0x1, []⟩
/-- MEM_CHRET.RET (R357). -/
def MEM_CHRET_RET : Fld := ⟨532, 0, 16, .ro, 0x0, []⟩
/-- MEM_CECNT.CNT (R357). -/
def MEM_CECNT_CNT : Fld := ⟨533, 0, 32, .ro, 0x0, []⟩
/-- MEM_UECNT.CNT (R357). -/
def MEM_UECNT_CNT : Fld := ⟨534, 0, 32, .ro, 0x0, []⟩
/-- MEM_UEADDR_LO.A (R357). -/
def MEM_UEADDR_LO_A : Fld := ⟨535, 0, 32, .ro, 0x0, []⟩
/-- MEM_UEADDR_HI.A (R357). -/
def MEM_UEADDR_HI_A : Fld := ⟨536, 0, 4, .ro, 0x0, []⟩
/-- MEM_UEADDR_HI.DC (R357). -/
def MEM_UEADDR_HI_DC : Fld := ⟨537, 4, 4, .ro, 0x0, []⟩
/-- MEM_SCE.CNT (R357). -/
def MEM_SCE_CNT : Fld := ⟨538, 0, 32, .ro, 0x0, []⟩
/-- MEM_SUE.CNT (R357). -/
def MEM_SUE_CNT : Fld := ⟨539, 0, 32, .ro, 0x0, []⟩
/-- MEM_CHMASK.MASK (R357). -/
def MEM_CHMASK_MASK : Fld := ⟨540, 0, 30, .rwl, 0x10101, [0x10101, 0x20202, 0x40404, 0x80808]⟩
/-- MEM_BKMASK.MASK (R357). -/
def MEM_BKMASK_MASK : Fld := ⟨541, 0, 30, .rwl, 0x101010, [0x101010, 0x202020, 0x404040, 0x808080]⟩
/-- MEM_AGE.LIM (R357). -/
def MEM_AGE_LIM : Fld := ⟨542, 0, 20, .rwl, 0x100, [0x100, 0x800, 0x1000, 0x10000]⟩
/-- MEM_PGHINT.OPEN (R357). -/
def MEM_PGHINT_OPEN : Fld := ⟨543, 0, 4, .rwl, 0x7, []⟩
/-- MEM_PDCFG.PD1EN (R357). -/
def MEM_PDCFG_PD1EN : Fld := ⟨544, 0, 1, .rwl, 0x1, []⟩
/-- MEM_PDCFG.PD2EN (R357). -/
def MEM_PDCFG_PD2EN : Fld := ⟨545, 1, 1, .rwl, 0x1, []⟩
/-- MEM_PDSTAT.LVL (R357). -/
def MEM_PDSTAT_LVL : Fld := ⟨546, 0, 32, .ro, 0x0, []⟩
/-- MEM_TRCFG.TSITE (R357). -/
def MEM_TRCFG_TSITE : Fld := ⟨547, 0, 4, .rwl, 0x0, []⟩
/-- MEM_TRCFG.TSITEV (R357). -/
def MEM_TRCFG_TSITEV : Fld := ⟨548, 4, 1, .rwl, 0x0, []⟩
/-- MEM_TRCFG.TRINT (R357). -/
def MEM_TRCFG_TRINT : Fld := ⟨549, 16, 16, .rwl, 0x64, []⟩
/-- MEM_TRCNT.CNT (R357). -/
def MEM_TRCNT_CNT : Fld := ⟨550, 0, 32, .ro, 0x0, []⟩
/-- MEM_TRLAST.NS (R357). -/
def MEM_TRLAST_NS : Fld := ⟨551, 0, 32, .ro, 0x0, []⟩
/-- MEM_RETAIN.RET (R357). -/
def MEM_RETAIN_RET : Fld := ⟨552, 0, 16, .rw, 0x0, []⟩
/-- MEM_DBLFRONT.FRONT (R357). -/
def MEM_DBLFRONT_FRONT : Fld := ⟨553, 0, 16, .ro, 0x0, []⟩
/-- MEM_RLOST.LOST (R357). -/
def MEM_RLOST_LOST : Fld := ⟨554, 0, 16, .w1c, 0x0, []⟩
/-- MEM_CHTR.WMARG (R357). -/
def MEM_CHTR_WMARG : Fld := ⟨555, 0, 8, .ro, 0x0, []⟩
/-- MEM_CHTR.RMARG (R357). -/
def MEM_CHTR_RMARG : Fld := ⟨556, 8, 8, .ro, 0x0, []⟩
/-- MEM_CHTR.INSVC (R357). -/
def MEM_CHTR_INSVC : Fld := ⟨557, 16, 1, .ro, 0x0, []⟩
/-- MEM_CHTR.ATT (R357). -/
def MEM_CHTR_ATT : Fld := ⟨558, 24, 8, .ro, 0x0, []⟩
/-- MEM_CHCE.CNT (R357). -/
def MEM_CHCE_CNT : Fld := ⟨559, 0, 32, .ro, 0x0, []⟩
/-- CLK_REF.REFOK (R369). -/
def CLK_REF_REFOK : Fld := ⟨560, 0, 1, .ro, 0x0, []⟩
/-- CLK_REF.REFLOSS (R369). -/
def CLK_REF_REFLOSS : Fld := ⟨561, 1, 1, .w1c, 0x0, []⟩
/-- CLK_REF.LCNT (R369). -/
def CLK_REF_LCNT : Fld := ⟨562, 16, 16, .ro, 0x0, []⟩
/-- CLK_LPCFG.RDIV (R369). -/
def CLK_LPCFG_RDIV : Fld := ⟨563, 0, 5, .rwl, 0x1, []⟩
/-- CLK_LPCFG.NDIV (R369). -/
def CLK_LPCFG_NDIV : Fld := ⟨564, 5, 12, .rwl, 0x80, []⟩
/-- CLK_LPCFG.OWN (R369). -/
def CLK_LPCFG_OWN : Fld := ⟨565, 17, 4, .rwl, 0x0, []⟩
/-- CLK_LPCFG.OWNV (R369). -/
def CLK_LPCFG_OWNV : Fld := ⟨566, 21, 1, .rwl, 0x0, []⟩
/-- CLK_LPSSC.DEPTH (R369). -/
def CLK_LPSSC_DEPTH : Fld := ⟨567, 0, 13, .rwl, 0x0, []⟩
/-- CLK_LPSSC.CENTRE (R369). -/
def CLK_LPSSC_CENTRE : Fld := ⟨568, 13, 1, .rwl, 0x0, []⟩
/-- CLK_LPSSC.FMOD (R369). -/
def CLK_LPSSC_FMOD : Fld := ⟨569, 14, 9, .rwl, 0x12c, []⟩
/-- CLK_LPO.DIV (R369). -/
def CLK_LPO_DIV : Fld := ⟨570, 0, 4, .rw, 0x2, []⟩
/-- CLK_LPO.DLY (R369). -/
def CLK_LPO_DLY : Fld := ⟨571, 4, 6, .rw, 0x0, []⟩
/-- CLK_LPO.EN (R369). -/
def CLK_LPO_EN : Fld := ⟨572, 10, 1, .rw, 0x1, []⟩
/-- CLK_LPL.DIV (R369). -/
def CLK_LPL_DIV : Fld := ⟨573, 0, 4, .ro, 0x2, []⟩
/-- CLK_LPL.DLY (R369). -/
def CLK_LPL_DLY : Fld := ⟨574, 4, 6, .ro, 0x0, []⟩
/-- CLK_LPL.EN (R369). -/
def CLK_LPL_EN : Fld := ⟨575, 10, 1, .ro, 0x1, []⟩
/-- CLK_LPCTL.UPDNOW (R369). -/
def CLK_LPCTL_UPDNOW : Fld := ⟨576, 0, 1, .wsc, 0x0, []⟩
/-- CLK_LPSTAT.LOCK (R369). -/
def CLK_LPSTAT_LOCK : Fld := ⟨577, 0, 1, .ro, 0x0, []⟩
/-- CLK_LPSTAT.LOL (R369). -/
def CLK_LPSTAT_LOL : Fld := ⟨578, 1, 1, .w1c, 0x0, []⟩
/-- CLK_LPSTAT.BYP (R369). -/
def CLK_LPSTAT_BYP : Fld := ⟨579, 2, 1, .ro, 0x0, []⟩
/-- CLK_LPSTAT.UPD_REJ (R369). -/
def CLK_LPSTAT_UPD_REJ : Fld := ⟨580, 3, 1, .w1c, 0x0, []⟩
/-- CLK_LPSTAT.CFG_REJ (R369). -/
def CLK_LPSTAT_CFG_REJ : Fld := ⟨581, 4, 1, .w1c, 0x0, []⟩
/-- CLK_LPSTAT.SSCON (R369). -/
def CLK_LPSTAT_SSCON : Fld := ⟨582, 5, 1, .ro, 0x0, []⟩
/-- CLK_LPSTAT.LOLCNT (R369). -/
def CLK_LPSTAT_LOLCNT : Fld := ⟨583, 16, 16, .ro, 0x0, []⟩
/-- CLK_CORESTAT.LOCK (R369). -/
def CLK_CORESTAT_LOCK : Fld := ⟨584, 0, 1, .ro, 0x0, []⟩
/-- CLK_CORESTAT.LOL (R369). -/
def CLK_CORESTAT_LOL : Fld := ⟨585, 1, 1, .w1c, 0x0, []⟩
/-- CLK_CORESTAT.BYP (R369). -/
def CLK_CORESTAT_BYP : Fld := ⟨586, 2, 1, .ro, 0x0, []⟩
/-- CLK_CORESTAT.LOLCNT (R369). -/
def CLK_CORESTAT_LOLCNT : Fld := ⟨587, 16, 16, .ro, 0x0, []⟩
/-- CLK_TBSTAT.LOCK (R369). -/
def CLK_TBSTAT_LOCK : Fld := ⟨588, 0, 1, .ro, 0x0, []⟩
/-- CLK_TBSTAT.LOL (R369). -/
def CLK_TBSTAT_LOL : Fld := ⟨589, 1, 1, .w1c, 0x0, []⟩
/-- CLK_TBSTAT.BYP (R369). -/
def CLK_TBSTAT_BYP : Fld := ⟨590, 2, 1, .ro, 0x0, []⟩
/-- CLK_TBSTAT.LOLCNT (R369). -/
def CLK_TBSTAT_LOLCNT : Fld := ⟨591, 16, 16, .ro, 0x0, []⟩
/-- OCT_CKSEL.OUT (R369). -/
def OCT_CKSEL_OUT : Fld := ⟨592, 0, 2, .sh, 0x0, []⟩
/-- OCT_CKSEL.LP (R369). -/
def OCT_CKSEL_LP : Fld := ⟨593, 2, 2, .sh, 0x0, []⟩
/-- OCT_CKSTAT.FLINE (R369). -/
def OCT_CKSTAT_FLINE : Fld := ⟨594, 0, 24, .ro, 0x0, []⟩
/-- OCT_CKSTAT.UNCLK (R369). -/
def OCT_CKSTAT_UNCLK : Fld := ⟨595, 24, 1, .ro, 0x1, []⟩
/-- OCT_CKSTAT.CKSEL_REJ (R369). -/
def OCT_CKSTAT_CKSEL_REJ : Fld := ⟨596, 25, 1, .w1c, 0x0, []⟩
/-- FLT_STAT.CSRC (R401). -/
def FLT_STAT_CSRC : Fld := ⟨597, 0, 7, .ro, 0x20, []⟩
/-- FLT_STAT.CSAFE (R401). -/
def FLT_STAT_CSAFE : Fld := ⟨598, 8, 1, .ro, 0x1, []⟩
/-- FLT_STAT.CLATCH (R401). -/
def FLT_STAT_CLATCH : Fld := ⟨599, 9, 1, .ro, 0x0, []⟩
/-- FLT_STAT.ERR (R401). -/
def FLT_STAT_ERR : Fld := ⟨600, 10, 1, .ro, 0x1, []⟩
/-- FLT_STAT.FLTIN_LINE (R401). -/
def FLT_STAT_FLTIN_LINE : Fld := ⟨601, 11, 1, .w1c, 0x0, []⟩
/-- FLT_STAT.NVMFAIL (R401). -/
def FLT_STAT_NVMFAIL : Fld := ⟨602, 12, 1, .w1c, 0x0, []⟩
/-- FLT_STAT.WIREF (R401). -/
def FLT_STAT_WIREF : Fld := ⟨603, 13, 1, .w1c, 0x0, []⟩
/-- FLT_STAT.SSAFE (R401). -/
def FLT_STAT_SSAFE : Fld := ⟨604, 16, 16, .ro, 0xffff, []⟩
/-- FLT_CFG.ERRSITE (R401). -/
def FLT_CFG_ERRSITE : Fld := ⟨605, 0, 16, .rwl, 0xffff, []⟩
/-- FLT_CFG.FLTINEN (R401). -/
def FLT_CFG_FLTINEN : Fld := ⟨606, 16, 1, .rwl, 0x1, []⟩
/-- FLT_QUIET.QMS (R401). -/
def FLT_QUIET_QMS : Fld := ⟨607, 0, 16, .rwl, 0x3e8, []⟩
/-- FLT_RLIM.RLIM (R401). -/
def FLT_RLIM_RLIM : Fld := ⟨608, 0, 16, .rwl, 0xa, []⟩
/-- FLT_ILK.ACL (R401). -/
def FLT_ILK_ACL : Fld := ⟨609, 0, 1, .ro, 0x0, []⟩
/-- FLT_ILK.BCL (R401). -/
def FLT_ILK_BCL : Fld := ⟨610, 1, 1, .ro, 0x0, []⟩
/-- FLT_ILK.DISCREP (R401). -/
def FLT_ILK_DISCREP : Fld := ⟨611, 2, 1, .ro, 0x0, []⟩
/-- FLT_ILK.OPENED (R401). -/
def FLT_ILK_OPENED : Fld := ⟨612, 3, 1, .w1c, 0x0, []⟩
/-- FLT_ILK.DTIME (R401). -/
def FLT_ILK_DTIME : Fld := ⟨613, 16, 10, .rwl, 0x64, []⟩
/-- FLT_ILKCNT.OPN (R401). -/
def FLT_ILKCNT_OPN : Fld := ⟨614, 0, 16, .ro, 0x0, []⟩
/-- FLT_ILKCNT.DSC (R401). -/
def FLT_ILKCNT_DSC : Fld := ⟨615, 16, 16, .ro, 0x0, []⟩
/-- FLT_WIRE.SRC (R401). -/
def FLT_WIRE_SRC : Fld := ⟨616, 0, 4, .ro, 0x0, []⟩
/-- FLT_WIRE.CHIPSRC (R401). -/
def FLT_WIRE_CHIPSRC : Fld := ⟨617, 4, 1, .ro, 0x0, []⟩
/-- FLT_WIRE.SITE (R401). -/
def FLT_WIRE_SITE : Fld := ⟨618, 5, 4, .ro, 0x0, []⟩
/-- FLT_WIRE.CNT (R401). -/
def FLT_WIRE_CNT : Fld := ⟨619, 16, 16, .ro, 0x0, []⟩
/-- FLT_RCNT.RCNT (R401). -/
def FLT_RCNT_RCNT : Fld := ⟨620, 0, 32, .ro, 0x0, []⟩
/-- FLT_RBASE.RBASE (R401). -/
def FLT_RBASE_RBASE : Fld := ⟨621, 0, 32, .ro, 0x0, []⟩
/-- FLT_SSRC.SRC (R401). -/
def FLT_SSRC_SRC : Fld := ⟨622, 0, 13, .ro, 0x0, []⟩
/-- FLT_SSRC.SAFE (R401). -/
def FLT_SSRC_SAFE : Fld := ⟨623, 13, 1, .ro, 0x1, []⟩
/-- FLT_SSRC.LATCHED (R401). -/
def FLT_SSRC_LATCHED : Fld := ⟨624, 14, 1, .ro, 0x0, []⟩
/-- FLT_SSRC.QUIETING (R401). -/
def FLT_SSRC_QUIETING : Fld := ⟨625, 15, 1, .ro, 0x0, []⟩
/-- FLT_SSRC.STK (R401). -/
def FLT_SSRC_STK : Fld := ⟨626, 16, 13, .w1c, 0x0, []⟩
/-- FLT_SCTL.CLEAR (R401). -/
def FLT_SCTL_CLEAR : Fld := ⟨627, 0, 1, .wsc, 0x0, []⟩
/-- MON_SEL.SEL (R410). -/
def MON_SEL_SEL : Fld := ⟨628, 0, 5, .rw, 0x18, []⟩
/-- MON_CTL.SNAP (R410). -/
def MON_CTL_SNAP : Fld := ⟨629, 0, 1, .wsc, 0x0, []⟩
/-- MON_CTL.CLR (R410). -/
def MON_CTL_CLR : Fld := ⟨630, 1, 1, .wsc, 0x0, []⟩
/-- MON_STAT.CUR (R410). -/
def MON_STAT_CUR : Fld := ⟨631, 0, 5, .ro, 0x18, []⟩
/-- MON_STAT.DLEFT (R410). -/
def MON_STAT_DLEFT : Fld := ⟨632, 5, 2, .ro, 0x0, []⟩
/-- MON_SNT.NS (R410). -/
def MON_SNT_NS : Fld := ⟨633, 0, 32, .ro, 0x0, []⟩
/-- MON_CONV.CNT (R410). -/
def MON_CONV_CNT : Fld := ⟨634, 0, 32, .ro, 0x0, []⟩
/-- MON_SUM_LO.SUM (R410). -/
def MON_SUM_LO_SUM : Fld := ⟨635, 0, 32, .ro, 0x0, []⟩
/-- MON_SUM_HI.SUM (R410). -/
def MON_SUM_HI_SUM : Fld := ⟨636, 0, 16, .ro, 0x0, []⟩
/-- MON_CNT.CNT (R410). -/
def MON_CNT_CNT : Fld := ⟨637, 0, 32, .ro, 0x0, []⟩
/-- MON_MM.MIN (R410). -/
def MON_MM_MIN : Fld := ⟨638, 0, 16, .ro, 0xffff, []⟩
/-- MON_MM.MAX (R410). -/
def MON_MM_MAX : Fld := ⟨639, 16, 16, .ro, 0x0, []⟩
/-- MON_FLG.OVR (R410). -/
def MON_FLG_OVR : Fld := ⟨640, 0, 1, .w1c, 0x0, []⟩
/-- MON_FLG.SATF (R410). -/
def MON_FLG_SATF : Fld := ⟨641, 1, 1, .ro, 0x0, []⟩
/-- MON_OVRCNT.CNT (R410). -/
def MON_OVRCNT_CNT : Fld := ⟨642, 0, 32, .ro, 0x0, []⟩
/-- MON_DISC.CNT (R410). -/
def MON_DISC_CNT : Fld := ⟨643, 0, 32, .ro, 0x0, []⟩
/-- GLB_ID.PART (R432). -/
def GLB_ID_PART : Fld := ⟨644, 0, 16, .ro, 0x6464, []⟩
/-- GLB_ID.GRADE (R432). -/
def GLB_ID_GRADE : Fld := ⟨645, 16, 4, .ro, 0x1, []⟩
/-- GLB_ID.STEP (R432). -/
def GLB_ID_STEP : Fld := ⟨646, 20, 8, .ro, 0xb0, []⟩
/-- GLB_BOOTSTAT.PHASE (R432). -/
def GLB_BOOTSTAT_PHASE : Fld := ⟨647, 0, 4, .ro, 0x0, []⟩
/-- GLB_BOOTSTAT.SLOWRD (R432). -/
def GLB_BOOTSTAT_SLOWRD : Fld := ⟨648, 4, 1, .ro, 0x0, []⟩
/-- GLB_BOOTSTAT.FBUSED (R432). -/
def GLB_BOOTSTAT_FBUSED : Fld := ⟨649, 5, 1, .ro, 0x0, []⟩
/-- GLB_BOOTSTAT.FAILSEC (R432). -/
def GLB_BOOTSTAT_FAILSEC : Fld := ⟨650, 8, 6, .ro, 0x0, []⟩
/-- GLB_BOOTSTAT.FAILWHY (R432). -/
def GLB_BOOTSTAT_FAILWHY : Fld := ⟨651, 16, 3, .ro, 0x0, []⟩
/-- GLB_FBMASK_LO.FB (R432). -/
def GLB_FBMASK_LO_FB : Fld := ⟨652, 0, 32, .ro, 0x0, []⟩
/-- GLB_FBMASK_HI.FB (R432). -/
def GLB_FBMASK_HI_FB : Fld := ⟨653, 0, 32, .ro, 0x0, []⟩
/-- GLB_IMGVER.PRI (R432). -/
def GLB_IMGVER_PRI : Fld := ⟨654, 0, 16, .ro, 0xffff, []⟩
/-- GLB_IMGVER.FBK (R432). -/
def GLB_IMGVER_FBK : Fld := ⟨655, 16, 16, .ro, 0xffff, []⟩
/-- GLB_BOOTT.US (R432). -/
def GLB_BOOTT_US : Fld := ⟨656, 0, 32, .ro, 0x0, []⟩
/-- GLB_PWRCTL.REQ (R432). -/
def GLB_PWRCTL_REQ : Fld := ⟨657, 0, 2, .rw, 0x0, []⟩
/-- GLB_PWRCTL.GO (R432). -/
def GLB_PWRCTL_GO : Fld := ⟨658, 2, 1, .wsc, 0x0, []⟩
/-- GLB_PWRSTAT.STATE (R432). -/
def GLB_PWRSTAT_STATE : Fld := ⟨659, 0, 2, .ro, 0x0, []⟩
/-- GLB_PWRSTAT.BUSY (R432). -/
def GLB_PWRSTAT_BUSY : Fld := ⟨660, 2, 1, .ro, 0x0, []⟩
/-- GLB_PWRSTAT.PWR_REJ (R432). -/
def GLB_PWRSTAT_PWR_REJ : Fld := ⟨661, 3, 1, .w1c, 0x0, []⟩
/-- GLB_PWRSTAT.CANCELLED (R432). -/
def GLB_PWRSTAT_CANCELLED : Fld := ⟨662, 4, 1, .w1c, 0x0, []⟩
/-- GLB_RSTCAUSE.COLD (R432). -/
def GLB_RSTCAUSE_COLD : Fld := ⟨663, 0, 1, .ro, 0x0, []⟩
/-- GLB_RSTCAUSE.PGLOSS (R432). -/
def GLB_RSTCAUSE_PGLOSS : Fld := ⟨664, 1, 1, .ro, 0x0, []⟩
/-- GLB_RSTCAUSE.WAKEUP (R432). -/
def GLB_RSTCAUSE_WAKEUP : Fld := ⟨665, 2, 1, .ro, 0x0, []⟩
/-- GLB_RSTCAUSE.REBOOT (R432). -/
def GLB_RSTCAUSE_REBOOT : Fld := ⟨666, 3, 1, .ro, 0x0, []⟩
/-- GLB_RSTCAUSE.SELFREC (R432). -/
def GLB_RSTCAUSE_SELFREC : Fld := ⟨667, 4, 1, .ro, 0x0, []⟩
/-- GLB_RSTCTL.REBOOT (R432). -/
def GLB_RSTCTL_REBOOT : Fld := ⟨668, 0, 1, .wsc, 0x0, []⟩
/-- NVM_STAT.BUSY (R433). -/
def NVM_STAT_BUSY : Fld := ⟨669, 0, 1, .ro, 0x0, []⟩
/-- NVM_STAT.DONE (R433). -/
def NVM_STAT_DONE : Fld := ⟨670, 1, 1, .w1c, 0x0, []⟩
/-- NVM_STAT.FAIL (R433). -/
def NVM_STAT_FAIL : Fld := ⟨671, 2, 1, .w1c, 0x0, []⟩
/-- NVM_STAT.KEYARM (R433). -/
def NVM_STAT_KEYARM : Fld := ⟨672, 3, 1, .ro, 0x0, []⟩
/-- NVM_STAT.PSCOPY (R433). -/
def NVM_STAT_PSCOPY : Fld := ⟨673, 4, 1, .ro, 0x0, []⟩
/-- NVM_STAT.PSVALID (R433). -/
def NVM_STAT_PSVALID : Fld := ⟨674, 5, 1, .ro, 0x0, []⟩
/-- NVM_KEY.KEY (R433). -/
def NVM_KEY_KEY : Fld := ⟨675, 0, 32, .rw, 0x0, []⟩
/-- NVM_CMD.CMD (R433). -/
def NVM_CMD_CMD : Fld := ⟨676, 0, 3, .rw, 0x0, []⟩
/-- NVM_CMD.SLOT (R433). -/
def NVM_CMD_SLOT : Fld := ⟨677, 3, 1, .rw, 0x0, []⟩
/-- NVM_CMD.GO (R433). -/
def NVM_CMD_GO : Fld := ⟨678, 4, 1, .wsc, 0x0, []⟩
/-- NVM_KSTAT.K0 (R433). -/
def NVM_KSTAT_K0 : Fld := ⟨679, 0, 2, .ro, 0x0, []⟩
/-- NVM_KSTAT.K1 (R433). -/
def NVM_KSTAT_K1 : Fld := ⟨680, 2, 2, .ro, 0x0, []⟩
/-- NVM_PSSEQ.SEQ (R433). -/
def NVM_PSSEQ_SEQ : Fld := ⟨681, 0, 32, .ro, 0x0, []⟩
/-- NVM_FLHEAD.HEAD (R433). -/
def NVM_FLHEAD_HEAD : Fld := ⟨682, 0, 9, .ro, 0x0, []⟩
/-- NVM_FLCNT.CNT (R433). -/
def NVM_FLCNT_CNT : Fld := ⟨683, 0, 32, .ro, 0x0, []⟩
/-- NVM_FLDROP.CNT (R433). -/
def NVM_FLDROP_CNT : Fld := ⟨684, 0, 32, .ro, 0x0, []⟩
/-- NVM_WEAR.MAX (R433). -/
def NVM_WEAR_MAX : Fld := ⟨685, 0, 17, .ro, 0x0, []⟩
/-- NVM_KDIG.DIG (R433). -/
def NVM_KDIG_DIG : Fld := ⟨686, 0, 32, .ro, 0x0, []⟩
/-- HST_RBASE_LO.BASE (R441). -/
def HST_RBASE_LO_BASE : Fld := ⟨687, 0, 32, .rw, 0x0, []⟩
/-- HST_RBASE_HI.BASE (R441). -/
def HST_RBASE_HI_BASE : Fld := ⟨688, 0, 32, .rw, 0x0, []⟩
/-- HST_RCFG.LOG2N (R441). -/
def HST_RCFG_LOG2N : Fld := ⟨689, 0, 5, .rw, 0x0, []⟩
/-- HST_RCFG.EN (R441). -/
def HST_RCFG_EN : Fld := ⟨690, 31, 1, .rw, 0x0, []⟩
/-- HST_RPROD.PROD (R441). -/
def HST_RPROD_PROD : Fld := ⟨691, 0, 32, .rw, 0x0, []⟩
/-- HST_RCONS.CONS (R441). -/
def HST_RCONS_CONS : Fld := ⟨692, 0, 32, .rw, 0x0, []⟩
/-- HST_CQSEQ.CSEQ (R441). -/
def HST_CQSEQ_CSEQ : Fld := ⟨693, 0, 32, .ro, 0x0, []⟩
/-- HST_SIERR.IDX (R441). -/
def HST_SIERR_IDX : Fld := ⟨694, 0, 32, .ro, 0x0, []⟩
/-- HST_SIERRC.RSN (R441). -/
def HST_SIERRC_RSN : Fld := ⟨695, 0, 3, .ro, 0x0, []⟩
/-- HST_EVT.EVT (R446). -/
def HST_EVT_EVT : Fld := ⟨696, 0, 16, .w1c, 0x0, []⟩
/-- HST_EVMSK.MSK (R446). -/
def HST_EVMSK_MSK : Fld := ⟨697, 0, 16, .rw, 0xffff, [0xffff, 0xffff, 0xffff, 0xffff, 0xffff, 0xffff, 0xffff, 0xffff, 0xffff, 0xffff, 0xffff, 0xffff, 0xffff, 0xffff, 0xffff, 0xffff, 0xff]⟩
/-- HST_WIN.BASE (R441). -/
def HST_WIN_BASE : Fld := ⟨698, 0, 6, .rw, 0x0, []⟩
/-- HST_ERR.SZ (R441). -/
def HST_ERR_SZ : Fld := ⟨699, 0, 1, .w1c, 0x0, []⟩
/-- HST_ERR.CFGERR (R441). -/
def HST_ERR_CFGERR : Fld := ⟨700, 1, 1, .w1c, 0x0, []⟩
/-- HST_ERR.PTRERR (R441). -/
def HST_ERR_PTRERR : Fld := ⟨701, 2, 1, .w1c, 0x0, []⟩
/-- HST_ERR.DMAERR (R441). -/
def HST_ERR_DMAERR : Fld := ⟨702, 3, 1, .w1c, 0x0, []⟩
/-- MSIX_ADDR_LO.ADDR (R435). -/
def MSIX_ADDR_LO_ADDR : Fld := ⟨703, 0, 32, .rw, 0x0, []⟩
/-- MSIX_ADDR_HI.ADDR (R435). -/
def MSIX_ADDR_HI_ADDR : Fld := ⟨704, 0, 32, .rw, 0x0, []⟩
/-- MSIX_DATA.DATA (R435). -/
def MSIX_DATA_DATA : Fld := ⟨705, 0, 32, .rw, 0x0, []⟩
/-- MSIX_CTRL.MASK (R435). -/
def MSIX_CTRL_MASK : Fld := ⟨706, 0, 1, .rw, 0x1, []⟩
/-- MSIX_PBA.PEND (R435). -/
def MSIX_PBA_PEND : Fld := ⟨707, 0, 32, .ro, 0x0, []⟩

end F

namespace R

/-- OCT_PERS (R29). -/
def OCT_PERS : RegDesc :=
  ⟨"OCT_PERS", 0x1000000, [(0x100000, 8)], false, some 0x40, .oct0, .octany,
    [F.OCT_PERS_PERS]⟩
/-- OCT_OSTAT (R32). -/
def OCT_OSTAT : RegDesc :=
  ⟨"OCT_OSTAT", 0x1000080, [(0x100000, 8)], false, none, .pf, .octany,
    [F.OCT_OSTAT_PERS_REJ, F.OCT_OSTAT_CLVPOS, F.OCT_OSTAT_CLVBUSY]⟩
/-- OCT_TXAMP (R34). -/
def OCT_TXAMP : RegDesc :=
  ⟨"OCT_TXAMP", 0x1001000, [(0x100000, 8), (0x80, 8)], false, some 0x40, .chan, .chan,
    [F.OCT_TXAMP_AMP]⟩
/-- OCT_TXFFE0 (R35). -/
def OCT_TXFFE0 : RegDesc :=
  ⟨"OCT_TXFFE0", 0x1001004, [(0x100000, 8), (0x80, 8)], false, some 0x40, .chan, .chan,
    [F.OCT_TXFFE0_PRE2, F.OCT_TXFFE0_PRE1, F.OCT_TXFFE0_MAIN, F.OCT_TXFFE0_POST1]⟩
/-- OCT_TXFFE1 (R35). -/
def OCT_TXFFE1 : RegDesc :=
  ⟨"OCT_TXFFE1", 0x1001008, [(0x100000, 8), (0x80, 8)], false, some 0x40, .chan, .chan,
    [F.OCT_TXFFE1_POST2, F.OCT_TXFFE1_POST3]⟩
/-- OCT_RXCFG (R38). -/
def OCT_RXCFG : RegDesc :=
  ⟨"OCT_RXCFG", 0x100100c, [(0x100000, 8), (0x80, 8)], false, some 0x40, .chan, .chan,
    [F.OCT_RXCFG_CTLE, F.OCT_RXCFG_FS, F.OCT_RXCFG_ACM, F.OCT_RXCFG_FFEEN, F.OCT_RXCFG_DFEEN, F.OCT_RXCFG_ADAPT]⟩
/-- OCT_THR (R42). -/
def OCT_THR : RegDesc :=
  ⟨"OCT_THR", 0x1001010, [(0x100000, 8), (0x80, 8)], false, some 0x40, .chan, .chan,
    [F.OCT_THR_THR, F.OCT_THR_SLOPE, F.OCT_THR_HYST]⟩
/-- OCT_LBCFG (R46). -/
def OCT_LBCFG : RegDesc :=
  ⟨"OCT_LBCFG", 0x1001014, [(0x100000, 8), (0x80, 8)], false, some 0x40, .chan, .chan,
    [F.OCT_LBCFG_NEAR]⟩
/-- OCT_RXCOEF0 (R40). -/
def OCT_RXCOEF0 : RegDesc :=
  ⟨"OCT_RXCOEF0", 0x1001020, [(0x100000, 8), (0x80, 8)], false, some 0x40, .chan, .chan,
    [F.OCT_RXCOEF0_F0, F.OCT_RXCOEF0_F1, F.OCT_RXCOEF0_F2, F.OCT_RXCOEF0_F3]⟩
/-- OCT_RXCOEF1 (R40). -/
def OCT_RXCOEF1 : RegDesc :=
  ⟨"OCT_RXCOEF1", 0x1001024, [(0x100000, 8), (0x80, 8)], false, some 0x40, .chan, .chan,
    [F.OCT_RXCOEF1_F4, F.OCT_RXCOEF1_F5, F.OCT_RXCOEF1_F6, F.OCT_RXCOEF1_F7]⟩
/-- OCT_RXCOEF2 (R40). -/
def OCT_RXCOEF2 : RegDesc :=
  ⟨"OCT_RXCOEF2", 0x1001028, [(0x100000, 8), (0x80, 8)], false, some 0x40, .chan, .chan,
    [F.OCT_RXCOEF2_F8, F.OCT_RXCOEF2_F9, F.OCT_RXCOEF2_F10, F.OCT_RXCOEF2_F11]⟩
/-- OCT_RXCOEF3 (R40). -/
def OCT_RXCOEF3 : RegDesc :=
  ⟨"OCT_RXCOEF3", 0x100102c, [(0x100000, 8), (0x80, 8)], false, some 0x40, .chan, .chan,
    [F.OCT_RXCOEF3_D1]⟩
/-- OCT_FESTAT (R50). -/
def OCT_FESTAT : RegDesc :=
  ⟨"OCT_FESTAT", 0x1001070, [(0x100000, 8), (0x80, 8)], false, none, .chanpf, .chan,
    [F.OCT_FESTAT_CLAMP, F.OCT_FESTAT_FFE_REJ, F.OCT_FESTAT_CFG_REJ, F.OCT_FESTAT_IDLE, F.OCT_FESTAT_ONCLV, F.OCT_FESTAT_RETIRED, F.OCT_FESTAT_SIGDET]⟩
/-- OCT_TSPER (R57). -/
def OCT_TSPER : RegDesc :=
  ⟨"OCT_TSPER", 0x1010000, [(0x100000, 8), (0x100, 64), (0x20, 8)], false, some 0x4000, .chants, .chants,
    [F.OCT_TSPER_PER, F.OCT_TSPER_FMT, F.OCT_TSPER_SMODE]⟩
/-- OCT_TSDA (R57). -/
def OCT_TSDA : RegDesc :=
  ⟨"OCT_TSDA", 0x1010004, [(0x100000, 8), (0x100, 64), (0x20, 8)], false, some 0x4000, .chants, .chants,
    [F.OCT_TSDA_DA]⟩
/-- OCT_TSDB (R57). -/
def OCT_TSDB : RegDesc :=
  ⟨"OCT_TSDB", 0x1010008, [(0x100000, 8), (0x100, 64), (0x20, 8)], false, some 0x4000, .chants, .chants,
    [F.OCT_TSDB_DB]⟩
/-- OCT_TSDC (R57). -/
def OCT_TSDC : RegDesc :=
  ⟨"OCT_TSDC", 0x101000c, [(0x100000, 8), (0x100, 64), (0x20, 8)], false, some 0x4000, .chants, .chants,
    [F.OCT_TSDC_DC]⟩
/-- OCT_TSSA (R57). -/
def OCT_TSSA : RegDesc :=
  ⟨"OCT_TSSA", 0x1010010, [(0x100000, 8), (0x100, 64), (0x20, 8)], false, some 0x4000, .chants, .chants,
    [F.OCT_TSSA_SA]⟩
/-- OCT_TSSB (R57). -/
def OCT_TSSB : RegDesc :=
  ⟨"OCT_TSSB", 0x1010014, [(0x100000, 8), (0x100, 64), (0x20, 8)], false, some 0x4000, .chants, .chants,
    [F.OCT_TSSB_SB]⟩
/-- OCT_BBPAGE (R71). -/
def OCT_BBPAGE : RegDesc :=
  ⟨"OCT_BBPAGE", 0x1000200, [(0x100000, 8)], true, none, .fn, .fn,
    [F.OCT_BBPAGE_PAGE]⟩
/-- OCT_FETCH (R74). -/
def OCT_FETCH : RegDesc :=
  ⟨"OCT_FETCH", 0x1000100, [(0x100000, 8)], false, some 0x40, .oct0, .octany,
    [F.OCT_FETCH_ROT, F.OCT_FETCH_REV]⟩
/-- MEM_VSBASE_LO (R78). -/
def MEM_VSBASE_LO : RegDesc :=
  ⟨"MEM_VSBASE_LO", 0x248000, [(0x40, 4)], false, none, .vs, .vs,
    [F.MEM_VSBASE_LO_BASE]⟩
/-- MEM_VSBASE_HI (R78). -/
def MEM_VSBASE_HI : RegDesc :=
  ⟨"MEM_VSBASE_HI", 0x248004, [(0x40, 4)], false, none, .vs, .vs,
    [F.MEM_VSBASE_HI_BASE]⟩
/-- MEM_VSLEN (R78). -/
def MEM_VSLEN : RegDesc :=
  ⟨"MEM_VSLEN", 0x248008, [(0x40, 4)], false, none, .vs, .vs,
    [F.MEM_VSLEN_LEN]⟩
/-- MEM_VSCFG (R78). -/
def MEM_VSCFG : RegDesc :=
  ⟨"MEM_VSCFG", 0x24800c, [(0x40, 4)], false, none, .vs, .vs,
    [F.MEM_VSCFG_OCTM, F.MEM_VSCFG_FDEPTH]⟩
/-- MEM_VSFBASE (R78). -/
def MEM_VSFBASE : RegDesc :=
  ⟨"MEM_VSFBASE", 0x248010, [(0x40, 4)], false, none, .vs, .vs,
    [F.MEM_VSFBASE_FBASE]⟩
/-- MEM_VSRATE (R78). -/
def MEM_VSRATE : RegDesc :=
  ⟨"MEM_VSRATE", 0x248014, [(0x40, 4)], false, none, .vs, .vs,
    [F.MEM_VSRATE_MINPER]⟩
/-- MEM_VSCHM_LO (R78). -/
def MEM_VSCHM_LO : RegDesc :=
  ⟨"MEM_VSCHM_LO", 0x248018, [(0x40, 4)], false, none, .vs, .vs,
    [F.MEM_VSCHM_LO_CHM]⟩
/-- MEM_VSCHM_HI (R78). -/
def MEM_VSCHM_HI : RegDesc :=
  ⟨"MEM_VSCHM_HI", 0x24801c, [(0x40, 4)], false, none, .vs, .vs,
    [F.MEM_VSCHM_HI_CHM]⟩
/-- MEM_VSCTL (R78). -/
def MEM_VSCTL : RegDesc :=
  ⟨"MEM_VSCTL", 0x248020, [(0x40, 4)], false, none, .vs, .vs,
    [F.MEM_VSCTL_START, F.MEM_VSCTL_STOP]⟩
/-- MEM_VSSTAT (R78). -/
def MEM_VSSTAT : RegDesc :=
  ⟨"MEM_VSSTAT", 0x248024, [(0x40, 4)], false, none, .vs, .vs,
    [F.MEM_VSSTAT_STATE, F.MEM_VSSTAT_ADM_REJ, F.MEM_VSSTAT_UFL, F.MEM_VSSTAT_RATE_EXC]⟩
/-- MEM_VSLTOL (R78). -/
def MEM_VSLTOL : RegDesc :=
  ⟨"MEM_VSLTOL", 0x248028, [(0x40, 4)], false, none, .no, .vs,
    [F.MEM_VSLTOL_LTOL]⟩
/-- MEM_VSUFCNT (R78). -/
def MEM_VSUFCNT : RegDesc :=
  ⟨"MEM_VSUFCNT", 0x24802c, [(0x40, 4)], false, none, .no, .vs,
    [F.MEM_VSUFCNT_UFCNT]⟩
/-- OCT_VSTAT (R84). -/
def OCT_VSTAT : RegDesc :=
  ⟨"OCT_VSTAT", 0x1000180, [(0x100000, 8)], true, none, .fnoct, .fnoct,
    [F.OCT_VSTAT_TS_REJ, F.OCT_VSTAT_ROT_REJ, F.OCT_VSTAT_EDGE_DROP, F.OCT_VSTAT_STRB_SKIP, F.OCT_VSTAT_TSREJ_SET, F.OCT_VSTAT_TSREJ_POS]⟩
/-- OCT_EDCNT (R84). -/
def OCT_EDCNT : RegDesc :=
  ⟨"OCT_EDCNT", 0x1000184, [(0x100000, 8)], true, none, .no, .fnoct,
    [F.OCT_EDCNT_EDCNT]⟩
/-- OCT_SSCNT (R84). -/
def OCT_SSCNT : RegDesc :=
  ⟨"OCT_SSCNT", 0x1000188, [(0x100000, 8)], true, none, .no, .fnoct,
    [F.OCT_SSCNT_SSCNT]⟩
/-- SITE_STEP (R98). -/
def SITE_STEP : RegDesc :=
  ⟨"SITE_STEP", 0x281000, [(0x100, 16)], false, none, .no, .site,
    [F.SITE_STEP_LOG2]⟩
/-- SITE_TO (R98). -/
def SITE_TO : RegDesc :=
  ⟨"SITE_TO", 0x281004, [(0x100, 16), (0x4, 15)], false, none, .no, .site,
    [F.SITE_TO_TO]⟩
/-- SITE_CHG_LO (R98). -/
def SITE_CHG_LO : RegDesc :=
  ⟨"SITE_CHG_LO", 0x281080, [(0x100, 16), (0x8, 16)], false, none, .no, .site,
    [F.SITE_CHG_LO_MASK]⟩
/-- SITE_CHG_HI (R98). -/
def SITE_CHG_HI : RegDesc :=
  ⟨"SITE_CHG_HI", 0x281084, [(0x100, 16), (0x8, 16)], false, none, .no, .site,
    [F.SITE_CHG_HI_MASK]⟩
/-- SEQ_UCODE_VER (R112). -/
def SEQ_UCODE_VER : RegDesc :=
  ⟨"SEQ_UCODE_VER", 0x2000000, [(0x40000, 16)], false, none, .no, .eng,
    [F.SEQ_UCODE_VER_UVER, F.SEQ_UCODE_VER_SECT, F.SEQ_UCODE_VER_COPY, F.SEQ_UCODE_VER_KSLOT, F.SEQ_UCODE_VER_RELOADED, F.SEQ_UCODE_VER_VALID]⟩
/-- SEQ_UCODE_DIG (R111). -/
def SEQ_UCODE_DIG : RegDesc :=
  ⟨"SEQ_UCODE_DIG", 0x2000004, [(0x40000, 16)], false, none, .no, .eng,
    [F.SEQ_UCODE_DIG_DIG]⟩
/-- SE_STATE (R113). -/
def SE_STATE : RegDesc :=
  ⟨"SE_STATE", 0x2000008, [(0x40000, 16)], false, none, .no, .eng,
    [F.SE_STATE_STATE, F.SE_STATE_SITEV, F.SE_STATE_SITE, F.SE_STATE_PC]⟩
/-- SE_CTL (R114). -/
def SE_CTL : RegDesc :=
  ⟨"SE_CTL", 0x200000c, [(0x40000, 16)], false, none, .pf, .eng,
    [F.SE_CTL_RELSEC, F.SE_CTL_RELCOPY, F.SE_CTL_RELOAD]⟩
/-- SE_STAT (R113). -/
def SE_STAT : RegDesc :=
  ⟨"SE_STAT", 0x2000010, [(0x40000, 16)], false, none, .pf, .eng,
    [F.SE_STAT_RLD_DONE, F.SE_STAT_RLD_FAIL, F.SE_STAT_RLD_REJ, F.SE_STAT_PACEMIS, F.SE_STAT_MODE_REJ, F.SE_STAT_MIRSTR, F.SE_STAT_CHGMSK]⟩
/-- SE_PARCNT (R111). -/
def SE_PARCNT : RegDesc :=
  ⟨"SE_PARCNT", 0x2000014, [(0x40000, 16)], false, none, .no, .eng,
    [F.SE_PARCNT_CNT]⟩
/-- SE_CSADDR (R111). -/
def SE_CSADDR : RegDesc :=
  ⟨"SE_CSADDR", 0x2000018, [(0x40000, 16)], false, none, .pf, .pf,
    [F.SE_CSADDR_ADDR]⟩
/-- SE_VA (R100). -/
def SE_VA : RegDesc :=
  ⟨"SE_VA", 0x2000040, [(0x40000, 16), (0x4, 16)], false, none, .no, .eng,
    [F.SE_VA_ROW, F.SE_VA_STR, F.SE_VA_SLOT]⟩
/-- SE_LC (R104). -/
def SE_LC : RegDesc :=
  ⟨"SE_LC", 0x2000080, [(0x40000, 16), (0x4, 4)], false, none, .no, .eng,
    [F.SE_LC_LC]⟩
/-- SE_SP (R111). -/
def SE_SP : RegDesc :=
  ⟨"SE_SP", 0x2000090, [(0x40000, 16)], false, none, .no, .eng,
    [F.SE_SP_SP]⟩
/-- SE_STK (R111). -/
def SE_STK : RegDesc :=
  ⟨"SE_STK", 0x20000a0, [(0x40000, 16), (0x4, 8)], false, none, .no, .eng,
    [F.SE_STK_ADDR]⟩
/-- SE_PAR (R111). -/
def SE_PAR : RegDesc :=
  ⟨"SE_PAR", 0x20000c0, [(0x40000, 16), (0x4, 8)], false, none, .no, .eng,
    [F.SE_PAR_PAR]⟩
/-- SE_EXC (R140). -/
def SE_EXC : RegDesc :=
  ⟨"SE_EXC", 0x2000100, [(0x40000, 16)], false, none, .no, .eng,
    [F.SE_EXC_CODE, F.SE_EXC_CAUSE, F.SE_EXC_TRAPN, F.SE_EXC_DS, F.SE_EXC_MS, F.SE_EXC_DBL, F.SE_EXC_VALID, F.SE_EXC_EPC]⟩
/-- SE_EXCB (R140). -/
def SE_EXCB : RegDesc :=
  ⟨"SE_EXCB", 0x2000104, [(0x40000, 16)], false, none, .no, .eng,
    [F.SE_EXCB_BTGT, F.SE_EXCB_ESP, F.SE_EXCB_PSAFE, F.SE_EXCB_PFAB, F.SE_EXCB_PPRE]⟩
/-- SE_EXCT (R140). -/
def SE_EXCT : RegDesc :=
  ⟨"SE_EXCT", 0x2000108, [(0x40000, 16)], false, none, .no, .eng,
    [F.SE_EXCT_TIME]⟩
/-- SE_EXCF (R140). -/
def SE_EXCF : RegDesc :=
  ⟨"SE_EXCF", 0x200010c, [(0x40000, 16)], false, none, .no, .eng,
    [F.SE_EXCF_BEAT]⟩
/-- SE_EXCV (R140). -/
def SE_EXCV : RegDesc :=
  ⟨"SE_EXCV", 0x2000110, [(0x40000, 16)], false, none, .no, .eng,
    [F.SE_EXCV_VIDX]⟩
/-- SE_EXCCNT (R140). -/
def SE_EXCCNT : RegDesc :=
  ⟨"SE_EXCCNT", 0x2000114, [(0x40000, 16)], false, none, .no, .eng,
    [F.SE_EXCCNT_CNT]⟩
/-- SE_MCREC (R140). -/
def SE_MCREC : RegDesc :=
  ⟨"SE_MCREC", 0x2000118, [(0x40000, 16)], false, none, .no, .eng,
    [F.SE_MCREC_MCADDR, F.SE_MCREC_MCLAST]⟩
/-- SE_MCSLIP (R140). -/
def SE_MCSLIP : RegDesc :=
  ⟨"SE_MCSLIP", 0x200011c, [(0x40000, 16)], false, none, .no, .eng,
    [F.SE_MCSLIP_SLIP]⟩
/-- OCT_SEGBLK (R149). -/
def OCT_SEGBLK : RegDesc :=
  ⟨"OCT_SEGBLK", 0x1020000, [(0x100000, 8), (0x10, 4096)], false, none, .oct8, .oct8,
    [F.OCT_SEGBLK_BLK]⟩
/-- OCT_SEGLEN (R149). -/
def OCT_SEGLEN : RegDesc :=
  ⟨"OCT_SEGLEN", 0x1020004, [(0x100000, 8), (0x10, 4096)], false, none, .oct8, .oct8,
    [F.OCT_SEGLEN_NGR]⟩
/-- OCT_SEGCTL (R149). -/
def OCT_SEGCTL : RegDesc :=
  ⟨"OCT_SEGCTL", 0x1020008, [(0x100000, 8), (0x10, 4096)], false, none, .oct8, .oct8,
    [F.OCT_SEGCTL_NEXT, F.OCT_SEGCTL_END, F.OCT_SEGCTL_RING, F.OCT_SEGCTL_TRG, F.OCT_SEGCTL_FLASH, F.OCT_SEGCTL_RPT]⟩
/-- OCT_SEGVAL (R149). -/
def OCT_SEGVAL : RegDesc :=
  ⟨"OCT_SEGVAL", 0x102000c, [(0x100000, 8), (0x10, 4096)], false, none, .oct8, .oct8,
    [F.OCT_SEGVAL_VALID]⟩
/-- OCT_WFCFG (R161). -/
def OCT_WFCFG : RegDesc :=
  ⟨"OCT_WFCFG", 0x1000300, [(0x100000, 8)], false, some 0x40, .oct8, .oct8,
    [F.OCT_WFCFG_SDIV, F.OCT_WFCFG_IDLEC, F.OCT_WFCFG_IDLEEI]⟩
/-- OCT_WFRING (R161). -/
def OCT_WFRING : RegDesc :=
  ⟨"OCT_WFRING", 0x1000304, [(0x100000, 8)], false, none, .oct8, .oct8,
    [F.OCT_WFRING_RBASE, F.OCT_WFRING_RSIZE]⟩
/-- OCT_WFSTAT (R161). -/
def OCT_WFSTAT : RegDesc :=
  ⟨"OCT_WFSTAT", 0x1000308, [(0x100000, 8)], false, none, .oct8, .oct8,
    [F.OCT_WFSTAT_RUN, F.OCT_WFSTAT_UNDERRUN, F.OCT_WFSTAT_SEGERR, F.OCT_WFSTAT_TRGLATE, F.OCT_WFSTAT_CFG_REJ, F.OCT_WFSTAT_CUR]⟩
/-- OCT_WFLOST (R161). -/
def OCT_WFLOST : RegDesc :=
  ⟨"OCT_WFLOST", 0x100030c, [(0x100000, 8)], false, none, .no, .oct8,
    [F.OCT_WFLOST_LOST]⟩
/-- OCT_WFTRGCNT (R161). -/
def OCT_WFTRGCNT : RegDesc :=
  ⟨"OCT_WFTRGCNT", 0x1000310, [(0x100000, 8)], false, none, .no, .oct8,
    [F.OCT_WFTRGCNT_TRGCNT]⟩
/-- OCT_WFRPTR (R161). -/
def OCT_WFRPTR : RegDesc :=
  ⟨"OCT_WFRPTR", 0x1000314, [(0x100000, 8)], false, none, .no, .oct8,
    [F.OCT_WFRPTR_RPTR]⟩
/-- OCT_WFWPTR (R161). -/
def OCT_WFWPTR : RegDesc :=
  ⟨"OCT_WFWPTR", 0x1000318, [(0x100000, 8)], false, none, .no, .oct8,
    [F.OCT_WFWPTR_WPTR]⟩
/-- OCT_WFERRENT (R161). -/
def OCT_WFERRENT : RegDesc :=
  ⟨"OCT_WFERRENT", 0x100031c, [(0x100000, 8)], false, none, .no, .oct8,
    [F.OCT_WFERRENT_ENT]⟩
/-- OCT_PCFG (R166). -/
def OCT_PCFG : RegDesc :=
  ⟨"OCT_PCFG", 0x1000400, [(0x100000, 8)], false, some 0x40, .oct8, .oct8,
    [F.OCT_PCFG_LDIV]⟩
/-- OCT_PSTAT (R166). -/
def OCT_PSTAT : RegDesc :=
  ⟨"OCT_PSTAT", 0x1000408, [(0x100000, 8)], false, none, .oct8, .oct8,
    [F.OCT_PSTAT_CFG_REJ, F.OCT_PSTAT_RATEBLK]⟩
/-- OCT_LCFG (R168). -/
def OCT_LCFG : RegDesc :=
  ⟨"OCT_LCFG", 0x1003000, [(0x100000, 8), (0x100, 8)], false, some 0x40, .lane, .lane,
    [F.OCT_LCFG_LINE, F.OCT_LCFG_PREC, F.OCT_LCFG_TXINV, F.OCT_LCFG_RXINV, F.OCT_LCFG_TXSRC, F.OCT_LCFG_POLY, F.OCT_LCFG_CHKEN, F.OCT_LCFG_RXFRM, F.OCT_LCFG_INNER]⟩
/-- OCT_LRXSD_LO (R168). -/
def OCT_LRXSD_LO : RegDesc :=
  ⟨"OCT_LRXSD_LO", 0x1003004, [(0x100000, 8), (0x100, 8)], false, some 0x40, .lane, .lane,
    [F.OCT_LRXSD_LO_SD]⟩
/-- OCT_LRXSD_HI (R168). -/
def OCT_LRXSD_HI : RegDesc :=
  ⟨"OCT_LRXSD_HI", 0x1003008, [(0x100000, 8), (0x100, 8)], false, some 0x40, .lane, .lane,
    [F.OCT_LRXSD_HI_SD]⟩
/-- OCT_LRXFMT (R168). -/
def OCT_LRXFMT : RegDesc :=
  ⟨"OCT_LRXFMT", 0x100300c, [(0x100000, 8), (0x100, 8)], false, some 0x40, .lane, .lane,
    [F.OCT_LRXFMT_SDBITS, F.OCT_LRXFMT_RXLEN, F.OCT_LRXFMT_RXCRC]⟩
/-- OCT_LRXID (R168). -/
def OCT_LRXID : RegDesc :=
  ⟨"OCT_LRXID", 0x1003010, [(0x100000, 8), (0x100, 8)], false, some 0x40, .lane, .lane,
    [F.OCT_LRXID_IDOFF, F.OCT_LRXID_IDEN]⟩
/-- OCT_LSTAT (R168). -/
def OCT_LSTAT : RegDesc :=
  ⟨"OCT_LSTAT", 0x1003080, [(0x100000, 8), (0x100, 8)], false, none, .lane, .lane,
    [F.OCT_LSTAT_LOCK, F.OCT_LSTAT_LOCKLOST, F.OCT_LSTAT_TSQ_OVF, F.OCT_LSTAT_LQ_FULL, F.OCT_LSTAT_TSQN, F.OCT_LSTAT_LQN]⟩
/-- OCT_LTSQDROP (R168). -/
def OCT_LTSQDROP : RegDesc :=
  ⟨"OCT_LTSQDROP", 0x1003084, [(0x100000, 8), (0x100, 8)], false, none, .no, .lane,
    [F.OCT_LTSQDROP_DROP]⟩
/-- OCT_LMISS (R168). -/
def OCT_LMISS : RegDesc :=
  ⟨"OCT_LMISS", 0x1003088, [(0x100000, 8), (0x100, 8)], false, none, .no, .lane,
    [F.OCT_LMISS_MISS]⟩
/-- OCT_LSEQ (R168). -/
def OCT_LSEQ : RegDesc :=
  ⟨"OCT_LSEQ", 0x100308c, [(0x100000, 8), (0x100, 8)], false, none, .no, .lane,
    [F.OCT_LSEQ_SEQ]⟩
/-- OCT_TSQHEAD (R168). -/
def OCT_TSQHEAD : RegDesc :=
  ⟨"OCT_TSQHEAD", 0x1003090, [(0x100000, 8), (0x100, 8)], false, none, .no, .lane,
    [F.OCT_TSQHEAD_ID, F.OCT_TSQHEAD_STATUS, F.OCT_TSQHEAD_VALID]⟩
/-- OCT_TSQT_LO (R168). -/
def OCT_TSQT_LO : RegDesc :=
  ⟨"OCT_TSQT_LO", 0x1003094, [(0x100000, 8), (0x100, 8)], false, none, .no, .lane,
    [F.OCT_TSQT_LO_FRAC]⟩
/-- OCT_TSQT_HI (R168). -/
def OCT_TSQT_HI : RegDesc :=
  ⟨"OCT_TSQT_HI", 0x1003098, [(0x100000, 8), (0x100, 8)], false, none, .no, .lane,
    [F.OCT_TSQT_HI_NS]⟩
/-- OCT_TSQPOP (R168). -/
def OCT_TSQPOP : RegDesc :=
  ⟨"OCT_TSQPOP", 0x100309c, [(0x100000, 8), (0x100, 8)], false, none, .lane, .lane,
    [F.OCT_TSQPOP_POP]⟩
/-- OCT_LRXTS_LO (R168). -/
def OCT_LRXTS_LO : RegDesc :=
  ⟨"OCT_LRXTS_LO", 0x10030a0, [(0x100000, 8), (0x100, 8)], false, none, .no, .lane,
    [F.OCT_LRXTS_LO_FRAC]⟩
/-- OCT_LRXTS_HI (R168). -/
def OCT_LRXTS_HI : RegDesc :=
  ⟨"OCT_LRXTS_HI", 0x10030a4, [(0x100000, 8), (0x100, 8)], false, none, .no, .lane,
    [F.OCT_LRXTS_HI_NS]⟩
/-- OCT_LRXREC (R168). -/
def OCT_LRXREC : RegDesc :=
  ⟨"OCT_LRXREC", 0x10030a8, [(0x100000, 8), (0x100, 8)], false, none, .no, .lane,
    [F.OCT_LRXREC_ID, F.OCT_LRXREC_CRCERR, F.OCT_LRXREC_IDV, F.OCT_LRXREC_VALID]⟩
/-- OCT_LRXFRM (R168). -/
def OCT_LRXFRM : RegDesc :=
  ⟨"OCT_LRXFRM", 0x10030ac, [(0x100000, 8), (0x100, 8)], false, none, .no, .lane,
    [F.OCT_LRXFRM_FRM]⟩
/-- OCT_LRXCRCERR (R168). -/
def OCT_LRXCRCERR : RegDesc :=
  ⟨"OCT_LRXCRCERR", 0x10030b0, [(0x100000, 8), (0x100, 8)], false, none, .no, .lane,
    [F.OCT_LRXCRCERR_CRCERR]⟩
/-- OCT_LBITERR (R168). -/
def OCT_LBITERR : RegDesc :=
  ⟨"OCT_LBITERR", 0x10030b4, [(0x100000, 8), (0x100, 8)], false, none, .no, .lane,
    [F.OCT_LBITERR_ERR]⟩
/-- OCT_LBITCNT_LO (R168). -/
def OCT_LBITCNT_LO : RegDesc :=
  ⟨"OCT_LBITCNT_LO", 0x10030b8, [(0x100000, 8), (0x100, 8)], false, none, .no, .lane,
    [F.OCT_LBITCNT_LO_CNT]⟩
/-- OCT_LBITCNT_HI (R168). -/
def OCT_LBITCNT_HI : RegDesc :=
  ⟨"OCT_LBITCNT_HI", 0x10030bc, [(0x100000, 8), (0x100, 8)], false, none, .no, .lane,
    [F.OCT_LBITCNT_HI_CNT]⟩
/-- OCT_LTXLAT (R168). -/
def OCT_LTXLAT : RegDesc :=
  ⟨"OCT_LTXLAT", 0x10030c0, [(0x100000, 8), (0x100, 8)], false, none, .no, .lane,
    [F.OCT_LTXLAT_TXLAT]⟩
/-- OCT_LRXLAT (R168). -/
def OCT_LRXLAT : RegDesc :=
  ⟨"OCT_LRXLAT", 0x10030c4, [(0x100000, 8), (0x100, 8)], false, none, .no, .lane,
    [F.OCT_LRXLAT_RXLAT]⟩
/-- OCT_TPL0 (R174). -/
def OCT_TPL0 : RegDesc :=
  ⟨"OCT_TPL0", 0x1030000, [(0x100000, 8), (0x40, 1024)], false, none, .oct8, .oct8,
    [F.OCT_TPL0_PRELEN, F.OCT_TPL0_PREB, F.OCT_TPL0_SDLEN, F.OCT_TPL0_IDINS]⟩
/-- OCT_TPL1 (R174). -/
def OCT_TPL1 : RegDesc :=
  ⟨"OCT_TPL1", 0x1030004, [(0x100000, 8), (0x40, 1024)], false, none, .oct8, .oct8,
    [F.OCT_TPL1_SD]⟩
/-- OCT_TPL2 (R174). -/
def OCT_TPL2 : RegDesc :=
  ⟨"OCT_TPL2", 0x1030008, [(0x100000, 8), (0x40, 1024)], false, none, .oct8, .oct8,
    [F.OCT_TPL2_SD]⟩
/-- OCT_TPL3 (R174). -/
def OCT_TPL3 : RegDesc :=
  ⟨"OCT_TPL3", 0x103000c, [(0x100000, 8), (0x40, 1024)], false, none, .oct8, .oct8,
    [F.OCT_TPL3_HADDR]⟩
/-- OCT_TPL4 (R174). -/
def OCT_TPL4 : RegDesc :=
  ⟨"OCT_TPL4", 0x1030010, [(0x100000, 8), (0x40, 1024)], false, none, .oct8, .oct8,
    [F.OCT_TPL4_HLEN, F.OCT_TPL4_IDOFF]⟩
/-- OCT_TPL5 (R174). -/
def OCT_TPL5 : RegDesc :=
  ⟨"OCT_TPL5", 0x1030014, [(0x100000, 8), (0x40, 1024)], false, none, .oct8, .oct8,
    [F.OCT_TPL5_PLEN, F.OCT_TPL5_PSRC, F.OCT_TPL5_PPOLY, F.OCT_TPL5_PSEED, F.OCT_TPL5_CSEED]⟩
/-- OCT_TPL6 (R174). -/
def OCT_TPL6 : RegDesc :=
  ⟨"OCT_TPL6", 0x1030018, [(0x100000, 8), (0x40, 1024)], false, none, .oct8, .oct8,
    [F.OCT_TPL6_PADDR, F.OCT_TPL6_CRC, F.OCT_TPL6_EDLEN]⟩
/-- OCT_TPL7 (R174). -/
def OCT_TPL7 : RegDesc :=
  ⟨"OCT_TPL7", 0x103001c, [(0x100000, 8), (0x40, 1024)], false, none, .oct8, .oct8,
    [F.OCT_TPL7_ED]⟩
/-- OCT_TPL8 (R174). -/
def OCT_TPL8 : RegDesc :=
  ⟨"OCT_TPL8", 0x1030020, [(0x100000, 8), (0x40, 1024)], false, none, .oct8, .oct8,
    [F.OCT_TPL8_ED]⟩
/-- OCT_TPL9 (R174). -/
def OCT_TPL9 : RegDesc :=
  ⟨"OCT_TPL9", 0x1030024, [(0x100000, 8), (0x40, 1024)], false, none, .oct8, .oct8,
    [F.OCT_TPL9_IPG, F.OCT_TPL9_IDLE, F.OCT_TPL9_IDLEB]⟩
/-- OCT_TPL10 (R174). -/
def OCT_TPL10 : RegDesc :=
  ⟨"OCT_TPL10", 0x1030028, [(0x100000, 8), (0x40, 1024)], false, none, .oct8, .oct8,
    [F.OCT_TPL10_VALID]⟩
/-- OCT_FCNT (R188). -/
def OCT_FCNT : RegDesc :=
  ⟨"OCT_FCNT", 0x1005000, [(0x100000, 8), (0x20, 8)], false, none, .no, .chan,
    [F.OCT_FCNT_FCNT]⟩
/-- OCT_FFIDX (R188). -/
def OCT_FFIDX : RegDesc :=
  ⟨"OCT_FFIDX", 0x1005004, [(0x100000, 8), (0x20, 8)], false, none, .no, .chan,
    [F.OCT_FFIDX_FFIDX]⟩
/-- OCT_FFBEAT (R188). -/
def OCT_FFBEAT : RegDesc :=
  ⟨"OCT_FFBEAT", 0x1005008, [(0x100000, 8), (0x20, 8)], false, none, .no, .chan,
    [F.OCT_FFBEAT_FFBEAT]⟩
/-- OCT_FCTL (R188). -/
def OCT_FCTL : RegDesc :=
  ⟨"OCT_FCTL", 0x100500c, [(0x100000, 8), (0x20, 8)], false, none, .chan, .chan,
    [F.OCT_FCTL_CLR, F.OCT_FCTL_FFV, F.OCT_FCTL_FFKIND]⟩
/-- SITE_CQCFG (R190). -/
def SITE_CQCFG : RegDesc :=
  ⟨"SITE_CQCFG", 0x284000, [(0x400, 16), (0x40, 16)], false, some 0x20, .site, .site,
    [F.SITE_CQCFG_SRC, F.SITE_CQCFG_FONLY, F.SITE_CQCFG_FLIM, F.SITE_CQCFG_FRSEL, F.SITE_CQCFG_IDM]⟩
/-- SITE_CQCHM_LO (R190). -/
def SITE_CQCHM_LO : RegDesc :=
  ⟨"SITE_CQCHM_LO", 0x284004, [(0x400, 16), (0x40, 16)], false, some 0x20, .site, .site,
    [F.SITE_CQCHM_LO_CHM]⟩
/-- SITE_CQCHM_HI (R190). -/
def SITE_CQCHM_HI : RegDesc :=
  ⟨"SITE_CQCHM_HI", 0x284008, [(0x400, 16), (0x40, 16)], false, some 0x20, .site, .site,
    [F.SITE_CQCHM_HI_CHM]⟩
/-- SITE_CQFID (R190). -/
def SITE_CQFID : RegDesc :=
  ⟨"SITE_CQFID", 0x28400c, [(0x400, 16), (0x40, 16)], false, some 0x20, .site, .site,
    [F.SITE_CQFID_IDVAL, F.SITE_CQFID_IDMSK]⟩
/-- SITE_CQSNAP (R190). -/
def SITE_CQSNAP : RegDesc :=
  ⟨"SITE_CQSNAP", 0x284010, [(0x400, 16), (0x40, 16)], false, some 0x20, .site, .site,
    [F.SITE_CQSNAP_SNAP]⟩
/-- SITE_CAPSTAT (R207). -/
def SITE_CAPSTAT : RegDesc :=
  ⟨"SITE_CAPSTAT", 0x288000, [(0x40, 16)], false, none, .site, .site,
    [F.SITE_CAPSTAT_DEC, F.SITE_CAPSTAT_STOPPED, F.SITE_CAPSTAT_CAPT_FULL, F.SITE_CAPSTAT_OVERRUN, F.SITE_CAPSTAT_REDUCED, F.SITE_CAPSTAT_CQ_REJ, F.SITE_CAPSTAT_SUSPECT]⟩
/-- SITE_CWIN (R207). -/
def SITE_CWIN : RegDesc :=
  ⟨"SITE_CWIN", 0x288004, [(0x40, 16)], false, none, .no, .site,
    [F.SITE_CWIN_CWIN]⟩
/-- SITE_CSTG (R207). -/
def SITE_CSTG : RegDesc :=
  ⟨"SITE_CSTG", 0x288008, [(0x40, 16)], false, none, .no, .site,
    [F.SITE_CSTG_SSIZE, F.SITE_CSTG_SUSED]⟩
/-- SITE_CBKSZ (R207). -/
def SITE_CBKSZ : RegDesc :=
  ⟨"SITE_CBKSZ", 0x28800c, [(0x40, 16)], false, none, .no, .site,
    [F.SITE_CBKSZ_BKSZ]⟩
/-- SITE_CBKOCC (R207). -/
def SITE_CBKOCC : RegDesc :=
  ⟨"SITE_CBKOCC", 0x288010, [(0x40, 16)], false, none, .no, .site,
    [F.SITE_CBKOCC_BKOCC]⟩
/-- SITE_CSEQ (R207). -/
def SITE_CSEQ : RegDesc :=
  ⟨"SITE_CSEQ", 0x288014, [(0x40, 16)], false, none, .no, .site,
    [F.SITE_CSEQ_SEQ]⟩
/-- SITE_CDLV (R207). -/
def SITE_CDLV : RegDesc :=
  ⟨"SITE_CDLV", 0x288018, [(0x40, 16)], false, none, .no, .site,
    [F.SITE_CDLV_DLV]⟩
/-- SITE_CLOST (R207). -/
def SITE_CLOST : RegDesc :=
  ⟨"SITE_CLOST", 0x28801c, [(0x40, 16)], false, none, .no, .site,
    [F.SITE_CLOST_LOST]⟩
/-- SITE_CGAPN (R207). -/
def SITE_CGAPN : RegDesc :=
  ⟨"SITE_CGAPN", 0x288020, [(0x40, 16)], false, none, .no, .site,
    [F.SITE_CGAPN_GAPN]⟩
/-- SITE_CFLTO (R207). -/
def SITE_CFLTO : RegDesc :=
  ⟨"SITE_CFLTO", 0x288024, [(0x40, 16)], false, none, .site, .site,
    [F.SITE_CFLTO_FLTO]⟩
/-- SITE_CCTL (R207). -/
def SITE_CCTL : RegDesc :=
  ⟨"SITE_CCTL", 0x288028, [(0x40, 16)], false, none, .site, .site,
    [F.SITE_CCTL_FLUSH]⟩
/-- ACQ_CFG (R221). -/
def ACQ_CFG : RegDesc :=
  ⟨"ACQ_CFG", 0x3000000, [(0x100, 64)], false, none, .acq, .acq,
    [F.ACQ_CFG_FUNC, F.ACQ_CFG_TSRC, F.ACQ_CFG_TSLOPE, F.ACQ_CFG_TCH, F.ACQ_CFG_TIN, F.ACQ_CFG_GATE, F.ACQ_CFG_VSRC]⟩
/-- ACQ_TLEV (R221). -/
def ACQ_TLEV : RegDesc :=
  ⟨"ACQ_TLEV", 0x3000004, [(0x100, 64)], false, none, .acq, .acq,
    [F.ACQ_TLEV_LEV, F.ACQ_TLEV_HYS]⟩
/-- ACQ_WIN (R221). -/
def ACQ_WIN : RegDesc :=
  ⟨"ACQ_WIN", 0x3000008, [(0x100, 64)], false, none, .acq, .acq,
    [F.ACQ_WIN_PRE]⟩
/-- ACQ_POST (R221). -/
def ACQ_POST : RegDesc :=
  ⟨"ACQ_POST", 0x300000c, [(0x100, 64)], false, none, .acq, .acq,
    [F.ACQ_POST_POST]⟩
/-- ACQ_ROV (R221). -/
def ACQ_ROV : RegDesc :=
  ⟨"ACQ_ROV", 0x3000010, [(0x100, 64)], false, none, .acq, .acq,
    [F.ACQ_ROV_SWEEP, F.ACQ_ROV_PHASE, F.ACQ_ROV_DWELL]⟩
/-- ACQ_CTL (R221). -/
def ACQ_CTL : RegDesc :=
  ⟨"ACQ_CTL", 0x3000014, [(0x100, 64)], false, none, .acq, .acq,
    [F.ACQ_CTL_RUN, F.ACQ_CTL_ARM, F.ACQ_CTL_FORCE, F.ACQ_CTL_CLR, F.ACQ_CTL_EYE]⟩
/-- ACQ_STAT (R221). -/
def ACQ_STAT : RegDesc :=
  ⟨"ACQ_STAT", 0x3000018, [(0x100, 64)], false, none, .acq, .acq,
    [F.ACQ_STAT_ACTIVE, F.ACQ_STAT_ARMED, F.ACQ_STAT_TRIGD, F.ACQ_STAT_SAT, F.ACQ_STAT_CFG_REJ, F.ACQ_STAT_TMISS, F.ACQ_STAT_PSTOP, F.ACQ_STAT_ROVPH]⟩
/-- ACQ_PASS (R221). -/
def ACQ_PASS : RegDesc :=
  ⟨"ACQ_PASS", 0x300001c, [(0x100, 64)], false, none, .no, .acq,
    [F.ACQ_PASS_PASS]⟩
/-- ACQ_TTRIG_LO (R221). -/
def ACQ_TTRIG_LO : RegDesc :=
  ⟨"ACQ_TTRIG_LO", 0x3000020, [(0x100, 64)], false, none, .acq, .acq,
    [F.ACQ_TTRIG_LO_FRAC]⟩
/-- ACQ_TTRIG_HI (R221). -/
def ACQ_TTRIG_HI : RegDesc :=
  ⟨"ACQ_TTRIG_HI", 0x3000024, [(0x100, 64)], false, none, .acq, .acq,
    [F.ACQ_TTRIG_HI_NS]⟩
/-- ACQ_TRGT_LO (R221). -/
def ACQ_TRGT_LO : RegDesc :=
  ⟨"ACQ_TRGT_LO", 0x3000028, [(0x100, 64)], false, none, .no, .acq,
    [F.ACQ_TRGT_LO_FRAC]⟩
/-- ACQ_TRGT_HI (R221). -/
def ACQ_TRGT_HI : RegDesc :=
  ⟨"ACQ_TRGT_HI", 0x300002c, [(0x100, 64)], false, none, .no, .acq,
    [F.ACQ_TRGT_HI_NS]⟩
/-- ACQ_TREC (R221). -/
def ACQ_TREC : RegDesc :=
  ⟨"ACQ_TREC", 0x3000030, [(0x100, 64)], false, none, .no, .acq,
    [F.ACQ_TREC_TIDX, F.ACQ_TREC_TFRAC]⟩
/-- ACQ_TRBEAT (R221). -/
def ACQ_TRBEAT : RegDesc :=
  ⟨"ACQ_TRBEAT", 0x3000034, [(0x100, 64)], false, none, .no, .acq,
    [F.ACQ_TRBEAT_BEAT]⟩
/-- ACQ_TRGCNT (R221). -/
def ACQ_TRGCNT : RegDesc :=
  ⟨"ACQ_TRGCNT", 0x3000038, [(0x100, 64)], false, none, .no, .acq,
    [F.ACQ_TRGCNT_TRGCNT]⟩
/-- ACQ_RUNT0 (R221). -/
def ACQ_RUNT0 : RegDesc :=
  ⟨"ACQ_RUNT0", 0x300003c, [(0x100, 64)], false, none, .no, .acq,
    [F.ACQ_RUNT0_NS]⟩
/-- ACQ_RUNT1 (R221). -/
def ACQ_RUNT1 : RegDesc :=
  ⟨"ACQ_RUNT1", 0x3000040, [(0x100, 64)], false, none, .no, .acq,
    [F.ACQ_RUNT1_NS]⟩
/-- ACQ_EYECFG (R221). -/
def ACQ_EYECFG : RegDesc :=
  ⟨"ACQ_EYECFG", 0x3000044, [(0x100, 64)], false, none, .acq, .acq,
    [F.ACQ_EYECFG_BLO, F.ACQ_EYECFG_BHI]⟩
/-- ACQ_ETHR (R221). -/
def ACQ_ETHR : RegDesc :=
  ⟨"ACQ_ETHR", 0x3000048, [(0x100, 64)], false, none, .acq, .acq,
    [F.ACQ_ETHR_ETHR]⟩
/-- ACQ_EYER (R221). -/
def ACQ_EYER : RegDesc :=
  ⟨"ACQ_EYER", 0x300004c, [(0x100, 64)], false, none, .no, .acq,
    [F.ACQ_EYER_LEFT, F.ACQ_EYER_RIGHT, F.ACQ_EYER_WIDTH, F.ACQ_EYER_VALID]⟩
/-- OCT_TDCCFG (R233). -/
def OCT_TDCCFG : RegDesc :=
  ⟨"OCT_TDCCFG", 0x1006000, [(0x100000, 8), (0x100, 8)], false, none, .chan, .chan,
    [F.OCT_TDCCFG_MEAS, F.OCT_TDCCFG_STOPCH, F.OCT_TDCCFG_EDIV, F.OCT_TDCCFG_FGATE]⟩
/-- OCT_TDCREF (R233). -/
def OCT_TDCREF : RegDesc :=
  ⟨"OCT_TDCREF", 0x1006004, [(0x100000, 8), (0x100, 8)], false, none, .chan, .chan,
    [F.OCT_TDCREF_REF]⟩
/-- OCT_TDCCTL (R233). -/
def OCT_TDCCTL : RegDesc :=
  ⟨"OCT_TDCCTL", 0x1006008, [(0x100000, 8), (0x100, 8)], false, none, .chan, .chan,
    [F.OCT_TDCCTL_RUN, F.OCT_TDCCTL_SNAP, F.OCT_TDCCTL_CLR]⟩
/-- OCT_TDCSTAT (R233). -/
def OCT_TDCSTAT : RegDesc :=
  ⟨"OCT_TDCSTAT", 0x100600c, [(0x100000, 8), (0x100, 8)], false, none, .chan, .chan,
    [F.OCT_TDCSTAT_DLLLOCK, F.OCT_TDCSTAT_DLLUL, F.OCT_TDCSTAT_SWARM, F.OCT_TDCSTAT_SQSAT, F.OCT_TDCSTAT_CFG_REJ, F.OCT_TDCSTAT_ACTIVE, F.OCT_TDCSTAT_WARMNOW]⟩
/-- OCT_TDCCNT (R233). -/
def OCT_TDCCNT : RegDesc :=
  ⟨"OCT_TDCCNT", 0x1006010, [(0x100000, 8), (0x100, 8)], false, none, .no, .chan,
    [F.OCT_TDCCNT_CNT]⟩
/-- OCT_TDCSUM_LO (R233). -/
def OCT_TDCSUM_LO : RegDesc :=
  ⟨"OCT_TDCSUM_LO", 0x1006014, [(0x100000, 8), (0x100, 8)], false, none, .no, .chan,
    [F.OCT_TDCSUM_LO_SUM]⟩
/-- OCT_TDCSUM_HI (R233). -/
def OCT_TDCSUM_HI : RegDesc :=
  ⟨"OCT_TDCSUM_HI", 0x1006018, [(0x100000, 8), (0x100, 8)], false, none, .no, .chan,
    [F.OCT_TDCSUM_HI_SUM]⟩
/-- OCT_TDCSQ_LO (R233). -/
def OCT_TDCSQ_LO : RegDesc :=
  ⟨"OCT_TDCSQ_LO", 0x100601c, [(0x100000, 8), (0x100, 8)], false, none, .no, .chan,
    [F.OCT_TDCSQ_LO_SQ]⟩
/-- OCT_TDCSQ_HI (R233). -/
def OCT_TDCSQ_HI : RegDesc :=
  ⟨"OCT_TDCSQ_HI", 0x1006020, [(0x100000, 8), (0x100, 8)], false, none, .no, .chan,
    [F.OCT_TDCSQ_HI_SQ]⟩
/-- OCT_TDCMIN_LO (R233). -/
def OCT_TDCMIN_LO : RegDesc :=
  ⟨"OCT_TDCMIN_LO", 0x1006024, [(0x100000, 8), (0x100, 8)], false, none, .no, .chan,
    [F.OCT_TDCMIN_LO_MIN]⟩
/-- OCT_TDCMIN_HI (R233). -/
def OCT_TDCMIN_HI : RegDesc :=
  ⟨"OCT_TDCMIN_HI", 0x1006028, [(0x100000, 8), (0x100, 8)], false, none, .no, .chan,
    [F.OCT_TDCMIN_HI_MIN]⟩
/-- OCT_TDCMAX_LO (R233). -/
def OCT_TDCMAX_LO : RegDesc :=
  ⟨"OCT_TDCMAX_LO", 0x100602c, [(0x100000, 8), (0x100, 8)], false, none, .no, .chan,
    [F.OCT_TDCMAX_LO_MAX]⟩
/-- OCT_TDCMAX_HI (R233). -/
def OCT_TDCMAX_HI : RegDesc :=
  ⟨"OCT_TDCMAX_HI", 0x1006030, [(0x100000, 8), (0x100, 8)], false, none, .no, .chan,
    [F.OCT_TDCMAX_HI_MAX]⟩
/-- OCT_TDCDISC (R233). -/
def OCT_TDCDISC : RegDesc :=
  ⟨"OCT_TDCDISC", 0x1006034, [(0x100000, 8), (0x100, 8)], false, none, .no, .chan,
    [F.OCT_TDCDISC_DISC]⟩
/-- OCT_TDCSKIP (R233). -/
def OCT_TDCSKIP : RegDesc :=
  ⟨"OCT_TDCSKIP", 0x1006038, [(0x100000, 8), (0x100, 8)], false, none, .no, .chan,
    [F.OCT_TDCSKIP_SKIP]⟩
/-- OCT_TDCSNT (R233). -/
def OCT_TDCSNT : RegDesc :=
  ⟨"OCT_TDCSNT", 0x100603c, [(0x100000, 8), (0x100, 8)], false, none, .no, .chan,
    [F.OCT_TDCSNT_NS]⟩
/-- OCT_TDCECNT_LO (R233). -/
def OCT_TDCECNT_LO : RegDesc :=
  ⟨"OCT_TDCECNT_LO", 0x1006040, [(0x100000, 8), (0x100, 8)], false, none, .no, .chan,
    [F.OCT_TDCECNT_LO_ECNT]⟩
/-- OCT_TDCECNT_HI (R233). -/
def OCT_TDCECNT_HI : RegDesc :=
  ⟨"OCT_TDCECNT_HI", 0x1006044, [(0x100000, 8), (0x100, 8)], false, none, .no, .chan,
    [F.OCT_TDCECNT_HI_ECNT]⟩
/-- OCT_QEYE (R376). -/
def OCT_QEYE : RegDesc :=
  ⟨"OCT_QEYE", 0x1007000, [(0x100000, 8), (0x20, 9)], false, none, .no, .octslice,
    [F.OCT_QEYE_EYEW]⟩
/-- OCT_QINL (R376). -/
def OCT_QINL : RegDesc :=
  ⟨"OCT_QINL", 0x1007004, [(0x100000, 8), (0x20, 9)], false, none, .no, .octslice,
    [F.OCT_QINL_INLRMS, F.OCT_QINL_INLMAX]⟩
/-- OCT_QDNL (R376). -/
def OCT_QDNL : RegDesc :=
  ⟨"OCT_QDNL", 0x1007008, [(0x100000, 8), (0x20, 9)], false, none, .no, .octslice,
    [F.OCT_QDNL_DNLMIN, F.OCT_QDNL_DNLMAX]⟩
/-- OCT_QSRC (R376). -/
def OCT_QSRC : RegDesc :=
  ⟨"OCT_QSRC", 0x100700c, [(0x100000, 8), (0x20, 9)], false, none, .no, .octslice,
    [F.OCT_QSRC_FIELD, F.OCT_QSRC_UNSAVED]⟩
/-- OCT_QCNT (R376). -/
def OCT_QCNT : RegDesc :=
  ⟨"OCT_QCNT", 0x1007010, [(0x100000, 8), (0x20, 9)], false, none, .no, .octslice,
    [F.OCT_QCNT_CNT]⟩
/-- OCT_CLVCTL (R384). -/
def OCT_CLVCTL : RegDesc :=
  ⟨"OCT_CLVCTL", 0x1000600, [(0x100000, 8)], false, none, .octany, .octany,
    [F.OCT_CLVCTL_POS, F.OCT_CLVCTL_TAKE, F.OCT_CLVCTL_RETRIM, F.OCT_CLVCTL_RETURN, F.OCT_CLVCTL_SAVE]⟩
/-- OCT_CLVSTAT (R384). -/
def OCT_CLVSTAT : RegDesc :=
  ⟨"OCT_CLVSTAT", 0x1000604, [(0x100000, 8)], false, none, .pf, .octany,
    [F.OCT_CLVSTAT_STATE, F.OCT_CLVSTAT_RETURN_FAIL, F.OCT_CLVSTAT_RSN, F.OCT_CLVSTAT_REQ_REJ, F.OCT_CLVSTAT_SAVED, F.OCT_CLVSTAT_SAVE_FAIL]⟩
/-- OCT_CLVTKN (R384). -/
def OCT_CLVTKN : RegDesc :=
  ⟨"OCT_CLVTKN", 0x1000608, [(0x100000, 8)], false, none, .no, .octany,
    [F.OCT_CLVTKN_CNT]⟩
/-- OCT_CLVDIFF (R384). -/
def OCT_CLVDIFF : RegDesc :=
  ⟨"OCT_CLVDIFF", 0x100060c, [(0x100000, 8)], false, none, .no, .octany,
    [F.OCT_CLVDIFF_CNT]⟩
/-- SITE_BLEN (R248). -/
def SITE_BLEN : RegDesc :=
  ⟨"SITE_BLEN", 0x282000, [(0x100, 16)], false, none, .no, .site,
    [F.SITE_BLEN_BLEN]⟩
/-- SITE_BGAP (R248). -/
def SITE_BGAP : RegDesc :=
  ⟨"SITE_BGAP", 0x282004, [(0x100, 16)], false, none, .no, .site,
    [F.SITE_BGAP_GAP]⟩
/-- SITE_BANCH (R248). -/
def SITE_BANCH : RegDesc :=
  ⟨"SITE_BANCH", 0x282008, [(0x100, 16)], false, none, .no, .site,
    [F.SITE_BANCH_BANCH]⟩
/-- SITE_BNUM0 (R248). -/
def SITE_BNUM0 : RegDesc :=
  ⟨"SITE_BNUM0", 0x28200c, [(0x100, 16)], false, none, .no, .site,
    [F.SITE_BNUM0_BNUM0]⟩
/-- SITE_BNOW (R248). -/
def SITE_BNOW : RegDesc :=
  ⟨"SITE_BNOW", 0x282010, [(0x100, 16)], false, none, .no, .site,
    [F.SITE_BNOW_BNOW]⟩
/-- SITE_BSTART (R248). -/
def SITE_BSTART : RegDesc :=
  ⟨"SITE_BSTART", 0x282014, [(0x100, 16)], false, none, .no, .site,
    [F.SITE_BSTART_BSTART]⟩
/-- SITE_BCTL (R248). -/
def SITE_BCTL : RegDesc :=
  ⟨"SITE_BCTL", 0x282018, [(0x100, 16)], false, none, .site, .site,
    [F.SITE_BCTL_COMMIT]⟩
/-- SITE_BSTAT (R248). -/
def SITE_BSTAT : RegDesc :=
  ⟨"SITE_BSTAT", 0x28201c, [(0x100, 16)], false, none, .site, .site,
    [F.SITE_BSTAT_RUN, F.SITE_BSTAT_XOVR, F.SITE_BSTAT_LATE, F.SITE_BSTAT_SG_REJ, F.SITE_BSTAT_SGMM]⟩
/-- SITE_BFAPP (R248). -/
def SITE_BFAPP : RegDesc :=
  ⟨"SITE_BFAPP", 0x282020, [(0x100, 16)], false, none, .no, .site,
    [F.SITE_BFAPP_F]⟩
/-- SITE_BFPEND (R248). -/
def SITE_BFPEND : RegDesc :=
  ⟨"SITE_BFPEND", 0x282024, [(0x100, 16)], false, none, .no, .site,
    [F.SITE_BFPEND_F]⟩
/-- SITE_BXAPP (R248). -/
def SITE_BXAPP : RegDesc :=
  ⟨"SITE_BXAPP", 0x282028, [(0x100, 16)], false, none, .no, .site,
    [F.SITE_BXAPP_F]⟩
/-- SITE_BFCNT (R248). -/
def SITE_BFCNT : RegDesc :=
  ⟨"SITE_BFCNT", 0x28202c, [(0x100, 16)], false, none, .no, .site,
    [F.SITE_BFCNT_CNT]⟩
/-- SITE_SGCFG (R254). -/
def SITE_SGCFG : RegDesc :=
  ⟨"SITE_SGCFG", 0x28a000, [(0x200, 16), (0x40, 8)], false, some 0x10, .site, .site,
    [F.SITE_SGCFG_EN, F.SITE_SGCFG_SRC, F.SITE_SGCFG_ACT, F.SITE_SGCFG_CHLO, F.SITE_SGCFG_CHHI]⟩
/-- SITE_SGVLO (R254). -/
def SITE_SGVLO : RegDesc :=
  ⟨"SITE_SGVLO", 0x28a004, [(0x200, 16), (0x40, 8)], false, some 0x10, .site, .site,
    [F.SITE_SGVLO_VLO]⟩
/-- SITE_SGVHI (R254). -/
def SITE_SGVHI : RegDesc :=
  ⟨"SITE_SGVHI", 0x28a008, [(0x200, 16), (0x40, 8)], false, some 0x10, .site, .site,
    [F.SITE_SGVHI_VHI]⟩
/-- SITE_SGEXP (R254). -/
def SITE_SGEXP : RegDesc :=
  ⟨"SITE_SGEXP", 0x28a00c, [(0x200, 16), (0x40, 8)], false, some 0x10, .site, .site,
    [F.SITE_SGEXP_EXP]⟩
/-- SITE_SGRES (R254). -/
def SITE_SGRES : RegDesc :=
  ⟨"SITE_SGRES", 0x28a020, [(0x200, 16), (0x40, 8)], false, none, .no, .site,
    [F.SITE_SGRES_SIG]⟩
/-- SITE_SGRST (R254). -/
def SITE_SGRST : RegDesc :=
  ⟨"SITE_SGRST", 0x28a024, [(0x200, 16), (0x40, 8)], false, none, .site, .site,
    [F.SITE_SGRST_STATUS, F.SITE_SGRST_VALID, F.SITE_SGRST_MM]⟩
/-- SITE_SGRBEAT (R254). -/
def SITE_SGRBEAT : RegDesc :=
  ⟨"SITE_SGRBEAT", 0x28a028, [(0x200, 16), (0x40, 8)], false, none, .no, .site,
    [F.SITE_SGRBEAT_BEAT]⟩
/-- SITE_SGMMCNT (R254). -/
def SITE_SGMMCNT : RegDesc :=
  ⟨"SITE_SGMMCNT", 0x28a02c, [(0x200, 16), (0x40, 8)], false, none, .no, .site,
    [F.SITE_SGMMCNT_CNT]⟩
/-- DSP_EOWN (R271). -/
def DSP_EOWN : RegDesc :=
  ⟨"DSP_EOWN", 0x180100, [(0x10, 16)], false, none, .no, .dspeng,
    [F.DSP_EOWN_SITE, F.DSP_EOWN_SITEV, F.DSP_EOWN_LENT, F.DSP_EOWN_PRIO, F.DSP_EOWN_SUSP, F.DSP_EOWN_RSV, F.DSP_EOWN_QSITE]⟩
/-- DSP_EBUSY (R271). -/
def DSP_EBUSY : RegDesc :=
  ⟨"DSP_EBUSY", 0x180104, [(0x10, 16)], false, none, .no, .dspeng,
    [F.DSP_EBUSY_BUSY]⟩
/-- DSP_EBURST (R271). -/
def DSP_EBURST : RegDesc :=
  ⟨"DSP_EBURST", 0x180108, [(0x10, 16)], false, none, .no, .dspeng,
    [F.DSP_EBURST_CNT]⟩
/-- DSP_SQ (R271). -/
def DSP_SQ : RegDesc :=
  ⟨"DSP_SQ", 0x181000, [(0x200, 16)], false, none, .no, .site,
    [F.DSP_SQ_QENT, F.DSP_SQ_QUSED]⟩
/-- DSP_SENG (R271). -/
def DSP_SENG : RegDesc :=
  ⟨"DSP_SENG", 0x181004, [(0x200, 16)], false, none, .no, .site,
    [F.DSP_SENG_QMASK, F.DSP_SENG_QSHORT]⟩
/-- DSP_SFLOW (R271). -/
def DSP_SFLOW : RegDesc :=
  ⟨"DSP_SFLOW", 0x181008, [(0x200, 16)], false, none, .no, .site,
    [F.DSP_SFLOW_FLOWLO, F.DSP_SFLOW_FLOWN]⟩
/-- DSP_SCTL (R271). -/
def DSP_SCTL : RegDesc :=
  ⟨"DSP_SCTL", 0x18100c, [(0x200, 16)], false, none, .sitepf, .site,
    [F.DSP_SCTL_STOP]⟩
/-- DSP_SSTAT (R271). -/
def DSP_SSTAT : RegDesc :=
  ⟨"DSP_SSTAT", 0x181010, [(0x200, 16)], false, none, .site, .site,
    [F.DSP_SSTAT_REJ, F.DSP_SSTAT_BP, F.DSP_SSTAT_POSTWAIT, F.DSP_SSTAT_STOPPED, F.DSP_SSTAT_NRUN, F.DSP_SSTAT_NSUSP]⟩
/-- DSP_SREJCNT (R271). -/
def DSP_SREJCNT : RegDesc :=
  ⟨"DSP_SREJCNT", 0x181014, [(0x200, 16)], false, none, .no, .site,
    [F.DSP_SREJCNT_CNT]⟩
/-- DSP_SBPUS (R271). -/
def DSP_SBPUS : RegDesc :=
  ⟨"DSP_SBPUS", 0x181018, [(0x200, 16)], false, none, .no, .site,
    [F.DSP_SBPUS_US]⟩
/-- DSP_QDEPTH (R271). -/
def DSP_QDEPTH : RegDesc :=
  ⟨"DSP_QDEPTH", 0x181020, [(0x200, 16), (0x4, 8)], false, none, .no, .site,
    [F.DSP_QDEPTH_DEPTH]⟩
/-- DSP_WHIST (R271). -/
def DSP_WHIST : RegDesc :=
  ⟨"DSP_WHIST", 0x181040, [(0x200, 16), (0x4, 16)], false, none, .no, .site,
    [F.DSP_WHIST_CNT]⟩
/-- DSP_WCLR (R271). -/
def DSP_WCLR : RegDesc :=
  ⟨"DSP_WCLR", 0x181080, [(0x200, 16)], false, none, .site, .site,
    [F.DSP_WCLR_CLR]⟩
/-- DSP_PT0 (R271). -/
def DSP_PT0 : RegDesc :=
  ⟨"DSP_PT0", 0x181100, [(0x200, 16), (0x10, 16)], false, none, .no, .site,
    [F.DSP_PT0_ENTRY, F.DSP_PT0_PRIO, F.DSP_PT0_FLOW, F.DSP_PT0_ORD, F.DSP_PT0_RPT, F.DSP_PT0_LEND, F.DSP_PT0_RSVD]⟩
/-- DSP_PT1 (R271). -/
def DSP_PT1 : RegDesc :=
  ⟨"DSP_PT1", 0x181104, [(0x200, 16), (0x10, 16)], false, none, .no, .site,
    [F.DSP_PT1_ENGM]⟩
/-- DSP_PT2 (R271). -/
def DSP_PT2 : RegDesc :=
  ⟨"DSP_PT2", 0x181108, [(0x200, 16), (0x10, 16)], false, none, .no, .site,
    [F.DSP_PT2_ITEM]⟩
/-- TBS_NS (R274). -/
def TBS_NS : RegDesc :=
  ⟨"TBS_NS", 0xc0000, [], false, none, .no, .all,
    [F.TBS_NS_NS]⟩
/-- TBS_FRAC (R274). -/
def TBS_FRAC : RegDesc :=
  ⟨"TBS_FRAC", 0xc0004, [], false, none, .no, .all,
    [F.TBS_FRAC_FRAC]⟩
/-- TBS_SNAP (R274). -/
def TBS_SNAP : RegDesc :=
  ⟨"TBS_SNAP", 0xc0008, [], true, none, .fn, .fn,
    [F.TBS_SNAP_SNAP]⟩
/-- TBS_SNS (R274). -/
def TBS_SNS : RegDesc :=
  ⟨"TBS_SNS", 0xc000c, [], true, none, .no, .fn,
    [F.TBS_SNS_NS]⟩
/-- TBS_SFRAC (R274). -/
def TBS_SFRAC : RegDesc :=
  ⟨"TBS_SFRAC", 0xc0010, [], true, none, .no, .fn,
    [F.TBS_SFRAC_FRAC]⟩
/-- TBS_SWRAP (R274). -/
def TBS_SWRAP : RegDesc :=
  ⟨"TBS_SWRAP", 0xc0014, [], true, none, .no, .fn,
    [F.TBS_SWRAP_WRAP]⟩
/-- TBS_WRAPCNT (R274). -/
def TBS_WRAPCNT : RegDesc :=
  ⟨"TBS_WRAPCNT", 0xc0018, [], false, none, .no, .all,
    [F.TBS_WRAPCNT_WRAP]⟩
/-- TBS_STAT (R274). -/
def TBS_STAT : RegDesc :=
  ⟨"TBS_STAT", 0xc001c, [], false, none, .pf, .all,
    [F.TBS_STAT_WRAPF, F.TBS_STAT_STATE, F.TBS_STAT_ROOT, F.TBS_STAT_OFFEXC, F.TBS_STAT_STEPPED, F.TBS_STAT_TIME_SLIP, F.TBS_STAT_PARLOST, F.TBS_STAT_PARENT, F.TBS_STAT_PARV]⟩
/-- TBS_INC_LO (R274). -/
def TBS_INC_LO : RegDesc :=
  ⟨"TBS_INC_LO", 0xc0020, [], false, none, .no, .pf,
    [F.TBS_INC_LO_FRAC]⟩
/-- TBS_INC_HI (R274). -/
def TBS_INC_HI : RegDesc :=
  ⟨"TBS_INC_HI", 0xc0024, [], false, none, .no, .pf,
    [F.TBS_INC_HI_INT]⟩
/-- TBS_INCNOM_LO (R274). -/
def TBS_INCNOM_LO : RegDesc :=
  ⟨"TBS_INCNOM_LO", 0xc0028, [], false, none, .pf, .pf,
    [F.TBS_INCNOM_LO_FRAC]⟩
/-- TBS_INCNOM_HI (R274). -/
def TBS_INCNOM_HI : RegDesc :=
  ⟨"TBS_INCNOM_HI", 0xc002c, [], false, none, .pf, .pf,
    [F.TBS_INCNOM_HI_INT]⟩
/-- TBS_SERVO (R274). -/
def TBS_SERVO : RegDesc :=
  ⟨"TBS_SERVO", 0xc0030, [], false, none, .pf, .pf,
    [F.TBS_SERVO_KPSH, F.TBS_SERVO_KISH, F.TBS_SERVO_EXLOG, F.TBS_SERVO_MAXPPM]⟩
/-- TBS_OFFLIM (R274). -/
def TBS_OFFLIM : RegDesc :=
  ⟨"TBS_OFFLIM", 0xc0034, [], false, none, .pf, .pf,
    [F.TBS_OFFLIM_OFFLIM]⟩
/-- TBS_OFFS (R274). -/
def TBS_OFFS : RegDesc :=
  ⟨"TBS_OFFS", 0xc0038, [], false, none, .no, .pf,
    [F.TBS_OFFS_THETA]⟩
/-- TBS_DELAY (R274). -/
def TBS_DELAY : RegDesc :=
  ⟨"TBS_DELAY", 0xc003c, [], false, none, .no, .pf,
    [F.TBS_DELAY_DELTA]⟩
/-- TBS_ASYM (R274). -/
def TBS_ASYM : RegDesc :=
  ⟨"TBS_ASYM", 0xc0040, [(0x4, 12)], false, none, .pf, .pf,
    [F.TBS_ASYM_ASYM]⟩
/-- TBS_SETNS (R274). -/
def TBS_SETNS : RegDesc :=
  ⟨"TBS_SETNS", 0xc0070, [], false, none, .pf, .pf,
    [F.TBS_SETNS_NS]⟩
/-- TBS_SETCTL (R274). -/
def TBS_SETCTL : RegDesc :=
  ⟨"TBS_SETCTL", 0xc0074, [], false, none, .pf, .pf,
    [F.TBS_SETCTL_SET]⟩
/-- TBS_SLIP (R274). -/
def TBS_SLIP : RegDesc :=
  ⟨"TBS_SLIP", 0xc0080, [], false, none, .no, .pf,
    [F.TBS_SLIP_ISL, F.TBS_SLIP_CNT]⟩
/-- TBS_EXCNT (R274). -/
def TBS_EXCNT : RegDesc :=
  ⟨"TBS_EXCNT", 0xc0084, [], false, none, .no, .pf,
    [F.TBS_EXCNT_CNT]⟩
/-- TBS_EXFAIL (R274). -/
def TBS_EXFAIL : RegDesc :=
  ⟨"TBS_EXFAIL", 0xc0088, [], false, none, .no, .pf,
    [F.TBS_EXFAIL_CNT]⟩
/-- SAF_CTL (R294). -/
def SAF_CTL : RegDesc :=
  ⟨"SAF_CTL", 0x141000, [(0x100, 16)], false, none, .site, .site,
    [F.SAF_CTL_OPEN, F.SAF_CTL_PREPARE, F.SAF_CTL_ABORT]⟩
/-- SAF_TGT (R294). -/
def SAF_TGT : RegDesc :=
  ⟨"SAF_TGT", 0x141004, [(0x100, 16)], false, none, .site, .site,
    [F.SAF_TGT_F]⟩
/-- SAF_OPEN (R294). -/
def SAF_OPEN : RegDesc :=
  ⟨"SAF_OPEN", 0x141008, [(0x100, 16)], false, none, .no, .site,
    [F.SAF_OPEN_TXID, F.SAF_OPEN_STATE]⟩
/-- SAF_RUN (R294). -/
def SAF_RUN : RegDesc :=
  ⟨"SAF_RUN", 0x14100c, [(0x100, 16)], false, none, .no, .site,
    [F.SAF_RUN_TXID, F.SAF_RUN_STATE]⟩
/-- SAF_QUE (R294). -/
def SAF_QUE : RegDesc :=
  ⟨"SAF_QUE", 0x141010, [(0x100, 16)], false, none, .no, .site,
    [F.SAF_QUE_TXID, F.SAF_QUE_STATE]⟩
/-- SAF_RTGT (R294). -/
def SAF_RTGT : RegDesc :=
  ⟨"SAF_RTGT", 0x141014, [(0x100, 16)], false, none, .no, .site,
    [F.SAF_RTGT_F]⟩
/-- SAF_LAST (R294). -/
def SAF_LAST : RegDesc :=
  ⟨"SAF_LAST", 0x141018, [(0x100, 16)], false, none, .no, .site,
    [F.SAF_LAST_TXID, F.SAF_LAST_OUTCOME, F.SAF_LAST_NOCHIP, F.SAF_LAST_NOREASON]⟩
/-- SAF_LASTF (R294). -/
def SAF_LASTF : RegDesc :=
  ⟨"SAF_LASTF", 0x14101c, [(0x100, 16)], false, none, .no, .site,
    [F.SAF_LASTF_F]⟩
/-- SAF_BND (R294). -/
def SAF_BND : RegDesc :=
  ⟨"SAF_BND", 0x141020, [(0x100, 16)], false, none, .no, .site,
    [F.SAF_BND_BND]⟩
/-- SAF_STGA (R294). -/
def SAF_STGA : RegDesc :=
  ⟨"SAF_STGA", 0x141024, [(0x100, 16)], false, none, .site, .site,
    [F.SAF_STGA_ADDR]⟩
/-- SAF_STGD (R294). -/
def SAF_STGD : RegDesc :=
  ⟨"SAF_STGD", 0x141028, [(0x100, 16)], false, none, .site, .site,
    [F.SAF_STGD_DATA]⟩
/-- SAF_STGN (R294). -/
def SAF_STGN : RegDesc :=
  ⟨"SAF_STGN", 0x14102c, [(0x100, 16)], false, none, .no, .site,
    [F.SAF_STGN_N]⟩
/-- SAF_SWAP (R294). -/
def SAF_SWAP : RegDesc :=
  ⟨"SAF_SWAP", 0x141030, [(0x100, 16)], false, none, .site, .site,
    [F.SAF_SWAP_MASK]⟩
/-- SAF_STAT (R294). -/
def SAF_STAT : RegDesc :=
  ⟨"SAF_STAT", 0x141034, [(0x100, 16)], false, none, .site, .site,
    [F.SAF_STAT_STG_REJ, F.SAF_STAT_CTL_REJ, F.SAF_STAT_INDOUBT, F.SAF_STAT_ABORTED, F.SAF_STAT_SUPERSEDED]⟩
/-- SAF_RESOLVE (R294). -/
def SAF_RESOLVE : RegDesc :=
  ⟨"SAF_RESOLVE", 0x141038, [(0x100, 16)], false, none, .site, .site,
    [F.SAF_RESOLVE_ACT, F.SAF_RESOLVE_TXID]⟩
/-- SAF_APPCNT (R294). -/
def SAF_APPCNT : RegDesc :=
  ⟨"SAF_APPCNT", 0x14103c, [(0x100, 16)], false, none, .no, .site,
    [F.SAF_APPCNT_CNT]⟩
/-- FAB_ID (R319). -/
def FAB_ID : RegDesc :=
  ⟨"FAB_ID", 0x100000, [], false, none, .no, .pf,
    [F.FAB_ID_CHIP, F.FAB_ID_TROOT, F.FAB_ID_SROOT]⟩
/-- FAB_TOPOVER (R319). -/
def FAB_TOPOVER : RegDesc :=
  ⟨"FAB_TOPOVER", 0x100004, [], false, none, .no, .pf,
    [F.FAB_TOPOVER_VER]⟩
/-- FAB_TTLDROP (R319). -/
def FAB_TTLDROP : RegDesc :=
  ⟨"FAB_TTLDROP", 0x100008, [], false, none, .no, .pf,
    [F.FAB_TTLDROP_CNT]⟩
/-- FAB_FLSTALE (R319). -/
def FAB_FLSTALE : RegDesc :=
  ⟨"FAB_FLSTALE", 0x10000c, [], false, none, .no, .pf,
    [F.FAB_FLSTALE_CNT]⟩
/-- FAB_PCTL (R319). -/
def FAB_PCTL : RegDesc :=
  ⟨"FAB_PCTL", 0x100100, [(0x20, 12)], false, none, .pf, .pf,
    [F.FAB_PCTL_EN, F.FAB_PCTL_RETRAIN]⟩
/-- FAB_PSTAT (R319). -/
def FAB_PSTAT : RegDesc :=
  ⟨"FAB_PSTAT", 0x100104, [(0x20, 12)], false, none, .pf, .pf,
    [F.FAB_PSTAT_STATE, F.FAB_PSTAT_DUPID, F.FAB_PSTAT_FLIGHT, F.FAB_PSTAT_FAR, F.FAB_PSTAT_FARV]⟩
/-- FAB_PTRANS (R319). -/
def FAB_PTRANS : RegDesc :=
  ⟨"FAB_PTRANS", 0x100108, [(0x20, 12)], false, none, .no, .pf,
    [F.FAB_PTRANS_CNT]⟩
/-- FAB_PRTRN (R319). -/
def FAB_PRTRN : RegDesc :=
  ⟨"FAB_PRTRN", 0x10010c, [(0x20, 12)], false, none, .no, .pf,
    [F.FAB_PRTRN_CNT]⟩
/-- FAB_PCV (R319). -/
def FAB_PCV : RegDesc :=
  ⟨"FAB_PCV", 0x100110, [(0x20, 12)], false, none, .no, .pf,
    [F.FAB_PCV_CNT]⟩
/-- FAB_PFLERR (R319). -/
def FAB_PFLERR : RegDesc :=
  ⟨"FAB_PFLERR", 0x100114, [(0x20, 12)], false, none, .no, .pf,
    [F.FAB_PFLERR_CNT]⟩
/-- FAB_PEERSEL (R319). -/
def FAB_PEERSEL : RegDesc :=
  ⟨"FAB_PEERSEL", 0x100500, [], false, none, .pf, .pf,
    [F.FAB_PEERSEL_CHIP]⟩
/-- FAB_SLPCTL (R319). -/
def FAB_SLPCTL : RegDesc :=
  ⟨"FAB_SLPCTL", 0x100300, [], false, none, .pf, .pf,
    [F.FAB_SLPCTL_VOTE, F.FAB_SLPCTL_WAKE]⟩
/-- FAB_SLPSTAT (R319). -/
def FAB_SLPSTAT : RegDesc :=
  ⟨"FAB_SLPSTAT", 0x100304, [], false, none, .pf, .pf,
    [F.FAB_SLPSTAT_STATE, F.FAB_SLPSTAT_CANCELLED, F.FAB_SLPSTAT_CTL_REJ]⟩
/-- FAB_SLPT (R319). -/
def FAB_SLPT : RegDesc :=
  ⟨"FAB_SLPT", 0x100308, [], false, none, .no, .pf,
    [F.FAB_SLPT_NS]⟩
/-- FAB_SLPLEAD (R319). -/
def FAB_SLPLEAD : RegDesc :=
  ⟨"FAB_SLPLEAD", 0x10030c, [], false, none, .pf, .pf,
    [F.FAB_SLPLEAD_US]⟩
/-- FAB_SYSFL (R319). -/
def FAB_SYSFL : RegDesc :=
  ⟨"FAB_SYSFL", 0x100400, [], false, none, .pf, .pf,
    [F.FAB_SYSFL_CODE, F.FAB_SYSFL_SEND]⟩
/-- FAB_SYSRX (R319). -/
def FAB_SYSRX : RegDesc :=
  ⟨"FAB_SYSRX", 0x100404, [], false, none, .no, .pf,
    [F.FAB_SYSRX_CODE]⟩
/-- FAB_SEPOCH (R319). -/
def FAB_SEPOCH : RegDesc :=
  ⟨"FAB_SEPOCH", 0x101000, [(0x10, 16)], false, none, .no, .site,
    [F.FAB_SEPOCH_EPOCH]⟩
/-- FAB_SSTALE (R319). -/
def FAB_SSTALE : RegDesc :=
  ⟨"FAB_SSTALE", 0x101004, [(0x10, 16)], false, none, .no, .site,
    [F.FAB_SSTALE_CNT]⟩
/-- SITE_MAP (R323). -/
def SITE_MAP : RegDesc :=
  ⟨"SITE_MAP", 0x28c000, [(0x100, 16), (0x4, 64)], false, none, .no, .site,
    [F.SITE_MAP_WORD]⟩
/-- SITE_GSTAT (R323). -/
def SITE_GSTAT : RegDesc :=
  ⟨"SITE_GSTAT", 0x280000, [], false, none, .no, .pf,
    [F.SITE_GSTAT_RESV_OVER, F.SITE_GSTAT_MAPCOPY]⟩
/-- SITE_GDIG (R323). -/
def SITE_GDIG : RegDesc :=
  ⟨"SITE_GDIG", 0x280004, [], false, none, .no, .pf,
    [F.SITE_GDIG_DIG]⟩
/-- SITE_SCTL (R335). -/
def SITE_SCTL : RegDesc :=
  ⟨"SITE_SCTL", 0x283000, [(0x20, 16)], false, none, .sitepf, .site,
    [F.SITE_SCTL_RESET]⟩
/-- SITE_SSTAT (R335). -/
def SITE_SSTAT : RegDesc :=
  ⟨"SITE_SSTAT", 0x283004, [(0x20, 16)], false, none, .sitepf, .site,
    [F.SITE_SSTAT_SCRUB, F.SITE_SSTAT_RESETTING, F.SITE_SSTAT_CONFLICT]⟩
/-- SITE_SCFL (R335). -/
def SITE_SCFL : RegDesc :=
  ⟨"SITE_SCFL", 0x283008, [(0x20, 16)], false, none, .no, .site,
    [F.SITE_SCFL_LSRC, F.SITE_SCFL_WSRC]⟩
/-- SITE_SCFLA (R335). -/
def SITE_SCFLA : RegDesc :=
  ⟨"SITE_SCFLA", 0x28300c, [(0x20, 16)], false, none, .no, .site,
    [F.SITE_SCFLA_ADDR]⟩
/-- SITE_SCFLN (R335). -/
def SITE_SCFLN : RegDesc :=
  ⟨"SITE_SCFLN", 0x283010, [(0x20, 16)], false, none, .no, .site,
    [F.SITE_SCFLN_CNT]⟩
/-- SITE_SFLWAIT (R335). -/
def SITE_SFLWAIT : RegDesc :=
  ⟨"SITE_SFLWAIT", 0x283014, [(0x20, 16)], false, none, .no, .site,
    [F.SITE_SFLWAIT_CNT]⟩
/-- MEM_STAT (R357). -/
def MEM_STAT : RegDesc :=
  ⟨"MEM_STAT", 0x240000, [], false, none, .pf, .all,
    [F.MEM_STAT_NCH, F.MEM_STAT_MODMAP, F.MEM_STAT_TRBUSY, F.MEM_STAT_TRLATE, F.MEM_STAT_MIR2]⟩
/-- MEM_CHRET (R357). -/
def MEM_CHRET : RegDesc :=
  ⟨"MEM_CHRET", 0x240004, [], false, none, .no, .all,
    [F.MEM_CHRET_RET]⟩
/-- MEM_CECNT (R357). -/
def MEM_CECNT : RegDesc :=
  ⟨"MEM_CECNT", 0x240008, [], false, none, .no, .pf,
    [F.MEM_CECNT_CNT]⟩
/-- MEM_UECNT (R357). -/
def MEM_UECNT : RegDesc :=
  ⟨"MEM_UECNT", 0x24000c, [], false, none, .no, .pf,
    [F.MEM_UECNT_CNT]⟩
/-- MEM_UEADDR_LO (R357). -/
def MEM_UEADDR_LO : RegDesc :=
  ⟨"MEM_UEADDR_LO", 0x240010, [], false, none, .no, .pf,
    [F.MEM_UEADDR_LO_A]⟩
/-- MEM_UEADDR_HI (R357). -/
def MEM_UEADDR_HI : RegDesc :=
  ⟨"MEM_UEADDR_HI", 0x240014, [], false, none, .no, .pf,
    [F.MEM_UEADDR_HI_A, F.MEM_UEADDR_HI_DC]⟩
/-- MEM_SCE (R357). -/
def MEM_SCE : RegDesc :=
  ⟨"MEM_SCE", 0x240018, [], false, none, .no, .pf,
    [F.MEM_SCE_CNT]⟩
/-- MEM_SUE (R357). -/
def MEM_SUE : RegDesc :=
  ⟨"MEM_SUE", 0x24001c, [], false, none, .no, .pf,
    [F.MEM_SUE_CNT]⟩
/-- MEM_CHMASK (R357). -/
def MEM_CHMASK : RegDesc :=
  ⟨"MEM_CHMASK", 0x240020, [(0x4, 4)], false, none, .pf, .pf,
    [F.MEM_CHMASK_MASK]⟩
/-- MEM_BKMASK (R357). -/
def MEM_BKMASK : RegDesc :=
  ⟨"MEM_BKMASK", 0x240030, [(0x4, 4)], false, none, .pf, .pf,
    [F.MEM_BKMASK_MASK]⟩
/-- MEM_AGE (R357). -/
def MEM_AGE : RegDesc :=
  ⟨"MEM_AGE", 0x240040, [(0x4, 4)], false, none, .pf, .pf,
    [F.MEM_AGE_LIM]⟩
/-- MEM_PGHINT (R357). -/
def MEM_PGHINT : RegDesc :=
  ⟨"MEM_PGHINT", 0x240050, [], false, none, .pf, .pf,
    [F.MEM_PGHINT_OPEN]⟩
/-- MEM_PDCFG (R357). -/
def MEM_PDCFG : RegDesc :=
  ⟨"MEM_PDCFG", 0x240054, [], false, none, .pf, .pf,
    [F.MEM_PDCFG_PD1EN, F.MEM_PDCFG_PD2EN]⟩
/-- MEM_PDSTAT (R357). -/
def MEM_PDSTAT : RegDesc :=
  ⟨"MEM_PDSTAT", 0x240058, [], false, none, .no, .pf,
    [F.MEM_PDSTAT_LVL]⟩
/-- MEM_TRCFG (R357). -/
def MEM_TRCFG : RegDesc :=
  ⟨"MEM_TRCFG", 0x240060, [], false, none, .pf, .pf,
    [F.MEM_TRCFG_TSITE, F.MEM_TRCFG_TSITEV, F.MEM_TRCFG_TRINT]⟩
/-- MEM_TRCNT (R357). -/
def MEM_TRCNT : RegDesc :=
  ⟨"MEM_TRCNT", 0x240064, [], false, none, .no, .pf,
    [F.MEM_TRCNT_CNT]⟩
/-- MEM_TRLAST (R357). -/
def MEM_TRLAST : RegDesc :=
  ⟨"MEM_TRLAST", 0x240068, [], false, none, .no, .pf,
    [F.MEM_TRLAST_NS]⟩
/-- MEM_RETAIN (R357). -/
def MEM_RETAIN : RegDesc :=
  ⟨"MEM_RETAIN", 0x241000, [(0x10, 16)], false, none, .site, .site,
    [F.MEM_RETAIN_RET]⟩
/-- MEM_DBLFRONT (R357). -/
def MEM_DBLFRONT : RegDesc :=
  ⟨"MEM_DBLFRONT", 0x241004, [(0x10, 16)], false, none, .no, .site,
    [F.MEM_DBLFRONT_FRONT]⟩
/-- MEM_RLOST (R357). -/
def MEM_RLOST : RegDesc :=
  ⟨"MEM_RLOST", 0x241008, [(0x10, 16)], false, none, .site, .site,
    [F.MEM_RLOST_LOST]⟩
/-- MEM_CHTR (R357). -/
def MEM_CHTR : RegDesc :=
  ⟨"MEM_CHTR", 0x242000, [(0x10, 16)], false, none, .no, .pf,
    [F.MEM_CHTR_WMARG, F.MEM_CHTR_RMARG, F.MEM_CHTR_INSVC, F.MEM_CHTR_ATT]⟩
/-- MEM_CHCE (R357). -/
def MEM_CHCE : RegDesc :=
  ⟨"MEM_CHCE", 0x242004, [(0x10, 16)], false, none, .no, .pf,
    [F.MEM_CHCE_CNT]⟩
/-- CLK_REF (R369). -/
def CLK_REF : RegDesc :=
  ⟨"CLK_REF", 0x80000, [], false, none, .pf, .pf,
    [F.CLK_REF_REFOK, F.CLK_REF_REFLOSS, F.CLK_REF_LCNT]⟩
/-- CLK_LPCFG (R369). -/
def CLK_LPCFG : RegDesc :=
  ⟨"CLK_LPCFG", 0x80100, [(0x40, 4)], false, none, .pf, .lp,
    [F.CLK_LPCFG_RDIV, F.CLK_LPCFG_NDIV, F.CLK_LPCFG_OWN, F.CLK_LPCFG_OWNV]⟩
/-- CLK_LPSSC (R369). -/
def CLK_LPSSC : RegDesc :=
  ⟨"CLK_LPSSC", 0x80104, [(0x40, 4)], false, none, .pf, .lp,
    [F.CLK_LPSSC_DEPTH, F.CLK_LPSSC_CENTRE, F.CLK_LPSSC_FMOD]⟩
/-- CLK_LPO (R369). -/
def CLK_LPO : RegDesc :=
  ⟨"CLK_LPO", 0x80108, [(0x40, 4), (0x4, 4)], false, none, .lp, .lp4,
    [F.CLK_LPO_DIV, F.CLK_LPO_DLY, F.CLK_LPO_EN]⟩
/-- CLK_LPL (R369). -/
def CLK_LPL : RegDesc :=
  ⟨"CLK_LPL", 0x80120, [(0x40, 4), (0x4, 4)], false, none, .no, .lp4,
    [F.CLK_LPL_DIV, F.CLK_LPL_DLY, F.CLK_LPL_EN]⟩
/-- CLK_LPCTL (R369). -/
def CLK_LPCTL : RegDesc :=
  ⟨"CLK_LPCTL", 0x80130, [(0x40, 4)], false, none, .lp1, .lp,
    [F.CLK_LPCTL_UPDNOW]⟩
/-- CLK_LPSTAT (R369). -/
def CLK_LPSTAT : RegDesc :=
  ⟨"CLK_LPSTAT", 0x80134, [(0x40, 4)], false, none, .pf, .lp,
    [F.CLK_LPSTAT_LOCK, F.CLK_LPSTAT_LOL, F.CLK_LPSTAT_BYP, F.CLK_LPSTAT_UPD_REJ, F.CLK_LPSTAT_CFG_REJ, F.CLK_LPSTAT_SSCON, F.CLK_LPSTAT_LOLCNT]⟩
/-- CLK_CORESTAT (R369). -/
def CLK_CORESTAT : RegDesc :=
  ⟨"CLK_CORESTAT", 0x80200, [], false, none, .pf, .pf,
    [F.CLK_CORESTAT_LOCK, F.CLK_CORESTAT_LOL, F.CLK_CORESTAT_BYP, F.CLK_CORESTAT_LOLCNT]⟩
/-- CLK_TBSTAT (R369). -/
def CLK_TBSTAT : RegDesc :=
  ⟨"CLK_TBSTAT", 0x80210, [], false, none, .pf, .pf,
    [F.CLK_TBSTAT_LOCK, F.CLK_TBSTAT_LOL, F.CLK_TBSTAT_BYP, F.CLK_TBSTAT_LOLCNT]⟩
/-- OCT_CKSEL (R369). -/
def OCT_CKSEL : RegDesc :=
  ⟨"OCT_CKSEL", 0x1000500, [(0x100000, 8)], false, some 0x40, .oct0, .octany,
    [F.OCT_CKSEL_OUT, F.OCT_CKSEL_LP]⟩
/-- OCT_CKSTAT (R369). -/
def OCT_CKSTAT : RegDesc :=
  ⟨"OCT_CKSTAT", 0x1000580, [(0x100000, 8)], false, none, .pf, .octany,
    [F.OCT_CKSTAT_FLINE, F.OCT_CKSTAT_UNCLK, F.OCT_CKSTAT_CKSEL_REJ]⟩
/-- FLT_STAT (R401). -/
def FLT_STAT : RegDesc :=
  ⟨"FLT_STAT", 0x1c0000, [], false, none, .pf, .all,
    [F.FLT_STAT_CSRC, F.FLT_STAT_CSAFE, F.FLT_STAT_CLATCH, F.FLT_STAT_ERR, F.FLT_STAT_FLTIN_LINE, F.FLT_STAT_NVMFAIL, F.FLT_STAT_WIREF, F.FLT_STAT_SSAFE]⟩
/-- FLT_CFG (R401). -/
def FLT_CFG : RegDesc :=
  ⟨"FLT_CFG", 0x1c0008, [], false, none, .pf, .pf,
    [F.FLT_CFG_ERRSITE, F.FLT_CFG_FLTINEN]⟩
/-- FLT_QUIET (R401). -/
def FLT_QUIET : RegDesc :=
  ⟨"FLT_QUIET", 0x1c000c, [], false, none, .pf, .pf,
    [F.FLT_QUIET_QMS]⟩
/-- FLT_RLIM (R401). -/
def FLT_RLIM : RegDesc :=
  ⟨"FLT_RLIM", 0x1c0010, [], false, none, .pf, .pf,
    [F.FLT_RLIM_RLIM]⟩
/-- FLT_ILK (R401). -/
def FLT_ILK : RegDesc :=
  ⟨"FLT_ILK", 0x1c0020, [], false, none, .pf, .all,
    [F.FLT_ILK_ACL, F.FLT_ILK_BCL, F.FLT_ILK_DISCREP, F.FLT_ILK_OPENED, F.FLT_ILK_DTIME]⟩
/-- FLT_ILKCNT (R401). -/
def FLT_ILKCNT : RegDesc :=
  ⟨"FLT_ILKCNT", 0x1c0024, [], false, none, .no, .pf,
    [F.FLT_ILKCNT_OPN, F.FLT_ILKCNT_DSC]⟩
/-- FLT_WIRE (R401). -/
def FLT_WIRE : RegDesc :=
  ⟨"FLT_WIRE", 0x1c0028, [], false, none, .no, .pf,
    [F.FLT_WIRE_SRC, F.FLT_WIRE_CHIPSRC, F.FLT_WIRE_SITE, F.FLT_WIRE_CNT]⟩
/-- FLT_RCNT (R401). -/
def FLT_RCNT : RegDesc :=
  ⟨"FLT_RCNT", 0x1c0100, [(0x10, 17)], false, none, .no, .scope,
    [F.FLT_RCNT_RCNT]⟩
/-- FLT_RBASE (R401). -/
def FLT_RBASE : RegDesc :=
  ⟨"FLT_RBASE", 0x1c0104, [(0x10, 17)], false, none, .no, .scope,
    [F.FLT_RBASE_RBASE]⟩
/-- FLT_SSRC (R401). -/
def FLT_SSRC : RegDesc :=
  ⟨"FLT_SSRC", 0x1c0108, [(0x10, 17)], false, none, .scope, .scope,
    [F.FLT_SSRC_SRC, F.FLT_SSRC_SAFE, F.FLT_SSRC_LATCHED, F.FLT_SSRC_QUIETING, F.FLT_SSRC_STK]⟩
/-- FLT_SCTL (R401). -/
def FLT_SCTL : RegDesc :=
  ⟨"FLT_SCTL", 0x1c010c, [(0x10, 17)], false, none, .scope, .scope,
    [F.FLT_SCTL_CLEAR]⟩
/-- MON_SEL (R410). -/
def MON_SEL : RegDesc :=
  ⟨"MON_SEL", 0x200000, [], false, none, .pf, .all,
    [F.MON_SEL_SEL]⟩
/-- MON_CTL (R410). -/
def MON_CTL : RegDesc :=
  ⟨"MON_CTL", 0x200004, [], false, none, .pf, .all,
    [F.MON_CTL_SNAP, F.MON_CTL_CLR]⟩
/-- MON_STAT (R410). -/
def MON_STAT : RegDesc :=
  ⟨"MON_STAT", 0x200008, [], false, none, .no, .all,
    [F.MON_STAT_CUR, F.MON_STAT_DLEFT]⟩
/-- MON_SNT (R410). -/
def MON_SNT : RegDesc :=
  ⟨"MON_SNT", 0x20000c, [], false, none, .no, .all,
    [F.MON_SNT_NS]⟩
/-- MON_CONV (R410). -/
def MON_CONV : RegDesc :=
  ⟨"MON_CONV", 0x200010, [], false, none, .no, .all,
    [F.MON_CONV_CNT]⟩
/-- MON_SUM_LO (R410). -/
def MON_SUM_LO : RegDesc :=
  ⟨"MON_SUM_LO", 0x200100, [(0x20, 32)], false, none, .no, .all,
    [F.MON_SUM_LO_SUM]⟩
/-- MON_SUM_HI (R410). -/
def MON_SUM_HI : RegDesc :=
  ⟨"MON_SUM_HI", 0x200104, [(0x20, 32)], false, none, .no, .all,
    [F.MON_SUM_HI_SUM]⟩
/-- MON_CNT (R410). -/
def MON_CNT : RegDesc :=
  ⟨"MON_CNT", 0x200108, [(0x20, 32)], false, none, .no, .all,
    [F.MON_CNT_CNT]⟩
/-- MON_MM (R410). -/
def MON_MM : RegDesc :=
  ⟨"MON_MM", 0x20010c, [(0x20, 32)], false, none, .no, .all,
    [F.MON_MM_MIN, F.MON_MM_MAX]⟩
/-- MON_FLG (R410). -/
def MON_FLG : RegDesc :=
  ⟨"MON_FLG", 0x200110, [(0x20, 32)], false, none, .pf, .all,
    [F.MON_FLG_OVR, F.MON_FLG_SATF]⟩
/-- MON_OVRCNT (R410). -/
def MON_OVRCNT : RegDesc :=
  ⟨"MON_OVRCNT", 0x200114, [(0x20, 32)], false, none, .no, .all,
    [F.MON_OVRCNT_CNT]⟩
/-- MON_DISC (R410). -/
def MON_DISC : RegDesc :=
  ⟨"MON_DISC", 0x200118, [(0x20, 32)], false, none, .no, .all,
    [F.MON_DISC_CNT]⟩
/-- GLB_ID (R432). -/
def GLB_ID : RegDesc :=
  ⟨"GLB_ID", 0x0, [], false, none, .no, .all,
    [F.GLB_ID_PART, F.GLB_ID_GRADE, F.GLB_ID_STEP]⟩
/-- GLB_BOOTSTAT (R432). -/
def GLB_BOOTSTAT : RegDesc :=
  ⟨"GLB_BOOTSTAT", 0x4, [], false, none, .no, .all,
    [F.GLB_BOOTSTAT_PHASE, F.GLB_BOOTSTAT_SLOWRD, F.GLB_BOOTSTAT_FBUSED, F.GLB_BOOTSTAT_FAILSEC, F.GLB_BOOTSTAT_FAILWHY]⟩
/-- GLB_FBMASK_LO (R432). -/
def GLB_FBMASK_LO : RegDesc :=
  ⟨"GLB_FBMASK_LO", 0x8, [], false, none, .no, .all,
    [F.GLB_FBMASK_LO_FB]⟩
/-- GLB_FBMASK_HI (R432). -/
def GLB_FBMASK_HI : RegDesc :=
  ⟨"GLB_FBMASK_HI", 0xc, [], false, none, .no, .all,
    [F.GLB_FBMASK_HI_FB]⟩
/-- GLB_IMGVER (R432). -/
def GLB_IMGVER : RegDesc :=
  ⟨"GLB_IMGVER", 0x10, [], false, none, .no, .all,
    [F.GLB_IMGVER_PRI, F.GLB_IMGVER_FBK]⟩
/-- GLB_BOOTT (R432). -/
def GLB_BOOTT : RegDesc :=
  ⟨"GLB_BOOTT", 0x14, [], false, none, .no, .all,
    [F.GLB_BOOTT_US]⟩
/-- GLB_PWRCTL (R432). -/
def GLB_PWRCTL : RegDesc :=
  ⟨"GLB_PWRCTL", 0x20, [], false, none, .pf, .all,
    [F.GLB_PWRCTL_REQ, F.GLB_PWRCTL_GO]⟩
/-- GLB_PWRSTAT (R432). -/
def GLB_PWRSTAT : RegDesc :=
  ⟨"GLB_PWRSTAT", 0x24, [], false, none, .pf, .all,
    [F.GLB_PWRSTAT_STATE, F.GLB_PWRSTAT_BUSY, F.GLB_PWRSTAT_PWR_REJ, F.GLB_PWRSTAT_CANCELLED]⟩
/-- GLB_RSTCAUSE (R432). -/
def GLB_RSTCAUSE : RegDesc :=
  ⟨"GLB_RSTCAUSE", 0x28, [], false, none, .no, .all,
    [F.GLB_RSTCAUSE_COLD, F.GLB_RSTCAUSE_PGLOSS, F.GLB_RSTCAUSE_WAKEUP, F.GLB_RSTCAUSE_REBOOT, F.GLB_RSTCAUSE_SELFREC]⟩
/-- GLB_RSTCTL (R432). -/
def GLB_RSTCTL : RegDesc :=
  ⟨"GLB_RSTCTL", 0x30, [], false, none, .pf, .all,
    [F.GLB_RSTCTL_REBOOT]⟩
/-- NVM_STAT (R433). -/
def NVM_STAT : RegDesc :=
  ⟨"NVM_STAT", 0x40000, [], false, none, .pf, .pf,
    [F.NVM_STAT_BUSY, F.NVM_STAT_DONE, F.NVM_STAT_FAIL, F.NVM_STAT_KEYARM, F.NVM_STAT_PSCOPY, F.NVM_STAT_PSVALID]⟩
/-- NVM_KEY (R433). -/
def NVM_KEY : RegDesc :=
  ⟨"NVM_KEY", 0x40004, [], false, none, .pf, .pf,
    [F.NVM_KEY_KEY]⟩
/-- NVM_CMD (R433). -/
def NVM_CMD : RegDesc :=
  ⟨"NVM_CMD", 0x40008, [], false, none, .pf, .pf,
    [F.NVM_CMD_CMD, F.NVM_CMD_SLOT, F.NVM_CMD_GO]⟩
/-- NVM_KSTAT (R433). -/
def NVM_KSTAT : RegDesc :=
  ⟨"NVM_KSTAT", 0x4000c, [], false, none, .no, .pf,
    [F.NVM_KSTAT_K0, F.NVM_KSTAT_K1]⟩
/-- NVM_PSSEQ (R433). -/
def NVM_PSSEQ : RegDesc :=
  ⟨"NVM_PSSEQ", 0x40010, [], false, none, .no, .pf,
    [F.NVM_PSSEQ_SEQ]⟩
/-- NVM_FLHEAD (R433). -/
def NVM_FLHEAD : RegDesc :=
  ⟨"NVM_FLHEAD", 0x40014, [], false, none, .no, .pf,
    [F.NVM_FLHEAD_HEAD]⟩
/-- NVM_FLCNT (R433). -/
def NVM_FLCNT : RegDesc :=
  ⟨"NVM_FLCNT", 0x40018, [], false, none, .no, .pf,
    [F.NVM_FLCNT_CNT]⟩
/-- NVM_FLDROP (R433). -/
def NVM_FLDROP : RegDesc :=
  ⟨"NVM_FLDROP", 0x4001c, [], false, none, .no, .pf,
    [F.NVM_FLDROP_CNT]⟩
/-- NVM_WEAR (R433). -/
def NVM_WEAR : RegDesc :=
  ⟨"NVM_WEAR", 0x40020, [], false, none, .no, .pf,
    [F.NVM_WEAR_MAX]⟩
/-- NVM_KDIG (R433). -/
def NVM_KDIG : RegDesc :=
  ⟨"NVM_KDIG", 0x40100, [(0x40, 2), (0x4, 12)], false, none, .no, .pf,
    [F.NVM_KDIG_DIG]⟩
/-- HST_RBASE_LO (R441). -/
def HST_RBASE_LO : RegDesc :=
  ⟨"HST_RBASE_LO", 0x2c0000, [(0x1000, 16), (0x20, 4)], false, none, .hst, .hst,
    [F.HST_RBASE_LO_BASE]⟩
/-- HST_RBASE_HI (R441). -/
def HST_RBASE_HI : RegDesc :=
  ⟨"HST_RBASE_HI", 0x2c0004, [(0x1000, 16), (0x20, 4)], false, none, .hst, .hst,
    [F.HST_RBASE_HI_BASE]⟩
/-- HST_RCFG (R441). -/
def HST_RCFG : RegDesc :=
  ⟨"HST_RCFG", 0x2c0008, [(0x1000, 16), (0x20, 4)], false, none, .hst, .hst,
    [F.HST_RCFG_LOG2N, F.HST_RCFG_EN]⟩
/-- HST_RPROD (R441). -/
def HST_RPROD : RegDesc :=
  ⟨"HST_RPROD", 0x2c000c, [(0x1000, 16), (0x20, 4)], false, none, .hst, .hst,
    [F.HST_RPROD_PROD]⟩
/-- HST_RCONS (R441). -/
def HST_RCONS : RegDesc :=
  ⟨"HST_RCONS", 0x2c0010, [(0x1000, 16), (0x20, 4)], false, none, .hst, .hst,
    [F.HST_RCONS_CONS]⟩
/-- HST_CQSEQ (R441). -/
def HST_CQSEQ : RegDesc :=
  ⟨"HST_CQSEQ", 0x2c0034, [(0x1000, 16)], false, none, .no, .hst1,
    [F.HST_CQSEQ_CSEQ]⟩
/-- HST_SIERR (R441). -/
def HST_SIERR : RegDesc :=
  ⟨"HST_SIERR", 0x2c0074, [(0x1000, 16)], false, none, .no, .hst1,
    [F.HST_SIERR_IDX]⟩
/-- HST_SIERRC (R441). -/
def HST_SIERRC : RegDesc :=
  ⟨"HST_SIERRC", 0x2c0078, [(0x1000, 16)], false, none, .no, .hst1,
    [F.HST_SIERRC_RSN]⟩
/-- HST_EVT (R446). -/
def HST_EVT : RegDesc :=
  ⟨"HST_EVT", 0x2c00c0, [(0x1000, 17)], false, none, .hst1, .hst1,
    [F.HST_EVT_EVT]⟩
/-- HST_EVMSK (R446). -/
def HST_EVMSK : RegDesc :=
  ⟨"HST_EVMSK", 0x2c00c4, [(0x1000, 17)], false, none, .hst1, .hst1,
    [F.HST_EVMSK_MSK]⟩
/-- HST_WIN (R441). -/
def HST_WIN : RegDesc :=
  ⟨"HST_WIN", 0x2c00d0, [(0x1000, 16), (0x4, 3)], false, none, .hst3, .hst3,
    [F.HST_WIN_BASE]⟩
/-- HST_ERR (R441). -/
def HST_ERR : RegDesc :=
  ⟨"HST_ERR", 0x2c00e0, [(0x1000, 17)], false, none, .hst1, .hst1,
    [F.HST_ERR_SZ, F.HST_ERR_CFGERR, F.HST_ERR_PTRERR, F.HST_ERR_DMAERR]⟩
/-- MSIX_ADDR_LO (R435). -/
def MSIX_ADDR_LO : RegDesc :=
  ⟨"MSIX_ADDR_LO", 0x2d1000, [(0x10, 16)], true, none, .fn, .fn,
    [F.MSIX_ADDR_LO_ADDR]⟩
/-- MSIX_ADDR_HI (R435). -/
def MSIX_ADDR_HI : RegDesc :=
  ⟨"MSIX_ADDR_HI", 0x2d1004, [(0x10, 16)], true, none, .fn, .fn,
    [F.MSIX_ADDR_HI_ADDR]⟩
/-- MSIX_DATA (R435). -/
def MSIX_DATA : RegDesc :=
  ⟨"MSIX_DATA", 0x2d1008, [(0x10, 16)], true, none, .fn, .fn,
    [F.MSIX_DATA_DATA]⟩
/-- MSIX_CTRL (R435). -/
def MSIX_CTRL : RegDesc :=
  ⟨"MSIX_CTRL", 0x2d100c, [(0x10, 16)], true, none, .fn, .fn,
    [F.MSIX_CTRL_MASK]⟩
/-- MSIX_PBA (R435). -/
def MSIX_PBA : RegDesc :=
  ⟨"MSIX_PBA", 0x2d2000, [], true, none, .no, .fn,
    [F.MSIX_PBA_PEND]⟩

end R

/-- The registers of the OCT block. -/
def regs_oct : List RegDesc :=
  [R.OCT_PERS, R.OCT_OSTAT, R.OCT_TXAMP, R.OCT_TXFFE0, R.OCT_TXFFE1, R.OCT_RXCFG, R.OCT_THR, R.OCT_LBCFG, R.OCT_RXCOEF0, R.OCT_RXCOEF1, R.OCT_RXCOEF2, R.OCT_RXCOEF3, R.OCT_FESTAT, R.OCT_TSPER, R.OCT_TSDA, R.OCT_TSDB, R.OCT_TSDC, R.OCT_TSSA, R.OCT_TSSB, R.OCT_BBPAGE, R.OCT_FETCH, R.OCT_VSTAT, R.OCT_EDCNT, R.OCT_SSCNT, R.OCT_SEGBLK, R.OCT_SEGLEN, R.OCT_SEGCTL, R.OCT_SEGVAL, R.OCT_WFCFG, R.OCT_WFRING, R.OCT_WFSTAT, R.OCT_WFLOST, R.OCT_WFTRGCNT, R.OCT_WFRPTR, R.OCT_WFWPTR, R.OCT_WFERRENT, R.OCT_PCFG, R.OCT_PSTAT, R.OCT_LCFG, R.OCT_LRXSD_LO, R.OCT_LRXSD_HI, R.OCT_LRXFMT, R.OCT_LRXID, R.OCT_LSTAT, R.OCT_LTSQDROP, R.OCT_LMISS, R.OCT_LSEQ, R.OCT_TSQHEAD, R.OCT_TSQT_LO, R.OCT_TSQT_HI, R.OCT_TSQPOP, R.OCT_LRXTS_LO, R.OCT_LRXTS_HI, R.OCT_LRXREC, R.OCT_LRXFRM, R.OCT_LRXCRCERR, R.OCT_LBITERR, R.OCT_LBITCNT_LO, R.OCT_LBITCNT_HI, R.OCT_LTXLAT, R.OCT_LRXLAT, R.OCT_TPL0, R.OCT_TPL1, R.OCT_TPL2, R.OCT_TPL3, R.OCT_TPL4, R.OCT_TPL5, R.OCT_TPL6, R.OCT_TPL7, R.OCT_TPL8, R.OCT_TPL9, R.OCT_TPL10, R.OCT_FCNT, R.OCT_FFIDX, R.OCT_FFBEAT, R.OCT_FCTL, R.OCT_TDCCFG, R.OCT_TDCREF, R.OCT_TDCCTL, R.OCT_TDCSTAT, R.OCT_TDCCNT, R.OCT_TDCSUM_LO, R.OCT_TDCSUM_HI, R.OCT_TDCSQ_LO, R.OCT_TDCSQ_HI, R.OCT_TDCMIN_LO, R.OCT_TDCMIN_HI, R.OCT_TDCMAX_LO, R.OCT_TDCMAX_HI, R.OCT_TDCDISC, R.OCT_TDCSKIP, R.OCT_TDCSNT, R.OCT_TDCECNT_LO, R.OCT_TDCECNT_HI, R.OCT_QEYE, R.OCT_QINL, R.OCT_QDNL, R.OCT_QSRC, R.OCT_QCNT, R.OCT_CLVCTL, R.OCT_CLVSTAT, R.OCT_CLVTKN, R.OCT_CLVDIFF, R.OCT_CKSEL, R.OCT_CKSTAT]
/-- The registers of the MEM block. -/
def regs_mem : List RegDesc :=
  [R.MEM_VSBASE_LO, R.MEM_VSBASE_HI, R.MEM_VSLEN, R.MEM_VSCFG, R.MEM_VSFBASE, R.MEM_VSRATE, R.MEM_VSCHM_LO, R.MEM_VSCHM_HI, R.MEM_VSCTL, R.MEM_VSSTAT, R.MEM_VSLTOL, R.MEM_VSUFCNT, R.MEM_STAT, R.MEM_CHRET, R.MEM_CECNT, R.MEM_UECNT, R.MEM_UEADDR_LO, R.MEM_UEADDR_HI, R.MEM_SCE, R.MEM_SUE, R.MEM_CHMASK, R.MEM_BKMASK, R.MEM_AGE, R.MEM_PGHINT, R.MEM_PDCFG, R.MEM_PDSTAT, R.MEM_TRCFG, R.MEM_TRCNT, R.MEM_TRLAST, R.MEM_RETAIN, R.MEM_DBLFRONT, R.MEM_RLOST, R.MEM_CHTR, R.MEM_CHCE]
/-- The registers of the SITE block. -/
def regs_site : List RegDesc :=
  [R.SITE_STEP, R.SITE_TO, R.SITE_CHG_LO, R.SITE_CHG_HI, R.SITE_CQCFG, R.SITE_CQCHM_LO, R.SITE_CQCHM_HI, R.SITE_CQFID, R.SITE_CQSNAP, R.SITE_CAPSTAT, R.SITE_CWIN, R.SITE_CSTG, R.SITE_CBKSZ, R.SITE_CBKOCC, R.SITE_CSEQ, R.SITE_CDLV, R.SITE_CLOST, R.SITE_CGAPN, R.SITE_CFLTO, R.SITE_CCTL, R.SITE_BLEN, R.SITE_BGAP, R.SITE_BANCH, R.SITE_BNUM0, R.SITE_BNOW, R.SITE_BSTART, R.SITE_BCTL, R.SITE_BSTAT, R.SITE_BFAPP, R.SITE_BFPEND, R.SITE_BXAPP, R.SITE_BFCNT, R.SITE_SGCFG, R.SITE_SGVLO, R.SITE_SGVHI, R.SITE_SGEXP, R.SITE_SGRES, R.SITE_SGRST, R.SITE_SGRBEAT, R.SITE_SGMMCNT, R.SITE_MAP, R.SITE_GSTAT, R.SITE_GDIG, R.SITE_SCTL, R.SITE_SSTAT, R.SITE_SCFL, R.SITE_SCFLA, R.SITE_SCFLN, R.SITE_SFLWAIT]
/-- The registers of the SE block. -/
def regs_se : List RegDesc :=
  [R.SEQ_UCODE_VER, R.SEQ_UCODE_DIG, R.SE_STATE, R.SE_CTL, R.SE_STAT, R.SE_PARCNT, R.SE_CSADDR, R.SE_VA, R.SE_LC, R.SE_SP, R.SE_STK, R.SE_PAR, R.SE_EXC, R.SE_EXCB, R.SE_EXCT, R.SE_EXCF, R.SE_EXCV, R.SE_EXCCNT, R.SE_MCREC, R.SE_MCSLIP]
/-- The registers of the ACQ block. -/
def regs_acq : List RegDesc :=
  [R.ACQ_CFG, R.ACQ_TLEV, R.ACQ_WIN, R.ACQ_POST, R.ACQ_ROV, R.ACQ_CTL, R.ACQ_STAT, R.ACQ_PASS, R.ACQ_TTRIG_LO, R.ACQ_TTRIG_HI, R.ACQ_TRGT_LO, R.ACQ_TRGT_HI, R.ACQ_TREC, R.ACQ_TRBEAT, R.ACQ_TRGCNT, R.ACQ_RUNT0, R.ACQ_RUNT1, R.ACQ_EYECFG, R.ACQ_ETHR, R.ACQ_EYER]
/-- The registers of the DSP block. -/
def regs_dsp : List RegDesc :=
  [R.DSP_EOWN, R.DSP_EBUSY, R.DSP_EBURST, R.DSP_SQ, R.DSP_SENG, R.DSP_SFLOW, R.DSP_SCTL, R.DSP_SSTAT, R.DSP_SREJCNT, R.DSP_SBPUS, R.DSP_QDEPTH, R.DSP_WHIST, R.DSP_WCLR, R.DSP_PT0, R.DSP_PT1, R.DSP_PT2]
/-- The registers of the TBS block. -/
def regs_tbs : List RegDesc :=
  [R.TBS_NS, R.TBS_FRAC, R.TBS_SNAP, R.TBS_SNS, R.TBS_SFRAC, R.TBS_SWRAP, R.TBS_WRAPCNT, R.TBS_STAT, R.TBS_INC_LO, R.TBS_INC_HI, R.TBS_INCNOM_LO, R.TBS_INCNOM_HI, R.TBS_SERVO, R.TBS_OFFLIM, R.TBS_OFFS, R.TBS_DELAY, R.TBS_ASYM, R.TBS_SETNS, R.TBS_SETCTL, R.TBS_SLIP, R.TBS_EXCNT, R.TBS_EXFAIL]
/-- The registers of the SAF block. -/
def regs_saf : List RegDesc :=
  [R.SAF_CTL, R.SAF_TGT, R.SAF_OPEN, R.SAF_RUN, R.SAF_QUE, R.SAF_RTGT, R.SAF_LAST, R.SAF_LASTF, R.SAF_BND, R.SAF_STGA, R.SAF_STGD, R.SAF_STGN, R.SAF_SWAP, R.SAF_STAT, R.SAF_RESOLVE, R.SAF_APPCNT]
/-- The registers of the FAB block. -/
def regs_fab : List RegDesc :=
  [R.FAB_ID, R.FAB_TOPOVER, R.FAB_TTLDROP, R.FAB_FLSTALE, R.FAB_PCTL, R.FAB_PSTAT, R.FAB_PTRANS, R.FAB_PRTRN, R.FAB_PCV, R.FAB_PFLERR, R.FAB_PEERSEL, R.FAB_SLPCTL, R.FAB_SLPSTAT, R.FAB_SLPT, R.FAB_SLPLEAD, R.FAB_SYSFL, R.FAB_SYSRX, R.FAB_SEPOCH, R.FAB_SSTALE]
/-- The registers of the CLK block. -/
def regs_clk : List RegDesc :=
  [R.CLK_REF, R.CLK_LPCFG, R.CLK_LPSSC, R.CLK_LPO, R.CLK_LPL, R.CLK_LPCTL, R.CLK_LPSTAT, R.CLK_CORESTAT, R.CLK_TBSTAT]
/-- The registers of the FLT block. -/
def regs_flt : List RegDesc :=
  [R.FLT_STAT, R.FLT_CFG, R.FLT_QUIET, R.FLT_RLIM, R.FLT_ILK, R.FLT_ILKCNT, R.FLT_WIRE, R.FLT_RCNT, R.FLT_RBASE, R.FLT_SSRC, R.FLT_SCTL]
/-- The registers of the MON block. -/
def regs_mon : List RegDesc :=
  [R.MON_SEL, R.MON_CTL, R.MON_STAT, R.MON_SNT, R.MON_CONV, R.MON_SUM_LO, R.MON_SUM_HI, R.MON_CNT, R.MON_MM, R.MON_FLG, R.MON_OVRCNT, R.MON_DISC]
/-- The registers of the GLB block. -/
def regs_glb : List RegDesc :=
  [R.GLB_ID, R.GLB_BOOTSTAT, R.GLB_FBMASK_LO, R.GLB_FBMASK_HI, R.GLB_IMGVER, R.GLB_BOOTT, R.GLB_PWRCTL, R.GLB_PWRSTAT, R.GLB_RSTCAUSE, R.GLB_RSTCTL]
/-- The registers of the NVM block. -/
def regs_nvm : List RegDesc :=
  [R.NVM_STAT, R.NVM_KEY, R.NVM_CMD, R.NVM_KSTAT, R.NVM_PSSEQ, R.NVM_FLHEAD, R.NVM_FLCNT, R.NVM_FLDROP, R.NVM_WEAR, R.NVM_KDIG]
/-- The registers of the HST block. -/
def regs_hst : List RegDesc :=
  [R.HST_RBASE_LO, R.HST_RBASE_HI, R.HST_RCFG, R.HST_RPROD, R.HST_RCONS, R.HST_CQSEQ, R.HST_SIERR, R.HST_SIERRC, R.HST_EVT, R.HST_EVMSK, R.HST_WIN, R.HST_ERR, R.MSIX_ADDR_LO, R.MSIX_ADDR_HI, R.MSIX_DATA, R.MSIX_CTRL, R.MSIX_PBA]
/-- Every register of the map. -/
def allRegs : List RegDesc :=
  regs_oct ++ regs_mem ++ regs_site ++ regs_se ++ regs_acq ++ regs_dsp ++ regs_tbs ++ regs_saf ++ regs_fab ++ regs_clk ++ regs_flt ++ regs_mon ++ regs_glb ++ regs_nvm ++ regs_hst

end Sys2Proof.Machine
end

