-- ==== Sys2Proof/Machine/State.lean ====
section
/-! DEFINITION. The state of the block as plain data: every register (by field), every memory, and every engine, queue,
counter and pin the chapters give it, with the queue of waiting commands; and the state right after reset. -/

namespace Sys2Proof.Machine

/-- Why a command stops the block. No rule of the manual stops it, so no command faults. -/
inductive Fault where
  /-- Raised by no command; kept so that the type has a value (safe). -/
  | none
  deriving DecidableEq, Repr

/-- Why a command has no meaning in the model. -/
inductive Refusal where
  /-- A row of the command table whose meaning is not written (safe: the model says nothing of it). -/
  | notModelled (mnemonic : String)
  deriving DecidableEq, Repr

/-- A table of register fields.  Entry `Fld.key f i` holds the value of instance `i` of field `f`, XORed with the
field's reset value: an unlisted field holds its reset value. -/
abbrev FMap := Tbl Nat

/-- What a TX pair drives: the state codes of R250, waveform samples or protocol symbols, and the idle level of OCT_WFCFG where
that is no electrical idle (R155). -/
inductive Pin where
  | low | high | idle | signal | rest
  deriving DecidableEq, Repr

/-- What a CTRL or TIME cell says. The manual gives neither the TYPE codes nor the layout of PAYLOAD, so a message of this
chip is kept as data (log entry 9). -/
inductive Msg where
  /-- OPEN, PREPARE, VOTE (reason 0 is YES), DEFER, COMMIT, ABORT, QUERY, OUTCOME (R282). -/
  | opn (txid : Nat)
  | prepare (txid beat : Nat)
  | vote (txid reason : Nat)
  | defer (txid beat : Nat)
  | commit (txid beat : Nat)
  | abort (txid outcome : Nat)
  | query (txid : Nat)
  | outcome (txid : Nat) (v : Verdict) (beat : Nat)
  /-- NACK STALE and NACK CONFLICT (R282, R313, R334). -/
  | nackStale (txid : Nat) (ofPrepare : Bool)
  | nackConflict
  /-- A credit returned (R307). -/
  | credit
  /-- HELLO: chip, digest of the fabric identity, time root, peer-table version (R310). -/
  | hello (chip digest : Nat) (troot : Bool) (ver : Nat)
  /-- A flooded link-state change (R310). -/
  | linkState (l : LinkState)
  /-- The sleep vote and SLEEP-AT(T) (R315). -/
  | sleepVote
  | sleepAt (t : Nat)
  /-- Time exchange: request, reply, and follow-up with t2 and t3 (R276). -/
  | timeReq
  | timeReply
  | timeFollow (t2 t3 : Nat)
  deriving DecidableEq, Repr

/-- A cell on a link (R304): class, destination, site number, role epoch, end-to-end number, detour mark, hops left, and
its body: a message of this chip, or the 16 words of a cell passed on. -/
structure Cell where
  cls : Nat
  dst : Nat
  site : Nat
  epoch : Nat
  eseq : Nat
  vc : Bool
  ttl : Nat
  msg : Option Msg
  words : List Nat
  deriving DecidableEq, Repr

/-- What leaves the chip: the model's own record of outputs, newest first in `State.out`. -/
inductive Out where
  /-- A write of the device into host memory for a function (R444, R199). -/
  | dma (f : Fn) (addr : Nat) (data : List Byte)
  /-- An MSI-X message of vector `k` of a function (R446). -/
  | msix (f : Fn) (k : Nat)
  /-- A FLASH word handed to port `k`, which sends it as three copies (R300, R301). -/
  | flash (k : Nat) (word : Nat)
  /-- One copy of a FLASH word that this chip passes on (R300, R301). -/
  | flashCopy (k : Nat) (word : Nat)
  /-- A cell sent on port `k` with its link sequence number (R304, R305). -/
  | cell (k lseq : Nat) (c : Cell)
  /-- A received CTRL or DATA cell delivered to this chip, in order and once (R306). -/
  | delivered (words : List Nat)
  /-- A LINK word on port `k`: acknowledgement (true) or negative acknowledgement of LSEQ (R305). -/
  | link (k : Nat) (ack : Bool) (lseq : Nat)
  /-- An 8 ns pulse on ball TRGn at an instant (R108, R149). -/
  | trg (ball : Nat) (t : Time)
  /-- A TX pair changes state at an instant (R65), with the level it settles at (R37; `none` where waveform samples or symbols
  set it) and the peak-to-peak span of its fastest transitions, or of the code span in waveform mode (R37, R147). Both in units
  of 1 / 835,584 uV, in which every level of R37, R147 and R170 is whole. Of several of one pair at one instant the last holds (R49). -/
  | pin (ch : Nat) (p : Pin) (t : Time) (lvl : Option Int) (span : Int)
  /-- The first start-delimiter symbol of a frame leaves at an instant (R180). -/
  | frame (ch : Nat) (id : Nat) (t : Time)
  /-- Symbols that a lane sends one after another from an instant: INNER in force, the values 0 to 3 of R170 after
  precoder and polarity (NRZ uses 0 and 3), and the settled level of each (R37, R170). -/
  | symbols (ch : Nat) (t : Time) (inner : Nat) (ys : List Nat) (lvls : List Int)
  /-- Waveform granule blocks that an octet plays from an instant: their 2,048 bytes each, or none for a ring slot that
  plays idle (R148, R152, R160). -/
  | wave (oct : Nat) (t : Time) (blks : List (Option (List Byte)))
  /-- Line bits that port `k` sends for words handed to it (R296, R297). -/
  | line (k : Nat) (bits : List Bool)
  /-- The ERR pair (R392): true is FAULT. -/
  | err (fault : Bool)
  /-- PWR_EN (R430). -/
  | pwrEn (high : Bool)
  /-- A wake tone on port `k` (R316). -/
  | wakeTone (k : Nat)
  deriving DecidableEq, Repr

/-- A beacon on its way to an island (R15): the tick it names, the time value at that tick (32.32, extended), the
increment that applies from it, and the STEP mark (R279). -/
structure Beacon where
  isl : Nat
  tick : Nat
  value : Nat
  inc : Nat
  step : Bool
  deriving DecidableEq, Repr

/-- The timebase island beside its registers: ticks counted, by how much each island's copy of system time (32.32,
extended by the wrap count) differs from the timebase's, values an island loads at a named tick (R17, R279: island, tick,
value), beacons in flight, the increment the servo has set and no beacon has carried yet, increments sent with the tick that
they apply from, whether the next beacon is a STEP, the servo's sum, the increments produced since the
latest entry to ACQ (newest first), the exchange in progress, the runs of lost and of good exchanges, the
parent port chosen by discovery, and the timed requests armed in each island. -/
structure TimeSt where
  ticks : Nat := 0
  copyOff : Tbl Int := []
  loads : List (Nat × Nat × Nat) := []
  beacons : List Beacon := []
  incNext : Option Nat := none
  incSent : List (Nat × Nat) := []
  stepPend : Bool := false
  servoS : Int := 0
  incHist : List Nat := []
  exT1 : Option Time := none
  lostRow : Nat := 0
  goodRow : Nat := 0
  parent : Option Nat := none
  armed : List (Nat × TimedReq) := []
  deriving DecidableEq, Repr

/-- A work item in the dispatcher (R256): its site, source (R258), twelve descriptor words, arrival number and instant,
whether it runs again after RETRIED, the engine that ran it last (0 while none has), and the engine a PRE or a binding holds it
for. -/
structure Item where
  serial : Nat
  siteNo : Fin 16
  src : Nat
  desc : List Nat
  arrNs : Nat
  rerun : Bool := false
  lastEng : Nat := 0
  bound : Option Nat := none
  deriving DecidableEq, Repr

/-- The site number of an item. -/
def Item.site (i : Item) : Nat := i.siteNo.val

/-- The engine state a branch word's completion changes, kept so that it can be undone (R134): LC0 to LC3, VA0 to VA15,
the stack and its depth. -/
structure Undo where
  lc : List Nat
  va : List Nat
  stk : List Nat
  sp : Nat
  deriving DecidableEq, Repr

/-- What the word at PC + 1 after a branch word needs (R121, R134): the branch word's address, the resolved target, the
state before the branch word, whether it returns from a handler (R136), and whether a yield point waits for the slot (R144). -/
structure Delay where
  bpc : Nat
  btgt : Nat
  before : Undo
  hret : Bool
  yld : Bool
  deriving DecidableEq, Repr

/-- The EXC state and record of a burst (R140): the words SE_EXC to SE_MCSLIP. -/
abbrev ExcRec := List Nat

/-- A word in issue (R117): address, bits, start and end, vector count and pace period (0.125 ps units), the channels
driven, the start of its first repetition and whether it is a later one, its delay-slot record, whether it is a shadow
word, a RET that returns from a handler, the state before it, its number in the burst and that of its first repetition, the
index of its first vector, whether EVT reads 0 (R137), the mode change a shadow word lies under (code, channels), start and number of the vectors
not in an earlier beat; and, to undo the words issued after an underrun (R131), what held when it issued: whether a handler
ran, the code handled and whether it had yielded, the exception record, the grid of the channels it drives (channel, next
start, index, timing set), and the RELEASE records of the run so far. -/
structure Issued where
  pc : Nat
  word : Nat
  s : Time
  e : Time
  n : Nat
  p : Nat
  mask : Nat
  s0 : Time
  delay : Option Delay
  shadow : Bool
  hret : Bool
  before : Undo
  wid : Nat
  wid0 : Nat
  vidx : Nat
  evt0 : Bool
  mode : Option (Nat × Nat)
  rs : Time
  rn : Nat
  inExc : Bool
  excCode : Nat
  yielded : Bool
  exc : ExcRec
  grid0 : List (Nat × Time × Nat × Nat)
  reln : Nat := 0
  deriving DecidableEq, Repr

/-- The part of a word's vectors that one octet fetches (R119): octet, start of the next vector, count, next vector, first row
or stream slot with its first record once read, mirrored, no-fetch code (0 none, 1 KEEP, 2 IDLE), channel positions, compare
enable, the timing set of each position, the lowest channel of the group with its timing set (R95: their PER paces the word),
word number, index of the first vector, whether an underrun or a cancellation ended it, the positions that the word has found in
another period than its pace (R97), and the words of 16 rows that it has found uncorrectable (position, row / 16: R337). -/
structure Fetch where
  oct : Nat
  s : Time
  n : Nat
  k : Nat
  row : Nat
  slot : Option Nat
  base : Option Nat
  mirror : Bool
  fixed : Nat
  pos : Nat
  cmpe : Bool
  tsets : List Nat
  paceCh : Nat
  paceSet : Nat
  wid : Nat
  vidx : Nat
  dead : Bool
  miss : Nat := 0
  ue : List (Nat × Nat) := []
  deriving DecidableEq, Repr

/-- Pin-time completion actions of a word (R108), each waiting for E(W) in its own island. -/
inductive Act where
  | trigo (mask : Nat)
  | fsig (code : Nat)
  | evt (n : Nat)
  | wop (op : Nat) (obj : Nat) (mask : Nat) (key : Nat)
  | pop (op : Nat) (obj : Nat) (imm : Nat) (mask : Nat)
  | capt (op : Nat) (q : Nat) (s0 : Time)
  | arm (site : Bool)
  | mode (code : Nat) (mask : Nat)
  deriving DecidableEq, Repr

/-- One such action with its site, its instant, the number of its word, and the arrival number of the burst's item. -/
structure PinAct where
  wid : Nat
  site : Nat
  t : Time
  act : Act
  ser : Nat := 0
  deriving DecidableEq, Repr

/-- The compares of one word with CMPE = 1 (R94, R126): vectors not yet judged, vectors compared, whether one failed, the
completion instant of the last vector compared so far, and whether a result is still to be formed from it. -/
structure CmpWord where
  wid : Nat
  left : Nat
  compared : Nat
  failed : Bool
  lastAt : Time
  due : Bool
  deriving DecidableEq, Repr

/-- A result on its way to the engine (R125): a vector's fail; the number and outcome of a word whose compares are complete;
the window's number, the instant its result was formed and the result (R126). -/
structure CmpArrive where
  fail : Bool
  word : Option (Nat × Bool)
  window : Option (Nat × Time × Bool)
  deriving DecidableEq, Repr

/-- The match function of an engine (R126): a match has been armed in this burst, whether by ARMS, the window's number (its
first word), the HOLD word that ended it with its end, the earliest fail in the window, LMATCH, the latest result formed and
arrived with its instant. -/
structure MatchSt where
  armed : Bool := false
  arms : Bool := false
  window : Nat := 0
  last : Option (Nat × Time) := none
  failAt : Option Time := none
  lmatch : Bool := false
  result : Option Bool := none
  formed : Time := 0
  deriving DecidableEq, Repr

/-- A CAPT = WORD span in progress (R107, R191): engine, number of its word, set, and S or S0. -/
structure WordSpan where
  eng : Nat
  wid : Nat
  q : Nat
  s0 : Time
  deriving DecidableEq, Repr

/-- The context slot of an engine (R142): the burst and everything it needs to resume. -/
structure Saved where
  item : Item
  lent : Bool
  pc : Nat
  delay : Option Delay
  evt0 : Bool
  modeReg : Option (Nat × Nat × Nat)
  undo : Undo
  par : List Nat
  exc : ExcRec
  inExc : Bool
  excCode : Nat
  yielded : Bool
  mat : MatchSt
  failLast : Bool
  failWid : Nat
  failAny : Bool
  flash : Nat
  cmps : List CmpWord
  arrivals : List CmpArrive
  lastMask : Nat
  reln : Nat
  startNs : Nat
  deriving DecidableEq, Repr

/-- A microcode post that waits for an entry (R261), with its number in order. -/
structure Post where
  num : Nat
  site : Nat
  desc : List Nat
  deriving DecidableEq, Repr

/-- An engine beside its registers: the held burst, whether it runs on loan, has started and when; the next word, its
start and whether its EVT reads 0; the first repetition's start of a repeating word; the word in issue and the words still
being read (newest first); the delay-slot record of the next word; the mode change registered (code, channels, words left);
the fetches, pin-time actions and compares of issued words; results on their way; the match function; FAIL_LAST with the word
that set it, FAIL_ANY and FLASH; whether a handler runs (STATE = EXC), the code handled and whether its PRE yielded; the
underrun reported (word, vector index, start of the vector); the word in a parity retry with its planned start; a waiting
post; the context slot; whether the burst is being saved, restored, or stopped; the status and code of a HALT that waits for
its last stream vectors to be read (R131); RELEASE records so far; the end of the last
word; the reload in progress; the last group driven; word numbers; whether it runs a DRAM retraining pass; and the site
whose quota it joins, with the engine it replaces there, when its lent burst ends (R264). -/
structure EngSt where
  item : Option Item := none
  lent : Bool := false
  started : Bool := false
  startNs : Nat := 0
  nextPc : Nat := 0
  nextS : Time := 0
  evt0 : Bool := false
  s0 : Option Time := none
  cur : Option Issued := none
  hist : List Issued := []
  delay : Option Delay := none
  modeReg : Option (Nat × Nat × Nat) := none
  fetches : List Fetch := []
  acts : List PinAct := []
  cmps : List CmpWord := []
  arrivals : List CmpArrive := []
  mat : MatchSt := {}
  failLast : Bool := false
  failWid : Nat := 0
  failAny : Bool := false
  flash : Nat := 0
  inExc : Bool := false
  excCode : Nat := 0
  yielded : Bool := false
  ufl : Option (Nat × Nat × Time) := none
  parity : Option Time := none
  post : Option Post := none
  saved : Option Saved := none
  suspending : Bool := false
  restoring : Bool := false
  stopReq : Bool := false
  ending : Option (Nat × Nat) := none
  reln : Nat := 0
  lastEnd : Time := 0
  reload : Option (Nat × Bool) := none
  lastMask : Nat := 0
  wid : Nat := 0
  training : Bool := false
  joinTo : Option (Nat × Nat) := none
  deriving DecidableEq, Repr

/-- A scheduled drive edge: instant, the start of its vector, the level it drives, its position in the vector (0 DA, 1 DB,
2 DC), the vector's beat and index. -/
structure Edge where
  t : Time
  vs : Time
  lvl : Pin
  pos : Nat
  beat : Nat
  idx : Nat
  deriving DecidableEq, Repr

/-- A vector that has been read on a channel: start, beat, index, drive and expect codes, strobe instants and mode, the
engine and word it belongs to, whether each strobe is taken (R66), whether each instant has passed and the level taken there,
whether the comparator changed after SA and no later than SB, whether its judgement is over and was a fail, its period, and whether
the ADC has taken its sample (R39, R211). -/
structure Vect where
  start : Time
  beat : Nat
  idx : Nat
  drive : Nat
  expect : Nat
  sa : Time
  sb : Time
  smode : Bool
  eng : Nat
  wid : Nat
  saOk : Bool
  sbOk : Bool
  saDone : Bool := false
  sbDone : Bool := false
  saLvl : Bool := false
  sbLvl : Bool := false
  changed : Bool := false
  done : Bool := false
  failed : Bool := false
  per : Time := 8000
  smp : Bool := false
  deriving DecidableEq, Repr

/-- The unit of BITS or SAMPLES capture in progress on a channel (R192): beat, number, start of entry 0, entries so far. -/
structure UnitSt where
  beat : Nat
  num : Nat
  t0 : Time
  vals : List Nat
  deriving DecidableEq, Repr

/-- A launch request in a queue (R176): identifier, the copied descriptor words, timed target, E(W), armed under R178. -/
structure Launch where
  id : Nat
  tpl : List Nat
  timed : Bool
  target : Time
  ew : Time
  armed : Bool
  deriving DecidableEq, Repr

/-- A completion entry (R177, R181): identifier, status, time. -/
structure TsEnt where
  id : Nat
  status : Nat
  t : Time
  deriving DecidableEq, Repr

/-- The frame that a lane has decided to send or is sending (R179): the request, preamble start, start-delimiter
instant, grid anchor and index of its first symbol, its bits, symbols already sent, whether the preamble has begun, and
whether a symbol fell in safe state. -/
structure TxFrame where
  req : Launch
  pre : Time
  sd : Time
  anchor : Time
  k0 : Int
  bits : List Nat
  k : Nat
  sending : Bool
  safe : Bool
  deriving DecidableEq, Repr

/-- Idle fill in progress on a lane (R174): kind (1 lane PRBS, 2 byte), the byte, its next bit, and the grid index of the
next symbol. -/
structure Fill where
  kind : Nat
  byte : Nat
  pos : Nat
  k : Int
  deriving DecidableEq, Repr

/-- A protocol lane beside its registers: the launch queue (its head is the frame in hand), the frame in hand, the statuses
decided and not yet written, the timestamp queue, the end of the latest IPG, the grid anchor, the instant the head reached
the head, the end of the 24 ns of R31, the idle fill, the payload generator states (R174), the transmit and receive
precoder values (R171), the level of the latest symbol sent, the lane PRBS state (R172), and of the receive side: ADC codes that the
equaliser holds (code, centre of the symbol, UI; newest first), the slicer's latest decision, bits received since lock (bit, start
of its symbol; newest first, as many as a start delimiter can have), the bits that have seeded the checker with its sequence state
(R173), bit errors not yet counted (instant, symbol, beat), the ingress time of the frame being received and its bits so far (newest
first), and frames received whole (ingress time, bits in order, end of the last symbol). -/
structure LaneSt where
  queue : List Launch := []
  frame : Option TxFrame := none
  tsPend : List TsEnt := []
  tsq : List TsEnt := []
  ipgEnd : Time := 0
  anchor : Time := 0
  headAt : Time := 0
  blank : Time := 0
  fill : Option Fill := none
  gens : List Nat := [127, 511, 32767, 8388607, 2147483647]
  txPrev : Nat := 0
  rxPrev : Nat := 0
  lvl : Int := 0
  lanePrbs : Nat := 2147483647
  rxCodes : List (Nat × Time × Time) := []
  rxSlice : Nat := 0
  rxBits : List (Nat × Time) := []
  seed : Nat := 0
  chk : Nat := 0
  errs : List (Time × Nat × Nat) := []
  rxIng : Option Time := none
  rxData : List Nat := []
  rxFull : List (Time × List Nat × Time) := []
  deriving DecidableEq, Repr

/-- A TDC beside its registers (R228 to R232): running, the RUN boundary and the tick at which the run stops (ns), selected
edges since the last admitted one, admitted edges not yet stamped (instant by the octet's copy, warm mark), the live accumulators
and whether they hold a WARM value, the latest stamped edge, the pending start or earlier edge with its warm mark, and the open
gate: its number, first and last stamped edge, stamped edges, admitted edges that count for E, admitted edges since the last
stamped one with their warm mark, warm mark, and whether the gate is discarded (R233); selected edges since the last admitted one
while the channel only stops the intervals of others; and MEAS, STOPCH and FGATE of a run that is stopping (R232). -/
structure TdcSt where
  run : Bool := false
  t0 : Nat := 0
  stopT : Option Nat := none
  div : Nat := 0
  edges : List (Time × Bool) := []
  cnt : Nat := 0
  sum : Nat := 0
  ecnt : Nat := 0
  sq : Nat := 0
  min : Nat := 68719476735
  max : Nat := 0
  warm : Bool := false
  last : Option Nat := none
  start : Option (Nat × Bool) := none
  gate : Nat := 0
  gFirst : Option Nat := none
  gLast : Nat := 0
  gStamps : Nat := 0
  gEdges : Nat := 0
  gSince : Nat := 0
  gSWarm : Bool := false
  gWarm : Bool := false
  gDead : Bool := false
  sdiv : Nat := 0
  cfg : Option (Nat × Nat × Nat) := none
  deriving DecidableEq, Repr

/-- One UI of a channel's acquisition (R211, R217): its start, main sampling instant and length, its code, the roving sample taken
in it (phase, code), the crossing found after it (R213: its FRAC, as x[n]), whether it has been counted, and the offset that it was
written to (R215). -/
structure AcqUi where
  start : Time
  t : Time
  ui : Time
  code : Nat
  rov : Option (Nat × Nat) := none
  cross : Option Nat := none
  counted : Bool := false
  off : Option Nat := none
  deriving DecidableEq, Repr

/-- The acquisition of a channel beside its registers: counting with the latest start and stop boundary, the latest UIs (newest
first, 4,096 of them: R215), the slope re-arm flags (R213), trigger events not yet judged, the instant of ARM, the next write offset
and the samples since ARM, the trigger instant, whether its reference sample is known and the samples still to write, a roving
sample that waits for its UI's main sample (phase, code), the sweep (R212: phase, settling UIs left, samples counted), the samples
left in a gate window of GATE = 0b11 (R217) with the trigger instants it may still have to place, and a clear or an eye extraction in
progress. -/
structure AcqSt where
  run : Bool := false
  t0 : Time := 0
  t1 : Time := 0
  uis : List AcqUi := []
  armR : Bool := false
  armF : Bool := false
  events : List Time := []
  armT : Time := 0
  off : Nat := 0
  since : Nat := 0
  trig : Option Time := none
  refSeen : Bool := false
  left : Nat := 0
  rov : Option (Nat × Nat) := none
  phase : Nat := 0
  settle : Nat := 4
  dwell : Nat := 0
  gateLeft : Nat := 0
  trigs : List Time := []
  clearing : Bool := false
  eye : Bool := false
  deriving DecidableEq, Repr

/-- A channel: its TX pin with the level it settles at and the span of its transitions (R37), the state its back end drives,
the state the read-back sampler took last (R250), whether it stays in electrical idle until the next gap (R48), edge
and strobe references (R65, R66: of the vectors that have left the list), scheduled edges and vectors in the order of their starts, the
next start of its vector grid with its index and the timing set in
force (R62, R118), the comparator, the RX coefficients of the latest commit (R41), the edges driven and sampled in this beat and the one
before for signatures (beat, index, position, state code), the states at beat starts (beat, driven, at the pins), the vectors read (beat, index, start, end), samples due,
the units of BITS and SAMPLES capture in progress with the units that hold a fail (beat, unit), units that wait for the end of
the frame they overlap (source, unit, instant of the 64th entry), and the latest beat with the symbols and with the samples that
have started in it, a failed front end, the front-end trims (R371), and the lane, TDC and acquisition. -/
structure ChanSt where
  pin : Pin := .idle
  level : Option Int := some 0
  span : Int := 0
  want : Pin := .idle
  pinLast : Nat := 2
  held : Bool := true
  lastEdge : Option Time := none
  saRef : Option Time := none
  sbRef : Option Time := none
  edges : List Edge := []
  vects : List Vect := []
  gridNext : Time := 0
  gridIdx : Nat := 0
  gridSet : Nat := 0
  comp : Bool := false
  coefs : List Nat := [0, 0, 0, 64, 0, 0, 0, 0, 0, 0, 0, 0, 0]
  drv : List (Nat × Nat × Nat × Nat) := []
  pins : List (Nat × Nat × Nat × Nat) := []
  beatInit : List (Nat × Nat × Nat) := []
  read : List (Nat × Nat × Time × Time) := []
  pinDue : List (Nat × Nat × Nat × Time) := []
  bits : Option UnitSt := none
  samples : Option UnitSt := none
  fails : List (Nat × Nat) := []
  late : List (Nat × UnitSt × Time) := []
  symNum : Nat × Nat := (0, 0)
  sampNum : Nat × Nat := (0, 0)
  front : Bool := false
  feTrims : List Byte := []
  lane : LaneSt := {}
  tdc : TdcSt := {}
  acq : AcqSt := {}
  deriving DecidableEq, Repr

/-- A segment entry as read at one instant (R151): its number, its four words, and the WOP that named it (engine, word). -/
structure SegEnt where
  ent : Nat
  blk : Nat
  ngr : Nat
  next : Nat
  fin : Bool
  ring : Bool
  trg : Nat
  flash : Nat
  rpt : Nat
  asker : Option (Nat × Nat) := none
  deriving DecidableEq, Repr

/-- The waveform generator of an octet beside its registers: the entry in play and the passes left after this one; the
successor once read (R151), with its validity; entries held for the WOP of an engine's word (engine, word, entry, valid); the
E(W) of a WOP 2 waiting; WOP 3 requests waiting (entry, valid, E(W)); the anchor of the sample grid with the number of the
sample placed there, the number of the first sample of the pass, the samples of the pass and the blocks that it plays as read
so far (none: a ring slot that plays idle); ring slots read for this pass; those read for the passes after it; the idle slots that
play or will (start, end); the ring's complete granules; and the segment-start requests that have left for their islands
(TRG, FLASH, target), those of WOP targets whose segment start is not known yet (TRG, FLASH, engine, word), and the values that a
sample in progress at a gap keeps (R240: the instant of the next sample; AMP by position). A slot read ahead is marked where it
is for the chain that a WOP 1 on its way starts. -/
structure WaveSt where
  play : Option SegEnt := none
  left : Nat := 0
  next : Option (SegEnt × Bool) := none
  held : List (Nat × Nat × SegEnt × Bool) := []
  stopAt : Option Time := none
  goto : List (SegEnt × Bool × Time) := []
  anchor : Time := 0
  base : Nat := 0
  pos : Nat := 0
  len : Nat := 0
  blks : List (Option (List Byte)) := []
  slots : Nat := 0
  queue : List (Bool × Option (List Byte)) := []
  idles : List (Time × Time) := []
  granules : List Nat := []
  sent : List (Nat × Nat × Option Time) := []
  asked : List (Nat × Nat × Nat × Nat) := []
  ampTil : Option (Time × List Int) := none
  deriving DecidableEq, Repr

/-- A valid copy of a field trim set in NVM (R373, R383, R422): figures as `Figures` gives them, count of retrims, whether it is copy B, and its
sequence number. -/
structure FieldSet where
  fig : Figures
  cnt : Nat
  copyB : Bool
  seq : Nat
  deriving DecidableEq, Repr

/-- An octet beside its registers: 24 ns of electrical idle in progress, the instant of the latest personality change, waveform generator, failed
slices (bit 8 is Clove's), what Clove does (R377 to R382): the request kind (0 failure, 1 TAKE, 2 RETRIM, 3 return from a failed
Clove), its position, the beat it waits for (none: any) and the ns it was registered in, the return requested with its ns, the
beat of the load or the comparison, failed slices that wait for their gap (R385), a SAVE in progress with its ns, the position and the ns of the
latest RETRIM, the live trims by slice, those from before a retrim with their UNSAVED, and the field sets in NVM: of each slice the one written
last and the other copy. -/
structure OctSt where
  persIdle : Bool := false
  persAt : Option Time := none
  wave : WaveSt := {}
  failed : Nat := 0
  clvKind : Nat := 0
  clvPos : Nat := 0
  clvBeat : Option Nat := none
  clvNs : Nat := 0
  retReq : Bool := false
  retNs : Nat := 0
  shadowBeat : Option Nat := none
  next : List Nat := []
  saving : Option Nat := none
  savNs : Nat := 0
  trimReq : Option (Nat × Nat) := none
  trims : Tbl (List Nat) := []
  oldTrims : Option (List Nat) := none
  oldUns : Bool := false
  field : Tbl (Option FieldSet) := []
  fieldOld : Tbl (Option FieldSet) := []
  deriving DecidableEq, Repr

/-- A capture candidate waiting to enter a page (R193 to R197): type, set, channel, the index or count that decimation
tests, beat, the record's time, the instant that places it in a span (R191), its charge instant (R203), and what the record
holds after word 3. -/
structure Cand where
  typ : Nat
  q : Nat
  ch : Nat
  num : Nat
  beat : Nat
  t : Time
  u : Time
  charge : Time
  body : List Byte
  deriving DecidableEq, Repr

/-- A result page being filled or held (R198); bit w of `zero` marks its 8-byte word w, which reads 0 (R337). While the page is
open, the SUSPECT records at its end that entered at the instant `tailT` stand apart: a close at that instant leaves them to the
next page (R209). -/
structure Page where
  seq : Nat := 0
  dec : Nat := 0
  recs : List Byte := []
  gap : Bool := false
  susp : Bool := false
  stop : Bool := false
  early : Bool := false
  beat : Nat := 0
  openT : Time := 0
  closeNs : Nat := 0
  zero : Nat := 0
  tail : List (List Byte) := []
  tailT : Time := 0
  deriving DecidableEq, Repr

/-- The capture of a site beside its registers: START–STOP spans (set, start, end once stopped), WORD spans that completed
(set, S or S0, E), WORD spans in progress, candidate counts
per set and channel in this beat, candidates waiting, candidates that a WORD span holds, closes due (R201: instant, engine, word), the open page, closed pages in staging and in the backlog, the
candidates charged to this window as (number, bytes, kept), the start of this window, candidates whose charge instant lies in a
later one, the changes of d (instant, d before; newest first), the starts of an overrun and of a stop, gaps not yet written (reason,
start, end, lost candidates), the lost candidates of the span in progress, SUSPECT records held, channels and beats under
suspicion, whether an overrun occurred in the window, and the lost spans that GAP records have stated (R197). -/
structure CapSt where
  spans : List (Nat × Time × Option Time) := []
  fin : List (Nat × Time × Time) := []
  words : List WordSpan := []
  counts : Tbl Nat := []
  cands : List Cand := []
  held : List Cand := []
  closeAt : List (Time × Nat × Nat) := []
  page : Option Page := none
  staged : List Page := []
  backlog : List Page := []
  window : List (Nat × Nat × Bool) := []
  winStart : Time := 0
  ahead : List Cand := []
  decs : List (Time × Nat) := []
  overrun : Option Time := none
  stopped : Option Time := none
  gaps : List (Nat × Time × Time × List Nat) := []
  lost : List Nat := [0, 0, 0, 0]
  susp : List (List Byte) := []
  suspChans : List (Nat × Nat) := []
  ovrWin : Bool := false
  past : List (Time × Time) := []
  deriving DecidableEq, Repr

/-- A staging buffer of a member (R284): the writes in staging order, the swap mask, and what it has come to: frozen,
prepared, target beat, deferred, COMMIT held, resolved to commit (R288). -/
structure SafBuf where
  txid : Nat
  writes : List (Nat × Nat) := []
  swap : Nat := 0
  frozen : Bool := false
  prepared : Bool := false
  target : Nat := 0
  deferred : Bool := false
  held : Bool := false
  resolved : Bool := false
  deriving DecidableEq, Repr

/-- The leader's record of a running transaction (R285, R286): target, chips that voted YES, whether deferred, decided, and the ns of
the latest of these. -/
structure SafLead where
  txid : Nat
  beat : Nat
  yes : List Nat := []
  deferred : Bool := false
  decided : Bool := false
  ns : Nat := 0
  deriving DecidableEq, Repr

/-- The latest RESOLVE or OUTCOME that acted on a buffer in doubt (R288, R293): its ns, TXID and verdict, whether it came over
the fabric, the buffer as it was, and SAF_LAST and ABORTED as they were. -/
structure Ruling where
  ns : Nat
  txid : Nat
  commit : Bool
  fabric : Bool
  buf : SafBuf
  was : List Nat
  deriving DecidableEq, Repr

/-- Saffron for one site: member buffers (open, queued, running, prepared earlier and still without an outcome, in doubt), the leader's
transactions and its last 8 outcomes (TXID, committed, beat), the next TXID, the latest ruling on a buffer in doubt, and, for the
coincidences of R293, the transaction that timed out last with its buffer and SAF_LAST and ABORTED as they were before, and the ns of
an OPEN refused while one was open with CTL_REJ as it was before. -/
structure SafSt where
  opn : Option SafBuf := none
  que : Option SafBuf := none
  run : Option SafBuf := none
  prior : List SafBuf := []
  dbt : List SafBuf := []
  lead : Option SafLead := none
  leadQue : Option (Nat × Nat) := none
  last : List (Nat × Bool × Nat) := []
  nextTx : Nat := 0
  ruled : Option Ruling := none
  lapsed : Option (SafLead × SafBuf × List Nat) := none
  openRej : Option (Nat × Nat) := none
  deriving DecidableEq, Repr

/-- A completion record that has arisen and is not yet released (R267, R268). -/
structure Rec where
  serial : Nat
  flow : Option Nat
  final : Bool
  words : List Nat
  holds : Bool
  deriving DecidableEq, Repr

/-- An order that a site's control has received in this cycle (R334): the ns it was registered in, its rank (0 RESET, 1 STOP, 2
any other), its source number, the PF0 address of the control, the value set, and the chip that sent a fabric order. -/
structure Order where
  ns : Nat
  rank : Nat
  src : Nat
  addr : Nat
  val : Nat
  frm : Nat
  deriving DecidableEq, Repr

/-- A site beside its registers: the class F commit frozen (R242), beats, capture, Saffron, the items of ordered flows in
arrival order (flow, serial), the latest arrivals (ns, serial, source), records not released and released, fabric items waiting for an entry, chips' match states
(R302), credits held per chip (two where none is listed), site reset progress, trigger inputs, signature units whose
beat is not yet judged (beat, unit, what it judges), FLASH launches and cells used in this window with those held to the next (R326), the
window in which DRAM last served the site and the blocks it served there by class (R326), this chip's most recently formed ARMS result
(R302), granules taken of the stream-in descriptor in
progress (R159), regions lost (a mask: R354, R355), and B(BNOW), B(BNOW + 1) and the end of the
window of beat BNOW in extended ns. -/
structure SiteSt where
  frozen : Option (FMap × Nat) := none
  cap : CapSt := {}
  saf : SafSt := {}
  order : List (Nat × Nat) := []
  arrivals : List (Nat × Nat × Nat) := []
  recs : List Rec := []
  released : List (List Nat) := []
  fabItems : List (Nat × List Nat) := []
  credits : Tbl Nat := []
  matchTag : Nat := 0
  chipMatch : List (Nat × Nat × Nat) := []
  resetting : Nat := 0
  regionsLeft : List Nat := []
  sgRun : List (Nat × Nat × List Nat) := []
  orders : List Order := []
  trigIn : Nat := 0
  flUsed : Nat := 0
  clUsed : Nat := 0
  flHeld : List Nat := []
  clHeld : List Cell := []
  memWin : Nat := 0
  memUsed : Tbl Nat := []
  result : Option Bool := none
  siTaken : Nat := 0
  gone : Nat := 0
  bStart : Nat := 0
  nextB : Nat := 0
  winEnd : Nat := 0
  deriving DecidableEq, Repr

/-- Where a line stands (R297): words of the block sent, and the run of equal bits so far with its value. -/
structure LinePos where
  words : Nat := 0
  run : Nat := 0
  val : Bool := false
  deriving DecidableEq, Repr

/-- A FLASH copy passed on (R318): ns, input port and word, and where the line stood before it and how long it was busy. -/
structure Passed where
  ns : Nat
  inp : Nat
  word : Nat
  line : LinePos
  lineAt : Time
  deriving DecidableEq, Repr

/-- A Tiltik port beside its registers (R305, R308): next LSEQ to send and expected, whether it discards until the expected
cell, the retry buffer (LSEQ, resends, cell), failed training attempts in a row, attempts since reset, cells that wait for room or for the
port, the end of the block that a code violation spoiled (R298), the partner's HELLO (chip, digest, ns: R310, R318), FLASH copies
passed on in this cycle (R318), and where its line stands after the last
word sent, which ends at `lineAt`. -/
structure PortSt where
  txSeq : Nat := 0
  rxSeq : Nat := 0
  nacking : Bool := false
  retry : List (Nat × Nat × Cell) := []
  fails : Nat := 0
  attempts : Nat := 0
  held : List Cell := []
  lostTill : Time := 0
  hello : Option (Nat × Nat × Nat) := none
  passed : List Passed := []
  line : LinePos := {}
  lineAt : Time := 0
  deriving DecidableEq, Repr

/-- A peer chip (R310, R312): first port and length of the route, bounds in ns and 0.1 ns, WIDE, and whether the route
is a detour (VC = 1, R311). -/
structure Peer where
  chip : Nat
  port : Nat
  hops : Nat
  cbnd : Nat
  fbnd : Nat
  wide : Bool
  detour : Bool
  deriving DecidableEq, Repr

/-- The fabric beside its registers: the links heard of, the peer table, the chip that is the time root, end-to-end numbers
by peer and class, received and sent, cells held for order, cells without a route, the digest of the fabric identity, sleep
votes (root), the scheduled sleep (extended ns), since when a wake request is held, and T of the latest sleep given up (R317). -/
structure FabSt where
  links : List LinkState := []
  peers : List Peer := []
  root : Option Nat := none
  rxEseq : Tbl Nat := []
  txEseq : Tbl Nat := []
  early : List (List Nat) := []
  waiting : List Cell := []
  digest : Nat := 0
  votes : List Nat := []
  sleepAt : Option Nat := none
  wake : Option Nat := none
  gaveUp : Option Nat := none
  deriving DecidableEq, Repr

/-- The live statistics of a monitor input (R407). -/
structure MonSt where
  sum : Nat := 0
  cnt : Nat := 0
  min : Nat := 65535
  max : Nat := 0
  deriving DecidableEq, Repr

/-- A request in the memory controller (R345): number, class (0 RT-STREAM, 1 CAPTURE, 2 HOST, 3 MAINT), site, channel,
arrival (ns), the block address and the block behind it (R350), for a refill the stream slot with its first record and the record after its
last, and for the read of a backlog page its SEQ and the block in it. -/
structure MemReq where
  num : Nat := 0
  cls : Nat
  site : Nat
  dc : Nat
  ns : Nat := 0
  addr : Nat
  phys : Nat
  slot : Option (Nat × Nat × Nat) := none
  page : Option (Nat × Nat) := none
  deriving DecidableEq, Repr

/-- A stream slot beside its registers: the site that holds it, records in order in the FIFO since START and records read
from it, a refill under way, the pairing of double regions taken at START (R350), the ns of START (R356), and the site that used its
registers last (R328). -/
structure StreamSt where
  site : Option Nat := none
  user : Option Nat := none
  filled : Nat := 0
  taken : Nat := 0
  refill : Bool := false
  base : Nat := 0
  since : Nat := 0
  deriving DecidableEq, Repr

/-- Sumac beside its registers: safe-state intervals of sites (site, start, end once over), scopes whose exit waits for the
recovery write (R395), scopes whose increment or whose CLEAR is being written, the ns since which such writes have been waiting, the
RBASE that each CLEAR being written will make, the latest activation of a source in each scope and the latest end that one put to a quiet period (ns + 1: R402), sources with a wire fault and whether each is active besides (scope, bit), the FLT_IN pair as recognised, interlock inputs
recognised open with the latest opening (input, ns: R402), the first half of R400 with whether it was over before that opening, and VIO valid. -/
structure SumacSt where
  ivals : List (Nat × Time × Option Time) := []
  exiting : Nat := 0
  storing : Nat := 0
  clearing : Nat := 0
  dueNs : Nat := 0
  newBase : Tbl Nat := []
  lastOn : Tbl Nat := []
  cutNs : Tbl Nat := []
  wires : List (Nat × Nat × Bool) := []
  fltP : Bool := true
  fltN : Bool := false
  openA : Bool := false
  openB : Bool := false
  openNs : Option (Bool × Nat) := none
  bothOpen : Bool := false
  wasBoth : Bool := false
  vio : Bool := false
  deriving DecidableEq, Repr

/-- The Nutmeg domain (R397, R430): the SELF record, latched WAKEPOL, COLD, wake held, the ns of the latest recognised wake (R434),
PWR_EN, PGOOD, standby, and the causes that the next boot reports (R432). -/
structure NutmegSt where
  selfRec : Bool := false
  wakePol : Bool := true
  cold : Bool := true
  wakeHeld : Bool := false
  wakeNs : Option Nat := none
  pwrEn : Bool := false
  pgood : Bool := false
  standby : Bool := false
  cause : Nat := 0
  deriving DecidableEq, Repr

/-- An intent record (R426): its number, the count, whether it changes RBASE, and the new value. -/
structure RecIntent where
  seq : Nat
  k : Nat
  base : Bool
  val : Nat
  deriving DecidableEq, Repr

/-- A value snapshot (R426): its number, and RCNT and RBASE of counts 0 to 16. -/
structure RecSnap where
  seq : Nat
  cnt : List Nat
  base : List Nat
  deriving DecidableEq, Repr

/-- A pass of the training store on SE15 (R352): the address of the next word, the word in issue, the target that the delay slot leads to,
and the DRAM channel selected. -/
structure TrainRun where
  pc : Nat := 0
  word : Option Nat := none
  delay : Option Nat := none
  sel : Nat := 0
  deriving DecidableEq, Repr

/-- Boot and NVM beside their registers: the boot flash as the board programmed it, its SFDP space, how it is read (R412: instruction, dummy
clocks, MHz), whether the fallback copy comes first, the key sequence step, the tick at which the key was armed, the ns of the NVM command given
and of the power transition asked for, the NVM command in progress (command, slot) with the NVM_PSBUF it was given, the number of the latest
recovery record, the valid intent records and snapshots (by number mod 8: R426), that transition, the DRAM channels still to step in a retraining pass with the instant
(ns) that the next pass is due, the pass of the training store on SE15 and the PHY parameters it has set (R352; DRAM channel × 256 +
parameter), what HOP 3 wrote last to the training rows of each channel, the reload section in DRAM staging (R115), the channels that failed with copies of the mirror not
written again (R354), the tick of the latest fault-log entry, and autorun items that wait for an entry (site, words). -/
structure BootSt where
  flash : List Byte := []
  sfdp : List Byte := []
  rdMode : Nat × Nat × Nat := (3, 0, 25)
  fbFirst : Bool := false
  keySeq : Nat := 0
  keyNs : Nat := 0
  cmdNs : Nat := 0
  pwrNs : Nat := 0
  cmd : Option (Nat × Nat) := none
  cmdBuf : Tbl Byte := []
  recSeq : Nat := 0
  intents : Tbl (Option RecIntent) := []
  snaps : Tbl (Option RecSnap) := []
  power : Option Nat := none
  train : List Nat := []
  trainDue : Option Nat := none
  pass : Option TrainRun := none
  phy : Tbl Nat := []
  rows : Tbl Nat := []
  staging : List Byte := []
  mirGone : List Nat := []
  logTick : Option Nat := none
  auto : List (Nat × List Nat) := []
  deriving DecidableEq, Repr

/-- The block. -/
structure State where
  /-- Registers: the values at their own addresses (shadow values of SH fields). -/
  reg : FMap
  /-- The live values of SH fields (R5, R241). -/
  live : FMap
  /-- What register initialisation set (R331, R417), at own addresses and live. -/
  init : FMap
  initLive : FMap
  time : TimeSt
  eng : Tbl EngSt
  chan : Tbl ChanSt
  oct : Tbl OctSt
  site : Tbl SiteSt
  port : Tbl PortSt
  fab : FabSt
  ready : List Item
  serial : Nat
  mon : Tbl MonSt
  /-- The input that the monitor conversion in progress samples (R406). -/
  mon0 : Nat
  reqs : List MemReq
  /-- The row left open in each bank (DRAM channel × 16 + bank) with the ns of the access (R347). -/
  openRow : Tbl (Option (Nat × Nat))
  stream : Tbl StreamSt
  sumac : SumacSt
  nutmeg : NutmegSt
  boot : BootSt
  /-- Beat buffers: octet × 0xC0_0000 + byte (R69, R148). -/
  bb : Tbl Byte
  /-- Acquisition SRAM: slot × 0x2_0000 + byte (R210). -/
  acqMem : Tbl Byte
  /-- DRAM user area by physical byte (R339). -/
  dram : Tbl Byte
  /-- Control stores: engine × 8,192 + address, 192 word bits and 8 parity bits (R85, R109). -/
  cstore : Tbl Nat
  /-- The control-store mirror in the device-reserved area (R110). -/
  mirror : Tbl Nat
  /-- The training store of R352. -/
  tstore : Tbl Nat
  /-- On-chip NVM, 128 KiB (R421). -/
  nvm : Tbl Byte
  /-- Writes of each NVM page (R422, R433); the factory's count is taken as 0 (log entry 3). -/
  wear : Tbl Nat
  /-- NVM_PSBUF (R433). -/
  psbuf : Tbl Byte
  /-- NumVFs of the SR-IOV capability (R435; log entry 8). -/
  numVfs : Nat
  /-- Functions with MSI-X enabled and not masked: bit n is VF n, bit 16 is PF0 (R435; log entry 8). -/
  msixEn : Nat
  /-- By function × 16 + event: the instant of its latest event, and whether the bit stood before it (R447). -/
  evAt : Tbl (Option (Time × Bool))
  /-- By VF × 3 + window: one more than the ns of the latest write of the base, and the base before it (R447). -/
  winAt : Tbl (Nat × Nat)
  /-- Per ring: the ns + 1 of the latest PROD write of the host and the count before it (R447). -/
  prodAt : Tbl (Nat × Nat)
  /-- TRGn input levels as registered (R465): bit n. -/
  trgIn : Nat
  /-- Synchronised OCXO_WARM (R234). -/
  warm : Bool
  /-- The TAP instruction in force (R470). -/
  tap : JtagIns
  /-- Draws of free values taken so far (the model's own field; log entry 5). -/
  free : Nat
  /-- Outputs, newest first (the model's own field; log entry 4). -/
  out : List Out
  /-- Commands waiting, first in first out. -/
  pending : List Instr
  deriving DecidableEq, Repr

/-- The state right after reset: every register at its reset value, every memory as R332 leaves it, nothing in flight. -/
def State.reset : State :=
  { reg := [], live := [], init := [], initLive := [], time := {}, eng := [], chan := [], oct := [], site := [], port := [],
    fab := {}, ready := [], serial := 0, mon := [], mon0 := 24, reqs := [], stream := [], sumac := {}, nutmeg := {},
    boot := {}, openRow := [], bb := [], acqMem := [], dram := [], cstore := [], mirror := [], tstore := [], nvm := [], wear := [], psbuf := [], numVfs := 16, msixEn := 131071, evAt := [],
    winAt := [], prodAt := [], trgIn := 0,
    warm := false, tap := .bypass, free := 0, out := [], pending := [] }

end Sys2Proof.Machine
end

