-- ==== Sys2Proof/Machine/Ops.lean ====
section
/-! DEFINITION. The named operations every meaning is written over: register fields, the tables of engines, channels,
octets, sites and ports, the partition map, time, host events, free values and outputs. -/

namespace Sys2Proof.Machine

/-- One bit as a number. -/
def b2n (b : Bool) : Nat := if b then 1 else 0

/-! ### Register fields -/

/-- Instance `i` of field `f` in a field table. -/
def FMap.get (m : FMap) (f : Fld) (i : Nat) : Nat := Tbl.get (fun _ => 0) m (f.key i) ^^^ f.reset i

/-- The field table with instance `i` of field `f` at `v` (its low bits, as many as the field has). -/
def FMap.set (m : FMap) (f : Fld) (i v : Nat) : FMap :=
  Tbl.set (fun _ => 0) m (f.key i) (v % 2 ^ f.width ^^^ f.reset i)

/-- A register field at its own address (the shadow of an SH field, R5). -/
def State.getF (s : State) (f : Fld) (i : Nat) : Nat := FMap.get s.reg f i

/-- Set a register field at its own address. -/
def State.setF (s : State) (f : Fld) (i v : Nat) : State := { s with reg := FMap.set s.reg f i v }

/-- The live value of an SH field (R241). -/
def State.getL (s : State) (f : Fld) (i : Nat) : Nat := FMap.get s.live f i

/-- Set the live value of an SH field. -/
def State.setL (s : State) (f : Fld) (i v : Nat) : State := { s with live := FMap.set s.live f i v }

/-- Is a one-bit field set? -/
def State.flag (s : State) (f : Fld) (i : Nat) : Bool := s.getF f i != 0

/-- Is a one-bit live field set? -/
def State.flagL (s : State) (f : Fld) (i : Nat) : Bool := s.getL f i != 0

/-- Add to a wrapping counter field. -/
def State.addF (s : State) (f : Fld) (i n : Nat) : State := s.setF f i (s.getF f i + n)

/-- Count one in a wrapping counter field. -/
def State.incF (s : State) (f : Fld) (i : Nat) : State := s.addF f i 1

/-- Add to a saturating counter field. -/
def State.satF (s : State) (f : Fld) (i n : Nat) : State := s.setF f i (satAt f.width (s.getF f i + n))

/-- Set several fields of one index. -/
def State.setFs (s : State) (i : Nat) (l : List (Fld × Nat)) : State := l.foldl (fun a p => a.setF p.1 i p.2) s

/-- Set a field of every index in a list. -/
def State.setAll (s : State) (f : Fld) (l : List Nat) (v : Nat) : State := l.foldl (fun a i => a.setF f i v) s

/-- The value of a register as one word, from any field table. -/
def RegDesc.word (r : RegDesc) (m : FMap) (i : Nat) : Nat :=
  r.flds.foldl (fun a f => a + FMap.get m f i * 2 ^ f.lo) 0

/-! ### Indexes -/

/-- The index of a function in a register that every function has: VF n at n, PF0 at 16. -/
def fnIx (f : Fn) : Nat :=
  match f with
  | .pf0 => 16
  | .vf n => n.val

/-- Octet of a channel (R11). -/
def octOf (ch : Nat) : Nat := ch / 8

/-- Position of a channel in its octet. -/
def posOf (ch : Nat) : Nat := ch % 8

/-- The channels of an octet. -/
def chansOf (o : Nat) : List Nat := (List.range 8).map (fun p => o * 8 + p)

/-! ### Tables of units -/

/-- Engine `e` beside its registers. -/
def State.engOf (s : State) (e : Nat) : EngSt := Tbl.get (fun _ => {}) s.eng e
/-- Channel `c` beside its registers. -/
def State.chanOf (s : State) (c : Nat) : ChanSt := Tbl.get (fun _ => {}) s.chan c
/-- Octet `o` beside its registers. -/
def State.octSt (s : State) (o : Nat) : OctSt := Tbl.get (fun _ => {}) s.oct o
/-- Site `x` beside its registers. -/
def State.siteOf (s : State) (x : Nat) : SiteSt := Tbl.get (fun _ => {}) s.site x
/-- Tiltik port `k` beside its registers. -/
def State.portOf (s : State) (k : Nat) : PortSt := Tbl.get (fun _ => {}) s.port k
/-- Monitor input `k`: its live statistics. -/
def State.monOf (s : State) (k : Nat) : MonSt := Tbl.get (fun _ => {}) s.mon k
/-- Stream slot `k` beside its registers. -/
def State.streamOf (s : State) (k : Nat) : StreamSt := Tbl.get (fun _ => {}) s.stream k

/-- Replace engine `e`. -/
def State.setEng (s : State) (e : Nat) (v : EngSt) : State := { s with eng := Tbl.set (fun _ => {}) s.eng e v }
/-- Replace channel `c`. -/
def State.setChan (s : State) (c : Nat) (v : ChanSt) : State := { s with chan := Tbl.set (fun _ => {}) s.chan c v }
/-- Replace octet `o`. -/
def State.setOct (s : State) (o : Nat) (v : OctSt) : State := { s with oct := Tbl.set (fun _ => {}) s.oct o v }
/-- Replace site `x`. -/
def State.setSite (s : State) (x : Nat) (v : SiteSt) : State := { s with site := Tbl.set (fun _ => {}) s.site x v }
/-- Replace port `k`. -/
def State.setPort (s : State) (k : Nat) (v : PortSt) : State := { s with port := Tbl.set (fun _ => {}) s.port k v }
/-- Replace the statistics of monitor input `k`. -/
def State.setMon (s : State) (k : Nat) (v : MonSt) : State := { s with mon := Tbl.set (fun _ => {}) s.mon k v }
/-- Replace stream slot `k`. -/
def State.setStream (s : State) (k : Nat) (v : StreamSt) : State := { s with stream := Tbl.set (fun _ => {}) s.stream k v }

/-- Change engine `e`. -/
def State.modEng (s : State) (e : Nat) (f : EngSt → EngSt) : State := s.setEng e (f (s.engOf e))
/-- Change channel `c`. -/
def State.modChan (s : State) (c : Nat) (f : ChanSt → ChanSt) : State := s.setChan c (f (s.chanOf c))
/-- Change octet `o`. -/
def State.modOct (s : State) (o : Nat) (f : OctSt → OctSt) : State := s.setOct o (f (s.octSt o))
/-- Change site `x`. -/
def State.modSite (s : State) (x : Nat) (f : SiteSt → SiteSt) : State := s.setSite x (f (s.siteOf x))
/-- Change port `k`. -/
def State.modPort (s : State) (k : Nat) (f : PortSt → PortSt) : State := s.setPort k (f (s.portOf k))
/-- Change the lane of channel `c`. -/
def State.modLane (s : State) (c : Nat) (f : LaneSt → LaneSt) : State := s.modChan c (fun x => { x with lane := f x.lane })
/-- Change the TDC of channel `c`. -/
def State.modTdc (s : State) (c : Nat) (f : TdcSt → TdcSt) : State := s.modChan c (fun x => { x with tdc := f x.tdc })
/-- Change the acquisition of channel `c`. -/
def State.modAcq (s : State) (c : Nat) (f : AcqSt → AcqSt) : State := s.modChan c (fun x => { x with acq := f x.acq })
/-- Change the waveform generator of octet `o`. -/
def State.modWave (s : State) (o : Nat) (f : WaveSt → WaveSt) : State := s.modOct o (fun x => { x with wave := f x.wave })
/-- Change the capture of site `x`. -/
def State.modCap (s : State) (x : Nat) (f : CapSt → CapSt) : State := s.modSite x (fun t => { t with cap := f t.cap })
/-- Change the Saffron record of site `x`. -/
def State.modSaf (s : State) (x : Nat) (f : SafSt → SafSt) : State := s.modSite x (fun t => { t with saf := f t.saf })

/-! ### Outputs and free values -/

/-- Something leaves the chip. -/
def State.log (s : State) (o : Out) : State := { s with out := o :: s.out }

/-- Several outputs, in order. -/
def State.logs (s : State) (l : List Out) : State := { s with out := l.reverse ++ s.out }

/-- The next draw of a value the manual does not state. -/
def State.anyVal (s : State) : Nat := Config.value s.free

/-- The next draw where the manual says either outcome can happen. -/
def State.anyBool (s : State) : Bool := Config.coin s.free

/-- One draw has been taken. -/
def State.drawn (s : State) : State := { s with free := s.free + 1 }

/-! ### Time -/

/-- System time of the timebase island as an extended 32.32 value (R273). -/
def State.nowFix (s : State) : Nat :=
  (s.getF F.TBS_WRAPCNT_WRAP 0 * 4294967296 + s.getF F.TBS_NS_NS 0) * 4294967296 + s.getF F.TBS_FRAC_FRAC 0

/-- System time. -/
def State.now (s : State) : Time := Time.ofFix s.nowFix

/-- An island's copy of system time, as an extended 32.32 value (R15). -/
def State.copyFix (s : State) (isl : Nat) : Nat := ((s.nowFix : Int) + Tbl.get (fun _ => 0) s.time.copyOff isl).toNat

/-- An island's copy of system time. -/
def State.localNow (s : State) (isl : Nat) : Time := Time.ofFix (s.copyFix isl)

/-- The extended time nearest `now` whose integer nanoseconds are `ns` modulo 2^32: the half-window form of R275. -/
def halfWindow (now : Time) (ns : Nat) : Int :=
  sext 32 (ns + 4294967296 - Time.ns32 now)

/-- TBS_INC in force (R273). -/
def State.inc (s : State) : Nat := s.getF F.TBS_INC_HI_INT 0 * 4294967296 + s.getF F.TBS_INC_LO_FRAC 0

/-- TBS_INCNOM. -/
def State.incNom (s : State) : Nat := s.getF F.TBS_INCNOM_HI_INT 0 * 4294967296 + s.getF F.TBS_INCNOM_LO_FRAC 0

/-- Set the time counter (R273). -/
def State.setNow (s : State) (v : Nat) : State :=
  ((s.setF F.TBS_FRAC_FRAC 0 v).setF F.TBS_NS_NS 0 (v / 4294967296)).setF F.TBS_WRAPCNT_WRAP 0
    (v / 18446744073709551616)

/-! ### The partition map (R321) -/

/-- Word at offset `4 * w` of the map record of site `x` (R323). -/
def State.map (s : State) (x w : Nat) : Nat := s.getF F.SITE_MAP_WORD (x * 64 + w)

/-- PRESENT. -/
def State.present (s : State) (x : Nat) : Bool := hasBit (s.map x 1) 0
/-- System site number. -/
def State.ssn (s : State) (x : Nat) : Nat := bits (s.map x 0) 12 0
/-- Shelf of every member chip. -/
def State.shelf (s : State) (x : Nat) : Nat := bits (s.map x 1) 7 4
/-- Member chips: bit k is position k in the shelf. -/
def State.memb (s : State) (x : Nat) : Nat := s.map x 2
/-- Channels of a site, bit c for CHc. -/
def State.chm (s : State) (x : Nat) : Nat := s.map x 3 + s.map x 4 * 4294967296
/-- QMASK of the map. -/
def State.qmask0 (s : State) (x : Nat) : Nat := bits (s.map x 5) 15 0
/-- QENT of the map. -/
def State.qent0 (s : State) (x : Nat) : Nat := bits (s.map x 5) 28 16
/-- First flow. -/
def State.flowLo (s : State) (x : Nat) : Nat := bits (s.map x 6) 7 0
/-- Number of flows. -/
def State.flowN (s : State) (x : Nat) : Nat := bits (s.map x 6) 16 8
/-- RT-STREAM reservation, 1/16 GB/s. -/
def State.rsvRt (s : State) (x : Nat) : Nat := bits (s.map x 7) 15 0
/-- HOST reservation, 1/16 GB/s. -/
def State.rsvHost (s : State) (x : Nat) : Nat := bits (s.map x 7) 31 16
/-- Capture bytes per window. -/
def State.cwin (s : State) (x : Nat) : Nat := bits (s.map x 8) 15 0
/-- Staging share in pages. -/
def State.ssize (s : State) (x : Nat) : Nat := bits (s.map x 8) 27 16
/-- Backlog pages. -/
def State.bksz (s : State) (x : Nat) : Nat := bits (s.map x 9) 19 0
/-- Region of the backlog. -/
def State.bkreg (s : State) (x : Nat) : Nat := bits (s.map x 9) 23 20
/-- FLASH launches per window. -/
def State.flslot (s : State) (x : Nat) : Nat := bits (s.map x 10) 7 0
/-- Trigger output slot `k`: the ball, if the slot is used. -/
def State.trgOut (s : State) (x k : Nat) : Option Nat :=
  if hasBit (s.map x 11) (8 * k + 7) then some (bits (s.map x 11) (8 * k + 3) (8 * k)) else none
/-- Trigger input slot `k`. -/
def State.trgInSlot (s : State) (x k : Nat) : Option Nat :=
  if hasBit (s.map x 12) (8 * k + 7) then some (bits (s.map x 12) (8 * k + 3) (8 * k)) else none
/-- First beat-buffer row of a site in an octet. -/
def State.rowBase (s : State) (x o : Nat) : Nat := bits (s.map x (16 + o)) 9 0 * 4096
/-- Rows of a site in an octet. -/
def State.rowCount (s : State) (x o : Nat) : Nat := bits (s.map x (16 + o)) 25 16 * 4096
/-- Base of region `r`, in MiB. -/
def State.regBase (s : State) (x r : Nat) : Nat := bits (s.map x (24 + 2 * r)) 15 0
/-- Size of region `r`, in MiB. -/
def State.regSize (s : State) (x r : Nat) : Nat := bits (s.map x (25 + 2 * r)) 15 0
/-- Region `r` is a double region (R350). -/
def State.regDbl (s : State) (x r : Nat) : Bool := hasBit (s.map x (25 + 2 * r)) 16
/-- Region `r` is assigned. -/
def State.regValid (s : State) (x r : Nat) : Bool := hasBit (s.map x (25 + 2 * r)) 31

/-- The local site numbers. -/
def sites : List Nat := List.range 16

/-- Chip number of this chip (R319). -/
def State.chipNo (s : State) : Nat := s.getF F.FAB_ID_CHIP 0

/-- The leader chip of a site (R321). -/
def State.leader (s : State) (x : Nat) : Nat := s.ssn x / 16

/-- Is this chip the site's leader? -/
def State.isLeader (s : State) (x : Nat) : Bool := s.leader x == s.chipNo

/-- The member chips of a site (R321). -/
def State.members (s : State) (x : Nat) : List Nat :=
  ((List.range 32).filter (fun k => hasBit (s.memb x) k)).map (fun k => s.shelf x * 32 + k)

/-- The other member chips of a site. -/
def State.peersOf (s : State) (x : Nat) : List Nat := (s.members x).filter (fun c => c != s.chipNo)

/-- The local site that carries a system site number (R302). -/
def State.siteBySsn (s : State) (n : Nat) : Option Nat := sites.find? (fun x => s.present x && s.ssn x == n)

/-- Does a PRESENT site own a channel? -/
def State.ownsCh (s : State) (x c : Nat) : Bool := s.present x && hasBit (s.chm x) c

/-- The site that owns a channel. -/
def State.owner (s : State) (c : Nat) : Option Nat := sites.find? (fun x => s.ownsCh x c)

/-- Does a site own a channel of an octet? -/
def State.inOct (s : State) (x o : Nat) : Bool := (chansOf o).any (fun c => s.ownsCh x c)

/-- Does one site own all eight channels of an octet (R324)? -/
def State.ownsOct (s : State) (x o : Nat) : Bool := (chansOf o).all (fun c => s.ownsCh x c)

/-- The site that owns an octet whole. -/
def State.octOwner (s : State) (o : Nat) : Option Nat := sites.find? (fun x => s.ownsOct x o)

/-- The channels of a site. -/
def State.siteChans (s : State) (x : Nat) : List Nat := (List.range 64).filter (fun c => s.ownsCh x c)

/-- The engine quota in force (R263, R23). -/
def State.quota (s : State) (x : Nat) : Nat := s.getF F.DSP_SENG_QMASK x

/-- Is a function the VF of a site? -/
def fnIsSite (f : Fn) (x : Nat) : Bool :=
  match f with
  | .pf0 => false
  | .vf n => n.val == x

/-- A VF of a PRESENT site, whose writes act (R320). -/
def State.vfLive (s : State) (f : Fn) : Bool :=
  match f with
  | .pf0 => false
  | .vf n => decide (n.val < s.numVfs) && s.present n.val

/-- Does the function's site own a channel? PF0 owns none. -/
def State.fnOwns (s : State) (f : Fn) (c : Nat) : Bool :=
  match f with
  | .pf0 => false
  | .vf n => s.vfLive f && s.ownsCh n.val c

/-- Is a function the VF of site `x`, and does its write act? -/
def State.fnSite (s : State) (f : Fn) (x : Nat) : Bool := fnIsSite f x && s.vfLive f

/-- Any site of the chip runs beats (R279). -/
def State.anyRun (s : State) : Bool := sites.any (fun x => s.flag F.SITE_BSTAT_RUN x)

/-! ### Host events (R446) -/

/-- Vector `k` of function `f` is to send a message: it does while nothing masks it, and is pending otherwise. -/
def State.msix (s : State) (f k : Nat) : State :=
  if hasBit s.msixEn f && s.getF F.MSIX_CTRL_MASK (k * 17 + f) == 0 then
    s.log (.msix (if h : f < 16 then .vf ⟨f, h⟩ else .pf0) k)
  else s.setF F.MSIX_PBA_PEND f (setBit (s.getF F.MSIX_PBA_PEND f) k)

/-- R447: the instant of event `k` of function `f` is kept, with whether its bit stood already, for a W1C in the same cycle. -/
def State.noteEv (s : State) (f k : Nat) : State :=
  { s with evAt := Tbl.set (fun _ => none) s.evAt (f * 16 + k) (some (s.now, hasBit (s.getF F.HST_EVT_EVT f) k)) }

/-- R446: event bit `k` of function `f` (16 is PF0) is raised; a message goes out when the bit goes from 0 to 1 unmasked. -/
def State.raise (s : State) (f k : Nat) : State :=
  let e := s.getF F.HST_EVT_EVT f
  if hasBit e k then s.noteEv f k else
    let s1 := (s.noteEv f k).setF F.HST_EVT_EVT f (setBit e k)
    if hasBit (s.getF F.HST_EVMSK_MSK f) k then s1 else s1.msix f k

/-- Raise a host event of a site's VF. -/
def State.raiseVf (s : State) (x k : Nat) : State := s.raise x k

/-- Raise a host event of PF0. -/
def State.raisePf (s : State) (k : Nat) : State := s.raise 16 k

/-- Set a bit of HST_ERR, which raises VF event 15 (R446); PF0's raises none. -/
def State.hstErr (s : State) (f : Nat) (b : Fld) : State :=
  let s1 := s.setF b f 1
  if f < 16 then s1.raise f 15 else s1

/-- The commands of this cycle that still wait: those before the next tick of the timebase. -/
def State.cycleRest (s : State) : List Instr :=
  s.pending.takeWhile (fun i => match i with | .timebaseTick => false | _ => true)

/-! ### Order of crossings -/

/-- Extended integer nanoseconds of now. -/
def State.nowNs (s : State) : Nat := Time.toNs s.now

/-- R18: a target held at least 16 ns of local time before it. -/
def State.inTime (s : State) (isl : Nat) (target : Time) : Bool :=
  decide (s.localNow isl + Time.ofNs 16 ≤ target)

/-- What may follow a command: the next state. -/
abbrev Res := Host.Outcome State Fault Refusal

/-- The command's effect is this state. -/
def ok (s : State) : Res := .next s

/-! ### Contradictory orders (R334) -/

/-- Offset of instance `ix` from instance 0, by (stride, count) from the outermost index. -/
def dimOff : List (Nat × Nat) → Nat → Nat
  | [], _ => 0
  | d :: ds, ix =>
    let n := ds.foldl (fun a p => a * p.2) 1
    ix / n * d.1 + dimOff ds (ix % n)

/-- The PF0 address of an instance of a register. -/
def RegDesc.addr (d : RegDesc) (ix : Nat) : Nat := d.base + dimOff d.dims ix

/-- R334: do two orders contradict: one control set to different values by writes, or a RESET against anything it resets? -/
def Order.contradicts (a b : Order) : Bool :=
  if a.addr = b.addr ∧ 2 ≤ a.src ∧ 2 ≤ b.src then a.val != b.val else a.rank == 0 || b.rank == 0

/-- R334: RESET, then STOP, then the lower source number. -/
def Order.beats (a b : Order) : Bool := decide (a.rank < b.rank) || (a.rank == b.rank && decide (a.src < b.src))

/-- The record of a losing order (R334, R335). -/
def State.conflict (s : State) (x lsrc wsrc addr : Nat) : State :=
  (s.setFs x [(F.SITE_SSTAT_CONFLICT, 1), (F.SITE_SCFL_LSRC, lsrc), (F.SITE_SCFL_WSRC, wsrc), (F.SITE_SCFLA_ADDR, addr)]).incF
    F.SITE_SCFLN_CNT x

/-- Source number of a function's order (R334). -/
def fnSrc (fn : Fn) : Nat := if fn = .pf0 then 3 else 2

/-- R334, R335: a RESET or STOP of site `x` that waits in this cycle, as an order. A RESET while one runs is none (R5). -/
def State.stopOrder (s : State) (x : Nat) (i : Instr) : Option Order :=
  match i with
  | .siteReset fn site =>
    if site.val = x ∧ (fn = .pf0 ∨ s.fnSite fn x = true) ∧ s.flag F.SITE_SSTAT_RESETTING x = false then
      some ⟨s.nowNs, 0, fnSrc fn, R.SITE_SCTL.addr x, 1, 0⟩
    else none
  | .dspStop fn site =>
    if site.val = x ∧ (fn = .pf0 ∨ s.fnSite fn x = true) then some ⟨s.nowNs, 1, fnSrc fn, R.DSP_SCTL.addr x, 1, 0⟩ else none
  | _ => none

/-- R334: an order of site `x` is judged against those that other sources gave in the same cycle, and against a RESET or STOP that waits in
it. One that loses does `lose` instead; earlier ones that lose to it have acted already and are recorded (log entry 65). -/
def State.order (s : State) (x : Nat) (o : Order) (act lose : State → Res) : Res :=
  let here := (s.siteOf x).orders.filter (fun p => p.ns == o.ns)
  let against := here.filter (fun p => p.src != o.src && p.contradicts o)
  let later := (s.cycleRest.filterMap (fun i => s.stopOrder x i)).filter (fun p => p.src != o.src && p.contradicts o)
  match (against ++ later).find? (fun p => p.beats o) with
  | some p => lose (s.conflict x o.src p.src o.addr)
  | none => act ((against.foldl (fun a p => a.conflict x p.src o.src p.addr) s).modSite x (fun t => { t with orders := here ++ [o] }))

/-- R334: a VF's write to a control of its own site, when it is one (`own`); any other write is no order. -/
def State.hostOrder (s : State) (fn : Fn) (own : Bool) (d : RegDesc) (ix val : Nat) (act : State → Res) : Res :=
  match fn with
  | .pf0 => act s
  | .vf n =>
    if own && s.vfLive fn then s.order n.val ⟨s.nowNs, 2, 2, d.addr ix, val, 0⟩ act ok else act s

end Sys2Proof.Machine
end

