-- ==== Sys2Proof/Machine/NvmOps.lean ====
section
/-! DEFINITION. The on-chip NVM as every unit writes it: bytes, page writes, the fault log (R421, R422, R428). -/

namespace Sys2Proof.Machine

/-- A number as `n` bytes, least significant first. -/
def leBytes (n v : Nat) : List Byte := (List.range n).map (fun k => BitVec.ofNat 8 (v / 256 ^ k))

/-- Bytes as a number, least significant first. -/
def leNat (l : List Byte) : Nat := l.foldr (fun b a => a * 256 + b.toNat) 0

/-- `n` bytes of the NVM from `a`. -/
def State.nvmBytes (s : State) (a n : Nat) : List Byte := (List.range n).map (fun k => Tbl.get (fun _ => 0) s.nvm (a + k))

/-- Bytes into the NVM from `a`: one rewrite of the page that holds them, which counts in its wear (R422, R433). -/
def State.nvmPut (s : State) (a : Nat) (l : List Byte) : State :=
  let pg := a / 1024
  let n := Tbl.get (fun _ => 0) s.wear pg + 1
  let m := (l.zip (List.range l.length)).foldl (fun t p => Tbl.set (fun _ => (0 : Byte)) t (a + p.2) p.1) s.nvm
  let s1 : State := { s with nvm := m, wear := Tbl.set (fun _ => 0) s.wear pg n }
  if 30 ≤ pg ∧ pg ≤ 115 then s1.setF F.NVM_WEAR_MAX 0 (max (s.getF F.NVM_WEAR_MAX 0) (satAt 17 n)) else s1

/-- The next `n` draws of values that the manual does not state. -/
def State.draws (s : State) (n : Nat) : List Nat := (List.range n).map (fun k => Config.value (s.free + k))

/-- A structure of `n` words into the NVM from `a`, which ends with its CRC-32C (R422); where its contents stand in it the manual does not
say. -/
def State.nvmRecord (s : State) (kind a n : Nat) (l : List Nat) : State :=
  let body := (List.range (n - 1)).flatMap (fun k => leBytes 4 (Config.nvmWord kind l k))
  s.nvmPut a (body ++ leBytes 4 (crc32c body))

/-- R422: a page whose write is cut off holds values that the manual does not state and fails its check. -/
def State.nvmCut (s : State) (a : Nat) : State :=
  let body := (s.draws 255).flatMap (leBytes 4)
  ({ s with free := s.free + 255 } : State).nvmPut a (body ++ leBytes 4 (crc32c body ^^^ 4294967295))

/-! ### Recovery counts (R426, R427) -/

/-- R426 step 1: an intent record is written. -/
def State.putIntent (s : State) (i : RecIntent) : State :=
  ({ s with boot := { s.boot with recSeq := i.seq, intents := Tbl.set (fun _ => none) s.boot.intents (i.seq % 8) (some i) } } : State).nvmRecord 1
    ((66 + i.seq % 8) * 1024) 256 [i.seq, i.k, b2n i.base, i.val]

/-- The write of intent record `q` is cut off. -/
def State.intentCut (s : State) (q : Nat) : State :=
  ({ s with boot := { s.boot with intents := Tbl.set (fun _ => none) s.boot.intents (q % 8) none } } : State).nvmCut ((66 + q % 8) * 1024)

/-- R426 step 2: a snapshot is written. -/
def State.putSnap (s : State) (p : RecSnap) : State :=
  ({ s with boot := { s.boot with snaps := Tbl.set (fun _ => none) s.boot.snaps (p.seq % 8) (some p) } } : State).nvmRecord 2
    ((74 + p.seq % 8) * 1024) 256 (p.seq :: p.cnt ++ p.base)

/-- The write of snapshot `q` is cut off. -/
def State.snapCut (s : State) (q : Nat) : State :=
  ({ s with boot := { s.boot with snaps := Tbl.set (fun _ => none) s.boot.snaps (q % 8) none } } : State).nvmCut ((74 + q % 8) * 1024)

/-- The counts in force as a snapshot. -/
def State.snapNow (s : State) (q : Nat) : RecSnap :=
  ⟨q, (List.range 17).map (fun k => s.getF F.FLT_RCNT_RCNT k), (List.range 17).map (fun k => s.getF F.FLT_RBASE_RBASE k)⟩

/-- A change to count `k`, of RBASE or of RCNT. -/
def State.recSet (s : State) (i : RecIntent) : State := s.setF (if i.base then F.FLT_RBASE_RBASE else F.FLT_RCNT_RCNT) i.k i.val

/-- R426: a change of a recovery count, in its two writes. -/
def State.recChange (s : State) (k : Nat) (base : Bool) (val : Nat) : State :=
  let i : RecIntent := ⟨s.boot.recSeq + 1, k, base, val⟩
  let a := (s.putIntent i).recSet i
  a.putSnap (a.snapNow i.seq)

/-- R428: an entry of the fault log: TYPE, the unit, a sequence number, the time, and data that the manual does not lay
out. Within 10 ms of the latest entry, in ticks, it is only counted. -/
def State.faultLog (s : State) (typ unit : Nat) : State :=
  let now := Time.toNs s.now
  let busy := match s.boot.logTick with | some t => decide (s.time.ticks < t + 10000000) | none => false
  if busy then s.incF F.NVM_FLDROP_CNT 0
  else
    let h := s.getF F.NVM_FLHEAD_HEAD 0
    let d := s.draws 12
    let ws := [typ + unit % 256 * 256 + d.headD 0 % 65536 * 65536, s.getF F.NVM_FLCNT_CNT 0, s.getF F.TBS_WRAPCNT_WRAP 0,
      now % 4294967296] ++ d.drop 1
    let body := ws.flatMap (leBytes 4)
    let s1 : State := { s with free := s.free + 12, boot := { s.boot with logTick := some s.time.ticks } }
    ((s1.nvmPut (82 * 1024 + h * 64) (body ++ leBytes 4 (crc32c body))).setF F.NVM_FLHEAD_HEAD 0 (h + 1)).incF F.NVM_FLCNT_CNT 0

end Sys2Proof.Machine
end

