-- ==== Sys2Proof/Machine/LaneCode.lean ====
section
/-! DEFINITION. Tiltik lane coding (R296 to R298): lane words and their tags, the scrambler, the stuffed bits, the comma and the
block; the words of a cell (R304); and the line bits that leave with each word handed to a port. -/

namespace Sys2Proof.Machine

/-! ### Generators (R172, R297) -/

/-- Length and tap of a PRBS polynomial. -/
def prbsTaps (poly : Nat) : Nat × Nat :=
  match poly with
  | 0 => (7, 6)
  | 1 => (9, 5)
  | 2 => (15, 14)
  | 3 => (23, 18)
  | _ => (31, 28)

/-- One bit of a PRBS and its next state (R172). -/
def prbsBit (poly st : Nat) : Nat × Nat :=
  let n := (prbsTaps poly).1
  let b := (bit st (n - 1) + bit st ((prbsTaps poly).2 - 1)) % 2
  (b, (st * 2 + b) % 2 ^ n)

/-- The next `k` bits of a PRBS, and its state after them. -/
def prbsBits (poly : Nat) : Nat → Nat → List Nat × Nat
  | 0, st => ([], st)
  | k + 1, st =>
    let r := prbsBit poly st
    let t := prbsBits poly k r.2
    (r.1 :: t.1, t.2)

/-- The all-ones state. -/
def prbsOnes (poly : Nat) : Nat := 2 ^ (prbsTaps poly).1 - 1

/-! ### Lane words and blocks (R296, R297) -/

/-- R296: the 34 bits of a lane word: a 2-bit tag (0 LINK, 1 CELL, 2 FLASH), then 32 payload bits, least significant first. -/
def laneWord (w : Nat × Nat) : List Bool := (List.range 34).map (fun i => (w.1 % 4 + w.2 % 4294967296 * 4).testBit i)

/-- The tag and the payload of 34 bits. -/
def wordOf (l : List Bool) : Nat × Nat :=
  let n := fun (b : List Bool) => b.foldr (fun x a => a * 2 + (if x then 1 else 0)) 0
  (n (l.take 2), n ((l.drop 2).take 32))

/-- Words in a block. -/
def blockWords : Nat := 128

/-- R297: PRBS23 from the all-ones state at the end of a comma, from bit `p` of the block on. -/
def scrambleFrom (p : Nat) (l : List Bool) : List Bool :=
  let st := (prbsBits 3 p (prbsOnes 3)).2
  (l.zip (prbsBits 3 l.length st).1).map (fun q => q.1 != (q.2 == 1))

/-- R297: after any run of 15 equal bits one bit of the opposite value is inserted, which begins a new run. The first arguments are
the run so far and its value. -/
def stuff : Nat → Bool → List Bool → List Bool
  | _, _, [] => []
  | r, v, b :: l =>
    let n := if b = v then r + 1 else 1
    if n = 15 then b :: (!b) :: stuff 1 (!b) l else b :: stuff n b l

/-- R297: the comma: 20 ones followed by 20 zeros, neither scrambled nor stuffed. -/
def comma : List Bool := List.replicate 20 true ++ List.replicate 20 false

/-- R298: a run of 15 bits of value `b` is followed by another such bit and then by `l`: does a comma begin with that run? -/
def commaFrom (b : Bool) (l : List Bool) : Bool := (List.replicate 16 b ++ l.take 24) == comma

/-- R298: the bit after each run of 15 is discarded. The bits before a comma or a violation, and whether there is no violation. -/
def destuff : Nat → Bool → List Bool → List Bool × Bool
  | _, _, [] => ([], true)
  | r, v, b :: l =>
    let n := if b = v then r + 1 else 1
    if n = 15 then
      match l with
      | [] => ([b], true)
      | c :: k => if c = b then ([b], commaFrom b k) else
        let d := destuff 1 c k
        (b :: d.1, d.2)
    else
      let d := destuff n b l
      (b :: d.1, d.2)

/-- R297: the line bits of a whole block, its comma first. The run is counted from the first bit of the block (log entry 51). -/
def blockLine (ws : List (Nat × Nat)) : List Bool := comma ++ stuff 0 false (scrambleFrom 0 (ws.flatMap laneWord))

/-- R297: the line bits of words that follow word `p` of a block whose run so far is `r` bits of value `v`; past the 128th word the next
comma and block begin. -/
def lineBits (p r : Nat) (v : Bool) (ws : List (Nat × Nat)) : List Bool :=
  let a := ws.take (blockWords - p)
  let b := ws.drop (blockWords - p)
  stuff r v (scrambleFrom (p * 34) (a.flatMap laneWord)) ++ (if b.isEmpty then [] else blockLine b)

/-- The run of equal bits at the end of a line that went on from a run. -/
def runAfter (q : Nat × Bool) (l : List Bool) : Nat × Bool := l.foldl (fun p b => (if b = p.2 then p.1 + 1 else 1, b)) q

/-- R297: where a line stands after more words. -/
def lineAfter (q : LinePos) (ws : List (Nat × Nat)) : LinePos :=
  if ws.length ≤ blockWords - q.words then
    let e := runAfter (q.run, q.val) (lineBits q.words q.run q.val ws)
    ⟨q.words + ws.length, e.1, e.2⟩
  else
    let b := ws.drop (blockWords - q.words)
    let e := runAfter (0, false) (stuff 0 false (scrambleFrom 0 (b.flatMap laneWord)))
    ⟨b.length, e.1, e.2⟩

/-- The bits of `n` words, cut up. -/
def wordsOf : Nat → List Bool → List (Nat × Nat)
  | 0, _ => []
  | n + 1, l => if l.length < 34 then [] else wordOf l :: wordsOf n (l.drop 34)

/-- R298: what the receiver makes of the line bits after a comma: the words before the first violation, and whether there is one: a run of
16 outside a comma, or a word with the reserved tag (R296). -/
def readBlock (line : List Bool) : List (Nat × Nat) × Bool :=
  let d := destuff 0 false line
  let bitsIn := d.1.take (blockWords * 34)
  let ws := wordsOf blockWords (scrambleFrom 0 bitsIn)
  let good := ws.takeWhile (fun w => w.1 != 3)
  (good, decide (good.length < ws.length) || (!d.2 && decide (d.1.length < blockWords * 34)))

/-! ### The words of a cell (R304) -/

/-- A message by kind and fields. -/
def Msg.nums (m : Msg) : List Nat :=
  let b := fun (x : Bool) => if x then 1 else 0
  match m with
  | .opn t => [0, t]
  | .prepare t f => [1, t, f]
  | .vote t r => [2, t, r]
  | .defer t f => [3, t, f]
  | .commit t f => [4, t, f]
  | .abort t o => [5, t, o]
  | .query t => [6, t]
  | .outcome t v f => [7, t, match v with | .committed => 0 | .aborted => 1 | .unknown => 2, f]
  | .nackStale t p => [8, t, b p]
  | .nackConflict => [9]
  | .credit => [10]
  | .hello c d r v => [11, c, d, b r, v]
  | .linkState l => [12, l.a, l.port, l.b, b l.up, l.flight, b l.root, l.digest]
  | .sleepVote => [13]
  | .sleepAt t => [14, t]
  | .timeReq => [15]
  | .timeReply => [16]
  | .timeFollow a c => [17, a, c]

/-- The bytes 0 to 59 of a cell. -/
def cellBody (w : List Nat) : List Byte := (w.take 15).flatMap (leBytes 4)

/-- R304: the first 15 words of a cell that goes out on a link with LSEQ `lseq`: of a message of chip `me`, or of a cell passed on, whose
hops left, detour mark and LSEQ are written anew. -/
def Cell.body (c : Cell) (me lseq : Nat) : List Nat :=
  let mark := c.ttl % 16 * 67108864 + (if c.vc then 1073741824 else 0)
  match c.msg with
  | some m =>
    [c.cls % 4 + Config.msgType m.nums % 64 * 4 + c.dst % 512 * 256 + me % 512 * 131072 + mark,
      c.site % 8192 + c.epoch % 65536 * 65536, lseq % 4096 + c.eseq % 1048576 * 4096] ++
    (List.range 12).map (fun i => Config.msgWord m.nums i % 4294967296)
  | none =>
    [c.words.getD 0 0 % 67108864 + mark, c.words.getD 1 0, lseq % 4096 + c.words.getD 2 0 / 4096 * 4096] ++ (c.words.drop 3).take 12

/-- R304: all 16 words, with the CRC-32C over bytes 0 to 59. -/
def Cell.line (c : Cell) (me lseq : Nat) : List Nat := c.body me lseq ++ [crc32c (cellBody (c.body me lseq))]

/-- Does a cell pass its check (R304)? -/
def cellOk (w : List Nat) : Bool := w.length == 16 && crc32c (cellBody w) == w.getD 15 0

/-! ### Words handed to a port -/

/-- Where the block of port `k` stands: as the words before left it while the line is still busy with them or ends them now; after idle
words, which no rule spells, at a free place, and with no run where that is the first word of a block (log entry 51). -/
def State.linePlace (s : State) (k : Nat) : LinePos :=
  let p := s.portOf k
  let q := Config.linePos k s.out.length
  if s.now ≤ p.lineAt ∧ p.lineAt ≠ 0 then p.line
  else if q % blockWords = 0 then {}
  else ⟨q % blockWords, q / 256 % 15, q / 128 % 2 == 1⟩

/-- Words with a tag leave port `k` one after another, from where its block stands; a line bit lasts 31.25 ps. -/
def State.sendLine (s : State) (k tag : Nat) (ws : List Nat) : State :=
  let q := s.linePlace k
  let l := ws.map (fun w => (tag, w))
  let bits := lineBits q.words q.run q.val l
  (s.modPort k (fun p => { p with
    line := lineAfter q l, lineAt := max s.now p.lineAt + Time.ofQ (bits.length * 250) })).log (.line k bits)

/-- R301: three copies of a FLASH word; of one passed on, the copy. -/
def State.sendFlash (s : State) (copy : Bool) (k w : Nat) : State :=
  if copy then (s.log (.flashCopy k w)).sendLine k 2 [w] else (s.log (.flash k w)).sendLine k 2 [w, w, w]

/-- The outputs without the newest copy of a FLASH word that port `k` passed on, and its line bits. -/
def unsent (k w : Nat) : List Out → List Out
  | [] => []
  | o :: t => if t.head? = some (.flashCopy k w) then t.tail else o :: unsent k w t

/-- R305: a LINK word. -/
def State.sendLink (s : State) (k : Nat) (ack : Bool) (n : Nat) : State :=
  (s.log (.link k ack n)).sendLine k 0 [Config.linkWord ack n]

/-- R304: the 16 words of a cell. -/
def State.sendCell (s : State) (k n : Nat) (c : Cell) : State :=
  (s.log (.cell k n c)).sendLine k 1 (c.line (s.getF F.FAB_ID_CHIP 0) n)

end Sys2Proof.Machine
end

