-- ==== Sys2Proof/Machine/FabOps.lean ====
section
/-! DEFINITION. Sending over Tiltik: FLASH words along the shelf tree, messages in cells along the route, wake requests
(R299 to R312, R316). -/

namespace Sys2Proof.Machine

/-- STATE of a port: 0 DOWN, 1 TRAIN, 2 UP, 3 DEEP, 4 EXIT, 5 RETIRED (R319). -/
def State.portState (s : State) (k : Nat) : Nat := s.getF F.FAB_PSTAT_STATE k

/-- A FLASH word without its FWD bits (R299). -/
def flashWord (ftype site code tag epl : Nat) : Nat :=
  ftype + site * 8 + code * 65536 + tag * 1048576 + epl * 8388608

/-- The entry of a peer chip. -/
def State.peer (s : State) (chip : Nat) : Option Peer := s.fab.peers.find? (fun p => p.chip == chip)

/-- The chip at the other end of port `k` by the board's wiring (R12): T0 to T4 flip a position bit, T5 to T8 a shelf bit. -/
def State.neighbour (s : State) (k : Nat) : Nat := s.chipNo ^^^ 2 ^ k

/-- Does port `k` carry traffic: is it UP, and its partner admitted (R310)? -/
def State.carries (s : State) (k : Nat) : Bool := s.portState k == 2 && s.flag F.FAB_PSTAT_FARV k

/-- The port that stands for tree link `k`: the port itself, or the first port of the detour (R311; how a relay of the detour knows such a
word no rule says: log entry 64). -/
def State.treePort (s : State) (k : Nat) : Option Nat :=
  if s.carries k || s.portState k == 3 then some k else (s.peer (s.neighbour k)).map (fun p => p.port)

/-- R301, R318: port `p` passes on a copy that came on port `inp`. Of copies from two ports in one cycle the one of the lower port leaves
first, and the others wait for it. -/
def State.flashPass (s : State) (inp p w : Nat) : State :=
  let l := (s.portOf p).passed.filter (fun q => q.ns == s.nowNs)
  let wait := l.filter (fun q => decide (inp < q.inp))
  let s1 := wait.reverse.foldl (fun a q => ({ a with out := unsent p q.word a.out } : State).modPort p (fun t => { t with
    line := q.line, lineAt := q.lineAt })) s
  let s2 := s1.modPort p (fun t => { t with passed := l.filter (fun q => decide (q.inp ≤ inp)) })
  ((inp, w) :: wait.map (fun q => (q.inp, q.word))).foldl (fun a v =>
    (a.modPort p (fun t => { t with passed := t.passed ++ [⟨s.nowNs, v.1, v.2, t.line, t.lineAt⟩] })).sendFlash true p v.2) s2

/-- One FLASH word of this chip, or one copy that came on a port, on the port that stands for tree link `k`, when that port is UP. -/
def State.flashOn (s : State) (src : Option Nat) (k w : Nat) : State :=
  match s.treePort k with
  | some p =>
    if s.carries p then
      match src with
      | some inp => s.flashPass inp p w
      | none => s.sendFlash false p w
    else s
  | none => s

/-- R300: the originating chip sends on each port Tk, k = 0 to 4, with FWD holding bits 0 to k - 1. -/
def State.flashTree (s : State) (src : Option Nat) (w : Nat) : State :=
  [0, 1, 2, 3, 4].foldl (fun a k => a.flashOn src k (w + (2 ^ k - 1) * 134217728)) s

/-- R300: a SYS word goes first over T5 to T8 with its shelf-dimension mask, then along the shelf tree. -/
def State.flashSystem (s : State) (w : Nat) : State :=
  ([0, 1, 2, 3].foldl (fun a j => a.flashOn none (5 + j) (w + (2 ^ j - 1) * 8)) s).flashTree none w

/-- R300, R301: a receiver passes a copy on each port whose bit is set in FWD, with FWD cleared from that bit upward; a SYS
word that arrives over a shelf dimension goes on over the shelf dimensions of its mask and starts a shelf tree. -/
def State.flashForward (s : State) (port w : Nat) : State :=
  let fwd := bits w 31 27
  let base := w % 134217728
  if bits w 2 0 == 4 && decide (5 ≤ port) && decide (port ≤ 8) then
    let msk := bits w 6 3
    let b0 := base - msk * 8
    ([0, 1, 2, 3].foldl (fun a j => if hasBit msk j then a.flashOn (some port) (5 + j) (b0 + msk % 2 ^ j * 8) else a) s).flashTree
      (some port) b0
  else
    [0, 1, 2, 3, 4].foldl (fun a k => if hasBit fwd k then a.flashOn (some port) k (base + fwd % 2 ^ k * 134217728) else a) s

/-! ### Sleep and wake -/

/-- The ports that sleep with the shelf: T0 to T4 and T9 to T11 (R314). -/
def sleepPorts : List Nat := [0, 1, 2, 3, 4, 9, 10, 11]

/-- R317: the chip is awake once none of its ports sleeps or leaves the deep state. -/
def State.awakeCheck (s : State) : State :=
  if sleepPorts.all (fun p => s.portState p != 3 && s.portState p != 4) then s.setF F.FAB_SLPSTAT_STATE 0 0 else s

/-- R316: the wake tone on every sleeping port; the port is then leaving the deep state. A chip with no such port is awake. -/
def State.wakeTones (s : State) : State :=
  (sleepPorts.foldl (fun a k =>
    if a.portState k == 3 then
      (a.log (.wakeTone k)).setF F.FAB_PSTAT_STATE k 4
    else a) s).awakeCheck

/-- R316: the sleep is abandoned; T of a scheduled one is kept (R317). -/
def State.giveUpSleep (s : State) : State :=
  { (s.setF F.FAB_SLPSTAT_STATE 0 0).setF F.FAB_SLPSTAT_CANCELLED 0 1 with
      fab := { s.fab with sleepAt := none, wake := none, gaveUp := s.fab.sleepAt } }

/-- R316: CANCEL is sent to the shelf (SYS, code 15, shelf mask 0) and the sleep is abandoned. -/
def State.cancelSleep (s : State) : State :=
  let s1 := s.flashTree none (flashWord 4 0 15 0 0)
  s1.giveUpSleep

/-- A wake request is held; the earliest one counts. -/
def State.holdWake (s : State) : State :=
  if s.fab.wake.isSome then s else { s with fab := { s.fab with wake := some s.nowNs } }

/-- R316: a wake request. Before C = T - 48 ns of a scheduled sleep it cancels the sleep; at or after C it is kept; asleep,
the wake tone goes out. -/
def State.wakeRequest (s : State) : State :=
  let st := s.getF F.FAB_SLPSTAT_STATE 0
  if st == 3 then s.wakeTones
  else if st == 2 then
    match s.fab.sleepAt with
    | some t => if s.nowNs + 48 < t then s.cancelSleep else s.holdWake
    | none => s
  else if st == 1 then s.holdWake
  else s

/-- Does a tree over these links need a sleeping port, an alternate of a detour among them (R311, R316)? -/
def State.linksAsleep (s : State) (l : List Nat) : Bool :=
  l.any (fun k => match s.treePort k with | some p => s.portState p == 3 | none => false)

/-- Does the shelf tree of this chip? -/
def State.treeAsleep (s : State) : Bool := s.linksAsleep [0, 1, 2, 3, 4]

/-- A FLASH word along the shelf tree; one that needs a sleeping port is a wake request. -/
def State.flashSend (s : State) (w : Nat) : State :=
  let s1 := s.flashTree none w
  if s.treeAsleep then s1.wakeRequest else s1

/-- Has every burst of a site ended? -/
def State.burstsOver (s : State) (x : Nat) : Bool :=
  s.ready.all (fun i => i.site != x) && (List.range 16).all (fun e =>
    (match (s.engOf e).item with | some i => i.site != x | none => true) &&
    (match (s.engOf e).saved with | some v => v.item.site != x | none => true))

/-- The role epoch by which a message of a site that arrives now is judged: an increment of the same cycle has come (R313, R318). -/
def State.epochNow (s : State) (x : Nat) : Nat :=
  let ends := (s.siteOf x).resetting == 1 && s.burstsOver x && s.cycleRest.any (fun i => match i with
    | .siteResetBurstsEnded site => site.val == x
    | _ => false)
  (s.getF F.FAB_SEPOCH_EPOCH x + (if ends then 1 else 0)) % 65536

/-- EPL: the low bits of the site's role epoch (R299, R313). -/
def State.epl (s : State) (x : Nat) : Nat := s.getF F.FAB_SEPOCH_EPOCH x % 16

/-- A FLASH word of a site, held to the next window when FLSLOT is used up (R326). -/
def State.siteFlash (s : State) (x ftype code tag : Nat) : State :=
  let w := flashWord ftype (s.ssn x) code tag (s.epl x)
  if (s.siteOf x).flUsed < s.flslot x then
    (s.modSite x (fun t => { t with flUsed := t.flUsed + 1 })).flashSend w
  else (s.modSite x (fun t => { t with flHeld := t.flHeld ++ [w] })).incF F.SITE_SFLWAIT_CNT x

/-- R391: a FAULT word of a site; it is never held by FLSLOT. -/
def State.faultWord (s : State) (x : Nat) : State :=
  if (s.peersOf x).isEmpty then s else s.flashSend (flashWord 3 (s.ssn x) 0 0 (s.epl x))

/-! ### Cells -/

/-- Put a cell on a port: the next LSEQ, a place in the retry buffer, and the words out (R305). -/
def State.cellOn (s : State) (k : Nat) (c : Cell) : State :=
  let n := (s.portOf k).txSeq
  (s.modPort k (fun p => { p with txSeq := (n + 1) % 4096, retry := p.retry ++ [(n, 0, c)] })).sendCell k n c

/-- A cell for a port that is UP: out, or waiting while the retry buffer holds 64 cells. VC = 1 cells have their own buffers (R305, R311). -/
def State.portCell (s : State) (k : Nat) (c : Cell) : State :=
  if ((s.portOf k).retry.filter (fun r => r.2.2.vc == c.vc)).length < 64 then s.cellOn k c
  else s.modPort k (fun q => { q with held := q.held ++ [c] })

/-- Hand a cell to the port of its route. Without room in the buffer, or while the port leaves the deep state, the
cell waits; a sleeping port is woken (R305, R316). -/
def State.route (s : State) (c : Cell) : State :=
  match s.peer c.dst with
  | none => { s with fab := { s.fab with waiting := s.fab.waiting ++ [c] } }
  | some p =>
    let c1 := { c with vc := c.vc || p.detour }
    if s.portState p.port == 2 then s.portCell p.port c1
    else
      let s1 := s.modPort p.port (fun q => { q with held := q.held ++ [c1] })
      if s.portState p.port == 3 then s1.wakeRequest else s1

/-- A message of this chip in a cell of class `cls`, with the next end-to-end number for its destination and class. The
manual gives no first value of TTL: it is a free value (log entry 9). -/
def State.makeCell (s : State) (cls dst site epoch : Nat) (m : Msg) : Cell :=
  { cls := cls, dst := dst, site := site, epoch := epoch,
    eseq := Tbl.get (fun _ => 0) s.fab.txEseq (dst * 4 + cls) % 1048576, vc := false, ttl := s.anyVal % 16,
    msg := some m, words := [] }

/-- The end-to-end number and the draw of a cell just made are used. -/
def State.cellMade (s : State) (cls dst : Nat) : State :=
  let k := dst * 4 + cls
  { s.drawn with fab := { s.fab with txEseq := Tbl.set (fun _ => 0) s.fab.txEseq k (Tbl.get (fun _ => 0) s.fab.txEseq k + 1) } }

/-- Send a message of the fabric itself. -/
def State.send (s : State) (cls dst : Nat) (m : Msg) : State := (s.cellMade cls dst).route (s.makeCell cls dst 0 0 m)

/-- Send a CTRL message of a site, tagged with its role epoch; beyond CLSLOT it waits for the next window (R313, R326). -/
def State.sendSite (s : State) (x dst : Nat) (m : Msg) : State :=
  let c := s.makeCell 0 dst (s.ssn x) (s.getF F.FAB_SEPOCH_EPOCH x) m
  let s1 := s.cellMade 0 dst
  if (s.siteOf x).clUsed < bits (s.map x 10) 15 8 then
    (s1.modSite x (fun t => { t with clUsed := t.clUsed + 1 })).route c
  else (s1.modSite x (fun t => { t with clHeld := t.clHeld ++ [c] })).incF F.SITE_SFLWAIT_CNT x

/-- Send a CTRL message of a site to every other member chip. -/
def State.sendMembers (s : State) (x : Nat) (m : Msg) : State :=
  (s.peersOf x).foldl (fun a c => a.sendSite x c m) s

end Sys2Proof.Machine
end

