-- ==== Sys2Proof/Machine/FaultOps.lean ====
section
/-! DEFINITION. Sumac as every other unit uses it: sources, scopes, safe state, the ERR pair and FAULT words (R386 to
R396). Scope k = 0 to 15 is local site k; scope 16 is the chip. -/

namespace Sys2Proof.Machine

/-- Sources active in a scope: FLT_SSRC for a site, FLT_STAT.CSRC for the chip. -/
def State.srcs (s : State) (k : Nat) : Nat :=
  if k = 16 then s.getF F.FLT_STAT_CSRC 0 else s.getF F.FLT_SSRC_SRC k

/-- Set the sources of a scope; the chip's show in both registers. -/
def State.setSrcs (s : State) (k v : Nat) : State :=
  let s1 := s.setF F.FLT_SSRC_SRC k v
  if k = 16 then s1.setF F.FLT_STAT_CSRC 0 v else s1

/-- Do sources, a latch, the quiet period or an exit not yet made hold a scope in safe state (R388, R395)? -/
def State.scopeHeld (s : State) (k : Nat) : Bool :=
  s.srcs k != 0 || s.flag F.FLT_SSRC_LATCHED k || s.flag F.FLT_SSRC_QUIETING k || hasBit s.sumac.exiting k

/-- R388: chip-scope safe state. -/
def State.chipSafe (s : State) : Bool := s.scopeHeld 16

/-- R388: is a site in safe state? -/
def State.siteSafe (s : State) (x : Nat) : Bool := s.chipSafe || s.scopeHeld x

/-- R129, R132: SAFE becomes pending on the engines that run a burst of the site. -/
def State.pendSafe (s : State) (x : Nat) : State :=
  (List.range 16).foldl (fun a e =>
    match (a.engOf e).item with
    | some i => if i.site == x && (a.engOf e).started then a.setF F.SE_EXCB_PSAFE e 1 else a
    | none => a) s

/-- R392: does ERR show FAULT? -/
def State.errWant (s : State) : Bool :=
  s.chipSafe || sites.any (fun x => hasBit (s.getF F.FLT_CFG_ERRSITE 0) x && s.siteSafe x)

/-- The record of safe-state intervals of a site follows. -/
def State.safeIval (s : State) (x : Nat) (enter : Bool) : State :=
  let l := if enter then s.sumac.ivals ++ [(x, s.now, none)]
    else s.sumac.ivals.map (fun p => if p.1 = x ∧ p.2.2 = none then (x, p.2.1, some s.now) else p)
  { s with sumac := { s.sumac with ivals := l } }

/-- The safe-state bit of one site follows; entering it raises VF event 12 and pends SAFE (R446, R129). -/
def State.siteSafeBit (s : State) (x : Nat) (v : Bool) : State :=
  let was := hasBit (s.getF F.FLT_STAT_SSAFE 0) x
  let s1 := s.setF F.FLT_SSRC_SAFE x (if v then 1 else 0)
  if v && !was then
    let s2 := (s1.setF F.FLT_STAT_SSAFE 0 (setBit (s.getF F.FLT_STAT_SSAFE 0) x)).pendSafe x |>.safeIval x true
    if s.present x then s2.raiseVf x 12 else s2
  else if !v && was then (s1.setF F.FLT_STAT_SSAFE 0 (clearBit (s.getF F.FLT_STAT_SSAFE 0) x)).safeIval x false
  else s1

/-- Every register that follows from the sources, latches and quiet periods (R388, R392). -/
def State.sumacShow (s : State) : State :=
  let c := s.chipSafe
  let wasC := s.flag F.FLT_STAT_CSAFE 0
  let s1 := ((s.setF F.FLT_STAT_CSAFE 0 (if c then 1 else 0)).setF F.FLT_SSRC_SAFE 16 (if c then 1 else 0)).setF
    F.FLT_STAT_CLATCH 0 (s.getF F.FLT_SSRC_LATCHED 16)
  let s2 := if c && !wasC then s1.raisePf 1 else s1
  let s3 := sites.foldl (fun a x => a.siteSafeBit x (s.siteSafe x)) s2
  let e := s.errWant
  if e == s.flag F.FLT_STAT_ERR 0 then s3
  else
    let s4 := s3.setF F.FLT_STAT_ERR 0 (if e then 1 else 0)
    if s.sumac.vio then s4.log (.err e) else s4

/-- R391: a source of a scope has become active: FAULT words to the other member chips (a site source other than REMOTE,
or a chip source for every site); R316: a Sumac fault is a wake request. -/
def State.faultWords (s : State) (k b : Nat) : State :=
  let s1 := s.wakeRequest
  if k = 16 then (sites.filter (fun x => s.present x)).foldl (fun a x => a.faultWord x) s1
  else if b = 8 then s1 else s1.faultWord k

/-- A source was active: its sticky bit (R401). -/
def State.stick (s : State) (k b : Nat) : State :=
  s.setF F.FLT_SSRC_STK k (setBit (s.getF F.FLT_SSRC_STK k) b)

/-- R394, R395: an active source stops the quiet period and any exit under way. -/
def State.stopQuiet (s : State) (k : Nat) : State :=
  let cut := if s.flag F.FLT_SSRC_QUIETING k then Tbl.set (fun _ => 0) s.sumac.cutNs k (s.nowNs + 1) else s.sumac.cutNs
  { s.setF F.FLT_SSRC_QUIETING k 0 with sumac := { s.sumac with
      exiting := clearBit s.sumac.exiting k, lastOn := Tbl.set (fun _ => 0) s.sumac.lastOn k (s.nowNs + 1), cutNs := cut } }

/-- Has a source of a scope become active in this cycle (R402)? -/
def State.justOn (s : State) (k : Nat) : Bool := Tbl.get (fun _ => 0) s.sumac.lastOn k == s.nowNs + 1

/-- R386: a source with a wire fault is active while its wires are equal; whether it is active besides is kept. -/
def State.wireUnder (s : State) (k b : Nat) (v : Bool) : State :=
  { s with sumac := { s.sumac with wires := s.sumac.wires.map (fun w => if w.1 = k ∧ w.2.1 = b then (k, b, v) else w) } }

/-- Does a source have a wire fault? -/
def State.wired (s : State) (k b : Nat) : Bool := s.sumac.wires.any (fun w => w.1 == k && w.2.1 == b)

/-- A held source becomes active. -/
def State.sourceOn (s : State) (k b : Nat) : State :=
  if hasBit (s.srcs k) b then s.wireUnder k b true else
    ((((s.setSrcs k (setBit (s.srcs k) b)).stick k b).stopQuiet k).faultWords k b).sumacShow

/-- R394: the last active source of a scope has become inactive: its quiet period starts. -/
def State.sourceOff (s : State) (k b : Nat) : State :=
  if s.wired k b then s.wireUnder k b false
  else if hasBit (s.srcs k) b then
    let s1 := s.setSrcs k (clearBit (s.srcs k) b)
    (if s1.srcs k == 0 then s1.setF F.FLT_SSRC_QUIETING k 1 else s1).sumacShow
  else s

/-- R394: BOOT clears at RUN: without a quiet period of its own, and without a count. -/
def State.bootOver (s : State) : State :=
  if s.wired 16 5 then s.wireUnder 16 5 false else (s.setSrcs 16 (clearBit (s.srcs 16) 5)).sumacShow

/-- R387: a pulse source is active for one sample and then starts the quiet period of its scope. -/
def State.sourcePulse (s : State) (k b : Nat) : State :=
  let s1 := (s.stick k b).stopQuiet k
  let s2 := (if hasBit (s.srcs k) b then s1 else s1.faultWords k b)
  let s3 := if s2.srcs k == 0 then s2.setF F.FLT_SSRC_QUIETING k 1 else s2
  s3.sumacShow

/-- Is a site source a pulse (R387)? SLICE, FRONT, SRAMUE, DRAMUE, SIGFLT, PEER, OFFEXC and SLIP are. -/
def isPulse (b : Nat) : Bool := [0, 1, 2, 3, 6, 9, 10, 11].contains b

/-- A site source becomes active. -/
def State.siteFault (s : State) (x b : Nat) : State := if isPulse b then s.sourcePulse x b else s.sourceOn x b

/-- Does a site use an island (R17, R281)? An octet island: it owns a channel there; the sequencer island: its quota is not
empty. DESIGN CHOICE for the rest, which no rule settles (log entry 44): every present site uses islands 9 to 12 (acquisition,
memory, host, fault), and a Tiltik port island is used by the sites whose route to some member leaves by that port. -/
def State.usesIsland (s : State) (x isl : Nat) : Bool :=
  s.present x &&
    (if isl < 8 then s.inOct x isl
     else if isl = 8 then s.quota x != 0
     else if 16 ≤ isl then !(s.peersOf x).isEmpty && (s.peersOf x).any (fun c => match s.peer c with
       | some p => p.port + 16 == isl
       | none => false)
     else true)

end Sys2Proof.Machine
end

