-- ==== Sys2Proof/Machine/BeatOps.lean ====
section
/-! DEFINITION. Beats of a site and the vector grid inside them (R62, R118, R235 to R238): which beat an instant lies in,
where a vector may start, where a word ends. -/

namespace Sys2Proof.Machine

/-- The beats of a site as its islands compute them: the current beat, its start, the next beat's start and the end of the
current window, and the length and gap in force from the next beat. -/
structure Sched where
  f0 : Nat
  b0 : Time
  b1 : Time
  we : Time
  blen : Time
  gap : Time
  deriving DecidableEq, Repr

/-- The beats of site `x`. -/
def State.sched (s : State) (x : Nat) : Sched :=
  let t := s.siteOf x
  { f0 := s.getF F.SITE_BNOW_BNOW x, b0 := Time.ofNs t.bStart, b1 := Time.ofNs t.nextB, we := Time.ofNs t.winEnd,
    blen := Time.ofNs (s.getF F.SITE_BLEN_BLEN x), gap := Time.ofNs (s.getF F.SITE_BGAP_GAP x) }

/-- How many beats after the current one an instant lies (0: in it or before it). -/
def Sched.off (c : Sched) (t : Time) : Nat := if t < c.b1 then 0 else (t - c.b1) / c.blen + 1

/-- Start of the beat `j` after the current one. -/
def Sched.start (c : Sched) (j : Nat) : Time := if j = 0 then c.b0 else c.b1 + (j - 1) * c.blen

/-- End of the window of the beat `j` after the current one (R238). -/
def Sched.winEnd (c : Sched) (j : Nat) : Time := if j = 0 then c.we else c.b1 + j * c.blen - c.gap

/-- The number of the beat that holds an instant (R235); an instant before the current beat counts back by BLEN. -/
def Sched.beatOf (c : Sched) (t : Time) : Nat :=
  if t < c.b0 then (c.f0 + 4294967296 - ((c.b0 - t + c.blen - 1) / c.blen) % 4294967296) % 4294967296
  else (c.f0 + c.off t) % 4294967296

/-- The number of the beat that holds an instant, for site `x`. -/
def State.beatAt (s : State) (x : Nat) (t : Time) : Nat := (s.sched x).beatOf t

/-- R238: a vector of length `p` that would start at `t` starts there if it ends in the window, else at the next beat. -/
def Sched.fit (c : Sched) (t p : Time) : Time :=
  let j := c.off t
  if t + p ≤ c.winEnd j then t else c.start (j + 1)

/-- R238: the end of a word whose `n` vectors of length `p` start at `t` (an instant where the first fits). -/
def Sched.wordEnd (c : Sched) (t p : Time) (n : Nat) : Time :=
  let j := c.off t
  let m := (c.winEnd j - t) / p
  if n ≤ m then t + n * p
  else
    let cap := max 1 ((c.blen - c.gap) / p)
    let q := (n - m - 1) / cap
    c.start (j + 1 + q) + (n - m - q * cap) * p

/-- How many of a word's vectors lie in the beat it starts in. -/
def Sched.inBeat (c : Sched) (t p : Time) (n : Nat) : Nat := min n ((c.winEnd (c.off t) - t) / p)

/-- R62, R118: the first start at or after `t` of the vector grid that has a start of index `i` at `a` and period `p`, and
its index; a later beat's grid begins at that beat's start. -/
def Sched.grid (c : Sched) (a : Time) (i : Nat) (p t : Time) : Time × Nat :=
  let fresh : Time → Time × Nat := fun u =>
    let b := c.start (c.off u)
    let k := (u - b + p - 1) / p
    let v := b + k * p
    if c.fit v p = v then (v, k) else (c.start (c.off u + 1), 0)
  if a < c.b0 then fresh (max t c.b0)
  else if c.fit a p ≠ a then fresh (max t (c.start (c.off a + 1)))
  else if t ≤ a then (a, i)
  else if c.off a = c.off t then
    let k := (t - a + p - 1) / p
    let v := a + k * p
    if c.fit v p = v then (v, i + k) else (c.start (c.off t + 1), 0)
  else fresh t

/-- Vectors of period `p` that a hold interval from `a` to `b` contains (R141). -/
def Sched.held (c : Sched) (a b p : Time) : Nat :=
  if c.off a = c.off b then (b - a) / p
  else (c.winEnd (c.off a) - a) / p + (c.off b - c.off a - 1) * ((c.blen - c.gap) / p) + (b - c.start (c.off b)) / p

/-- Is an instant inside a beat gap of a site? -/
def Sched.inGap (c : Sched) (t : Time) : Bool := decide (c.winEnd (c.off t) ≤ t)

/-- R242: the beat whose gap a request registered at `now` takes: the first whose freeze instant Z, 64 ns before the gap,
has not passed. The gap of the beat in progress starts where its window ends, whatever a class X change has made of GAP since
(R236). -/
def State.gapBeat (s : State) (x : Nat) (now : Time) : Nat :=
  let c := s.sched x
  let z := c.b1 + c.blen - c.gap - Time.ofNs 64
  if now + Time.ofNs 64 ≤ c.we then (c.f0 + 1) % 4294967296
  else (c.f0 + 2 + (now - z + c.blen - 1) / c.blen) % 4294967296

/-! ### Channels of a site -/

/-- OCT_PERS in force: 0 timed vectors, 1 waveform, 2 protocol (R29). -/
def State.pers (s : State) (o : Nat) : Nat := s.getL F.OCT_PERS_PERS o

/-- Index of timing-set entry `t` of a channel (R57). -/
def tsIx (ch t : Nat) : Nat := (octOf ch * 64 + t) * 8 + posOf ch

/-- Index of a per-channel register of the octet block. -/
def chIx (ch : Nat) : Nat := octOf ch * 8 + posOf ch

/-- PER in force of a channel for a timing set, in 0.125 ps units. -/
def State.per (s : State) (ch t : Nat) : Nat := s.getL F.OCT_TSPER_PER (tsIx ch t)

/-- The channels a mask names. -/
def maskChans (m : Nat) : List Nat := (List.range 64).filter (fun c => hasBit m c)

/-- Octets that hold a channel of a mask. -/
def maskOcts (m : Nat) : List Nat := (List.range 8).filter (fun o => bits m (o * 8 + 7) (o * 8) != 0)

/-- The part of a mask in one octet, as positions. -/
def maskPos (m o : Nat) : Nat := bits m (o * 8 + 7) (o * 8)

/-- Index of the counters of OCT_VSTAT for a copy (R84): octet and function. -/
def fnOct (o f : Nat) : Nat := o * 17 + f

/-- Apply a change to OCT_VSTAT and its counters of the site that owns the channel, and of PF0 (R84). -/
def State.vstat (s : State) (ch : Nat) (f : Nat → State → State) : State :=
  let s1 := f (fnOct (octOf ch) 16) s
  match s.owner ch with
  | some x => f (fnOct (octOf ch) x) s1
  | none => s1

end Sys2Proof.Machine
end

