-- ==== Sys2Proof/Machine/DispOps.lean ====
section
/-! DEFINITION. The dispatcher's operations (R256 to R272): items and their entries, records and flow order, which engine
may take which item, pre-emption and yield. -/

namespace Sys2Proof.Machine

/-! ### Work items (R256) -/

/-- Word `k` of an item's descriptor. -/
def Item.w (i : Item) (k : Nat) : Nat := i.desc.getD k 0
/-- Entry address. -/
def Item.entry (i : Item) : Nat := bits (i.w 0) 12 0
/-- Priority. -/
def Item.prio (i : Item) : Nat := bits (i.w 0) 15 13
/-- Flow. -/
def Item.flow (i : Item) : Nat := bits (i.w 0) 23 16
/-- ORD. -/
def Item.ord (i : Item) : Bool := hasBit (i.w 0) 24
/-- RPT. -/
def Item.rpt (i : Item) : Bool := hasBit (i.w 0) 25
/-- LEND. -/
def Item.lend (i : Item) : Bool := hasBit (i.w 0) 26
/-- ENGM. -/
def Item.engm (i : Item) : Nat := bits (i.w 1) 15 0

/-! ### Engines (R262) -/

/-- STATE of an engine: 0 IDLE, 1 RUN, 2 HOLD, 3 EXC, 4 RELOAD, 5 RETIRED (R113). -/
def State.engState (s : State) (e : Nat) : Nat := s.getF F.SE_STATE_STATE e

/-- The site in whose quota an engine is. -/
def State.quotaSite (s : State) (e : Nat) : Option Nat := sites.find? (fun x => s.present x && hasBit (s.quota x) e)

/-- Engines in an item's ENGM that are VALID, not retired, and in the site's quota or unreserved with LEND (R257). -/
def State.allows (s : State) (i : Item) (e : Nat) : Bool :=
  hasBit i.engm e && s.flag F.SEQ_UCODE_VER_VALID e && s.engState e != 5 &&
    (match s.quotaSite e with
     | some x => x == i.site
     | none => i.lend)

/-- R353: SE15 goes to the retraining pass that is due, ahead of any waiting item. -/
def State.passDue (s : State) (e : Nat) : Bool :=
  e == 15 && (match s.boot.trainDue with | some d => decide (d ≤ s.nowNs) | none => false)

/-- Does an engine hold or bind no burst, with nothing to restore (R262, R142)? -/
def State.engFree (s : State) (e : Nat) : Bool :=
  let g := s.engOf e
  g.item.isNone && g.saved.isNone && !g.suspending && !g.restoring && !g.training && s.engState e != 4 &&
    s.engState e != 5 && !s.passDue e && s.ready.all (fun i => i.bound != some e)

/-- R262: is an engine eligible for an item, and free? -/
def State.eligible (s : State) (i : Item) (e : Nat) : Bool := s.allows i e && s.engFree e

/-- The engines. -/
def engines : List Nat := List.range 16

/-! ### Records (R267, R268) -/

/-- Word 0 of a record. -/
def recWord (i : Item) (status code eng reason : Nat) (dbl : Bool) : Nat :=
  status + code * 16 + (if dbl then 256 else 0) + (if i.rerun then 512 else 0) + (if i.ord then 1024 else 0) +
    eng * 4096 + i.flow * 65536 + reason * 16777216

/-- A record arises: with status, exception code, engine, REASON, RELN, whether it is final and whether its release frees
the item's entry. -/
def State.arise (s : State) (i : Item) (status code eng reason reln : Nat) (dbl final frees : Bool) : State :=
  let r : Rec := { serial := i.serial, flow := if i.ord && status != 6 then some i.flow else none, final := final,
                   words := [recWord i status code eng reason dbl, i.w 2, reln % 65536, Time.ns32 s.now], holds := frees }
  s.modSite i.site (fun t => { t with recs := t.recs ++ [r] })

/-- Remove one (flow, serial) pair from a flow order. -/
def dropOrder (l : List (Nat × Nat)) (f n : Nat) : List (Nat × Nat) := l.filter (fun p => !(p.1 == f && p.2 == n))

/-- The item with serial `n` may release next in flow `f` (R268). -/
def headOf (l : List (Nat × Nat)) (f n : Nat) : Bool :=
  match l.find? (fun p => p.1 == f) with
  | some p => p.2 == n
  | none => true

/-- Set the number of entries a site holds, with BP (R271). -/
def State.setUsed (s : State) (x n : Nat) : State :=
  (s.setF F.DSP_SQ_QUSED x n).setF F.DSP_SSTAT_BP x (if s.getF F.DSP_SQ_QENT x ≤ n then 1 else 0)

/-- Does a site have a free entry (R260)? -/
def State.entryFree (s : State) (x : Nat) : Bool := decide (s.getF F.DSP_SQ_QUSED x < s.getF F.DSP_SQ_QENT x)

/-- Does a microcode post of the site wait (R261)? -/
def State.postWaits (s : State) (x : Nat) : Bool :=
  engines.any (fun e => match (s.engOf e).post with | some p => p.site == x | none => false)

/-- One more or one fewer unbound ready item of a priority. -/
def State.depth (s : State) (x p : Nat) (up : Bool) : State :=
  let i := x * 8 + p
  s.setF F.DSP_QDEPTH_DEPTH i (if up then s.getF F.DSP_QDEPTH_DEPTH i + 1 else s.getF F.DSP_QDEPTH_DEPTH i - 1)

/-- R270: STOPPED reads 1 until nothing of the site waits, runs or is suspended. -/
def State.stopCheck (s : State) (x : Nat) : State :=
  if s.flag F.DSP_SSTAT_STOPPED x && s.ready.all (fun i => i.site != x) && !s.postWaits x &&
      engines.all (fun e => (match (s.engOf e).item with | some i => i.site != x | none => true) &&
        (match (s.engOf e).saved with | some v => v.item.site != x | none => true)) then
    s.setF F.DSP_SSTAT_STOPPED x 0
  else s

/-! ### Pre-emption and yield (R143, R265, R266) -/

/-- Is there a free engine for an item? -/
def State.someFree (s : State) (i : Item) : Bool := engines.any (fun e => s.eligible i e)

/-- May the burst on engine `e` be pre-empted for an item of its site: the item may run there (one with LEND = 0 on the quota
only, R264), the burst runs below priority 7, the context slot is empty and no PRE is outstanding there. -/
def State.preTarget (s : State) (i : Item) (e : Nat) : Bool :=
  let g := s.engOf e
  s.allows i e && g.started && g.saved.isNone && !g.suspending && !s.flag F.SE_EXCB_PPRE e &&
    s.ready.all (fun j => j.bound != some e) &&
    (match g.item with
     | some b => b.site == i.site && decide (b.prio < 7)
     | none => false)

/-- R265: of two targets the one with the lower burst priority, then the later start, then the higher number. -/
def State.betterTarget (s : State) (a b : Nat) : Bool :=
  let pa := match (s.engOf a).item with | some i => i.prio | none => 0
  let pb := match (s.engOf b).item with | some i => i.prio | none => 0
  let ta := (s.engOf a).startNs
  let tb := (s.engOf b).startNs
  if pa ≠ pb then decide (pa < pb) else if ta ≠ tb then decide (tb < ta) else decide (b < a)

/-- The best of a list by a comparison; `none` for an empty list. -/
def best {α : Type} (better : α → α → Bool) (l : List α) : Option α :=
  l.foldl (fun (m : Option α) y =>
    match m with
    | none => some y
    | some x => if better y x then some y else some x) none

/-- Bind the waiting item with serial `n` to an engine. -/
def bindItem (l : List Item) (n e : Nat) : List Item :=
  l.map (fun j => if j.serial = n then { j with bound := some e } else j)

/-- The bin of the wait histogram (R271). -/
def waitBin (ns : Nat) : Nat := if ns < 128 then 0 else min 15 (Nat.log2 ns - 6)

/-- R434: a binding in the cycle of a request for IDLE counts, and the request is refused. -/
def State.idleRefused (s : State) : State :=
  if s.boot.power = some 1 then
    (({ s with boot := { s.boot with power := none } } : State).setF F.GLB_PWRSTAT_BUSY 0 0).setF F.GLB_PWRSTAT_PWR_REJ 0 1
  else s

/-- A waiting item is bound: it leaves its queue depth, and its wait counts (R271). -/
def State.bindTo (s : State) (i : Item) (e : Nat) : State :=
  State.idleRefused <| (({ s with ready := bindItem s.ready i.serial e } : State).depth i.site i.prio false).satF F.DSP_WHIST_CNT
    (i.site * 16 + waitBin (s.nowNs - i.arrNs)) 1

/-- R265: a waiting priority-7 item with no free engine raises PRE on its target and is bound there. -/
def State.preempt (s : State) : State :=
  s.ready.foldl (fun a i =>
    if i.prio = 7 && i.bound.isNone && !a.someFree i && a.flag F.SITE_BSTAT_RUN i.site then
      match best a.betterTarget (engines.filter (fun e => a.preTarget i e)) with
      | some e => (a.bindTo i e).setF F.SE_EXCB_PPRE e 1
      | none => a
    else a) s

/-- R266: an item that a yield point of the burst on `e` would let in; one with LEND = 0 on the quota only (R264). -/
def State.yieldFor (s : State) (e : Nat) (i : Item) : Bool :=
  match (s.engOf e).item with
  | some b => (s.engOf e).saved.isNone && i.site == b.site && i.bound.isNone && decide (b.prio < i.prio) &&
      s.allows i e && !s.someFree i
  | none => false

/-- R266: YLDREQ of the burst on engine `e`. -/
def State.yldreq (s : State) (e : Nat) : Bool := s.ready.any (fun i => s.yieldFor e i)

/-- Higher priority; the ready store lists items in order of arrival, so that of equal ones the first listed is the
earliest. -/
def earlier (a b : Item) : Bool := decide (b.prio < a.prio)

/-- R266: a yield point suspends the burst on engine `e`: the highest item that it lets in is bound there, unless one is already. -/
def State.yieldBind (s : State) (e : Nat) : State :=
  if s.ready.any (fun j => j.bound == some e) then s
  else match best earlier (s.ready.filter (fun j => s.yieldFor e j)) with
    | some j => s.bindTo j e
    | none => s

/-- R131: the yield of the burst on engine `e` is undone: the item that it let in waits unbound again; one that PRE has bound stays
(R265). -/
def State.yieldUndo (s : State) (e : Nat) : State :=
  let l := s.ready.filter (fun j => j.bound == some e)
  let s1 : State := { s with ready := s.ready.map (fun j => if j.bound = some e then { j with bound := none } else j) }
  l.foldl (fun a j => a.depth j.site j.prio true) s1

/-- Of two items of one priority, did the first arrive before the second (R258, R263, R269): an item that runs again stands ahead of
every other, the latest first; else by cycle, by source number, and then by site? -/
def arrivedFirst (a b : Item) : Bool :=
  if a.rerun != b.rerun then a.rerun
  else if a.rerun then decide (b.serial < a.serial)
  else if a.arrNs ≠ b.arrNs then decide (a.arrNs < b.arrNs)
  else if a.src ≠ b.src then decide (a.src < b.src) else decide (a.site < b.site)

/-- R263, R264: the order for an unreserved engine: priority, then arrival, then the lower site. -/
def earlierLent (a b : Item) : Bool := decide (b.prio < a.prio) || (a.prio == b.prio && arrivedFirst a b)

/-! ### Arrival (R257 to R261) -/

/-- R257: why an item is rejected; 0 when it is not. -/
def State.rejectReason (s : State) (i : Item) : Nat :=
  if bits (i.w 0) 31 27 ≠ 0 || bits (i.w 1) 31 16 ≠ 0 || i.w 3 ≠ 0 then 1
  else if i.ord && !(decide (s.flowLo i.site ≤ i.flow) && decide (i.flow < s.flowLo i.site + s.flowN i.site)) then 2
  else if engines.all (fun e => !s.allows i e) then 3
  else 0

/-- The next arrival number is used. -/
def State.numbered (s : State) : State := { s with serial := s.serial + 1 }

/-- Insert before the first element that `p` picks, or at the end. -/
def insertBefore {α : Type} (p : α → Bool) (a : α) : List α → List α
  | [] => [a]
  | b :: l => if p b then a :: b :: l else b :: insertBefore p a l

/-- R258: the items of a site that arrived in this cycle (of 1 ns) from a source of a higher number: they come after one from
source `src`. -/
def State.laterSrc (s : State) (x src : Nat) : List Nat :=
  ((s.siteOf x).arrivals.filter (fun p => p.1 == s.nowNs && decide (src < p.2.2))).map (fun p => p.2.1)

/-- An item enters: it takes an entry, its place in arrival order and its place in its flow (R258); with STOP = 1 it completes
CANCELLED (R270). The caller has checked R257 and that an entry is free. -/
def State.enter (s : State) (i : Item) : State :=
  let behind := s.laterSrc i.site i.src
  let s1 := (s.numbered.setUsed i.site (s.getF F.DSP_SQ_QUSED i.site + 1)).modSite i.site (fun t => { t with
    order := if i.ord then insertBefore (fun p => behind.contains p.2) (i.flow, i.serial) t.order else t.order,
    arrivals := t.arrivals.filter (fun p => p.1 == s.nowNs) ++ [(s.nowNs, i.serial, i.src)] })
  if s.flag F.DSP_SCTL_STOP i.site then s1.arise i 4 0 0 0 0 false true true
  else ({ s1 with ready := insertBefore (fun j => behind.contains j.serial) i s1.ready } : State).depth i.site i.prio true |>.preempt

/-- R257: a rejected item gets its REJECTED record at once. -/
def State.reject (s : State) (i : Item) (reason : Nat) : State :=
  ((s.numbered.setF F.DSP_SSTAT_REJ i.site 1).incF F.DSP_SREJCNT_CNT i.site).arise i 6 0 0 reason 0 false true false

/-- An item made from a descriptor that arrives now. -/
def State.newItem (s : State) (x src : Nat) (desc : List Nat) : Item :=
  { serial := s.serial, siteNo := Fin.ofNat 16 x, src := src, desc := desc, arrNs := s.nowNs }

/-- An item is checked, and enters or is rejected. -/
def State.takeItem (s : State) (i : Item) : State :=
  match s.rejectReason i with
  | 0 => s.enter i
  | r + 1 => s.reject i (r + 1)

/-- R307: the credit of a fabric item goes back to the chip that sent it. -/
def State.creditBack (s : State) (x chip : Nat) : State := s.sendSite x chip .credit

/-- R418: the first autorun item of a site that waits for an entry enters, as an item of its VF. -/
def State.autoNext (s : State) (x : Nat) : State :=
  match takeFirst (fun p => p.1 == x) s.boot.auto with
  | none => s
  | some (p, rest) => ({ s with boot := { s.boot with auto := rest } } : State).takeItem (s.newItem x 2 p.2)

/-- R261: up to `n` items that wait enter while an entry is free and no microcode post waits: the fabric's first, whose credits
return, then autorun items. -/
def State.serve (x : Nat) : Nat → State → State
  | 0, s => s
  | n + 1, s =>
    if s.entryFree x && !s.postWaits x then
      State.serve x n (match (s.siteOf x).fabItems with
        | [] => s.autoNext x
        | (chip, d) :: rest =>
          ((s.modSite x (fun t => { t with fabItems := rest })).takeItem (s.newItem x 1 d)).creditBack x chip)
    else s

/-- R261: the items of a site that wait for an entry enter as far as entries are free. -/
def State.fabricNext (s : State) (x : Nat) : State := State.serve x ((s.siteOf x).fabItems.length + s.boot.auto.length) s

/-! ### Release (R268) -/

/-- May a record be released now: its flow lets it, and the completion ring of the VF has room for it? -/
def State.ringRoom (s : State) (x : Nat) : Bool :=
  let i := x * 4 + 1
  decide (x < s.numVfs) && s.flag F.HST_RCFG_EN i &&
    decide ((s.getF F.HST_RPROD_PROD i + 4294967296 - s.getF F.HST_RCONS_CONS i) % 4294967296 + (s.siteOf x).released.length
      < 2 ^ s.getF F.HST_RCFG_LOG2N i)

/-- R268: the first record in order of arising that its flow lets go. -/
def SiteSt.nextRec (t : SiteSt) : Option (Rec × List Rec) :=
  takeFirst (fun r => match r.flow with | none => true | some f => headOf t.order f r.serial) t.recs

/-- A record is released to the completion queue; a final one leaves its flow and frees its entry (R266, R268). -/
def State.release (s : State) (x : Nat) : State :=
  if s.ringRoom x then
    match (s.siteOf x).nextRec with
    | none => s
    | some (r, rest) =>
      let s1 := s.modSite x (fun t => { t with
        recs := rest, released := t.released ++ [r.words],
        order := match r.flow with
          | some f => if r.final then dropOrder t.order f r.serial else t.order
          | none => t.order })
      if r.final && r.holds then (s1.setUsed x (s.getF F.DSP_SQ_QUSED x - 1)).fabricNext x else s1
  else s

/-! ### The end of a burst -/

/-- Fewer bursts of the site run or are suspended. -/
def State.countDown (s : State) (f : Fld) (x : Nat) : State := s.setF f x (s.getF f x - 1)

/-- QMASK of a site, with the engines' RSV and QSITE (R271). -/
def State.setQuota (s : State) (x m : Nat) : State :=
  (engines.filter (fun e => hasBit m e != hasBit (s.quota x) e)).foldl (fun a e =>
    if hasBit m e then a.setFs e [(F.DSP_EOWN_RSV, 1), (F.DSP_EOWN_QSITE, x)]
    else a.setFs e [(F.DSP_EOWN_RSV, 0), (F.DSP_EOWN_QSITE, 0)]) (s.setF F.DSP_SENG_QMASK x m)

/-- R264: an engine that holds and binds nothing joins the quota it was chosen for. -/
def State.joinNow (s : State) (e : Nat) : State :=
  let g := s.engOf e
  match g.joinTo with
  | some p => if g.item.isSome || g.saved.isSome || s.engState e == 5 || s.ready.any (fun i => i.bound == some e) then s
      else (s.setQuota p.1 (setBit (s.quota p.1) e)).modEng e (fun h => { h with joinTo := none })
  | none => s

/-- Engine `e` no longer holds a burst: its registers show IDLE (or RETIRED stays), the fetches and pin-time actions of
words already issued run on, a saved burst is restored next (R142), and an engine lent until now joins a quota (R264). Compares
still under way count for nothing more (R85, R94), but for those that a suspended burst has taken along. -/
def State.dropBurst (s : State) (e : Nat) : State :=
  let g := s.engOf e
  let g1 : EngSt := { wid := g.wid, fetches := g.fetches, acts := g.acts,
                      lastEnd := g.lastEnd, lastMask := g.lastMask, saved := g.saved, restoring := g.saved.isSome,
                      reload := g.reload, joinTo := g.joinTo }
  let s1 := s.setEng e g1
  let s2 := s1.setFs e [(F.SE_STATE_SITEV, 0), (F.DSP_EOWN_SITEV, 0), (F.DSP_EOWN_LENT, 0), (F.SE_EXCB_PSAFE, 0),
    (F.SE_EXCB_PFAB, 0), (F.SE_EXCB_PPRE, 0)]
  (if s.engState e = 5 then s2 else s2.setF F.SE_STATE_STATE e 0).joinNow e

/-- The final record of an item that ran on engine `e`, and the engine let go. -/
def State.endBurst (s : State) (e status code : Nat) (dbl : Bool) : State :=
  let g := s.engOf e
  match g.item with
  | none => s
  | some i =>
    let s1 := s.arise i status code e 0 g.reln dbl true true
    let s2 := if g.started then s1.countDown F.DSP_SSTAT_NRUN i.site else s1
    ((s2.dropBurst e).stopCheck i.site).preempt

end Sys2Proof.Machine
end

