-- ==== Sys2Proof/Machine/MemOps.lean ====
section
/-! DEFINITION. DRAM as sites see it: where a block lies, regions, requests and their windows (R326, R338 to R350). -/

namespace Sys2Proof.Machine

/-! ### Address mapping (R342, R344) -/

/-- The channels in service, from DC0. -/
def State.dcInService (s : State) : List Nat :=
  (List.range 16).filter (fun c => s.flag F.MEM_CHTR_INSVC c && !hasBit (s.getF F.MEM_CHRET_RET 0) c)

/-- Parity of a number below 2^30. -/
def parity30 (n : Nat) : Nat := popcount 30 n % 2

/-- Where a block lies (R338, R339): channel, bank (bits [3:2] the bank group), row of 131,072, and position of the 32 of a 2 KiB row. User
blocks lie at positions 0 to 29; the check bytes and the device bytes of the row are the 128 bytes of positions 30 and 31. -/
structure DramPos where
  dc : Nat
  bank : Nat
  row : Nat
  pos : Nat
  deriving DecidableEq, Repr

/-- A four-bit number whose bit `i` is the parity of `u` under mask `i` (R342). -/
def State.maskBits (s : State) (u : Nat) (f : Fld) : Nat :=
  (List.range 4).foldl (fun n i => n + parity30 (u &&& s.getF f i) * 2 ^ i) 0

/-- The block of a user byte address: by the masks with 16 channels, by modulo mapping below that (R342, R344). -/
def State.dramPos (s : State) (a : Nat) : DramPos :=
  let u := a / 64
  if s.flag F.MEM_STAT_MODMAP 0 then
    let l := s.dcInService
    let q := u / l.length
    ⟨l.getD (u % l.length) 0, q % 16, q / 16 / 30, q / 16 % 30⟩
  else ⟨s.maskBits u F.MEM_CHMASK_MASK, s.maskBits u F.MEM_BKMASK_MASK, a / 16384 / 30, a / 16384 % 30⟩

/-- The DRAM channel of a user byte address. -/
def State.dcOf (s : State) (a : Nat) : Nat := (s.dramPos a).dc

/-- The segment of 16,384 rows that a user address lies in (R351). -/
def State.segmentOf (s : State) (a : Nat) : Nat := (s.dramPos a).row / 16384

/-- End of the user area in force (R339). -/
def State.userEnd (s : State) : Nat := s.getF F.MEM_STAT_NCH 0 * 4026531840

/-! ### Regions (R321, R350, R355) -/

/-- First address of region `r` of site `x`. -/
def State.regLo (s : State) (x r : Nat) : Nat := s.regBase x r * 1048576
/-- End of region `r` of site `x`. -/
def State.regHi (s : State) (x r : Nat) : Nat := (s.regBase x r + s.regSize x r) * 1048576

/-- Is region `r` of site `x` there to be used: assigned, not lost (R354, R355; LOST itself is a bit that the VF may clear), and inside the
user area? -/
def State.regUsable (s : State) (x r : Nat) : Bool :=
  s.regValid x r && !hasBit (s.siteOf x).gone r && decide (s.regHi x r ≤ s.userEnd)

/-- The usable region of a site that holds an address. -/
def State.regionAt (s : State) (x a : Nat) : Option Nat :=
  (List.range 16).find? (fun r => s.regUsable x r && decide (s.regLo x r ≤ a) && decide (a < s.regHi x r))

/-- Do the site's regions cover [a, b)? At most `n` regions one after another. -/
def State.regionsCover (s : State) (x b : Nat) : Nat → Nat → Bool
  | 0, a => decide (b ≤ a)
  | n + 1, a =>
    if b ≤ a then true
    else match s.regionAt x a with
      | some r => s.regionsCover x b n (s.regHi x r)
      | none => false

/-- R350: the byte behind a site address, with the pairing `front` of its double regions. -/
def State.physOf (s : State) (x front a : Nat) : Nat :=
  match (List.range 16).find? (fun r => s.regValid x r && decide (s.regLo x r ≤ a) && decide (a < s.regHi x r)) with
  | some r =>
    let h := s.regSize x r * 524288
    if s.regDbl x r && hasBit front r then (if a < s.regLo x r + h then a + h else a - h) else a
  | none => a

/-- A DRAM byte. -/
def State.dramByte (s : State) (a : Nat) : Byte := Tbl.get (fun _ => 0#8) s.dram a

/-- Write a DRAM byte. -/
def State.setDram (s : State) (a : Nat) (v : Byte) : State := { s with dram := Tbl.set (fun _ => 0#8) s.dram a v }

/-- R354: are the contents of the site's regions gone (RLOST active)? -/
def State.dramGone (s : State) (x : Nat) : Bool := hasBit (s.srcs x) 4

/-! ### The control-store mirror (R110, R341) -/

/-- R341: the channel that holds the mirror of a store word, with a second copy on the channel 8 away (log entry 54). -/
def mirrorDc (e a : Nat) : Nat := Config.mirrorDc (e * 8192 + a % 8192) % 16

/-- R354: a channel that fails takes its copies of the mirror with it. -/
def State.mirrorLose (s : State) (d : Nat) : State := { s with boot := { s.boot with mirGone := d :: s.boot.mirGone } }

/-- R141, R354: are both copies of the mirror of a store word on channels that have failed? -/
def State.mirrorGone (s : State) (e a : Nat) : Bool :=
  s.boot.mirGone.contains (mirrorDc e a) && s.boot.mirGone.contains (mirrorDc e a ^^^ 8)

/-- R340, R341: a mirror read that cannot be corrected: each copy still there counts, and what UEADDR shows of a block outside the user area
is a free value. -/
def State.mirrorUe (s : State) (e a : Nat) : State :=
  let n := ([mirrorDc e a, mirrorDc e a ^^^ 8].filter (fun c => !s.boot.mirGone.contains c)).length
  if n = 0 then s
  else (s.drawn.addF F.MEM_UECNT_CNT 0 n).setFs 0 [(F.MEM_UEADDR_LO_A, s.anyVal), (F.MEM_UEADDR_HI_A, s.anyVal / 4294967296),
    (F.MEM_UEADDR_HI_DC, mirrorDc e a)]

/-! ### Stream slots (R78, R328) -/

/-- The registers of a stream slot. -/
def vsFlds : List Fld :=
  [F.MEM_VSBASE_LO_BASE, F.MEM_VSBASE_HI_BASE, F.MEM_VSLEN_LEN, F.MEM_VSCFG_OCTM, F.MEM_VSCFG_FDEPTH, F.MEM_VSFBASE_FBASE,
    F.MEM_VSRATE_MINPER, F.MEM_VSCHM_LO_CHM, F.MEM_VSCHM_HI_CHM, F.MEM_VSSTAT_STATE, F.MEM_VSSTAT_ADM_REJ, F.MEM_VSSTAT_UFL,
    F.MEM_VSSTAT_RATE_EXC, F.MEM_VSLTOL_LTOL, F.MEM_VSUFCNT_UFCNT]

/-- R328: a free slot that another site used last comes to site `x` with its registers at their reset values, so that it shows nothing of the
other (DESIGN CHOICE, log entry 31). -/
def State.vsFor (s : State) (k x : Nat) : State :=
  if (s.streamOf k).site = none ∧ (s.streamOf k).user ≠ some x then
    (s.setFs k (vsFlds.map (fun f => (f, f.reset k)))).setStream k { user := some x }
  else s

/-- May site `x` read a stream slot's registers: does it hold the slot, or, of a free one, did it use it last, or no site (R328)? -/
def State.slotShown (s : State) (k x : Nat) : Bool :=
  match (s.streamOf k).site, (s.streamOf k).user with
  | some y, _ => y == x
  | none, some y => y == x
  | none, none => true

/-! ### Requests (R345, R348) -/

/-- A channel wakes (R348). -/
def State.dcWake (s : State) (dc : Nat) : State :=
  let l := s.getF F.MEM_PDSTAT_LVL 0
  s.setF F.MEM_PDSTAT_LVL 0 (l - bits l (2 * dc + 1) (2 * dc) * 4 ^ dc)

/-- A request enters the controller and wakes its channel (R348). -/
def State.enqueue (s : State) (r : MemReq) : State :=
  ({ s with reqs := s.reqs ++ [{ r with num := s.serial, ns := s.nowNs }], serial := s.serial + 1 } : State).dcWake r.dc

/-- A request of the device itself to channel `dc`, beside the user area (R353, R354). -/
def State.requestAt (s : State) (dc : Nat) : State := s.enqueue { cls := 3, site := 16, dc := dc, addr := 0, phys := 0 }

/-- A request of a site for the block at one of its addresses: the half of a double region behind it is that of its arrival, or for a
stream that of its START (R342, R350). -/
def State.request (s : State) (cls x a : Nat) (slot : Option (Nat × Nat × Nat)) (page : Option (Nat × Nat)) : State :=
  let p := s.physOf x (match slot with | some q => (s.streamOf q.1).base | none => s.getF F.MEM_DBLFRONT_FRONT x) a
  s.enqueue { cls := cls, site := x, dc := s.dcOf p, addr := a, phys := p, slot := slot, page := page }

/-- R21: traffic of `n` blocks from address `a` of a site, in a class other than RT-STREAM. -/
def State.traffic (s : State) (cls x a n : Nat) : State :=
  (List.range n).foldl (fun t i => t.request cls x (a / 64 * 64 + i * 64) none none) s

/-- R21: memory of a site is zeroed as MAINT traffic. One request for each channel stands for it where it lies on all of them (R342, R344;
log entry 54). -/
def State.zeroTraffic (s : State) (x : Nat) (l : List Nat) : State := l.foldl (fun a r => a.traffic 3 x (s.regLo x r) 16) s

/-- R326: bytes that each site's DRAM traffic of a class may take in a 1,024 ns window, times 4,056. MAINT has what no site has
reserved. -/
def State.memShare (s : State) (cls x : Nat) : Nat :=
  match cls with
  | 0 => s.rsvRt x * (64 * 4056)
  | 1 => s.cwin x * 8192
  | 2 => s.rsvHost x * (64 * 4056)
  | _ => s.getF F.MEM_STAT_NCH 0 * 70880969 -
      (((List.range 16).filter (fun y => s.present y)).map (fun y => (s.rsvRt y + s.rsvHost y) * (64 * 4056) + s.cwin y * 8192)).sum

/-- The current 1,024 ns window of the memory island (R203). -/
def State.memWindow (s : State) : Nat := Time.toNs (s.localNow 10) / 1024

/-- The record that counts a request: MAINT is one account for the chip. -/
def MemReq.account (r : MemReq) : Nat := if r.cls = 3 then 16 else r.site

/-- Blocks of a class served on an account in this window. -/
def State.memServed (s : State) (cls k : Nat) : Nat :=
  if (s.siteOf k).memWin = s.memWindow then Tbl.get (fun _ => 0) (s.siteOf k).memUsed cls else 0

/-- R326: is a request admitted in the current window? Those of a retired channel complete at once (R354). -/
def State.admits (s : State) (r : MemReq) : Bool :=
  hasBit (s.getF F.MEM_CHRET_RET 0) r.dc || decide ((s.memServed r.cls r.account + 1) * (64 * 4056) ≤ s.memShare r.cls r.site)

/-- R367, R429: is the DRAM in self-refresh: while the core PLL is in bypass, and outside ACTIVE? Its requests wait, and no retraining pass
begins (DEDUCED, log entry 31). -/
def State.selfRefresh (s : State) : Bool := s.flag F.CLK_CORESTAT_BYP 0 || s.getF F.GLB_PWRSTAT_STATE 0 != 0

/-- Does traffic of a class that the site has asked for still wait? What comes next of the class then waits behind it (R326). -/
def State.waiting (s : State) (cls x : Nat) : Bool := s.reqs.any (fun r => r.cls == cls && r.site == x)

/-- R347: the row of a bank that an access leaves open, as its class's hint says, with the ns of the access. -/
def State.rowTouch (s : State) (cls : Nat) (p : DramPos) : State :=
  let v := if hasBit (s.getF F.MEM_PGHINT_OPEN 0) cls then some (p.row, s.nowNs) else none
  { s with openRow := Tbl.set (fun _ => none) s.openRow (p.dc * 16 + p.bank) v }

/-- R347: the row that is open in a bank: the last one accessed under OPEN, until 1 µs passes without an access. When a refresh closes it
the manual does not say (log entry 54). -/
def State.openRowOf (s : State) (dc bank : Nat) : Option Nat :=
  match Tbl.get (fun _ => none) s.openRow (dc * 16 + bank) with
  | some (r, ns) => if s.nowNs ≤ ns + 1000 then some r else none
  | none => none

/-- A request is served in this window. -/
def State.memServe (s : State) (r : MemReq) : State :=
  let n := s.memServed r.cls r.account
  let w := s.memWindow
  (if 16 ≤ r.site then s else s.rowTouch r.cls (s.dramPos r.phys)).modSite r.account (fun t => { t with
    memWin := w, memUsed := Tbl.set (fun _ => 0) (if t.memWin = w then t.memUsed else []) r.cls (n + 1) })

/-- Has a request waited longer than its class allows? -/
def State.promoted (s : State) (r : MemReq) : Bool :=
  let lim := s.getF F.MEM_AGE_LIM r.cls
  lim != 0 && decide (r.ns + lim < s.nowNs)

/-- R345: does request `a` go before `b`? -/
def State.reqFirst (s : State) (a b : MemReq) : Bool :=
  let pa := s.promoted a
  let pb := s.promoted b
  if pa != pb then pa
  else if pa then decide (a.num < b.num)
  else if a.cls ≠ b.cls then decide (a.cls < b.cls)
  else decide (a.num < b.num)

end Sys2Proof.Machine
end

