-- ==== Sys2Proof/Machine/SeqOps.lean ====
section
/-! DEFINITION. The microword, the condition groups, and what a word does at issue and at completion (R85 to R108, R117 to
R144). -/

namespace Sys2Proof.Machine

/-- The site whose burst an engine holds (16 when none). -/
def EngSt.site (g : EngSt) : Nat := match g.item with | some i => i.site | none => 16

/-! ### The microword (R86) -/

/-- NXT. -/
def mNXT (w : Nat) : Nat := bits w 12 0
/-- BRK: 0 SEQ, 1 JMP, 2 MWAY, 3 CALL, 4 RET, 5 LEND, 6 WAIT, 7 HALT (R89). -/
def mBRK (w : Nat) : Nat := bits w 15 13
/-- CGRP. -/
def mCGRP (w : Nat) : Nat := bits w 19 16
/-- CMASK. -/
def mCMASK (w : Nat) : Nat := bits w 23 20
/-- CYC. -/
def mCYC (w : Nat) : Nat := bits w 31 24
/-- VOP. -/
def mVOP (w : Nat) : Nat := bits w 35 32
/-- VSRC. -/
def mVSRC (w : Nat) : Nat := bits w 39 36
/-- LOOP code of counter `k`. -/
def mLOOP (w k : Nat) : Nat := bits w (41 + 2 * k) (40 + 2 * k)
/-- TSET. -/
def mTSET (w : Nat) : Nat := bits w 53 48
/-- TSV. -/
def mTSV (w : Nat) : Bool := hasBit w 54
/-- MODE. -/
def mMODE (w : Nat) : Nat := bits w 57 55
/-- CMPE. -/
def mCMPE (w : Nat) : Bool := hasBit w 58
/-- MATCH: 0 NONE, 1 ARML, 2 ARMS, 3 HOLD (R106). -/
def mMATCH (w : Nat) : Nat := bits w 61 60
/-- CAPT: 0 none, 1 START, 2 STOP, 3 WORD (R107). -/
def mCAPT (w : Nat) : Nat := bits w 63 62
/-- TRIGO. -/
def mTRIGO (w : Nat) : Nat := bits w 67 64
/-- FSIG. -/
def mFSIG (w : Nat) : Nat := bits w 71 68
/-- EVT. -/
def mEVT (w : Nat) : Nat := bits w 75 72
/-- XFER. -/
def mXFER (w : Nat) : Nat := bits w 79 76
/-- IMM16. -/
def mIMM16 (w : Nat) : Nat := bits w 95 80
/-- VIMM. -/
def mVIMM (w : Nat) : Nat := bits w 117 96
/-- VDST. -/
def mVDST (w : Nat) : Nat := bits w 121 118
/-- VAOP. -/
def mVAOP (w : Nat) : Nat := bits w 123 122
/-- CHG. -/
def mCHG (w : Nat) : Nat := bits w 127 124
/-- IMM32 = IMMH:IMM16 (R104). -/
def mIMM32 (w : Nat) : Nat := bits w 143 128 * 65536 + mIMM16 w
/-- LSRC. -/
def mLSRC (w : Nat) : Bool := hasBit w 144
/-- WOP. -/
def mWOP (w : Nat) : Nat := bits w 147 145
/-- POP. -/
def mPOP (w : Nat) : Nat := bits w 150 148
/-- OBJ. -/
def mOBJ (w : Nat) : Nat := bits w 162 151
/-- CAPQ. -/
def mCAPQ (w : Nat) : Nat := bits w 166 163

/-- Does the word branch with a delay slot (R121)? -/
def mBranch (w : Nat) : Bool := decide (1 ≤ mBRK w) && decide (mBRK w ≤ 5)

/-- Does the word repeat (R127)? -/
def mRepeats (w : Nat) : Bool := mBRK w == 6 || mMATCH w == 3

/-- R91: the counter LEND tests: the lowest with decrement-and-test. -/
def mLendCounter (w : Nat) : Option Nat := [0, 1, 2, 3].find? (fun k => mLOOP w k == 3)

/-- The HALT word of R112 as a store holds it: 192 bits and 8 parity bits. -/
def haltWord : Nat := 57344 + 6277101735386680763835789423207666416102355444464034512896

/-- R109: the eight parity bits of a word, even parity over each 24 bits. -/
def parityOf (w : Nat) : Nat :=
  (List.range 8).foldl (fun a k => a + popcount 24 (bits w (24 * k + 23) (24 * k)) % 2 * 2 ^ k) 0

/-- A word with the parity bits the device computes when it writes it (R109). -/
def withParity (w : Nat) : Nat := w % 2 ^ 192 + parityOf w * 2 ^ 192

/-- Does the stored parity disagree (R109)? -/
def parityBad (v : Nat) : Bool := v / 2 ^ 192 % 256 != parityOf v

/-- Store word of engine `e` at address `a`. -/
def State.store (s : State) (e a : Nat) : Nat := Tbl.get (fun _ => haltWord) s.cstore (e * 8192 + a % 8192)

/-- Write a store word. -/
def State.setStore (s : State) (e a v : Nat) : State :=
  { s with cstore := Tbl.set (fun _ => haltWord) s.cstore (e * 8192 + a % 8192) v }

/-- The mirror of a store word (R110). -/
def State.mirrorWord (s : State) (e a : Nat) : Nat := Tbl.get (fun _ => haltWord) s.mirror (e * 8192 + a % 8192)

/-- R87: a reserved field, encoding or combination: `ds` the word issues as a delay slot, `sh` as a shadow word, `armed`
ARMED at the issue instant (R106). -/
def reservedWord (w : Nat) (ds sh armed : Bool) : Bool :=
  hasBit w 59 || bits w 191 167 != 0 || decide (8 ≤ mVOP w) || decide (4 ≤ mMODE w) || decide (6 ≤ mXFER w) ||
  decide (4 ≤ mWOP w) || decide (3 ≤ mPOP w) ||
  ((mBRK w == 2 || mBRK w == 6) && decide (12 ≤ mCGRP w) && decide (mCGRP w ≤ 14)) ||
  (mBRK w == 5 && (mLendCounter w).isNone) ||
  (mMATCH w == 3 && !armed) ||
  (ds && (mBRK w != 0 || mMATCH w == 3)) ||
  (mMODE w != 0 && mRepeats w) ||
  (sh && (mRepeats w || mMODE w != 0))

/-! ### Engine state as registers (R85, R111) -/

/-- VA register `k` in the format of R100. -/
def State.va (s : State) (e k : Nat) : Nat :=
  s.getF F.SE_VA_ROW (e * 16 + k) + s.getF F.SE_VA_STR (e * 16 + k) * 4194304 + s.getF F.SE_VA_SLOT (e * 16 + k) * 8388608

/-- Load a VA register from 25 bits. -/
def State.setVa (s : State) (e k v : Nat) : State :=
  s.setFs (e * 16 + k) [(F.SE_VA_ROW, v), (F.SE_VA_STR, v / 4194304), (F.SE_VA_SLOT, v / 8388608)]

/-- Loop counter `k`. -/
def State.lc (s : State) (e k : Nat) : Nat := s.getF F.SE_LC_LC (e * 4 + k)

/-- Parameter word `k`. -/
def State.par (s : State) (e k : Nat) : Nat := s.getF F.SE_PAR_PAR (e * 8 + k)

/-- Stack depth. -/
def State.sp (s : State) (e : Nat) : Nat := s.getF F.SE_SP_SP e

/-- What a completion changes, as it stands (R134). -/
def State.snap (s : State) (e : Nat) : Undo :=
  { lc := (List.range 4).map (fun k => s.lc e k), va := (List.range 16).map (fun k => s.va e k),
    stk := (List.range 8).map (fun k => s.getF F.SE_STK_ADDR (e * 8 + k)), sp := s.sp e }

/-- Put that state back. -/
def State.restoreUndo (s : State) (e : Nat) (u : Undo) : State :=
  let s1 := (List.range 4).foldl (fun a k => a.setF F.SE_LC_LC (e * 4 + k) (u.lc.getD k 0)) s
  let s2 := (List.range 16).foldl (fun a k => a.setVa e k (u.va.getD k 0)) s1
  let s3 := (List.range 8).foldl (fun a k => a.setF F.SE_STK_ADDR (e * 8 + k) (u.stk.getD k 0)) s2
  s3.setF F.SE_SP_SP e u.sp

/-- STATE of SE_STATE while a burst is held: EXC, HOLD or RUN (R113). -/
def State.showRun (s : State) (e : Nat) (rep : Bool) : State :=
  s.setF F.SE_STATE_STATE e (if (s.engOf e).inExc then 3 else if rep then 2 else 1)

/-! ### Groups, periods and fetches (R95 to R101) -/

/-- The channel mask of group `g` as register initialisation set it. -/
def State.chgMask (s : State) (x g : Nat) : Nat :=
  s.getF F.SITE_CHG_LO_MASK (x * 16 + g) + s.getF F.SITE_CHG_HI_MASK (x * 16 + g) * 4294967296

/-- R99: the channels of a word's group that the site owns. -/
def State.groupOf (s : State) (x w : Nat) : Nat := s.chgMask x (mCHG w) &&& s.chm x

/-- R95: vectors of a word. -/
def State.wordN (s : State) (x w : Nat) : Nat := (mCYC w + 1) * 2 ^ s.getF F.SITE_STEP_LOG2 x

/-- The lowest channel of a mask. -/
def lowest (m : Nat) : Nat := ((List.range 64).find? (fun c => hasBit m c)).getD 0

/-- R58: the timing set that a channel runs in word `w`: the word's TSET with TSV = 1, else the one in force on the channel. The
set in force is kept for each channel, across words, bursts and engines, and is 0 until a word selects one (DESIGN CHOICE, log
entry 43). -/
def State.setOf (s : State) (w c : Nat) : Nat := if mTSV w then mTSET w else (s.chanOf c).gridSet

/-- R95, R99: the pace period of a word in 0.125 ps units, the PER of the group's lowest channel in its timing set; 1 ns for an
empty group. -/
def State.wordP (s : State) (m w : Nat) : Nat := if m = 0 then 8000 else s.per (lowest m) (s.setOf w (lowest m))

/-- R74: the column that channel position `p` reads. -/
def State.column (s : State) (o p : Nat) : Nat :=
  let r := s.getL F.OCT_FETCH_ROT o
  if s.flagL F.OCT_FETCH_REV o then (r + 8 - p) % 8 else (p + r) % 8

/-- R70, R101: does a fetch of `n` rows from `row` leave the site's rows in a column that a channel of the mask reads? -/
def State.rowFault (s : State) (x m row n : Nat) : Bool :=
  (maskOcts m).any (fun o => decide (row < s.rowBase x o) || decide (s.rowBase x o + s.rowCount x o < row + n)) ||
    (maskChans m).any (fun c => !s.ownsCh x (octOf c * 8 + s.column (octOf c) (posOf c)))

/-- The channels a stream feeds (R78). -/
def State.streamChm (s : State) (k : Nat) : Nat := s.getF F.MEM_VSCHM_LO_CHM k + s.getF F.MEM_VSCHM_HI_CHM k * 4294967296

/-- R101: does a word's fetch raise VFLT? A word with an empty group reads nothing, and no ownership of its stream slot is
asked (DESIGN CHOICE, log entry 47). -/
def State.vflt (s : State) (x e w m n : Nat) : Bool :=
  let va := s.va e (mVSRC w)
  if m = 0 || mVOP w = 0 || mVOP w = 7 then false
  else if hasBit va 22 then
    let k := bits va 24 23
    (s.streamOf k).site != some x || (m &&& s.streamChm k) != m
  else s.rowFault x m (va % 4194304) n

/-! ### Vectors as they are stored (R69, R74, R77) -/

/-- Byte `b` of octet `o`'s beat buffer. -/
def State.bbByte (s : State) (o b : Nat) : Byte := Tbl.get (fun _ => 0#8) s.bb (o * 12582912 + b)

/-- The nibble of column `c` in row `r` (R69). -/
def State.nibble (s : State) (o r c : Nat) : Nat := (s.bbByte o (r * 4 + c / 2)).toNat / 16 ^ (c % 2) % 16

/-- The row of the beat buffer that holds record `n` of a stream (R77). -/
def State.fifoRow (s : State) (slot n : Nat) : Nat :=
  s.getF F.MEM_VSFBASE_FBASE slot + n % (s.getF F.MEM_VSCFG_FDEPTH slot * 4096)

/-- The row of vector `k` of a fetch from the beat buffer, mirrored or not (R100). -/
def Fetch.rowOf (f : Fetch) (k : Nat) : Nat := if f.mirror then (f.row + f.n - 1 - k) % 4194304 else (f.row + k) % 4194304

/-- Does position `p` of a fetch run in another period than its word's pace, by the timing sets as they are, or has it done so in this
word (R97)? -/
def State.paceMiss (s : State) (f : Fetch) (p : Nat) : Bool :=
  hasBit f.miss p || s.per (f.oct * 8 + p) (f.tsets.getD p 0) != s.per f.paceCh f.paceSet

/-- R97: the positions of a fetch that miss the pace. -/
def State.missMask (s : State) (f : Fetch) : Nat :=
  (List.range 8).foldl (fun a p => if hasBit f.pos p && s.paceMiss f p then setBit a p else a) f.miss

/-- May vector `k` of a fetch compare at position `p`, as the row is stored now? A stream record not yet in the FIFO may. -/
def State.mayCompare (s : State) (f : Fetch) (k p : Nat) : Bool :=
  let code := fun (r : Nat) => decide (4 ≤ s.nibble f.oct r (s.column f.oct p))
  hasBit f.pos p && f.cmpe && !f.dead && f.fixed == 0 && !s.paceMiss f p &&
    (match f.slot with
     | none => code (f.rowOf k)
     | some sl =>
       let n := f.base.getD (s.streamOf sl).taken + k
       if n < (s.streamOf sl).filled then code (s.fifoRow sl n) else true)

/-- R94, R126: is a compare of word `wid` of engine `e` still to come: a vector read and not judged, or one to be read? -/
def State.comparesLeft (s : State) (e wid : Nat) : Bool :=
  (List.range 64).any (fun c => (s.chanOf c).vects.any (fun v => v.eng == e && v.wid == wid && !v.done && v.expect != 0)) ||
    (s.engOf e).fetches.any (fun f => f.wid == wid &&
      (List.range (f.n - f.k)).any (fun j => (List.range 8).any (fun p => s.mayCompare f (f.k + j) p)))

/-! ### Conditions (R94) -/

/-- Launch queues of the channels of a mask are empty. -/
def State.lanesEmpty (s : State) (m : Nat) : Bool := (maskChans m).all (fun c => (s.chanOf c).lane.queue.isEmpty)

/-- The WOP 3 that governs the pass end at `t`: of those due there, the one with the latest E(W) (R153). -/
def WaveSt.gotoAt (w : WaveSt) (t : Time) : Option (SegEnt × Bool × Time) :=
  best (fun (a b : SegEnt × Bool × Time) => decide (b.2.2 ≤ a.2.2)) (w.goto.filter (fun g => decide (g.2.2 + Time.ofNs 64 < t)))

/-- R153: does WOP 2 stop the chain at the pass end at `t`: it is pending, and no WOP 3 with a later E(W) acts there? -/
def WaveSt.stopsAt (w : WaveSt) (t : Time) : Bool :=
  match w.stopAt, w.gotoAt t with
  | some a, some q => decide (q.2.2 ≤ a)
  | some _, none => true
  | none, _ => false


/-- Does a chain play its last segment, when the pass in play ends at `t` and lasts `len`: WOP 2 stops it at that pass end, or its
entry has END and no WOP 3 acts at a pass end that is left? -/
def WaveSt.isLast (w : WaveSt) (t len : Time) : Bool :=
  match w.play with
  | some p => w.stopsAt t || ((w.gotoAt (t + len * w.left)).isNone && p.fin)
  | none => false

/-- FLINE of an octet, in kHz. -/
def State.fline (s : State) (o : Nat) : Nat := s.getF F.OCT_CKSTAT_FLINE o

/-- The line PLL and the output an octet selects (R361, R365). -/
def State.ckOut (s : State) (o : Nat) : Nat × Nat := (s.getL F.OCT_CKSEL_LP o, s.getL F.OCT_CKSEL_OUT o)

/-- The live output values of line PLL `n`'s output `m` (R369): index of CLK_LPL. -/
def lpoIx (n m : Nat) : Nat := n * 4 + m

/-- f_line of an octet as its dividers command it (R360), in kHz, as a fraction. -/
def State.flineQ (s : State) (o : Nat) : Nat × Nat :=
  let p := s.ckOut o
  (100000 * s.getF F.CLK_LPCFG_NDIV p.1, s.getF F.CLK_LPCFG_RDIV p.1 * s.getF F.CLK_LPL_DIV (lpoIx p.1 p.2))

/-- The spread of a line clock (R366): total depth in ppm (0: none), centre or down, rate in 0.1 kHz, and where in its triangle the
PLL stands at time 0. Half a period of the triangle is `halfTri` in units of rate × time. -/
structure Spread where
  depth : Nat
  centre : Bool
  fmod : Nat
  phase : Nat
  deriving DecidableEq, Repr

/-- Half a period of the triangle: 0.5 / (100 Hz) in units of 2^-32 of 0.125 ps. -/
def halfTri : Int := 171798691840000000000

/-- The spread in force in the line clock of an octet. Its triangle goes from 0 to the depth and back from a phase that the manual leaves
open (log entry 58). -/
def State.spread (s : State) (o : Nat) : Spread :=
  let n := (s.ckOut o).1
  { depth := if s.flag F.CLK_LPSTAT_SSCON n then s.getF F.CLK_LPSSC_DEPTH n else 0, centre := s.flag F.CLK_LPSSC_CENTRE n,
    fmod := s.getF F.CLK_LPSSC_FMOD n, phase := Config.sscPhase n }

/-- The triangle from 0 to 1 and back, summed from 0 to `y`, times 2 `halfTri`. -/
def triSum (y : Int) : Int :=
  let h := halfTri
  let r := y % (2 * h)
  2 * h * h * (y / (2 * h)) + (if r < h then r * r else 2 * h * h - (2 * h - r) * (2 * h - r))

/-- What one unit of time counts for without spread in `Spread.clk`. -/
def Spread.unit (p : Spread) : Int := p.fmod * 2 * halfTri * 1000000

/-- The time that a spread clock has counted at `t`: its frequency lies the triangle times the depth below the commanded one, and half the
depth above that where the spread is centred (R366). -/
def Spread.clk (p : Spread) (t : Int) : Int :=
  t * p.unit + (if p.centre then p.depth * halfTri * (t * p.fmod) else 0) - p.depth * triSum (t * p.fmod + p.phase)

/-- The last of `n` halvings: the greatest half unit of 0.125 ps in [lo, hi) at which the clock has counted no more than `goal` / `den`. -/
def Spread.search (p : Spread) (goal den : Int) : Nat → Int → Int → Int
  | 0, lo, _ => lo
  | n + 1, lo, hi =>
    let m := (lo + hi) / 2
    if p.clk (m * 2147483648) * den ≤ goal then p.search goal den n m hi else p.search goal den n lo m

/-- The instant, on the 0.125 ps grid, at which a spread clock has counted `num` / `den` from `a` on; no spread changes a frequency by 1 %. -/
def Spread.after (p : Spread) (a : Time) (num den : Int) : Time :=
  let mid := (a + num / den) / 2147483648
  let dev := (num / den).natAbs / 214748364800 + 4
  let h := p.search (p.clk a * den + num * p.unit) den 96 (mid - dev) (mid + dev)
  ((h + 1) / 2).toNat * 4294967296

/-- The start of symbol `k` of a grid anchored at `a`, placed on the 0.125 ps grid (R164, R366, R474): k UI of
2^LDIV / (8 f_line) each, f_line the fraction `fl` in kHz, spread as `p` says. -/
def symStart (p : Spread) (fl : Nat × Nat) (ldiv : Nat) (a : Time) (k : Int) : Time :=
  let ui : Int := (4294967296000000000 * 2 ^ ldiv * fl.2 : Nat)
  if p.depth = 0 then
    let num : Int := (a : Int) * fl.1 + k * ui
    let den : Int := (fl.1 * 4294967296 : Nat)
    ((2 * num + den) / (2 * den)).toNat * 4294967296
  else p.after a (k * ui) fl.1

/-- R366: the instant at the pins of what channel `c`'s octet places at `t` in timed-vector mode: a spread clock counts from the start of the
beat. -/
def State.pinAt (s : State) (c : Nat) (t : Time) : Time :=
  let p := s.spread (octOf c)
  if p.depth = 0 then t
  else
    let d := s.sched ((s.owner c).getD 16)
    let b := d.start (d.off t)
    p.after b ((t : Int) - b) 1

/-- SDIV in force. -/
def State.sdiv (s : State) (o : Nat) : Nat := s.getL F.OCT_WFCFG_SDIV o

/-- The instant of sample `j`, counted over the chain (R152, R474). -/
def State.sampleAt (s : State) (o j : Nat) : Time :=
  let w := (s.octSt o).wave
  symStart (s.spread o) (s.flineQ o) (s.sdiv o) w.anchor ((j : Int) - w.base)

/-- The end of the pass in play. -/
def State.passEnd (s : State) (o : Nat) : Time := s.sampleAt o ((s.octSt o).wave.pos + (s.octSt o).wave.len)

/-- R94: the waveform chains of the octets of a mask play their last segment: an entry with END, in whichever pass, that nothing
redirects, or one after whose pass in play WOP 2 stops the chain. False for an empty group and where an octet of the group plays no
chain (DESIGN CHOICE, log entry 47). -/
def State.lastSegment (s : State) (m : Nat) : Bool :=
  !(maskOcts m).isEmpty && (maskOcts m).all (fun o =>
    let t := s.passEnd o
    (s.octSt o).wave.isLast t (t - s.sampleAt o (s.octSt o).wave.pos))

/-- R126, R302: SMATCH of a site: the most recent result of every engine armed with ARMS matches, and every chip that has
sent ARMED with the most recent TAG has PASS as its latest word for that TAG; and so has this chip's own most recently formed result,
which outlasts its window and its burst. Where no window has formed one it is 0. -/
def State.smatch (s : State) (x : Nat) : Bool :=
  let es := engines.filter (fun e => match (s.engOf e).item with
    | some i => i.site == x && (s.engOf e).mat.armed && (s.engOf e).mat.arms
    | none => false)
  (s.siteOf x).result == some true && es.all (fun e => (s.engOf e).mat.result == some true) &&
    (s.siteOf x).chipMatch.all (fun p => p.2.1 != (s.siteOf x).matchTag || p.2.2 == 1)

/-- R204 to R206: CAPRED: the site's capture is reduced in any way. -/
def State.capRed (s : State) (x : Nat) : Bool :=
  s.getF F.SITE_CAPSTAT_DEC x != 0 || s.flag F.SITE_CAPSTAT_STOPPED x || (s.siteOf x).cap.overrun.isSome

/-- R106, R126: ARMED at instant `t`: from the start of the arming word until the end of a HOLD word that completes. -/
def MatchSt.isArmed (m : MatchSt) (t : Time) : Bool :=
  m.armed && (match m.last with | none => true | some p => decide (t < p.2))

/-- R94: condition group `g` of engine `e` as sampled at `t`, for a word that drives the channels of `m`. A stream slot of
another site reads as not ready (R328). An engine without a burst shows the groups of site 0 (DESIGN CHOICE, log entry 47). -/
def State.cond (s : State) (e g m : Nat) (t : Time) : Nat :=
  let n := s.engOf e
  let x := match n.item with | some i => i.site | none => 0
  match g with
  | 0 => b2n n.failLast + 2 * b2n n.failAny + 4 * b2n (n.cmps.any (fun c => c.left != 0 && s.comparesLeft e c.wid))
  | 1 => b2n (s.lc e 0 == 0) + 2 * b2n (s.lc e 1 == 0) + 4 * b2n (s.lc e 2 == 0) + 8 * b2n (s.lc e 3 == 0)
  | 2 => b2n n.mat.lmatch + 2 * b2n (s.smatch x) + 4 * b2n (n.mat.isArmed t)
  | 3 => n.flash
  | 8 => (List.range 4).foldl (fun a k =>
      a + b2n ((s.streamOf k).site == some x && s.getF F.MEM_VSSTAT_STATE k == 2) * 2 ^ k) 0
  | 9 => b2n (s.lanesEmpty m) + 2 * b2n (s.lastSegment m) + 4 * b2n s.warm
  | 10 => (s.siteOf x).trigIn
  | 11 => b2n (s.yldreq e) + 2 * b2n (s.capRed x)
  | 4 => bits (s.par e 0) 3 0
  | 5 => bits (s.par e 0) 7 4
  | 6 => bits (s.par e 0) 11 8
  | 7 => bits (s.par e 0) 15 12
  | _ => 0

/-! ### Exceptions (R129 to R140) -/

/-- Candidates that some WORD span may still claim. -/
def stillHeld (ws : List WordSpan) (l : List Cand) : List Cand :=
  l.filter (fun c => ws.any (fun w => w.q == c.q && decide (w.s0 ≤ c.u)))

/-- Drop the WORD spans of engine `e` that start at `t` or later, with what only they would have captured (R107): those of
the word whose first repetition starts at `t` and of every later word. -/
def State.dropWordSpan (s : State) (x e : Nat) (t : Time) : State :=
  s.modCap x (fun c =>
    let ws := c.words.filter (fun p => !(p.eng == e && decide (t ≤ p.s0)))
    { c with words := ws, held := stillHeld ws c.held })

/-- Write the record; the handler's first word starts at `hs` (R134, R135, R140). -/
def State.takeExc (s : State) (e code cause trapn epc : Nat) (ds ms : Bool) (btgt : Nat) (hs : Time) (vidx : Nat) : State :=
  let x := match (s.engOf e).item with | some i => i.site | none => 0
  let s1 := s.setFs e [(F.SE_EXC_CODE, code), (F.SE_EXC_CAUSE, cause), (F.SE_EXC_TRAPN, trapn), (F.SE_EXC_DS, b2n ds),
    (F.SE_EXC_MS, b2n ms), (F.SE_EXC_VALID, 1), (F.SE_EXC_EPC, epc), (F.SE_EXCB_BTGT, if ds then btgt else 0),
    (F.SE_EXCB_ESP, s.sp e), (F.SE_EXCT_TIME, Time.ns32 hs), (F.SE_EXCF_BEAT, s.beatAt x hs), (F.SE_EXCV_VIDX, vidx)]
  s1.satF F.SE_EXCCNT_CNT e 1

/-- R238: the start of the word at `pc`, planned for `t`: where its first vector fits. -/
def State.planned (s : State) (x e pc : Nat) (t : Time) : Time :=
  let w := s.store e pc % 2 ^ 192
  (s.sched x).fit t (Time.ofQ (s.wordP (s.groupOf x w) w))

/-- The engine goes on at the handler of `code` (R129). -/
def State.enterHandler (s : State) (e code : Nat) (hs : Time) : State :=
  (s.modEng e (fun g => { g with
    inExc := true, excCode := code, yielded := false, nextPc := code * 8, nextS := hs, delay := none, s0 := none,
    evt0 := false, cur := none, post := none })).showRun e false

/-- R131, R134, R138: a synchronous exception of the word `w`, whose handler starts at `t`, or in the next beat where its first
vector does not fit there (R238). -/
def State.raiseSync (s : State) (e : Nat) (w : Issued) (code cause trapn : Nat) (t : Time) (vidx : Nat) : State :=
  let x := match (s.engOf e).item with | some i => i.site | none => 0
  let s1 := (s.restoreUndo e w.before).dropWordSpan x e w.s0
  if (s.engOf e).inExc then
    let s2 := s1.setF F.SE_EXC_DBL e 1
    s2.endBurst e 2 (s.getF F.SE_EXC_CODE e) true
  else
    let epc := match w.delay with | some d => d.bpc | none => w.pc
    let btgt := match w.delay with | some d => d.btgt | none => 0
    let hs := s1.planned x e (code * 8) t
    (s1.takeExc e code cause trapn epc w.delay.isSome w.shadow btgt hs vidx).enterHandler e code hs

/-! ### Completion (R88, R117) -/

/-- The VA post-update of R100 and the VAOP load of R102, R103. -/
def State.vaStep (s : State) (e w n : Nat) : State :=
  let k := mVSRC w
  let va := s.va e k
  let up := mVOP w == 2 || mVOP w == 5
  let down := mVOP w == 3 || mVOP w == 6
  let s1 := if (up || down) && !hasBit va 22 then
      s.setF F.SE_VA_ROW (e * 16 + k) (if up then va % 4194304 + n else va % 4194304 + 4194304 - n % 4194304) else s
  match mVAOP w with
  | 1 => s1.setVa e (mVDST w) (mVIMM w)
  | 2 => s1.setVa e (mVDST w) (4194304 + mVIMM w % 4 * 8388608)
  | 3 => s1.setVa e (mVDST w) (s.par e (mVIMM w % 8) % 33554432)
  | _ => s1

/-- R104: the loop counters. -/
def State.loopStep (s : State) (e w : Nat) : State :=
  [0, 1, 2, 3].foldl (fun a k =>
    match mLOOP w k with
    | 0 => a
    | 1 => a.setF F.SE_LC_LC (e * 4 + k) (if mLSRC w then s.par e (mIMM16 w % 8) else mIMM32 w)
    | _ => a.setF F.SE_LC_LC (e * 4 + k) (s.lc e k + 4294967295)) s

/-- The stack after CALL or RET (R89, R93); a RET that returns from a handler pops nothing (R136). The entry that RET pops reads
0 afterwards (DESIGN CHOICE, log entry 47). -/
def State.stackStep (s : State) (e w pc : Nat) (hret : Bool) : State :=
  let d := s.sp e
  if mBRK w = 3 then (s.setF F.SE_STK_ADDR (e * 8 + d) ((pc + 2) % 8192)).setF F.SE_SP_SP e (d + 1)
  else if mBRK w = 4 && !hret then (s.setF F.SE_STK_ADDR (e * 8 + (d - 1)) 0).setF F.SE_SP_SP e (d - 1)
  else s

/-- R89: where a branch word at `pc` leads, from the conditions at its resolve instant `t`, the state before its completion and
the counters after it. -/
def State.branchTarget (s after : State) (e w pc m : Nat) (t : Time) : Nat :=
  match mBRK w with
  | 1 => mNXT w
  | 2 => mNXT w ||| (s.cond e (mCGRP w) m t &&& mCMASK w)
  | 3 => mNXT w
  | 4 => s.getF F.SE_STK_ADDR (e * 8 + (s.sp e - 1))
  | 5 => match mLendCounter w with
    | some k => if after.lc e k = 0 then (pc + 2) % 8192 else mNXT w
    | none => (pc + 2) % 8192
  | _ => 0

/-- R117: the internal completion of a word: LOOP, VA post-update, VAOP and the stack. -/
def State.internal (s : State) (e w pc n : Nat) (hret : Bool) : State :=
  ((s.loopStep e w).vaStep e w n).stackStep e w pc hret

/-- The pin-time completion actions a word carries, due at E(W) (R117); `key` is the number of its first repetition. -/
def wordActs (w m : Nat) (s0 : Time) (key : Nat) : List Act :=
  (if mTRIGO w = 0 then [] else [Act.trigo (mTRIGO w)]) ++
  (if mFSIG w = 0 then [] else [Act.fsig (mFSIG w)]) ++
  (if 1 ≤ mEVT w ∧ mEVT w ≤ 7 then [Act.evt (mEVT w)] else []) ++
  (if mWOP w = 0 then [] else [Act.wop (mWOP w) (mOBJ w) m key]) ++
  (if mPOP w = 0 then [] else [Act.pop (mPOP w) (mOBJ w) (mIMM32 w) m]) ++
  (if mCAPT w = 0 then [] else [Act.capt (mCAPT w) (mCAPQ w) s0])

/-- R137: with EVT treated as 0 the word neither traps nor raises an event. -/
def clearEvt (w : Nat) : Nat := w - mEVT w * 2 ^ 72

end Sys2Proof.Machine
end

