-- ==== Sys2Proof/Machine/FrontOps.lean ====
section
/-! DEFINITION. The pins of a channel, personality changes (R29 to R31), and the waveform and lane operations that every
other unit uses (R145 to R185). -/

namespace Sys2Proof.Machine

/-! ### The TX pair (R47, R48) -/

/-- Is the channel's site in safe state? A channel that no site owns follows the chip (R388). -/
def State.chanSafe (s : State) (c : Nat) : Bool :=
  match s.owner c with
  | some x => s.siteSafe x
  | none => s.chipSafe

/-- What holds a TX pair in electrical idle: a power state other than ACTIVE (R429), safe state and the wait for the gap after
it, retirement, the 24 ns of R31, a rate block (R165), the idle of R167 on a lane. -/
def State.pinBlocked (s : State) (c : Nat) : Bool :=
  s.getF F.GLB_PWRSTAT_STATE 0 != 0 || s.chanSafe c || (s.chanOf c).held || s.flag F.OCT_FESTAT_RETIRED (chIx c) || (s.octSt (octOf c)).persIdle ||
    hasBit (s.getF F.OCT_PSTAT_RATEBLK (octOf c)) (posOf c)

/-- R429: receivers, acquisition and TDCs run in ACTIVE only. -/
def State.rxOn (s : State) : Bool := s.getF F.GLB_PWRSTAT_STATE 0 == 0

/-! ### Levels (R34 to R37, R147)

Levels are differential, in units of 1 / 835,584 uV: the smallest unit in which those of R37, R147 and R170 are whole. -/

/-- Units of level in a microvolt. -/
def levelUnit : Int := 835584

/-- The six TX taps. -/
def ffeFlds : List Fld :=
  [F.OCT_TXFFE0_PRE2, F.OCT_TXFFE0_PRE1, F.OCT_TXFFE0_MAIN, F.OCT_TXFFE0_POST1, F.OCT_TXFFE1_POST2, F.OCT_TXFFE1_POST3]

/-- AMP in force, in units of 1.25 mVppd (R34). -/
def State.amp (s : State) (c : Nat) : Int := s.getL F.OCT_TXAMP_AMP (chIx c)

/-- The TX taps in force, in units of 1/64 (R35). -/
def State.taps (s : State) (c : Nat) : List Int := ffeFlds.map (fun f => sext 8 (s.getL f (chIx c)))

/-- R37: a long run settles at plus or minus AMP x S / 128. -/
def State.settle (s : State) (c : Nat) : Int := s.amp c * (s.taps c).sum * 8160000

/-- R37: the output of the fastest transitions spans AMP x A / 64. -/
def State.fastSpan (s : State) (c : Nat) : Int := s.amp c * ((s.taps c).map (fun z => (z.natAbs : Int))).sum * 16320000

/-- R147: the level of sample code `k` at amplitude `a`, AMP x 1.25 mV x (k - 127.5) / 255; the equaliser is bypassed. -/
def codeLevel (a : Int) (k : Nat) : Int := a * (2 * (k : Int) - 255) * 2048000

/-- R147: the level of sample code `k` of channel `c` under AMP in force. -/
def State.waveLevel (s : State) (c k : Nat) : Int := codeLevel (s.amp c) k

/-- R37, R155: where a pair settles; samples and symbols have levels of their own. -/
def State.pinLevel (s : State) (c : Nat) (p : Pin) : Option Int :=
  match p with
  | .idle => some 0
  | .high => some (s.settle c)
  | .low => some (-s.settle c)
  | .rest => some (s.waveLevel c (s.getL F.OCT_WFCFG_IDLEC (octOf c)))
  | .signal => none

/-- R37: the peak-to-peak span of what a pair drives: the code span in waveform mode, else that of the fastest transitions. -/
def State.pinSpan (s : State) (c : Nat) (p : Pin) : Int :=
  if p = .idle then 0 else if s.pers (octOf c) = 1 then s.waveLevel c 255 - s.waveLevel c 0 else s.fastSpan c

/-! ### The comparator (R42 to R44, R228, R229) -/

/-- MEAS, STOPCH and FGATE that the run of channel `c` has: those of the register, which a run keeps (R232), or of a run that is
stopping those it had. -/
def State.tdcCfg (s : State) (c : Nat) : Nat × Nat × Nat :=
  ((s.chanOf c).tdc.cfg).getD
    (s.getF F.OCT_TDCCFG_MEAS (chIx c), s.getF F.OCT_TDCCFG_STOPCH (chIx c), s.getF F.OCT_TDCCFG_FGATE (chIx c))

/-- MEAS of channel `c`: 0 off, 1 interval, 2 period, 3 frequency (R230). -/
def State.meas (s : State) (c : Nat) : Nat := (s.tdcCfg c).1

/-- Channels whose pending interval a stamped edge of channel `c` may stop (R230). -/
def State.stopsFor (s : State) (c : Nat) : List Nat :=
  match s.owner c with
  | some x => (s.siteChans x).filter (fun d => s.meas d == 1 && (s.chanOf d).tdc.run && (s.tdcCfg d).2.1 == c)
  | none => []

/-- Does an instant lie in the run of a TDC: from its RUN boundary to the tick at which it stops (R232)? -/
def TdcSt.within (k : TdcSt) (tm : Time) : Bool :=
  k.run && decide (Time.ofNs k.t0 ≤ tm) && (match k.stopT with | some n => decide (tm < Time.ofNs n) | none => true)

/-- R42: does SLOPE pass a rising (or falling) edge to the TDC? -/
def State.slopeTakes (s : State) (c : Nat) (rising : Bool) : Bool :=
  let k := s.getL F.OCT_THR_SLOPE (chIx c)
  k == 2 || (rising && k == 0) || (!rising && k == 1)

/-- R228, R229: an edge of the comparator reaches the TDC: SLOPE selects it, EDIV admits every 2^EDIV-th one counted from the
RUN boundary, and an admitted one waits to be stamped unless the DLL is out of lock (R227). Outside its own run a channel's edges
count for the intervals of other channels that it stops; EDIV counts those from the latest RUN boundary of such a channel (DESIGN
CHOICE, log entry 61). -/
def State.tdcEdge (s : State) (c : Nat) (rising : Bool) (tm : Time) : State :=
  let t := (s.chanOf c).tdc
  let own := t.within tm
  let serves := (s.stopsFor c).any (fun d => d != c && (s.chanOf d).tdc.within tm)
  if s.rxOn && s.slopeTakes c rising && (own || serves) then
    let n := ((if own then t.div else t.sdiv) + 1) % 2 ^ s.getF F.OCT_TDCCFG_EDIV (chIx c)
    let take := n == 0 && s.flag F.OCT_TDCSTAT_DLLLOCK (chIx c)
    s.modTdc c (fun k => { k with
      div := if own then n else k.div, sdiv := if own then k.sdiv else n,
      edges := if take then k.edges ++ [(tm, s.warm)] else k.edges })
  else s

/-- R43: the comparator's input is at level `l` from `tm` on, and its output follows THR and HYST. Vectors whose window holds
that instant have seen a change (R67). With HYST = 0 and the input exactly at the threshold both conditions of R43 hold: the output
then changes at each instant at which the input is looked at, which is each one that sets it (DESIGN CHOICE, log entry 61). -/
def State.compInput (s : State) (c : Nat) (l : Int) (tm : Time) : State :=
  let h := s.chanOf c
  let thr := sext 11 (s.getL F.OCT_THR_THR (chIx c))
  let hy : Int := s.getL F.OCT_THR_HYST (chIx c)
  let now := if h.comp then !decide (l ≤ (thr - hy) * (1000 * levelUnit)) else decide ((thr + hy) * (1000 * levelUnit) ≤ l)
  if now = h.comp ∨ s.rxOn = false then s
  else
    (s.setChan c { h with
      comp := now,
      vects := h.vects.map (fun v => if v.sa < tm ∧ tm ≤ v.sb then { v with changed := true } else v) }).tdcEdge c now tm

/-- R46: with NEAR = 1 a pair that has settled drives the channel's own comparator. -/
def State.compNear (s : State) (c : Nat) (t : Time) : State :=
  match s.flagL F.OCT_LBCFG_NEAR (chIx c), (s.chanOf c).level with
  | true, some l => s.compInput c l t
  | _, _ => s

/-- The TX pair is in a state from an instant on; a change of what it drives leaves the chip, and FESTAT.IDLE follows (R50). -/
def State.pinTo (s : State) (c : Nat) (p : Pin) (t : Time) : State :=
  let s1 := s.setF F.OCT_FESTAT_IDLE (chIx c) (if p = .idle then 1 else 0)
  let h := s.chanOf c
  let l := s.pinLevel c p
  let d := s.pinSpan c p
  (if h.pin = p ∧ h.level = l ∧ h.span = d then s1
   else (s1.modChan c (fun x => { x with pin := p, level := l, span := d })).log (.pin c p t l d)).compNear c t

/-- Has a lane started again less than 24 ns before `t` (R31, R165, R167)? -/
def State.laneIdle (s : State) (c : Nat) (t : Time) : Bool := s.pers (octOf c) == 2 && decide (t < (s.chanOf c).lane.blank)

/-- The TX pair follows its back end unless something holds it in electrical idle. -/
def State.pinShow (s : State) (c : Nat) (t : Time) : State :=
  s.pinTo c (if s.pinBlocked c || s.laneIdle c t then .idle else (s.chanOf c).want) t

/-- The back end drives a state from an instant on. -/
def State.drive (s : State) (c : Nat) (p : Pin) (t : Time) : State :=
  (s.modChan c (fun x => { x with want := p })).pinShow c t

/-- The pairs of several channels follow. -/
def State.pinsShow (s : State) (l : List Nat) (t : Time) : State := l.foldl (fun a c => a.pinShow c t) s

/-- The idle output of an octet's personality (R31, R53, R155, R174). -/
def State.idleOut (s : State) (o : Nat) : Pin :=
  if s.pers o = 1 ∧ s.flagL F.OCT_WFCFG_IDLEEI o = false then .rest else .idle

/-! ### Receive coefficients (R40, R41) -/

/-- The thirteen coefficient fields, F0 to F11 and D1. -/
def coefFlds : List Fld :=
  [F.OCT_RXCOEF0_F0, F.OCT_RXCOEF0_F1, F.OCT_RXCOEF0_F2, F.OCT_RXCOEF0_F3, F.OCT_RXCOEF1_F4, F.OCT_RXCOEF1_F5,
   F.OCT_RXCOEF1_F6, F.OCT_RXCOEF1_F7, F.OCT_RXCOEF2_F8, F.OCT_RXCOEF2_F9, F.OCT_RXCOEF2_F10, F.OCT_RXCOEF2_F11,
   F.OCT_RXCOEF3_D1]

/-- R31: adaptation starts again from the committed coefficients. -/
def State.coefRestart (s : State) (c : Nat) : State :=
  (coefFlds.zip (s.chanOf c).coefs).foldl (fun a p => a.setL p.1 (chIx c) p.2) s

/-! ### Waveform generator -/

/-- The chain stops and RUN is 0. Ring slots read for passes of it that will not play are spent (DESIGN CHOICE, log entry 49). -/
def State.waveHalt (s : State) (o : Nat) : State :=
  (s.modWave o (fun w => { w with
    play := none, left := 0, next := none, stopAt := none, goto := [], blks := [], slots := 0,
    queue := w.queue.filter (fun q => q.1), idles := [] })).setF F.OCT_WFSTAT_RUN o 0

/-- The chain stops at `t` and the pairs show the idle level (R155). -/
def State.waveStop (s : State) (o : Nat) (t : Time) : State :=
  let s1 := s.waveHalt o
  if s.pers o = 1 then (chansOf o).foldl (fun a c => a.drive c (s.idleOut o) t) s1 else s1

/-! ### Lane timing (R164, R474) -/


/-- Is the octet unclocked (R365)? -/
def State.unclocked (s : State) (o : Nat) : Bool := s.flag F.OCT_CKSTAT_UNCLK o || s.fline o == 0


/-- The index of the first symbol of that grid that starts at or after `t`. -/
def symCeil (p : Spread) (fl : Nat × Nat) (ldiv : Nat) (a t : Time) : Int :=
  let u : Int := (4294967296000000000 * 2 ^ ldiv * fl.2 : Nat)
  let k := if p.depth = 0 then -((((a : Int) - t) * fl.1) / u) else -(((p.clk a - p.clk t) * fl.1) / (u * p.unit))
  if symStart p fl ldiv a k < t then k + 1 else if t ≤ symStart p fl ldiv a (k - 1) then k - 1 else k

/-- Symbol `k` of channel `c`'s grid anchored at `a`. -/
def State.symAt (s : State) (c : Nat) (a : Time) (k : Int) : Time :=
  symStart (s.spread (octOf c)) (s.flineQ (octOf c)) (s.getL F.OCT_PCFG_LDIV (octOf c)) a k

/-- First symbol of channel `c`'s grid at or after `t`. -/
def State.symFrom (s : State) (c : Nat) (a t : Time) : Int :=
  symCeil (s.spread (octOf c)) (s.flineQ (octOf c)) (s.getL F.OCT_PCFG_LDIV (octOf c)) a t

/-- Index of a channel's lane registers. -/
def lnIx (c : Nat) : Nat := octOf c * 8 + posOf c

/-- Is the lane's line mode PAM4? -/
def State.pam4 (s : State) (c : Nat) : Bool := s.flagL F.OCT_LCFG_LINE (lnIx c)

/-- R165: the symbol rate lies outside the table: below 1 GBd, or above 64 GBd, or above 32 GBd for PAM4 on a P64 (GRADE 2, R2, R432). -/
def State.rateBad (s : State) (c : Nat) : Bool :=
  let o := octOf c
  let r8 := 8 * (s.flineQ o).1
  let d := 2 ^ s.getL F.OCT_PCFG_LDIV o * (s.flineQ o).2
  let hi := if s.pam4 c && s.getF F.GLB_ID_GRADE 0 == 2 then 32000000 else 64000000
  decide (r8 < 1000000 * d) || decide (hi * d < r8)

/-! ### Generators and line coding (R170 to R172) -/

/-- Bits of a byte in transmission order: least significant first (R170). -/
def byteBits (b : Byte) : List Nat := (List.range 8).map (fun i => bit b.toNat i)

/-- Eight bits in transmission order as a byte. -/
def bitsByte (l : List Nat) : Byte := BitVec.ofNat 8 (l.reverse.foldl (fun a b => a * 2 + b) 0)

/-- The Gray value of a bit pair (R170). -/
def gray (a b : Nat) : Nat :=
  match a, b with
  | 0, 0 => 0
  | 0, _ => 1
  | _, 0 => 3
  | _, _ => 2

/-- One symbol: from its bits to the value 0 to 3 sent, with the precoder's previous value (R170, R171). -/
def codeSym (pam prec inv : Bool) (prev : Nat) (bs : List Nat) : Nat × Nat :=
  if pam then
    let v := gray (bs.getD 0 0) (bs.getD 1 0)
    let y := if prec then (v + 4 - prev) % 4 else v
    (if inv then 3 - y else y, y)
  else
    let y := if bs.getD 0 0 = 0 then 0 else 3
    (if inv then 3 - y else y, prev)

/-- Symbols from bits, `n` of them: the values sent, the bits left, the precoder's value after. A bit that is not there
counts as 0 (R240). -/
def codeSyms (pam prec inv : Bool) : Nat → List Nat → Nat → List Nat × List Nat × Nat
  | 0, bs, prev => ([], bs, prev)
  | n + 1, bs, prev =>
    let w := if pam then 2 else 1
    let r := codeSym pam prec inv prev (bs.take w)
    let t := codeSyms pam prec inv n (bs.drop w) r.2
    (r.1 :: t.1, t.2.1, t.2.2)

/-- Symbols that `n` bits take. -/
def symsFor (pam : Bool) (n : Nat) : Nat := if pam then (n + 1) / 2 else n

/-- Bits per symbol. -/
def bps (pam : Bool) : Nat := if pam then 2 else 1

/-- R37, R170: the level of a symbol: the outer values 0 and 3 settle at AMP x S / 128, the inner ones at INNER / 256 of it. -/
def State.symLevel (s : State) (c y : Nat) : Int :=
  let q := s.amp c * (s.taps c).sum * 31875
  let i : Int := s.getL F.OCT_LCFG_INNER (lnIx c)
  match y with
  | 0 => -(q * 256)
  | 1 => -(q * i)
  | 2 => q * i
  | _ => q * 256

/-- The pair is in electrical idle whatever its lane does: from the safe-state signal to the gap after it (R48), retired, in the
24 ns of R31, or rate-blocked. -/
def State.pairOff (s : State) (c : Nat) : Bool :=
  (s.chanOf c).held || s.flag F.OCT_FESTAT_RETIRED (chIx c) || (s.octSt (octOf c)).persIdle ||
    hasBit (s.getF F.OCT_PSTAT_RATEBLK (octOf c)) (posOf c)

/-- `n` symbols of `bs` pass on a lane from instant `t`: they leave, and the precoder goes on from the last. While the pair is in
electrical idle none leaves, and the precoder starts from 0 after it (R171). -/
def State.emitSyms (s : State) (c n : Nat) (bs : List Nat) (t : Time) : State × List Nat :=
  let i := lnIx c
  let off := s.pairOff c
  let r := codeSyms (s.pam4 c) (s.flagL F.OCT_LCFG_PREC i) (s.flagL F.OCT_LCFG_TXINV i) n bs (if off then 0 else (s.chanOf c).lane.txPrev)
  let lv := r.1.map (s.symLevel c)
  (if n = 0 then s
   else if off then s.modLane c (fun l => { l with txPrev := 0, lvl := 0 })
   else (s.modLane c (fun l => { l with txPrev := r.2.2, lvl := lv.getLastD l.lvl })).log
     (.symbols c t (s.getL F.OCT_LCFG_INNER i) r.1 lv), r.2.1)

/-! ### Lane requests (R176, R177, R181) -/

/-- LQN and TSQN and the head of the timestamp queue follow the queues (R168, R182). -/
def State.laneShow (s : State) (c : Nat) : State :=
  let l := (s.chanOf c).lane
  let i := lnIx c
  let s1 := (s.setF F.OCT_LSTAT_LQN i l.queue.length).setF F.OCT_LSTAT_TSQN i l.tsq.length
  match l.tsq with
  | e :: _ => s1.setFs i [(F.OCT_TSQHEAD_ID, e.id), (F.OCT_TSQHEAD_STATUS, e.status), (F.OCT_TSQHEAD_VALID, 1),
      (F.OCT_TSQT_LO_FRAC, Time.frac32 e.t), (F.OCT_TSQT_HI_NS, Time.int32 e.t)]
  | [] => s1.setFs i [(F.OCT_TSQHEAD_ID, 0), (F.OCT_TSQHEAD_STATUS, 0), (F.OCT_TSQHEAD_VALID, 0), (F.OCT_TSQT_LO_FRAC, 0),
      (F.OCT_TSQT_HI_NS, 0)]

/-- A request completes with a status and a time; its entry is due in the timestamp queue (R177, R181). -/
def State.laneDone (s : State) (c id status : Nat) (t : Time) : State :=
  let s1 := s.modLane c (fun l => { l with tsPend := l.tsPend ++ [{ id := id, status := status, t := t }] })
  if status = 0 then s1 else s1.incF F.OCT_LMISS_MISS (lnIx c)

/-- The head of the queue leaves it; the entry behind it reaches the head at `t` (R179). -/
def State.laneNext (s : State) (c : Nat) (t : Time) : State :=
  (s.modLane c (fun l => { l with queue := l.queue.drop 1, frame := none, headAt := t })).laneShow c

/-- The time R177 records for MISSED, BUSY and SAFE: the target, or the instant where there is none. -/
def Launch.when (r : Launch) (t : Time) : Time := if r.timed then r.target else t

/-- Idle-fill symbols that start before `t` leave. -/
def State.fillTo (s : State) (c : Nat) (n : Nat) : State :=
  let l := (s.chanOf c).lane
  match l.fill with
  | none => s
  | some f =>
    let nb := n * bps (s.pam4 c)
    let poly := s.getL F.OCT_LCFG_POLY (lnIx c)
    let r := if f.kind = 1 then prbsBits poly nb l.lanePrbs
             else ((List.range nb).map (fun j => bit f.byte ((f.pos + j) % 8)), l.lanePrbs)
    let s1 := (s.emitSyms c n r.1 (s.symAt c l.anchor f.k)).1
    s1.modLane c (fun l => { l with
      lanePrbs := r.2, fill := some { f with pos := (f.pos + nb) % 8, k := f.k + n } })

/-- The grid index at which the idle fill of a lane ends for a preamble at `pre`: the symbol before it ends there or is lengthened
(R179). -/
def State.fillEnd (s : State) (c : Nat) (a pre : Time) : Int :=
  let k := s.symFrom c a pre
  if s.symAt c a k = pre then k else k - 1

/-- Idle-fill symbols that start before `t` leave, as far as a preamble that is decided lets them (R179, R240). -/
def State.fillRender (s : State) (c : Nat) (t : Time) : State :=
  let l := (s.chanOf c).lane
  match l.fill with
  | some f =>
    let k := s.symFrom c l.anchor t
    let e := match l.frame with
      | some q => if q.sending then k else min k (s.fillEnd c l.anchor q.pre)
      | none => k
    s.fillTo c (e - f.k).toNat
  | none => s

/-- Symbols of the frame in transmission, or of the idle fill, that start before `t` leave (R240). -/
def State.laneRender (s : State) (c : Nat) (t : Time) : State :=
  let l := (s.chanOf c).lane
  let s1 := s.fillRender c t
  match l.frame with
  | some f =>
    if f.sending then
      let left := symsFor (s.pam4 c) f.bits.length
      let n := min left (s.symFrom c f.anchor t - (f.k0 + f.k)).toNat
      let r := s1.emitSyms c n f.bits (s.symAt c f.anchor (f.k0 + f.k))
      r.1.modLane c (fun l => { l with
        frame := some { f with bits := r.2, k := f.k + n, safe := f.safe || (decide (0 < n) && (s.chanSafe c || (s.chanOf c).held)) } })
    else s1
  | none => s1

/-- What a lane sends is cut at `t`: the symbols that start before it have left, and the frame in hand completes with a status and
leaves the queue (R165, R167, R173, R183). -/
def State.laneCut (s : State) (c status : Nat) (t : Time) : State :=
  let s0 := s.laneRender c t
  match (s.chanOf c).lane.frame with
  | some f =>
    if f.sending || status = 6 then
      let s1 := s0.laneDone c f.req.id status (if status = 4 ∨ status = 6 then t else f.req.when t)
      (s1.modLane c (fun l => { l with ipgEnd := min l.ipgEnd t })).laneNext c t
    else s0.modLane c (fun l => { l with frame := none })
  | none => s0

/-- Nothing of what the receive side of a lane has received is left (R168, R171). -/
def State.rxRestart (s : State) (c : Nat) : State :=
  s.modLane c (fun l => { l with
    rxPrev := 0, rxCodes := [], rxSlice := 0, rxBits := [], seed := 0, rxIng := none, rxData := [] })

/-- R31, R167, R168: the lane starts again: 24 ns of electrical idle, the precoder and the lane PRBS from their start values, the
grid from `t`; no frame has been received since. -/
def State.laneRestart (s : State) (c : Nat) (t : Time) : State :=
  let poly := s.getL F.OCT_LCFG_POLY (lnIx c)
  let cont := s.getL F.OCT_LCFG_TXSRC (lnIx c) = 1
  let s1 := s.modLane c (fun l => { l with
    anchor := t + (if cont then Time.ofNs 24 else 0), blank := t + Time.ofNs 24, txPrev := 0, lanePrbs := prbsOnes poly,
    fill := if cont then some { kind := 1, byte := 0, pos := 0, k := 0 } else none })
  ((s1.rxRestart c).modChan c (fun x => { x with want := if cont then .signal else .idle })).setF F.OCT_LRXREC_VALID (lnIx c) 0

/-- R173: the continuous lane PRBS begins at `t`: with the first symbol of the grid at or after it, or where the lane has started again
at that instant, at the end of the 24 ns of idle. It goes on from the state that the lane PRBS has (DESIGN CHOICE, log entry 50). -/
def State.lanePrbsOn (s : State) (c : Nat) (t : Time) : State :=
  let l := (s.chanOf c).lane
  let a := if t < l.blank then l.blank else l.anchor
  let k := if t < l.blank then 0 else s.symFrom c l.anchor t
  (s.modLane c (fun l => { l with anchor := a, fill := some { kind := 1, byte := 0, pos := 0, k := k } })).drive c .signal (s.symAt c a k)

/-- R183: the personality leaves protocol: the frame in transmission is cut and every entry completes FLUSH, in order. -/
def State.laneFlush (s : State) (c : Nat) (t : Time) : State :=
  let s1 := s.laneCut c 6 t
  let s2 := (s1.chanOf c).lane.queue.foldl (fun a r => a.laneDone c r.id 6 t) s1
  (((s2.rxRestart c).modLane c (fun l => { l with queue := [], frame := none, fill := none })).setF F.OCT_PSTAT_RATEBLK (octOf c)
    (clearBit (s2.getF F.OCT_PSTAT_RATEBLK (octOf c)) (posOf c))).laneShow c

/-- R165: the rate check of a lane at `t`: a lane that becomes blocked is cut RATE and receives no frame; one whose rate is valid
again leaves the block at a gap and behaves as after R31. -/
def State.rateCheck (s : State) (c : Nat) (gap : Bool) (t : Time) : State :=
  let o := octOf c
  let blk := s.getF F.OCT_PSTAT_RATEBLK o
  if s.pers o ≠ 2 ∨ s.unclocked o then s
  else if s.rateBad c && !hasBit blk (posOf c) then
    ((((s.laneCut c 4 t).rxRestart c).setF F.OCT_PSTAT_RATEBLK o (setBit blk (posOf c))).modLane c (fun l => { l with
      fill := none })).pinShow c t
  else if !s.rateBad c && hasBit blk (posOf c) && gap then
    (((s.setF F.OCT_PSTAT_RATEBLK o (clearBit blk (posOf c))).coefRestart c).laneRestart c t).pinShow c t
  else s

/-! ### Personality (R29 to R31, R105) -/

/-- R381: a return of Clove's channel is refused for cause `rsn`, unless a difference came first; how many differences the
comparison found is not the model's to say. Clove goes on serving the channel as after a TAKE. -/
def State.clvAbort (s : State) (o rsn : Nat) : State :=
  if s.getF F.OCT_CLVSTAT_STATE o = 4 then
    let d := s.anyVal % 4294967296
    ((s.drawn.setFs o [(F.OCT_CLVSTAT_STATE, 2), (F.OCT_CLVSTAT_RETURN_FAIL, 1), (F.OCT_CLVSTAT_RSN, if d = 0 then rsn else 1),
      (F.OCT_CLVDIFF_CNT, d)]).modOct o (fun q => { q with
      shadowBeat := none, retReq := false, clvKind := if q.clvKind = 2 then 1 else q.clvKind }))
  else s

/-- R223: a channel that acquires stops as if RUN = 0 had been written, with PSTOP. -/
def State.acqPstop (s : State) (c : Nat) : State :=
  if s.flag F.ACQ_CTL_RUN c then (s.setF F.ACQ_CTL_RUN c 0).setF F.ACQ_STAT_PSTOP c 1 else s

/-- R31: a new personality takes effect in an octet at `t`. The rule speaks of vectors scheduled inside the 24 ns; of a vector
that started before the change, edges and strobes that fall after it are dropped and it counts as X (DESIGN CHOICE, log entry
45). -/
def State.setPers (s : State) (o p : Nat) (t : Time) : State :=
  let old := s.pers o
  if old = p then s else
    let s := s.clvAbort o 5
    let s1 := if old = 2 then (chansOf o).foldl (fun a c => a.laneFlush c t) s else s
    let s2 := if old = 1 then s1.waveHalt o else s1
    let s2 := (chansOf o).foldl (fun a c => a.acqPstop c) s2
    let s3 := (s2.setL F.OCT_PERS_PERS o p).modOct o (fun x => { x with persIdle := true, persAt := some t })
    let s4 := (chansOf o).foldl (fun a c =>
      let a1 := (a.modChan c (fun x => { x with
        want := a.idleOut o, edges := x.edges.filter (fun e => decide (t ≤ e.vs)),
        vects := x.vects.map (fun v => if v.start < t then { v with expect := 0 } else v) })).coefRestart c
      let a2 := if p = 2 then
          (a1.modLane c (fun l => { l with gens := [127, 511, 32767, 8388607, 2147483647] })).laneRestart c t else a1
      a2.pinShow c t) s3
    if p = 2 then (chansOf o).foldl (fun a c => a.rateCheck c false t) s4 else s4

/-! ### What the receiver sees (R46, R50) -/

/-- The number of the sample that plays at `tm` (R152). -/
def State.sampleNo (s : State) (o : Nat) (tm : Time) : Int :=
  let w := (s.octSt o).wave
  symCeil (s.spread o) (s.flineQ o) (s.getL F.OCT_WFCFG_SDIV o) w.anchor (tm + 1) - 1 + w.base

/-- AMP of a waveform octet's pair for the sample at `tm`: a sample that started before a gap keeps the value of then (R240). -/
def State.ampAt (s : State) (c : Nat) (tm : Time) : Int :=
  match (s.octSt (octOf c)).wave.ampTil with
  | some (u, l) => if tm < u then l.getD (posOf c) (s.amp c) else s.amp c
  | none => s.amp c

/-- The level of a waveform octet's pair at `tm`, from the blocks of the pass in play; a ring slot that plays idle has the idle
level (R147, R148, R160). -/
def State.waveAt (s : State) (c : Nat) (tm : Time) : Int :=
  let o := octOf c
  let w := (s.octSt o).wave
  let k := (s.sampleNo o tm - w.pos).toNat
  match (w.blks.getD (k / 256) none) with
  | some b => codeLevel (s.ampAt c tm) (b.getD (posOf c * 256 + k % 256) 0#8).toNat
  | none => (s.pinLevel c (s.idleOut o)).getD 0

/-- R46: the level that the TX pair of a channel drives at `tm`: settled, or that of the waveform sample or the symbol sent
last. -/
def State.txLevel (s : State) (c : Nat) (tm : Time) : Int :=
  match (s.chanOf c).level with
  | some l => l
  | none => if s.pers (octOf c) = 1 then s.waveAt c tm else ((s.laneRender c tm).chanOf c).lane.lvl

/-- R46: what the receive functions of a channel see: `uv` microvolts at the RX balls, or with NEAR = 1 the TX signal. -/
def State.rxLevel (s : State) (c : Nat) (uv : Int) (tm : Time) : Int :=
  if s.flagL F.OCT_LBCFG_NEAR (chIx c) then s.txLevel c tm else uv * levelUnit

/-- R50: does SIGDET follow a report that the observed signal is above 40 mV peak? With NEAR = 1 the pair must be able to give
such a signal, and a settled level above 40 mV is one. -/
def State.sigAbove (s : State) (c : Nat) (above : Bool) : Bool :=
  let h := s.chanOf c
  if s.flagL F.OCT_LBCFG_NEAR (chIx c) then
    (above && decide (80000 * levelUnit < h.span)) ||
      (match h.level with | some l => decide (40000 * levelUnit < l ∨ l < -(40000 * levelUnit)) | none => false)
  else above

/-- Does a vector that starts at `u` start inside the 24 ns of R31 of its octet? -/
def State.inPersIdle (s : State) (o : Nat) (u : Time) : Bool :=
  match (s.octSt o).persAt with
  | some t => decide (t ≤ u) && decide (u < t + Time.ofNs 24)
  | none => false

/-! ### Edges of a format (R54, R56) -/

/-- The edges that a drive code schedules: position (0 DA, 1 DB, 2 DC) and level. -/
def fmtEdges (fmt code : Nat) : List (Nat × Pin) :=
  match code, fmt with
  | 2, _ => [(0, .idle)]
  | 3, _ => []
  | 1, 0 => [(0, .high)]
  | _, 0 => [(0, .low)]
  | 1, 1 => [(0, .high), (1, .low)]
  | _, 1 => [(0, .low), (1, .low)]
  | 1, 2 => [(0, .high), (1, .high)]
  | _, 2 => [(0, .low), (1, .high)]
  | 1, 3 => [(0, .low), (1, .high), (2, .low)]
  | _, 3 => [(0, .high), (1, .low), (2, .high)]
  | 1, _ => [(0, .high), (1, .idle)]
  | _, _ => [(0, .low), (1, .idle)]

/-- State code of R250; only timed-vector octets are judged (R253), whose pairs drive a level or idle. -/
def Pin.code (p : Pin) : Nat :=
  match p with
  | .low => 0
  | .high => 1
  | .idle => 2
  | .signal => 2
  | .rest => 2

/-- R66: is a strobe at `t` taken, with `r` the last taken of its kind? -/
def strobeOk (r : Option Time) (t : Time) : Bool :=
  match r with
  | some u => decide (u + Time.ofQ 40 ≤ t)
  | none => true

/-- R66: which strobes of a channel's vectors are taken, in vector order from the references `ra` and `rb` of the vectors before them.
A strobe whose instant has passed stands. -/
def strobesIn : Option Time → Option Time → List Vect → List Vect
  | _, _, [] => []
  | ra, rb, v :: l =>
    let oa := if v.saDone then v.saOk else strobeOk ra v.sa
    let ob := if v.sbDone then v.sbOk else strobeOk rb v.sb
    { v with saOk := oa, sbOk := ob } :: strobesIn (if oa then some v.sa else ra) (if ob then some v.sb else rb) l

/-- A vector on a channel: its edges and strobes are scheduled in the timing entry in force (R57, R62, R66),
at the instants of a line clock that spreads (R366). -/
def State.putVector (s : State) (c tset e wid beat idx : Nat) (t : Time) (drive expect : Nat) : State :=
  let i := tsIx c tset
  let sa := s.pinAt c (t + Time.ofQ (s.getL F.OCT_TSSA_SA i))
  let sb := s.pinAt c (t + Time.ofQ (s.getL F.OCT_TSSB_SB i))
  let st := s.pinAt c t
  let ed := (fmtEdges (s.getL F.OCT_TSPER_FMT i) drive).map (fun p =>
    ({ t := s.pinAt c (t + Time.ofQ (match p.1 with
          | 0 => s.getL F.OCT_TSDA_DA i
          | 1 => s.getL F.OCT_TSDB_DB i
          | _ => s.getL F.OCT_TSDC_DC i)),
       vs := st, lvl := p.2, pos := p.1, beat := beat, idx := idx } : Edge))
  let v : Vect :=
    { start := st, beat := beat, idx := idx, drive := drive, expect := expect, sa := sa, sb := sb,
      smode := s.flagL F.OCT_TSPER_SMODE i, eng := e, wid := wid, saOk := true, sbOk := true,
      per := s.pinAt c (t + Time.ofQ (s.per c tset)) - st }
  s.modChan c (fun k => { k with
    edges := k.edges ++ ed,
    vects := strobesIn k.saRef k.sbRef (insertBefore (fun w => decide (st < w.start)) v k.vects) })

/-! ### Hold intervals (R118) -/

/-- Does a word of an engine other than `k`, in issue or still being read, drive the channel? -/
def State.drivenBy (s : State) (k c : Nat) : Bool :=
  engines.any (fun e => e != k &&
    ((match (s.engOf e).cur with | some w => hasBit w.mask c && (s.engOf e).post.isNone | none => false) ||
      (s.engOf e).fetches.any (fun f => f.oct == octOf c && hasBit f.pos (posOf c))))

/-- One vector of a hold interval: KEEP with expect X in the timing set in force, counted in the index (R118). -/
def State.putHold (s : State) (c e beat idx : Nat) (t per : Time) : State :=
  (s.putVector c (s.chanOf c).gridSet e 0 beat idx t 3 0).modChan c (fun k => { k with
    gridNext := t + per, gridIdx := idx + 1, read := k.read ++ [(beat, idx, t, t + per)] })

/-- R118: up to `n` vectors of the hold interval of a channel that start before `lim`. -/
def State.holdGo (s : State) (x c e : Nat) (lim : Time) : Nat → State
  | 0 => s
  | n + 1 =>
    let h := s.chanOf c
    let d := s.sched x
    let per := Time.ofQ (s.per c h.gridSet)
    let g := d.grid h.gridNext h.gridIdx per h.gridNext
    if g.1 < lim then (s.putHold c e (d.beatOf g.1) g.2 g.1 per).holdGo x c e lim n else s

/-- R118: every vector of the hold interval of a channel that starts before `lim`; none while another engine drives it. -/
def State.holdTo (s : State) (x c e : Nat) (lim : Time) : State :=
  if s.drivenBy e c then s
  else s.holdGo x c e lim ((lim - max (s.chanOf c).gridNext (s.sched x).b0) / Time.ofQ (s.per c (s.chanOf c).gridSet) + 2)

/-- R118, R142, R263: the channels of engine `e` whose hold interval is in progress: of the group driven last while no word is
in issue or its post waits (R261), and those of a suspended burst. -/
def State.holdMask (s : State) (e : Nat) : Nat :=
  let g := s.engOf e
  let here := if g.cur.isNone || g.post.isSome then g.lastMask else 0
  let there := match g.saved with | some v => v.lastMask | none => 0
  let busy := match g.cur with | some w => w.mask | none => 0
  here ||| (there &&& (18446744073709551615 - busy))

/-- The hold vectors of engine `e` that start before `lim`, on the channels of a mask. -/
def State.holdAll (s : State) (x e m : Nat) (lim : Time) : State :=
  (maskChans m).foldl (fun a c => a.holdTo x c e lim) s

end Sys2Proof.Machine
end

