-- ==== Sys2Proof/Machine/CapOps.lean ====
section
/-! DEFINITION. Fail counting, capture candidates, records and pages (R187 to R209). -/

namespace Sys2Proof.Machine

/-! ### Bytes -/

/-- Words as bytes. -/
def wordsBytes (l : List Nat) : List Byte := l.flatMap (leBytes 4)

/-- `l` padded with zeros to `n` bytes. -/
def padTo (n : Nat) (l : List Byte) : List Byte := l ++ List.replicate (n - l.length) 0

/-- A record (R195): TYPE, CQ, CH, SUSPECT, REASON of a GAP, beat, time, and what follows word 3. -/
def recordBytes (typ q ch reason beat : Nat) (susp : Bool) (t : Time) (body : List Byte) : List Byte :=
  let w0 := typ + q * 16 + (16 + body.length) / 8 * 256 + ch * 131072 + (if susp then 8388608 else 0) + reason * 16777216
  wordsBytes [w0, beat, Time.frac32 t, Time.int32 t] ++ body

/-! ### Sets and spans (R190, R191) -/

/-- Index of capture set `q` of site `x`. -/
def cqIx (x q : Nat) : Nat := x * 16 + q

/-- The channels of a set in force. -/
def State.cqChm (s : State) (x q : Nat) : Nat :=
  (s.getL F.SITE_CQCHM_LO_CHM (cqIx x q) + s.getL F.SITE_CQCHM_HI_CHM (cqIx x q) * 4294967296) &&& s.chm x

/-- Does set `q` take source `src` of a channel? -/
def State.cqTakes (s : State) (x q src c : Nat) : Bool :=
  s.getL F.SITE_CQCFG_SRC (cqIx x q) == src && hasBit (s.cqChm x q) c

/-- A START–STOP span of set `q` holds the instant. -/
def CapSt.inSpan (k : CapSt) (q : Nat) (t : Time) : Bool :=
  k.spans.any (fun p => p.1 == q && decide (p.2.1 ≤ t) && (match p.2.2 with | some e => decide (t < e) | none => true))

/-- The completed WORD span of set `q` that holds the instant. -/
def CapSt.finOf (k : CapSt) (q : Nat) (t : Time) : Option (Nat × Time × Time) :=
  k.fin.find? (fun p => p.1 == q && decide (p.2.1 ≤ t) && decide (t < p.2.2))

/-- A WORD span still in progress may claim the instant. -/
def CapSt.inWord (k : CapSt) (q : Nat) (t : Time) : Bool := k.words.any (fun w => w.q == q && decide (w.s0 ≤ t))

/-- The capture of site `x`. -/
def State.capOf (s : State) (x : Nat) : CapSt := (s.siteOf x).cap

/-- The decimation exponent d. -/
def State.dec (s : State) (x : Nat) : Nat := s.getF F.SITE_CAPSTAT_DEC x

/-! ### Pages (R198 to R201, R205) -/

/-- SUSED follows the pages in staging (R202, R207). -/
def State.capShow (s : State) (x : Nat) : State :=
  s.setF F.SITE_CSTG_SUSED x ((s.capOf x).staged.length + (s.capOf x).page.toList.length)

/-- May a page be opened when `n` pages will lie in staging beside it? -/
def State.stageRoom (s : State) (x n : Nat) : Bool := decide (n + 1 ≤ s.ssize x)

/-- Record bytes of a page. -/
def Page.size (p : Page) : Nat := p.recs.length + p.tail.flatten.length

/-- The records that stand apart join the others. -/
def Page.settle (p : Page) : Page :=
  { p with recs := p.recs ++ p.tail.flatten, susp := p.susp || !p.tail.isEmpty, tail := [] }

/-- A page that opens at `t` with nothing in it. -/
def emptyPage (d beat : Nat) (t : Time) : Page := { dec := d, beat := beat, openT := t }

/-- A record enters a page at `t`; `sus` for a SUSPECT record, which stands apart until a later instant (R209). -/
def Page.add (p : Page) (beat : Nat) (r : List Byte) (gap susp sus : Bool) (t : Time) : Page :=
  if sus then
    if p.tailT = t then { p with tail := p.tail ++ [r] } else { p.settle with tail := [r], tailT := t }
  else
    let q := if t ≤ p.tailT then { p with beat := if p.recs = [] then beat else p.beat } else p.settle
    { q with recs := q.recs ++ r, gap := q.gap || gap, susp := q.susp || susp }

/-- SUSPECT records wait in staging outside the site's share, up to 72 of them (R208). -/
def State.holdSuspects (s : State) (x : Nat) (l : List (List Byte)) : State :=
  s.modCap x (fun k => { k with susp := (k.susp ++ l).take 72 })

/-- The open page closes at `t` (R200, R201). SUSPECT records of that instant enter the next page (R209): they open it, and a page
that holds nothing else has only just opened. -/
def State.closePage (s : State) (x : Nat) (early stop : Bool) (t : Time) : State :=
  match (s.capOf x).page with
  | none => s
  | some p =>
    let apart := p.tailT = t ∧ p.tail ≠ []
    if apart ∧ p.recs = [] then s.modCap x (fun k => { k with page := some { p with dec := s.dec x } })
    else
      let q := { (if apart then { p with tail := [] } else p.settle) with
        seq := s.getF F.SITE_CSEQ_SEQ x, early := early, stop := stop, closeNs := Time.ns32 t }
      let s1 := (s.modCap x (fun k => { k with page := none, staged := k.staged ++ [q] })).incF F.SITE_CSEQ_SEQ x
      (if apart then
        if s1.stageRoom x (s1.capOf x).staged.length then
          s1.modCap x (fun k => { k with page := some { emptyPage (s.dec x) p.beat t with tail := p.tail, tailT := t } })
        else s1.holdSuspects x p.tail
      else s1).capShow x

/-- Closes that XFER 0x2 and 0x3 made due at or before `t` (R201). -/
def State.capDue (s : State) (x : Nat) (t : Time) : State :=
  match (s.capOf x).closeAt.filter (fun u => decide (u.1 ≤ t)) with
  | [] => s
  | u :: _ =>
    (s.closePage x true false u.1).modCap x (fun k => { k with closeAt := k.closeAt.filter (fun v => decide (t < v.1)) })

/-- A new d from `t` on: the open page, which carries its own, closes (R201, R204). -/
def State.setDec (s : State) (x d : Nat) (t : Time) : State :=
  if d = s.dec x then s else
    let s1 := ((s.setF F.SITE_CAPSTAT_DEC x d).closePage x true false t).modCap x (fun k => { k with
      decs := ((t, s.dec x) :: k.decs).take 128 })
    if s.dec x < d then (s1.setF F.SITE_CAPSTAT_REDUCED x 1).raiseVf x 14 else s1

/-- The d in force at instant `u`, when `cur` is in force now (R203). -/
def CapSt.decAt (k : CapSt) (cur : Nat) (u : Time) : Nat :=
  match (k.decs.filter (fun p => decide (u < p.1))).getLast? with
  | some p => p.2
  | none => cur

/-- R205: a record found no room: nothing is stored from `t` on, and d rises at once. -/
def State.overrunAt (s : State) (x : Nat) (t : Time) : State :=
  let s1 := ((s.setF F.SITE_CAPSTAT_OVERRUN x 1).raiseVf x 14).modCap x (fun k => { k with overrun := some t, ovrWin := true })
  s1.setDec x (min 8 (s.dec x + 1)) t

/-- A record enters the open page, or a page that it opens; `false` when there is no room for either (R201, R205). -/
def State.openRec (s : State) (x beat : Nat) (r : List Byte) (gap susp sus : Bool) (t : Time) : State × Bool :=
  match (s.capOf x).page with
  | some p =>
    if p.size + r.length ≤ 4056 then (s.modCap x (fun c => { c with page := some (p.add beat r gap susp sus t) }), true)
    else (s.overrunAt x t, false)
  | none =>
    if s.stageRoom x (s.capOf x).staged.length then
      ((s.modCap x (fun c => { c with page := some ((emptyPage (s.dec x) beat t).add beat r gap susp sus t) })).capShow x, true)
    else (s.overrunAt x t, false)

/-- A record enters at `t`. A page that it does not fit into closes as full, whether or not another can open (R201, R205). -/
def State.enterRec (s : State) (x beat : Nat) (r : List Byte) (gap susp sus : Bool) (t : Time) : State × Bool :=
  match (s.capOf x).page with
  | some p => (if p.size + r.length ≤ 4056 then s else s.closePage x false false t).openRec x beat r gap susp sus t
  | none => s.openRec x beat r gap susp sus t

/-- Is nothing stored for the site now (R205, R206)? -/
def State.notStoring (s : State) (x : Nat) : Bool := (s.capOf x).overrun.isSome || s.flag F.SITE_CAPSTAT_STOPPED x

/-- One more candidate of a type (1 to 4) in the counts of a GAP record (R196, R197). -/
def oneMore (l : List Nat) (typ : Nat) : List Nat := (List.range 4).map (fun j => satAt 32 (l.getD j 0 + if j + 1 = typ then 1 else 0))

/-- R197: a candidate of a type whose place in time is `u` is not stored: it counts in the lost span that holds `u`, of the overrun or of
the stop after it. One that began before the span counts in none (DESIGN CHOICE, log entry 63). -/
def CapSt.lose (k : CapSt) (typ : Nat) (u : Time) : CapSt :=
  match k.stopped, k.overrun with
  | some a, _ =>
    if a ≤ u then { k with lost := oneMore k.lost typ }
    else { k with gaps := k.gaps.map (fun g => if g.2.1 ≤ u ∧ u < g.2.2.1 then (g.1, g.2.1, g.2.2.1, oneMore g.2.2.2 typ) else g) }
  | none, some a => if a ≤ u then { k with lost := oneMore k.lost typ } else k
  | none, none => k

/-- R197: a candidate of site `x` is not stored. -/
def State.lose (s : State) (x typ : Nat) (u : Time) : State := s.modCap x (fun k => k.lose typ u)

/-- A kept candidate enters the page (R201), or begins or falls into an overrun (R205). -/
def State.enterCand (s : State) (x : Nat) (c : Cand) : State :=
  let s0 := s.capDue x c.charge
  if s0.notStoring x then s0.lose x c.typ c.u
  else
    let susp := decide (c.typ ≤ 2) && (s0.capOf x).suspChans.contains (c.ch, c.beat)
    let r := s0.enterRec x c.beat (recordBytes c.typ c.q c.ch 0 c.beat susp c.t c.body) false susp false c.charge
    if r.2 then r.1 else r.1.lose x c.typ c.u

/-- Every candidate that waits enters. -/
def State.capDrain (s : State) (x : Nat) : State :=
  (s.capOf x).cands.foldl (fun a c => a.enterCand x c) (s.modCap x (fun k => { k with cands := [] }))

/-- Bytes of a candidate's record. -/
def Cand.size (c : Cand) : Nat := 16 + c.body.length

/-- A candidate is charged to the window that holds its charge instant, a boundary belonging to the window it opens (R203, R209):
it waits for a window not yet begun, and the d in force at that instant keeps it when its number is a multiple of 2^d (R194).
Of a window that has ended the rules of R204 are past, and its bytes count in no other. One whose place lies in a lost span that a GAP
record has stated is counted there, and not stored (R197). -/
def State.chargeCand (s : State) (x : Nat) (c : Cand) : State :=
  let k := s.capOf x
  if k.past.any (fun p => decide (p.1 ≤ c.u) && decide (c.u < p.2)) then s
  else if k.winStart + Time.ofNs 1024 ≤ c.charge then s.modCap x (fun v => { v with ahead := v.ahead ++ [c] })
  else if s.notStoring x then s.lose x c.typ c.u
  else
    let keep := c.num % 2 ^ k.decAt (s.dec x) c.charge == 0
    s.modCap x (fun v => { v with
      window := if k.winStart ≤ c.charge then v.window ++ [(c.num, c.size, keep)] else v.window,
      cands := if keep then v.cands ++ [c] else v.cands })

/-- The candidates that wait for a window that begins before `t` are charged. -/
def State.chargeAhead (s : State) (x : Nat) (t : Time) : State :=
  let k := s.capOf x
  (k.ahead.filter (fun c => decide (c.charge < t))).foldl (fun a c => a.chargeCand x c)
    (s.modCap x (fun v => { v with ahead := v.ahead.filter (fun c => !decide (c.charge < t)) }))

/-- A candidate of set `q` whose place in time is `u`: charged at `t` in a START–STOP span, at E(W) in a completed WORD span, held
for a WORD span in progress, or none (R191, R203). -/
def State.offerCand (s : State) (x : Nat) (u t : Time) (c : Cand) : State :=
  let k := s.capOf x
  if k.inSpan c.q u then s.chargeCand x { c with charge := t }
  else match k.finOf c.q u with
    | some p => s.chargeCand x { c with charge := p.2.2 }
    | none => if k.inWord c.q u then s.modCap x (fun v => { v with held := v.held ++ [c] }) else s

/-- Does any span of set `q` hold or claim the instant? -/
def CapSt.any (k : CapSt) (q : Nat) (t : Time) : Bool := k.inSpan q t || (k.finOf q t).isSome || k.inWord q t

/-- The number of a channel's candidate in a set since the beat start, and the count after it (R193, R194). -/
def State.candNum (s : State) (x q c : Nat) : Nat := Tbl.get (fun _ => 0) (s.capOf x).counts (q * 64 + c)

/-- Count a candidate of a channel in a set. -/
def State.candCount (s : State) (x q c : Nat) : State :=
  s.modCap x (fun k => { k with counts := Tbl.set (fun _ => 0) k.counts (q * 64 + c) (s.candNum x q c + 1) })

/-- R208: a SUSPECT record of a channel and the beat in progress; while nothing is stored it is held, up to 72 of them. -/
def State.suspect (s : State) (x ch beat : Nat) (t : Time) : State :=
  let r := recordBytes 6 0 ch 0 beat false t []
  let s1 := ((s.capDrain x).capDue x t).modCap x (fun k => { k with suspChans := k.suspChans ++ [(ch, beat)] })
  if s1.notStoring x then s1.holdSuspects x [r]
  else
    let e := s1.enterRec x beat r false true true t
    if e.2 then e.1.setF F.SITE_CAPSTAT_SUSPECT x 1 else e.1.holdSuspects x [r]

/-! ### Fails (R187, R188, R196) -/

/-- What a fail says beside its channel (R196): kind, index, beat, and the second content word. -/
structure FailInfo where
  kind : Nat
  idx : Nat
  beat : Nat
  w5 : Nat
  deriving DecidableEq, Repr

/-- FCNT and the first fail of a channel (R187, R188). -/
def State.countFail (s : State) (c : Nat) (f : FailInfo) : State :=
  let i := chIx c
  let s1 := s.satF F.OCT_FCNT_FCNT i 1
  if s.flag F.OCT_FCTL_FFV i then s1
  else s1.setFs i [(F.OCT_FFIDX_FFIDX, f.idx), (F.OCT_FFBEAT_FFBEAT, f.beat), (F.OCT_FCTL_FFV, 1), (F.OCT_FCTL_FFKIND, f.kind)]

/-- A fail of a channel completes at `t`: it is counted, and offered to every set with SRC = FAIL (R187, R191, R193). -/
def State.failAt (s : State) (c : Nat) (t : Time) (f : FailInfo) : State :=
  let s1 := (s.countFail c f).modChan c (fun h => { h with
    fails := if f.kind = 1 then h.fails else h.fails ++ [(f.beat, f.idx / 64)] })
  match s.owner c with
  | none => s1
  | some x =>
    (List.range 16).foldl (fun a q =>
      if a.cqTakes x q 0 c && (a.capOf x).any q t then
        let n := a.candNum x q c
        let lim := a.getL F.SITE_CQCFG_FLIM (cqIx x q)
        let a1 := a.candCount x q c
        if lim = 0 || decide (n < lim) then
          a1.offerCand x t t { typ := 1, q := q, ch := c, num := n, beat := f.beat, t := t, u := t, charge := t,
                               body := wordsBytes [f.idx, f.w5] }
        else a1
      else a) s1

/-! ### Units (R192) -/

/-- An entry joins the unit in progress; a unit that it completes comes out. An entry out of order starts no unit. -/
def unitStep (u : Option UnitSt) (beat idx v : Nat) (t : Time) : Option UnitSt × Option UnitSt :=
  let cur : Option UnitSt :=
    if idx % 64 = 0 then some { beat := beat, num := idx / 64, t0 := t, vals := [v] }
    else match u with
      | some k => if k.beat = beat ∧ k.num = idx / 64 ∧ k.vals.length = idx % 64 then some { k with vals := k.vals ++ [v] } else none
      | none => none
  match cur with
  | some k => if k.vals.length = 64 then (none, some k) else (some k, none)
  | none => (none, none)

/-- 64 two-bit entries as 16 bytes (R196). -/
def bitsBody (l : List Nat) : List Byte := leBytes 16 (l.reverse.foldl (fun a v => a * 4 + v) 0)

/-- A complete unit of BITS (`src` 1) or SAMPLES (`src` 2), its 64th entry taken at `t`, is offered to every set that takes it
and whose FONLY is one of `only` (R192, R193). -/
def State.unitTo (s : State) (c src : Nat) (u : UnitSt) (t : Time) (only : List Bool) : State :=
  match s.owner c with
  | none => s
  | some x =>
    let body := if src = 1 then bitsBody u.vals else u.vals.map (fun v => BitVec.ofNat 8 v)
    (List.range 16).foldl (fun a q =>
      if a.cqTakes x q src c && only.contains (a.flagL F.SITE_CQCFG_FONLY (cqIx x q)) then
        a.offerCand x u.t0 t { typ := src + 1, q := q, ch := c, num := u.num, beat := u.beat, t := u.t0, u := u.t0, charge := t, body := body }
      else a) s

/-- Is it still open whether a complete unit of a channel that ended at `t` holds a fail (R193)? One of its vectors is not yet judged, a
checker bit error of it is not yet counted, or a frame that it may overlap is being received or may yet be found: its start delimiter may
have begun before `t`. -/
def State.unitWaits (s : State) (c src : Nat) (u : UnitSt) (t : Time) : Bool :=
  let h := s.chanOf c
  let i := lnIx c
  h.lane.rxIng.isSome || !h.lane.rxFull.isEmpty || h.lane.errs.any (fun e => e.2.2 == u.beat && e.2.1 / 64 == u.num) ||
    (s.pers (octOf c) == 2 && s.flagL F.OCT_LCFG_RXFRM i && s.flag F.OCT_LSTAT_LOCK i &&
      decide ((h.lane.rxBits.filter (fun b => decide (t ≤ b.2))).length < s.getL F.OCT_LRXFMT_SDBITS i)) ||
    (src == 2 && h.vects.any (fun v => v.beat == u.beat && v.idx / 64 == u.num && !v.done))

/-- R193: a complete unit: FONLY keeps it when it holds a fail; while that is open the unit waits. -/
def State.unitDone (s : State) (c src : Nat) (u : UnitSt) (t : Time) : State :=
  let h := s.chanOf c
  if h.fails.contains (u.beat, u.num) then s.unitTo c src u t [true, false]
  else
    let s1 := s.unitTo c src u t [false]
    if s.unitWaits c src u t then s1.modChan c (fun k => { k with late := k.late ++ [(src, u, t)] }) else s1

/-- The units of a channel that waited and wait no longer: kept when they hold a fail (R193). -/
def State.lateUnits (s : State) (c : Nat) : State :=
  let h := s.chanOf c
  let holds := fun (p : Nat × UnitSt × Time) => h.fails.contains (p.2.1.beat, p.2.1.num)
  h.late.foldl (fun a p => if holds p then a.unitTo c p.1 p.2.1 p.2.2 [true] else a)
    (s.modChan c (fun k => { k with late := k.late.filter (fun p => !holds p && s.unitWaits c p.1 p.2.1 p.2.2) }))

/-- The frame of a channel that began at `st` has ended, its last symbol at `fin`: where it failed its CRC, the units that it overlaps hold
a fail (R193): the waiting ones that had not ended when it began, and of those and the ones in progress those that began before it
ended. -/
def State.frameUnits (s : State) (c : Nat) (bad : Bool) (st fin : Time) : State :=
  (s.modChan c (fun k => { k with
    fails := if bad then
        k.fails ++ ((k.bits.toList ++ k.samples.toList ++ (k.late.filter (fun p => decide (st < p.2.2))).map (fun p => p.2.1)).filter
          (fun u => decide (u.t0 < fin))).map (fun u => (u.beat, u.num))
      else k.fails })).lateUnits c

/-- R197: the units in progress on the channels of a site that sets of it would record, with what FONLY knows of them: type and place in
time. -/
def State.openUnits (s : State) (x : Nat) : List (Nat × Time) :=
  (List.range 16).flatMap (fun q => (s.siteChans x).flatMap (fun c =>
    let h := s.chanOf c
    (([(1, h.bits), (2, h.samples)] : List (Nat × Option UnitSt))).filterMap (fun p => match p.2 with
      | some u =>
        if s.cqTakes x q p.1 c && (s.capOf x).any q u.t0 &&
            (!s.flagL F.SITE_CQCFG_FONLY (cqIx x q) || h.fails.contains (u.beat, u.num)) then some (p.1 + 1, u.t0) else none
      | none => none)))

/-- R197: storing resumes at `t` after the lost spans that the GAP records state: what belongs to them and is not yet complete counts in
them now: candidates that wait for a window or that a WORD span holds, and units in progress. None of it is stored. -/
def State.lostRest (s : State) (x : Nat) (t : Time) : State :=
  let k := s.capOf x
  let a := match k.gaps.head?, k.overrun, k.stopped with
    | some g, _, _ => g.2.1
    | none, some u, _ => u
    | none, none, some u => u
    | none, none, none => t
  let here := fun (c : Cand) => decide (a ≤ c.u) && decide (c.u < t)
  let l := ((k.ahead ++ k.held).filter here).map (fun c => (c.typ, c.u)) ++
    (s.openUnits x).filter (fun p => decide (a ≤ p.2) && decide (p.2 < t))
  s.modCap x (fun v =>
    let w := l.foldl (fun b p => b.lose p.1 p.2) v
    { w with ahead := w.ahead.filter (fun c => !here c), held := w.held.filter (fun c => !here c), past := ((a, t) :: w.past).take 4 })

end Sys2Proof.Machine
end

