-- ==== Sys2Proof/Machine/Act.lean ====
section
/-! DEFINITION. Pin-time actions of a word, each at its own instant (R108, R117, R123, R126), and the match function. -/

namespace Sys2Proof.Machine

/-- The first waiting action of engine `e` that `p` names, and the state without it. -/
def State.takeAct (s : State) (e : Nat) (p : Act → Bool) : Option (PinAct × State) :=
  match takeFirst (fun a => p a.act) (s.engOf e).acts with
  | some (a, rest) => some (a, s.modEng e (fun g => { g with acts := rest }))
  | none => none

/-- R94: the FLASH group of every engine that runs a burst of the site shows a code. -/
def State.flashShow (s : State) (x code : Nat) : State :=
  engines.foldl (fun a e =>
    match (a.engOf e).item with
    | some i => if i.site == x then a.modEng e (fun g => { g with flash := code }) else a
    | none => a) s

/-- A flash code of a site goes out, and this chip's own engines see it (R94, R302); held by FLSLOT it waits (R326). -/
def State.codeFlash (s : State) (x code : Nat) : State :=
  let s1 := s.siteFlash x 0 code 0
  if (s.siteOf x).flUsed < s.flslot x then s1.flashShow x code else s1

/-- R108: an 8 ns pulse on each selected trigger output slot of the site. -/
def State.pulses (s : State) (x mask : Nat) (t : Time) : State :=
  [0, 1, 2, 3].foldl (fun a k =>
    if hasBit mask k then
      match a.trgOut x k with
      | some b => a.log (.trg b t)
      | none => a
    else a) s

/-- R108: TRIGO at E(W). -/
def execTrigoPulse (e : Fin 16) (s : State) : Res :=
  match s.takeAct e.val (fun a => match a with | .trigo _ => true | _ => false) with
  | some (a, s1) => match a.act with
    | .trigo m => ok (s1.pulses a.site m a.t)
    | _ => ok s
  | none => ok s

/-- R108, R302: FSIG at E(W). -/
def execFsigSend (e : Fin 16) (s : State) : Res :=
  match s.takeAct e.val (fun a => match a with | .fsig _ => true | _ => false) with
  | some (a, s1) => match a.act with
    | .fsig c => ok (s1.codeFlash a.site c)
    | _ => ok s
  | none => ok s

/-- R108, R446: EVT 1 to 7 raises host events 4 to 10 of the site's VF. -/
def execEvtHostEvent (e : Fin 16) (s : State) : Res :=
  match s.takeAct e.val (fun a => match a with | .evt _ => true | _ => false) with
  | some (a, s1) => match a.act with
    | .evt n => ok (s1.raiseVf a.site (n + 3))
    | _ => ok s
  | none => ok s

/-- R105, R123: a registered MODE change takes effect in every octet of the group that the site owns whole; for another the
change is refused. -/
def execModeChangeEffect (e : Fin 16) (s : State) : Res :=
  match s.takeAct e.val (fun a => match a with | .mode _ _ => true | _ => false) with
  | some (a, s1) => match a.act with
    | .mode code m =>
      ok ((maskOcts m).foldl (fun b o =>
        if b.ownsOct a.site o then b.setPers o (code - 1) a.t else b.setF F.SE_STAT_MODE_REJ e.val 1) s1)
    | _ => ok s
  | none => ok s

/-- R126: the match state of the burst that armed: on the engine, or suspended there (R142); one that has ended has none. -/
def EngSt.arm (g : EngSt) (ser : Nat) (m : MatchSt) : EngSt :=
  if (match g.item with | some i => i.serial == ser | none => false) then { g with mat := m }
  else { g with saved := g.saved.map (fun v => if v.item.serial = ser then { v with mat := m } else v) }

/-- R126, R302: a match is armed at the start of its word; ARMS counts the TAG, clears the site match and sends ARMED. -/
def execMatchArm (e : Fin 16) (s : State) : Res :=
  match s.takeAct e.val (fun a => match a with | .arm _ => true | _ => false) with
  | some (a, s1) => match a.act with
    | .arm site =>
      let s2 := s1.modEng e.val (fun g => g.arm a.ser { armed := true, arms := site, window := a.wid })
      if site then
        let tag := ((s2.siteOf a.site).matchTag + 1) % 8
        ok ((s2.modSite a.site (fun t => { t with matchTag := tag, result := none })).siteFlash a.site 1 0 tag)
      else ok s2
    | _ => ok s
  | none => ok s

end Sys2Proof.Machine
end

