-- ==== Sys2Proof/Machine/Vec.lean ====
section
/-! DEFINITION. Timed vectors (R51 to R84, R119, R125): reading, edges, strobes, compare; the receiver's comparator and
status; the beat-buffer window. -/

namespace Sys2Proof.Machine

/-! ### Beat buffer (R69, R71, R73, R74) -/


/-- Write a byte of a beat buffer. -/
def State.setBb (s : State) (o b : Nat) (v : Byte) : State :=
  { s with bb := Tbl.set (fun _ => 0#8) s.bb (o * 12582912 + b) v }


/-- The byte with one nibble replaced. -/
def putNibble (b : Byte) (hi : Bool) (v : Nat) : Byte :=
  if hi then BitVec.ofNat 8 (b.toNat % 16 + v % 16 * 16) else BitVec.ofNat 8 (b.toNat / 16 * 16 + v % 16)

/-- Set the nibble of column `c` in row `r`. -/
def State.setNibble (s : State) (o r c v : Nat) : State :=
  s.setBb o (r * 4 + c / 2) (putNibble (s.bbByte o (r * 4 + c / 2)) (c % 2 == 1) v)

/-- R71: may site `x` write the nibble of column `c` in row `r`? -/
def State.ownsNibble (s : State) (x o r c : Nat) : Bool :=
  s.ownsCh x (o * 8 + c) && decide (s.rowBase x o ≤ r) && decide (r < s.rowBase x o + s.rowCount x o)

/-- A row byte written for a site: only nibbles that it owns change. -/
def State.bbWriteByte (s : State) (x o b v : Nat) : State :=
  [0, 1].foldl (fun a h =>
    let c := b % 4 * 2 + h
    if s.ownsNibble x o (b / 4) c then a.setNibble o (b / 4) c (v / 16 ^ h) else a) s

/-- Does R436 serve an access of this size at this offset in a memory window? -/
def winSize (off size : Nat) : Bool := [1, 2, 4, 8].contains size && off % size == 0

/-- R71, R436: a host write through the beat-buffer window. -/
def execBbWindowWrite (fn : Fn) (oct : Fin 8) (off size data : Nat) (s : State) : Res :=
  match fn with
  | .pf0 => ok s
  | .vf n =>
    let o := oct.val
    let page := s.getF F.OCT_BBPAGE_PAGE (o * 17 + n.val)
    if s.vfLive fn && winSize off size && decide (off + size ≤ 262144) && decide (page < 48) && !s.flag F.SITE_SSTAT_SCRUB n.val then
      ok ((List.range size).foldl (fun a j => a.bbWriteByte n.val o (page * 262144 + off + j) (data / 256 ^ j % 256)) s)
    else ok s

/-! ### Results to the engine (R94, R125, R126) -/

/-- R126: does word `wid` belong to the window? -/
def MatchSt.holds (m : MatchSt) (wid : Nat) : Bool :=
  m.armed && decide (m.window ≤ wid) && (match m.last with | some p => decide (wid ≤ p.1) | none => true)

/-- The earlier of an instant and one that may be known. -/
def earliest (o : Option Time) (t : Time) : Option Time := some (match o with | some u => min u t | none => t)

/-- One vector of a word, or one result of its lanes, is judged (`some failed`) at `t`, or counts as X (`none`). `more`: compares
of the word are still to come; without them the word's outcome sets out for the engine, and the window's result with it, which
covers every compare up to the word's last one (R94, R126). The compare state, the match state, and what sets out. -/
def cmpStep (c : CmpWord) (m : MatchSt) (vec : Bool) (r : Option Bool) (t : Time) (more : Bool) :
    CmpWord × MatchSt × List CmpArrive :=
  let c1 : CmpWord := { c with
    left := c.left - b2n vec, compared := c.compared + b2n r.isSome, failed := c.failed || r == some true,
    lastAt := if r.isSome then max c.lastAt t else c.lastAt, due := c.due || r.isSome }
  let m1 : MatchSt := if r = some true ∧ m.holds c.wid then { m with failAt := earliest m.failAt t } else m
  let bad : List CmpArrive := if r = some true then [{ fail := true, word := none, window := none }] else []
  if !more && (c1.due || (c1.left == 0 && c1.compared == 0)) then
    let good := match m1.failAt with | some u => decide (c1.lastAt < u) | none => true
    let w := if c1.due && m1.holds c.wid then some (m1.window, c1.lastAt, good) else none
    ({ c1 with due := false }, m1, bad ++ [{ fail := false, word := some (c.wid, c1.failed), window := w }])
  else (c1, m1, bad)

/-- The compares of a list of words with one word's replaced. -/
def putCmp (l : List CmpWord) (c : CmpWord) : List CmpWord := l.map (fun k => if k.wid = c.wid then c else k)

/-- R302: a window result of an ARMS window goes to the site's other chips as PASS or FAIL. -/
def State.passFlash (s : State) (x : Nat) (arms : Bool) (l : List CmpArrive) : State :=
  if arms then
    l.foldl (fun a r => match r.window with
      | some (_, _, v) => a.siteFlash x 1 (if v then 1 else 2) (a.siteOf x).matchTag
      | none => a) s
  else s

/-- A judgement of word `wid` of engine `e` (R94, R126), whose burst runs or is suspended (R142). -/
def State.cmpDone (s : State) (e wid : Nat) (vec : Bool) (r : Option Bool) (t : Time) : State :=
  let g := s.engOf e
  match g.cmps.find? (fun c => c.wid == wid) with
  | some c =>
    let q := cmpStep c g.mat vec r t (s.comparesLeft e wid)
    (s.setEng e { g with cmps := putCmp g.cmps q.1, mat := q.2.1, arrivals := g.arrivals ++ q.2.2 }).passFlash g.site g.mat.arms q.2.2
  | none =>
    match g.saved with
    | some v =>
      match v.cmps.find? (fun c => c.wid == wid) with
      | some c =>
        let q := cmpStep c v.mat vec r t (s.comparesLeft e wid)
        (s.setEng e { g with saved := some { v with cmps := putCmp v.cmps q.1, mat := q.2.1, arrivals := v.arrivals ++ q.2.2 } }).passFlash
          v.item.site v.mat.arms q.2.2
      | none => s
    | none => s

/-- R126: a window result reaches the engine: discarded when a later arming has begun, or a result formed later is here. -/
def MatchSt.arrive (m : MatchSt) (a : CmpArrive) : MatchSt :=
  match a.window with
  | some (w, t, v) => if w = m.window ∧ m.formed ≤ t then { m with lmatch := v, result := some v, formed := t } else m
  | none => m

/-- R94: FAIL_LAST with the number of its word: the most recent word whose compares are complete. -/
def CmpArrive.last (a : CmpArrive) (fl : Bool) (fw : Nat) : Bool × Nat :=
  match a.word with
  | some (w, f) => if fw ≤ w then (f, w) else (fl, fw)
  | none => (fl, fw)

/-- R302: a result of an ARMS window that the match state takes is the chip's own most recently formed one. -/
def State.ownResult (s : State) (x : Nat) (m : MatchSt) (a : CmpArrive) : State :=
  match a.window with
  | some (w, t, v) => if m.arms ∧ w = m.window ∧ m.formed ≤ t then s.modSite x (fun q => { q with result := some v }) else s
  | none => s

/-- R125, R126, R142: the first result on its way reaches the engine, or the context of the burst suspended there. -/
def execConditionArrive (e : Fin 16) (s : State) : Res :=
  let k := e.val
  let g := s.engOf k
  match g.arrivals with
  | a :: rest =>
    let q := a.last g.failLast g.failWid
    ok ((s.setEng k { g with
      arrivals := rest, failAny := g.failAny || a.fail, failLast := q.1, failWid := q.2, mat := g.mat.arrive a }).ownResult g.site g.mat a)
  | [] =>
    match g.saved with
    | some v =>
      match v.arrivals with
      | a :: rest =>
        let q := a.last v.failLast v.failWid
        ok ((s.setEng k { g with saved := some { v with
          arrivals := rest, failAny := v.failAny || a.fail, failLast := q.1, failWid := q.2, mat := v.mat.arrive a } }).ownResult
            v.item.site v.mat a)
      | [] => ok s
    | none => ok s

/-! ### Reading vectors (R72 to R82, R119) -/

/-- R81, R131, R135: word `f.wid` meets an underrun at vector `idx` that starts at `t`: it drives IDLE from here, the stream
and the engine are told, and the actions of this and later words are cancelled. -/
def State.underrun (s : State) (e slot : Nat) (f : Fetch) (idx : Nat) (t : Time) : State :=
  let g := s.engOf e
  let s1 := (s.setF F.MEM_VSSTAT_UFL slot 1).incF F.MEM_VSUFCNT_UFCNT slot
  let here := (g.cur.toList ++ g.hist).any (fun c => c.wid == f.wid)
  let keepAct := fun (a : PinAct) => decide (a.wid < f.wid) || (a.wid == f.wid && (match a.act with
    | .arm _ => true
    | .mode _ _ => true
    | _ => false))
  s1.modEng e (fun h => { h with
    fetches := (h.fetches.filter (fun q => decide (q.wid ≤ f.wid))).map (fun q => if q.wid = f.wid then { q with dead := true } else q),
    acts := h.acts.filter keepAct, cmps := h.cmps.filter (fun c => decide (c.wid ≤ f.wid)),
    ufl := if here then some (f.wid, idx, t) else h.ufl })

/-- The first record of a word's stream fetch is fixed when its first vector is read: the slot's next record (R100). -/
def State.fixBase (s : State) (e : Nat) (f : Fetch) (slot : Nat) : State × Nat :=
  match f.base with
  | some b => (s, b)
  | none =>
    let b := (s.streamOf slot).taken
    (s.modEng e (fun h => { h with fetches := h.fetches.map (fun q => if q.wid = f.wid then { q with base := some b } else q) }), b)

/-- A record is read from a stream's FIFO (R80). -/
def State.takeRec (s : State) (slot n : Nat) : State :=
  let t := max (s.streamOf slot).taken n
  let s1 := s.setStream slot { s.streamOf slot with taken := t }
  if s.getF F.MEM_VSLEN_LEN slot ≤ t then s1.setF F.MEM_VSSTAT_STATE slot 3 else s1


/-- Vector code at position `p`: from the beat buffer, the stream's FIFO, or the fixed codes of VOP (R73, R74, R100, R337). -/
def State.codeAt (s : State) (f : Fetch) (row : Option Nat) (p sramUe : Nat) : Nat :=
  if f.dead then 2
  else if f.fixed = 1 ∨ s.paceMiss f p then 3
  else if f.fixed = 2 then 2
  else match row with
    | some r => if hasBit sramUe p then 2 else s.nibble f.oct r (s.column f.oct p)
    | none => 2

/-- The period of a word's vectors: the PER in force of the lowest channel of its group (R60, R95). -/
def State.paceOf (s : State) (f : Fetch) : Time := if f.pos = 0 then Time.ns else Time.ofQ (s.per f.paceCh f.paceSet)

/-- R337: the words of 16 rows that the read of row `row` finds uncorrectable, and has not found so before; `sramUe` marks positions. -/
def Fetch.newUe (f : Fetch) (row : Option Nat) (sramUe : Nat) : List (Nat × Nat) :=
  match row with
  | some r => ((List.range 8).filter (fun q => hasBit f.pos q && hasBit sramUe q && !f.ue.contains (q, r / 16))).map (fun q => (q, r / 16))
  | none => []

/-- The positions at which row `row` lies in a word that a fetch has found uncorrectable. -/
def Fetch.ueMask (f : Fetch) (row : Option Nat) : Nat :=
  match row with
  | some r => (List.range 8).foldl (fun a q => if f.ue.contains (q, r / 16) then setBit a q else a) 0
  | none => 0

/-- The next vector of a fetch is read, with the timing in force (R60, R97): `row` is its row, `none` where it drives IDLE. A position
that misses the pace does so for the rest of the word (R97), and the rows of a word that cannot be corrected drive IDLE with expect X
(R337). -/
def State.readVector (s : State) (e x : Nat) (f0 : Fetch) (row : Option Nat) (t : Time) (idx sramUe : Nat) : State :=
  let c := s.sched x
  let beat := c.beatOf t
  let new := if f0.fixed = 0 ∧ f0.dead = false then f0.newUe row sramUe else []
  let f : Fetch := { f0 with miss := s.missMask f0, ue := f0.ue ++ new }
  let ue := f.ueMask row
  let p := s.paceOf f
  let on := (List.range 8).filter (fun q => hasBit f.pos q)
  let ex := fun (q : Nat) => if f.cmpe && !s.paceMiss f q then s.codeAt f row q ue / 4 else 0
  let s0 := if f.miss = f0.miss then s else s.setF F.SE_STAT_PACEMIS e 1
  let s1 := on.foldl (fun a q =>
    let ch := f.oct * 8 + q
    (a.putVector ch (f.tsets.getD q 0) e f.wid beat idx t (s.codeAt f row q ue % 4) (ex q)).modChan ch (fun h => { h with
      read := h.read ++ [(beat, idx, t, t + p)] })) s0
  let s2 := if new.isEmpty then s1 else (s1.addF F.MEM_SUE_CNT 0 new.length).siteFault x 2
  let s3 := s2.modEng e (fun g => { g with
    fetches := (g.fetches.map (fun q =>
      if q.wid = f.wid ∧ q.oct = f.oct then { q with s := t + p, k := f.k + 1, vidx := idx + 1, miss := f.miss, ue := f.ue } else q)).filter
        (fun q => decide (q.k < q.n)) })
  (on.filter (fun q => f.cmpe && ex q == 0)).foldl (fun a _ => a.cmpDone e f.wid true none t) s3

/-- A burst that ended by HALT while a stream still fed it has its last vectors read, and ends (R131). -/
def State.endCheck (s : State) (e : Nat) : State :=
  let g := s.engOf e
  match g.ending with
  | some (st, code) => if g.ufl.isNone && !g.fetches.any (fun f => f.slot.isSome && !f.dead) then s.endBurst e st code false else s
  | none => s

/-- The octet's share of engine `e`'s word that is read next. -/
def EngSt.nextFetch (g : EngSt) (o : Nat) : Option Fetch :=
  best (fun (a b : Fetch) => decide (a.wid < b.wid)) (g.fetches.filter (fun f => f.oct == o))

/-- The site an engine's vectors belong to: of its burst, or of the channels it drove last. -/
def State.vecSite (s : State) (e : Nat) (pos o : Nat) : Nat :=
  match (s.engOf e).item with
  | some i => i.site
  | none => (s.owner (o * 8 + lowest pos)).getD 16

/-- R119: an octet reads the next vector of an engine 48 ns before it starts; `sramUe` marks positions whose stored word
cannot be corrected and `sramCe` counts corrected words (R337). -/
def execVectorRead (oct : Fin 8) (e : Fin 16) (sramUe sramCe : Nat) (s0 : State) : Res :=
  let k := e.val
  let o := oct.val
  let m := s0.holdMask k &&& 255 * 256 ^ o
  let s := (s0.addF F.MEM_SCE_CNT 0 sramCe).holdAll (s0.vecSite k (maskPos m o) o) k m (s0.localNow o + Time.ofNs 48 + 1)
  match (s.engOf k).nextFetch o with
  | none => ok s
  | some f =>
    let x := s.vecSite k f.pos o
    let t := (s.sched x).fit f.s (s.paceOf f)
    let idx := if t = f.s then f.vidx else 0
    match f.slot with
    | none => ok (s.readVector k x f (some (f.rowOf f.k)) t idx sramUe)
    | some sl =>
      if f.dead then ok ((s.readVector k x f none t idx 0).endCheck k)
      else
        let b := s.fixBase k f sl
        let n := b.2 + f.k
        let st := s.getF F.MEM_VSSTAT_STATE sl
        let slow := (List.range 8).any (fun p =>
          hasBit f.pos p && decide (s.per (o * 8 + p) (f.tsets.getD p 0) < s.getF F.MEM_VSRATE_MINPER sl))
        let s1 := if slow then b.1.setF F.MEM_VSSTAT_RATE_EXC sl 1 else b.1
        if (st = 2 ∨ st = 3) ∧ n < (s.streamOf sl).filled then
          ok (((s1.takeRec sl (n + 1)).readVector k x f (some (s.fifoRow sl n)) t idx sramUe).endCheck k)
        else
          ok (((s1.underrun k sl f idx t).readVector k x { f with dead := true } none t idx 0).endCheck k)

/-! ### Edges and strobes (R65, R66, R250) -/

/-- R250: the states carried into a beat's first vector are those at the end of the beat before, whose last edges may fall later. -/
def initNext (l : List (Nat × Nat × Nat)) (beat : Nat) (f : Nat × Nat → Nat × Nat) : List (Nat × Nat × Nat) :=
  l.map (fun p => if p.1 = (beat + 1) % 4294967296 then (p.1, f p.2) else p)

/-- R65: the earliest scheduled edge is driven, or dropped when too close to the last driven one. Edges of vectors inside the
24 ns of R31, or in another personality, are not driven. -/
def execDriveEdge (ch : Fin 64) (s : State) : Res :=
  let c := ch.val
  let h := s.chanOf c
  match best (fun (a b : Edge) => decide (a.t < b.t)) h.edges with
  | none => ok s
  | some d =>
    match takeFirst (fun q => q == d) h.edges with
    | none => ok s
    | some (_, rest) =>
      let s1 := s.setChan c { h with edges := rest }
      if s.pers (octOf c) ≠ 0 ∨ s.inPersIdle (octOf c) d.vs then ok s1
      else
        let close := match h.lastEdge with
          | some u => decide (d.t < u + Time.ofQ 125)
          | none => false
        if close then
          ok (s1.vstat c (fun i a => (a.setF F.OCT_VSTAT_EDGE_DROP i 1).incF F.OCT_EDCNT_EDCNT i))
        else
          let next := best (fun (a b : Edge) => decide (a.t < b.t)) (rest.filter (fun q => decide (d.t < q.t)))
          let dist := match next with
            | some q => min ((q.t - d.t) / 2) Time.ns
            | none => Time.ns
          ok ((s1.modChan c (fun k => { k with
            lastEdge := some d.t, drv := k.drv ++ [(d.beat, d.idx, d.pos, d.lvl.code)],
            beatInit := initNext k.beatInit d.beat (fun q => (d.lvl.code, q.2)),
            pinDue := k.pinDue ++ [(d.beat, d.idx, d.pos, d.t + dist)] })).drive c d.lvl d.t)

/-- Does a vector's compare need the strobe of the kind (`true` for SA) (R67)? -/
def Vect.needs (v : Vect) (a : Bool) : Bool := v.expect != 0 && (a || v.smode || v.expect == 3)

/-- The vectors of a channel's head whose judgement is over leave; each is an entry of BITS capture in timed-vector personality
(R192). -/
def State.retireVects (s : State) (c : Nat) : Nat → State
  | 0 => s
  | n + 1 =>
    match (s.chanOf c).vects with
    | v :: rest =>
      if v.done then
        let u := if s.pers (octOf c) = 0 then unitStep (s.chanOf c).bits v.beat v.idx (b2n v.saLvl + 2 * b2n v.sbLvl) v.start
          else ((s.chanOf c).bits, none)
        let s1 := s.modChan c (fun h => { h with
          vects := rest, bits := u.1, saRef := if v.saOk then some v.sa else h.saRef, sbRef := if v.sbOk then some v.sb else h.sbRef })
        let s2 := match u.2 with
          | some k => s1.unitDone c 1 k v.sb
          | none => s1
        s2.retireVects c n
      else s
    | [] => s

/-- All of them; units of SAMPLES that waited for a judgement may be decided now (R193). -/
def State.retireAll (s : State) (c : Nat) : State := (s.retireVects c (s.chanOf c).vects.length).lateUnits c

/-- The earliest strobe instant not yet past: its instant, its vector's place in the list, and whether it is SA. -/
def nextStrobe (l : List Vect) : Option (Time × Nat × Bool) :=
  best (fun (a b : Time × Nat × Bool) => decide (a.1 < b.1))
    (l.zipIdx.flatMap (fun p =>
      (if p.1.saDone then [] else [(p.1.sa, p.2, true)]) ++ (if p.1.sbDone then [] else [(p.1.sb, p.2, false)])))

/-- R66: the next strobe instant of a channel: the comparator level is taken, or the strobe is skipped; a vector whose
compare needed it then counts as X. -/
def execStrobe (ch : Fin 64) (s : State) : Res :=
  let c := ch.val
  let h := s.chanOf c
  match nextStrobe h.vects with
  | none => ok s
  | some (_, i, a) =>
    match h.vects[i]? with
    | none => ok s
    | some v =>
      let taken := if a then v.saOk else v.sbOk
      let skip := !taken && v.needs a
      let v1 : Vect := if a then { v with saDone := true, saLvl := taken && h.comp } else { v with sbDone := true, sbLvl := taken && h.comp }
      let v2 : Vect := if skip then { v1 with expect := 0 } else v1
      let v3 : Vect := { v2 with done := v2.done || (v2.sbDone && v2.saDone && v2.expect == 0) }
      let s1 := s.setChan c { h with vects := h.vects.set i v3 }
      let s2 := if skip then
          (s1.cmpDone v.eng v.wid true none v.sb).vstat c (fun j b => (b.setF F.OCT_VSTAT_STRB_SKIP j 1).incF F.OCT_SSCNT_SSCNT j)
        else s1
      ok (s2.retireAll c)

/-- R67: does a judged vector fail? -/
def Vect.fails (v : Vect) : Bool :=
  match v.expect with
  | 1 => v.saLvl || (v.smode && v.changed)
  | 2 => !v.saLvl || (v.smode && v.changed)
  | 3 => if v.smode then !v.changed else v.saLvl == v.sbLvl
  | _ => false

/-- ACT of a FAIL record (R196). -/
def Vect.act (v : Vect) : Nat := b2n v.saLvl + 2 * b2n (if v.smode then v.changed else v.sbLvl)

/-- R68, R139: the first vector whose strobes are past is judged at its SB instant; in safe state, inside the 24 ns of R31 and
in another personality it counts as X. -/
def execCompareComplete (ch : Fin 64) (s : State) : Res :=
  let c := ch.val
  let h := s.chanOf c
  match h.vects.findIdx? (fun v => v.saDone && v.sbDone && !v.done) with
  | none => ok s
  | some i =>
    match h.vects[i]? with
    | none => ok s
    | some v =>
      let o := octOf c
      let x := s.chanSafe c || s.pers o != 0 || s.inPersIdle o v.start
      let bad := !x && v.fails
      let s1 := s.setChan c { h with vects := h.vects.set i { v with done := true, failed := bad } }
      let w5 := v.expect * 4 + v.act * 16 + v.drive * 64 + b2n v.smode * 256
      let info : FailInfo := { kind := 0, idx := v.idx, beat := v.beat, w5 := w5 }
      let s2 := if bad then s1.failAt c v.sb info else s1
      ok ((s2.cmpDone v.eng v.wid true (if x then none else some bad) v.sb).retireAll c)

/-! ### Receiver (R41, R43, R48, R50) -/

/-- R43, R46: the input at the RX balls reaches `uv` microvolts at `tm`; the comparator sees it, or with NEAR = 1 the TX signal. -/
def execComparatorEdge (ch : Fin 64) (uv : Int) (tm : Time) (s : State) : Res :=
  ok (s.compInput ch.val (s.rxLevel ch.val uv tm) tm)

/-- R46, R50: SIGDET. A change is the begin or the end of electrical idle at the receiver, after which its precoder starts from 0 (R171;
DEDUCED, log entry 62). -/
def execSigdetChange (ch : Fin 64) (above : Bool) (s : State) : Res :=
  let c := ch.val
  let v := b2n (s.sigAbove c above)
  ok (if s.rxOn then
      (if s.getF F.OCT_FESTAT_SIGDET (chIx c) = v then s else s.modLane c (fun l => { l with rxPrev := 0 })).setF
        F.OCT_FESTAT_SIGDET (chIx c) v
    else s)

/-- R41: with ADAPT = 1 the live coefficients take values that the manual does not state, each from -64 to +64. -/
def execRxAdaptUpdate (ch : Fin 64) (s : State) : Res :=
  let i := chIx ch.val
  if s.rxOn && s.flagL F.OCT_RXCFG_ADAPT i then
    ok ((coefFlds.zipIdx).foldl (fun a p => a.setL p.1 i (Config.lmsCoef p.2 s.free % 129 + 192)) s.drawn)
  else ok s

/-- R48, R171, R183: the safe-state signal reaches an octet: every affected pair is in electrical idle, and stays so until the
next gap after safe state ends; a frame in transmission has a symbol in safe state; a return of Clove's channel fails (R381). -/
def execSafeReachOctet (oct : Fin 8) (s0 : State) : Res :=
  let s := if s0.chanSafe (oct.val * 8 + (s0.octSt oct.val).clvPos) then s0.clvAbort oct.val 2 else s0
  ok ((chansOf oct.val).foldl (fun a c =>
    if s.chanSafe c then
      let b := if s.pers oct.val = 2 then a.laneRender c (s.localNow oct.val) else a
      (b.modChan c (fun h => { h with
        held := true,
        lane := { h.lane with
          txPrev := 0,
          frame := h.lane.frame.map (fun f => if f.sending then { f with safe := true } else f) } })).pinShow c (s.localNow oct.val)
    else a) s)

/-- The end of the 24 ns of R31 of a channel: of its octet, or of its lane alone (R165). -/
def State.idleEnd (s : State) (c : Nat) : Time :=
  let o := octOf c
  let a := match (s.octSt o).persIdle, (s.octSt o).persAt with | true, some t => t + Time.ofNs 24 | _, _ => 0
  max (s.localNow o) (max a (if s.pers o = 2 then (s.chanOf c).lane.blank else 0))

/-- R31, R165: the 24 ns of electrical idle end, and the pairs show the personality's idle output or what has been scheduled. -/
def execPersIdleEnd (oct : Fin 8) (s : State) : Res :=
  ok ((chansOf oct.val).foldl (fun a c => a.pinShow c (s.idleEnd c)) (s.modOct oct.val (fun q => { q with persIdle := false })))

end Sys2Proof.Machine
end

