-- ==== Sys2Proof/Machine/Stream.lean ====
section
/-! DEFINITION. The long-haul streams and the service of DRAM requests (R77 to R83, R340, R345 to R349). -/

namespace Sys2Proof.Machine

/-! ### Streams (R77 to R80) -/

/-- Octets fed by slot `k`, ascending. -/
def State.streamOcts (s : State) (k : Nat) : List Nat := (List.range 8).filter (fun o => hasBit (s.getF F.MEM_VSCFG_OCTM k) o)

/-- Octets fed by slot `k`. -/
def State.streamPc (s : State) (k : Nat) : Nat := popcount 8 (s.getF F.MEM_VSCFG_OCTM k)

/-- BASE of slot `k`. -/
def State.streamBase (s : State) (k : Nat) : Nat := s.getF F.MEM_VSBASE_LO_BASE k + s.getF F.MEM_VSBASE_HI_BASE k * 4294967296

/-- The sum of OCTM counts over MINPER of some slots, as a fraction: 32,000 GB/s times it is their bandwidth (R79). -/
def State.streamRate (s : State) (l : List Nat) : Nat × Nat :=
  l.foldl (fun a k =>
    let d := s.getF F.MEM_VSRATE_MINPER k
    (a.1 * d + s.streamPc k * a.2, a.2 * d)) (0, 1)

/-- R79: is START of slot `k` for site `x` admitted? -/
def State.streamFits (s : State) (x k : Nat) : Bool :=
  let octs := s.streamOcts k
  let chm := maskChans (s.streamChm k)
  let minper := s.getF F.MEM_VSRATE_MINPER k
  let depth := s.getF F.MEM_VSCFG_FDEPTH k
  let fbase := s.getF F.MEM_VSFBASE_FBASE k
  let len := s.getF F.MEM_VSLEN_LEN k
  let others := [0, 1, 2, 3].filter (fun j => j != k && s.getF F.MEM_VSSTAT_STATE j != 0)
  let all := s.streamRate (k :: others)
  let own := s.streamRate (k :: others.filter (fun j => (s.streamOf j).site == some x))
  !octs.isEmpty && decide (1 ≤ len) &&
    chm.all (fun c => octs.contains (octOf c) && s.ownsCh x c) &&
    decide (250 ≤ minper) && decide (minper ≤ 8388608) && decide (1 ≤ depth) && decide (depth ≤ 256) &&
    chm.all (fun c => decide (s.rowBase x (octOf c) ≤ fbase) &&
      decide (fbase + depth * 4096 ≤ s.rowBase x (octOf c) + s.rowCount x (octOf c)) &&
      s.ownsCh x (octOf c * 8 + s.column (octOf c) (posOf c))) &&
    s.streamBase k % 64 == 0 &&
    s.regionsCover x (s.streamBase k + len * (4 * s.streamPc k)) 17 (s.streamBase k) &&
    decide (all.1 * 250 ≤ all.2) && decide (own.1 * 512000 ≤ s.rsvRt x * own.2)

/-- The blocks that hold records `n` to `m - 1` of slot `k` are requested (R80). -/
def State.refillFrom (s : State) (x k n m : Nat) : State :=
  let rl := 4 * s.streamPc k
  let a := (s.streamBase k + n * rl) / 64
  let b := (s.streamBase k + m * rl + 63) / 64
  ((List.range (b - a)).foldl (fun t i => t.request 0 x ((a + i) * 64) (some (k, n, m)) none) s).setStream k
    { s.streamOf k with refill := true }

/-- R80: the FIFO of slot `k` is filled up from DRAM. -/
def State.refill (s : State) (x k : Nat) : State :=
  let st := s.streamOf k
  let m := min (s.getF F.MEM_VSLEN_LEN k) (st.taken + s.getF F.MEM_VSCFG_FDEPTH k * 4096)
  if st.filled < m then s.refillFrom x k st.filled m else s

/-- R349: a stream whose LTOL does not cover L1 holds every channel in L0, and one whose LTOL does not cover L2 none in L2. -/
def State.ltolWake (s : State) (k : Nat) : State :=
  let t := s.getF F.MEM_VSLTOL_LTOL k
  let v := s.getF F.MEM_PDSTAT_LVL 0
  (List.range 16).foldl (fun a d =>
    if t < 2580 ∨ (t < 3160 ∧ bits v (2 * d + 1) (2 * d) = 2) then a.dcWake d else a) s

/-- R79: START. On a slot that is not free it does nothing; where the site that writes holds the slot itself the rule is silent on
ADM_REJ, which stays as it is (DESIGN CHOICE, log entry 31). -/
def execStreamStart (fn : Fn) (slot : Fin 4) (s : State) : Res := s.hostOrder fn true R.MEM_VSCTL slot.val 1 fun s =>
  let k := slot.val
  match fn with
  | .pf0 => ok s
  | .vf n =>
    let x := n.val
    let s := if s.vfLive fn then s.vsFor k x else s
    if s.vfLive fn && s.getF F.MEM_VSSTAT_STATE k == 0 then
      if s.streamFits x k then
        let s1 := s.setFs k [(F.MEM_VSSTAT_STATE, 1),
          (F.MEM_VSLTOL_LTOL, s.getF F.MEM_VSCFG_FDEPTH k * 2048 * s.getF F.MEM_VSRATE_MINPER k / 8000)]
        ok (((s1.setStream k { site := some x, user := some x, base := s.getF F.MEM_DBLFRONT_FRONT x, since := s.nowNs }).ltolWake k).refill
          x k)
      else ok (s.setF F.MEM_VSSTAT_ADM_REJ k 1)
    else ok s

/-- The stream of slot `k` ends. -/
def State.streamEnd (s : State) (k : Nat) : State :=
  let s1 : State := { s with reqs := s.reqs.filter (fun r => match r.slot with | some q => q.1 != k | none => true) }
  (s1.setStream k { user := (s.streamOf k).user }).setF F.MEM_VSSTAT_STATE k 0

/-- R78: STOP, from the site that holds the slot. -/
def execStreamStop (fn : Fn) (slot : Fin 4) (s : State) : Res := s.hostOrder fn true R.MEM_VSCTL slot.val 2 fun s =>
  match (s.streamOf slot.val).site with
  | some x => if s.fnSite fn x then ok (s.streamEnd slot.val) else ok s
  | none => ok s

/-- R350, R356: a stream that started on the tick of a swap takes the new pairing. -/
def State.restream (s : State) (x : Nat) : State :=
  [0, 1, 2, 3].foldl (fun a k =>
    if (a.streamOf k).site = some x ∧ (a.streamOf k).since = s.nowNs then
      let b : State := { a with reqs := a.reqs.filter (fun r => match r.slot with | some q => q.1 != k | none => true) }
      (b.setStream k { site := some x, user := some x, base := s.getF F.MEM_DBLFRONT_FRONT x, since := s.nowNs }).refill x k
    else a) s

/-- R80: a stream whose FIFO is half empty or less, and that still has records in DRAM, asks for them. -/
def execStreamRefill (slot : Fin 4) (s : State) : Res :=
  let k := slot.val
  let st := s.streamOf k
  match st.site with
  | some x =>
    if !st.refill && decide ((st.filled - st.taken) * 2 ≤ s.getF F.MEM_VSCFG_FDEPTH k * 4096) then ok (s.refill x k) else ok s
  | none => ok s

/-- The records of a refill that lie in a block go to the FIFO rows: `byte` gives the block's bytes by address. Only columns
that the site owns are written. -/
def State.fillRows (s : State) (x k n m blk : Nat) (byte : Nat → Nat) : State :=
  let pc := s.streamPc k
  let octs := s.streamOcts k
  (List.range 16).foldl (fun a i =>
    let off := blk + i * 4 - s.streamBase k
    let rec_ := off / (4 * pc)
    if s.streamBase k ≤ blk + i * 4 ∧ n ≤ rec_ ∧ rec_ < m then
      let o := octs.getD (off % (4 * pc) / 4) 0
      (List.range 4).foldl (fun b j => b.bbWriteByte x o (a.fifoRow k rec_ * 4 + j) (byte (blk + i * 4 + j))) a
    else a) s

/-- The first record of slot `k` that some request still waits for; `m` when none does. -/
def State.filledTo (s : State) (k m : Nat) : Nat :=
  (s.reqs.filterMap (fun r => match r.slot with
    | some q => if q.1 = k then some (max q.2.1 ((r.addr - s.streamBase k) / (4 * s.streamPc k))) else none
    | none => none)).foldl min m

/-- A refill's block is in the FIFO: records in order count as filled, and the stream may become ready (R80). -/
def State.blockIn (s : State) (k m : Nat) : State :=
  let f := s.filledTo k m
  let more := s.reqs.any (fun r => match r.slot with | some q => q.1 == k | none => false)
  let s1 := s.setStream k { s.streamOf k with filled := max (s.streamOf k).filled f, refill := more }
  if s.getF F.MEM_VSSTAT_STATE k = 1 ∧
      min (s.getF F.MEM_VSLEN_LEN k) (s.getF F.MEM_VSCFG_FDEPTH k * 4096) ≤ (s1.streamOf k).filled then
    s1.setF F.MEM_VSSTAT_STATE k 2
  else s1

/-- R340: an uncorrectable block: the count, its address, and a site fault. -/
def State.dramUe (s : State) (x a dc : Nat) : State :=
  ((s.incF F.MEM_UECNT_CNT 0).setFs 0 [(F.MEM_UEADDR_LO_A, a), (F.MEM_UEADDR_HI_A, a / 4294967296), (F.MEM_UEADDR_HI_DC, dc)]).siteFault x 3

/-- R340: a block of a backlog page that cannot be corrected is delivered as 0. -/
def State.blotPage (s : State) (x q b : Nat) : State :=
  s.modCap x (fun k => { k with backlog := k.backlog.map (fun p =>
    if p.seq = q then { p with zero := (List.range 8).foldl (fun n i => setBit n (b * 8 + i)) p.zero } else p) })

/-- R326, R345, R346, R340: channel `dc` completes the admitted request that goes first. A retired channel's complete as uncorrectable
(R354); scrub rewrites such a block as 0, and a page of the backlog has it as 0 (R340). While the DRAM is
in self-refresh every request waits (R367, R429). -/
def execDramRequestComplete (dc : Fin 16) (err : MemErr) (s : State) : Res :=
  let d := dc.val
  match best s.reqFirst (s.reqs.filter (fun r => r.dc == d && s.admits r && !s.selfRefresh)) with
  | none => ok s
  | some r =>
    let s1 := ({ s with reqs := s.reqs.filter (fun q => q.num != r.num) } : State).memServe r
    let e := if hasBit (s.getF F.MEM_CHRET_RET 0) d then MemErr.uncorrectable else err
    let pa := r.phys
    let s2 := match e with
      | .clean => s1
      | .corrected => (s1.incF F.MEM_CECNT_CNT 0).incF F.MEM_CHCE_CNT d
      | .uncorrectable =>
        if 16 ≤ r.site ∨ (r.cls = 1 ∧ r.page = none) then s1
        else if r.cls = 3 then ((List.range 64).foldl (fun a k => a.setDram (pa + k) 0#8) s1).dramUe r.site pa d
        else s1.dramUe r.site pa d
    match r.slot, r.page with
    | some (k, n, m), _ =>
      let byte : Nat → Nat := fun a =>
        if e = .uncorrectable then 34
        else if s.dramGone r.site then s.anyVal / 256 ^ (a % 64) % 256
        else (s.dramByte (pa + a % 64)).toNat
      let s3 := if s.dramGone r.site then s2.drawn else s2
      ok ((s3.fillRows r.site k n m r.addr byte).blockIn k m)
    | none, some (q, b) => ok (if e = .uncorrectable then s2.blotPage r.site q b else s2)
    | none, none => ok s2

/-- R348: a channel enters L1 or L2 when the level is enabled, no request is pending there, and every stream tolerates the
exit latency. -/
def execDramPdEnter (dc : Fin 16) (lvl : Fin 3) (s : State) : Res :=
  let d := dc.val
  let v := s.getF F.MEM_PDSTAT_LVL 0
  let old := bits v (2 * d + 1) (2 * d)
  let en := if lvl.val = 1 then s.flag F.MEM_PDCFG_PD1EN 0 else s.flag F.MEM_PDCFG_PD2EN 0
  let need := if lvl.val = 1 then 2580 else 3160
  if old < lvl.val ∧ en ∧ s.reqs.all (fun r => r.dc != d) ∧
      [0, 1, 2, 3].all (fun k => s.getF F.MEM_VSSTAT_STATE k == 0 || decide (need ≤ s.getF F.MEM_VSLTOL_LTOL k)) then
    ok (s.setF F.MEM_PDSTAT_LVL 0 (v - old * 4 ^ d + lvl.val * 4 ^ d))
  else ok s

end Sys2Proof.Machine
end

