-- ==== Sys2Proof/Machine/Wave.lean ====
section
/-! DEFINITION. Waveform segments and the segment ring (R145 to R162). -/

namespace Sys2Proof.Machine

/-! ### Segment entries (R149, R150) -/

/-- Index of a segment entry of an octet. -/
def segIx (o n : Nat) : Nat := o * 4096 + n

/-- Entry `n` of an octet as it stands. -/
def State.segEnt (s : State) (o n : Nat) : SegEnt :=
  let i := segIx o n
  { ent := n, blk := s.getF F.OCT_SEGBLK_BLK i, ngr := s.getF F.OCT_SEGLEN_NGR i, next := s.getF F.OCT_SEGCTL_NEXT i,
    fin := s.flag F.OCT_SEGCTL_END i, ring := s.flag F.OCT_SEGCTL_RING i, trg := s.getF F.OCT_SEGCTL_TRG i,
    flash := s.getF F.OCT_SEGCTL_FLASH i, rpt := s.getF F.OCT_SEGCTL_RPT i }

/-- Do blocks `b` to `b + n - 1` lie in the rows of the site that owns the octet whole? -/
def State.blocksIn (s : State) (o b n : Nat) : Bool :=
  match s.octOwner o with
  | some x => decide (s.rowBase x o ≤ b * 512) && decide ((b + n) * 512 ≤ s.rowBase x o + s.rowCount x o)
  | none => false

/-- R150: is the entry valid? -/
def State.segValid (s : State) (o : Nat) (e : SegEnt) : Bool :=
  s.flag F.OCT_SEGVAL_VALID (segIx o e.ent) && decide (8 ≤ e.ngr) && decide (e.ngr ≤ 6144) &&
    (if e.ring then decide (8 ≤ s.getF F.OCT_WFRING_RSIZE o)
     else decide (e.blk + e.ngr ≤ 6144) && s.blocksIn o e.blk e.ngr)

/-- R154: an invalid entry is read. -/
def State.segErr (s : State) (o : Nat) (e : SegEnt) (v : Bool) : State :=
  if v then s else (s.setF F.OCT_WFSTAT_SEGERR o 1).setF F.OCT_WFERRENT_ENT o e.ent

/-! ### The sample grid (R146, R152, R153) -/


/-- The 2,048 bytes of granule block `b`. -/
def State.block (s : State) (o b : Nat) : List Byte := (List.range 2048).map (fun k => s.bbByte o (b * 2048 + k))

/-- Every pair of an octet is in a state from `t` on. -/
def State.driveOct (s : State) (o : Nat) (p : Pin) (t : Time) : State := (chansOf o).foldl (fun a c => a.drive c p t) s

/-- One more span of idle slots; it joins the one that ends where it begins. -/
def addIdle (l : List (Time × Time)) (a b : Time) : List (Time × Time) :=
  match l.getLast? with
  | some p => if p.2 = a then l.dropLast ++ [(p.1, b)] else l ++ [(a, b)]
  | none => [(a, b)]

/-- Slot `k` of the ring pass in play plays: its samples, or the idle level for the whole slot (R158, R160). -/
def State.slotPlay (s : State) (o k : Nat) (b : Option (List Byte)) : State :=
  let w := (s.octSt o).wave
  let t := s.sampleAt o (w.pos + k * 256)
  let s1 := (s.modWave o (fun q => { q with blks := q.blks ++ [b], slots := k + 1 })).log (.wave o t [b])
  match b with
  | some _ => s1.driveOct o .signal t
  | none =>
    (s1.modWave o (fun q => { q with idles := addIdle q.idles t (s.sampleAt o (w.pos + (k + 1) * 256)) })).driveOct o (s.idleOut o) t

/-- A pass of an entry begins at sample `j` with `left` passes after it: RUN and CUR follow, and the samples of a stored
segment leave, or the ring slots read ahead for it (R148, R152, R158). `sel` marks the slots that are for it. -/
def State.passStart (s : State) (o j left : Nat) (e : SegEnt) (fresh sel : Bool) : State :=
  let q := ((s.octSt o).wave.queue.filter (fun q => q.1 == sel)).map (fun q => q.2)
  let n := if e.ring then min e.ngr q.length else 0
  let s1 := s.modWave o (fun w => { w with
    play := some e, left := left, next := if fresh then none else w.next, pos := j, len := e.ngr * 256, slots := 0, blks := [],
    queue := (q.drop n).map (fun b => (false, b)) ++ (if sel then [] else w.queue.filter (fun q => q.1)),
    idles := w.idles.filter (fun p => decide (s.sampleAt o j < p.2)) })
  let s2 := s1.setFs o [(F.OCT_WFSTAT_RUN, 1), (F.OCT_WFSTAT_CUR, e.ent)]
  if e.ring then ((q.take n).zipIdx).foldl (fun a b => a.slotPlay o b.2 b.1) s2
  else
    let t := s2.sampleAt o j
    let l := (List.range e.ngr).map (fun i => some (s2.block o (e.blk + i)))
    ((s2.modWave o (fun w => { w with blks := l })).log (.wave o t l)).driveOct o .signal t

/-- R240: a commit has changed the idle level: the idle slots of a running chain show the new one from `t` on, the first sample after the
commit, or from their own start. -/
def State.relevel (s : State) (o : Nat) (t : Time) : State :=
  let l := (s.octSt o).wave.idles.filter (fun p => decide (t < p.2))
  (chansOf o).foldl (fun a c =>
    let fin := (a.chanOf c).want
    let b := l.foldl (fun b p => (b.drive c (b.idleOut o) (max p.1 t)).drive c .signal p.2) a
    match fin, l.getLast? with
    | .signal, _ => b
    | _, some p => b.drive c (b.idleOut o) (max p.1 t)
    | _, none => b) s

/-! ### Entries read and passes (R151, R152, R154) -/

/-- A WOP 1 or WOP 3 on its way to an octet: engine, number of its word (of the first repetition of a repeating word, which
arrives like any other), entry, and its E(W) where WOP 1 starts the chain at a known instant. -/
def State.wopsOf (s : State) (o e : Nat) : List (Nat × Nat × Nat × Option Time) :=
  (s.engOf e).acts.filterMap (fun a => match a.act with
    | .wop op obj m key =>
      if (op = 1 ∨ op = 3) ∧ maskPos m o ≠ 0 then some (e, key, obj, if op = 1 then some (Time.ofQ (Time.toQ a.t)) else none) else none
    | _ => none) ++
  (match (s.engOf e).cur with
   | some c =>
     let op := mWOP c.word
     if mRepeats c.word ∧ (op = 1 ∨ op = 3) ∧ maskPos c.mask o ≠ 0 then [(e, c.wid0, mOBJ c.word, none)] else []
   | none => [])

/-- The first of them that names an entry this octet has not read. -/
def State.wopToRead (s : State) (o : Nat) : Option (Nat × Nat × Nat × Option Time) :=
  let held := (s.octSt o).wave.held
  (engines.flatMap (fun e => s.wopsOf o e)).find? (fun p => held.all (fun h => !(h.1 == p.1 && h.2.1 == p.2.1)))

/-- R156: the segment-start request of an entry leaves the octet when the entry is read; a valid one is the only one that plays. -/
def State.segRequest (s : State) (o : Nat) (e : SegEnt) (v : Bool) (t : Option Time) : State :=
  if v && (e.trg != 0 || e.flash != 0) then s.modWave o (fun w => { w with sent := w.sent ++ [(e.trg, e.flash, t)] }) else s

/-- The personality of an octet once the MODE changes that are on their way to it have taken effect (R105, R123). -/
def State.persAhead (s : State) (o : Nat) : Nat :=
  (engines.flatMap (fun e => (s.engOf e).acts)).foldl (fun p a => match a.act with
    | .mode code m => if maskPos m o ≠ 0 ∧ s.ownsOct a.site o then code - 1 else p
    | _ => p) (s.pers o)

/-- R156: a WOP target's request leaves with the read of its entry: the start of a chain by WOP 1 may be known, that after a WOP 3 and
after a repeating word is not yet. -/
def State.wopAsk (s : State) (o e key : Nat) (n : SegEnt) (v : Bool) (t : Option Time) : State :=
  match t with
  | some _ => s.segRequest o n v t
  | none => if v && (n.trg != 0 || n.flash != 0) then s.modWave o (fun w => { w with asked := w.asked ++ [(n.trg, n.flash, e, key)] }) else s

/-- The successor of the segment in play is read, at the start of its last pass (R151); its request leaves for the end of that pass
(R156). -/
def State.nextRead (s : State) (o : Nat) (p : SegEnt) : State :=
  let n := s.segEnt o p.next
  let v := s.segValid o n
  ((s.segErr o n v).modWave o (fun q => { q with next := some (n, v) })).segRequest o n v (some (s.passEnd o))

/-- R151: the octet reads an entry as a whole: the one that a WOP on its way names, which may follow a MODE change on its way, or in the
last pass of a segment the one that follows. Its segment-start request leaves (R156). -/
def execSegmentEntryRead (oct : Fin 8) (s : State) : Res :=
  let o := oct.val
  match (if s.persAhead o = 1 then s.wopToRead o else none) with
  | some (e, key, obj, t) =>
    let n : SegEnt := { s.segEnt o obj with asker := some (e, key) }
    let v := s.segValid o n
    ok (((s.segErr o n v).modWave o (fun w => { w with held := w.held ++ [(e, key, n, v)] })).wopAsk o e key n v t)
  | none =>
    let w := (s.octSt o).wave
    match w.play with
    | some p => ok (if s.pers o = 1 ∧ w.left = 0 ∧ w.next.isNone ∧ p.fin = false then s.nextRead o p else s)
    | none => ok s

/-- Is a segment-start request one that has left the octet (R156)? A pulse and a flash code may arrive apart. -/
def sentOne (trg flash : Nat) (t : Time) (q : Nat × Nat × Option Time) : Bool :=
  (trg == q.1 || trg == 0) && (flash == q.2.1 || flash == 0) && (trg != 0 || flash != 0) && q.2.2 == some t

/-- The start of the segment that a WOP of word `key` of engine `e` names, once it is known: E(W) of a WOP 1 that is on its way, or the
end of the pass at which a WOP 3 acts (R153). -/
def State.wopStartAt (s : State) (o e key : Nat) : Option Time :=
  match (s.wopsOf o e).find? (fun p => p.2.1 == key && p.2.2.2.isSome) with
  | some p => p.2.2.2
  | none =>
    match (s.octSt o).wave.gotoAt (s.passEnd o) with
    | some g => if g.1.asker = some (e, key) then some (s.passEnd o) else none
    | none => none

/-- R156: requests of WOP targets whose segment start has become known have that start as their target. -/
def State.askResolve (s : State) (o : Nat) : State :=
  let w := (s.octSt o).wave
  let q := w.asked.map (fun a => (a, s.wopStartAt o a.2.2.1 a.2.2.2))
  s.modWave o (fun w => { w with
    asked := (q.filter (fun p => p.2.isNone)).map (fun p => p.1),
    sent := w.sent ++ (q.filter (fun p => p.2.isSome)).map (fun p => (p.1.1, p.1.2.1, p.2)) })

/-- The request of the WOP of word `key` of engine `e`, whose segment starts at `t`, has that target. -/
def State.askAt (s : State) (o e key : Nat) (t : Time) : State :=
  s.modWave o (fun w =>
    let mine := fun (a : Nat × Nat × Nat × Nat) => a.2.2.1 == e && a.2.2.2 == key
    { w with
      asked := w.asked.filter (fun a => !mine a),
      sent := w.sent ++ (w.asked.filter mine).map (fun a => (a.1, a.2.1, some t)) })

/-- A request that has left the octet arrives: what is still on its way. `none` where no such request has left. -/
def State.segArrive (s0 : State) (o trg flash : Nat) (t : Time) : Option State :=
  let s := s0.askResolve o
  match takeFirst (sentOne trg flash t) (s.octSt o).wave.sent with
  | some (q, rest) =>
    let a := if trg = q.1 then 0 else q.1
    let b := if flash = q.2.1 then 0 else q.2.1
    some (s.modWave o (fun w => { w with sent := if a = 0 ∧ b = 0 then rest else rest ++ [(a, b, q.2.2)] }))
  | none => none

/-- The entry held for a WOP of an engine's word that acts at `t`, or the entry as it stands; and what is still held. The request of an
entry that has not been read before leaves now, for `t` where the WOP starts the chain. -/
def State.wopEntry (s : State) (o e key obj : Nat) (t : Option Time) : (SegEnt × Bool) × State :=
  let rest := s.modWave o (fun w => { w with held := w.held.filter (fun h => !(h.1 == e && decide (h.2.1 ≤ key))) })
  match (s.octSt o).wave.held.find? (fun h => h.1 == e && h.2.1 == key) with
  | some h => (h.2.2, rest)
  | none =>
    let n : SegEnt := { s.segEnt o obj with asker := some (e, key) }
    let v := s.segValid o n
    ((n, v), (rest.segErr o n v).wopAsk o e key n v t)

/-- The octets of a mask on which a WOP of site `x` acts: in waveform personality and owned whole by the site. -/
def State.wopOcts (s : State) (x m : Nat) : List Nat := (maskOcts m).filter (fun o => s.pers o == 1 && s.ownsOct x o)

/-- R153: WOP 1 on one octet at `t`: whatever plays stops, and the chain starts at the entry with the ring slots read for it. A WOP 2 or
a WOP 3 that was pending for the chain before goes with it (DESIGN CHOICE, log entry 49). -/
def State.wopStart (s : State) (o e key obj : Nat) (t : Time) : State :=
  let a := Time.ofQ (Time.toQ t)
  let r := (s.askAt o e key a).wopEntry o e key obj (some a)
  if r.1.2 then
    (r.2.modWave o (fun w => { w with stopAt := none, goto := [], anchor := a, base := 0, idles := [] })).passStart o 0 r.1.1.rpt r.1.1
      true true
  else r.2.waveStop o a

/-- R153: WOP 1. -/
def execWopStartChain (e : Fin 16) (s : State) : Res :=
  match s.takeAct e.val (fun a => match a with | .wop 1 _ _ _ => true | _ => false) with
  | some (a, s1) => match a.act with
    | .wop _ obj m key => ok ((s1.wopOcts a.site m).foldl (fun b o => b.wopStart o e.val key obj a.t) s1)
    | _ => ok s
  | none => ok s

/-- R153: WOP 2: a chain that runs stops at the end of the pass in play. -/
def execWopStopChain (e : Fin 16) (s : State) : Res :=
  match s.takeAct e.val (fun a => match a with | .wop 2 _ _ _ => true | _ => false) with
  | some (a, s1) => match a.act with
    | .wop _ _ m _ =>
      ok ((s1.wopOcts a.site m).foldl (fun b o => b.modWave o (fun w =>
        if w.play.isSome then { w with stopAt := some a.t } else w)) s1)
    | _ => ok s
  | none => ok s

/-- R153: WOP 3: a chain that runs is redirected. -/
def execWopContinue (e : Fin 16) (s : State) : Res :=
  match s.takeAct e.val (fun a => match a with | .wop 3 _ _ _ => true | _ => false) with
  | some (a, s1) => match a.act with
    | .wop _ obj m key =>
      ok ((s1.wopOcts a.site m).foldl (fun b o =>
        let r := b.wopEntry o e.val key obj none
        r.2.modWave o (fun w =>
          if w.play.isSome then { w with goto := w.goto ++ [(r.1.1, r.1.2, a.t)] } else w)) s1)
    | _ => ok s
  | none => ok s


/-- A segment follows at the end of the pass: it starts, or the chain stops where the entry is invalid (R154). -/
def State.segFollow (s : State) (o : Nat) (e : SegEnt) (valid : Bool) (t : Time) : State :=
  let w := (s.octSt o).wave
  if valid then s.passStart o (w.pos + w.len) e.rpt e true false else s.waveStop o t

/-- R152, R153, R154: the pass in play ends, and what follows begins at the next sample instant. -/
def execSegmentPassStart (oct : Fin 8) (s : State) : Res :=
  let o := oct.val
  let w := (s.octSt o).wave
  match w.play with
  | none => ok s
  | some p =>
    let t := s.passEnd o
    let g := w.gotoAt t
    if w.stopsAt t then ok (s.waveStop o t)
    else
      let s := s.askResolve o
      let s1 := s.modWave o (fun q => { q with
        stopAt := none, goto := q.goto.filter (fun k => !decide (k.2.2 + Time.ofNs 64 < t)) })
      match g with
      | some q => ok (s1.segFollow o q.1 q.2.1 t)
      | none =>
        if 0 < w.left then ok (s1.passStart o (w.pos + w.len) (w.left - 1) p false false)
        else if p.fin then ok (s1.waveStop o t)
        else match w.next with
          | some n => ok (s1.segFollow o n.1 n.2 t)
          | none =>
            let n := s.segEnt o p.next
            let v := s.segValid o n
            ok ((s1.nextRead o p).segFollow o n v t)

/-! ### The segment ring (R158 to R160) -/

/-- Where the next ring slot plays that the chain in play has not read, as far as it is known what follows: in this pass, in
the passes after it, or in the segment that follows; and after one that is shorter than 48 ns in the segment after that, by its entry as
it stands, which is not read yet (DESIGN CHOICE, log entry 49). `none` where no further slot is known to play. -/
def State.chainSlot (s : State) (o : Nat) : Option Time :=
  let w := (s.octSt o).wave
  let q := (w.queue.filter (fun b => !b.1)).length
  match w.play with
  | none => none
  | some p =>
    let follow := fun (j k : Nat) (e : SegEnt) =>
      if e.ring && decide (k < (e.rpt + 1) * e.ngr) then some (s.sampleAt o (j + k * 256)) else none
    if p.ring && decide (w.slots < p.ngr) then some (s.sampleAt o (w.pos + w.slots * 256))
    else match w.gotoAt (s.passEnd o) with
      | some g => if g.2.1 then follow (w.pos + w.len) q g.1 else none
      | none =>
        if w.stopAt.isSome then none
        else
          let mine := if p.ring then w.left * p.ngr else 0
          if q < mine then some (s.sampleAt o (w.pos + w.len + q * 256))
          else if p.fin then none
          else match w.next with
            | some (n, true) =>
              let j := w.pos + w.len * (w.left + 1)
              let k := q - mine
              let all := if n.ring then (n.rpt + 1) * n.ngr else 0
              if k < all then follow j k n
              else if n.fin then none
              else
                let m := s.segEnt o n.next
                if s.segValid o m then follow (j + (n.rpt + 1) * n.ngr * 256) (k - all) m else none
            | _ => none

/-- The instant at which a WOP 1 on its way starts a chain at a RING entry the octet has read. -/
def State.wopSlot (s : State) (o : Nat) : Option Time :=
  ((engines.flatMap (fun e => s.wopsOf o e)).filterMap (fun p =>
    match (s.octSt o).wave.held.find? (fun h => h.1 == p.1 && h.2.1 == p.2.1), p.2.2.2 with
    | some h, some t => if h.2.2.1.ring && h.2.2.2 then some t else none
    | _, _ => none)).head?

/-- What the next ring slot to be read is for: `some false` the chain in play, `some true` the one that a WOP 1 starts, where
that comes first. -/
def State.slotFor (s : State) (o : Nat) : Option Bool :=
  match s.chainSlot o, s.wopSlot o with
  | some t, some u => some (decide (u ≤ t))
  | some _, none => some false
  | none, some _ => some true
  | none, none => none

/-- R158, R160: the next ring slot is read 48 ns before it plays; an incomplete one plays the idle level. Where no further slot is
to play, none is read. -/
def execRingSlotRead (oct : Fin 8) (s : State) : Res :=
  let o := oct.val
  let g := s.getF F.OCT_WFRPTR_RPTR o
  let n := s.getF F.OCT_WFRING_RSIZE o
  if n = 0 ∨ s.pers o ≠ 1 then ok s
  else match s.slotFor o with
    | none => ok s
    | some sel =>
      let w := (s.octSt o).wave
      let full := w.granules.contains g
      let b := if full then some (s.block o (s.getF F.OCT_WFRING_RBASE o + g % n)) else none
      let s1 := (s.incF F.OCT_WFRPTR_RPTR o).modWave o (fun w => { w with granules := w.granules.filter (fun q => q != g) })
      let s2 := if full then s1 else (s1.setF F.OCT_WFSTAT_UNDERRUN o 1).incF F.OCT_WFLOST_LOST o
      let here := !sel && (match w.play with | some p => p.ring && decide (w.slots < p.ngr) | none => false)
      ok (if here then s2.slotPlay o w.slots b else s2.modWave o (fun q => { q with queue := q.queue ++ [(sel, b)] }))

/-- How far WPTR is ahead of RPTR. -/
def State.ringAhead (s : State) (o : Nat) : Int :=
  sext 32 (s.getF F.OCT_WFWPTR_WPTR o + 4294967296 - s.getF F.OCT_WFRPTR_RPTR o)

/-- R159: the next host granule of the octet completes: it is stored if its slot has not been read, and discarded if it has.
A granule for which the ring has no slot yet is not taken, and none is while the site's memory is being zeroed (R333). -/
def State.granule (s : State) (o : Nat) (data : List Byte) : State :=
  let n := s.getF F.OCT_WFRING_RSIZE o
  let g := s.getF F.OCT_WFWPTR_WPTR o
  if n = 0 ∨ (n : Int) ≤ s.ringAhead o ∨ (match s.octOwner o with | some x => s.flag F.SITE_SSTAT_SCRUB x | none => false) = true then s
  else
    let s1 := s.incF F.OCT_WFWPTR_WPTR o
    if s.ringAhead o < 0 then s1
    else
      let b := s.getF F.OCT_WFRING_RBASE o + g % n
      ((data.take 2048).zipIdx.foldl (fun a p => a.setBb o (b * 2048 + p.2) p.1) s1).modWave o (fun w => { w with
        granules := w.granules ++ [g] })

/-- R159: a host granule completes. -/
def execGranuleArrive (oct : Fin 8) (data : List Byte) (s : State) : Res := ok (s.granule oct.val data)

/-- R162: a write of the owner's VF to OCT_WFRING. -/
def execWfringWrite (fn : Fn) (oct : Fin 8) (data : Nat) (s : State) : Res := s.hostOrder fn true R.OCT_WFRING oct.val data fun s =>
  let o := oct.val
  let b := bits data 12 0
  let n := bits data 28 16
  match s.octOwner o with
  | none => ok s
  | some x =>
    if s.fnSite fn x then
      if !s.flag F.OCT_WFSTAT_RUN o && (n == 0 || (decide (8 ≤ n) && decide (n ≤ 6144) && decide (b + n ≤ 6144) && s.blocksIn o b n)) then
        ok ((s.setFs o [(F.OCT_WFRING_RBASE, b), (F.OCT_WFRING_RSIZE, n), (F.OCT_WFRPTR_RPTR, 0), (F.OCT_WFWPTR_WPTR, 0)]).modWave o
          (fun w => { w with granules := [], queue := [] }))
      else ok (s.setF F.OCT_WFSTAT_CFG_REJ o 1)
    else ok s

end Sys2Proof.Machine
end

