-- ==== Sys2Proof/Machine/Lane.lean ====
section
/-! DEFINITION. Protocol lanes (R163 to R186): launch requests, frames, timestamps, and the receive side. -/

namespace Sys2Proof.Machine

/-! ### Templates (R174, R175) -/

/-- The words of template `t` of an octet. -/
def State.tplWords (s : State) (o t : Nat) : List Nat :=
  [R.OCT_TPL0, R.OCT_TPL1, R.OCT_TPL2, R.OCT_TPL3, R.OCT_TPL4, R.OCT_TPL5, R.OCT_TPL6, R.OCT_TPL7, R.OCT_TPL8, R.OCT_TPL9,
   R.OCT_TPL10].map (fun d => d.word s.reg (o * 1024 + t))

/-- Word `k` of a template. -/
def tw (w : List Nat) (k : Nat) : Nat := w.getD k 0
/-- PRELEN. -/
def tPRELEN (w : List Nat) : Nat := bits (tw w 0) 7 0
/-- SDLEN. -/
def tSDLEN (w : List Nat) : Nat := bits (tw w 0) 19 16
/-- HLEN. -/
def tHLEN (w : List Nat) : Nat := bits (tw w 4) 8 0
/-- IDOFF. -/
def tIDOFF (w : List Nat) : Nat := bits (tw w 4) 24 16
/-- PLEN, or 0 when PSRC = 0. -/
def tPLEN (w : List Nat) : Nat := if bits (tw w 5) 18 16 = 0 then 0 else bits (tw w 5) 15 0
/-- PSRC. -/
def tPSRC (w : List Nat) : Nat := bits (tw w 5) 18 16
/-- PPOLY. -/
def tPPOLY (w : List Nat) : Nat := bits (tw w 5) 21 19
/-- IPG. -/
def tIPG (w : List Nat) : Nat := bits (tw w 9) 15 0
/-- IDLE. -/
def tIDLE (w : List Nat) : Nat := bits (tw w 9) 17 16

/-- Do `n` stored bytes from `a` lie below 0xC0_0000 and inside the rows of site `x`? -/
def State.storedIn (s : State) (x o a n : Nat) : Bool :=
  n == 0 || (decide (a + n ≤ 12582912) && decide (s.rowBase x o * 4 ≤ a) && decide (a + n ≤ (s.rowBase x o + s.rowCount x o) * 4))

/-- R175: is the template valid for site `x`? -/
def State.tplValid (s : State) (x o : Nat) (w : List Nat) : Bool :=
  hasBit (tw w 10) 0 && decide (1 ≤ tSDLEN w) && decide (tSDLEN w ≤ 8) && decide (bits (tw w 6) 31 28 ≤ 8) &&
    decide (tPSRC w ≤ 3) && decide (tPPOLY w ≤ 4) && decide (tIDLE w ≤ 2) && decide (tHLEN w ≤ 256) &&
    decide (1 ≤ tHLEN w + tPLEN w) && (!hasBit (tw w 0) 20 || decide (tIDOFF w + 2 ≤ tHLEN w)) &&
    s.storedIn x o (bits (tw w 3) 23 0) (tHLEN w) &&
    (tPSRC w != 3 || s.storedIn x o (bits (tw w 6) 23 0) (tPLEN w))

/-- `n` bytes of an octet's beat buffer from byte `a`. -/
def State.bbBytes (s : State) (o a n : Nat) : List Byte := (List.range n).map (fun k => s.bbByte o (a + k))

/-- Bits grouped into bytes in transmission order. -/
def bytesOf : Nat → List Nat → List Byte
  | 0, _ => []
  | n + 1, l => bitsByte (l.take 8) :: bytesOf n (l.drop 8)

/-- Payload of a template, and the generator states after it (R174). -/
def payload (w : List Nat) (gens : List Nat) (stored : List Byte) : List Byte × List Nat :=
  let n := tPLEN w
  match tPSRC w with
  | 1 =>
    let p := tPPOLY w
    let r := prbsBits p (8 * n) (if hasBit (tw w 5) 22 then prbsOnes p else gens.getD p (prbsOnes p))
    (bytesOf n r.1, gens.set p r.2)
  | 2 => ((List.range n).map (fun i => BitVec.ofNat 8 (bits (tw w 5) 31 24 + i)), gens)
  | 3 => (stored, gens)
  | _ => ([], gens)

/-- The header as sent: bytes IDOFF and IDOFF + 1 replaced by the identifier, most significant first (R174). -/
def headerOf (w : List Nat) (h : List Byte) (id : Nat) : List Byte :=
  if hasBit (tw w 0) 20 then
    (h.set (tIDOFF w) (BitVec.ofNat 8 (id / 256))).set (tIDOFF w + 1) (BitVec.ofNat 8 id)
  else h

/-- The bytes of a frame in the order sent (R174), and the payload generators after it. -/
def State.frameBytes (s : State) (c : Nat) (r : Launch) : List Byte × List Nat :=
  let w := r.tpl
  let o := octOf c
  let h := headerOf w (s.bbBytes o (bits (tw w 3) 23 0) (tHLEN w)) r.id
  let p := payload w (s.chanOf c).lane.gens (s.bbBytes o (bits (tw w 6) 23 0) (tPLEN w))
  let body := h ++ p.1
  let crc := frameCrc (bits (tw w 6) 25 24) body
  let sd := (leBytes 8 (tw w 1 + tw w 2 * 4294967296)).take (tSDLEN w)
  let ed := (leBytes 8 (tw w 7 + tw w 8 * 4294967296)).take (bits (tw w 6) 31 28)
  (List.replicate (tPRELEN w) (BitVec.ofNat 8 (bits (tw w 0) 15 8)) ++ sd ++ body ++ leBytes crc.1 crc.2 ++ ed, p.2)

/-! ### Requests (R176 to R178) -/

/-- One request on channel `c` at E(W) = `t`: it joins the queue, or completes at once: QFULL where the queue is full, also for an
invalid template (DESIGN CHOICE, log entry 33). -/
def State.popRequest (s : State) (x c obj : Nat) (tgt : Option Time) (t : Time) : State :=
  let i := lnIx c
  let id := s.getF F.OCT_LSEQ_SEQ i
  let s1 := s.incF F.OCT_LSEQ_SEQ i
  let w := s.tplWords (octOf c) obj
  if 16 ≤ (s.chanOf c).lane.queue.length then (s1.setF F.OCT_LSTAT_LQ_FULL i 1).laneDone c id 5 t
  else if 1023 < obj ∨ s.tplValid x (octOf c) w = false then s1.laneDone c id 7 t
  else
    let d : Int := match tgt with
      | some u => ((Time.toFix u : Int) - Time.toFix t) % 18446744073709551616
      | none => 0
    let armed := tgt.isSome && decide (16 * 4294967296 ≤ d) && decide (d < 2147483648 * 4294967296)
    let r : Launch :=
      { id := id, tpl := w, timed := tgt.isSome,
        target := match tgt with | some u => if armed then t + d.toNat * 8000 else u | none => t,
        ew := t, armed := armed }
    (s1.modLane c (fun l => { l with
      queue := l.queue ++ [r], headAt := if l.queue.isEmpty then t else l.headAt })).laneShow c

/-- The channels of a POP's mask that lie in a protocol octet (R176). -/
def State.popChans (s : State) (m : Nat) : List Nat := (maskChans m).filter (fun c => s.pers (octOf c) == 2)

/-- R176: POP 1. -/
def execPopEarliest (e : Fin 16) (s : State) : Res :=
  match s.takeAct e.val (fun a => match a with | .pop 1 _ _ _ => true | _ => false) with
  | some (a, s1) => match a.act with
    | .pop _ obj _ m => ok ((s1.popChans m).foldl (fun b c => b.popRequest a.site c obj none a.t) s1)
    | _ => ok s
  | none => ok s

/-- R178: POP 2: the target is the start of the beat that holds E(W), + IMM32 ns. -/
def execPopTimed (e : Fin 16) (s : State) : Res :=
  match s.takeAct e.val (fun a => match a with | .pop 2 _ _ _ => true | _ => false) with
  | some (a, s1) => match a.act with
    | .pop _ obj imm m =>
      let k := s.sched a.site
      let tgt := k.start (k.off a.t) + Time.ofNs imm
      ok ((s1.popChans m).foldl (fun b c => b.popRequest a.site c obj (some tgt) a.t) s1)
    | _ => ok s
  | none => ok s

/-! ### Frames (R179 to R181) -/

/-- The head request completes without a frame, at `tm`. -/
def State.headDone (s : State) (c : Nat) (r : Launch) (status : Nat) (tm : Time) : State :=
  (s.laneDone c r.id status (if status = 4 then tm else r.when tm)).laneNext c tm

/-- R165, R173, R177, R179: the preamble start of the head entry is decided at `tm`, or the entry completes. -/
def execLaunchHead (ch : Fin 64) (tm : Time) (s : State) : Res :=
  let c := ch.val
  let o := octOf c
  let l := (s.chanOf c).lane
  match l.queue, l.frame with
  | r :: _, none =>
    if s.pers o ≠ 2 then ok s
    else if r.timed ∧ r.armed = false then ok (s.headDone c r 1 tm)
    else if hasBit (s.getF F.OCT_PSTAT_RATEBLK o) (posOf c) then ok (s.headDone c r 4 tm)
    else if s.getL F.OCT_LCFG_TXSRC (lnIx c) = 1 then ok (s.headDone c r 2 tm)
    else if s.unclocked o then ok (s.headDone c r 3 tm)
    else
      let n : Nat := tPRELEN r.tpl * 8 / bps (s.pam4 c)
      let anchor := if r.timed then Time.ofQ (Time.toQ r.target) else l.anchor
      let k0 : Int := if r.timed then -(n : Int) else s.symFrom c anchor (max tm (max (r.ew + Time.ofNs 16) l.ipgEnd))
      let pre := s.symAt c anchor k0
      if r.timed ∧ pre < l.ipgEnd then ok (s.headDone c r 2 tm)
      else if r.timed ∧ pre < l.headAt + Time.ofNs 16 then ok (s.headDone c r 1 tm)
      else if pre < l.blank then ok (s.headDone c r 2 tm)
      else
        let f : TxFrame :=
          { req := r, pre := pre, sd := if r.timed then r.target else s.symAt c anchor (k0 + n), anchor := anchor, k0 := k0,
            bits := [], k := 0, sending := false, safe := false }
        ok (s.modLane c (fun q => { q with frame := some f }))
  | _, _ => ok s

/-- Idle-fill symbols that end at or before a preamble start leave; the last one is lengthened to end there (R179). -/
def State.fillUntil (s : State) (c : Nat) (pre : Time) : State :=
  let l := (s.chanOf c).lane
  match l.fill with
  | some f => s.fillTo c (s.fillEnd c l.anchor pre - f.k).toNat
  | none => s

/-- R179: transmission of the decided frame begins: the idle fill ends, the frame's bytes are read and built, and the grid
is the frame's. One that would begin inside the idle of R167 completes BUSY. -/
def execPreambleStart (ch : Fin 64) (s : State) : Res :=
  let c := ch.val
  match (s.chanOf c).lane.frame with
  | none => ok s
  | some f =>
    if f.sending then ok s
    else if f.pre < (s.chanOf c).lane.blank then ok (s.headDone c f.req 2 f.pre)
    else
      let s1 := s.fillUntil c f.pre
      let b := s1.frameBytes c f.req
      ok ((s1.modLane c (fun l => { l with
        fill := none, anchor := f.anchor, gens := b.2,
        frame := some { f with bits := b.1.flatMap byteBits, sending := true, safe := s.chanSafe c } })).drive c .signal f.pre)

/-- R177, R180, R183: the last symbol of the frame in transmission leaves: SENT with its egress time, or SAFE when a symbol
fell in safe state or in the idle that lasts from it to the next gap; the IPG and the template's idle fill begin (R174). The egress
time is an instant at the ball: the pipeline reads it OCT_LTXLAT away, and that latency is taken off again. -/
def execFrameTxEnd (ch : Fin 64) (s : State) : Res :=
  let c := ch.val
  match (s.chanOf c).lane.frame with
  | none => ok s
  | some f =>
    if f.sending then
      let n : Nat := f.k + symsFor (s.pam4 c) f.bits.length
      let fin := s.symAt c f.anchor (f.k0 + n)
      let s1 := s.laneRender c fin
      let bad := (match (s1.chanOf c).lane.frame with | some q => q.safe | none => f.safe) || s.chanSafe c
      let s2 := (s1.laneDone c f.req.id (if bad then 3 else 0) (if bad then f.req.when fin else f.sd))
      let s3 := if bad then s2 else s2.log (.frame c f.req.id f.sd)
      let w := f.req.tpl
      let idle := tIDLE w
      let s4 := s3.modLane c (fun l => { l with
        ipgEnd := s.symAt c f.anchor (f.k0 + n + tIPG w),
        txPrev := if idle = 0 then 0 else l.txPrev,
        fill := if idle = 0 then none else some { kind := idle, byte := bits (tw w 9) 31 24, pos := 0, k := f.k0 + n } })
      ok ((s4.drive c (if idle = 0 then .idle else .signal) fin).laneNext c fin)
    else ok s

/-- R181: the oldest completion due goes into the timestamp queue, or is dropped when that holds 8 entries. -/
def execTimestampWrite (ch : Fin 64) (s : State) : Res :=
  let c := ch.val
  let l := (s.chanOf c).lane
  match l.tsPend with
  | [] => ok s
  | e :: rest =>
    let s1 := s.modLane c (fun q => { q with tsPend := rest })
    if 8 ≤ l.tsq.length then ok ((s1.incF F.OCT_LTSQDROP_DROP (lnIx c)).setF F.OCT_LSTAT_TSQ_OVF (lnIx c) 1)
    else ok ((s1.modLane c (fun q => { q with tsq := q.tsq ++ [e] })).laneShow c)

/-- R182: POP of the owner's VF removes the head entry. -/
def execTsqPop (fn : Fn) (ch : Fin 64) (s : State) : Res :=
  let c := ch.val
  match s.octOwner (octOf c) with
  | some x =>
    if s.fnSite fn x then ok ((s.modLane c (fun q => { q with tsq := q.tsq.drop 1 })).laneShow c) else ok s
  | none => ok s

/-! ### Receive side (R171, R173, R184 to R186) -/

/-- Codes about the middle code that the RX FFE and the slicer see for the symbol whose code is the fourth latest: without FFEEN that
code, with it the sum over the twelve taps, the cursor F3 on it and F0 to F2 on the three codes after it, in 1/64 codes (R38, R40). -/
def State.eqSample (s : State) (c : Nat) (codes : List Nat) : Int :=
  let v := fun (k : Nat) => (codes.getD k 128 : Int) - 128
  if s.flagL F.OCT_RXCFG_FFEEN (chIx c) then
    ((coefFlds.take 12).zipIdx.map (fun p => sext 8 (s.getL p.1 (chIx c)) * v p.2)).sum
  else 64 * v 3

/-- D1 of the DFE, 0 while it is off (R38, R40). -/
def State.dfeTap (s : State) (c : Nat) : Int := if s.flagL F.OCT_RXCFG_DFEEN (chIx c) then sext 8 (s.getL F.OCT_RXCOEF3_D1 (chIx c)) else 0

/-- The bit pair of a Gray value (R170). -/
def ungray (v : Nat) : List Nat :=
  match v with
  | 0 => [0, 0]
  | 1 => [0, 1]
  | 2 => [1, 1]
  | _ => [1, 0]

/-- R170, R171, R184: the bits of one received symbol, from the value 0 to 3 that the slicer decided (NRZ uses 0 and 3), and the
decoder's previous value after it. -/
def decodeSym (pam prec inv : Bool) (prev y0 : Nat) : List Nat × Nat :=
  let y := if inv then 3 - y0 else y0
  if pam then (ungray (if prec then (y + prev) % 4 else y), y) else ([if y = 0 then 0 else 1], prev)

/-- R38, R184: the value 0 to 3 that the slicer decides for the symbol whose code is the fourth latest. -/
def State.slice (s : State) (c : Nat) (codes : List Nat) : Nat :=
  let y := Config.slicer (s.pam4 c) (s.eqSample c codes) (s.dfeTap c) (s.chanOf c).lane.rxSlice
  if s.pam4 c then y % 4 else y % 2 * 3

/-- R184: symbol timing is recovered. -/
def execRxLock (ch : Fin 64) (s : State) : Res :=
  let c := ch.val
  if s.rxOn ∧ s.pers (octOf c) = 2 ∧ s.flag F.OCT_LSTAT_LOCK (lnIx c) = false then
    ok ((s.rxRestart c).setF F.OCT_LSTAT_LOCK (lnIx c) 1)
  else ok s

/-- A result of the receive side at `tm` counts for the word with CMPE = 1 whose span holds the instant (R186). -/
def State.rxResult (s : State) (c : Nat) (tm : Time) (bad : Bool) : State :=
  let hit := fun (e : Nat) => (((s.engOf e).cur.toList ++ (s.engOf e).hist).find? (fun q =>
    mCMPE q.word && hasBit q.mask c && decide (q.s ≤ tm) && decide (tm < q.e))).map (fun q => (e, q.wid))
  match engines.findSome? hit with
  | some (e, wid) => s.cmpDone e wid false (some bad) tm
  | none => s

/-- R184: loss of lock; a frame being received is discarded and counted. -/
def execRxLockLoss (ch : Fin 64) (s : State) : Res :=
  let c := ch.val
  let i := lnIx c
  if s.flag F.OCT_LSTAT_LOCK i then
    let s1 := ((s.rxRestart c).setF F.OCT_LSTAT_LOCK i 0).setF F.OCT_LSTAT_LOCKLOST i 1
    if (s.chanOf c).lane.rxIng.isSome then
      ok (((s1.incF F.OCT_LRXFRM_FRM i).incF F.OCT_LRXCRCERR_CRCERR i).lateUnits c)
    else ok (s1.lateUnits c)
  else ok s

/-- R185: do the latest bits received match the start delimiter, in PAM4 with its first bit the first of a symbol? The start of the
symbol that holds its first bit, and the bits after it that have been received with its last symbol. -/
def State.sdHit (s : State) (c : Nat) : Option (Time × List Nat) :=
  let i := lnIx c
  let n := s.getL F.OCT_LRXFMT_SDBITS i
  let sd := s.getL F.OCT_LRXSD_LO_SD i + s.getL F.OCT_LRXSD_HI_SD i * 4294967296
  let l := (s.chanOf c).lane.rxBits
  let k := if s.pam4 c && n % 2 == 1 then 1 else 0
  let h := (l.drop k).take n
  if h.length = n ∧ h.reverse.map (fun p => p.1) = (List.range n).map (fun j => bit sd j) then
    h.getLast?.map (fun p => (p.2, (l.take k).map (fun q => q.1)))
  else none

/-- The symbol period of a lane (R164), to the model's unit of time. -/
def State.symLen (s : State) (c : Nat) : Time :=
  let f := s.flineQ (octOf c)
  if f.1 = 0 then 0 else 4294967296000000000 * 2 ^ s.getL F.OCT_PCFG_LDIV (octOf c) * f.2 / f.1

/-- R180: an ingress time: the receive pipeline reads the instant OCT_LRXLAT later, to 1/256 UI, and that latency is taken off. From
where the 1/256 UI count is not stated (DESIGN CHOICE, log entry 50). -/
def State.ingress (s : State) (c : Nat) (t : Time) : Time :=
  let lat := Time.ofQ (s.getF F.OCT_LRXLAT_RXLAT (lnIx c))
  let u := s.symLen c / 256
  if u = 0 then t else ((t + lat + u / 2) / u * u) - lat

/-- R185: the received bits match the start delimiter while the search is on and no frame is being received. -/
def execSdMatch (ch : Fin 64) (_ingress : Known) (s : State) : Res :=
  let c := ch.val
  let i := lnIx c
  if s.rxOn ∧ s.pers (octOf c) = 2 ∧ s.flagL F.OCT_LCFG_RXFRM i ∧ s.flag F.OCT_LSTAT_LOCK i ∧ (s.chanOf c).lane.rxIng.isNone ∧
      hasBit (s.getF F.OCT_PSTAT_RATEBLK (octOf c)) (posOf c) = false then
    match s.sdHit c with
    | some (t, l) => ok (s.modLane c (fun q => { q with rxIng := some (s.ingress c t), rxData := l }))
    | none => ok s
  else ok s

/-- One more bit of the frame being received, in a symbol that ends at `fin`; with the last one the frame is whole (R185). -/
def State.rxFrameBit (s : State) (c b : Nat) (fin : Time) : State :=
  let l := (s.chanOf c).lane
  match l.rxIng with
  | none => s
  | some g =>
    let d := b :: l.rxData
    s.modLane c (fun q =>
      if 8 * s.getL F.OCT_LRXFMT_RXLEN (lnIx c) ≤ d.length then
        { q with rxIng := none, rxData := [], rxFull := q.rxFull ++ [(g, d.reverse, fin)] }
      else { q with rxData := d })

/-- One bit for the PRBS checker, in symbol `sym` of beat `beat` at `t`: the first run of bits after lock seeds it; it then counts every
bit, and one that differs from the sequence is an error (R173). The sequence stands still over bits that the checker does not take (of a
frame, or while CHKEN = 0), and neither CHKEN nor POLY seeds it anew (DESIGN CHOICE, log entry 50). -/
def State.checkBit (s : State) (c b : Nat) (t : Time) (sym beat : Nat) : State :=
  let i := lnIx c
  let poly := s.getL F.OCT_LCFG_POLY i
  let n := (prbsTaps poly).1
  let l := (s.chanOf c).lane
  if l.seed < n then s.modLane c (fun q => { q with seed := l.seed + 1, chk := (l.chk * 2 + b) % 2 ^ n })
  else
    let r := prbsBit poly l.chk
    let total := s.getF F.OCT_LBITCNT_LO_CNT i + s.getF F.OCT_LBITCNT_HI_CNT i * 4294967296 + 1
    (s.setFs i [(F.OCT_LBITCNT_LO_CNT, total), (F.OCT_LBITCNT_HI_CNT, total / 4294967296)]).modLane c (fun q => { q with
      chk := r.2, errs := if b = r.1 then q.errs else q.errs ++ [(t, sym, beat)] })

/-- One received bit of a symbol that lasts from `t` to `fin`: of the frame being received, for the checker where it is on and takes
it (R173), and for the search (R185). -/
def State.rxBit (s : State) (c b : Nat) (t fin : Time) (sym beat : Nat) : State :=
  let i := lnIx c
  let on := s.flagL F.OCT_LCFG_CHKEN i && !(s.flagL F.OCT_LCFG_RXFRM i && (s.chanOf c).lane.rxIng.isSome)
  let s1 := if on then s.checkBit c b t sym beat else s
  (s1.rxFrameBit c b fin).modLane c (fun l => { l with rxBits := ((b, t) :: l.rxBits).take 66 })

/-- Content of a FRAME record after word 3 (R196). -/
def frameBody (id : Nat) (idv bad : Bool) (len snap : Nat) (data : List Byte) : List Byte :=
  let n := min snap len
  wordsBytes [id + b2n idv * 65536 + b2n bad * 131072, len + n * 65536, 0, 0] ++ padTo ((n + 7) / 8 * 8) (data.take n)

/-- A received frame is offered to every set with SRC = FRAMES whose filters keep it (R192, R193). -/
def State.offerFrame (s : State) (c id : Nat) (idv bad : Bool) (len : Nat) (data : List Byte) (ing tm : Time) : State :=
  match s.owner c with
  | none => s
  | some x =>
    (List.range 16).foldl (fun a q =>
      let i := cqIx x q
      let fr := a.getL F.SITE_CQCFG_FRSEL i
      let msk := a.getL F.SITE_CQFID_IDMSK i
      let want := (fr == 0 || (fr == 1 && bad) || (fr == 2 && !bad)) &&
        (!a.flagL F.SITE_CQCFG_IDM i || (idv && (id &&& msk) == (a.getL F.SITE_CQFID_IDVAL i &&& msk)))
      if a.cqTakes x q 3 c && want && (a.capOf x).any q tm then
        let body := frameBody id idv bad len (a.getL F.SITE_CQSNAP_SNAP i) data
        (a.candCount x q c).offerCand x tm tm
          { typ := 4, q := q, ch := c, num := a.candNum x q c, beat := a.beatAt x tm, t := ing, u := tm, charge := tm, body := body }
      else a) s

/-- R185, R186: the oldest frame received whole completes, 32 ns after its last symbol: CRC, identifier, record, capture, and the
judgement. -/
def execRxFrameComplete (ch : Fin 64) (_data _tm : Known) (s : State) : Res :=
  let c := ch.val
  let i := lnIx c
  match (if s.rxOn then (s.chanOf c).lane.rxFull.head? else none) with
  | none => ok s
  | some (ing, bs, fin) =>
    let len := s.getL F.OCT_LRXFMT_RXLEN i
    let tm := fin + Time.ofNs 32
    let d := bytesOf len bs
    let k := s.getL F.OCT_LRXFMT_RXCRC i
    let n := len - crcLen k
    let bad := crcLen k != 0 && leNat (d.drop n) != (frameCrc k (d.take n)).2
    let off := s.getL F.OCT_LRXID_IDOFF i
    let idv := s.flagL F.OCT_LRXID_IDEN i && decide (off + 2 ≤ len)
    let id := if idv then (d.getD off 0#8).toNat * 256 + (d.getD (off + 1) 0#8).toNat else 0
    let s1 := s.setFs i [(F.OCT_LRXREC_ID, id), (F.OCT_LRXREC_CRCERR, b2n bad), (F.OCT_LRXREC_IDV, b2n idv),
      (F.OCT_LRXREC_VALID, 1), (F.OCT_LRXTS_LO_FRAC, Time.frac32 ing), (F.OCT_LRXTS_HI_NS, Time.int32 ing)]
    let s2 := (s1.incF F.OCT_LRXFRM_FRM i).modLane c (fun l => { l with rxFull := l.rxFull.drop 1 })
    let s3 := if bad then s2.incF F.OCT_LRXCRCERR_CRCERR i else s2
    let s4 := (s3.offerFrame c id idv bad len d ing tm).frameUnits c bad ing fin
    let x := (s.owner c).getD 16
    let info : FailInfo := { kind := 1, idx := 0, beat := s.beatAt x tm, w5 := 1 + b2n idv * 512 + id * 65536 }
    let s5 := if bad then s4.failAt c tm info else s4
    ok (s5.rxResult c tm bad)

/-- R173, R186: the first bit that the checker found to differ from the sequence is counted; it is a fail 32 ns after its instant. -/
def execCheckerBitError (ch : Fin 64) (_tm _sym : Known) (s : State) : Res :=
  let c := ch.val
  match (s.chanOf c).lane.errs with
  | [] => ok s
  | (tm, sym, beat) :: rest =>
    let t := tm + Time.ofNs 32
    let info : FailInfo := { kind := 2, idx := sym, beat := beat, w5 := 2 }
    ok (((((s.modLane c (fun l => { l with errs := rest })).incF F.OCT_LBITERR_ERR (lnIx c)).failAt c t info).lateUnits c).rxResult c t true)

/-- R189: CLR of a channel's fail registers, by the owner's VF. -/
def execFailClear (fn : Fn) (ch : Fin 64) (s : State) : Res := s.hostOrder fn (s.fnOwns fn ch.val) R.OCT_FCTL ch.val 1 fun s =>
  let c := ch.val
  if s.fnOwns fn c then
    ok (s.setFs (chIx c) [(F.OCT_FCNT_FCNT, 0), (F.OCT_FFIDX_FFIDX, 0), (F.OCT_FFBEAT_FFBEAT, 0), (F.OCT_FCTL_FFV, 0)])
  else ok s

end Sys2Proof.Machine
end

