-- ==== Sys2Proof/Machine/Capture.lean ====
section
/-! DEFINITION. Capture sets, windows, staging, backlog and delivery (R107, R190 to R209, R326). -/

namespace Sys2Proof.Machine

/-- Local time of the memory island, which keeps staging and the backlog. -/
def State.memNow (s : State) : Time := s.localNow 10

/-! ### Spans (R107, R191) -/

/-- The START–STOP span of set `q` that is open. -/
def CapSt.openSpan (k : CapSt) (q : Nat) : Bool := k.spans.any (fun p => p.1 == q && p.2.2.isNone)

/-- R191: START: the set is active from `t`; a span that is open already goes on from there. -/
def CapSt.start (k : CapSt) (q : Nat) (t : Time) : CapSt :=
  { k with spans := k.spans.map (fun p => if p.1 = q ∧ p.2.2 = none then (q, p.2.1, some t) else p) ++ [(q, t, none)] }

/-- R191: STOP at `t`; a START at the same instant leaves the set active. -/
def CapSt.stop (k : CapSt) (q : Nat) (t : Time) : CapSt :=
  { k with spans := k.spans.map (fun p => if p.1 = q ∧ p.2.2 = none ∧ p.2.1 ≠ t then (q, p.2.1, some t) else p) }

/-- R191: CAPT = START. -/
def execCaptStart (e : Fin 16) (s : State) : Res :=
  match s.takeAct e.val (fun a => match a with | .capt 1 _ _ => true | _ => false) with
  | some (a, s1) => match a.act with
    | .capt _ q _ => ok (s1.modCap a.site (fun k => k.start q a.t))
    | _ => ok s
  | none => ok s

/-- R191: CAPT = STOP. -/
def execCaptStop (e : Fin 16) (s : State) : Res :=
  match s.takeAct e.val (fun a => match a with | .capt 2 _ _ => true | _ => false) with
  | some (a, s1) => match a.act with
    | .capt _ q _ => ok (s1.modCap a.site (fun k => k.stop q a.t))
    | _ => ok s
  | none => ok s

/-- R107, R191, R203: CAPT = WORD at E(W): the span is complete, and what it alone holds is charged now. -/
def execCaptWord (e : Fin 16) (s : State) : Res :=
  match s.takeAct e.val (fun a => match a with | .capt 3 _ _ => true | _ => false) with
  | some (a, s1) => match a.act with
    | .capt _ q s0 =>
      let x := a.site
      let k := s1.capOf x
      let ws := k.words.filter (fun w => !(w.eng == e.val && w.q == q && w.s0 == s0))
      let here := fun (c : Cand) => c.q == q && decide (s0 ≤ c.u) && decide (c.u < a.t)
      let rest := k.held.filter (fun c => !here c)
      let s2 := s1.modCap x (fun v => { v with words := ws, fin := v.fin ++ [(q, s0, a.t)], held := stillHeld ws rest })
      ok ((k.held.filter here).foldl (fun b c => b.chargeCand x { c with charge := a.t }) s2)
    | _ => ok s
  | none => ok s

/-! ### Records and pages (R201) -/

/-- R201: the oldest record that waits enters the open page. -/
def execRecordEnter (site : Fin 16) (s : State) : Res :=
  let x := site.val
  match (s.capOf x).cands with
  | [] => ok s
  | c :: rest => ok ((s.modCap x (fun k => { k with cands := rest })).enterCand x c)

/-- The open page closes now for a cause that is not a record that does not fit: what waits enters first. -/
def State.flushPage (s : State) (x : Nat) : State :=
  let s1 := (s.capDrain x).capDue x s.memNow
  s1.closePage x true false s.memNow

/-- R201: no record for FLTO µs. -/
def execPageFlushTimeout (site : Fin 16) (s : State) : Res :=
  if s.getF F.SITE_CFLTO_FLTO site.val = 0 then ok s else ok (s.flushPage site.val)

/-- R207: FLUSH by the site's VF. -/
def execCaptureFlush (fn : Fn) (site : Fin 16) (s : State) : Res := s.hostOrder fn (fnIsSite fn site.val) R.SITE_CCTL site.val 1 fun s =>
  if s.fnSite fn site.val then ok (s.flushPage site.val) else ok s

/-! ### Windows (R203 to R206) -/

/-- Bytes of the window's candidates that a decimation exponent would keep (R204). -/
def CapSt.admitted (k : CapSt) (d : Nat) : Nat :=
  (k.window.filter (fun p => p.1 % 2 ^ d == 0)).foldl (fun a p => a + p.2.1) 0

/-- The admitted bytes of the window: of the records kept, each under the d in force when its candidate was charged (R203). -/
def CapSt.kept (k : CapSt) : Nat := (k.window.filter (fun p => p.2.2)).foldl (fun a p => a + p.2.1) 0

/-- The window boundary nearest an instant. -/
def boundary (t : Time) : Time := (t + Time.ofNs 512) / Time.ofNs 1024 * Time.ofNs 1024

/-- A GAP record (R196): reason, lost span and counts; it enters at `t`. -/
def State.putGap (s : State) (x reason : Nat) (a b : Time) (lost : List Nat) (t : Time) : State :=
  let body := wordsBytes ([Time.frac32 b, Time.int32 b, s.beatAt x b, 0] ++ lost)
  let r := recordBytes 5 0 0 reason (s.beatAt x a) false a body
  let e := s.enterRec x (s.beatAt x a) r true false false t
  (e.1.addF F.SITE_CLOST_LOST x (lost.foldl (· + ·) 0)).incF F.SITE_CGAPN_GAPN x

/-- R208: SUSPECT records that were held enter when storing resumes. -/
def State.putSuspects (s : State) (x : Nat) (t : Time) : State :=
  (s.capOf x).susp.foldl (fun a r =>
    (a.enterRec x (leNat ((r.drop 4).take 4)) r false true true t).1.setF F.SITE_CAPSTAT_SUSPECT x 1)
    (s.modCap x (fun k => { k with susp := [] }))

/-- No candidate lost. -/
def noLoss : List Nat := [0, 0, 0, 0]

/-- R206: capture stops at `t`; an overrun in progress ends with its own gap. SUSPECT records of that instant are held (R208,
R209). -/
def State.capStop (s : State) (x : Nat) (t : Time) : State :=
  let s0 := s.closePage x true true t
  let s1 := match (s0.capOf x).page with
    | some p => ((s0.modCap x (fun k => { k with page := none })).holdSuspects x p.tail).capShow x
    | none => s0
  let s2 := (s1.setFs x [(F.SITE_CAPSTAT_CAPT_FULL, 1), (F.SITE_CAPSTAT_STOPPED, 1)]).raiseVf x 14
  s2.modCap x (fun k =>
    match k.overrun with
    | some u => { k with gaps := k.gaps ++ [(0, u, t, k.lost)], lost := noLoss, overrun := none, stopped := some t }
    | none => { k with stopped := some t })

/-- R206: capture restarts at `t`: the GAP records, then what was held. -/
def State.capRestart (s0 : State) (x : Nat) (t : Time) : State :=
  let s := s0.lostRest x t
  let k := s.capOf x
  let l := k.gaps ++ (match k.stopped with | some u => [(1, u, t, k.lost)] | none => [])
  let s1 := (s.modCap x (fun v => { v with gaps := [], lost := noLoss, stopped := none })).setF F.SITE_CAPSTAT_STOPPED x 0
  (l.foldl (fun a g => a.putGap x g.1 g.2.1 g.2.2.1 g.2.2.2 t) s1).putSuspects x t

/-- R205: storing resumes at `t` after an overrun that began at `u`. -/
def State.capResume (s0 : State) (x : Nat) (u t : Time) : State :=
  let s := s0.lostRest x t
  let k := s.capOf x
  ((s.modCap x (fun v => { v with overrun := none, lost := noLoss })).putGap x 0 u t k.lost t).putSuspects x t

/-- R204: the decimation rules at the window end `t`. -/
def State.windowRules (s : State) (x : Nat) (t : Time) : State :=
  let k := s.capOf x
  let d := s.dec x
  let occ := s.getF F.SITE_CBKOCC_BKOCC x
  let full := decide (s.bksz x ≤ occ)
  let low := decide (occ * 2 < s.bksz x)
  if s.flag F.SITE_CAPSTAT_STOPPED x then
    if low && s.stageRoom x k.staged.length then s.capRestart x t else s
  else if d = 8 && (full || k.ovrWin) then s.capStop x t
  else
    let s1 := if decide (s.cwin x < k.kept) || full then
        if d = 8 then (s.setF F.SITE_CAPSTAT_REDUCED x 1).raiseVf x 14 else s.setDec x (d + 1) t
      else if 0 < d ∧ low ∧ k.admitted (d - 1) ≤ s.cwin x then s.setDec x (d - 1) t
      else s
    match (s1.capOf x).overrun with
    | some u => if s1.stageRoom x ((s1.capOf x).staged.length + (s1.capOf x).page.toList.length) then s1.capResume x u t else s1
    | none => s1

/-- R326: the FLASH words and cells that waited for this window go out, as many as it has room for. -/
def State.releaseHeld (s : State) (x : Nat) : State :=
  let h := s.siteOf x
  let nf := s.flslot x
  let nc := bits (s.map x 10) 15 8
  let s1 := s.modSite x (fun t => { t with
    flHeld := t.flHeld.drop nf, clHeld := t.clHeld.drop nc, flUsed := min nf t.flHeld.length, clUsed := min nc t.clHeld.length })
  let s2 := (h.flHeld.take nf).foldl (fun a w =>
    if bits w 2 0 = 0 then (a.flashSend w).flashShow x (bits w 19 16) else a.flashSend w) s1
  (h.clHeld.take nc).foldl (fun a c => a.route c) s2

/-- R203 to R206, R326: a 1,024 ns window of the site ends. -/
def execCaptureWindowEnd (site : Fin 16) (s : State) : Res :=
  let x := site.val
  let t := boundary s.memNow
  let s0 := (s.modCap x (fun k => { k with winStart := max k.winStart (t - Time.ofNs 1024) })).chargeAhead x t
  let s1 := (s0.capDrain x).capDue x t
  let s2 := s1.windowRules x t
  ok (((s2.modCap x (fun k => { k with window := [], winStart := t, ovrWin := false })).chargeAhead x (t + Time.ofNs 1024)).releaseHeld x)

/-! ### Backlog and host slots (R199, R202) -/

/-- R202: a backlog page is written and read to be delivered, as CAPTURE traffic (R21, R326), the reads by page and block; where in its
site's regions the backlog lies the manual does not say (log entry 54). -/
def State.pageTraffic (s : State) (x q : Nat) : State :=
  let a := s.anyVal % 16777216 * 4096
  (List.range 64).foldl (fun t b => t.request 1 x (a + b * 64) none (some (q, b))) (s.drawn.traffic 1 x a 64)

/-- R202, R326, R337: the oldest closed page moves from staging into the backlog, if that has a free page and the traffic of the pages before
it has been served. `sramUe` marks 8-byte words that staging cannot correct, `sramCe` counts corrected ones. -/
def execPageMove (site : Fin 16) (sramUe sramCe : Nat) (s : State) : Res :=
  let x := site.val
  let s0 := s.capDue x s.memNow
  match (s0.capOf x).staged with
  | [] => ok s0
  | p :: rest =>
    if s0.getF F.SITE_CBKOCC_BKOCC x < s0.bksz x ∧ s0.waiting 1 x = false then
      let m := sramUe % 2 ^ 512
      let q := { p with zero := p.zero ||| m }
      let s1 := ((s0.modCap x (fun k => { k with staged := rest, backlog := k.backlog ++ [q] })).incF F.SITE_CBKOCC_BKOCC x).capShow x
      let s2 := (s1.addF F.MEM_SCE_CNT 0 sramCe).pageTraffic x p.seq
      ok (if m = 0 then s2 else (s2.addF F.MEM_SUE_CNT 0 (popcount 512 m)).siteFault x 2)
    else ok s0

/-- The first 4,092 bytes of a page (R198). -/
def State.pageBytes (s : State) (x : Nat) (p : Page) : List Byte :=
  let hd := wordsBytes [1 + x * 256 + p.dec * 4096 + p.recs.length * 65536, p.seq,
    b2n p.gap + 2 * b2n p.susp + 4 * b2n p.stop + 8 * b2n p.early, p.beat, Time.frac32 p.openT, Time.int32 p.openT, p.closeNs,
    s.chipNo]
  ((padTo 4092 (hd ++ p.recs)).zipIdx).map (fun b => if hasBit p.zero (b.2 / 8) then 0#8 else b.1)

/-- The host function of VF `n`. -/
def vfFn (n : Nat) : Fn := if h : n < 16 then .vf ⟨n, h⟩ else .pf0

/-- A free slot of ring `r` of VF `x`: its host address (R442, R444). -/
def State.freeSlot (s : State) (x r size : Nat) : Option Nat :=
  let i := x * 4 + r
  let n := 2 ^ s.getF F.HST_RCFG_LOG2N i
  let prod := s.getF F.HST_RPROD_PROD i
  if x < s.numVfs ∧ s.flag F.HST_RCFG_EN i ∧ (prod + 4294967296 - s.getF F.HST_RCONS_CONS i) % 4294967296 < n then
    some (s.getF F.HST_RBASE_LO_BASE i + s.getF F.HST_RBASE_HI_BASE i * 4294967296 + prod % n * size)
  else none

/-- R199, R202, R326, R340: the oldest backlog page, once it has been read, goes into a host slot, DONE last. -/
def execPageDeliver (site : Fin 16) (_known : Known) (s : State) : Res :=
  let x := site.val
  match (s.capOf x).backlog, s.freeSlot x 2 4096 with
  | p :: rest, some a =>
    if s.reqs.any (fun r => r.site == x && r.page.map (fun q => q.1) == some p.seq) then ok s
    else
      let done := if hasBit p.zero 511 then 0 else 4294967295 - p.seq % 4294967296
      let s1 := (s.log (.dma (vfFn x) a (s.pageBytes x p))).log (.dma (vfFn x) (a + 4092) (leBytes 4 done))
      let s2 := (s1.modCap x (fun k => { k with backlog := rest })).setF F.SITE_CBKOCC_BKOCC x (s.getF F.SITE_CBKOCC_BKOCC x - 1)
      ok (((s2.incF F.SITE_CDLV_DLV x).incF F.HST_RPROD_PROD (x * 4 + 2)).raiseVf x 1)
  | _, _ => ok s

end Sys2Proof.Machine
end

