-- ==== Sys2Proof/Machine/Acq.lean ====
section
/-! DEFINITION. Acquisition (R210 to R224), and the samples and bits that capture and the PRBS checker take (R173, R192). -/

namespace Sys2Proof.Machine

/-! ### The slot (R210, R219) -/

/-- A byte of slot `c`. -/
def State.acqByte (s : State) (c b : Nat) : Byte := Tbl.get (fun _ => 0#8) s.acqMem (c * 131072 + b)

/-- Write a byte of slot `c`. -/
def State.setAcq (s : State) (c b : Nat) (v : Byte) : State :=
  { s with acqMem := Tbl.set (fun _ => 0#8) s.acqMem (c * 131072 + b) v }

/-- The 32-bit count at byte offset `b`. -/
def State.bin (s : State) (c b : Nat) : Nat := leNat ((List.range 4).map (fun k => s.acqByte c (b + k)))

/-- One more in a bin; at its largest value it stays there and SAT is set. -/
def State.incBin (s : State) (c b : Nat) : State :=
  let n := s.bin c b
  if n = 4294967295 then s.setF F.ACQ_STAT_SAT c 1
  else (leBytes 4 (n + 1)).zipIdx.foldl (fun a p => a.setAcq c (b + p.2) p.1) s

/-- Slot `c` is zero. -/
def State.zeroSlot (s : State) (c : Nat) : State :=
  { s with acqMem := s.acqMem.filter (fun p => !(decide (c * 131072 ≤ p.1) && decide (p.1 < (c + 1) * 131072))) }

/-- FUNC of channel `c`. -/
def State.acqFunc (s : State) (c : Nat) : Nat := s.getF F.ACQ_CFG_FUNC c

/-- POST of channel `c`. -/
def State.acqPost (s : State) (c : Nat) : Nat := s.getF F.ACQ_POST_POST c

/-- R337: the 64-bit word of slot `c` that holds byte `b` cannot be corrected: it reads as 0, and its site has a fault. -/
def State.acqLost (s : State) (c b : Nat) : State :=
  let s1 := ((List.range 8).foldl (fun a k => a.setAcq c (b / 8 * 8 + k) 0#8) s).addF F.MEM_SUE_CNT 0 1
  match s.owner c with
  | some x => s1.siteFault x 2
  | none => s1

/-! ### The roving sampler's counts (R212, R218, R219) -/

/-- The phase in force. -/
def State.rovPhase (s : State) (c : Nat) : Nat :=
  if s.flag F.ACQ_ROV_SWEEP c then (s.chanOf c).acq.phase else s.getF F.ACQ_ROV_PHASE c

/-- The byte offset of the bin of a roving sample with code `code` at phase `p`: in the map, or in the voltage histogram of VSRC = 1. -/
def State.rovBin (s : State) (c p code : Nat) : Option Nat :=
  match s.acqFunc c with
  | 1 => some ((p * 256 + code) * 4)
  | 2 => if s.flag F.ACQ_CFG_VSRC c then some (code * 4) else none
  | _ => none

/-- One fewer in a bin that is not at an end of its range. -/
def State.decBin (s : State) (c b : Nat) : State :=
  let n := s.bin c b
  if n = 0 ∨ n = 4294967295 then s else (leBytes 4 (n - 1)).zipIdx.foldl (fun a p => a.setAcq c (b + p.2) p.1) s

/-- A counted roving sample goes to its bin. -/
def State.rovCount (s : State) (c p code : Nat) : State :=
  match s.rovBin c p code with
  | some b => s.incBin c b
  | none => s

/-- R212: the roving sample of a UI that the gate admits: with a sweep, the settling UIs of a phase are not counted, and the dwell
counts the others. -/
def State.rovTake (s : State) (c p code : Nat) : State :=
  let a := (s.chanOf c).acq
  if s.flag F.ACQ_ROV_SWEEP c = false then s.rovCount c p code
  else if 0 < a.settle then s.modAcq c (fun q => { q with settle := a.settle - 1 })
  else if a.dwell < 2 ^ s.getF F.ACQ_ROV_DWELL c then (s.rovCount c p code).modAcq c (fun q => { q with dwell := a.dwell + 1 })
  else s

/-! ### Counted UIs (R217, R218) -/

/-- R220: does a UI that starts at `u` lie between the run's start and stop boundaries? -/
def AcqSt.inRun (a : AcqSt) (u : Time) : Bool := decide (a.t0 ≤ u) && (a.run || decide (u < a.t1))

/-- R218, R219: what a counted UI adds: its code, the crossing after it, its roving sample. -/
def State.acqTake (s : State) (c : Nat) (q : AcqUi) : State :=
  let s1 := if s.acqFunc c == 2 && !s.flag F.ACQ_CFG_VSRC c then s.incBin c (q.code * 4) else s
  let s2 := match q.cross with
    | some k => if s.acqFunc c == 2 then s1.incBin c (1024 + 4 * k) else s1
    | none => s1
  match q.rov with
  | some r => s2.rovTake c r.1 r.2
  | none => s2

/-- R217: a UI that was counted proves to lie in no window: what it added is taken back. -/
def State.acqUntake (s : State) (c : Nat) (q : AcqUi) : State :=
  let s1 := if s.acqFunc c == 2 && !s.flag F.ACQ_CFG_VSRC c then s.decBin c (q.code * 4) else s
  let s2 := match q.cross with
    | some k => if s.acqFunc c == 2 then s1.decBin c (1024 + 4 * k) else s1
    | none => s1
  match q.rov.bind (fun r => s.rovBin c r.1 r.2) with
  | some b => (s2.decBin c b).modAcq c (fun a => { a with dwell := a.dwell - 1 })
  | none => s2

/-- Is a UI whose main sampling instant is `t` counted, for gates other than 0b11 (R217)? -/
def State.acqGate (s : State) (c : Nat) (t : Time) : Bool :=
  let x := (s.owner c).getD 16
  match s.getF F.ACQ_CFG_GATE c with
  | 0 => true
  | 1 => s.flag F.SITE_BSTAT_RUN x && decide ((s.sched x).b0 ≤ t) && !(s.sched x).inGap t
  | 2 => hasBit (s.siteOf x).trigIn (s.getF F.ACQ_CFG_TIN c)
  | _ => false

/-! ### Triggers (R214, R215, R217) -/

/-- The UIs taken at or after `u`, newest first: the last of them is the reference of a trigger at `u` (R215). -/
def AcqSt.taken (a : AcqSt) (u : Time) : List AcqUi := a.uis.takeWhile (fun q => decide (u ≤ q.t))

/-- R215: a trigger at `u` fixes the record: its reference sample `r`, which `k` others follow, and the record's registers. TFRAC counts
1/256 of the UI of the sample before the reference. -/
def State.acqRef (s : State) (c : Nat) (u : Time) (r : AcqUi) (k : Nat) : State :=
  let a := (s.chanOf c).acq
  let before := match (a.uis.drop (k + 1)).head? with | some q => (q.t, q.ui) | none => (r.t - r.ui, r.ui)
  let fr := if before.2 = 0 then 255 else min 255 (256 * (u - before.1) / before.2)
  let x := (s.owner c).getD 16
  let off := r.off.getD a.off
  let n := (a.off + 131071 - off) % 131072
  (s.setFs c [(F.ACQ_TRGT_LO_FRAC, Time.frac32 u), (F.ACQ_TRGT_HI_NS, Time.int32 u),
    (F.ACQ_TREC_TIDX, off), (F.ACQ_TREC_TFRAC, fr), (F.ACQ_TRBEAT_BEAT, s.beatAt x u)]).modAcq c (fun q => { q with
      trig := some u, refSeen := true, left := s.acqPost c - 1 - n })

/-- Does a trigger at `u` with reference `r` start the record: armed, after the holdoff, its reference inside the run and written to the
record, and first in instant order (R214, R215, R224)? `k` samples of the record lie after `u`. -/
def State.acqFires (s : State) (c : Nat) (u : Time) (r : AcqUi) (k : Nat) : Bool :=
  let a := (s.chanOf c).acq
  s.acqFunc c == 3 && s.flag F.ACQ_STAT_ARMED c && decide (a.armT ≤ u) && a.inRun r.start && r.off.isSome &&
    decide (s.getF F.ACQ_WIN_PRE c + k ≤ a.since) && (match a.trig with | some v => decide (u < v) | none => true)

/-- R217: which of a run of UIs lie in windows of `n`, oldest first: `left` UIs of a window are still to come, `prev` is the sample before
them, and `us` are the trigger instants: a UI is the reference of one after the sample before it and not after its own. The marks, and
what is left of the last window. -/
def windowsOver (n : Nat) (us : List Time) : Time → Nat → List AcqUi → List Bool × Nat
  | _, left, [] => ([], left)
  | prev, left, q :: l =>
    let k := if left = 0 ∧ us.any (fun u => decide (prev < u) && decide (u ≤ q.t)) then n else left
    let r := windowsOver n us q.t (k - 1) l
    (decide (0 < k) :: r.1, r.2)

/-- R217: a trigger at `u` opens a window of GATE = 0b11 at its reference `r`, unless that sample lies in one. The windows from there on,
over the UIs taken already (`l`, newest first), follow in instant order: a UI that proves to lie in one is counted now, one that does not
is counted no more. -/
def State.acqWindow (s : State) (c : Nat) (u : Time) (r : AcqUi) (l : List AcqUi) : State :=
  let a := (s.chanOf c).acq
  if s.getF F.ACQ_CFG_GATE c = 3 ∧ a.inRun r.start then
    let us := (u :: a.trigs).take 64
    let s1 := s.modAcq c (fun q => { q with trigs := us })
    if r.counted then s1
    else
      let w := windowsOver (s.acqPost c) us (u - 1) 0 l.reverse
      let p := l.reverse.zip w.1
      let s2 := p.foldl (fun b q =>
        if q.2 && !q.1.counted && a.inRun q.1.start then b.acqTake c q.1
        else if !q.2 && q.1.counted then b.acqUntake c q.1 else b) s1
      s2.modAcq c (fun q => { q with
        gateLeft := w.2,
        uis := (p.map (fun z => { z.1 with counted := z.2 && a.inRun z.1.start })).reverse ++ q.uis.drop l.length })
  else s

/-- A trigger event at `u` is judged once the sample that would be its reference has been taken. -/
def State.acqJudge (s : State) (c : Nat) (u : Time) : State :=
  let a := (s.chanOf c).acq
  let l := a.taken u
  match l.getLast? with
  | none => s
  | some r =>
    let s1 := if s.acqFires c u r ((l.filter (fun q => decide (u < q.t) && q.off.isSome)).length) then s.acqRef c u r (l.length - 1) else s
    s1.acqWindow c u r l

/-- A trigger event of channel `c` at `u`: it is judged now, or with the first sample at or after it. -/
def State.acqTrigger (s : State) (c : Nat) (u : Time) : State :=
  if ((s.chanOf c).acq.taken u).isEmpty then s.modAcq c (fun q => { q with events := q.events ++ [u] }) else s.acqJudge c u

/-- The events at or before `t` are judged in instant order, `n` at most. -/
def State.acqEvents (s : State) (c : Nat) (t : Time) : Nat → State
  | 0 => s
  | n + 1 =>
    match best (fun (a b : Time) => decide (a < b)) (s.chanOf c).acq.events with
    | some u =>
      if u ≤ t then ((s.modAcq c (fun q => { q with events := q.events.filter (fun v => v != u) })).acqJudge c u).acqEvents c t n else s
    | none => s

/-- A crossing of channel `c` triggers the channels of its site that select it (R214). -/
def State.acqCrossing (s : State) (c : Nat) (u : Time) : State :=
  match s.owner c with
  | none => s
  | some x =>
    (s.siteChans x).foldl (fun a d =>
      if (d = c ∧ s.getF F.ACQ_CFG_TSRC d = 0) ∨ (s.getF F.ACQ_CFG_TSRC d = 1 ∧ s.getF F.ACQ_CFG_TCH d = c) then a.acqTrigger d u else a) s

/-- R214: a rising edge of a site's trigger input slot registered at `u`. -/
def State.acqTrigIn (s : State) (x slot : Nat) (u : Time) : State :=
  (s.siteChans x).foldl (fun a d =>
    if s.getF F.ACQ_CFG_TSRC d = 2 ∧ s.getF F.ACQ_CFG_TIN d = slot then a.acqTrigger d u else a) s

/-! ### Samples (R39, R211, R213) -/

/-- The ADC full scale in mV (R38). -/
def State.fullScale (s : State) (c : Nat) : Int :=
  match s.getL F.OCT_RXCFG_FS (chIx c) with
  | 0 => 600
  | 1 => 300
  | 2 => 150
  | _ => 75

/-- R39: the code for an input after the CTLE, in units of level. A value halfway between two codes gives the higher one (DESIGN CHOICE,
log entry 61). -/
def State.adcCode (s : State) (c : Nat) (v : Int) : Nat :=
  let fs := s.fullScale c * (1000 * levelUnit)
  (max 0 (min 255 (128 + (2 * v * 128 + fs) / (2 * fs)))).toNat

/-- R38, R46, R211: the level after the CTLE of channel `c` at `tm`, with `uv` microvolts at the RX balls. At 0 dB of peaking the
signal passes unchanged; else the level is a free value. -/
def State.adcInput (s : State) (c : Nat) (uv : Int) (tm : Time) : Int :=
  let v := s.rxLevel c uv tm
  let k := s.getL F.OCT_RXCFG_CTLE (chIx c)
  if k = 0 then v else Config.ctle k v s.free

/-- The first vector of a channel that the ADC has not sampled, by its SA. -/
def ChanSt.nextSample (h : ChanSt) : Option (Vect × Nat) :=
  best (fun (a b : Vect × Nat) => decide (a.1.sa < b.1.sa)) (h.vects.zipIdx.filter (fun p => !p.1.smp))

/-- R39, R211: the UI that the ADC samples, its start, main sampling instant and length, by the personality: of the next vector, its SA;
of the waveform sample that holds `tm`, its start; of a received symbol, its centre `tm`. With the beat that it starts in. -/
def State.adcUi (s : State) (c : Nat) (tm : Time) : Option (Time × Time × Time × Nat) :=
  let o := octOf c
  let x := (s.owner c).getD 16
  match s.pers o with
  | 0 => ((s.chanOf c).nextSample).map (fun p => (p.1.start, p.1.sa, p.1.per, p.1.beat))
  | 1 =>
    let f := s.flineQ o
    let d := s.getL F.OCT_WFCFG_SDIV o
    let w := (s.octSt o).wave
    let t := symStart (s.spread o) f d w.anchor (symCeil (s.spread o) f d w.anchor (tm + 1) - 1)
    some (t, t, if f.1 = 0 then 0 else 4294967296000000000 * 2 ^ d * f.2 / f.1, s.beatAt x t)
  | _ =>
    let u := s.symLen c
    some (tm - u / 2, tm, u, s.beatAt x (tm - u / 2))

/-- R213: the FRAC of a crossing from code `a` to code `b`. -/
def crossFrac (lev a b : Int) : Nat := min 255 (256 * (lev - a).natAbs / (b - a).natAbs)

/-- R213: does the step from `a` to `b` cross, in a slope that TSLOPE selects and that is re-armed? -/
def State.crosses (s : State) (c : Nat) (a b : Nat) : Bool :=
  let lev := s.getF F.ACQ_TLEV_LEV c
  let q := (s.chanOf c).acq
  let sl := s.getF F.ACQ_CFG_TSLOPE c
  (decide (a < lev) && decide (lev ≤ b) && q.armR && sl != 1) ||
    (decide (lev ≤ a) && decide (b < lev) && q.armF && (sl == 1 || sl == 2))

/-- R213: the re-arm flags after a step from `a` to `b`. -/
def State.rearm (s : State) (c a b : Nat) : State :=
  let lev := s.getF F.ACQ_TLEV_LEV c
  let hys := s.getF F.ACQ_TLEV_HYS c
  s.modAcq c (fun q => { q with
    armR := (q.armR && !(decide (a < lev) && decide (lev ≤ b))) || decide (b + 1 + hys ≤ lev),
    armF := (q.armF && !(decide (lev ≤ a) && decide (b < lev))) || decide (lev + hys ≤ b) })

/-- R213: the step from the latest code to `code`: a crossing is stamped, counted, binned where its UI is counted, and triggers. -/
def State.acqStep (s : State) (c code : Nat) : State :=
  let a := (s.chanOf c).acq
  match a.uis with
  | [] => s.rearm c code code
  | q :: rest =>
    if s.crosses c q.code code then
      let k := crossFrac (s.getF F.ACQ_TLEV_LEV c) q.code code
      let u := q.t + (q.ui * k + 255) / 256
      let s1 := if a.inRun u then s.incF F.ACQ_TRGCNT_TRGCNT c else s
      let s2 := if q.counted && s.acqFunc c == 2 then s1.incBin c (1024 + 4 * k) else s1
      ((s2.rearm c q.code code).modAcq c (fun z => { z with uis := { q with cross := some k } :: rest })).acqCrossing c u
    else s.rearm c q.code code

/-- R215: a sample goes to the record's buffer while ARMED = 1 and the record is not full. -/
def State.acqWrite (s : State) (c code : Nat) : State :=
  let a := (s.chanOf c).acq
  if s.acqFunc c == 3 && s.flag F.ACQ_STAT_ARMED c && !(a.refSeen && a.left == 0) then
    (s.setAcq c a.off (BitVec.ofNat 8 code)).modAcq c (fun q => { q with
      off := (a.off + 1) % 131072, since := a.since + 1, left := a.left - 1 })
  else s

/-- R215, R217, R218: the UI joins the latest ones, with the roving sample that waited for it; it is counted where the run and the
gate admit it; then the events up to its main sampling instant are judged. -/
def State.acqUi (s : State) (c : Nat) (start t ui : Time) (code : Nat) : State :=
  let a := (s.chanOf c).acq
  let win := s.getF F.ACQ_CFG_GATE c = 3
  let inn := a.inRun start && (if win then decide (0 < a.gateLeft) else s.acqGate c t)
  let s0 := s.acqWrite c code
  let q : AcqUi := { start := start, t := t, ui := ui, code := code, rov := a.rov, counted := inn,
                     off := if (s0.chanOf c).acq.since = a.since then none else some a.off }
  let s1 := s0.modAcq c (fun z => { z with
    uis := (q :: z.uis).take 4096, rov := none, gateLeft := z.gateLeft - b2n win })
  let s2 := if inn then s1.acqTake c q else s1
  s2.acqEvents c t a.events.length

/-- The number of an entry that starts in a beat, by the latest beat and the entries so far in it (R192). -/
def entryNum (p : Nat × Nat) (beat : Nat) : Nat := if p.1 = beat then p.2 else 0

/-- A sample as an entry of SAMPLES capture (R192, R196): entries are vectors, symbols or samples, and have their starts. A unit that it
completes is charged at `t` (R203). -/
def State.sampleEntry (s : State) (c code : Nat) (start t : Time) (beat num : Nat) : State :=
  let u := unitStep (s.chanOf c).samples beat num code start
  let s1 := s.modChan c (fun k => { k with samples := u.1, sampNum := (beat, num + 1) })
  match u.2 with
  | some k => s1.unitDone c 2 k t
  | none => s1

/-- R173, R184, R185, R192: the symbol whose code is the fourth latest is decided: its bits are received, and are an entry of BITS
capture. -/
def State.symbolDecide (s : State) (c : Nat) (t ui : Time) : State :=
  let i := lnIx c
  let h := s.chanOf c
  let start := t - ui / 2
  let beat := s.beatAt ((s.owner c).getD 16) start
  let num := entryNum h.symNum beat
  let y := s.slice c (h.lane.rxCodes.map (fun p => p.1))
  let d := decodeSym (s.pam4 c) (s.flagL F.OCT_LCFG_PREC i) (s.flagL F.OCT_LCFG_RXINV i) h.lane.rxPrev y
  let u := unitStep h.bits beat num (d.1.getD 0 0 + 2 * d.1.getD 1 0) start
  let s1 := (s.modChan c (fun k => { k with bits := u.1, symNum := (beat, num + 1) })).modLane c (fun l => { l with
    rxPrev := if s.flag F.OCT_FESTAT_SIGDET (chIx c) then d.2 else 0, rxSlice := y })
  let n := bps (s.pam4 c)
  let s2 := d.1.zipIdx.foldl (fun a p => a.rxBit c p.1 (start + ui * p.2 / n) (start + ui) num beat) s1
  (match u.2 with
  | some k => s2.unitDone c 1 k (start + ui)
  | none => s2).lateUnits c

/-- A code reaches the receive side of a protocol lane that is in lock (R184); the cursor of the RX FFE lies three codes back. -/
def State.symbolCode (s : State) (c code : Nat) (t ui : Time) : State :=
  if s.pers (octOf c) ≠ 2 ∨ s.flag F.OCT_LSTAT_LOCK (lnIx c) = false then s
  else
    let s1 := s.modLane c (fun l => { l with rxCodes := ((code, t, ui) :: l.rxCodes).take 12 })
    match (s1.chanOf c).lane.rxCodes[3]? with
    | some p => s1.symbolDecide c p.2.1 p.2.2
    | none => s1

/-- The byte of the slot that the main sample with code `code` goes to: of the record, or of the voltage histogram; none where it goes to
none (R215, R218). -/
def State.sampleByte (s : State) (c code : Nat) : Option Nat :=
  let a := (s.chanOf c).acq
  if s.acqFunc c = 3 ∧ s.flag F.ACQ_STAT_ARMED c = true ∧ ¬(a.refSeen = true ∧ a.left = 0) then some a.off
  else if s.acqFunc c = 2 ∧ s.flag F.ACQ_CFG_VSRC c = false then some (code * 4)
  else none

/-- R39, R211 to R218: the ADC takes the sample of one UI, with `uv` microvolts at the RX balls; `tm` is the centre of the recovered
symbol, or an instant in a waveform sample. `sram` is what error correction found in the word that the sample goes to (R337). A unit of
SAMPLES that it completes is charged at SB of the vector, or at the end of the symbol or sample (R203). -/
def execAdcSample (ch : Fin 64) (uv : Int) (tm : Time) (sram : SramErr) (s : State) : Res :=
  let c := ch.val
  match (if s.rxOn then s.adcUi c tm else none) with
  | none => ok s
  | some (start, t, ui, beat) =>
    let code := s.adcCode c (s.adcInput c uv t)
    let h := s.chanOf c
    let v := if s.pers (octOf c) = 0 then h.nextSample else none
    let num := match v with | some p => p.1.idx | none => entryNum h.sampNum beat
    let fin := match v with | some p => p.1.sb | none => start + ui
    let s1 := (match v with
      | some p => s.setChan c { h with vects := h.vects.set p.2 { p.1 with smp := true } }
      | none => s).drawn.addF F.MEM_SCE_CNT 0 sram.ce
    let s2 := match sram.ue, s.sampleByte c code with
      | true, some b => s1.acqLost c b
      | _, _ => s1
    ok ((((s2.sampleEntry c code start fin beat num).symbolCode c code t ui).acqStep c code).acqUi c start t ui code)

/-! ### The record (R215, R216) -/

/-- R215: the last POST sample is written: ARMED clears and TRIGD is set. -/
def execAcqRecordDone (ch : Fin 64) (s : State) : Res :=
  let c := ch.val
  let a := (s.chanOf c).acq
  if s.flag F.ACQ_STAT_ARMED c && a.refSeen && a.left == 0 then
    ok ((s.setFs c [(F.ACQ_STAT_ARMED, 0), (F.ACQ_STAT_TRIGD, 1)]).modAcq c (fun q => { q with trig := none, refSeen := false }))
  else ok s

/-- R215: ARM by the owner's VF starts or restarts the record. The manual does not say at which offset it starts. -/
def execAcqArm (fn : Fn) (ch : Fin 64) (s : State) : Res := s.hostOrder fn (s.fnOwns fn ch.val) R.ACQ_CTL ch.val 2 fun s =>
  let c := ch.val
  if s.fnOwns fn c && s.acqFunc c == 3 && s.flag F.ACQ_CTL_RUN c then
    ok ((s.drawn.setFs c [(F.ACQ_STAT_ARMED, 1), (F.ACQ_STAT_TRIGD, 0)]).modAcq c (fun q => { q with
      armT := s.localNow (octOf c), off := s.anyVal % 131072, since := 0, trig := none, refSeen := false, left := 0 }))
  else ok s

/-- R214: FORCE, at the 1 ns tick at which it reaches the octet. -/
def execAcqForce (fn : Fn) (ch : Fin 64) (s : State) : Res := s.hostOrder fn (s.fnOwns fn ch.val) R.ACQ_CTL ch.val 4 fun s =>
  let c := ch.val
  if s.fnOwns fn c then ok (s.acqTrigger c (Time.ofNs (Time.toNs (s.localNow (octOf c))))) else ok s

/-- R216: the write to ACQ_TTRIG_HI submits the target: armed when it lies 16 ns to 2^31 ns ahead, otherwise TMISS. -/
def execAcqTtrigSubmit (fn : Fn) (ch : Fin 64) (ns : Nat) (s : State) : Res := s.hostOrder fn (s.fnOwns fn ch.val) R.ACQ_TTRIG_HI ch.val ns fun s =>
  let c := ch.val
  if s.fnOwns fn c then
    let o := octOf c
    let s1 := s.setF F.ACQ_TTRIG_HI_NS c ns
    let now := s.copyFix o
    let v := ns % 4294967296 * 4294967296 + s.getF F.ACQ_TTRIG_LO_FRAC c
    let d := (v + 18446744073709551616 - now % 18446744073709551616) % 18446744073709551616
    let keep := s.time.armed.filter (fun p => match p.2 with | .acqTrig k _ => k != ch | _ => true)
    if 16 * 4294967296 ≤ d ∧ d < 2147483648 * 4294967296 then
      ok { s1 with time := { s1.time with armed := keep ++ [(o, .acqTrig ch (Time.ofFix (now + d)))] } }
    else
      let s2 : State := { s1 with time := { s1.time with armed := keep } }
      ok (s2.setF F.ACQ_STAT_TMISS c 1)
  else ok s

/-! ### Roving sampler (R212, R219) -/

/-- R211, R212: the main sampling instant and the length of the UI whose roving sample is taken: at phases below 64 the UI that the ADC
samples next, else the latest. -/
def State.rovUi (s : State) (c p : Nat) : Time × Time :=
  let h := s.chanOf c
  match h.acq.uis.head?, (if s.pers (octOf c) = 0 then h.nextSample else none) with
  | some q, v =>
    if p < 64 then match v with
      | some n => (n.1.sa, n.1.per)
      | none => (q.t + q.ui, q.ui)
    else (q.t, q.ui)
  | none, some n => (n.1.sa, n.1.per)
  | none, none => (s.localNow (octOf c), 0)

/-- R212: the instant of the roving sample at phase `p`: (p - 64) / 128 UI from the main sampling instant, to the nearest 0.125 ps. -/
def State.rovAt (s : State) (c p : Nat) : Time :=
  let u := s.rovUi c p
  let d : Int := ((p : Int) - 64) * u.2
  ((u.1 : Int) + (2 * d + 549755813888) / 1099511627776 * 4294967296).toNat

/-- R212: a roving sample, at phases below 64 before the main sample of its UI, which it waits for, else after it: it is counted where
its UI is. -/
def execRovingSample (ch : Fin 64) (r : Roving) (s : State) : Res :=
  let c := ch.val
  let p := s.rovPhase c
  let s0 := s.setF F.ACQ_STAT_ROVPH c p
  if s.rxOn = false then ok s0
  else
    let code := s.adcCode c (s.adcInput c r.uv (s.rovAt c p))
    let s1 := s0.drawn.addF F.MEM_SCE_CNT 0 r.sram.ce
    let s2 := match s.rovBin c p code with
      | some b => if r.sram.ue then s1.acqLost c b else s1
      | none => s1
    if p < 64 then ok (s2.modAcq c (fun q => { q with rov := some (p, code) }))
    else match (s.chanOf c).acq.uis with
      | q :: rest =>
        let s3 := s2.modAcq c (fun z => { z with uis := { q with rov := some (p, code) } :: rest })
        ok (if q.counted then s3.rovTake c p code else s3)
      | [] => ok s2

/-- R212: the dwell of a phase is complete: the next phase, and after phase 127 one more pass. -/
def execRovingStep (ch : Fin 64) (s : State) : Res :=
  let c := ch.val
  let a := (s.chanOf c).acq
  if s.flag F.ACQ_ROV_SWEEP c ∧ a.settle = 0 ∧ 2 ^ s.getF F.ACQ_ROV_DWELL c ≤ a.dwell then
    let p := (a.phase + 1) % 128
    let s1 := (s.modAcq c (fun q => { q with phase := p, settle := 4, dwell := 0 })).setF F.ACQ_STAT_ROVPH c p
    ok (if p = 0 then s1.satF F.ACQ_PASS_PASS c 1 else s1)
  else ok s

/-! ### Running and clearing (R220, R222) -/

/-- R220: counting starts at the UI boundary `tm` after the write of RUN = 1. -/
def execAcqRunStart (ch : Fin 64) (tm : Time) (s : State) : Res :=
  let c := ch.val
  if s.flag F.ACQ_CTL_RUN c && !(s.chanOf c).acq.run then
    ok ((s.setFs c [(F.ACQ_STAT_ACTIVE, 1), (F.ACQ_RUNT0_NS, Time.ns32 tm)]).modAcq c (fun q => { q with
      run := true, t0 := tm, gateLeft := 0, trigs := [] }))
  else ok s

/-- R220, R224: counting stops at the UI boundary `tm` after RUN = 0; a trigger counts when its reference sample lies before it. -/
def execAcqRunStop (ch : Fin 64) (tm : Time) (s : State) : Res :=
  let c := ch.val
  if !s.flag F.ACQ_CTL_RUN c && (s.chanOf c).acq.run then
    ok ((s.setF F.ACQ_RUNT1_NS c (Time.ns32 tm)).modAcq c (fun q => { q with
      run := false, t1 := tm, trig := if q.refSeen then q.trig else none }))
  else ok s

/-- R220: the last increment of the run is in the SRAM. -/
def execAcqStopDone (ch : Fin 64) (s : State) : Res :=
  if (s.chanOf ch.val).acq.run then ok s else ok (s.setF F.ACQ_STAT_ACTIVE ch.val 0)

/-- R220: CLR by the owner's VF; refused while RUN = 1, and without effect while one is running (R5). -/
def execAcqClr (fn : Fn) (ch : Fin 64) (s : State) : Res := s.hostOrder fn (s.fnOwns fn ch.val) R.ACQ_CTL ch.val 8 fun s =>
  let c := ch.val
  if s.fnOwns fn c && !(s.chanOf c).acq.clearing then
    if s.flag F.ACQ_CTL_RUN c then ok (s.setF F.ACQ_STAT_CFG_REJ c 1)
    else ok ((s.setF F.ACQ_EYER_VALID c 0).modAcq c (fun q => { q with clearing := true, eye := false }))
  else ok s

/-- R220: the slot and ACQ_PASS are zero, and the sweep restarts at phase 0 (R212). -/
def execAcqClrDone (ch : Fin 64) (s : State) : Res :=
  let c := ch.val
  if (s.chanOf c).acq.clearing then
    ok (((s.zeroSlot c).setFs c [(F.ACQ_PASS_PASS, 0), (F.ACQ_STAT_ROVPH, 0)]).modAcq c (fun q => { q with
      clearing := false, phase := 0, settle := 4, dwell := 0 }))
  else ok s

/-- R222: EYE by the owner's VF on a stopped map. -/
def execAcqEye (fn : Fn) (ch : Fin 64) (s : State) : Res := s.hostOrder fn (s.fnOwns fn ch.val) R.ACQ_CTL ch.val 16 fun s =>
  let c := ch.val
  if s.fnOwns fn c && !(s.chanOf c).acq.eye then
    if !s.flag F.ACQ_CTL_RUN c && !s.flag F.ACQ_STAT_ACTIVE c && s.acqFunc c == 1 then
      ok ((s.setF F.ACQ_EYER_VALID c 0).modAcq c (fun q => { q with eye := true }))
    else ok (s.setF F.ACQ_STAT_CFG_REJ c 1)
  else ok s

/-- R222: is column `p` open? -/
def State.eyeOpen (s : State) (c p : Nat) : Bool :=
  let lo := s.getF F.ACQ_EYECFG_BLO c
  let hi := s.getF F.ACQ_EYECFG_BHI c
  decide ((List.range 256).foldl (fun a k => if lo ≤ k ∧ k ≤ hi then a + s.bin c ((p * 256 + k) * 4) else a) 0 ≤ s.getF F.ACQ_ETHR_ETHR c)

/-- Elements at the front of a list that satisfy `p`. -/
def runLen (p : Nat → Bool) : List Nat → Nat
  | [] => 0
  | x :: t => if p x then 1 + runLen p t else 0

/-- R222: the eye result. -/
def execAcqEyeDone (ch : Fin 64) (s : State) : Res :=
  let c := ch.val
  if (s.chanOf c).acq.eye then
    let s1 := s.modAcq c (fun q => { q with eye := false })
    if s.eyeOpen c 64 then
      let l := 64 - runLen (s.eyeOpen c) ((List.range 64).reverse)
      let r := 64 + runLen (s.eyeOpen c) ((List.range 63).map (fun k => k + 65))
      ok (s1.setFs c [(F.ACQ_EYER_LEFT, l), (F.ACQ_EYER_RIGHT, r), (F.ACQ_EYER_WIDTH, r - l + 1), (F.ACQ_EYER_VALID, 1)])
    else ok (s1.setFs c [(F.ACQ_EYER_LEFT, 0), (F.ACQ_EYER_RIGHT, 0), (F.ACQ_EYER_WIDTH, 0), (F.ACQ_EYER_VALID, 1)])
  else ok s

end Sys2Proof.Machine
end

