-- ==== Sys2Proof/Machine/Tdc.lean ====
section
/-! DEFINITION. Time-interval and frequency measurement (R225 to R234). Stamps are counts of 1/4,096 ns. -/

namespace Sys2Proof.Machine

/-- Largest interval or period, 2^36 - 1 LSB (R230). -/
def tdcMax : Nat := 68719476735

/-- One more start or gate discarded. -/
def State.tdcDisc (s : State) (c : Nat) : State := s.incF F.OCT_TDCDISC_DISC (chIx c)

/-- A completed interval or period of channel `c` updates the accumulators (R231). -/
def State.tdcValue (s : State) (c v : Nat) (warm : Bool) : State :=
  let t := (s.chanOf c).tdc
  let d := ((v : Int) - s.getF F.OCT_TDCREF_REF (chIx c)).natAbs
  let q := t.sq + d * d
  let s1 := s.modTdc c (fun k => { k with
    cnt := satAt 32 (k.cnt + 1), sum := (k.sum + v) % 2 ^ 64, sq := satAt 64 q,
    min := if v < k.min then v else k.min, max := if k.max < v then v else k.max, warm := k.warm || warm })
  if 2 ^ 64 ≤ q then s1.setF F.OCT_TDCSTAT_SQSAT (chIx c) 1 else s1

/-- R230: the stamp `b` of a stop or later edge completes a value with the start `a`, or lies too late and discards it. -/
def State.tdcSpan (s : State) (c a b : Nat) (warm : Bool) : State :=
  if b - a ≤ tdcMax then s.tdcValue c (b - a) warm else s.tdcDisc c

/-- Does a stamp lie before the tick at which the run of a TDC stops (R232)? -/
def TdcSt.before (k : TdcSt) (st : Nat) : Bool := match k.stopT with | some n => decide (st < n * 4096) | none => true

/-- Does a stamp lie in the run of a TDC, at or after its RUN boundary and before its stop tick (R230, R232)? -/
def TdcSt.takes (k : TdcSt) (st : Nat) : Bool := k.run && decide (k.t0 * 4096 ≤ st) && k.before st

/-- The intervals that an edge of channel `c` at `st` stops, its warm mark `w`: the starts strictly before it. One that lies too far back
is discarded instead (R230). -/
def State.tdcStops (s : State) (c st : Nat) (w : Bool) : State :=
  (s.stopsFor c).foldl (fun a d =>
    match (a.chanOf d).tdc.start with
    | some (p, v) =>
      if p < st ∧ (a.chanOf d).tdc.before st then (a.modTdc d (fun k => { k with start := none })).tdcSpan d p st (v || w) else a
    | none => a) s

/-- Does an edge of channel `c` at `st` stop the channel's own interval? It is then no start (R230). -/
def State.tdcOwnStop (s : State) (c st : Nat) : Bool :=
  (s.stopsFor c).contains c &&
    (match (s.chanOf c).tdc.start with | some (p, _) => decide (p < st) && decide (st - p ≤ tdcMax) | none => false)

/-! ### Frequency gates (R230) -/

/-- The length of a gate in stamps, FGATE x 1,024 ns. -/
def State.gateLen (s : State) (c : Nat) : Nat := (s.tdcCfg c).2.2 * 1024 * 4096

/-- The end of the open gate, as a stamp. -/
def State.gateEnd (s : State) (c : Nat) : Nat := (s.chanOf c).tdc.t0 * 4096 + ((s.chanOf c).tdc.gate + 1) * s.gateLen c

/-- No gate is open yet at its first edge. -/
def TdcSt.noGate (k : TdcSt) : TdcSt :=
  { k with gFirst := none, gStamps := 0, gEdges := 0, gSince := 0, gSWarm := false, gWarm := false, gDead := false }

/-- R230, R231: the open gate ends: SPAN and E update the accumulators, or it is discarded with fewer than two stamped edges. One that a
take-over or a lost lock has discarded counts nothing (R232, R233). -/
def State.gateClose (s : State) (c : Nat) : State :=
  let t := (s.chanOf c).tdc
  let s1 := s.modTdc c (fun k => { k.noGate with gate := k.gate + 1 })
  if t.gDead then s1
  else match t.gFirst with
  | some f =>
    if 2 ≤ t.gStamps then
      s1.modTdc c (fun k => { k with
        cnt := satAt 32 (k.cnt + 1), sum := (k.sum + (t.gLast - f)) % 2 ^ 64, ecnt := (k.ecnt + t.gEdges) % 2 ^ 64,
        warm := k.warm || t.gWarm })
    else s1.tdcDisc c
  | none => s1.tdcDisc c

/-- The gates that end at or before the stamp `st` are over: the open one, and empty ones after it. -/
def State.gatesTo (s : State) (c st : Nat) : State :=
  let g := s.gateLen c
  if g = 0 ∨ st < s.gateEnd c then s
  else
    let s1 := s.gateClose c
    let n := (st - (s.chanOf c).tdc.t0 * 4096) / g - (s1.chanOf c).tdc.gate
    (s1.modTdc c (fun k => { k with gate := k.gate + n })).addF F.OCT_TDCDISC_DISC (chIx c) n

/-- What a stamped edge of channel `c` means for its own measurement; `w` is its warm mark, and `stopped` says that it stopped the
channel's own interval (R230). -/
def State.tdcOwn (s : State) (c st : Nat) (w stopped : Bool) : State :=
  let t := (s.chanOf c).tdc
  if !t.takes st then s
  else match s.meas c with
  | 1 => if t.start.isNone && !stopped then s.modTdc c (fun k => { k with start := some (st, w) }) else s
  | 2 =>
    let s1 := s.modTdc c (fun k => { k with start := some (st, w) })
    match t.start with
    | some (p, v) => s1.tdcSpan c p st (v || w)
    | none => s1
  | 3 =>
    s.modTdc c (fun k =>
      match k.gFirst with
      | none => { k with gFirst := some st, gLast := st, gStamps := 1, gEdges := 0, gSince := 0, gSWarm := false, gWarm := w }
      | some _ => { k with
          gLast := st, gStamps := k.gStamps + 1, gEdges := k.gEdges + k.gSince + 1, gSince := 0, gSWarm := false,
          gWarm := k.gWarm || k.gSWarm || w })
  | _ => s

/-- R225: the stamp of an edge at `tm` by the octet's copy of system time, with `fine` the tap and vernier codes (64 x 64): the stamp
with those codes that lies nearest the instant. -/
def stampOf (tm : Time) (fine : Nat) : Nat :=
  let u := tm / 8388608000
  let a := u / 4096 * 4096 + fine % 4096
  if a + 2048 < u then a + 4096 else if u + 2048 < a then a - 4096 else a

/-- R229, R230: the first admitted edge that waits is stamped, or skipped under the dead time; a gate that it lies past ends first. One
whose stamp lies in no run that it could serve, its own or of a channel whose interval it stops, is nothing. -/
def execTdcStamp (ch : Fin 64) (fine : Nat) (s : State) : Res :=
  let c := ch.val
  match (s.chanOf c).tdc.edges with
  | [] => ok s
  | (tm, w) :: rest =>
    let st := stampOf tm fine
    let s0 := s.modTdc c (fun k => { k with edges := rest })
    let own := (s0.chanOf c).tdc.takes st
    let s1 := if own && s0.meas c == 3 then s0.gatesTo c st else s0
    let dead := match (s1.chanOf c).tdc.last with | some l => decide (st < l + 4096) | none => false
    if !own && (s0.stopsFor c).all (fun d => !(s0.chanOf d).tdc.takes st) then ok s0
    else if dead then
      ok ((s1.incF F.OCT_TDCSKIP_SKIP (chIx c)).modTdc c (fun k => { k with gSince := k.gSince + 1, gSWarm := k.gSWarm || w }))
    else
      let s2 := s1.modTdc c (fun k => { k with last := some st })
      ok ((s2.tdcStops c st w).tdcOwn c st w (s2.tdcOwnStop c st))

/-- The octet's copy of system time as a stamp. -/
def State.stampNow (s : State) (c : Nat) : Nat := s.localNow (octOf c) / 8388608000

/-- R230, R231: a gate ends, once its end has passed and no edge before it waits. -/
def execTdcGateEnd (ch : Fin 64) (s : State) : Res :=
  let c := ch.val
  let t := (s.chanOf c).tdc
  let e := s.gateEnd c
  if t.run && s.meas c == 3 && t.before e && decide (e ≤ s.stampNow c) && t.edges.all (fun p => decide (e ≤ p.1 / 8388608000)) then
    ok (s.gateClose c)
  else ok s

/-- R230: the pending start of an interval finds no stop within 2^36 - 1 LSB: that has passed, and no edge of the stop channel within
it waits. -/
def execTdcStartTimeout (ch : Fin 64) (s : State) : Res :=
  let c := ch.val
  match (s.chanOf c).tdc.start with
  | some (p, _) =>
    let stop := (s.tdcCfg c).2.1
    if s.meas c == 1 && decide (p + tdcMax < s.stampNow c) &&
        (s.chanOf stop).tdc.edges.all (fun q => decide (p + tdcMax < q.1 / 8388608000)) then
      ok ((s.modTdc c (fun k => { k with start := none })).tdcDisc c)
    else ok s
  | none => ok s

/-- A pending start is discarded, and counted where it is an interval's; the open gate is discarded, and what is left of it with it
(R227, R232, R233). -/
def State.tdcDrop (s : State) (c : Nat) : State :=
  let s1 := s.modTdc c (fun k => { k.noGate with start := none, gDead := k.run && s.meas c == 3 })
  if (s.chanOf c).tdc.start.isSome && s.meas c == 1 then s1.tdcDisc c else s1

/-- R232: the run that RUN = 0 stops is over: gates that ended before its stop tick count, what is pending is discarded. -/
def State.tdcOver (s : State) (c : Nat) : State :=
  match (s.chanOf c).tdc.stopT with
  | some n =>
    let s1 := if s.meas c == 3 then s.gatesTo c (n * 4096) else s
    (s1.tdcDrop c).modTdc c (fun k => { k with run := false, stopT := none, cfg := none, gDead := false })
  | none => s

/-- R229, R232: EDIV of the channel that a new interval run stops on counts from the RUN boundary, unless that channel runs itself. -/
def State.stopDiv (s : State) (c : Nat) : State :=
  if s.meas c = 1 then s.modTdc (s.tdcCfg c).2.1 (fun k => { k with sdiv := 0 }) else s

/-- R232: RUN = 1 by the owner's VF: the run starts at the next 1 ns tick, from which EDIV and the gates count. -/
def execTdcRunStart (fn : Fn) (ch : Fin 64) (s : State) : Res := s.hostOrder fn (s.fnOwns fn ch.val) R.OCT_TDCCTL ch.val 1 fun s =>
  let c := ch.val
  if s.fnOwns fn c && !s.flag F.OCT_TDCCTL_RUN (chIx c) then
    ok ((((s.tdcOver c).setFs (chIx c) [(F.OCT_TDCCTL_RUN, 1), (F.OCT_TDCSTAT_ACTIVE, 1)]).modTdc c (fun k => { k.noGate with
      run := true, t0 := Time.toNs (s.localNow (octOf c)) + 1, div := 0, gate := 0, start := none })).stopDiv c)
  else ok s

/-- R232: RUN = 0 by the owner's VF: the run stops at the next tick, as the measurement that it is. -/
def execTdcRunStop (fn : Fn) (ch : Fin 64) (s : State) : Res := s.hostOrder fn (s.fnOwns fn ch.val) R.OCT_TDCCTL ch.val 0 fun s =>
  let c := ch.val
  if s.fnOwns fn c && s.flag F.OCT_TDCCTL_RUN (chIx c) then
    ok ((s.setF F.OCT_TDCCTL_RUN (chIx c) 0).modTdc c (fun k => { k with
      stopT := some (Time.toNs (s.localNow (octOf c)) + 1), cfg := some (s.tdcCfg c) }))
  else ok s

/-- R232: the stop tick has passed and the last update of the run is in the accumulators. -/
def execTdcStopDone (ch : Fin 64) (s : State) : Res :=
  let c := ch.val
  let t := (s.chanOf c).tdc
  match t.stopT with
  | some n =>
    if n ≤ Time.toNs (s.localNow (octOf c)) ∧ t.edges.all (fun p => decide (Time.ofNs n ≤ p.1)) then
      ok ((s.tdcOver c).setF F.OCT_TDCSTAT_ACTIVE (chIx c) 0)
    else ok s
  | none => if t.run then ok s else ok (s.setF F.OCT_TDCSTAT_ACTIVE (chIx c) 0)

/-- R232: SNAP by the owner's VF. -/
def execTdcSnap (fn : Fn) (ch : Fin 64) (s : State) : Res := s.hostOrder fn (s.fnOwns fn ch.val) R.OCT_TDCCTL ch.val 2 fun s =>
  let c := ch.val
  let t := (s.chanOf c).tdc
  if s.fnOwns fn c then
    ok (s.setFs (chIx c) [(F.OCT_TDCCNT_CNT, t.cnt), (F.OCT_TDCSUM_LO_SUM, t.sum), (F.OCT_TDCSUM_HI_SUM, t.sum / 4294967296),
      (F.OCT_TDCSQ_LO_SQ, t.sq), (F.OCT_TDCSQ_HI_SQ, t.sq / 4294967296), (F.OCT_TDCMIN_LO_MIN, t.min),
      (F.OCT_TDCMIN_HI_MIN, t.min / 4294967296), (F.OCT_TDCMAX_LO_MAX, t.max), (F.OCT_TDCMAX_HI_MAX, t.max / 4294967296),
      (F.OCT_TDCECNT_LO_ECNT, t.ecnt), (F.OCT_TDCECNT_HI_ECNT, t.ecnt / 4294967296), (F.OCT_TDCSTAT_SWARM, b2n t.warm),
      (F.OCT_TDCSNT_NS, Time.ns32 (s.localNow (octOf c)))])
  else ok s

/-- R232: CLR by the owner's VF; refused while RUN = 1. -/
def execTdcClr (fn : Fn) (ch : Fin 64) (s : State) : Res := s.hostOrder fn (s.fnOwns fn ch.val) R.OCT_TDCCTL ch.val 4 fun s =>
  let c := ch.val
  if s.fnOwns fn c then
    if s.flag F.OCT_TDCCTL_RUN (chIx c) then ok (s.setF F.OCT_TDCSTAT_CFG_REJ (chIx c) 1)
    else ok ((s.setFs (chIx c) [(F.OCT_TDCDISC_DISC, 0), (F.OCT_TDCSKIP_SKIP, 0)]).modTdc c (fun k => { k with
      cnt := 0, sum := 0, ecnt := 0, sq := 0, min := tdcMax, max := 0, warm := false }))
  else ok s

/-- R227: the DLL locks. -/
def execDllLock (ch : Fin 64) (s : State) : Res := ok (s.setF F.OCT_TDCSTAT_DLLLOCK (chIx ch.val) 1)

/-- R227: the DLL loses lock: a pending start and the first edges of a gate are discarded. -/
def execDllUnlock (ch : Fin 64) (s : State) : Res :=
  let c := ch.val
  if s.flag F.OCT_TDCSTAT_DLLLOCK (chIx c) then
    ok (((s.setFs (chIx c) [(F.OCT_TDCSTAT_DLLLOCK, 0), (F.OCT_TDCSTAT_DLLUL, 1)]).tdcDrop c).modTdc c (fun k => { k with
      edges := [], gDead := (s.chanOf c).tdc.gDead }))
  else ok s

/-- WARMNOW of every channel shows the flag (R233, R234). -/
def State.warmShow (s : State) : State := (List.range 64).foldl (fun a c => a.setF F.OCT_TDCSTAT_WARMNOW (chIx c) (b2n s.warm)) s

/-- R234: the synchronised OCXO_WARM flag changes. -/
def execOcxoWarmChange (level : Bool) (s : State) : Res := ok ({ s with warm := level } : State).warmShow

end Sys2Proof.Machine
end

