-- ==== Sys2Proof/Machine/ClkOps.lean ====
section
/-! DEFINITION. Line clocks as octets see them (R358 to R370): f_line and UNCLK, the UNCLK source of sites, and what a change
of an octet's clock does. -/

namespace Sys2Proof.Machine

/-- R165: lanes of an octet that is not clocked read 0 in RATEBLK; a lane of a clocked octet is checked. -/
def State.octRates (s : State) (o : Nat) (t : Time) : State :=
  if s.unclocked o then s.setF F.OCT_PSTAT_RATEBLK o 0 else (chansOf o).foldl (fun a c => a.rateCheck c false t) s

/-- R365: does an octet have no line clock: its output disabled or outside 2.0 to 8.0 GHz, or its PLL without lock or in
bypass? -/
def State.noClock (s : State) (o : Nat) : Bool :=
  let p := s.ckOut o
  let q := s.flineQ o
  !s.flag F.CLK_LPL_EN (lpoIx p.1 p.2) || !s.flag F.CLK_LPSTAT_LOCK p.1 || s.flag F.CLK_LPSTAT_BYP p.1 ||
    decide (q.1 < 2000000 * q.2) || decide (8000000 * q.2 < q.1)

/-- The line clock of an octet in kHz, rounded down: 0 while the output or its PLL is off; on the bypass oscillator some value
within 10 % of 1.0 GHz (R359). -/
def State.flineNow (s : State) (o : Nat) : Nat :=
  let p := s.ckOut o
  let q := s.flineQ o
  if !s.flag F.CLK_LPL_EN (lpoIx p.1 p.2) then 0
  else if s.flag F.CLK_LPSTAT_BYP p.1 then 900000 + s.anyVal % 200001
  else if s.flag F.CLK_LPSTAT_LOCK p.1 then q.1 / q.2
  else 0

/-- R429: DORMANT has left this octet unclocked, which raises nothing. -/
def State.dormantOct (s : State) (o : Nat) : Bool :=
  s.getF F.GLB_PWRSTAT_STATE 0 == 2 && !s.flag F.CLK_LPSTAT_BYP (s.ckOut o).1

/-- R365: the UNCLK source of a site: an octet that holds a channel of it is unclocked. -/
def State.siteUnclk (s : State) (x : Nat) : Bool :=
  (List.range 8).any (fun o => s.inOct x o && s.flag F.OCT_CKSTAT_UNCLK o && !s.dormantOct o)

/-- SSCON: a spread in force on a locked PLL. -/
def State.sscShow (s : State) (n : Nat) : State :=
  s.setF F.CLK_LPSTAT_SSCON n
    (if s.flag F.CLK_LPSTAT_LOCK n && !s.flag F.CLK_LPSTAT_BYP n && s.getF F.CLK_LPSSC_DEPTH n != 0 then 1 else 0)

/-- FLINE, UNCLK, SSCON and the UNCLK sources follow the PLLs, their outputs and CKSEL; lane rates are checked. -/
def State.clockShow (s : State) (t : Time) : State :=
  let s0 := [0, 1, 2, 3].foldl (fun a n => a.sscShow n) s
  let s1 := (List.range 8).foldl (fun a o =>
    (a.setF F.OCT_CKSTAT_FLINE o (a.flineNow o)).setF F.OCT_CKSTAT_UNCLK o (if a.noClock o then 1 else 0)) s0.drawn
  let s2 := sites.foldl (fun a x => if a.siteUnclk x then a.sourceOn x 12 else a.sourceOff x 12) s1
  (List.range 8).foldl (fun a o => a.octRates o t) s2

/-- R167, R364: every lane of an octet starts again at `t`; its queue is kept and a frame in transmission completes BUSY. -/
def State.lanesAgain (s : State) (o : Nat) (t : Time) : State :=
  if s.pers o = 2 then (chansOf o).foldl (fun a c => ((a.laneCut c 2 t).laneRestart c t).pinShow c t) s else s

/-- R31, R364: 24 ns of electrical idle in an octet from `t`, and RX adaptation from the committed coefficients. Then the pairs drive the
idle output until the first vector, sample or symbol: a timed vector that started before `t` ends there (log entry 45), and a chain that
runs goes on. -/
def State.octIdle (s : State) (o : Nat) (t : Time) : State :=
  (chansOf o).foldl (fun a c =>
    let p := a.pers o
    let a1 := a.modChan c (fun x => { x with
      want := if p = 2 ∨ (p = 1 ∧ a.flag F.OCT_WFSTAT_RUN o = true) then x.want else a.idleOut o,
      edges := if p = 0 then x.edges.filter (fun e => decide (t ≤ e.vs)) else x.edges,
      vects := if p = 0 then x.vects.map (fun v => if v.start < t then { v with expect := 0 } else v) else x.vects })
    (a1.coefRestart c).pinShow c t)
    (s.modOct o (fun x => { x with persIdle := true, persAt := some t }))

/-- The sample grid of a running chain goes on from its first sample at or after `t`. -/
def State.waveAnchor (s : State) (o : Nat) (t : Time) : State :=
  if s.flag F.OCT_WFSTAT_RUN o then
    let w := (s.octSt o).wave
    let k := symCeil (s.spread o) (s.flineQ o) (s.sdiv o) w.anchor t
    s.modWave o (fun v => { v with
      anchor := symStart (s.spread o) (s.flineQ o) (s.sdiv o) w.anchor k, base := (k + w.base).toNat })
  else s

/-- The first sample of a running chain that starts at or after `t`; `t` itself where none runs. -/
def State.nextSample (s : State) (o : Nat) (t : Time) : Time :=
  if s.flag F.OCT_WFSTAT_RUN o ∧ (s.flineQ o).1 ≠ 0 then
    let a := (s.octSt o).wave.anchor
    symStart (s.spread o) (s.flineQ o) (s.sdiv o) a (symCeil (s.spread o) (s.flineQ o) (s.sdiv o) a t)
  else t

/-- R240: a commit at `t` may change AMP: the sample in progress keeps what is in force now. -/
def State.keepAmp (s : State) (o : Nat) (t : Time) : State :=
  if s.pers o = 1 ∧ s.flag F.OCT_WFSTAT_RUN o = true then
    let u := s.nextSample o t
    let l := (chansOf o).map (fun c => s.ampAt c t)
    s.modWave o (fun w => { w with ampTil := some (u, l) })
  else s

/-- R240: the instant from which a pair shows what a commit at `t` has changed: of a sample or a symbol in progress, the next one. -/
def State.showAt (s : State) (c : Nat) (t : Time) : Time :=
  let h := s.chanOf c
  if h.pin = .signal ∧ h.want = .signal ∧ s.pinBlocked c = false then
    if s.pers (octOf c) = 1 then s.nextSample (octOf c) t
    else if s.pers (octOf c) = 2 ∧ (s.flineQ (octOf c)).1 ≠ 0 then s.symAt c h.lane.anchor (s.symFrom c h.lane.anchor t)
    else t
  else t

/-- The octets that select an output. -/
def State.usersOf (s : State) (n m : Nat) : List Nat := (List.range 8).filter (fun o => s.ckOut o == (n, m))

/-- The status of a frame that a change of f_line or LDIV to those of `new` cuts: RATE where its lane is then rate-blocked, SAFE where it
then has no clock, BUSY otherwise (R165, R167, R177; DEDUCED, log entry 36). -/
def State.cutStatus (new : State) (c : Nat) : Nat := if new.noClock (octOf c) then 3 else if new.rateBad c then 4 else 2

/-- The frames in transmission in an octet are cut at `t` by a change of f_line or LDIV to those of `new`. -/
def State.lanesCut (s new : State) (o : Nat) (t : Time) : State :=
  if s.pers o = 2 then (chansOf o).foldl (fun a c => a.laneCut c (new.cutStatus c) t) s else s

/-- R364: the clock of an octet is about to change at `t` to that of `new`: what the old clock timed goes on from there. -/
def State.octClockOld (s new : State) (o : Nat) (t : Time) : State := (s.waveAnchor o t).lanesCut new o t

/-- R364: and has changed. -/
def State.octClockNew (s : State) (o : Nat) (t : Time) : State := (s.octIdle o t).lanesAgain o t

/-- R363: are all four pending dividers of a line PLL within 2 to 8? -/
def State.lpPendOk (s : State) (n : Nat) : Bool :=
  [0, 1, 2, 3].all (fun m => decide (2 ≤ s.getF F.CLK_LPO_DIV (lpoIx n m)) && decide (s.getF F.CLK_LPO_DIV (lpoIx n m) ≤ 8))

/-- The outputs of a line PLL whose pending DIV or EN differs from the live one. -/
def State.lpChanged (s : State) (n : Nat) : List Nat :=
  [0, 1, 2, 3].filter (fun m =>
    s.getF F.CLK_LPO_DIV (lpoIx n m) != s.getF F.CLK_LPL_DIV (lpoIx n m) ||
      s.getF F.CLK_LPO_EN (lpoIx n m) != s.getF F.CLK_LPL_EN (lpoIx n m))

/-- The pending values, as `frz` holds them, become the live outputs of a line PLL. -/
def State.lpLoad (s : State) (frz : FMap) (n : Nat) : State :=
  [0, 1, 2, 3].foldl (fun a m => a.setFs (lpoIx n m)
    [(F.CLK_LPL_DIV, FMap.get frz F.CLK_LPO_DIV (lpoIx n m)), (F.CLK_LPL_DLY, FMap.get frz F.CLK_LPO_DLY (lpoIx n m)),
     (F.CLK_LPL_EN, FMap.get frz F.CLK_LPO_EN (lpoIx n m))]) s

/-- Does a site own a line PLL (R362)? -/
def State.ownsLp (s : State) (x n : Nat) : Bool := s.flag F.CLK_LPCFG_OWNV n && s.getF F.CLK_LPCFG_OWN n == x && s.present x

end Sys2Proof.Machine
end

