-- ==== Sys2Proof/Machine/RegOps.lean ====
section
/-! DEFINITION. Register addresses (R436, R437, R439): which register and which instance an address names, and which function
may write it. -/

namespace Sys2Proof.Machine

/-- What an address names: a register, its instance, and whether it is the LIVE address (R5). -/
structure RegHit where
  desc : RegDesc
  ix : Nat
  live : Bool
  deriving DecidableEq, Repr

/-- The instance that an offset from instance 0 names, by (stride, count) from the outermost index. -/
def stepIx : List (Nat × Nat) → Nat → Nat → Option Nat
  | [], acc, r => if r = 0 then some acc else none
  | d :: ds, acc, r => if r / d.1 < d.2 then stepIx ds (acc * d.2 + r / d.1) (r % d.1) else none

/-- Does an address name this register? -/
def RegDesc.hit (d : RegDesc) (addr : Nat) : Option RegHit :=
  let find := fun (b : Nat) (l : Bool) =>
    if b ≤ addr then (stepIx d.dims 0 (addr - b)).map (fun i => (⟨d, i, l⟩ : RegHit)) else none
  match find d.base false with
  | some h => some h
  | none => match d.live with
    | some l => find (d.base + l) true
    | none => none

/-- The register that a PF0 address names. -/
def findReg (addr : Nat) : Option RegHit := allRegs.findSome? (fun d => d.hit addr)

/-- The register that an address names for a function: PF0's MSI-X table has 8 entries, and what lies beyond them is reserved
(R7, R435). -/
def findRegFor (fn : Fn) (addr : Nat) : Option RegHit :=
  (findReg addr).filter (fun h => !(fn == Fn.pf0 && decide (0x2D1080 ≤ addr) && decide (addr < 0x2D2000) && decide (0x2D1000 ≤ h.desc.base)))

/-- How many bits a field has in an instance: PF0's HST_EVMSK has 8 (R6, R446). -/
def Fld.widthAt (f : Fld) (ix : Nat) : Nat := if f = F.HST_EVMSK_MSK ∧ ix = 16 then 8 else f.width

/-- The outermost index of an instance. -/
def RegDesc.outer (d : RegDesc) (ix : Nat) : Nat := ix / (d.dims.drop 1).foldl (fun a p => a * p.2) 1

/-- The index of a function's copy. -/
def RegDesc.copy (d : RegDesc) (fn : Fn) (ix : Nat) : Nat := if d.perFn then ix * 17 + fnIx fn else ix

/-- Does each chapter's rule let a write of a function to an instance act (R439, R325)? -/
def State.mayWrite (s : State) (fn : Fn) (d : RegDesc) (ix : Nat) : Bool :=
  let q := d.outer ix
  let pf := fn == Fn.pf0
  let vf := fun (p : Nat → Bool) =>
    match fn with
    | .pf0 => false
    | .vf n => s.vfLive fn && p n.val
  match d.wr with
  | .no => false
  | .pf => pf
  | .chan => vf (fun x => s.ownsCh x ix)
  | .acq => vf (fun x => s.ownsCh x ix)
  | .chanpf => vf (fun x => s.ownsCh x ix) || (pf && (s.owner ix).isNone)
  | .chants => vf (fun x => s.ownsCh x (ix / 512 * 8 + ix % 8))
  | .lane => vf (fun x => s.ownsOct x q)
  | .oct8 => vf (fun x => s.ownsOct x q)
  | .oct0 => vf (fun x => s.ownsCh x (q * 8))
  | .octany => vf (fun x => s.inOct x q)
  | .site => vf (fun x => x == q)
  | .sitepf => pf || vf (fun x => x == q)
  | .fn => pf || vf (fun _ => true)
  | .fnoct => pf || vf (fun x => s.inOct x q)
  | .vs => vf (fun x => match (s.streamOf q).site with | some y => x == y | none => true)
  | .lp => vf (fun x => s.ownsLp x q)
  | .lp1 => vf (fun x => s.ownsLp x q)
  | .hst => vf (fun x => x == q)
  | .hst1 => if q = 16 then pf else vf (fun x => x == q)
  | .hst3 => vf (fun x => x == q)
  | .scope => if q = 16 then pf else vf (fun x => x == q)

/-- A field table with the bits of a word in the fields of an instance. -/
def FMap.put (m : FMap) (d : RegDesc) (ix data : Nat) : FMap :=
  d.flds.foldl (fun a f => FMap.set a f ix (data / 2 ^ f.lo)) m

/-- Is a register one of SH fields? -/
def RegDesc.isSh (d : RegDesc) : Bool := d.flds.any (fun f => f.ty == .sh)

/-- R241: is an instance of an SH register a shadow of site `x`? A channel's goes by the channel, an octet's by position 0. Which VF may
write it at its own address is its chapter's rule (R145, R163). -/
def State.isShadow (s : State) (x : Nat) (d : RegDesc) (ix : Nat) : Bool :=
  match d.wr with
  | .chan | .lane => s.ownsCh x ix
  | .chants => s.ownsCh x (ix / 512 * 8 + ix % 8)
  | .oct0 | .oct8 => s.ownsCh x (ix * 8)
  | _ => s.mayWrite (.vf (Fin.ofNat 16 x)) d ix

/-- R241: an SH register of site `x`, by address. -/
def State.shOf (s : State) (x addr : Nat) : Option RegHit :=
  match findReg addr with
  | some h => if !h.live && h.desc.isSh && decide (x < 16) && s.isShadow x h.desc h.ix then some h else none
  | none => none

end Sys2Proof.Machine
end

