-- ==== Sys2Proof/Machine/CommitOps.lean ====
section
/-! DEFINITION. The rules that a committed register value meets (R244 and the rules it names), and how a commit of either
class changes live values (R241 to R246). -/

namespace Sys2Proof.Machine

/-! ### The rules of single registers -/

/-- R61: is a timing-set entry valid? Fields in 0.125 ps units. -/
def tsOk (per fmt smode da db dc sa sb : Nat) : Bool :=
  decide (250 ≤ per) && decide (per ≤ 8388608) && decide (fmt ≤ 4) && decide (da < per) && decide (db < per) &&
  decide (dc < per) &&
  (!(fmt == 1 || fmt == 2 || fmt == 4) || (decide (da + 125 ≤ db) && decide (db + 125 ≤ per + da))) &&
  (fmt != 3 || (decide (da + 125 ≤ db) && decide (db + 125 ≤ dc) && decide (dc + 125 ≤ per + da))) &&
  decide (sa < sb) && decide (sb ≤ min (16 * per - 1) 16777215) && decide (sa + 40 ≤ sb) &&
  (smode == 0 || decide (sb - sa + 40 ≤ per))

/-- R239: the longest period that fits the beat window, in 0.125 ps units. -/
def windowQ (blen gap : Nat) : Nat := (blen - gap) * 8000

/-- The eight fields of a timing-set entry. -/
def tsFlds : List Fld :=
  [F.OCT_TSPER_PER, F.OCT_TSPER_FMT, F.OCT_TSPER_SMODE, F.OCT_TSDA_DA, F.OCT_TSDB_DB, F.OCT_TSDC_DC, F.OCT_TSSA_SA, F.OCT_TSSB_SB]

/-- R59, R61, R239: is entry `i` of a field table valid under a window limit? -/
def tsEntryOk (m : FMap) (i : Nat) (win : Nat) : Bool :=
  let g := fun f => FMap.get m f i
  tsOk (g F.OCT_TSPER_PER) (g F.OCT_TSPER_FMT) (g F.OCT_TSPER_SMODE) (g F.OCT_TSDA_DA) (g F.OCT_TSDB_DB) (g F.OCT_TSDC_DC)
    (g F.OCT_TSSA_SA) (g F.OCT_TSSB_SB) && decide (g F.OCT_TSPER_PER ≤ win)


/-- R36: is a tap set valid? -/
def ffeOk (m : FMap) (i : Nat) : Bool :=
  let taps := ffeFlds.map (fun f => sext 8 (FMap.get m f i))
  decide (0 ≤ sext 8 (FMap.get m F.OCT_TXFFE0_MAIN i)) && taps.all (fun z => decide (z.natAbs ≤ 64)) &&
    decide ((taps.map Int.natAbs).sum ≤ 64)

/-- R40: are all coefficients within -64 to +64? -/
def coefOk (l : List Nat) : Bool := l.all (fun k => decide ((sext 8 k).natAbs ≤ 64))

/-- R169: OCT_LCFG. -/
def lcfgOk (m : FMap) (i : Nat) : Bool :=
  decide (FMap.get m F.OCT_LCFG_TXSRC i ≤ 1) && decide (FMap.get m F.OCT_LCFG_POLY i ≤ 4) &&
    decide (32 ≤ FMap.get m F.OCT_LCFG_INNER i) && decide (FMap.get m F.OCT_LCFG_INNER i ≤ 224)

/-- R169: OCT_LRXFMT. -/
def lrxOk (m : FMap) (i : Nat) : Bool :=
  let n := FMap.get m F.OCT_LRXFMT_RXLEN i
  decide (8 ≤ FMap.get m F.OCT_LRXFMT_SDBITS i) && decide (FMap.get m F.OCT_LRXFMT_SDBITS i ≤ 64) && decide (1 ≤ n) &&
    decide (crcLen (FMap.get m F.OCT_LRXFMT_RXCRC i) ≤ n)

/-- R190: a capture set. -/
def cqOk (m : FMap) (i : Nat) : Bool :=
  FMap.get m F.SITE_CQCFG_FRSEL i != 3 && decide (FMap.get m F.SITE_CQSNAP_SNAP i ≤ 4024)

/-- R254: a signature unit of site `x`. -/
def State.sgOk (s : State) (x : Nat) (m : FMap) (i : Nat) : Bool :=
  let lo := FMap.get m F.SITE_SGCFG_CHLO i
  let hi := FMap.get m F.SITE_SGCFG_CHHI i
  FMap.get m F.SITE_SGCFG_EN i == 0 ||
    (decide (lo ≤ hi) && (List.range 64).all (fun c => decide (c < lo) || decide (hi < c) || s.ownsCh x c) &&
      decide (FMap.get m F.SITE_SGVLO_VLO i ≤ FMap.get m F.SITE_SGVHI_VHI i) && FMap.get m F.SITE_SGCFG_ACT i != 3)

/-- R30, R145, R163: is a committed PERS reserved, or a personality that needs the whole octet? -/
def State.persBad (s : State) (x o p : Nat) : Bool := p == 3 || (p != 0 && !s.ownsOct x o)

/-- R161: is a committed OCT_WFCFG rejected? -/
def State.wfcfgBad (s : State) (o : Nat) (m : FMap) : Bool :=
  FMap.get m F.OCT_WFCFG_SDIV o == 7 || (s.flag F.OCT_WFSTAT_RUN o && FMap.get m F.OCT_WFCFG_SDIV o != s.getL F.OCT_WFCFG_SDIV o)

/-- R365: does a committed OCT_CKSEL select an output of a PLL owned by a site other than the one that owns the octet whole? -/
def State.ckselBad (s : State) (o : Nat) (m : FMap) : Bool :=
  let n := FMap.get m F.OCT_CKSEL_LP o
  s.flag F.CLK_LPCFG_OWNV n && s.octOwner o != some (s.getF F.CLK_LPCFG_OWN n)

/-! ### Changing live values -/

/-- Live values of the listed fields of one instance from a field table. -/
def State.load (s : State) (m : FMap) (i : Nat) (l : List Fld) : State := l.foldl (fun a f => a.setL f i (FMap.get m f i)) s

/-- What a commit carries: which field instances. -/
abbrev Carries := Fld → Nat → Bool

/-- Does a commit carry any of these fields? -/
def Carries.any (h : Carries) (l : List Fld) (i : Nat) : Bool := l.any (fun f => h f i)

/-- R41: the coefficients as committed, with those that a commit carries in place of the older ones. -/
def State.coefSet (s : State) (m : FMap) (h : Carries) (c : Nat) : List Nat :=
  (coefFlds.zip (s.chanOf c).coefs).map (fun p => if h p.1 (chIx c) then FMap.get m p.1 (chIx c) else p.2)

/-- R41: a valid set is committed. Under ADAPT = 0 all of it is live; under ADAPT = 1 what the commit does not carry stays
adapted. -/
def State.coefLoad (s : State) (m : FMap) (h : Carries) (c : Nat) : State :=
  let i := chIx c
  let l := s.coefSet m h c
  let all := s.getL F.OCT_RXCFG_ADAPT i == 0
  ((coefFlds.zip l).foldl (fun a p => if all || h p.1 i then a.setL p.1 i p.2 else a) s).modChan c (fun k => { k with coefs := l })

/-- R34, R36, R38, R40, R41, R43, R46: the front end of a channel, each register under its own rule (R244). A commit that carries
ADAPT = 0 with an invalid coefficient set keeps the live coefficients as R40 says, adapted or not (DESIGN CHOICE, log entry
46). -/
def State.commitFront (s : State) (m : FMap) (h : Carries) (c : Nat) : State :=
  let i := chIx c
  let amp := FMap.get m F.OCT_TXAMP_AMP i
  let s1 := if h F.OCT_TXAMP_AMP i then
      let a := s.setL F.OCT_TXAMP_AMP i (max 40 (min 960 amp))
      if amp < 40 ∨ 960 < amp then a.setF F.OCT_FESTAT_CLAMP i 1 else a
    else s
  let s2 := if h.any ffeFlds i then
      if ffeOk m i then s1.load m i ffeFlds else s1.setF F.OCT_FESTAT_FFE_REJ i 1
    else s1
  let s3 := if h F.OCT_RXCFG_CTLE i then
      let a := s2.load m i [F.OCT_RXCFG_CTLE, F.OCT_RXCFG_FS, F.OCT_RXCFG_ACM, F.OCT_RXCFG_FFEEN, F.OCT_RXCFG_DFEEN, F.OCT_RXCFG_ADAPT]
      if FMap.get m F.OCT_RXCFG_ADAPT i = 0 && !h.any coefFlds i then a.coefRestart c else a
    else s2
  let s4 := if h.any coefFlds i then
      if coefOk (s3.coefSet m h c) then s3.coefLoad m h c else s3.setF F.OCT_FESTAT_CFG_REJ i 1
    else s3
  let s5 := if h F.OCT_THR_THR i then
      let z := sext 11 (FMap.get m F.OCT_THR_THR i)
      let a := (s4.setL F.OCT_THR_THR i (trunc 11 (max (-600) (min 600 z)))).setL F.OCT_THR_HYST i (FMap.get m F.OCT_THR_HYST i)
      let b := if z < -600 ∨ 600 < z then a.setF F.OCT_FESTAT_CLAMP i 1 else a
      if FMap.get m F.OCT_THR_SLOPE i = 3 then b.setF F.OCT_FESTAT_CFG_REJ i 1
      else b.setL F.OCT_THR_SLOPE i (FMap.get m F.OCT_THR_SLOPE i)
    else s4
  if h F.OCT_LBCFG_NEAR i then s5.load m i [F.OCT_LBCFG_NEAR] else s5

/-- R59, R84, R244: the timing-set entries of a channel. Of several rejected in one commit the most recent is the last by channel and
then by set (DESIGN CHOICE, log entry 46). -/
def State.commitTs (s : State) (m : FMap) (h : Carries) (win c : Nat) : State :=
  (List.range 64).foldl (fun a t =>
    let i := tsIx c t
    if h.any tsFlds i then
      if tsEntryOk m i win then a.load m i tsFlds
      else a.vstat c (fun k b => b.setFs k [(F.OCT_VSTAT_TS_REJ, 1), (F.OCT_VSTAT_TSREJ_SET, t), (F.OCT_VSTAT_TSREJ_POS, posOf c)])
    else a) s

/-- R173, R240: the lane follows a new OCT_LCFG at `t`: its symbols before `t` have left; a change of TXSRC cuts the frame or
ends the continuous PRBS; the lane PRBS of another polynomial starts from all ones (R172). -/
def State.laneRecfg (s old : State) (c : Nat) (t : Time) : State :=
  let i := lnIx c
  let src := s.getL F.OCT_LCFG_TXSRC i
  let s1 := if old.getL F.OCT_LCFG_POLY i = s.getL F.OCT_LCFG_POLY i then s
    else s.modLane c (fun l => { l with lanePrbs := prbsOnes (s.getL F.OCT_LCFG_POLY i) })
  if old.getL F.OCT_LCFG_TXSRC i = src ∨ s.pers (octOf c) ≠ 2 then s1
  else if src = 1 then
    (s1.laneCut c 2 t).lanePrbsOn c t
  else
    ((s1.laneRender c t).modLane c (fun l => { l with fill := none, txPrev := 0 })).drive c .idle t

/-- The lane registers of a channel (R169), each under its own rule (R244). -/
def State.commitLane (s : State) (m : FMap) (h : Carries) (c : Nat) (t : Time) : State :=
  let i := lnIx c
  let o := octOf c
  let s1 := if h F.OCT_LCFG_LINE i then
      if lcfgOk m i then
        (s.load m i [F.OCT_LCFG_LINE, F.OCT_LCFG_PREC, F.OCT_LCFG_TXINV, F.OCT_LCFG_RXINV, F.OCT_LCFG_TXSRC, F.OCT_LCFG_POLY,
          F.OCT_LCFG_CHKEN, F.OCT_LCFG_RXFRM, F.OCT_LCFG_INNER]).laneRecfg s c t
      else s.setF F.OCT_PSTAT_CFG_REJ o 1
    else s
  let s2 := if h F.OCT_LRXSD_LO_SD i then s1.load m i [F.OCT_LRXSD_LO_SD] else s1
  let s3 := if h F.OCT_LRXSD_HI_SD i then s2.load m i [F.OCT_LRXSD_HI_SD] else s2
  let s4 := if h F.OCT_LRXFMT_SDBITS i then
      if lrxOk m i then s3.load m i [F.OCT_LRXFMT_SDBITS, F.OCT_LRXFMT_RXLEN, F.OCT_LRXFMT_RXCRC]
      else s3.setF F.OCT_PSTAT_CFG_REJ o 1
    else s3
  if h F.OCT_LRXID_IDOFF i then s4.load m i [F.OCT_LRXID_IDOFF, F.OCT_LRXID_IDEN] else s4

/-- R155, R240: the idle level of an octet that stays in waveform personality follows a change of IDLEC or IDLEEI at `t`. -/
def State.idleShow (s : State) (o : Nat) (t : Time) : State :=
  if s.flag F.OCT_WFSTAT_RUN o then s.relevel o (s.nextSample o t) else s.driveOct o (s.idleOut o) t

/-- R363: the line PLLs of site `x` whose frozen dividers are all within 2 to 8. -/
def State.lpsGood (s : State) (x : Nat) (m : FMap) : List Nat :=
  [0, 1, 2, 3].filter (fun n => s.ownsLp x n &&
    [0, 1, 2, 3].all (fun k => decide (2 ≤ FMap.get m F.CLK_LPO_DIV (lpoIx n k)) && decide (FMap.get m F.CLK_LPO_DIV (lpoIx n k) ≤ 8)))

/-- R365: the octets of site `x` whose CKSEL a commit changes. -/
def State.ckselNew (s : State) (x : Nat) (m : FMap) (h : Carries) : List Nat :=
  (List.range 8).filter (fun o => s.ownsOct x o && h F.OCT_CKSEL_OUT o && !s.ckselBad o m &&
    s.ckOut o != (FMap.get m F.OCT_CKSEL_LP o, FMap.get m F.OCT_CKSEL_OUT o))

/-- R363, R365, R370: the line clocks that a commit of site `x` changes at `t`, by CKSEL and, with class F (`lps`), by the outputs of the
PLLs that the site owns, all together: an octet meets one change. -/
def State.commitClock (s : State) (x : Nat) (m : FMap) (h : Carries) (lps : Bool) (t : Time) : State :=
  let good := if lps then s.lpsGood x m else []
  let sel := s.ckselNew x m h
  let s1 := (if lps then [0, 1, 2, 3].filter (fun n => s.ownsLp x n && !good.contains n) else []).foldl (fun a n =>
    a.setF F.CLK_LPSTAT_CFG_REJ n 1) s
  let s2 := ((List.range 8).filter (fun o => s.ownsCh x (o * 8) && h F.OCT_CKSEL_OUT o && s.ckselBad o m)).foldl (fun a o =>
    a.setF F.OCT_CKSTAT_CKSEL_REJ o 1) s1
  let new := fun (a : State) => sel.foldl (fun b o => b.load m o [F.OCT_CKSEL_OUT, F.OCT_CKSEL_LP]) (good.foldl (fun b n => b.lpLoad m n) a)
  let moved := fun (p : Nat × Nat) => good.contains p.1 &&
    (FMap.get m F.CLK_LPO_DIV (lpoIx p.1 p.2) != s.getF F.CLK_LPL_DIV (lpoIx p.1 p.2) ||
      FMap.get m F.CLK_LPO_EN (lpoIx p.1 p.2) != s.getF F.CLK_LPL_EN (lpoIx p.1 p.2))
  let octs := (List.range 8).filter (fun o => sel.contains o || moved (s.ckOut o))
  let s3 := octs.foldl (fun a o => a.octClockOld (new s2) o t) s2
  octs.foldl (fun a o => a.octClockNew o t) (new s3)

/-- R29 to R31, R74, R75, R161, R166, R324: the registers of an octet in which the site owns position 0, each under its own rule (R244).
A change of LDIV gives the lanes of a protocol octet the 24 ns of R31 (R167). -/
def State.commitOct (s : State) (x : Nat) (m : FMap) (h : Carries) (o : Nat) (t : Time) : State :=
  let whole := s.ownsOct x o
  let s2 := if h F.OCT_PCFG_LDIV o then
      let d := FMap.get m F.OCT_PCFG_LDIV o
      if d = 7 then s.setF F.OCT_PSTAT_CFG_REJ o 1
      else if whole && d != s.getL F.OCT_PCFG_LDIV o then
        if s.pers o = 2 then
          (((s.lanesCut (s.load m o [F.OCT_PCFG_LDIV]) o t).load m o [F.OCT_PCFG_LDIV]).octIdle o t).lanesAgain o t
        else s.load m o [F.OCT_PCFG_LDIV]
      else s
    else s
  let s3 := if h F.OCT_WFCFG_SDIV o then
      if s2.wfcfgBad o m then s2.setF F.OCT_WFSTAT_CFG_REJ o 1
      else if whole then s2.load m o [F.OCT_WFCFG_SDIV, F.OCT_WFCFG_IDLEC, F.OCT_WFCFG_IDLEEI]
      else s2
    else s2
  let s4 := if h F.OCT_FETCH_ROT o then
      if (FMap.get m F.OCT_FETCH_ROT o != 0 || FMap.get m F.OCT_FETCH_REV o != 0) && !whole then
        s3.vstat (o * 8) (fun k b => b.setF F.OCT_VSTAT_ROT_REJ k 1)
      else if whole then s3.load m o [F.OCT_FETCH_ROT, F.OCT_FETCH_REV]
      else s3
    else s3
  let s5 := if h F.OCT_PERS_PERS o then
      let p := FMap.get m F.OCT_PERS_PERS o
      if s4.persBad x o p then s4.setF F.OCT_OSTAT_PERS_REJ o 1
      else if whole then s4.setPers o p t
      else s4
    else s4
  if h F.OCT_WFCFG_SDIV o && s.pers o == 1 && s5.pers o == 1 then s5.idleShow o t else s5

/-- Index of signature unit `u` of site `x`. -/
def sgIx (x u : Nat) : Nat := x * 8 + u

/-- The fields of a capture set (R190). -/
def cqFlds : List Fld :=
  [F.SITE_CQCFG_SRC, F.SITE_CQCFG_FONLY, F.SITE_CQCFG_FLIM, F.SITE_CQCFG_FRSEL, F.SITE_CQCFG_IDM,
    F.SITE_CQCHM_LO_CHM, F.SITE_CQCHM_HI_CHM, F.SITE_CQFID_IDVAL, F.SITE_CQFID_IDMSK, F.SITE_CQSNAP_SNAP]

/-- The fields of a signature unit (R254). -/
def sgFlds : List Fld :=
  [F.SITE_SGCFG_EN, F.SITE_SGCFG_SRC, F.SITE_SGCFG_ACT, F.SITE_SGCFG_CHLO, F.SITE_SGCFG_CHHI,
    F.SITE_SGVLO_VLO, F.SITE_SGVHI_VHI, F.SITE_SGEXP_EXP]

/-- R249: a class X change carries no live value of a signature unit, whose configuration changes only at class F commits (log
entry 52). -/
def Carries.noSg (h : Carries) : Carries := fun f i => h f i && !sgFlds.contains f

/-- The capture sets and signature units of a site, each under its own rule (R190, R244, R254). -/
def State.commitSite (s : State) (x : Nat) (m : FMap) (h : Carries) : State :=
  let s1 := (List.range 16).foldl (fun a q =>
    let i := cqIx x q
    if h.any cqFlds i then if cqOk m i then a.load m i cqFlds else a.setF F.SITE_CAPSTAT_CQ_REJ x 1 else a) s
  (List.range 8).foldl (fun a u =>
    let i := sgIx x u
    if h.any sgFlds i then if a.sgOk x m i then a.load m i sgFlds else a.setF F.SITE_BSTAT_SG_REJ x 1 else a) s1

/-- R244: a commit of site `x` at the start `t` of a gap: every live value it carries, each register under its own rules, one that
they reject keeping its live value; with class F (`lps`) the outputs of its line PLLs too (R363). The line clocks change first; samples in
progress keep their levels (R240). -/
def State.commitAll (s : State) (x : Nat) (m : FMap) (h : Carries) (lps : Bool) (win : Nat) (t : Time) : State :=
  let s0 := (List.range 8).foldl (fun a o => if s.ownsOct x o then a.keepAmp o t else a) s
  let s1 := (s.siteChans x).foldl (fun a c => (a.commitFront m h c).commitTs m h win c) (s0.commitClock x m h lps t)
  let s2 := ((List.range 8).filter (fun o => s.ownsCh x (o * 8))).foldl (fun a o => a.commitOct x m h o t) s1
  let s3 := (s.siteChans x).foldl (fun a c => a.commitLane m h c t) s2
  s3.commitSite x m h

/-! ### What a gap shows at the pins (R49) -/

/-- Of the pair states logged at `t` for the channels of a list, newest first, only the last of each channel. -/
def pinsOnce (t : Time) (l : List Nat) (os : List Out) : List Out :=
  (os.foldl (fun (p : List Nat × List Out) q =>
    match q with
    | .pin c _ u _ _ => if u = t ∧ l.contains c = true then (if p.1.contains c then p else (c :: p.1, q :: p.2)) else (p.1, q :: p.2)
    | _ => (p.1, q :: p.2)) ([], [])).2.reverse

/-- What the receive functions of channel `c` made of pair states between those of `s0` and those of `s` is no signal: comparator, TDC
edges and window changes are as they were. -/
def State.compBack (s s0 : State) (c : Nat) : State :=
  let h := s0.chanOf c
  s.modChan c (fun k => { k with
    comp := h.comp,
    vects := k.vects.zipWith (fun v w => { v with changed := w.changed }) h.vects,
    tdc := { k.tdc with div := h.tdc.div, sdiv := h.tdc.sdiv, edges := h.tdc.edges } })

/-- R49: all changes of site `x` at the gap that starts at `t`, which lead from `s0` to `s`, show together: nothing between the two is
ever seen. A sample or symbol in progress shows what it was until it ends (R240). -/
def State.gapShow (s s0 : State) (x : Nat) (t : Time) : State :=
  let l := s.siteChans x
  let s1 := l.foldl (fun a c => a.compBack s0 c) s
  let s2 := l.foldl (fun a c => a.pinShow c (a.showAt c t)) s1
  let n := s2.out.length - s0.out.length
  { s2 with out := pinsOnce t l (s2.out.take n) ++ s2.out.drop n }

end Sys2Proof.Machine
end

