-- ==== Sys2Proof/Machine/SafOps.lean ====
section
/-! DEFINITION. Saffron's operations (R282 to R294): what a buffer stages, how it is checked, how a transaction begins,
ends and applies, on a leader and on a member. -/

namespace Sys2Proof.Machine

/-- The Saffron record of a site. -/
def State.safOf (s : State) (x : Nat) : SafSt := (s.siteOf x).saf

/-- Are the site's beats running? -/
def State.beatsRun (s : State) (x : Nat) : Bool := s.flag F.SITE_BSTAT_RUN x

/-! ### What is staged (R284) -/

/-- PF0 address of SITE_BLEN of a site; BGAP, BANCH and BNUM0 follow at +4, +8 and +12. -/
def beatBase (x : Nat) : Nat := 0x282000 + x * 0x100

/-- May a write to an address be staged? -/
def State.stageable (s : State) (x addr : Nat) : Bool :=
  [0, 4, 8, 12].any (fun k => addr == beatBase x + k) || (s.shOf x addr).isSome

/-- The value staged last for one of the four beat registers. -/
def SafBuf.beat (b : SafBuf) (x k : Nat) : Option Nat :=
  (b.writes.reverse.find? (fun w => w.1 == beatBase x + k)).map (fun w => w.2)

/-- BLEN once the transaction applies. -/
def State.blenAfter (s : State) (x : Nat) (b : SafBuf) : Nat := (b.beat x 0).getD (s.getF F.SITE_BLEN_BLEN x)

/-- GAP once the transaction applies. -/
def State.gapAfter (s : State) (x : Nat) (b : SafBuf) : Nat := ((b.beat x 4).map (fun v => v % 65536)).getD (s.getF F.SITE_BGAP_GAP x)

/-- The anchor a buffer stages: BANCH and BNUM0. -/
def SafBuf.anchor (b : SafBuf) (x : Nat) : Option (Nat × Nat) :=
  match b.beat x 8, b.beat x 12 with
  | some a, some n => some (a, n)
  | _, _ => none

/-- The SH registers a buffer stages. -/
def State.stagedRegs (s : State) (x : Nat) (b : SafBuf) : List (RegHit × Nat) :=
  b.writes.filterMap (fun w => (s.shOf x w.1).map (fun h => (h, w.2)))

/-- The live values with the staged ones on top, in staging order. -/
def State.overlay (s : State) (x : Nat) (b : SafBuf) : FMap :=
  (s.stagedRegs x b).foldl (fun m p => FMap.put m p.1.desc p.1.ix p.2) s.live

/-- The field instances a buffer carries. -/
def State.stagedCarries (s : State) (x : Nat) (b : SafBuf) : Carries :=
  let l := s.stagedRegs x b
  fun f i => l.any (fun p => p.1.ix == i && p.1.desc.flds.contains f)

/-- R235: is a beat definition valid? -/
def beatDefOk (blen gap : Nat) : Bool :=
  decide (1000 ≤ blen) && decide (blen ≤ 4000000000) && decide (64 ≤ gap) && decide (gap ≤ 65535) && decide (2 * gap ≤ blen)

/-- R239: the limit on PER under a beat definition; none while the length is undefined or the definition is not valid. -/
def perLimit (blen gap : Nat) : Nat := if beatDefOk blen gap then windowQ blen gap else 16777216

/-! ### The vote (R285) -/

/-- R285, reason 1: would some staged value be rejected by its register's commit rule? -/
def State.stageRule (s : State) (x : Nat) (b : SafBuf) : Bool :=
  let m := s.overlay x b
  let l := s.stagedRegs x b
  let win := perLimit (s.blenAfter x b) (s.gapAfter x b)
  l.any (fun p =>
    let i := p.1.ix
    let has := fun f => p.1.desc.flds.contains f
    (tsFlds.any has && !tsEntryOk m i win) || (ffeFlds.any has && !ffeOk m i) ||
    (coefFlds.any has && !coefOk (s.coefSet m (s.stagedCarries x b) i)) ||
    (has F.OCT_THR_SLOPE && FMap.get m F.OCT_THR_SLOPE i == 3) ||
    (has F.OCT_LCFG_LINE && !lcfgOk m i) || (has F.OCT_LRXFMT_SDBITS && !lrxOk m i) ||
    (has F.OCT_PERS_PERS && s.persBad x i (FMap.get m F.OCT_PERS_PERS i)) ||
    (has F.OCT_FETCH_ROT && !s.ownsOct x i && (FMap.get m F.OCT_FETCH_ROT i != 0 || FMap.get m F.OCT_FETCH_REV i != 0)) ||
    (has F.OCT_PCFG_LDIV && FMap.get m F.OCT_PCFG_LDIV i == 7) || (has F.OCT_WFCFG_SDIV && s.wfcfgBad i m) ||
    (has F.OCT_CKSEL_OUT && s.ckselBad i m) ||
    (["SITE_CQCFG", "SITE_CQCHM_LO", "SITE_CQCHM_HI", "SITE_CQFID", "SITE_CQSNAP"].contains p.1.desc.name && !cqOk m i) ||
    (["SITE_SGCFG", "SITE_SGVLO", "SITE_SGVHI", "SITE_SGEXP"].contains p.1.desc.name && !s.sgOk x m i))

/-- R239, R285, reason 2. An anchor is BANCH and BNUM0 staged together. -/
def State.stageBeatDef (s : State) (x : Nat) (b : SafBuf) : Bool :=
  let blen := s.blenAfter x b
  let gap := s.gapAfter x b
  let change := (b.beat x 0).isSome || (b.beat x 4).isSome
  let m := s.overlay x b
  (change && !beatDefOk blen gap) || ((b.anchor x).isSome && blen == 0) ||
    (change && beatDefOk blen gap &&
      (s.siteChans x).any (fun c => (List.range 64).any (fun t =>
        decide (windowQ blen gap < FMap.get m F.OCT_TSPER_PER (tsIx c t)))))

/-- R285, reason 3: the mask names a double region that the site does not hold. -/
def State.stageSwap (s : State) (x : Nat) (b : SafBuf) : Bool :=
  (List.range 16).any (fun r => hasBit b.swap r && !(s.regValid x r && s.regDbl x r))

/-- R285, reason 4. -/
def State.stageAnchor (s : State) (x : Nat) (b : SafBuf) : Bool :=
  if s.beatsRun x then (b.beat x 8).isSome || (b.beat x 12).isSome else (b.anchor x).isNone

/-- The vote of a member on a buffer: 0 is YES. -/
def State.voteOn (s : State) (x : Nat) (b : SafBuf) : Nat :=
  if s.stageRule x b then 1 else if s.stageBeatDef x b then 2 else if s.stageSwap x b then 3
  else if s.stageAnchor x b then 4 else 0

/-! ### What the registers show (R294) -/

/-- SAF_OPEN, SAF_RUN, SAF_QUE, SAF_RTGT, SAF_STGN and INDOUBT follow. -/
def State.safShow (s : State) (x : Nat) : State :=
  let t := s.safOf x
  let run := match t.run, t.prior with
    | some b, _ => some (b, false)
    | none, b :: _ => some (b, false)
    | none, [] => t.dbt.head?.map (fun b => (b, true))
  let s1 := match t.opn with
    | some b => s.setFs x [(F.SAF_OPEN_TXID, b.txid), (F.SAF_OPEN_STATE, 1), (F.SAF_STGN_N, b.writes.length)]
    | none => s.setFs x [(F.SAF_OPEN_TXID, 0), (F.SAF_OPEN_STATE, 0), (F.SAF_STGN_N, 0)]
  let s2 := match t.que with
    | some b => s1.setFs x [(F.SAF_QUE_TXID, b.txid), (F.SAF_QUE_STATE, 2)]
    | none => s1.setFs x [(F.SAF_QUE_TXID, 0), (F.SAF_QUE_STATE, 0)]
  let s3 := match run with
    | some (b, d) =>
      let st := if b.held || b.resolved then 6 else if d then 7
        else match t.lead with
          | some l => if l.deferred then 5 else 3
          | none => if b.deferred then 5 else if b.prepared then 4 else 3
      s2.setFs x [(F.SAF_RUN_TXID, b.txid), (F.SAF_RUN_STATE, st), (F.SAF_RTGT_F, b.target)]
    | none => s2.setFs x [(F.SAF_RUN_TXID, 0), (F.SAF_RUN_STATE, 0)]
  s3.setF F.SAF_STAT_INDOUBT x (if t.dbt.isEmpty then 0 else 1)

/-- A transaction is finished on this chip (R294, R446): outcome code, the chip and the reason of the first NO vote. -/
def State.safLast (s : State) (x txid code chip reason : Nat) : State :=
  let s1 := s.setFs x [(F.SAF_LAST_TXID, txid), (F.SAF_LAST_OUTCOME, code), (F.SAF_LAST_NOCHIP, chip), (F.SAF_LAST_NOREASON, reason)]
  let s2 := if code = 6 then s1.setF F.SAF_STAT_SUPERSEDED x 1
    else if code = 3 ∨ code = 4 ∨ code = 5 ∨ code = 7 ∨ code = 9 then s1.setF F.SAF_STAT_ABORTED x 1 else s1
  s2.raiseVf x 13

/-- The leader's record of an outcome: its last eight (R282). -/
def State.safNote (s : State) (x txid : Nat) (committed : Bool) (beat : Nat) : State :=
  s.modSaf x (fun t => { t with last := ((txid, committed, beat) :: t.last.filter (fun p => p.1 != txid)).take 8 })

/-- The open buffer leaves its slot with the swap mask it has. -/
def State.leaveOpen (s : State) (x : Nat) (b : SafBuf) : SafBuf := { b with swap := s.getF F.SAF_SWAP_MASK x }

/-- SAF_BND: the largest CTRL bound from the leader to a member (R286, R312). -/
def State.safBnd (s : State) (x : Nat) : Nat :=
  ((s.peersOf x).map (fun c => match s.peer c with | some p => p.cbnd | none => 0)).foldl max 0

/-! ### Instants (R286, R287) -/

/-- B(f) of a site in extended ns: of its beats, or of those that the anchor of a buffer is to start. -/
def State.beatNs (s : State) (x f : Nat) (b : SafBuf) : Option Int :=
  if s.beatsRun x then
    some ((s.siteOf x).nextB + sext 32 (f + 8589934592 - s.getF F.SITE_BNOW_BNOW x - 1) * s.getF F.SITE_BLEN_BLEN x)
  else (b.anchor x).map (fun p => (s.nowNs : Int) + halfWindow s.now p.1 + sext 32 (f + 4294967296 - p.2) * s.blenAfter x b)

/-- The participant deadline X(f) = B(f) - GAP - 64 ns. -/
def State.xNs (s : State) (x f : Nat) (b : SafBuf) : Option Int :=
  (s.beatNs x f b).map (fun n => n - (if s.beatsRun x then s.getF F.SITE_BGAP_GAP x else s.gapAfter x b) - 64)

/-- The leader's decision instant L(f) = X(f) - BND. -/
def State.lNs (s : State) (x f : Nat) (b : SafBuf) : Option Int := (s.xNs x f b).map (fun n => n - s.safBnd x)

/-- Is now after L(f) of a buffer? -/
def State.lOver (s : State) (x f : Nat) (b : SafBuf) : Bool := match s.lNs x f b with | some n => decide (n < s.nowNs) | none => false

/-- Has L of the running transaction's target passed? -/
def State.lPast (s : State) (x : Nat) (l : SafLead) : Bool :=
  match (s.safOf x).run with | some b => s.lOver x l.beat b | none => false

/-- The beat before a beat. -/
def beatBack (f : Nat) : Nat := (f + 4294967295) % 4294967296

/-! ### The leader (R285, R286, R290) -/

/-- The leader's transaction in a slot ends with no change: ABORT to the members, and the outcome. -/
def State.safEnd (s : State) (x txid code chip reason : Nat) : State :=
  ((s.sendMembers x (.abort txid code)).safNote x txid false 0).safLast x txid code chip reason

/-- The running transaction of the leader aborts. -/
def State.safAbortRun (s : State) (x code chip reason : Nat) : State :=
  match (s.safOf x).lead with
  | some l => (s.modSaf x (fun t => { t with run := none, lead := none })).safEnd x l.txid code chip reason
  | none => s

/-- A cell that carries message `old` of a site carries `new` instead. -/
def Cell.reword (ssn : Nat) (old new : Msg) (c : Cell) : Cell := if c.site = ssn ∧ c.msg = some old then { c with msg := some new } else c

/-- R293: what one cycle has decided twice leaves as it was decided last: every message `old` of a site that this cycle sent is `new`. -/
def State.reword (s : State) (x : Nat) (old new : Msg) : State :=
  let f := Cell.reword (s.ssn x) old new
  let s1 : State := { s with
    out := s.out.map (fun o => match o with | .cell k n c => .cell k n (f c) | o => o),
    fab := { s.fab with waiting := s.fab.waiting.map f } }
  (List.range 12).foldl (fun a k => a.modPort k (fun p => { p with
      retry := p.retry.map (fun r => (r.1, r.2.1, f r.2.2)), held := p.held.map f }))
    (s1.modSite x (fun t => { t with clHeld := t.clHeld.map f }))

/-- R286: the transaction of the leader commits: its own buffer is to apply. -/
def State.safDecide (s : State) (x : Nat) (l : SafLead) (b : Option SafBuf) : State :=
  (s.modSaf x (fun t => { t with
    lead := some { l with decided := true, ns := s.nowNs },
    run := b.map (fun b => { b with held := true, target := l.beat, deferred := l.deferred }) })).safNote x l.txid true l.beat

/-- All votes are YES: COMMIT to all members. A deferral of the same cycle falls where that cycle is L(F): the vote is in time for F
(R293). -/
def State.safCommit (s : State) (x : Nat) (l : SafLead) : State :=
  if l.deferred && l.ns == s.nowNs && !s.lPast x { l with beat := beatBack l.beat } then
    let f := beatBack l.beat
    (s.reword x (.defer l.txid l.beat) (.commit l.txid f)).safDecide x { l with beat := f, deferred := false } (s.safOf x).run
  else (s.sendMembers x (.commit l.txid l.beat)).safDecide x l (s.safOf x).run

/-- SAF_LAST and ABORTED as they are, for a coincidence of R293 that takes an outcome back. -/
def State.safWas (s : State) (x : Nat) : List Nat :=
  [s.getF F.SAF_LAST_TXID x, s.getF F.SAF_LAST_OUTCOME x, s.getF F.SAF_LAST_NOCHIP x, s.getF F.SAF_LAST_NOREASON x,
    s.getF F.SAF_STAT_ABORTED x]

/-- They are so again. -/
def State.safBack (s : State) (x : Nat) (l : List Nat) : State :=
  s.setFs x [(F.SAF_LAST_TXID, l.getD 0 0), (F.SAF_LAST_OUTCOME, l.getD 1 0), (F.SAF_LAST_NOCHIP, l.getD 2 0),
    (F.SAF_LAST_NOREASON, l.getD 3 0), (F.SAF_STAT_ABORTED, l.getD 4 0)]

/-- R293: a vote in the cycle in which L(F + 1) ended the transaction: if that cycle is L(F + 1), with the last YES it commits after all. -/
def State.safRevive (s : State) (x txid chip reason : Nat) : State :=
  match (s.safOf x).lapsed with
  | some (l, b, old) =>
    if l.txid = txid ∧ l.ns = s.nowNs ∧ s.lOver x l.beat b = false ∧ reason = 0 ∧ (s.safOf x).run = none ∧ (s.safOf x).lead = none then
      let l1 := { l with yes := if l.yes.contains chip then l.yes else chip :: l.yes }
      if (s.members x).all (fun c => l1.yes.contains c) then
        (((s.reword x (.abort txid 4) (.commit txid l.beat)).safDecide x l1 (some b)).modSaf x (fun t => { t with lapsed := none })).safBack x
          old
      else s.modSaf x (fun t => { t with lapsed := some (l1, b, old) })
    else s
  | none => s

/-- R286: L(F + 1) with votes incomplete: ABORT_TIMEOUT. -/
def State.safLapse (s : State) (x : Nat) : State :=
  let old := s.safWas x
  let l := match (s.safOf x).lead, (s.safOf x).run with
    | some l, some b => some ({ l with ns := s.nowNs }, b, old)
    | _, _ => none
  (s.modSaf x (fun t => { t with lapsed := l })).safAbortRun x 4 0 0

/-- R293: a host ABORT in the cycle of the COMMIT: no COMMIT is sent. -/
def State.safRecall (s : State) (x : Nat) (l : SafLead) : State :=
  (((s.reword x (.commit l.txid l.beat) (.abort l.txid 5)).modSaf x (fun t => { t with run := none, lead := none })).safNote x l.txid
    false 0).safLast x l.txid 5 0 0

/-- R286: votes incomplete at L(F): DEFER(F + 1). -/
def State.safDefer (s : State) (x : Nat) (l : SafLead) : State :=
  let f := (l.beat + 1) % 4294967296
  (s.sendMembers x (.defer l.txid f)).modSaf x (fun t => { t with
    lead := some { l with beat := f, deferred := true, ns := s.nowNs },
    run := t.run.map (fun b => { b with target := f, deferred := true }) })

/-- R286: a transaction begun or voted on after an L has that L behind it: it is deferred, or past L(F + 1) ended. -/
def State.safClock (s : State) (x : Nat) : State :=
  let go := fun (a : State) => match (a.safOf x).lead with
    | some l => if l.decided || !a.lPast x l then a else if l.deferred then a.safAbortRun x 4 0 0 else a.safDefer x l
    | none => a
  go (go s)

/-- A vote reaches the leader (R286). -/
def State.safVote (s0 : State) (x chip reason : Nat) : State :=
  let s := s0.safClock x
  match (s.safOf x).lead with
  | some l =>
    if l.decided then s
    else if reason ≠ 0 then s.safAbortRun x 3 chip reason
    else
      let l1 := { l with yes := if l.yes.contains chip then l.yes else chip :: l.yes }
      let s1 := s.modSaf x (fun t => { t with lead := some l1 })
      if (s.members x).all (fun c => l1.yes.contains c) then s1.safCommit x l1 else s1
  | none => s

/-- R285: the target of a transaction, when it is not ABORT_BADTGT. -/
def State.safTarget (s : State) (x tgt : Nat) (b : SafBuf) : Option Nat :=
  if s.beatsRun x then
    let d := (tgt + 4294967296 - s.getF F.SITE_BNOW_BNOW x) % 4294967296
    if 1 ≤ d ∧ d < 2147483648 then some tgt else none
  else
    match b.anchor x with
    | some (a, n) =>
      let d := (a + 4294967296 - s.nowNs % 4294967296) % 4294967296
      if 1 ≤ d ∧ d < 2147483648 then some n else none
    | none => some ((b.beat x 12).getD tgt)

/-- R285: the leader starts a transaction with its own buffer: PREPARE to the members, its own vote, and a NO for each member
missing from the peer table. -/
def State.safBegin (s : State) (x tgt : Nat) (b : SafBuf) : State :=
  match s.safTarget x tgt b with
  | none => s.safEnd x b.txid 7 0 0
  | some f =>
    let v := s.voteOn x b
    let s1 := s.modSaf x (fun t => { t with
      run := some { b with frozen := true, prepared := v == 0, target := f }, lead := some { txid := b.txid, beat := f } })
    let s2 := s1.setF F.SAF_RTGT_F x f
    let there := (s.peersOf x).filter (fun c => (s.peer c).isSome)
    let s3 := there.foldl (fun a c => a.sendSite x c (.prepare b.txid f)) s2
    match (s.peersOf x).find? (fun c => (s.peer c).isNone) with
    | some c => if v = 0 then s3.safVote x c 7 else s3.safVote x s.chipNo v
    | none => s3.safVote x s.chipNo v

/-- Has this cycle ended a transaction at its L(F + 1) that a vote of the same cycle could still commit (R293)? -/
def State.safLapsing (s : State) (x : Nat) : Bool :=
  match (s.safOf x).lapsed with | some (l, _, _) => l.ns == s.nowNs | none => false

/-- R290: once nothing runs, the queued transaction starts its PREPARE. A start that fails at once leaves the slot to none. -/
def State.safNext (s : State) (x : Nat) : State :=
  match (s.safOf x).run, (s.safOf x).leadQue, (s.safOf x).que with
  | none, some (_, tgt), some b =>
    if s.safLapsing x then s else (s.modSaf x (fun t => { t with que := none, leadQue := none })).safBegin x tgt b
  | _, _, _ => s

/-- R290, R293: a cycle ends: a transaction that its L(F + 1) ended stays so, and the one queued behind it starts. -/
def State.safCycle (s : State) (x : Nat) : State :=
  match (s.safOf x).lapsed with
  | some _ =>
    let s1 := s.modSaf x (fun t => { t with lapsed := none })
    if (s1.safOf x).run.isNone ∧ (s1.safOf x).que.isSome ∧ s1.isLeader x = true then (s1.safNext x).safShow x else s1
  | none => s

/-! ### A member (R287, R288) -/

/-- A buffer of this member is discarded with an outcome. -/
def State.safDrop (s : State) (x txid code : Nat) : State :=
  let gone := fun (o : Option SafBuf) => match o with | some b => if b.txid = txid then none else some b | none => none
  (s.modSaf x (fun t => { t with
    opn := gone t.opn, que := gone t.que, run := gone t.run, prior := t.prior.filter (fun b => b.txid != txid),
    dbt := t.dbt.filter (fun b => b.txid != txid) })).safLast x txid code 0 0

/-- INDOUBT is active while a buffer is in doubt and its outcome is not known (R288). -/
def State.safDoubt (s : State) (x : Nat) : State :=
  if (s.safOf x).dbt.isEmpty then s.sourceOff x 5 else s.sourceOn x 5

/-- The buffer of a transaction, in any slot. -/
def SafSt.buf (t : SafSt) (txid : Nat) : Option SafBuf :=
  (t.opn.toList ++ t.que.toList ++ t.prior ++ t.run.toList ++ t.dbt).find? (fun b => b.txid == txid)

/-- The buffers whose PREPARE has arrived and that are not in doubt, oldest first: those that a later PREPARE found still prepared, and
the running one (R290). -/
def SafSt.begun (t : SafSt) : List SafBuf := t.prior ++ t.run.toList

/-- The beat whose gap starts the beats of a site: of a buffer resolved to commit, or of the oldest begun one that holds COMMIT
(R288, R291). -/
def SafSt.startX (t : SafSt) (x : Nat) : Option Nat :=
  ((t.dbt.filter (fun b => b.resolved) ++ t.begun.filter (fun b => b.held && (b.anchor x).isSome)).head?).map (fun b => b.target)

/-- R318, R370: does a gap of this cycle start the beats of site `x`? -/
def State.startsBeats (s : State) (x : Nat) : Bool :=
  s.present x && !s.beatsRun x && ((s.safOf x).startX x).isSome &&
    s.cycleRest.any (fun i => match i with | .gapApply site => site.val == x | _ => false)

/-- The begun buffer of a transaction. -/
def SafSt.begunOf (t : SafSt) (txid : Nat) : Option SafBuf := t.begun.find? (fun b => b.txid == txid)

/-- Change the begun buffer of a transaction. -/
def SafSt.modBegun (t : SafSt) (txid : Nat) (f : SafBuf → SafBuf) : SafSt :=
  let g := fun (b : SafBuf) => if b.txid = txid then f b else b
  { t with prior := t.prior.map g, run := t.run.map g }

/-- The begun buffer of a transaction leaves its slot. -/
def SafSt.endBegun (t : SafSt) (txid : Nat) : SafSt :=
  { t with
    prior := t.prior.filter (fun b => b.txid != txid),
    run := match t.run with | some b => if b.txid = txid then none else some b | none => none,
    lead := match t.lead with | some l => if l.txid = txid then none else some l | none => none }

/-- R288: the first beat F' whose participant deadline X(F') lies at or after now. -/
def State.nextGap (s : State) (x : Nat) (b : SafBuf) : Nat :=
  if s.beatsRun x then s.gapBeat x s.now
  else
    match b.anchor x with
    | some (a, n) =>
      let blen := s.blenAfter x b
      let z := ((s.nowNs : Int) + halfWindow s.now a) - s.gapAfter x b - 64
      if (s.nowNs : Int) ≤ z then n else (n + (((s.nowNs : Int) - z).toNat + blen - 1) / blen) % 4294967296
    | none => b.target

/-- R288: an outcome resolves a buffer in doubt: COMMITTED fixes its gap; ABORTED discards it at once. -/
def State.safResolve (s : State) (x txid : Nat) (commit : Bool) : State :=
  match (s.safOf x).dbt.find? (fun b => b.txid == txid) with
  | none => s
  | some b =>
    if b.resolved then s
    else if commit then
      (s.modSaf x (fun t => { t with
        dbt := t.dbt.map (fun q => if q.txid = txid then { q with resolved := true, target := s.nextGap x b } else q) })).safShow x
    else ((s.safDrop x txid 9).safDoubt x).safShow x

end Sys2Proof.Machine
end

