-- ==== Sys2Proof/Machine/CloveOps.lean ====
section
/-! DEFINITION. What Clove does at a gap (R377 to R382), and the figures of a slice (R376). -/

namespace Sys2Proof.Machine

/-- Index of the figures of slice `p` of an octet (R376). -/
def qIx (o p : Nat) : Nat := o * 9 + p

/-- R422: the copy of a slice's field set that is in force: the valid one, and of two the one with the later sequence number (half-window rule
of R178). -/
def setInForce (q : OctSt) (p : Nat) : Option FieldSet :=
  match Tbl.get (fun _ => none) q.field p, Tbl.get (fun _ => none) q.fieldOld p with
  | some a, some b => if 0 < sext 32 ((b.seq + 4294967296 - a.seq) % 4294967296) then some b else some a
  | some a, none => some a
  | none, b => b

/-- The channel Clove serves or is asked to serve in an octet. -/
def State.clvChan (s : State) (o : Nat) : Nat := o * 8 + (s.octSt o).clvPos

/-- Has the channel's own slice failed? -/
def State.ownFailed (s : State) (o : Nat) : Bool := hasBit (s.octSt o).failed (s.octSt o).clvPos

/-- Clove takes its channel (R28, R377), whose pending start and open gate are discarded (R233); under RETRIM the slice's pass begins
(R379). -/
def State.clvTake (s : State) (o : Nat) : State :=
  let q := s.octSt o
  let s1 := s.setFs o [(F.OCT_CLVSTAT_STATE, if q.clvKind = 2 then 3 else 2), (F.OCT_OSTAT_CLVPOS, q.clvPos), (F.OCT_OSTAT_CLVBUSY, 1)]
  let s2 := ((s1.setF F.OCT_FESTAT_ONCLV (chIx (s.clvChan o)) 1).incF F.OCT_CLVTKN_CNT o).tdcDrop (s.clvChan o)
  (s2.modChan (s.clvChan o) (fun h => { h with tdc := { h.tdc with edges := [] } })).modOct o (fun v => { v with
    clvBeat := none, oldTrims := if v.clvKind = 2 then some (Tbl.get (fun _ => []) v.trims v.clvPos) else none,
    oldUns := s.flag F.OCT_QSRC_UNSAVED (qIx o v.clvPos) })

/-- The channel's own slice carries it again. -/
def State.clvFree (s : State) (o st : Nat) : State :=
  let s1 := s.setFs o [(F.OCT_CLVSTAT_STATE, st), (F.OCT_OSTAT_CLVBUSY, 0)]
  (s1.setF F.OCT_FESTAT_ONCLV (chIx (s.clvChan o)) 0).modOct o (fun v => { v with
    clvKind := 0, clvBeat := none, retReq := false, shadowBeat := none, oldTrims := none })

/-- R23, R208: the fail records of a channel and the beat in progress are SUSPECT. -/
def State.markSuspect (s : State) (c : Nat) : State :=
  match s.owner c with
  | some x => if s.beatsRun x then s.suspect x c (s.getF F.SITE_BNOW_BNOW x) s.now else s
  | none => s

/-- R23, R382: a channel is retired until reset, and source `b` of its site is raised. -/
def State.retireChan (s : State) (c b : Nat) : State :=
  if s.flag F.OCT_FESTAT_RETIRED (chIx c) then s
  else
    let s1 := ((s.setF F.OCT_FESTAT_RETIRED (chIx c) 1).raisePf 2).faultLog 4 c
    let s2 := match s.owner c with
      | some x => s1.siteFault x b
      | none => s1
    s2.pinShow c s.now

/-- R377: with no beats, Clove takes the channel it was asked for at once, as it does one that no site owns, of which R27 and R377 say
nothing (DESIGN CHOICE, log entry 66). -/
def State.clvAsk (s : State) (o pos kind : Nat) : State :=
  let c := o * 8 + pos
  let s1 := s.setF F.OCT_CLVSTAT_STATE o 1
  match s.owner c with
  | some x =>
    let f := if kind = 0 then none else some (s.gapBeat x (s.localNow 11))
    let s2 := s1.modOct o (fun v => { v with clvKind := kind, clvPos := pos, clvBeat := f, clvNs := s.nowNs })
    if s.beatsRun x then s2 else s2.clvTake o
  | none => (s1.modOct o (fun v => { v with clvKind := kind, clvPos := pos, clvBeat := none, clvNs := s.nowNs })).clvTake o

/-- R24, R385: failed slices of site `x` that wait for their gap: Clove serves the lowest if it is free by then, and the other channels are
retired. -/
def State.clvNext (s : State) (o x : Nat) : State :=
  let l := (s.octSt o).next.filter (fun p => s.ownsCh x (o * 8 + p))
  let s1 := s.modOct o (fun v => { v with next := v.next.filter (fun p => !l.contains p) })
  match l.min? with
  | none => s
  | some p =>
    if s.getF F.OCT_CLVSTAT_STATE o = 0 then
      let s2 := (l.filter (fun q => q != p)).foldl (fun a q => a.retireChan (o * 8 + q) 0) s1
      ((s2.setF F.OCT_CLVSTAT_STATE o 1).modOct o (fun v => { v with clvKind := 0, clvPos := p, clvBeat := none, clvNs := s.nowNs })).clvTake o
    else l.foldl (fun a q => a.retireChan (o * 8 + q) 0) s1

/-- Is the site of the channel that Clove serves in safe state? -/
def State.clvSafe (s : State) (o : Nat) : Bool := ((s.owner (s.clvChan o)).map s.siteSafe) == some true

/-- R380, R381: one instant of the comparison: safe state ends it, and so does a difference; whether there is one, and how many, is not the
model's to say. -/
def State.clvWatch (s : State) (o : Nat) : State :=
  if s.getF F.OCT_CLVSTAT_STATE o ≠ 4 then s
  else if s.clvSafe o then s.clvAbort o 2
  else if s.anyVal % 4294967296 = 0 then s.drawn
  else s.clvAbort o 1

/-- R381, R385: the end of the comparison: the switch, unless a difference or safe state comes at that instant. -/
def State.clvSwitch (s : State) (o : Nat) : State :=
  let a := s.clvWatch o
  if a.getF F.OCT_CLVSTAT_STATE o = 4 then a.clvFree o 0 else a

/-- R380, R381: the load of a returning slice, from which the comparison runs: safe state and a failed slice refuse it at once. -/
def State.clvLoad (s : State) (o x f : Nat) : State :=
  let s1 := (s.setFs o [(F.OCT_CLVSTAT_STATE, 4), (F.OCT_CLVDIFF_CNT, 0)]).modOct o (fun v => { v with
    retReq := false, shadowBeat := some f })
  if s.siteSafe x then s1.clvAbort o 2 else if s.ownFailed o then s1.clvAbort o 4 else s1

/-- What waits for the gap that opens beat `f` of site `x`: a take-over, the load of a returning slice, the switch, the return
from a failed Clove, a failed slice of R385. -/
def State.clvGap (s : State) (x f : Nat) : State :=
  (List.range 8).foldl (fun a o =>
    let q := a.octSt o
    let st := a.getF F.OCT_CLVSTAT_STATE o
    let a1 := if !a.ownsCh x (a.clvChan o) then a
      else if st = 1 ∧ (q.clvBeat = none ∨ q.clvBeat = some f) then a.clvTake o
      else if (st = 2 ∨ st = 3) ∧ q.retReq ∧ (q.shadowBeat = some f ∨ (q.shadowBeat = none ∧ q.retNs + 64 ≤ s.nowNs)) then a.clvLoad o x f
      else if st = 4 ∧ q.shadowBeat.map (fun b => (b + 2) % 4294967296) = some f then a.clvSwitch o
      else if st = 5 ∧ q.clvKind = 3 then a.clvFree o 5
      else a
    a1.clvNext o x) s

/-- R377, R380, R381: the beats of site `x` stop: a comparison ends, what was to happen at a gap of the site and needs no beats happens at
once, and a return waits for the first gap that a later beat brings. -/
def State.clvStop (s : State) (x : Nat) : State :=
  (List.range 8).foldl (fun a o =>
    let st := a.getF F.OCT_CLVSTAT_STATE o
    let a1 := if !a.ownsCh x (a.clvChan o) then a
      else if st = 4 then a.clvAbort o 3
      else if st = 1 then a.clvTake o
      else if st = 5 ∧ (a.octSt o).clvKind = 3 then a.clvFree o 5
      else a.modOct o (fun v => { v with shadowBeat := none })
    a1.clvNext o x) s

end Sys2Proof.Machine
end

