-- ==== Sys2Proof/Machine/Seq.lean ====
section
/-! DEFINITION. The sequencer engines (R117 to R144): issue, resolve, exceptions, machine check, suspension, and the
release of posts. -/

namespace Sys2Proof.Machine

/-! ### Issue -/

/-- The registers of R140 that go with a burst. -/
def excFlds : List Fld :=
  [F.SE_EXC_CODE, F.SE_EXC_CAUSE, F.SE_EXC_TRAPN, F.SE_EXC_DS, F.SE_EXC_MS, F.SE_EXC_DBL, F.SE_EXC_VALID, F.SE_EXC_EPC,
   F.SE_EXCB_BTGT, F.SE_EXCB_ESP, F.SE_EXCB_PSAFE, F.SE_EXCB_PFAB, F.SE_EXCB_PPRE, F.SE_EXCT_TIME, F.SE_EXCF_BEAT,
   F.SE_EXCV_VIDX, F.SE_EXCCNT_CNT, F.SE_MCREC_MCADDR, F.SE_MCREC_MCLAST, F.SE_MCSLIP_SLIP]

/-- The boundary before the next word is protected (R132): after a branch word, or after a MODE word. -/
def EngSt.guarded (g : EngSt) : Bool :=
  g.delay.isSome || (g.s0.isNone && (match g.modeReg with | some m => m.2.2 == 2 | none => false))

/-- Is an asynchronous exception pending (R132)? -/
def State.asyncPend (s : State) (e : Nat) : Bool :=
  s.flag F.SE_EXCB_PSAFE e || s.flag F.SE_EXCB_PFAB e || s.flag F.SE_EXCB_PPRE e

/-- The engine is about to issue a word: a started burst, no word in issue, and nothing else under way. -/
def EngSt.atBoundary (g : EngSt) : Bool :=
  g.item.isSome && g.started && g.cur.isNone && g.parity.isNone && g.post.isNone && g.ufl.isNone && !g.suspending &&
    !g.restoring && g.ending.isNone

/-- R475: the first issue-time condition that a word meets, as (code, cause, trap number). A HOLD word needs ARMED = 1 at its
issue instant, which an arming word gives from its own start on (R106, R126; DEDUCED, log entry 48). -/
def State.issueFault (s : State) (e x w m n p : Nat) (ds shadow hret armed : Bool) : Option (Nat × Nat × Nat) :=
  if reservedWord w ds shadow armed then some (7, 1, 0)
  else if mBRK w = 3 && decide (8 ≤ s.sp e) then some (7, 2, 0)
  else if mBRK w = 4 && s.sp e = 0 && !hret then some (7, 3, 0)
  else if m ≠ 0 && decide (2 ^ s.getF F.SITE_STEP_LOG2 x * p < 8000) then some (7, 4, 0)
  else if s.vflt x e w m n then some (3, 0, 0)
  else if 8 ≤ mEVT w then some (7, 0, mEVT w % 8)
  else none

/-- The vector index at `t` on channel `c`'s grid (R62, R118): it restarts at each beat (R238), and up to `t` the grid runs in the
timing set in force. -/
def State.vidxAt (s : State) (x c : Nat) (t : Time) : Nat :=
  let h := s.chanOf c
  let d := s.sched x
  let b := d.start (d.off t)
  let per := Time.ofQ (s.per c h.gridSet)
  if h.gridNext < b then (t - b) / per else h.gridIdx + (t - h.gridNext) / per

/-- The index of the first vector of a word on a group (0 for an empty group). -/
def State.vidxOf (s : State) (x m : Nat) (t : Time) : Nat := if m = 0 then 0 else s.vidxAt x (lowest m) t

/-- The first grid start of a group at or after `t` (R118, R263); `t` itself for an empty group. -/
def State.gridFrom (s : State) (x m : Nat) (t : Time) : Time :=
  if m = 0 then t else
    let h := s.chanOf (lowest m)
    ((s.sched x).grid h.gridNext h.gridIdx (Time.ofQ (s.per (lowest m) h.gridSet)) t).1

/-- The index after `n` vectors of length `p` from `t`, the first with index `i`. -/
def Sched.idxAfter (c : Sched) (t p : Time) (n i : Nat) : Nat :=
  let a := c.inBeat t p n
  if n ≤ a then i + n else
    let cap := max 1 ((c.blen - c.gap) / p)
    let r := (n - a) % cap
    if r = 0 then cap else r

/-- The vector grid of a group's channels goes on at `t` with index `i`; a word that selects a timing set brings it into force
on each (R58). -/
def State.gridTo (s : State) (m : Nat) (t : Time) (i : Nat) (w : Option Nat) : State :=
  (maskChans m).foldl (fun a c => a.modChan c (fun h => { h with
    gridNext := t, gridIdx := i, gridSet := match w with | some q => s.setOf q c | none => h.gridSet })) s

/-- The grid of a group's channels as it stands: channel, next start, index, timing set. -/
def State.gridsOf (s : State) (m : Nat) : List (Nat × Time × Nat × Nat) :=
  (maskChans m).map (fun c => let h := s.chanOf c; (c, h.gridNext, h.gridIdx, h.gridSet))

/-- R131: the grid of a cancelled word's channels goes back to what it was when the word issued. -/
def State.gridBack (s : State) (l : List (Nat × Time × Nat × Nat)) : State :=
  l.foldl (fun a p => a.modChan p.1 (fun h => { h with gridNext := p.2.1, gridIdx := p.2.2.1, gridSet := p.2.2.2 })) s

/-- Actions of an engine's words, waiting for their instants. -/
def State.pushActs (s : State) (e wid : Nat) (t : Time) (l : List Act) : State :=
  s.modEng e (fun g => { g with acts := g.acts ++ l.map (fun a =>
    { wid := wid, site := g.site, t := t, act := a, ser := match g.item with | some i => i.serial | none => 0 }) })

/-- R123: a registered MODE change takes effect at `t`. -/
def State.modeAt (s : State) (e wid : Nat) (t : Time) (md : Nat × Nat) : State :=
  (s.pushActs e wid t [.mode md.1 md.2]).modEng e (fun g => { g with modeReg := none })

/-- The fetches of a word, one for each octet of its group (R73, R97, R100, R119). -/
def State.fetchesOf (s : State) (x e w m n wid vidx : Nat) (t : Time) : List Fetch :=
  let va := s.va e (mVSRC w)
  let vop := mVOP w
  (maskOcts m).map (fun o =>
    { oct := o, s := t, n := n, k := 0, row := va % 4194304,
      slot := if hasBit va 22 && vop != 0 && vop != 7 then some (bits va 24 23) else none, base := none,
      mirror := decide (4 ≤ vop) && decide (vop ≤ 6) && !hasBit va 22,
      fixed := if vop = 0 then 1 else if vop = 7 then 2 else 0, pos := maskPos m o, cmpe := mCMPE w,
      tsets := (List.range 8).map (fun q => s.setOf w (o * 8 + q)), paceCh := lowest m, paceSet := s.setOf w (lowest m),
      wid := wid, vidx := vidx, dead := x == 16,
      miss := (List.range 8).foldl (fun a q => if hasBit (maskPos m o) q && s.per (o * 8 + q) (s.setOf w (o * 8 + q)) !=
        s.per (lowest m) (s.setOf w (lowest m)) then setBit a q else a) 0 })

/-- The word `w` issues with start `t` and every check passed (R88, R95 to R107, R117, R123). -/
def State.issueGood (s : State) (e x w m n p : Nat) (t : Time) (shadow hret : Bool) : State :=
  let g := s.engOf e
  let wid := g.wid + 1
  let first := g.s0.isNone
  let c := s.sched x
  let en := c.wordEnd t p n
  let vidx := s.vidxOf x m t
  let cw : Issued :=
    { pc := g.nextPc, word := w, s := t, e := en, n := n, p := p, mask := m, s0 := g.s0.getD t, delay := g.delay,
      shadow := shadow, hret := hret, before := s.snap e, wid := wid,
      wid0 := if first then wid else (g.hist.head?.map (fun h => h.wid0)).getD wid,
      vidx := if first then vidx else (g.hist.head?.map (fun h => h.vidx)).getD vidx,
      evt0 := g.evt0,
      mode := if shadow then g.modeReg.map (fun q => (q.1, q.2.1)) else none, rs := t, rn := n,
      inExc := g.inExc, excCode := g.excCode, yielded := g.yielded, exc := excFlds.map (fun f => s.getF f e), grid0 := s.gridsOf m,
      reln := g.reln }
  let s1 := if s.chgMask x (mCHG w) = m then s else s.setF F.SE_STAT_CHGMSK e 1
  let s2 := if (maskChans m).any (fun q => s.per q (s.setOf w q) != p / 4294967296) then s1.setF F.SE_STAT_PACEMIS e 1 else s1
  let s3 := if 4 ≤ mVOP w ∧ mVOP w ≤ 6 ∧ hasBit (s.va e (mVSRC w)) 22 then s2.setF F.SE_STAT_MIRSTR e 1 else s2
  let s4 := s3.modEng e (fun h => { h with
    cur := some cw, wid := wid, delay := none, evt0 := false, lastMask := m, lastEnd := en,
    fetches := h.fetches ++ s.fetchesOf x e w m n wid vidx t,
    cmps := h.cmps ++ (if mCMPE w && m != 0 then [(⟨wid, n * popcount 64 m, 0, false, 0, false⟩ : CmpWord)] else []),
    modeReg := if mMODE w ≠ 0 then some (mMODE w, m, 2)
      else if first then h.modeReg.map (fun q => (q.1, q.2.1, q.2.2 - 1)) else h.modeReg })
  let s5 := s4.gridTo m en (c.idxAfter t p n vidx) (some w)
  let s6 := if first && (mMATCH w == 1 || mMATCH w == 2) then s5.pushActs e wid t [.arm (mMATCH w == 2)] else s5
  let s7 := if first && mCAPT w == 3 then
      s6.modCap x (fun k => { k with words := k.words ++ [{ eng := e, wid := wid, q := mCAPQ w, s0 := t }] }) else s6
  let s8 := if mRepeats w then s7 else s7.pushActs e wid en (wordActs w m t wid)
  s8.showRun e (mRepeats w)

/-- R117, R475: the word `raw` at the next address issues with start about `t0`. -/
def State.issueWord (s : State) (e raw : Nat) (t0 : Time) : State :=
  let g := s.engOf e
  let x := g.site
  let w0 := raw % 2 ^ 192
  let w := if g.evt0 then clearEvt w0 else w0
  let m := s.groupOf x w
  let n := s.wordN x w
  let p := Time.ofQ (s.wordP m w)
  let c := s.sched x
  let t := c.fit t0 p
  let armed := g.mat.isArmed (t - Time.ofNs 64)
  let left := if g.s0.isSome then 0 else match g.modeReg with | some q => q.2.2 | none => 0
  let shadow := left = 2
  let hret := mBRK w = 4 && g.inExc && s.sp e = s.getF F.SE_EXCB_ESP e
  let s0 := s.holdAll x e g.lastMask t
  let s1 := match left, g.modeReg with
    | 1, some q => s0.modeAt e (g.wid + 1) t (q.1, q.2.1)
    | _, _ => s0
  match s1.issueFault e x w m n (s.wordP m w) g.delay.isSome shadow hret armed with
  | none => s1.issueGood e x w m n p t shadow hret
  | some f =>
    let hs := if shadow then c.wordEnd t p n else t
    let vidx := s.vidxOf x m t
    let st : Issued :=
      { pc := g.nextPc, word := w, s := t, e := t, n := n, p := p, mask := m, s0 := g.s0.getD t, delay := g.delay,
        shadow := shadow,
        hret := hret, before := match g.delay with | some d => d.before | none => s.snap e, wid := g.wid + 1,
        wid0 := g.wid + 1, vidx := vidx, evt0 := g.evt0, mode := none, rs := t, rn := n, inExc := g.inExc, excCode := g.excCode,
        yielded := g.yielded, exc := [], grid0 := [] }
    let s2 := match g.modeReg with
      | some q => if shadow then s1.modeAt e (g.wid + 1) hs (q.1, q.2.1) else s1
      | none => s1
    (s2.raiseSync e st f.1 f.2.1 f.2.2 hs vidx)

/-- R117, R120, R132, R141: an engine at a word boundary issues the next word, whose store bits may have suffered `upset`.
Where an asynchronous exception is to be taken first, or no word can issue, the command changes nothing. -/
def State.burstIssue (s : State) (e : Fin 16) (upset : Nat) : Res :=
  let k := e.val
  let g := s.engOf k
  if !g.atBoundary then ok s
  else if g.stopReq && !g.guarded then
    ok ((s.dropWordSpan g.site k (g.s0.getD g.nextS)).endBurst k 5 0 false)
  else if s.asyncPend k && !g.inExc && !g.guarded then ok s
  else
    let raw := s.store k g.nextPc ^^^ upset % 2 ^ 200
    let s1 := (if upset % 2 ^ 200 = 0 then s else s.setStore k g.nextPc raw).setF F.SE_STATE_PC k g.nextPc
    if parityBad raw then
      ok ((s1.modEng k (fun h => { h with parity := some g.nextS })).setF F.SE_MCREC_MCADDR k g.nextPc)
    else ok (s1.issueWord k raw g.nextS)

/-! ### Engine failure (R23, R141, R269) -/

/-- The item, which engine `e` ran last, runs again: a new place in the ready store ahead of its priority, and the tail of its
flow. While STOP = 1 it completes CANCELLED (R270). -/
def State.requeue (s : State) (i : Item) (e : Nat) : State :=
  let j := { i with serial := s.serial, arrNs := s.nowNs, rerun := true, lastEng := e, bound := none }
  let s1 := s.numbered.modSite i.site (fun t => if i.ord then { t with order := t.order ++ [(i.flow, s.serial)] } else t)
  if s.flag F.DSP_SCTL_STOP i.site then s1.arise j 4 0 e 0 0 false true true
  else ({ s1 with ready := j :: s1.ready } : State).depth i.site i.prio true

/-- R269: what becomes of a burst of a retired engine. -/
def State.failItem (s : State) (e : Nat) (i : Item) (reln : Nat) : State :=
  if i.rpt && !i.rerun then (s.arise i 3 0 e 0 reln false true false).requeue i e
  else s.arise i 2 0 e 0 reln false true true

/-- R269, R270: a waiting post becomes a CANCELLED record in the flow it would have had; it holds no entry. What waited behind it
may enter now (R261). -/
def State.cancelPost (s : State) (e : Nat) : State :=
  match (s.engOf e).post with
  | none => s
  | some p =>
    let i := s.newItem p.site 0 p.desc
    let s1 := s.numbered.modSite p.site (fun t => if i.ord then { t with order := t.order ++ [(i.flow, i.serial)] } else t)
    let s2 := (s1.arise i 4 0 e 0 0 false true false).modEng e (fun g => { g with post := none })
    (s2.setF F.DSP_SSTAT_POSTWAIT p.site (b2n (s2.postWaits p.site))).fabricNext p.site

/-- R23, R264: the lowest-numbered unreserved engine joins the quota of site `x` in place of engine `gone`, which stays named
there; one that holds or binds a lent burst joins when that burst ends. Where none exists the quota shrinks. -/
def State.quotaFind (s : State) (x gone : Nat) : State :=
  match engines.find? (fun k => s.flag F.SEQ_UCODE_VER_VALID k && s.engState k != 5 && k != gone && (s.quotaSite k).isNone &&
      (s.engOf k).joinTo.isNone) with
  | some k =>
    if (s.engOf k).item.isSome || (s.engOf k).saved.isSome || s.ready.any (fun i => i.bound == some k) then
      s.modEng k (fun g => { g with joinTo := some (x, gone) })
    else s.setQuota x (setBit (s.quota x) k)
  | none => (s.setQuota x (clearBit (s.quota x) gone)).setF F.DSP_SENG_QSHORT x 1

/-- A retired engine is replaced in the quota it is in, or was about to join. -/
def State.quotaLoss (s : State) (e : Nat) (join : Option (Nat × Nat)) : State :=
  match s.quotaSite e, join with
  | some x, _ => s.quotaFind x e
  | none, some p => s.quotaFind p.1 p.2
  | none, none => s

/-- R141, R269, R272, R353: engine `e` leaves service until reset. No retraining pass runs once SE15 has. -/
def State.retireEngine (s : State) (e : Nat) : State :=
  let g := s.engOf e
  let s1 := s.cancelPost e
  let s2 := match g.item with
    | some i =>
      let a := s1.failItem e i g.reln
      if g.started then a.countDown F.DSP_SSTAT_NRUN i.site else a
    | none => s1
  let s3 := match g.saved with
    | some v => (s2.failItem e v.item v.reln).countDown F.DSP_SSTAT_NSUSP v.item.site
    | none => s2
  let s4 := s3.ready.foldl (fun a i => if i.bound = some e then a.depth i.site i.prio true else a) s3
  let s5 : State := { s4 with ready := s4.ready.map (fun i => if i.bound = some e then { i with bound := none } else i) }
  let s6 := ((s5.modEng e (fun h => { h with saved := none, joinTo := none })).setFs e [(F.SE_STATE_STATE, 5), (F.DSP_EOWN_SUSP, 0)]).dropBurst e
  let s7 := ((s6.quotaLoss e g.joinTo).raisePf 2).faultLog 4 e
  let s8 := match g.item with | some i => s7.stopCheck i.site | none => s7
  (if e = 15 then s8.setF F.MEM_STAT_TRLATE 0 1 else s8).preempt

/-- R141, R341: the mirror rewrite of the word in a parity retry ends. `mirrorBad`: the mirror reads of every copy are uncorrectable. -/
def execMchkRewriteDone (e : Fin 16) (mirrorBad : Bool) (upset : Nat) (s : State) : Res :=
  let k := e.val
  let g := s.engOf k
  match g.parity with
  | none => ok s
  | some t0 =>
    let x := g.site
    let raw := withParity (s.mirrorWord k g.nextPc) ^^^ upset % 2 ^ 200
    let bad := mirrorBad || s.mirrorGone k g.nextPc
    let sr := s.requestAt (mirrorDc k g.nextPc)
    let s1 := if bad then sr.mirrorUe k g.nextPc else sr.setStore k g.nextPc raw
    let s2 := (s1.modEng k (fun h => { h with parity := none })).setF F.SE_MCREC_MCADDR k g.nextPc
    let m := s.groupOf x raw
    if bad || parityBad raw then
      let shadow := g.s0.isNone && (match g.modeReg with | some q => q.2.2 == 2 | none => false)
      let s3 := s2.setF F.SE_MCREC_MCLAST k 1
      let s4 := match g.delay with | some d => s3.restoreUndo k d.before | none => s3
      let epc := match g.delay with | some d => d.bpc | none => g.nextPc
      let btgt := match g.delay with | some d => d.btgt | none => 0
      let ts := s2.planned x k g.nextPc t0
      let s5 := s4.takeExc k 0 0 0 epc g.delay.isSome shadow btgt ts
        (s.vidxOf x (s.groupOf x (s2.store k g.nextPc % 2 ^ 192)) ts)
      ok ((s5.dropWordSpan x k (g.s0.getD t0)).retireEngine k)
    else
      let t := s.gridFrom x m (s.localNow 8 + Time.ofNs 64)
      let p := if m = 0 then Time.ns else Time.ofQ (s.per (lowest m) (s.chanOf (lowest m)).gridSet)
      let s3 := ((s2.satF F.SE_PARCNT_CNT k 1).setF F.SE_MCREC_MCLAST k 0).setF F.SE_MCSLIP_SLIP k ((s.sched x).held t0 t p)
      ok (s3.issueWord k raw t)

/-! ### Resolve (R117, R127) -/

/-- The descriptor a post makes (R259). -/
def State.postDesc (s : State) (e w : Nat) (i : Item) : List Nat :=
  let k := i.site * 16 + mOBJ w % 16
  let t0 := R.DSP_PT0.word s.reg k
  let w0 := if mXFER w = 4 then t0 % 65536 + bits t0 31 25 * 33554432 + i.flow * 65536 + b2n i.ord * 16777216
            else t0 % 65536 + bits t0 31 25 * 33554432 + bits (mOBJ w) 11 4 * 65536 + 16777216
  [w0, s.getF F.DSP_PT1_ENGM k, s.getF F.DSP_PT2_ITEM k, 0, mIMM32 w] ++ (List.range 7).map (fun j => s.par e (j + 1))

/-- R126: a HOLD word completes: nothing is armed from its end on, and the window takes no word after it. Results of the words
up to it are formed still. A window that an earlier HOLD word has ended stays ended there. -/
def State.disarm (s : State) (e : Nat) (c : Issued) : State :=
  s.modEng e (fun g => { g with mat := { g.mat with last := match g.mat.last with | some p => some p | none => some (c.wid, c.e) } })

/-- A burst ends by HALT. While vectors that a stream feeds are still to be read, an underrun can undo it (R131), so that its end
waits for the last of them. -/
def State.haltBurst (s : State) (k status code : Nat) : State :=
  if (s.engOf k).fetches.any (fun f => f.slot.isSome && !f.dead) then
    s.modEng k (fun h => { h with ending := some (status, code) })
  else s.endBurst k status code false

/-- R136, R137, R143: the delay slot of a handler's RET is complete; `y` where a yield point of the two words suspends the burst. -/
def State.handlerReturn (s : State) (e : Nat) (y : Bool) : State :=
  let g := s.engOf e
  let epc := s.getF F.SE_EXC_EPC e
  let ds := s.flag F.SE_EXC_DS e
  let ev := s.getF F.SE_EXC_CODE e = 7 ∧ s.getF F.SE_EXC_CAUSE e = 0
  let s1 := if g.excCode = 6 && !g.yielded && !y then s.setF F.SE_EXCB_PPRE e 1 else s
  let s2 := s1.modEng e (fun h => { h with inExc := false, yielded := false, evt0 := ev, nextPc := if ds then (epc + 1) % 8192 else epc })
  if ds then
    let w := s.store e epc % 2 ^ 192
    let d : Delay := { bpc := epc, btgt := s.getF F.SE_EXCB_BTGT e, before := s.snap e, hret := false, yld := false }
    (s2.internal e w epc (s.wordN g.site w) false).modEng e (fun h => { h with delay := some d })
  else s2

/-- The words kept beside the one that resolves: those with vectors not yet read, which an underrun may cancel (R131), and those
of the last 128 ns, whose lane results may still come (R186). -/
def EngSt.keeps (g : EngSt) (c q : Issued) : Bool :=
  (match (g.fetches.map (fun f => f.wid)).min? with | some m => decide (m ≤ q.wid) | none => false) ||
    decide (c.e < q.e + Time.ofNs 128)

/-- Word `c` is past, with the words and compares kept beside it. -/
def EngSt.past (g : EngSt) (c : Issued) : EngSt :=
  { g with
    hist := c :: g.hist.filter (g.keeps c),
    cmps := g.cmps.filter (fun k => k.left != 0 || k.wid == c.wid || g.hist.any (fun q => g.keeps c q && q.wid == k.wid)) }

/-- The completion of word `c` of engine `k` at its resolve instant (R88, R117, R121, R136, R144, R267). The successor
starts at E(W). -/
def State.completeWord (s : State) (k : Nat) (c : Issued) : State :=
  let g := s.engOf k
  let w := c.word
  match g.item with
  | none => s
  | some i =>
    let s1 := if mMATCH w = 3 then s.disarm k c else s
    let s2 := if mRepeats w then s1.pushActs k c.wid c.e (wordActs w c.mask c.s0 c.wid0) else s1
    let s3 := if mXFER w = 2 ∨ mXFER w = 3 then
        ((s2.modEng k (fun h => { h with reln := h.reln + 1 })).arise i 7 0 k 0 (g.reln + 1) false false false).modCap i.site
          (fun q => { q with closeAt := q.closeAt ++ [(c.e, k, c.wid)] })
      else s2
    let after := s3.internal k w c.pc c.n c.hret
    let tgt := s3.branchTarget after k w c.pc c.mask (c.e - Time.ofNs 64)
    let s4 := after.modEng k (fun h => { h.past c with cur := none, s0 := none, nextS := c.e })
    let s4 := s4.setF F.SE_STATE_PC k c.pc
    if mBRK w = 7 then
      if g.inExc then s4.haltBurst k 1 (s.getF F.SE_EXC_CODE k) else s4.haltBurst k 0 0
    else
      let yp := (mXFER w = 1 ∨ mXFER w = 3) ∧ (s.yldreq k ∨ (g.inExc ∧ g.excCode = 6 ∧ !g.yielded))
      let next := (c.pc + 1) % 8192
      let fin := fun (a : State) (y : Bool) =>
        if y then (a.modEng k (fun h => { h with
          suspending := true, yielded := h.yielded || (h.inExc && h.excCode == 6) })).yieldBind k else a
      match c.delay with
      | some d =>
        let y := decide yp || d.yld
        if d.hret then fin (s4.handlerReturn k y) y
        else fin (s4.modEng k (fun h => { h with nextPc := d.btgt })) y
      | none =>
        if mBranch w then
          s4.modEng k (fun h => { h with
            nextPc := next, delay := some { bpc := c.pc, btgt := tgt, before := c.before, hret := c.hret, yld := decide yp } })
        else fin (s4.modEng k (fun h => { h with nextPc := next })) (decide yp)

/-- Does the condition of a repeating word hold (R89, R106, R127)? A word that is both BRK = WAIT and MATCH = HOLD needs both
conditions (DESIGN CHOICE, log entry 47). -/
def State.repCond (s : State) (k : Nat) (c : Issued) : Bool :=
  let w := c.word
  let g := s.engOf k
  (mBRK w != 6 || (s.cond k (mCGRP w) c.mask (c.e - Time.ofNs 64) &&& mCMASK w) != 0) &&
    (mMATCH w != 3 || (if g.mat.arms then s.smatch g.site else g.mat.lmatch))

/-- R127: has the timeout that TOSEL selects run out at the end of this repetition? -/
def State.timedOut (s : State) (x : Nat) (c : Issued) : Bool :=
  let n := mOBJ c.word % 16
  n != 0 && decide (c.s0 + Time.ofNs (s.getF F.SITE_TO_TO (x * 15 + (n - 1))) ≤ c.e)

/-- R117: the resolve instant of the word of a burst in issue. -/
def State.burstResolve (s : State) (e : Fin 16) : Res :=
  let k := e.val
  let g := s.engOf k
  match g.cur, g.item with
  | some c, some i =>
    if g.post.isSome || g.suspending || g.ufl.isSome then ok s else
      let w := c.word
      if mRepeats w && !s.repCond k c && !s.timedOut i.site c then
        ok (s.modEng k (fun h => { h.past c with
          cur := none, nextPc := c.pc, nextS := c.e, s0 := some c.s0, evt0 := c.evt0 }))
      else if mRepeats w && !s.repCond k c && !(mBRK w == 6 && mCMASK w == 0) then
        ok ((s.modEng k (fun h => h.past c)).raiseSync k c 1 0 0 c.e c.vidx)
      else if mXFER w = 4 ∨ mXFER w = 5 then
        let p := s.newItem i.site 0 (s.postDesc k w i)
        let s1 := (s.numbered.modEng k (fun h => { h with post := some { num := s.serial, site := i.site, desc := p.desc } })).setF
          F.DSP_SSTAT_POSTWAIT i.site 1
        if !s.entryFree i.site || s.postWaits i.site then
          if s.flag F.DSP_SCTL_STOP i.site then ok ((s1.cancelPost k).completeWord k c) else ok s1
        else ok ((s.takeItem p).completeWord k c)
      else ok (s.completeWord k c)
  | _, _ => ok s

/-- R261: the first waiting post of a site is served once an entry is free; its word completes, and the successor starts at
the first grid start at or after the post + 64 ns. -/
def execPostEntryFreed (site : Fin 16) (s : State) : Res :=
  let x := site.val
  let waits := engines.filter (fun e => match (s.engOf e).post with | some p => p.site == x | none => false)
  let num : Nat → Nat := fun e => match (s.engOf e).post with | some p => p.num | none => 0
  match best (fun a b => decide (num a < num b)) waits with
  | none => ok s
  | some k =>
    match (s.engOf k).post, (s.engOf k).cur with
    | some p, some c =>
      if s.entryFree x then
        let s1 := (s.modEng k (fun g => { g with post := none })).takeItem (s.newItem x 0 p.desc)
        let s2 := s1.setF F.DSP_SSTAT_POSTWAIT x (b2n (s1.postWaits x))
        let m := c.mask
        let s3 := s2.completeWord k c
        let s4 := if (s3.engOf k).item.isSome then
            s3.modEng k (fun g => { g with nextS := s.gridFrom x m (s.localNow 8 + Time.ofNs 64) }) else s3
        ok (s4.fabricNext x)
      else ok s
    | _, _ => ok s

/-! ### Asynchronous exceptions and underruns (R131 to R135) -/

/-- R132, R135: at an unprotected boundary the first pending exception of SAFE, FAB and PRE is taken; the word that would
have issued next is not issued. -/
def execAsyncExceptionTake (e : Fin 16) (s : State) : Res :=
  let k := e.val
  let g := s.engOf k
  if g.atBoundary && !g.guarded && !g.inExc && !g.stopReq && s.asyncPend k then
    let x := g.site
    let f : Fld × Nat :=
      if s.flag F.SE_EXCB_PSAFE k then (F.SE_EXCB_PSAFE, 5)
      else if s.flag F.SE_EXCB_PFAB k then (F.SE_EXCB_PFAB, 4) else (F.SE_EXCB_PPRE, 6)
    let w := s.store k g.nextPc % 2 ^ 192
    let m := s.groupOf x w
    let t := s.planned x k g.nextPc g.nextS
    let s1 := (s.setF f.1 k 0).dropWordSpan x k (g.s0.getD g.nextS)
    let hs := s1.planned x k (f.2 * 8) t
    ok ((s1.takeExc k f.2 0 0 g.nextPc false false 0 hs (s.vidxOf x m t)).enterHandler k f.2 hs)
  else ok s

/-- The registers of the exception record itself; pending bits and parity errors stay as they are when a record is undone. -/
def recFlds : List (Fld × Nat) :=
  excFlds.zipIdx.filter (fun p => decide (p.2 < 10) || (decide (13 ≤ p.2) && decide (p.2 ≤ 16)))

/-- R131: words issued after `c` are cancelled: their channels' grids go back, newest first, and what they did to the engine is
undone: a HOLD word's end of the window, a handler entered or left, with the record, a yield, page closes, and RELEASE records that
have not been released. The group driven last is that of `c`. An asynchronous exception taken after `c` pends again (R133). -/
def State.cancelAfter (s : State) (k : Nat) (c : Issued) : State :=
  let g := s.engOf k
  let later := (g.cur.toList ++ g.hist).filter (fun q => decide (c.wid < q.wid))
  let s1 := later.foldl (fun a q => a.gridBack q.grid0) s
  let s2 := recFlds.foldl (fun a p => a.setF p.1 k (c.exc.getD p.2 0)) s1
  let s3 := if g.inExc && !c.inExc then
      match g.excCode with
      | 4 => s2.setF F.SE_EXCB_PFAB k 1
      | 5 => s2.setF F.SE_EXCB_PSAFE k 1
      | 6 => s2.setF F.SE_EXCB_PPRE k 1
      | _ => s2
    else s2
  let s4 := if g.suspending && !g.yielded then s3.yieldUndo k else s3
  let undone := fun (r : Rec) => match g.item with
    | some i => r.serial == i.serial && r.words.headD 0 % 16 == 7 && decide (c.reln < r.words.getD 2 0)
    | none => false
  let s5 := s4.modSite g.site (fun t => { t with
    recs := t.recs.filter (fun r => !undone r),
    cap := { t.cap with closeAt := t.cap.closeAt.filter (fun p => !(p.2.1 == k && decide (c.wid ≤ p.2.2))) } })
  s5.modEng k (fun h => { h with
    post := none, suspending := false, parity := none, modeReg := none, s0 := none, ending := none,
    inExc := c.inExc, excCode := c.excCode, yielded := c.yielded, lastMask := c.mask,
    reln := h.reln - ((s.siteOf g.site).recs.filter undone).length,
    mat := { h.mat with last := h.mat.last.filter (fun p => decide (p.1 < c.wid)) },
    hist := h.hist.filter (fun q => decide (q.wid < c.wid)) })

/-- R131, R135: the underrun report reaches the engine, which undoes the word and every later one and places the handler. -/
def execUflReport (e : Fin 16) (arrival : Time) (s : State) : Res :=
  let k := e.val
  let g := s.engOf k
  match g.ufl with
  | none => ok s
  | some (wid, vidx, sv) =>
    let s0 := s.modEng k (fun h => { h with ufl := none })
    match (g.cur.toList ++ g.hist).find? (fun q => q.wid == wid), g.item with
    | some c, some i =>
      let s1 := s0.cancelAfter k c
      let late := s1.gridFrom i.site c.mask (max c.e (sv + Time.ofNs 48))
      let hs := min (s1.gridFrom i.site c.mask (max c.e (arrival + Time.ofNs 64))) late
      let c1 := match c.delay with | some d => { c with before := d.before } | none => c
      let s2 := match c.mode with | some md => s1.modeAt k wid c.e md | none => s1
      let s3 := s2.raiseSync k c1 2 0 0 hs vidx
      ok (if g.post.isSome then (s3.setF F.DSP_SSTAT_POSTWAIT i.site (b2n (s3.postWaits i.site))).fabricNext i.site else s3)
    | _, _ => ok s0

/-! ### Suspension (R142 to R144) -/

/-- R142: the context of the suspending burst is in the engine's slot; the engine is free for the item bound to it. -/
def execBurstSuspend (e : Fin 16) (s : State) : Res :=
  let k := e.val
  let g := s.engOf k
  match g.item with
  | none => ok s
  | some i =>
    if g.suspending && g.stopReq then ok (s.endBurst k 5 0 false)
    else if g.suspending && g.saved.isNone then
      let v : Saved :=
        { item := i, lent := g.lent, pc := g.nextPc, delay := g.delay, evt0 := g.evt0, modeReg := g.modeReg, undo := s.snap k,
          par := (List.range 8).map (fun j => s.par k j), exc := excFlds.map (fun f => s.getF f k), inExc := g.inExc,
          excCode := g.excCode, yielded := g.yielded, mat := g.mat, failLast := g.failLast, failWid := g.failWid,
          failAny := g.failAny, flash := g.flash, cmps := g.cmps, arrivals := g.arrivals, lastMask := g.lastMask,
          reln := g.reln, startNs := g.startNs }
      let top := best earlier (s.ready.filter (fun j => s.yieldFor k j))
      let s1 := (s.modEng k (fun h => { h with saved := some v })).dropBurst k
      let s2 := (s1.modEng k (fun h => { h with restoring := false })).setF F.DSP_EOWN_SUSP k 1
      let s3 := (s2.countDown F.DSP_SSTAT_NRUN i.site).incF F.DSP_SSTAT_NSUSP i.site
      let bound := s.ready.any (fun j => j.bound == some k)
      ok (match bound, top with
        | false, some j => s3.bindTo j k
        | false, none => s3.modEng k (fun h => { h with restoring := true })
        | true, _ => s3)
    else ok s

/-- R142: the burst that took the engine has ended and the saved burst is back; `tm` is the instant of the restore. Its next
word starts at the first grid start at or after the restore + 64 ns. A safe state that its site entered while it lay in the slot has
been the other burst's SAFE and does not pend for it (DESIGN CHOICE, log entry 47). -/
def execBurstRestore (e : Fin 16) (tm : Time) (s : State) : Res :=
  let k := e.val
  let g := s.engOf k
  match g.saved with
  | none => ok s
  | some v =>
    if g.item.isNone && g.restoring && s.engState k != 4 then
      let x := v.item.site
      let m := s.groupOf x (s.store k v.pc % 2 ^ 192)
      let t := s.gridFrom x m (tm + Time.ofNs 64)
      let s1 := s.modEng k (fun h => { h with
        item := some v.item, lent := v.lent, started := true, startNs := v.startNs, nextPc := v.pc, nextS := t,
        evt0 := v.evt0, delay := v.delay, modeReg := v.modeReg, mat := v.mat, failLast := v.failLast, failWid := v.failWid,
        failAny := v.failAny, flash := v.flash, cmps := v.cmps, arrivals := v.arrivals, lastMask := v.lastMask ||| h.lastMask,
        inExc := v.inExc, excCode := v.excCode, yielded := v.yielded, reln := v.reln, saved := none, restoring := false })
      let s2 := (excFlds.zip v.exc).foldl (fun a p => a.setF p.1 k p.2) (s1.restoreUndo k v.undo)
      let s3 := (List.range 8).foldl (fun a j => a.setF F.SE_PAR_PAR (k * 8 + j) (v.par.getD j 0)) s2
      let s4 := s3.setFs k [(F.SE_STATE_SITEV, 1), (F.SE_STATE_SITE, x), (F.DSP_EOWN_SITEV, 1), (F.DSP_EOWN_SITE, x),
        (F.DSP_EOWN_LENT, b2n v.lent), (F.DSP_EOWN_PRIO, v.item.prio), (F.DSP_EOWN_SUSP, 0)]
      let s5 := (s4.countDown F.DSP_SSTAT_NSUSP x).incF F.DSP_SSTAT_NRUN x
      ok ((s5.showRun k false).preempt)
    else ok s

end Sys2Proof.Machine
end

