-- ==== Sys2Proof/Machine/Beat.lean ====
section
/-! DEFINITION. Beats, commits at gaps and output signatures (R235 to R255). -/

namespace Sys2Proof.Machine

/-! ### Requests and freezes (R242) -/

/-- R242: COMMIT = 1 requests a class F commit; while one is pending it has no effect. Without beats the request waits for an
anchor. -/
def execCommit (fn : Fn) (site : Fin 16) (s : State) : Res := s.hostOrder fn (fnIsSite fn site.val) R.SITE_BCTL site.val 1 fun s =>
  let x := site.val
  if s.fnSite fn x && !s.flag F.SITE_BCTL_COMMIT x then
    let s1 := s.setF F.SITE_BCTL_COMMIT x 1
    ok (if s.beatsRun x then s1.setF F.SITE_BFPEND_F x (s.gapBeat x (s.localNow 11)) else s1)
  else ok s

/-- R242: Z(F) of the pending commit: the shadows, and the pending line-PLL outputs (R363), are frozen as they stand. -/
def execCommitFreeze (site : Fin 16) (s : State) : Res :=
  let x := site.val
  if s.flag F.SITE_BCTL_COMMIT x && s.beatsRun x && (s.siteOf x).frozen.isNone then
    ok (s.modSite x (fun t => { t with frozen := some (s.reg, s.getF F.SITE_BFPEND_F x) }))
  else ok s

/-! ### Gaps (R240, R244, R245) -/

/-- Symbols of every lane of a site that start before `t` have left (R240). -/
def State.siteRender (s : State) (x : Nat) (t : Time) : State :=
  ((s.siteChans x).filter (fun c => s.pers (octOf c) == 2)).foldl (fun a c => a.laneRender c t) s

/-- The buffers whose class X changes apply at the gap that opens beat `f`, oldest first: those resolved to commit (`true`), and the
begun ones that hold COMMIT (R287, R288). -/
def State.dueX (s : State) (x f : Nat) : List (SafBuf × Bool) :=
  ((s.safOf x).dbt.filter (fun b => b.resolved && b.target == f)).map (fun b => (b, true)) ++
    ((s.safOf x).begun.filter (fun b => b.held && b.target == f)).map (fun b => (b, false))

/-- BLEN and GAP once all of them apply. -/
def State.defAfter (s : State) (x : Nat) (l : List (SafBuf × Bool)) : Nat × Nat :=
  l.foldl (fun d p => ((p.1.beat x 0).getD d.1, ((p.1.beat x 4).map (fun v => v % 65536)).getD d.2))
    (s.getF F.SITE_BLEN_BLEN x, s.getF F.SITE_BGAP_GAP x)

/-- R242, R363: the frozen shadows and outputs of a class F commit become live at `t`, the start of the gap of beat `f`. -/
def State.classFAt (s : State) (x f win : Nat) (m : FMap) (t : Time) : State :=
  let s1 := (s.commitAll x m (fun _ _ => true) true win t).clockShow t
  ((s1.setFs x [(F.SITE_BFAPP_F, f), (F.SITE_BCTL_COMMIT, 0)]).incF F.SITE_BFCNT_CNT x).modSite x (fun q => { q with frozen := none })

/-- A word in issue, a fetch and the next word's start that meet the boundary go on from the new beat's start. -/
def State.carryOver (s : State) (x e : Nat) (c : Sched) : State :=
  let g := s.engOf e
  if g.site = x ∨ g.fetches.any (fun f => (s.owner (f.oct * 8 + lowest f.pos)).getD 16 == x) then
    s.modEng e (fun h => { h with
      cur := h.cur.map (fun w =>
        let n := min w.rn ((c.we - w.rs) / w.p)
        if g.site = x ∧ w.rs < c.b1 ∧ n < w.rn then { w with rs := c.b1, rn := w.rn - n } else w),
      fetches := h.fetches.map (fun f =>
        let t := c.fit f.s (s.paceOf f)
        if t = f.s then f else { f with s := t, vidx := 0 }) })
  else s

/-- The window of a site's beat ends: its hold vectors are read, and what of words, fetches and grids did not fit goes on from the next
beat's start (R118, R238), before the commits of the gap change what paces it (R60). -/
def State.windowEnd (s : State) (x : Nat) (c : Sched) : State :=
  let s1 := engines.foldl (fun a e =>
    ((maskChans (a.holdMask e)).filter (fun q => a.ownsCh x q)).foldl (fun b q => b.holdTo x q e c.we) a) s
  let s2 := (s.siteChans x).foldl (fun a q => a.modChan q (fun h =>
    if h.gridNext < c.b1 then { h with gridNext := c.b1, gridIdx := 0 } else h)) s1
  engines.foldl (fun a e => a.carryOver x e c) s2

/-- R60, R95: what of a word in issue lies in the new beat runs in the PER that the gap's commits have made live. -/
def State.repace (s : State) (x e : Nat) (b1 : Time) : State :=
  let g := s.engOf e
  match g.cur with
  | some w =>
    if g.site = x ∧ b1 ≤ w.rs then s.modEng e (fun h => { h with cur := some { w with p := Time.ofQ (s.wordP w.mask w.word) } }) else s
  | none => s

/-- R236: a new beat definition or a new PER moves the end of a word in issue, with the actions due there and the grid after it. -/
def State.reend (s : State) (x e : Nat) : State :=
  let g := s.engOf e
  match g.cur with
  | some c =>
    let d := s.sched x
    let en := d.wordEnd c.rs c.p c.rn
    if g.site = x ∧ en ≠ c.e then
      let c1 : Issued := { c with e := en }
      let s1 := s.modEng e (fun h => { h with
        cur := some c1, lastEnd := en,
        acts := h.acts.map (fun a => if a.wid = c.wid ∧ a.t = c.e then { a with t := en } else a) })
      s1.gridTo c.mask en (d.idxAfter c.rs c.p c.rn (if c.rs = c.s then c.vidx else 0)) none
    else s
  | none => s

/-- A pending commit that is not frozen is assigned again after a change of the beat definition (R242). -/
def State.reassign (s : State) (x f : Nat) (t : Time) : State :=
  if s.flag F.SITE_BCTL_COMMIT x && (s.siteOf x).frozen.isNone then
    let g := s.gapBeat x t
    s.setF F.SITE_BFPEND_F x (if g = f then (f + 1) % 4294967296 else g)
  else s

/-- R236, R291: the beat registers that a buffer stages. Beats that do not run start: B(f) is the staged BANCH, or one beat
later when deferred. -/
def State.classXBeat (s : State) (x f : Nat) (b : SafBuf) (t : Time) : State :=
  let blen := s.blenAfter x b
  let gap := s.gapAfter x b
  let s1 := s.setFs x [(F.SITE_BLEN_BLEN, blen), (F.SITE_BGAP_GAP, gap)]
  if s.beatsRun x then
    if (b.beat x 0).isSome || (b.beat x 4).isSome then
      s1.reassign x f t
    else s
  else
    match b.anchor x with
    | some (a, n) =>
      let late := (f + 4294967296 - n) % 4294967296
      let start := ((s.nowNs : Int) + halfWindow s.now a).toNat + late * blen
      let s2 := s1.setFs x [(F.SITE_BANCH_BANCH, start), (F.SITE_BNUM0_BNUM0, f), (F.SITE_BSTAT_RUN, 1),
        (F.SITE_BNOW_BNOW, f + 4294967295)]
      (s2.modSite x (fun q => { q with bStart := start - blen, nextB := start, winEnd := start - gap })).reassign x f t
    | none => s1

/-- R245, R286 to R288, R350: a class X change applies at `t`, the start of the gap of beat `f`, timing sets judged under the window
limit `win`. -/
def State.classXAt (s : State) (x f : Nat) (b : SafBuf) (resolved afterF : Bool) (win : Nat) (t : Time) : State :=
  let code := if resolved then 8 else if b.deferred then 2 else 1
  let m := s.overlay x b
  let h := (s.stagedCarries x b).noSg
  let s1 := s.classXBeat x f b t
  let s2 := (s1.setF F.MEM_DBLFRONT_FRONT x (s1.getF F.MEM_DBLFRONT_FRONT x ^^^ b.swap)).restream x
  let s3 := (s2.commitAll x m h false win t).clockShow t
  let s4 := if afterF && !(s.stagedRegs x b).isEmpty then s3.setF F.SITE_BSTAT_XOVR x 1 else s3
  let s5 := if code = 2 then s4.setF F.SITE_BSTAT_LATE x 1 else s4
  let s6 := (s5.setFs x [(F.SITE_BXAPP_F, f), (F.SAF_LASTF_F, f)]).incF F.SAF_APPCNT_CNT x
  let s7 := s6.modSaf x (fun q =>
    if resolved then { q with dbt := q.dbt.filter (fun d => d.txid != b.txid) }
    else q.endBegun b.txid)
  let s8 := s7.safLast x b.txid code 0 0
  ((if resolved then s8.safDoubt x else s8).safNext x).safShow x

/-- What every gap of a site does beside its commits, which led from `s0` to `s`: pairs that safe state held drive again (R48), a rate
block may end (R165), all of it shows together (R49), Clove changes over (R377 to R382). -/
def State.gapEnd (s s0 : State) (x f : Nat) (t : Time) : State :=
  let s1 := (s.siteChans x).foldl (fun a c =>
    let a1 := if a.chanSafe c then a else a.modChan c (fun h => { h with held := false })
    a1.rateCheck c true t) s
  (s1.gapShow s0 x t).clvGap x f

/-- R244, R245: the gap of the next beat begins: class F first, class X second. For a site whose beats do not run, the gap of
an anchor. -/
def execGapApply (site : Fin 16) (s : State) : Res :=
  let x := site.val
  if s.beatsRun x then
    let c := s.sched x
    let f := (c.f0 + 1) % 4294967296
    let t := c.b1 - c.gap
    let s0 := (s.siteRender x t).windowEnd x c
    let due := s.dueX x f
    let d := s.defAfter x due
    let win := perLimit d.1 d.2
    let fr := match (s.siteOf x).frozen with
      | some (m, g) => if g = f then some m else none
      | none => none
    let s1 := match fr with | some m => s0.classFAt x f win m t | none => s0
    let s2 := due.foldl (fun a p => a.classXAt x f p.1 p.2 fr.isSome win t) s1
    let s3 := engines.foldl (fun a e => (a.repace x e c.b1).reend x e) s2
    ok (s3.gapEnd s0 x f t)
  else
    match (s.safOf x).startX x with
    | some f =>
      let t := s.localNow 11
      let due := s.dueX x f
      let d := s.defAfter x due
      let s0 := s.siteRender x t
      ok ((due.foldl (fun a p => a.classXAt x f p.1 p.2 false (perLimit d.1 d.2) t) s0).gapEnd s0 x f t)
    | none => ok s

/-! ### Beat starts (R238) -/


/-- The units of a site that judge the beat that starts, each with what it judges and whether an octet of its range is not in
timed-vector personality (R249, R253). -/
def State.sgStart (s : State) (x f : Nat) : List (Nat × Nat × List Nat) :=
  ((List.range 8).filter (fun u => s.flagL F.SITE_SGCFG_EN (sgIx x u))).map (fun u =>
    let i := sgIx x u
    let lo := s.getL F.SITE_SGCFG_CHLO i
    let hi := s.getL F.SITE_SGCFG_CHHI i
    let np := (List.range 8).any (fun o => decide (lo / 8 ≤ o) && decide (o ≤ hi / 8) && s.pers o != 0)
    (f, u, [s.getL F.SITE_SGCFG_SRC i, s.getL F.SITE_SGCFG_ACT i, lo, hi, s.getL F.SITE_SGVLO_VLO i, s.getL F.SITE_SGVHI_VHI i,
      s.getL F.SITE_SGEXP_EXP i, if np then 1 else 0]))

/-- R237, R238: beat BNOW + 1 begins: its number and start show, numbering by beat starts again, and what the model kept of
beats before the last one goes. -/
def execBeatStart (site : Fin 16) (s : State) : Res :=
  let x := site.val
  if s.beatsRun x then
    let c := s.sched x
    let prev := c.f0
    let f := (c.f0 + 1) % 4294967296
    let keep := fun (b : Nat) => b == prev || b == f
    let st := (s.siteOf x).nextB
    let blen := s.getF F.SITE_BLEN_BLEN x
    let s1 := engines.foldl (fun a e => a.carryOver x e c) s
    let s2 := s1.setFs x [(F.SITE_BNOW_BNOW, f), (F.SITE_BSTART_BSTART, st)]
    let units := s.sgStart x f
    let old := Time.ofNs (s.siteOf x).bStart
    let s3 := s2.modSite x (fun q => { q with
      bStart := st, nextB := st + blen, winEnd := st + blen - s.getF F.SITE_BGAP_GAP x,
      sgRun := q.sgRun.filter (fun p => keep p.1) ++ units, cap := { q.cap with counts := [] } })
    let s4 : State := { s3 with sumac := { s3.sumac with
      ivals := s3.sumac.ivals.filter (fun p => p.1 != x || (match p.2.2 with | some e => decide (old ≤ e) | none => true)) } }
    ok ((s.siteChans x).foldl (fun a ch => a.modChan ch (fun h => { h with
      drv := h.drv.filter (fun p => keep p.1), pins := h.pins.filter (fun p => keep p.1),
      read := h.read.filter (fun p => keep p.1), fails := h.fails.filter (fun p => keep p.1),
      beatInit := h.beatInit.filter (fun p => keep p.1) ++ [(f, h.want.code, h.pinLast)] })) s4)
  else ok s

/-! ### Signatures (R249 to R255) -/

/-- R250, R251: the sample due first on a channel: below 15 mV peak it reads idle, above 25 mV its level; between, either. -/
def execPinSample (ch : Fin 64) (uv : Int) (s : State) : Res :=
  let c := ch.val
  let h := s.chanOf c
  match best (fun (a b : Nat × Nat × Nat × Time) => decide (a.2.2.2 < b.2.2.2)) h.pinDue with
  | none => ok s
  | some p =>
    let lvl := if 0 < uv then 1 else 0
    let idle := decide (uv.natAbs < 15000) || (decide (uv.natAbs ≤ 25000) && s.anyBool)
    let st := if idle then 2 else lvl
    ok (s.drawn.modChan c (fun k => { k with
      pinDue := k.pinDue.filter (fun q => q != p), pins := k.pins ++ [(p.1, p.2.1, p.2.2.1, st)],
      pinLast := st, beatInit := initNext k.beatInit p.1 (fun q => (q.1, st)) }))

/-- The state code of a channel after position `pos` of vector `v` of beat `f`: of the latest edge at or before it, else the
state at the beat start (R250). -/
def stateAt (l : List (Nat × Nat × Nat × Nat)) (init f v pos : Nat) : Nat :=
  match best (fun (a b : Nat × Nat × Nat × Nat) => decide (b.2.1 * 3 + b.2.2.1 ≤ a.2.1 * 3 + a.2.2.1))
      (l.filter (fun p => p.1 == f && decide (p.2.1 * 3 + p.2.2.1 ≤ v * 3 + pos))) with
  | some p => p.2.2.2
  | none => init

/-- The byte of a channel-vector (R250). -/
def State.sigByte (s : State) (pinSrc : Bool) (c f v : Nat) : Byte :=
  let h := s.chanOf c
  let l := if pinSrc then h.pins else h.drv
  let i0 := match h.beatInit.find? (fun p => p.1 == f) with
    | some p => if pinSrc then p.2.2 else p.2.1
    | none => 2
  BitVec.ofNat 8 (stateAt l i0 f v 0 + 4 * stateAt l i0 f v 1 + 16 * stateAt l i0 f v 2)

/-- R253: does a vector of a channel lie in safe state of its site? -/
def State.safeDuring (s : State) (x : Nat) (a b : Time) : Bool :=
  s.sumac.ivals.any (fun p => p.1 == x && decide (p.2.1 < b) && (match p.2.2 with | some e => decide (a < e) | none => true))

/-- R252, R253: status and hash of a unit's rectangle in beat `f`. -/
def State.sigJudge (s : State) (x f : Nat) (d : List Nat) : Nat × Nat :=
  let lo := d.getD 2 0
  let hi := d.getD 3 0
  let vlo := d.getD 4 0
  let vhi := d.getD 5 0
  let chs := (List.range (hi + 1 - lo)).map (fun k => lo + k)
  let reads := chs.flatMap (fun c => (s.chanOf c).read.filter (fun p => p.1 == f && decide (vlo ≤ p.2.1) && decide (p.2.1 ≤ vhi)))
  let full := chs.all (fun c => (s.chanOf c).read.any (fun p => p.1 == f && p.2.1 == vhi))
  if d.getD 7 0 = 1 then (4, 0)
  else if reads.any (fun p => s.safeDuring x p.2.2.1 p.2.2.2) then (3, 0)
  else if !full then (2, 0)
  else
    let sig := crc32c ((List.range (vhi + 1 - vlo)).flatMap (fun k => chs.map (fun c => s.sigByte (d.getD 0 0 == 1) c f (vlo + k))))
    (if sig = d.getD 6 0 then 0 else 1, sig)

/-- R253, R255: the oldest beat that a unit has not judged completes: its result, and what a MISMATCH does by ACT. -/
def execSignatureResult (site : Fin 16) (u : Fin 8) (s : State) : Res :=
  let x := site.val
  let i := sgIx x u.val
  match takeFirst (fun (p : Nat × Nat × List Nat) => p.2.1 == u.val) (s.siteOf x).sgRun with
  | none => ok s
  | some (r, rest) =>
    let j := s.sigJudge x r.1 r.2.2
    let s1 := (s.modSite x (fun q => { q with sgRun := rest })).setFs i
      [(F.SITE_SGRES_SIG, if j.1 ≤ 1 then j.2 else 0), (F.SITE_SGRST_STATUS, j.1), (F.SITE_SGRST_VALID, 1), (F.SITE_SGRBEAT_BEAT, r.1)]
    if j.1 = 1 then
      let s2 := ((s1.setF F.SITE_SGRST_MM i 1).setF F.SITE_BSTAT_SGMM x 1).incF F.SITE_SGMMCNT_CNT i
      let act := r.2.2.getD 1 0
      ok (if act = 1 then s2.raiseVf x 11 else if act = 2 then s2.siteFault x 6 else s2)
    else ok s1

end Sys2Proof.Machine
end

