-- ==== Sys2Proof/Machine/Disp.lean ====
section
/-! DEFINITION. The dispatcher (R256 to R272): arrival, binding, burst start, record release, STOP. -/

namespace Sys2Proof.Machine

/-! ### Arrival (R257, R258, R261) -/

/-- The twelve words of a descriptor. -/
def descWords (d : List Nat) : List Nat := (List.range 12).map (fun k => d.getD k 0 % 4294967296)

/-- R257, R258, R261: an item arrives. With no free entry a fabric item waits without its credit, and every other source
keeps what it has. A fabric item with another epoch is dropped and NACKed STALE (R313). -/
def execItemArrive (site : Fin 16) (src : Fin 3) (chip : Sender) (desc : List Nat) (s : State) : Res :=
  let x := site.val
  let d := descWords desc
  if !s.present x then ok s
  else if src.val = 1 then
    if chip.epoch ≠ s.epochNow x then ok (s.sendSite x chip.chip (.nackStale 0 false))
    else if s.entryFree x && !s.postWaits x && (s.siteOf x).fabItems.isEmpty then
      ok ((s.takeItem (s.newItem x 1 d)).creditBack x chip.chip)
    else ok (s.modSite x (fun t => { t with fabItems := t.fabItems ++ [(chip.chip, d)] }))
  else if s.entryFree x && !s.postWaits x && (src.val = 0 || (s.siteOf x).fabItems.isEmpty) then ok (s.takeItem (s.newItem x src.val d))
  else ok s

/-! ### Binding and start (R262 to R264, R236, R333) -/

/-- R429, R434: does a power transition hold back binding? A request for IDLE of this very cycle does not yet. -/
def State.pwrHolds (s : State) : Bool :=
  s.flag F.GLB_PWRSTAT_BUSY 0 && !(s.boot.power == some 1 && s.boot.pwrNs == s.nowNs)

/-- May bursts of a site be bound: its beats run, its memory is zeroed, and the chip is in ACTIVE (R236, R333, R429)? -/
def State.siteReady (s : State) (x : Nat) : Bool :=
  s.beatsRun x && !s.flag F.SITE_SSTAT_SCRUB x && s.getF F.GLB_PWRSTAT_STATE 0 == 0 && !s.pwrHolds

/-- R263: a waiting item that engine `e` may be bound to: an unreserved engine leaves one that a free quota engine can run. -/
def State.candidate (s : State) (e : Nat) (i : Item) : Bool :=
  i.bound.isNone && s.eligible i e && s.siteReady i.site &&
    ((s.quotaSite e).isSome || engines.all (fun k => (s.quotaSite k).isNone || !s.eligible i k))

/-- R263: the engine is bound to the first waiting item by priority, arrival and, for an unreserved engine, site. A priority-7 item that
finds no free engine any more raises PRE (R265). -/
def execEngineBind (e : Fin 16) (s : State) : Res :=
  let k := e.val
  match best (if (s.quotaSite k).isSome then earlier else earlierLent) (s.ready.filter (fun i => s.candidate k i)) with
  | some i => ok (s.bindTo i k).preempt
  | none => ok s

/-- Engine registers that a burst starts with at 0 (R85, R140). -/
def State.clearEngine (s : State) (e : Nat) : State :=
  let s1 := s.setFs e (excFlds.map (fun f => (f, 0)) ++ [(F.SE_SP_SP, 0)])
  let s2 := s1.setAll F.SE_LC_LC ((List.range 4).map (fun k => e * 4 + k)) 0
  let s3 := (List.range 16).foldl (fun a k => a.setVa e k 0) s2
  s3.setAll F.SE_STK_ADDR ((List.range 8).map (fun k => e * 8 + k)) 0

/-- R126, R302: TAG counts a site's ARMS armings since its burst start: it is 0 when a burst starts while no other burst of
the site runs or is suspended (log entry 10). -/
def State.tagReset (s : State) (x : Nat) : State :=
  if s.getF F.DSP_SSTAT_NRUN x = 0 ∧ s.getF F.DSP_SSTAT_NSUSP x = 0 then s.modSite x (fun t => { t with matchTag := 0, result := none }) else s

/-- R85, R263: the bound item starts on its engine, decided at `tm`: its first word starts at the first grid start of its
channel group at or after `tm` + 80 ns. -/
def State.startBurst (s : State) (e : Nat) (i : Item) (tm : Time) : State :=
  let g := s.engOf e
  let x := i.site
  let lent := (s.quotaSite e).isNone
  let m := s.groupOf x (s.store e i.entry % 2 ^ 192)
  let t := s.gridFrom x m (tm + Time.ofNs 80)
  let g1 : EngSt := { item := some i, lent := lent, started := true, startNs := s.nowNs, nextPc := i.entry, nextS := t,
                      wid := g.wid, fetches := g.fetches, acts := g.acts, lastEnd := g.lastEnd,
                      lastMask := g.lastMask, saved := g.saved, reload := g.reload, joinTo := g.joinTo }
  let s1 : State := { (s.tagReset x).setEng e g1 with ready := s.ready.filter (fun j => j.serial != i.serial) }
  let s2 := (List.range 8).foldl (fun a k => a.setF F.SE_PAR_PAR (e * 8 + k) (i.w (4 + k))) (s1.clearEngine e)
  let s3 := s2.setFs e [(F.SE_STATE_STATE, 1), (F.SE_STATE_PC, i.entry), (F.SE_STATE_SITEV, 1), (F.SE_STATE_SITE, x), (F.DSP_EOWN_SITEV, 1),
    (F.DSP_EOWN_SITE, x), (F.DSP_EOWN_LENT, b2n lent), (F.DSP_EOWN_PRIO, i.prio)]
  ((s3.incF F.DSP_EBURST_CNT e).incF F.DSP_SSTAT_NRUN x).preempt

/-- R263: a bound burst starts once its engine is free. -/
def execBurstStart (e : Fin 16) (tm : Time) (s : State) : Res :=
  let k := e.val
  let g := s.engOf k
  match s.ready.find? (fun i => i.bound == some k) with
  | some i =>
    if g.item.isNone && !g.suspending && !g.restoring && !g.training && s.engState k == 0 && s.siteReady i.site then
      ok (s.startBurst k i tm)
    else ok s
  | none => ok s

/-! ### Records (R268) -/

/-- R268: the first record of a site that may leave goes to the completion queue of its VF. -/
def execRecordRelease (site : Fin 16) (s : State) : Res := ok (s.release site.val)

/-! ### STOP (R270) -/

/-- R270: a waiting or bound item completes CANCELLED. -/
def State.cancelItem (s : State) (i : Item) : State :=
  let s1 : State := { s with ready := s.ready.filter (fun j => j.serial != i.serial) }
  let s2 := if i.bound.isNone then s1.depth i.site i.prio false else s1
  s2.arise i 4 0 i.lastEng 0 0 false true true

/-- R270: what STOP does on one engine: a waiting post is cancelled and its word completes, a suspended burst completes
STOPPED, a running one ends at its next unprotected boundary. -/
def State.stopEngine (s : State) (x e : Nat) : State :=
  let s1 := match (s.engOf e).post, (s.engOf e).cur with
    | some p, some c =>
      if p.site = x then
        let a := (s.cancelPost e).completeWord e c
        if (a.engOf e).item.isSome then
          a.modEng e (fun g => { g with nextS := s.gridFrom x c.mask (s.localNow 8 + Time.ofNs 64) })
        else a
      else s
    | _, _ => s
  let s2 := match (s1.engOf e).saved with
    | some v =>
      if v.item.site = x then
        ((((s1.arise v.item 5 0 e 0 v.reln false true true).countDown F.DSP_SSTAT_NSUSP x).modEng e (fun g => { g with
          saved := none, restoring := false })).setF F.DSP_EOWN_SUSP e 0).joinNow e
      else s1
    | none => s1
  match (s2.engOf e).item with
  | some i => if i.site = x then s2.modEng e (fun g => { g with stopReq := true }) else s2
  | none => s2

/-- STOP acts (R270, R302): ABORT goes to the site's other chips. -/
def State.stopSite (s : State) (x : Nat) : State :=
  let s1 := s.setFs x [(F.DSP_SCTL_STOP, 1), (F.DSP_SSTAT_STOPPED, 1)]
  let s2 := (s.ready.filter (fun i => i.site == x)).foldl (fun a i => a.cancelItem i) s1
  let s3 := engines.foldl (fun a e => a.joinNow e) s2
  let s4 := engines.foldl (fun a e => a.stopEngine x e) s3
  ((s4.siteFlash x 2 0 0).stopCheck x).preempt

/-- R270, R334: STOP = 1, from PF0 or the site's VF. -/
def execDspStop (fn : Fn) (site : Fin 16) (s : State) : Res :=
  let x := site.val
  if fn = .pf0 || s.fnSite fn x then
    s.order x ⟨s.nowNs, 1, fnSrc fn, R.DSP_SCTL.addr x, 1, 0⟩ (fun s => ok (s.stopSite x)) ok
  else ok s

/-- R270, R334: STOP = 0 admits items again. -/
def execDspUnstop (fn : Fn) (site : Fin 16) (s : State) : Res :=
  let x := site.val
  if fn = .pf0 || s.fnSite fn x then
    s.order x ⟨s.nowNs, 2, fnSrc fn, R.DSP_SCTL.addr x, 0, 0⟩ (fun s => ok (s.setF F.DSP_SCTL_STOP x 0)) ok
  else ok s

/-- R271: the site's VF zeroes its wait histogram. -/
def execWhistClear (fn : Fn) (site : Fin 16) (s : State) : Res := s.hostOrder fn (fnIsSite fn site.val) R.DSP_WCLR site.val 1 fun s =>
  let x := site.val
  ok (if s.fnSite fn x then s.setAll F.DSP_WHIST_CNT ((List.range 16).map (fun b => x * 16 + b)) 0 else s)

end Sys2Proof.Machine
end

