-- ==== Sys2Proof/Machine/SiteOps.lean ====
section
/-! DEFINITION. What a site reset, the zeroing of DRAM and a boot share: which registers are a site's, the zeroing of its
memories, and the reservation arithmetic (R326, R327, R331, R332). -/

namespace Sys2Proof.Machine

/-! ### Reservations (R327) -/

/-- R327: do reservations fit `nch` DRAM channels? Both sides are in 1/648,960,000 GB/s. -/
def fitsDram (l : List (Nat × Nat × Nat)) (nch : Nat) : Bool :=
  decide ((l.map (fun p => (p.1 + p.2.1) * 4056 + p.2.2 * 128)).sum * 10000 ≤ nch * 153594 * 64896)

/-- R327: RESV_OVER follows the channels in service. -/
def State.resvCheck (s : State) : State :=
  let l := (sites.filter (fun x => s.present x)).map (fun x => (s.rsvRt x, s.rsvHost x, s.cwin x))
  s.setF F.SITE_GSTAT_RESV_OVER 0 (if fitsDram l (s.getF F.MEM_STAT_NCH 0) then 0 else 1)

/-- R352, R354: NCH shows the channels in service, and the mapping follows it. -/
def State.nchShow (s : State) (n : Nat) : State :=
  (s.setFs 0 [(F.MEM_STAT_NCH, n), (F.MEM_STAT_MODMAP, if n < 16 then 1 else 0)]).resvCheck

/-! ### The registers of a site (R331) -/

/-- Is instance `ix` of a register the site's: of its channels, its whole octets, its own groups, its streams? -/
def State.siteReg (s : State) (x : Nat) (d : RegDesc) (ix : Nat) : Bool :=
  match d.rd with
  | .chan | .acq | .lane => s.ownsCh x ix
  | .chants => s.ownsCh x (ix / 512 * 8 + ix % 8)
  | .oct8 => s.ownsOct x (d.outer ix)
  | .octany => s.ownsOct x ix
  | .site => d.outer ix == x
  | .fnoct => ix % 17 == x && s.inOct x (ix / 17)
  | .vs => (s.streamOf ix).site == some x || (s.streamOf ix).user == some x
  | _ => false

/-- Registers and fields that a site reset leaves: what the map and the hardware's condition fix, the record of the reset
itself, Clove, the role epoch (R313, R321, R331). -/
def keptRegs : List RegDesc :=
  [R.SITE_MAP, R.SITE_SCTL, R.FAB_SEPOCH, R.DSP_SENG,
   R.MEM_RLOST, R.OCT_CKSTAT, R.OCT_OSTAT, R.OCT_CLVCTL, R.OCT_CLVSTAT, R.OCT_CLVTKN, R.OCT_CLVDIFF]

/-- Single fields of the same kind. -/
def keptFlds : List Fld :=
  [F.SITE_SSTAT_SCRUB, F.SITE_SSTAT_RESETTING, F.OCT_FESTAT_IDLE, F.OCT_FESTAT_ONCLV, F.OCT_FESTAT_RETIRED, F.OCT_FESTAT_SIGDET, F.OCT_TDCSTAT_DLLLOCK]

/-- Does a site reset return this entry of a field table to its value after register initialisation? -/
def State.resetKey (s : State) (x k : Nat) : Bool :=
  let id := k / 1048576
  match allRegs.find? (fun d => d.flds.any (fun f => f.id == id)) with
  | some d => s.siteReg x d (k % 1048576) && !keptRegs.any (fun q => q.base == d.base) && !keptFlds.any (fun f => f.id == id)
  | none => false

/-- A field table with the chosen entries as another table has them. -/
def mergeKeys (p : Nat → Bool) (now init : FMap) : FMap :=
  (init.filter (fun e => p e.1)).foldl (fun m e => Tbl.set (fun _ => 0) m e.1 e.2) (now.filter (fun e => !p e.1))

/-- R331: every register of the site returns to its reset or register-initialisation value; what shows a pin of the chip shows it
still (R233). -/
def State.regsBack (s : State) (x : Nat) : State :=
  ({ s with reg := mergeKeys (s.resetKey x) s.reg s.init, live := mergeKeys (s.resetKey x) s.live s.initLive } : State).warmShow

/-! ### Memories (R331, R332) -/

/-- The beat-buffer nibbles of a site read 0. -/
def State.bbZero (s : State) (x : Nat) : State :=
  { s with bb := s.bb.filterMap (fun e =>
      let o := e.1 / 12582912
      let r := e.1 % 12582912 / 4
      let c := e.1 % 4 * 2
      let lo := if s.ownsNibble x o r c then 0 else e.2.toNat % 16
      let hi := if s.ownsNibble x o r (c + 1) then 0 else e.2.toNat / 16
      if lo + hi * 16 = 0 then none else some (e.1, BitVec.ofNat 8 (lo + hi * 16))) }

/-- The acquisition slots of a site's channels read 0. -/
def State.acqZero (s : State) (x : Nat) : State :=
  { s with acqMem := s.acqMem.filter (fun e => !s.ownsCh x (e.1 / 131072)) }

/-- The bytes of some regions of a site read 0. -/
def State.dramZero (s : State) (x : Nat) (l : List Nat) : State :=
  { s with dram := s.dram.filter (fun e => !l.any (fun r => decide (s.regLo x r ≤ e.1) && decide (e.1 < s.regHi x r))) }

/-- The assigned regions of a site. -/
def State.validRegions (s : State) (x : Nat) : List Nat := (List.range 16).filter (fun r => s.regValid x r)

/-- Regions of a site wholly or partly beyond the user area in force (R355). -/
def State.beyond (s : State) (x : Nat) : List Nat := (s.validRegions x).filter (fun r => decide (s.userEnd < s.regHi x r))

/-- A set of numbers as a mask. -/
def maskOf (l : List Nat) : Nat := l.foldl setBit 0

/-- R352, R354: a site loses regions. -/
def State.loseRegions (s : State) (x : Nat) (l : List Nat) : State :=
  if l.isEmpty then s
  else
    ((s.setF F.MEM_RLOST_LOST x (l.foldl setBit (s.getF F.MEM_RLOST_LOST x))).modSite x (fun t => { t with gone := l.foldl setBit t.gone })).sourceOn
      x 4

end Sys2Proof.Machine
end

