-- ==== Sys2Proof/Machine/Site.lean ====
section
/-! DEFINITION. Site reset and scrubbing (R331 to R333), and DRAM retraining (R353, R354). -/

namespace Sys2Proof.Machine

/-! ### Site reset (R331) -/

/-- R331: Saffron buffers that are not committed are discarded. -/
def SafSt.reset (t : SafSt) : SafSt :=
  let kept := t.run.filter (fun b => b.held)
  { t with opn := none, que := none, leadQue := none, run := kept, lead := if kept.isSome then t.lead else none,
           prior := t.prior.filter (fun b => b.held), dbt := t.dbt.filter (fun b => b.resolved), lapsed := none, openRej := none }

/-- R331 steps 1 to 3: safe state, STOP, and what is discarded at once. -/
def State.resetSite (s : State) (x : Nat) : State :=
  let s1 := (s.setFs x [(F.SITE_SSTAT_RESETTING, 1), (F.SITE_SSTAT_SCRUB, 1)]).sourceOn x 7
  let s2 := s1.stopSite x
  let s3 := (((s2.modSaf x SafSt.reset).safDoubt x).safShow x)
  let freed := ((s3.siteOf x).recs.filter (fun r => r.holds)).length
  let s4 := (s3.setUsed x (s3.getF F.DSP_SQ_QUSED x - freed)).modSite x (fun t => { t with
    resetting := 1, recs := [], order := [], fabItems := [], credits := [], regionsLeft := [],
    cap := { t.cap with page := none, staged := [], backlog := [] } })
  ({ s4 with reqs := s4.reqs.filter (fun r => !(r.cls == 1 && r.site == x)) } : State).setFs x
    [(F.SITE_CSEQ_SEQ, 0), (F.SITE_CBKOCC_BKOCC, 0)] |>.capShow x

/-- R334: the senders of fabric orders that this cycle's RESET beats are told so. -/
def State.nackLosers (s : State) (x : Nat) (t : State) : State :=
  ((s.siteOf x).orders.filter (fun p => p.ns == s.nowNs && p.src == 1)).foldl (fun a p => a.sendSite x p.frm .nackConflict) t

/-- R331, R334: RESET = 1, from PF0 or the site's VF. While the reset is running it has no effect (R5). -/
def execSiteReset (fn : Fn) (site : Fin 16) (s : State) : Res :=
  let x := site.val
  if s.present x && (fn = .pf0 || s.fnSite fn x) && !s.flag F.SITE_SSTAT_RESETTING x then
    s.order x ⟨s.nowNs, 0, fnSrc fn, R.SITE_SCTL.addr x, 1, 0⟩ (fun t => ok ((s.nackLosers x t).resetSite x)) ok
  else ok s

/-- A channel of a site that is reset: nothing scheduled, electrical idle until a gap. -/
def State.chanBack (s : State) (c : Nat) (t : Time) : State :=
  let h := s.chanOf c
  let s1 := s.setChan c { pin := h.pin, comp := h.comp, front := h.front, coefs := coefFlds.map (fun f => s.getL f (chIx c)) }
  (if s1.pers (octOf c) = 2 then s1.laneRestart c t else s1.modChan c (fun k => { k with want := s1.idleOut (octOf c) })).pinShow c t

/-- What engines still hold of a site's words. -/
def State.dropWords (s : State) (x : Nat) : State :=
  engines.foldl (fun a e => a.modEng e (fun g => { g with
    acts := g.acts.filter (fun p => p.site != x),
    fetches := g.fetches.filter (fun f => (s.owner (f.oct * 8 + lowest f.pos)).getD 16 != x) })) s

/-- R331 steps 4 and 5 but for the DRAM regions: the epoch, beats stopped, on-chip resources zero, registers back. -/
def State.resetZero (s : State) (x : Nat) : State :=
  let t := s.now
  let octs := (List.range 8).filter (fun o => s.ownsOct x o)
  let s1 := s.clvStop x
  let s3 := octs.foldl (fun a o => a.setPers o (FMap.get s.initLive F.OCT_PERS_PERS o) t) (s1.dropWords x)
  let s2 := ([0, 1, 2, 3].filter (fun k => (s.streamOf k).site == some x)).foldl (fun a k => a.streamEnd k) (s3.regsBack x)
  let s4 := (s2.setF F.DSP_SQ_QUSED x 0).incF F.FAB_SEPOCH_EPOCH x
  let s5 := octs.foldl (fun a o => a.modOct o (fun q => { q with wave := {} })) (((s4.bbZero x).acqZero x).dramZero x (s.validRegions x))
  let q := s5.siteOf x
  let saf : SafSt := { nextTx := q.saf.nextTx, last := q.saf.last }
  let q1 : SiteSt := {
    released := q.released, orders := q.orders, trigIn := q.trigIn, flUsed := q.flUsed, clUsed := q.clUsed, memWin := q.memWin,
    memUsed := q.memUsed, siTaken := q.siTaken,
    flHeld := q.flHeld, clHeld := q.clHeld, resetting := 2, gone := q.gone, regionsLeft := s5.validRegions x, saf := saf }
  let s6 := s5.setSite x q1
  let s7 : State := { s6 with time := { s6.time with armed := s6.time.armed.filter (fun p =>
    match p.2 with | .acqTrig c _ => !s.ownsCh x c.val | _ => true) } }
  (((s.siteChans x).foldl (fun a c => a.chanBack c t) s7).zeroTraffic x (s5.validRegions x)).clockShow t

/-- R331: the last burst of a site in reset has ended. -/
def execSiteResetBurstsEnded (site : Fin 16) (s : State) : Res :=
  let x := site.val
  ok (if (s.siteOf x).resetting = 1 ∧ s.burstsOver x then s.resetZero x else s)

/-- R331 step 6, R354, R355: the regions are zero; lost regions inside the user area are usable again; the sources clear. -/
def execSiteResetDone (site : Fin 16) (s : State) : Res :=
  let x := site.val
  if (s.siteOf x).resetting = 2 then
    let lost := maskOf ((s.beyond x).filter (fun r => hasBit (s.siteOf x).gone r))
    let s1 := s.modSite x (fun t => { t with resetting := 0, regionsLeft := [], gone := lost })
    let s2 := s1.setFs x [(F.MEM_RLOST_LOST, lost), (F.SITE_SSTAT_SCRUB, 0), (F.SITE_SSTAT_RESETTING, 0)]
    ok ((s2.sourceOff x 4).sourceOff x 7)
  else ok s

/-- R332: has a site regions that the background zeroing, which goes on from RUN, has still to zero? -/
def State.scrubs (s : State) (x : Nat) : Bool :=
  s.flag F.SITE_SSTAT_SCRUB x && (s.siteOf x).resetting == 0 && !(s.siteOf x).regionsLeft.isEmpty

/-- R332, R351: the last of the site's regions to be zeroed is zero; the sites before it come first. -/
def execScrubDone (site : Fin 16) (s : State) : Res :=
  let x := site.val
  if s.scrubs x && (List.range x).all (fun y => !s.scrubs y) then
    ok ((s.modSite x (fun t => { t with regionsLeft := [] })).setF F.SITE_SSTAT_SCRUB x 0)
  else ok s

/-! ### DRAM retraining (R353, R354) -/

/-- TRINT in nanoseconds. -/
def State.trint (s : State) : Nat := s.getF F.MEM_TRCFG_TRINT 0 * 1000000

/-- R353: a pass is due: SE15 takes it when it is free with an empty context slot, and the DRAM is not in self-refresh. -/
def execRetrainPassStart (s : State) : Res :=
  let g := s.engOf 15
  let st := s.engState 15
  let late := match s.boot.trainDue with | some d => decide (d + s.trint < s.nowNs) | none => false
  if st == 5 then ok (s.setF F.MEM_STAT_TRLATE 0 1)
  else if (match s.boot.trainDue with | some d => decide (s.nowNs < d) | none => false) || s.ready.any (fun i => i.bound == some 15) ||
      s.selfRefresh then ok s
  else if g.item.isNone && g.saved.isNone && !g.suspending && !g.restoring && !g.training && st == 0 then
    let s0 := if late then s.setF F.MEM_STAT_TRLATE 0 1 else s
    let s1 := ((s0.modEng 15 (fun h => { h with training := true })).setFs 15 [(F.SE_STATE_STATE, 1), (F.SE_STATE_SITEV, 0)]).setF
      F.MEM_STAT_TRBUSY 0 1
    let s2 : State := { (s1.clearEngine 15) with boot := { s1.boot with train := s.dcInService, trainDue := some (s.nowNs + s.trint), pass := some {} } }
    ok s2.preempt
  else ok s

/-- R354: a retraining pass declares channel `d` failed. -/
def State.dcFail (s : State) (d : Nat) : State :=
  let s1 := (s.setF F.MEM_CHRET_RET 0 (setBit (s.getF F.MEM_CHRET_RET 0) d)).setFs d [(F.MEM_CHTR_INSVC, 0), (F.MEM_CHTR_ATT, s.anyVal)]
  let s2 := (s1.drawn.setFs 0 [(F.MEM_STAT_NCH, s.getF F.MEM_STAT_NCH 0 - 1), (F.MEM_STAT_MODMAP, 1), (F.MEM_STAT_MIR2, 0)]).resvCheck.mirrorLose d
  let s3 := (sites.filter (fun x => s.present x)).foldl (fun a x => a.loseRegions x (s.validRegions x)) s2
  (s3.raisePf 2).faultLog 4 d

/-- R353: the pass is over once its last channel has been stepped. -/
def State.trainEnd (s : State) : State :=
  if s.boot.train.isEmpty then
    let s1 := ((s.modEng 15 (fun h => { h with training := false })).setF F.SE_STATE_STATE 15 0).setFs 0
      [(F.MEM_STAT_TRBUSY, 0), (F.MEM_TRLAST_NS, s.nowNs)]
    { s1 with boot := { s1.boot with pass := none } }
  else s

/-- R353: may a step end now? While TSITEV = 1 and that site's beats run, it starts at the start of a gap of the site and holds the channel
for at most 500 ns. -/
def State.stepWaits (s : State) : Bool :=
  let x := s.getF F.MEM_TRCFG_TSITE 0
  let q := s.siteOf x
  let t := Time.toNs (s.localNow 10)
  let near := fun (b : Nat) => decide (b ≤ t + s.getF F.SITE_BGAP_GAP x) && decide (t + s.getF F.SITE_BGAP_GAP x ≤ b + 500)
  !s.flag F.MEM_TRCFG_TSITEV 0 || !s.beatsRun x || near q.bStart || near q.nextB

/-- R353, R354: one retraining step of a channel in service, as MAINT traffic (R21). -/
def execRetrainStep (dc : Fin 16) (res : TrainRes) (s : State) : Res :=
  let d := dc.val
  if s.boot.train.contains d && s.stepWaits then
    let s1 := match res with
      | .pass w r n =>
        let a := s.setFs d [(F.MEM_CHTR_WMARG, w), (F.MEM_CHTR_RMARG, r), (F.MEM_CHTR_ATT, n)]
        if 1 < n then a.incF F.MEM_TRCNT_CNT 0 else a
      | .fail => if s.flag F.MEM_CHTR_INSVC d then s.dcFail d else s
    ok (({ s1 with boot := { s1.boot with train := s1.boot.train.filter (fun k => k != d) } } : State).requestAt d).trainEnd
  else ok s

/-- R341, R354: the mirror has two copies again, of all parts that had one left: MAINT traffic to a channel that then holds them (R348; which
one is not said: a free value). -/
def execMirrorRewriteDone (s : State) : Res :=
  let l := s.dcInService
  let s1 : State := { s with boot := { s.boot with mirGone := s.boot.mirGone.filter (fun c => s.boot.mirGone.contains (c ^^^ 8)) } }
  ok ((s1.drawn.requestAt (l.getD (s.anyVal % l.length) 0)).setF F.MEM_STAT_MIR2 0 1)

end Sys2Proof.Machine
end

