-- ==== Sys2Proof/Machine/Timebase.lean ====
section
/-! DEFINITION. System time (R15 to R17, R273 to R281): the tick, beacons, time exchanges, the servo and steps. -/

namespace Sys2Proof.Machine

/-- Islands that keep a copy of system time (R15, R281). -/
def timedIslands : List Nat := List.range 13 ++ (List.range 12).map (fun k => 16 + k)

/-- Move island `isl`'s copy to the value `v` now. -/
def State.loadCopy (s : State) (isl v : Nat) : State :=
  { s with time := { s.time with copyOff := Tbl.set (fun _ => 0) s.time.copyOff isl ((v : Int) - (s.nowFix : Int)) } }

/-- Loads whose tick has come (R17, R279). -/
def State.runLoads (s : State) : State :=
  (s.time.loads.filter (fun l => l.2.1 ≤ s.time.ticks)).foldl (fun a l => a.loadCopy l.1 l.2.2)
    { s with time := { s.time with loads := s.time.loads.filter (fun l => s.time.ticks < l.2.1) } }

/-- At a whole microsecond: the time every engine has held a burst and every site has had all its entries held (R271). -/
def State.microsecond (s : State) : State :=
  let s1 := (List.range 16).foldl (fun a e => if (a.engOf e).item.isSome then a.incF F.DSP_EBUSY_BUSY e else a) s
  sites.foldl (fun a x => if a.flag F.DSP_SSTAT_BP x then a.incF F.DSP_SBPUS_US x else a) s1

/-- R16: increments whose named tick has come are in force; the last of them stays. -/
def State.runIncs (s : State) : State :=
  let due := s.time.incSent.filter (fun p => decide (p.1 ≤ s.time.ticks))
  match due.getLast? with
  | none => s
  | some p =>
    (({ s with time := { s.time with incSent := s.time.incSent.filter (fun q => decide (s.time.ticks < q.1)) } } : State).setF
      F.TBS_INC_LO_FRAC 0 p.2).setF F.TBS_INC_HI_INT 0 (p.2 / 4294967296)

/-- Ticks from a beacon's leaving to the tick it names: at least 128 ns (R15), by how much more is open (log entry 6). -/
def State.lead (s : State) : Nat := 128 * 4294967296 / s.inc + 1 + Config.beaconLead s.free

/-- A time value `v` at tick `t0`, projected to tick `t` with the increments already sent (R16). -/
def State.projectFrom (s : State) (v t0 t : Nat) : Nat :=
  let r := s.time.incSent.foldl (fun (a : Nat × Nat × Nat) p =>
    if a.1 ≤ p.1 && decide (p.1 < t) then (p.1, p.2, a.2.2 + (p.1 - a.1) * a.2.1) else a) (t0, s.inc, v)
  r.2.2 + (t - r.1) * r.2.1

/-- The increment that applies from tick `t` (R15, R16). -/
def State.incFrom (s : State) (t : Nat) : Nat :=
  match (s.time.incSent.filter (fun p => decide (p.1 ≤ t))).getLast? with
  | some p => p.2
  | none => s.inc

/-- Increments sent, by the tick they apply from; of two for one tick the later sent stands last. -/
def putInc (t i : Nat) : List (Nat × Nat) → List (Nat × Nat)
  | [] => [(t, i)]
  | p :: l => if t < p.1 then (t, i) :: p :: l else p :: putInc t i l

/-- R15, R16, R279: a beacon to every timed island, with the increment that applies from the tick it names. -/
def execBeaconSend (s : State) : Res :=
  let t := s.time.ticks + s.lead
  let v := s.projectFrom s.nowFix s.time.ticks t
  let i := s.time.incNext.getD (s.incFrom t)
  let bs := timedIslands.map (fun k => { isl := k, tick := t, value := v, inc := i, step := s.time.stepPend : Beacon })
  let sent := match s.time.incNext with | some n => putInc t n s.time.incSent | none => s.time.incSent
  ok { s.drawn with time := { s.time with
    beacons := s.time.beacons ++ bs, incNext := none, incSent := sent, stepPend := false } }

/-- R17: TIME_SLIP: the island's number and the count, PF0 event 3, and every site that uses the island. -/
def State.timeSlip (s : State) (isl : Nat) : State :=
  let s1 := ((s.setF F.TBS_STAT_TIME_SLIP 0 1).setF F.TBS_SLIP_ISL 0 isl).satF F.TBS_SLIP_CNT 0 1
  (sites.filter (fun x => s.usesIsland x isl)).foldl (fun a x => a.siteFault x 11) (s1.raisePf 3)

/-- An island loads `v` at tick `t`, or at once, carried on to now, when the tick has passed. -/
def State.loadAt (s : State) (isl t v : Nat) : State :=
  if s.time.ticks < t then { s with time := { s.time with loads := s.time.loads ++ [(isl, t, v)] } }
  else s.loadCopy isl (s.projectFrom v t s.time.ticks)

/-- What an island's copy will hold at tick `t`: from a load it already awaits, or from what it holds now. -/
def State.copyAt (s : State) (isl t : Nat) : Nat :=
  match (s.time.loads.filter (fun l => l.1 == isl)).getLast? with
  | some l => s.projectFrom l.2.2 l.2.1 t
  | none => s.projectFrom (s.copyFix isl) s.time.ticks t

/-- R17, R279: the check of a beacon; a STEP beacon is loaded without it. -/
def execBeaconArrive (isl : Nat) (s : State) : Res :=
  match takeFirst (fun b => b.isl == isl) s.time.beacons with
  | none => ok s
  | some (b, rest) =>
    let s1 : State := { s with time := { s.time with beacons := rest } }
    if b.step then ok (s1.loadAt isl b.tick b.value)
    else
      let here := if s.time.ticks < b.tick then s.copyAt isl b.tick else s.copyFix isl
      let want := if s.time.ticks < b.tick then b.value else s.projectFrom b.value b.tick s.time.ticks
      if here = want then ok s1 else ok ((s1.loadAt isl b.tick b.value).timeSlip isl)

/-- R16: the increment takes effect, in every island, at the tick named in the first beacon that carries it; before that tick
nothing changes. -/
def execIncApply (s : State) : Res := ok s.runIncs

/-- R274: SNAP copies NS, FRAC and the wrap count in one tick, for the function that asks. -/
def execTbsSnap (fn : Fn) (s : State) : Res :=
  if fn = .pf0 || s.vfLive fn then
    ok (s.setFs (fnIx fn) [(F.TBS_SNS_NS, s.getF F.TBS_NS_NS 0), (F.TBS_SFRAC_FRAC, s.getF F.TBS_FRAC_FRAC 0),
      (F.TBS_SWRAP_WRAP, s.getF F.TBS_WRAPCNT_WRAP 0)])
  else ok s

/-- R275, R279: the count moves to `v`; a step over the end of NS sets WRAPF. The islands keep their copies until the STEP beacon. -/
def State.stepTime (s : State) (v : Nat) : State :=
  let s0 := (s.setNow v).setF F.TBS_STAT_STEPPED 0 1
  let s1 := if s.nowFix / 18446744073709551616 < v / 18446744073709551616 then s0.setF F.TBS_STAT_WRAPF 0 1 else s0
  let offs := timedIslands.foldl (fun m k => Tbl.set (fun _ => 0) m k ((s.copyFix k : Int) - (v : Int))) s.time.copyOff
  { s1 with time := { s1.time with copyOff := offs, stepPend := true } }

/-- R279: SET at the root, while no site runs beats, steps the time to SETNS.0. -/
def execTbsSet (fn : Fn) (s : State) : Res :=
  if fn = .pf0 && s.flag F.TBS_STAT_ROOT 0 && !s.anyRun then
    ok (s.stepTime ((s.getF F.TBS_WRAPCNT_WRAP 0 * 4294967296 + s.getF F.TBS_SETNS_NS 0) * 4294967296))
  else ok s

/-- R276: the child's request, stamped t1; on a port that is not UP nothing leaves, and the exchange will be lost. A parent
port that sleeps runs none (R317). -/
def execTimeExchangeStart (s : State) : Res :=
  match s.time.parent with
  | some k =>
    if s.flag F.TBS_STAT_ROOT 0 || s.portState k == 3 || s.portState k == 4 then ok s
    else
      let s1 : State := { s with time := { s.time with exT1 := some s.now } }
      ok (if s.portState k = 2 then s1.send 2 (s.getF F.FAB_PSTAT_FAR k) .timeReq else s1)
  | none => ok s

/-- R276: the parent's reply, and the follow-up with t2 and t3. The manual does not say how long the parent takes. -/
def execTimeRequestReceive (port : Fin 12) (child _t1 : Nat) (s : State) : Res :=
  if s.portState port.val = 2 then
    let t2 := s.now
    let t3 := s.now + s.anyVal
    ok ((s.drawn.send 2 child .timeReply).send 2 child (.timeFollow t2 t3))
  else ok s

/-- One picosecond in units of time. -/
def psUnits : Int := 34359738368

/-- The integer nearest `a / b`, halves upward (R474). -/
def nearest (a b : Int) : Int := (2 * a + b) / (2 * b)

/-- `z` held within `lo` and `hi`. -/
def clampInt (lo hi z : Int) : Int := max lo (min hi z)

/-- R278: the timebase enters ACQ: S is 0 and the list of increments starts again. -/
def State.enterAcq (s : State) : State :=
  { s.setF F.TBS_STAT_STATE 0 1 with time := { s.time with servoS := 0, incHist := [], goodRow := 0 } }

/-- R277: the servo's increment for error `e`, and S after it; S keeps its value while the result is clamped. -/
def State.servo (s : State) (e : Int) : Int × Int :=
  let sk := s.time.servoS + e
  let nom : Int := s.incNom
  let lim : Int := (s.getF F.TBS_SERVO_MAXPPM 0 * 4294967296 / 1000000 : Nat)
  let i := nom + e / 2 ^ s.getF F.TBS_SERVO_KPSH 0 + sk / 2 ^ s.getF F.TBS_SERVO_KISH 0
  let c := clampInt (nom - lim) (nom + lim) i
  (c, if c = i then sk else s.time.servoS)

/-- R278: INC of HOLD: the mean of the last 16 increments since ACQ, of all if fewer, INCNOM if none. -/
def State.holdInc (s : State) : Nat :=
  let l := s.time.incHist.take 16
  if l.isEmpty then s.incNom else l.sum / l.length

/-- R278: the parent is lost. -/
def State.parentLost (s : State) : State :=
  let st := s.getF F.TBS_STAT_STATE 0
  let s1 := (((s.setF F.TBS_STAT_PARLOST 0 1).setF F.TBS_STAT_PARV 0 0).raisePf 3)
  let s2 : State := { s1 with time := { s1.time with parent := none, exT1 := none, lostRow := 0 } }
  if st = 1 || st = 2 then
    ({ s2 with time := { s2.time with incNext := some s.holdInc } } : State).setF F.TBS_STAT_STATE 0 3
  else s2

/-- R279: OFFEXC: back to ACQ, PF0 event 3, and every running site that spans chips enters safe state. -/
def State.offsetExcess (s : State) : State :=
  let s1 := (((s.setF F.TBS_STAT_OFFEXC 0 1).enterAcq).raisePf 3)
  (sites.filter (fun x => s.flag F.SITE_BSTAT_RUN x && !(s.peersOf x).isEmpty)).foldl (fun a x => a.siteFault x 10) s1

/-- R276, R277: theta times two, in units of time. -/
def theta2 (t1 t2 t3 t4 asym : Nat) : Int :=
  (((t2 : Int) - t1) - ((t4 : Int) - t3)) - sext 16 asym * psUnits

/-- R276 to R279: a completed exchange. -/
def execExchangeComplete (port : Fin 12) (t2 t3 t4 : Nat) (s : State) : Res :=
  match s.time.exT1, s.time.parent with
  | some t1, some k =>
    if k = port.val then
      let th := theta2 t1 t2 t3 t4 (s.getF F.TBS_ASYM_ASYM k)
      let dl := ((t2 : Int) - t1) + ((t4 : Int) - t3)
      let thPs := clampInt (-2147483648) 2147483647 (nearest th (2 * psUnits))
      let dlPs := clampInt 0 4294967295 (nearest dl (2 * psUnits))
      let s1 := (((s.setF F.TBS_OFFS_THETA 0 (trunc 32 thPs)).setF F.TBS_DELAY_DELTA 0 dlPs.toNat).incF F.TBS_EXCNT_CNT 0)
      let s2 : State := { s1 with time := { s1.time with exT1 := none, lostRow := 0 } }
      let st := s.getF F.TBS_STAT_STATE 0
      let s3 := if st = 0 || st = 3 then (s2.enterAcq) else s2
      let s4 := (s3.setF F.TBS_STAT_PARENT 0 k).setF F.TBS_STAT_PARV 0 1
      let locked := st = 2
      let mag := if th < 0 then -th else th
      let lim : Int := s.getF F.TBS_OFFLIM_OFFLIM 0
      if locked = false && decide (2 * 1000000 * psUnits < mag) && !s.anyRun then
        ok (({ s4 with time := { s4.time with goodRow := 0 } } : State).stepTime (((s.nowFix : Int) + nearest th (2 * 1000 * psUnits) * 4294967296).toNat))
      else
        let tex : Int := (2 ^ s.getF F.TBS_SERVO_EXLOG 0 * 1000 : Nat)
        let e := nearest (th * 4294967296) (2 * 1000 * psUnits * tex)
        let r := s4.servo e
        let i := r.1.toNat
        let s5 : State := { s4 with time := { s4.time with
          servoS := r.2, incNext := some i, incHist := (i :: s4.time.incHist).take 16 } }
        if locked then
          if 2 * lim * psUnits < mag then ok s5.offsetExcess else ok s5
        else if 4 * mag ≤ 2 * lim * psUnits then
          let g := s5.time.goodRow + 1
          let s6 : State := { s5 with time := { s5.time with goodRow := g } }
          ok (if 16 ≤ g then s6.setF F.TBS_STAT_STATE 0 2 else s6)
        else ok { s5 with time := { s5.time with goodRow := 0 } }
    else ok s
  | _, _ => ok s

/-- R276, R278, R317: a lost exchange; eight in a row lose the parent. On a sleeping port none counts as lost. -/
def execExchangeLost (s : State) : Res :=
  match s.time.exT1, s.time.parent with
  | some _, some k =>
    if s.portState k = 3 || s.portState k = 4 then ok { s with time := { s.time with exT1 := none } }
    else
      let s1 := s.incF F.TBS_EXFAIL_CNT 0
      let s2 : State := { s1 with time := { s1.time with exT1 := none, lostRow := s.time.lostRow + 1 } }
      ok (if 8 ≤ s.time.lostRow + 1 then s2.parentLost else s2)
  | _, _ => ok s

end Sys2Proof.Machine
end

