-- ==== Sys2Proof/Machine/Clock.lean ====
section
/-! DEFINITION. Reference, PLLs and line clocks (R358 to R370). -/

namespace Sys2Proof.Machine

/-- The lock, loss, bypass and count fields of a PLL, and their index. -/
def pllFlds (p : Pll) : (Fld × Fld × Fld × Fld) × Nat :=
  match p with
  | .line n => ((F.CLK_LPSTAT_LOCK, F.CLK_LPSTAT_LOL, F.CLK_LPSTAT_BYP, F.CLK_LPSTAT_LOLCNT), n.val)
  | .core => ((F.CLK_CORESTAT_LOCK, F.CLK_CORESTAT_LOL, F.CLK_CORESTAT_BYP, F.CLK_CORESTAT_LOLCNT), 0)
  | .timebase => ((F.CLK_TBSTAT_LOCK, F.CLK_TBSTAT_LOL, F.CLK_TBSTAT_BYP, F.CLK_TBSTAT_LOLCNT), 0)

/-- What a PLL in bypass does to the sites (R367). -/
def State.pllFault (s : State) (p : Pll) (on : Bool) : State :=
  match p with
  | .line _ => s.clockShow s.now
  | .core => if on then s.sourceOn 16 0 else s.sourceOff 16 0
  | .timebase => if on then s.sourceOn 16 1 else s.sourceOff 16 1

/-- The line PLLs are off in DORMANT (R429). -/
def State.pllOff (s : State) (p : Pll) : Bool :=
  match p with
  | .line _ => s.getF F.GLB_PWRSTAT_STATE 0 == 2
  | _ => false

/-- R367: a PLL goes to the bypass oscillator, unless it is there or off. -/
def State.pllLose (s : State) (p : Pll) : State :=
  let f := (pllFlds p).1
  let i := (pllFlds p).2
  if s.flag f.2.2.1 i || s.pllOff p then s
  else ((s.setFs i [(f.1, 0), (f.2.1, 1), (f.2.2.1, 1)]).satF f.2.2.2 i 1).pllFault p true

/-- R367, R278: a PLL in bypass relocks once the reference is present; a non-root timebase then enters ACQ. -/
def State.pllLock (s : State) (p : Pll) : State :=
  let f := (pllFlds p).1
  let i := (pllFlds p).2
  if s.flag F.CLK_REF_REFOK 0 && !s.flag f.1 i && !s.pllOff p then
    let s1 := (s.setFs i [(f.1, 1), (f.2.2.1, 0)]).pllFault p false
    if p = .timebase && s.flag f.2.2.1 i && !s.flag F.FAB_ID_TROOT 0 then s1.enterAcq else s1
  else s

/-- The PLLs. -/
def plls : List Pll := [.line 0, .line 1, .line 2, .line 3, .core, .timebase]

/-- R358: the reference is lost, and with it every PLL's. -/
def execRefLoss (s : State) : Res :=
  if s.flag F.CLK_REF_REFOK 0 then
    ok (plls.foldl (fun a p => a.pllLose p) ((s.setFs 0 [(F.CLK_REF_REFOK, 0), (F.CLK_REF_REFLOSS, 1)]).satF F.CLK_REF_LCNT 0 1))
  else ok s

/-- R358: the reference counts as present. -/
def execRefPresent (s : State) : Res := ok (s.setF F.CLK_REF_REFOK 0 1)

/-- R367: a PLL loses lock. -/
def execPllLossOfLock (pll : Pll) (s : State) : Res := ok (s.pllLose pll)

/-- R367: a PLL relocks. -/
def execPllRelock (pll : Pll) (s : State) : Res := ok (s.pllLock pll)

/-- R363: UPDNOW from the VF of the site that owns the PLL, whose beats do not run; from PF0, or while they run or a gap of this cycle starts them (R370), it is refused. A VF that does
not own the PLL may change no register that another site can read (R328, R439): its write is ignored (DEDUCED, log entry 58). -/
def execUpdnow (fn : Fn) (lp : Fin 4) (s : State) : Res :=
  let n := lp.val
  match fn with
  | .pf0 => ok (s.setF F.CLK_LPSTAT_UPD_REJ n 1)
  | .vf v =>
    s.hostOrder fn (s.ownsLp v.val n) R.CLK_LPCTL n 1 (fun s =>
      if s.vfLive fn && s.ownsLp v.val n then
        if s.beatsRun v.val || s.startsBeats v.val then ok (s.setF F.CLK_LPSTAT_UPD_REJ n 1)
        else if s.lpPendOk n then
          let users := (s.lpChanged n).flatMap (fun m => s.usersOf n m)
          let a := (users.foldl (fun c o => c.octClockOld (s.lpLoad s.reg n) o s.now) s).lpLoad s.reg n
          ok ((users.foldl (fun c o => c.octClockNew o s.now) a).clockShow s.now)
        else ok (s.setF F.CLK_LPSTAT_CFG_REJ n 1)
      else ok s)

end Sys2Proof.Machine
end

