-- ==== Sys2Proof/Machine/Clove.lean ====
section
/-! DEFINITION. Clove slices, retirement of channels, retrims and their saving (R23, R24, R377 to R385). -/

namespace Sys2Proof.Machine

/-- The Clove state of an octet (R384): 0 FREE, 1 PENDING, 2 SERVING, 3 RETRIM, 4 SHADOW, 5 FAILED. -/
def State.clvSt (s : State) (o : Nat) : Nat := s.getF F.OCT_CLVSTAT_STATE o

/-- REQ_REJ. -/
def State.clvRej (s : State) (o : Nat) : State := s.setF F.OCT_CLVSTAT_REQ_REJ o 1

/-- Does a return of Clove's channel begin in this cycle: has RETURN come, or does it wait (R385)? -/
def State.retNow (s : State) (o : Nat) : Bool :=
  ((s.octSt o).retReq && (s.octSt o).retNs == s.nowNs) ||
    (s.clvSt o == 2 && s.cycleRest.any (fun i => match i with
      | .clvReturn fn oct pos => oct.val == o && pos.val == (s.octSt o).clvPos && s.fnOwns fn (s.clvChan o)
      | _ => false))

/-- R377, R378, R381, R385: what the failure of a channel slice does with Clove. Failures in the cycle of a RETURN, and those after them in the
same beat, wait for the gap. -/
def State.sliceClove (s : State) (o p : Nat) : State :=
  let c := o * 8 + p
  let q := s.octSt o
  let st := s.clvSt o
  if st = 0 ∨ (st = 1 ∧ q.clvPos = p) then s.clvAsk o p 0
  else if st = 1 ∧ q.clvKind ≠ 0 then (s.clvRej o).clvAsk o p 0
  else if st = 1 ∧ p < q.clvPos then (s.retireChan (o * 8 + q.clvPos) 0).clvAsk o p 0
  else if st = 4 ∧ q.clvPos = p then (s.clvAbort o 4).modOct o (fun v => { v with clvKind := 0 })
  else if (st = 2 ∨ st = 3) ∧ q.clvPos = p then
    (s.setF F.OCT_CLVSTAT_STATE o 2).modOct o (fun v => { v with clvKind := 0, oldTrims := none })
  else if ((st = 2 ∨ st = 3) ∧ s.retNow o = true ∧ ((s.owner c).map (fun x => s.beatsRun x)) = some true) ∨ q.next ≠ [] then
    s.modOct o (fun v => { v with next := v.next ++ [p] })
  else s.retireChan c 0

/-- R23, R24, R208: a channel slice fails: the beat is SUSPECT, and Clove serves the channel or it is retired. -/
def State.sliceFails (s : State) (o p : Nat) : State :=
  let c := o * 8 + p
  let s1 := s.modOct o (fun v => { v with failed := setBit v.failed p })
  if hasBit (s.octSt o).failed p || s.flag F.OCT_FESTAT_RETIRED (chIx c) then s1
  else (s1.markSuspect c).sliceClove o p

/-- R382: Clove itself fails; a slice that goes back to its trims goes back to what UNSAVED said of them. -/
def State.cloveFails (s : State) (o : Nat) : State :=
  let q := s.octSt o
  let st := s.clvSt o
  let c := o * 8 + q.clvPos
  let s1 := (s.modOct o (fun v => { v with failed := setBit v.failed 8, retReq := false, shadowBeat := none })).setF F.OCT_CLVSTAT_STATE o 5
  if hasBit q.failed 8 ∨ st = 5 then s
  else if st = 0 ∨ (st = 1 ∧ q.clvKind ≠ 0) then s1
  else if hasBit q.failed q.clvPos then
    (((s1.setF F.OCT_OSTAT_CLVBUSY o 0).setF F.OCT_FESTAT_ONCLV (chIx c) 0).markSuspect c).retireChan c 0
  else
    let s2 := match q.oldTrims with
      | some l => (s1.modOct o (fun v => { v with clvKind := 3, trims := Tbl.set (fun _ => []) v.trims v.clvPos l })).setF
          F.OCT_QSRC_UNSAVED (qIx o q.clvPos) (if q.oldUns then 1 else 0)
      | none => s1.modOct o (fun v => { v with clvKind := 3 })
    match s.owner c with
    | some x => if s.beatsRun x then s2.markSuspect c else s2.clvFree o 5
    | none => s2.clvFree o 5

/-- R377, R382: slice 8 is Clove's. -/
def execSliceFail (oct : Fin 8) (slice : Fin 9) (s : State) : Res :=
  ok (if slice.val = 8 then s.cloveFails oct.val else s.sliceFails oct.val slice.val)

/-- R23: a front end fails, and nothing replaces it. -/
def execFrontEndFail (ch : Fin 64) (s : State) : Res :=
  ok ((s.modChan ch.val (fun h => { h with front := true })).retireChan ch.val 1)

/-- R378: a Clove request: POS is written; it is accepted only from the VF of the site that owns the channel there. -/
def State.clvReq (s : State) (fn : Fn) (o p val : Nat) (act : State → State) : Res :=
  let own := s.fnOwns fn (o * 8 + p)
  let may := s.mayWrite fn R.OCT_CLVCTL o
  s.hostOrder fn own R.OCT_CLVCTL o val (fun s =>
    let s1 := if may then s.setF F.OCT_CLVCTL_POS o p else s
    ok (if own then act s1 else s1))

/-- R378: does a TAKE or RETRIM of a lower position, which the octet can accept, wait in this cycle? -/
def State.clvLower (s : State) (o p : Nat) : Bool :=
  let lower := fun (fn : Fn) (oct pos : Fin 8) => oct.val == o && decide (pos.val < p) && s.fnOwns fn (o * 8 + pos.val) &&
    !s.flag F.OCT_FESTAT_RETIRED (chIx (o * 8 + pos.val))
  s.cycleRest.any (fun i => match i with
    | .clvTake fn oct pos => lower fn oct pos
    | .clvRetrim fn oct pos => lower fn oct pos
    | _ => false)

/-- R378, R379: a TAKE (kind 1) or RETRIM (kind 2) of a channel that Clove does not serve. Of two channels in one cycle the lower wins. -/
def State.clvClaim (s : State) (o p kind : Nat) : State :=
  if s.clvSt o = 0 ∧ s.flag F.OCT_FESTAT_RETIRED (chIx (o * 8 + p)) = false ∧ s.clvLower o p = false then s.clvAsk o p kind
  else s.clvRej o

/-- Does Clove serve position `p`, or wait to? -/
def State.clvHas (s : State) (o p : Nat) : Bool :=
  (s.octSt o).clvPos == p && (s.clvSt o == 1 || s.clvSt o == 2 || s.clvSt o == 3 || s.clvSt o == 4)

/-- R377, R378, R385: TAKE; for the channel that Clove already serves it has no effect. -/
def execClvTake (fn : Fn) (oct pos : Fin 8) (s : State) : Res :=
  s.clvReq fn oct.val pos.val (8 + pos.val) (fun s =>
    if s.clvHas oct.val pos.val then s else s.clvClaim oct.val pos.val 1)

/-- R379, R385: RETRIM; a SAVE of the slice in the same cycle is refused. On a channel that Clove serves by TAKE the pass
begins at once; one whose own slice failed has none to retrim. -/
def execClvRetrim (fn : Fn) (oct pos : Fin 8) (s : State) : Res :=
  let o := oct.val
  let p := pos.val
  s.clvReq fn o p (16 + p) (fun s =>
    let q := s.octSt o
    let s1 := s.modOct o (fun v => { v with trimReq := some (p, s.nowNs) })
    let s0 := if q.saving = some p ∧ q.savNs = s.nowNs then (s1.clvRej o).modOct o (fun v => { v with saving := none }) else s1
    if s.clvHas o p then
      if q.clvKind = 2 then s0
      else if q.clvKind = 0 ∨ s.clvSt o = 4 then s0.clvRej o
      else if s.clvSt o = 1 then s0.modOct o (fun v => { v with clvKind := 2 })
      else (s0.setF F.OCT_CLVSTAT_STATE o 3).modOct o (fun v => { v with
        clvKind := 2, retReq := false, oldTrims := some (Tbl.get (fun _ => []) v.trims p), oldUns := s.flag F.OCT_QSRC_UNSAVED (qIx o p) })
    else s0.clvClaim o p 2)

/-- R380: a return is asked for: the first gap that begins at least 64 ns later. -/
def State.askReturn (s : State) (o : Nat) : State :=
  let f := match s.owner (s.clvChan o) with
    | some x => if s.beatsRun x then some (s.gapBeat x (s.localNow 11)) else none
    | none => none
  s.modOct o (fun v => { v with retReq := true, retNs := s.nowNs, shadowBeat := f })

/-- R378, R380: RETURN, of a channel that Clove serves. -/
def execClvReturn (fn : Fn) (oct pos : Fin 8) (s : State) : Res :=
  let o := oct.val
  s.clvReq fn o pos.val (32 + pos.val) (fun s =>
    if s.clvHas o pos.val ∧ s.clvSt o = 2 then (if (s.octSt o).retReq then s else s.askReturn o)
    else if s.clvHas o pos.val ∧ s.clvSt o = 4 then s
    else s.clvRej o)

/-- Does the slice of position `p` carry its channel: neither Clove, nor no slice at all? -/
def State.ownCarries (s : State) (o p : Nat) : Bool :=
  !s.flag F.OCT_FESTAT_ONCLV (chIx (o * 8 + p)) && !s.flag F.OCT_FESTAT_RETIRED (chIx (o * 8 + p)) && !hasBit (s.octSt o).failed p

/-- R383, R385: SAVE, of a slice that carries its channel and holds an unsaved retrim. While one is running it has no effect (R5). -/
def execClvSave (fn : Fn) (oct pos : Fin 8) (s : State) : Res :=
  let o := oct.val
  let p := pos.val
  s.clvReq fn o p (64 + p) (fun s =>
    let q := s.octSt o
    if q.saving.isSome then s
    else if s.ownCarries o p = false ∨ q.trimReq = some (p, s.nowNs) ∨ s.flag F.OCT_QSRC_UNSAVED (qIx o p) = false then s.clvRej o
    else s.modOct o (fun v => { v with saving := some p, savNs := s.nowNs }))

/-- The figures of a slice show what a pass or an NVM set gives (R376). -/
def State.showFigures (s : State) (o p : Nat) (g : Figures) : State :=
  s.setFs (qIx o p) [(F.OCT_QEYE_EYEW, g.eyew), (F.OCT_QINL_INLRMS, g.inlrms), (F.OCT_QINL_INLMAX, g.inlmax),
    (F.OCT_QDNL_DNLMIN, g.dnlmin), (F.OCT_QDNL_DNLMAX, g.dnlmax)]

/-- R372: where each code truly lies: the running sum of the widths, a width being the code's share of the 2^26 hits. -/
def runSum : Nat → List Nat → List Nat
  | _, [] => []
  | a, h :: l => (a + h) :: runSum (a + h) l

/-- R372, R376: DNL of a TDC code of `h` hits, in 1/256 LSB, in two's complement of 16 bits: an LSB has 16,384 hits. A half rounds up, and a
value beyond 16 bits is held at the largest (DESIGN CHOICE, log entry 66). -/
def dnlOf (h : Nat) : Int := min 32767 (((h : Int) + 32) / 64 - 256)

/-- R372, R376: what a pass gives. -/
def passFigures (p : Density) : Figures :=
  let d := p.tdc.map dnlOf
  let code := fun (z : Int) => (z % 65536).toNat
  { eyew := p.eyew, inlrms := p.inlrms, inlmax := p.inlmax, dnlmin := code (d.foldl min 32767), dnlmax := code (d.foldl max (-256)),
    trims := (p.lines ++ [p.tdc]).flatMap (runSum 0) ++ p.dsp }

/-- R376, R379: the pass ends: new live trims and figures, and a return. -/
def execRetrimDone (oct : Fin 8) (pass : Density) (s : State) : Res :=
  let fig := passFigures pass
  let o := oct.val
  let q := s.octSt o
  if s.clvSt o = 3 ∧ !q.retReq then
    let p := q.clvPos
    let s1 := ((s.showFigures o p fig).setF F.OCT_QSRC_UNSAVED (qIx o p) 1).satF F.OCT_QCNT_CNT (qIx o p) 1
    ok ((s1.modOct o (fun v => { v with trims := Tbl.set (fun _ => []) v.trims p fig.trims })).askReturn o)
  else ok s

/-- The live figures and trims of a slice. -/
def State.figures (s : State) (o p : Nat) : Figures :=
  { eyew := s.getF F.OCT_QEYE_EYEW (qIx o p), inlrms := s.getF F.OCT_QINL_INLRMS (qIx o p), inlmax := s.getF F.OCT_QINL_INLMAX (qIx o p),
    dnlmin := s.getF F.OCT_QDNL_DNLMIN (qIx o p), dnlmax := s.getF F.OCT_QDNL_DNLMAX (qIx o p),
    trims := Tbl.get (fun _ => []) (s.octSt o).trims p }

/-- R383, R422: does the next SAVE of a slice go to copy B: is its field set in force in copy A? -/
def saveToB (q : OctSt) (p : Nat) : Bool := match setInForce q p with | some f => !f.copyB | none => false

/-- R422: the rewrite of a page of one copy is cut off: the sets that lie there fail their check. -/
def State.setsCut (s : State) (toB : Bool) (grp : Nat) : State :=
  ((List.range 4).map (fun j => 4 * grp + j)).foldl (fun a k =>
    a.modOct (k / 9) (fun q =>
      let p := k % 9
      let keep := fun (t : Tbl (Option FieldSet)) => (Tbl.get (fun _ => none) t p).filter (fun f => f.copyB != toB)
      { q with
        field := Tbl.set (fun _ => none) q.field p (keep q.field)
        fieldOld := Tbl.set (fun _ => none) q.fieldOld p (keep q.fieldOld) })) s

/-- R383, R422: the store ends: the copy of the field set that was not in force holds the slice's trims, and is. -/
def execSaveDone (oct : Fin 8) (okd : Bool) (s : State) : Res :=
  let o := oct.val
  let q := s.octSt o
  match q.saving with
  | none => ok s
  | some p =>
    let toB := saveToB q p
    let s1 := s.modOct o (fun v => { v with saving := none })
    if okd then
      let n := match setInForce q p with | some f => (f.seq + 1) % 4294967296 | none => 1
      let f : FieldSet := { fig := s.figures o p, cnt := s.getF F.OCT_QCNT_CNT (qIx o p), copyB := toB, seq := n }
      let s2 := (s1.nvmRecord 4 ((if toB then 48 else 30) * 1024 + qIx o p * 256) 64
        (n :: f.cnt :: f.fig.eyew :: f.fig.inlrms :: f.fig.inlmax :: f.fig.dnlmin :: f.fig.dnlmax :: f.fig.trims)).modOct o (fun v => { v with
        field := Tbl.set (fun _ => none) v.field p (some f)
        fieldOld := Tbl.set (fun _ => none) v.fieldOld p (setInForce v p) })
      ok ((s2.setFs (qIx o p) [(F.OCT_QSRC_FIELD, 1), (F.OCT_QSRC_UNSAVED, 0)]).setF F.OCT_CLVSTAT_SAVED o 1)
    else ok ((((s1.nvmCut (((if toB then 48 else 30) + qIx o p / 4) * 1024)).setsCut toB (qIx o p / 4)).setF F.OCT_CLVSTAT_SAVE_FAIL o 1).faultLog 5
      o)

end Sys2Proof.Machine
end

