-- ==== Sys2Proof/Machine/FabTab.lean ====
section
/-! DEFINITION. Discovery, routes and bounds (R303, R309 to R312): the peer table from the links heard of, and what a change
of it does. -/

namespace Sys2Proof.Machine

/-! ### Routes (R311) -/

/-- The far chip and the flight of the working link at port `k` of chip `a`. -/
def linkAt (l : List LinkState) (a k : Nat) : Option (Nat × Nat) :=
  (l.find? (fun e => e.a == a && e.port == k && e.up)).map (fun e => (e.b, e.flight))

/-- The flight last heard of the link at port `k` of chip `a`, working or not; 0 where none was. -/
def flightAt (l : List LinkState) (a k : Nat) : Nat :=
  ((l.find? (fun e => e.a == a && e.port == k)).map (fun e => e.flight)).getD 0

/-- A route: ports with the flight of each hop. -/
abbrev Route := List (Nat × Nat)

/-- The ports that correct the differing bits between two chips, shelf bits first, lowest first (R311). -/
def primaryPorts (a b : Nat) : List Nat := [5, 6, 7, 8, 0, 1, 2, 3, 4].filter (fun k => hasBit (a ^^^ b) k)

/-- The route over ports that each flip their bit, while every link works. -/
def walk (l : List LinkState) (a : Nat) : List Nat → Option Route
  | [] => some []
  | k :: ks =>
    match linkAt l a k with
    | some (b, f) => if b = a ^^^ 2 ^ k then (walk l b ks).map (fun r => (k, f) :: r) else none
    | none => none

/-- The chips reached by one more hop, with their routes, in order of route, without those seen before. -/
def frontier (l : List LinkState) (now : List (Nat × Route)) (seen : List Nat) : List (Nat × Route) :=
  (now.flatMap (fun p => (List.range 12).filterMap (fun k => (linkAt l p.1 k).map (fun q => (q.1, p.2 ++ [(k, q.2)]))))).foldl
    (fun acc p => if seen.contains p.1 || acc.any (fun q => q.1 == p.1) then acc else acc ++ [p]) []

/-- Breadth first over the working links, at most `n` hops. -/
def searchRoute (l : List LinkState) (b : Nat) : Nat → List (Nat × Route) → List Nat → Option Route
  | 0, _, _ => none
  | n + 1, now, seen =>
    match now.find? (fun p => p.1 == b) with
    | some p => some p.2
    | none =>
      match now with
      | [] => none
      | _ =>
        let next := frontier l now seen
        searchRoute l b n next (seen ++ next.map (fun p => p.1))

/-- R311: the shortest route over working ports; of equal ones the one whose ports have the lowest numbers. -/
def shortest (l : List LinkState) (a b : Nat) : Option Route := searchRoute l b 512 [(a, [])] [a]

/-- R311: the route in use, and whether it is a detour. -/
def routeOf (l : List LinkState) (a b : Nat) : Option (Route × Bool) :=
  match walk l a (primaryPorts a b) with
  | some r => some (r, false)
  | none => (shortest l a b).map (fun r => (r, true))

/-! ### Bounds (R303, R312) -/

/-- R312: 700 ns and the flight of each hop, rounded up to 100 ns. Flights in 0.1 ns. -/
def ctrlBound (fl : List Nat) : Nat := ((fl.map (fun f => 7000 + f)).sum + 999) / 1000 * 100

/-- The flights along the primary route, working or not (log entry 11). -/
def primaryFlights (l : List LinkState) (a b : Nat) : List Nat :=
  ((primaryPorts a b).foldl (fun (p : Nat × List Nat) k => (p.1 ^^^ 2 ^ k, p.2 ++ [flightAt l p.1 k])) (a, [])).2

/-- The tree links a FLASH word from `a` takes to `b`: highest dimension first, shelf dimensions before positions (R300). -/
def treePorts (a b : Nat) : List Nat := [8, 7, 6, 5, 4, 3, 2, 1, 0].filter (fun k => hasBit (a ^^^ b) k)

/-- The flights of the path of a FLASH word, each missing tree link replaced by its detour (R311). -/
def flashFlights (l : List LinkState) (a : Nat) : List Nat → Option (List Nat)
  | [] => some []
  | k :: ks =>
    let b := a ^^^ 2 ^ k
    match (match linkAt l a k with
      | some (c, f) => if c = b then some [f] else none
      | none => none), shortest l a b with
    | some r, _ => (flashFlights l b ks).map (fun t => r ++ t)
    | none, some r => (flashFlights l b ks).map (fun t => r.map (fun p => p.2) ++ t)
    | none, none => none

/-- R303: 8.3 ns before the hops, 3.2 ns and the flight of each hop, 11.7 ns after them with the margin; in 0.1 ns. -/
def flashBound (fl : List Nat) : Nat := 83 + (fl.map (fun f => 32 + f)).sum + 117

/-! ### The peer table (R310) -/

/-- The entry of a peer, when a route to it exists. -/
def makePeer (l : List LinkState) (a b : Nat) : Option Peer :=
  (routeOf l a b).map (fun r =>
    let fl := r.1.map (fun p => p.2)
    let cb := ctrlBound fl
    { chip := b, port := (r.1.map (fun p => p.1)).headD 0, hops := r.1.length, cbnd := cb,
      fbnd := ((flashFlights l a (treePorts a b)).map flashBound).getD 0,
      wide := decide (ctrlBound (primaryFlights l a b) < cb), detour := r.2 })

/-- The chips of this chip's shelf that it knows, itself among them. -/
def State.shelfChips (s : State) : List Nat :=
  s.chipNo :: (s.fab.peers.map (fun p => p.chip)).filter (fun c => c / 32 == s.chipNo / 32)

/-- The shelf root: the lowest-numbered chip of the shelf in the peer table. -/
def State.shelfRoot (s : State) : Nat := s.shelfChips.foldl min s.chipNo

/-- R311: the parent port is the first port of the route to the time root; with no route the port stays. -/
def State.findParent (s : State) : State :=
  if s.flag F.FAB_ID_TROOT 0 then s
  else
    match s.fab.root.bind s.peer with
    | some p =>
      if s.time.parent = some p.port then s
      else { s with time := { s.time with parent := some p.port, exT1 := none, lostRow := 0 } }
    | none => s

/-- Cells that had no route are tried again. -/
def State.retryWaiting (s : State) : State :=
  s.fab.waiting.foldl (fun a c => a.route c) ({ s with fab := { s.fab with waiting := [] } } : State)

/-- R317, R278: while its parent port sleeps the timebase keeps its increment as in HOLD. -/
def State.timeAsleep (s : State) : State :=
  match s.time.parent with
  | some k =>
    let st := s.getF F.TBS_STAT_STATE 0
    if sleepPorts.contains k ∧ (st = 1 ∨ st = 2) then
      { s with time := { s.time with incNext := some s.holdInc, exT1 := none } }
    else s
  | none => s

/-- R314, R316: the deep state at T; a held wake request sends the tone. -/
def State.enterSleep (s : State) : State :=
  let s1 := sleepPorts.foldl (fun a k => if a.portState k = 2 then a.setF F.FAB_PSTAT_STATE k 3 else a) s.timeAsleep
  let held := s.fab.wake.isSome
  let s2 : State := { s1.setF F.FAB_SLPSTAT_STATE 0 3 with fab := { s1.fab with sleepAt := none, wake := none } }
  if held then s2.wakeTones else s2

/-- R315 to R317: a sleep at T (extended ns) is scheduled; one that has passed is entered at once. -/
def State.scheduleSleep (s : State) (t : Nat) : State :=
  let s1 := s.setF F.FAB_SLPT_NS 0 t
  if t ≤ s.nowNs then s1.enterSleep
  else
    let s2 : State := { s1.setF F.FAB_SLPSTAT_STATE 0 2 with fab := { s1.fab with sleepAt := some t } }
    match s.fab.wake with
    | some _ => if s.nowNs + 48 < t then s2.cancelSleep else s2
    | none => s2

/-- R315: with a vote from every chip of the shelf the root sends SLEEP-AT and sleeps with them. -/
def State.tallyVotes (s : State) : State :=
  if s.shelfChips.all (fun c => s.fab.votes.contains c) then
    let t := s.nowNs + s.getF F.FAB_SLPLEAD_US 0 * 1000
    let s1 : State := { s with fab := { s.fab with votes := [] } }
    ((s.shelfChips.filter (fun c => c != s.chipNo)).foldl (fun a c => a.send 0 c (.sleepAt (t % 4294967296))) s1).scheduleSleep t
  else s

/-- R310: the peer table follows the links. Each peer added or removed counts in FAB_TOPOVER and raises PF0 event 7; a
removed member chip is a PEER fault of its sites (R23, R387); a new shelf root voids votes not yet scheduled, and those that a root holds
may now be all (R315). -/
def State.topology (s : State) : State :=
  let me := s.chipNo
  let l := s.fab.links
  let known := (List.range 512).filter (fun c => c != me && l.any (fun e => e.up && (e.a == c || e.b == c)))
  let new := known.filterMap (fun c => makePeer l me c)
  let old := s.fab.peers
  let gone := old.filter (fun p => new.all (fun q => q.chip != p.chip))
  let come := new.filter (fun p => old.all (fun q => q.chip != p.chip))
  let root := s.shelfRoot
  let s1 : State := { s with fab := { s.fab with peers := new } }
  let n := gone.length + come.length
  let s2 := if n = 0 then s1 else (s1.addF F.FAB_TOPOVER_VER 0 n).raisePf 7
  let s3 := if s2.shelfRoot = root then s2 else
    let a : State := { s2 with fab := { s2.fab with votes := [] } }
    if a.getF F.FAB_SLPSTAT_STATE 0 = 1 then a.setF F.FAB_SLPSTAT_STATE 0 0 else a
  let s4 := s3.setF F.FAB_ID_SROOT 0 (if s3.shelfRoot = me then 1 else 0)
  let s5 := s4.findParent
  let s6 := sites.foldl (fun a x =>
    if a.present x && gone.any (fun p => (a.peersOf x).contains p.chip) then a.siteFault x 9 else a) s5
  s6.retryWaiting.tallyVotes

/-- A link-state change is known; it replaces what was heard of that port of that chip. -/
def State.putLink (s : State) (l : LinkState) : State :=
  { s with fab := { s.fab with links := s.fab.links.filter (fun e => !(e.a == l.a && e.port == l.port)) ++ [l] } }

/-- R310: a change goes on to the partner of every port that is UP. -/
def State.flood (s : State) (l : LinkState) : State :=
  ((List.range 12).filter (fun k => s.portState k == 2 && s.flag F.FAB_PSTAT_FARV k)).foldl (fun a k =>
    let far := a.getF F.FAB_PSTAT_FAR k
    let c := a.makeCell 0 far 0 0 (.linkState l)
    (a.cellMade 0 far).portCell k c) s

/-- This chip's link at port `k` as it announces it. -/
def State.ownLink (s : State) (k : Nat) (up : Bool) : LinkState :=
  { a := s.chipNo, port := k, b := s.getF F.FAB_PSTAT_FAR k, up := up, flight := s.getF F.FAB_PSTAT_FLIGHT k,
    root := s.flag F.FAB_ID_TROOT 0, digest := s.fab.digest }

/-- A HELLO on a port of the alternates, whose partner's number is not known: it goes nowhere else. -/
def Cell.linkLocal (k : Nat) (c : Cell) : Bool := match c.msg with | some (.hello _ _ _ _) => decide (9 ≤ k) | _ => false

/-- R306, R310, R311, R318: a port no longer carries traffic: its link is down, the change is flooded, and the cells of its
retry buffer go out over the new route. -/
def State.linkDown (s : State) (k : Nat) : State :=
  let p := s.portOf k
  let cells := (p.retry.map (fun r => r.2.2) ++ p.held).filter (fun c => !c.linkLocal k)
  let s1 := s.modPort k (fun q => { q with retry := [], held := [], nacking := false, hello := none })
  let l := s.ownLink k false
  let s2 := if s.flag F.FAB_PSTAT_FARV k then (s1.putLink l).flood l else s1
  cells.foldl (fun a c => a.route c) (s2.setF F.FAB_PSTAT_FARV k 0).topology

/-- R305: cells that wait for a place in the retry buffer go out. -/
def State.drainHeld (s : State) (k : Nat) : State :=
  if s.portState k = 2 then (s.portOf k).held.foldl (fun a c => a.portCell k c) (s.modPort k (fun q => { q with held := [] }))
  else s

/-- R308: a training attempt starts: the port is DOWN for routing, and attempts after the first are counted. -/
def State.startTraining (s : State) (k : Nat) : State :=
  let was := s.portState k
  let s1 := s.setF F.FAB_PSTAT_STATE k 1
  let s2 := if was = 2 || was = 3 || was = 4 then s1.linkDown k else s1
  let s3 := if (s.portOf k).attempts = 0 then s2 else s2.incF F.FAB_PRTRN_CNT k
  s3.modPort k (fun p => { p with attempts := p.attempts + 1 })

/-- R305: the sender resends from the first unacknowledged cell; after four resends without acceptance the port retrains. -/
def State.resend (s : State) (k : Nat) : State :=
  let p := s.portOf k
  match p.retry with
  | [] => s
  | r :: _ =>
    if 4 ≤ r.2.1 then s.startTraining k
    else
      p.retry.foldl (fun a c => a.sendCell k c.1 c.2.2)
        (s.modPort k (fun q => { q with retry := q.retry.map (fun c => (c.1, c.2.1 + 1, c.2.2)) }))

end Sys2Proof.Machine
end

