-- ==== Sys2Proof/Machine/Saffron.lean ====
section
/-! DEFINITION. Saffron's commands (R282 to R294): the host's writes, the messages between leader and members, the
deadlines. -/

namespace Sys2Proof.Machine

/-! ### The host (R283 to R286, R288, R290) -/

/-- CTL_REJ of a site. -/
def State.ctlRej (s : State) (x : Nat) : State := s.setF F.SAF_STAT_CTL_REJ x 1

/-- R288, R293: a RESOLVE or an OUTCOME (`fabric`) rules on a buffer in doubt. Where the two meet in one cycle and disagree,
OUTCOME acts and CTL_REJ is set. -/
def State.safRule (s : State) (x txid : Nat) (commit fabric : Bool) : State :=
  match (s.safOf x).dbt.find? (fun b => b.txid == txid && !b.resolved), (s.safOf x).ruled with
  | some b, _ =>
    (s.safResolve x txid commit).modSaf x (fun t => { t with ruled := some ⟨s.nowNs, txid, commit, fabric, b, s.safWas x⟩ })
  | none, some r =>
    if r.ns = s.nowNs ∧ r.txid = txid ∧ r.fabric ≠ fabric ∧ r.commit ≠ commit then
      if fabric then
        ((((s.safBack x r.was).modSaf x (fun t => { t with
          dbt := t.dbt.filter (fun b => b.txid != txid) ++ [r.buf],
          ruled := some { r with commit := commit, fabric := true } })).safDoubt x).safResolve x txid commit).ctlRej x
      else s.ctlRej x
    else s
  | none, none => s

/-- R283: the next TXID opens on every chip. -/
def State.safOpenNew (s : State) (x : Nat) : State :=
  let n := (s.safOf x).nextTx
  let s1 := (s.modSaf x (fun t => { t with opn := some { txid := n }, nextTx := (n + 1) % 65536 })).setF F.SAF_SWAP_MASK x 0
  (s1.sendMembers x (.opn n)).safShow x

/-- R283: OPEN on the leader, with no transaction open, allocates the next TXID and opens it on every chip. One refused while another is
open is remembered for a PREPARE of the same cycle (R293). -/
def execSafOpen (fn : Fn) (site : Fin 16) (s : State) : Res := s.hostOrder fn (fnIsSite fn site.val) R.SAF_CTL site.val 1 fun s =>
  let x := site.val
  if !s.fnSite fn x then ok s
  else if !s.isLeader x then ok (s.ctlRej x)
  else if (s.safOf x).opn.isSome then
    ok ((s.modSaf x (fun t => { t with openRej := some (s.nowNs, s.getF F.SAF_STAT_CTL_REJ x) })).ctlRej x)
  else ok (s.safOpenNew x)

/-- R284: a write to SAF_STGD stages (SAF_STGA, data), or sets STG_REJ. -/
def execSafStage (fn : Fn) (site : Fin 16) (data : Nat) (s : State) : Res := s.hostOrder fn (fnIsSite fn site.val) R.SAF_STGD site.val data fun s =>
  let x := site.val
  if !s.fnSite fn x then ok s
  else
    let addr := s.getF F.SAF_STGA_ADDR x
    let s1 := s.setF F.SAF_STGD_DATA x data
    match (s.safOf x).opn with
    | some b =>
      if s.stageable x addr && decide (b.writes.length < 1024) then
        ok ((s1.modSaf x (fun t => { t with
          opn := some { b with writes := b.writes ++ [(addr, data % 4294967296)] } })).safShow x)
      else ok (s1.setF F.SAF_STAT_STG_REJ x 1)
    | none => ok (s1.setF F.SAF_STAT_STG_REJ x 1)

/-- R293: an OPEN refused in this cycle acts after all once PREPARE has acted. -/
def State.openAfter (s : State) (x : Nat) : State :=
  match (s.safOf x).openRej with
  | some (n, old) =>
    if n = s.nowNs then ((s.modSaf x (fun t => { t with openRej := none })).setF F.SAF_STAT_CTL_REJ x old).safOpenNew x else s
  | none => s

/-- R283, R285, R290: PREPARE on the leader starts the open transaction, or queues it behind the running one; a transaction
queued before it is superseded. -/
def execSafPrepare (fn : Fn) (site : Fin 16) (s : State) : Res := s.hostOrder fn (fnIsSite fn site.val) R.SAF_CTL site.val 2 fun s =>
  let x := site.val
  if !s.fnSite fn x then ok s
  else
    match s.isLeader x, (s.safOf x).opn with
    | true, some b0 =>
      let b := s.leaveOpen x b0
      let tgt := s.getF F.SAF_TGT_F x
      let s1 := s.modSaf x (fun t => { t with opn := none })
      if (s.safOf x).run.isNone ∧ s.safLapsing x = false then ok (((s1.safBegin x tgt b).safShow x).openAfter x)
      else
        let s2 := match (s.safOf x).que with
          | some q => (s1.modSaf x (fun t => { t with que := none })).safEnd x q.txid 6 0 0
          | none => s1
        ok (((s2.modSaf x (fun t => { t with que := some b, leadQue := some (b.txid, tgt) })).safShow x).openAfter x)
    | _, _ => ok (s.ctlRej x)

/-- R286, R294: ABORT on the leader ends the open, queued and running transactions that are not committed. One committed in this very
cycle is not (R293). -/
def execSafAbort (fn : Fn) (site : Fin 16) (s : State) : Res := s.hostOrder fn (fnIsSite fn site.val) R.SAF_CTL site.val 4 fun s =>
  let x := site.val
  if !s.fnSite fn x then ok s
  else if !s.isLeader x then ok (s.ctlRej x)
  else
    let s1 := match (s.safOf x).opn with
      | some b => (s.modSaf x (fun t => { t with opn := none })).safEnd x b.txid 5 0 0
      | none => s
    let s2 := match (s1.safOf x).que with
      | some b => (s1.modSaf x (fun t => { t with que := none, leadQue := none })).safEnd x b.txid 5 0 0
      | none => s1
    let s3 := match (s2.safOf x).lead with
      | some l => if !l.decided then s2.safAbortRun x 5 0 0 else if l.ns = s.nowNs then s2.safRecall x l else s2
      | none => s2
    ok (s3.safShow x)

/-- R288, R294: RESOLVE commit acts in INDOUBT with a matching TXID. -/
def execSafResolveCommit (fn : Fn) (site : Fin 16) (txid : Nat) (s : State) : Res := s.hostOrder fn (fnIsSite fn site.val) R.SAF_RESOLVE site.val (1 + txid * 65536) fun s =>
  let x := site.val
  if s.fnSite fn x then ok ((s.setF F.SAF_RESOLVE_TXID x txid).safRule x (txid % 65536) true false) else ok s

/-- R288, R294: RESOLVE abort. -/
def execSafResolveAbort (fn : Fn) (site : Fin 16) (txid : Nat) (s : State) : Res := s.hostOrder fn (fnIsSite fn site.val) R.SAF_RESOLVE site.val (2 + txid * 65536) fun s =>
  let x := site.val
  if s.fnSite fn x then ok ((s.setF F.SAF_RESOLVE_TXID x txid).safRule x (txid % 65536) false false) else ok s

/-! ### Messages (R282, R313) -/

/-- R282, R313, R334: a message of a site acts only where the site is hosted; with another epoch it is dropped and NACKed
STALE; one that meets a RESET of the same cycle is NACKed CONFLICT. -/
def State.safMsg (s : State) (x epoch frm txid : Nat) (prep : Bool) (act : State → State) : Res :=
  if !s.present x then ok s
  else if epoch = s.epochNow x then
    s.order x ⟨s.nowNs, 2, 1, R.SAF_CTL.addr x, 4294967296 + txid, frm⟩ (fun s => ok (act s)) (fun s => ok (s.sendSite x frm .nackConflict))
  else ok (s.sendSite x frm (.nackStale txid prep))

/-- R283, R290: a member opens an empty buffer; an earlier open one becomes the queued one, and one queued before that is
discarded as superseded. -/
def execOpenReceive (site : Fin 16) (epoch txid : Nat) (s : State) : Res :=
  let x := site.val
  s.safMsg x epoch (s.leader x) txid false (fun s =>
    if s.isLeader x then s else
      let s2 := match (s.safOf x).opn with
        | some b =>
          let b1 := s.leaveOpen x b
          let s1 := match (s.safOf x).que with
            | some q => s.safDrop x q.txid 6
            | none => s
          s1.modSaf x (fun t => { t with que := some b1 })
        | none => s
      ((s2.modSaf x (fun t => { t with opn := some { txid := txid } })).setF F.SAF_SWAP_MASK x 0).safShow x)

/-- The buffer that a PREPARE names: the open one, with its swap mask, or the queued one. -/
def State.prepBuf (s : State) (x txid : Nat) : Option SafBuf :=
  ((s.safOf x).opn.toList.map (fun b => s.leaveOpen x b) ++ (s.safOf x).que.toList).find? (fun b => b.txid == txid)

/-- R285: a member freezes its buffer and votes: NO with the first reason that applies, else YES. A buffer that ran and was
never prepared makes way for it (R287); a prepared one without an outcome stays beside it (R285). -/
def execPrepareReceive (site : Fin 16) (epoch txid beat : Nat) (s : State) : Res :=
  let x := site.val
  s.safMsg x epoch (s.leader x) txid true (fun s =>
    if s.isLeader x then s else
      match s.prepBuf x txid with
      | none => s.sendSite x (s.leader x) (.vote txid 6)
      | some b =>
        let go := fun (s : State) =>
          let v := s.voteOn x b
          let out := fun (o : Option SafBuf) => match o with
            | some q => if q.txid = txid then none else some q
            | none => none
          let s1 := s.modSaf x (fun t => { t with
            opn := out t.opn, que := out t.que, run := some { b with frozen := true, prepared := v == 0, target := beat } })
          (s1.sendSite x (s.leader x) (.vote txid v)).safShow x
        match (s.safOf x).run with
        | none => go s
        | some r =>
          if r.prepared then go (s.modSaf x (fun t => { t with run := none, prior := t.prior ++ [r] })) else go (s.safDrop x r.txid 4))

/-- R286: a vote reaches the leader. -/
def execVoteReceive (site : Fin 16) (epoch txid chip reason : Nat) (s : State) : Res :=
  let x := site.val
  s.safMsg x epoch chip txid false (fun s =>
    match (s.safOf x).lead with
    | some l =>
      if s.isLeader x && l.txid == txid && (s.peersOf x).contains chip then ((s.safVote x chip (reason % 8)).safNext x).safShow x
      else s
    | none =>
      if s.isLeader x && (s.peersOf x).contains chip then (s.safRevive x txid chip (reason % 8)).safShow x else s)

/-- R286: L(F) with votes incomplete: DEFER, or after a deferral ABORT. Before L of the target it has no effect. -/
def execDecisionDeadline (site : Fin 16) (s : State) : Res :=
  let x := site.val
  match (s.safOf x).lead with
  | some l =>
    let due := match (s.safOf x).run.bind (fun b => s.lNs x l.beat b) with | some n => decide (n ≤ s.nowNs) | none => true
    if l.decided || !due then ok s
    else if l.deferred then ok ((s.safLapse x).safShow x)
    else ok ((s.safDefer x l).safShow x)
  | none => ok s

/-- R287: DEFER moves a prepared member's target. -/
def execDeferReceive (site : Fin 16) (epoch txid beat : Nat) (s : State) : Res :=
  let x := site.val
  s.safMsg x epoch (s.leader x) txid false (fun s =>
    match (s.safOf x).begunOf txid with
    | some b =>
      if !s.isLeader x && b.prepared && !b.held then
        (s.modSaf x (fun t => t.modBegun txid (fun b => { b with target := beat, deferred := true }))).safShow x
      else s
    | none => s)

/-- R287, R288: COMMIT fixes the gap of a prepared member; late, it is an OUTCOME COMMITTED. -/
def execCommitReceive (site : Fin 16) (epoch txid beat : Nat) (s : State) : Res :=
  let x := site.val
  s.safMsg x epoch (s.leader x) txid false (fun s =>
    if s.isLeader x then s else
      match (s.safOf x).begunOf txid with
      | some b =>
        if b.prepared && !b.held then
          (s.modSaf x (fun t => t.modBegun txid (fun b => { b with
            held := true, deferred := b.deferred || b.target != beat, target := beat }))).safShow x
        else s
      | none => s.safRule x txid true true)

/-- R287, R290, R292: ABORT discards the member's buffer in whatever slot it is; late, it is an OUTCOME ABORTED. -/
def execAbortReceive (site : Fin 16) (epoch txid outcome : Nat) (s : State) : Res :=
  let x := site.val
  s.safMsg x epoch (s.leader x) txid false (fun s =>
    if s.isLeader x then s
    else if (s.safOf x).dbt.any (fun b => b.txid == txid) then s.safRule x txid false true
    else
      match (s.safOf x).buf txid with
      | some b => if b.held then s else (s.safDrop x txid (outcome % 16)).safShow x
      | none => s)

/-! ### In doubt (R287, R288) -/

/-- R287: the participant deadline of a begun buffer: X of its target; for one that never voted YES, X(F + 1). -/
def State.deadline (s : State) (x : Nat) (b : SafBuf) : Option Int :=
  s.xNs x (if b.prepared || b.deferred then b.target else (b.target + 1) % 4294967296) b

/-- R287: a message that arrives at the deadline instant is in time: one of this cycle that settles or defers transaction `b`. -/
def State.settledNow (s : State) (x : Nat) (b : SafBuf) : Bool :=
  let now := fun (site : Fin 16) epoch txid => site.val == x && epoch == s.epochNow x && txid == b.txid
  s.cycleRest.any (fun i => match i with
    | .commitReceive site epoch txid _ => b.prepared && now site epoch txid
    | .abortReceive site epoch txid _ => now site epoch txid
    | .deferReceive site epoch txid _ => b.prepared && !b.deferred && now site epoch txid
    | _ => false)

/-- R287: is a begun buffer due at its deadline, with no outcome held nor one arriving in this cycle? -/
def State.expired (s : State) (x : Nat) (b : SafBuf) : Bool :=
  !b.held && (match s.deadline x b with | some n => decide (n ≤ s.nowNs) | none => true) && !s.settledNow x b

/-- R287, R292: X of the target: a prepared member without an outcome enters INDOUBT; one that never voted YES discards, also where
no PREPARE came: then the queued buffer goes, or the open one where none is queued (log entry 53). -/
def execParticipantDeadline (site : Fin 16) (s : State) : Res :=
  let x := site.val
  let t := s.safOf x
  if s.isLeader x then ok s
  else match t.begun.find? (fun b => s.expired x b) with
    | some b =>
      if b.prepared then
        let s1 := s.modSaf x (fun t => { t.endBegun b.txid with dbt := t.dbt ++ [b] })
        ok (((s1.safDoubt x).raiseVf x 13).safShow x)
      else ok ((s.safDrop x b.txid 4).safShow x)
    | none =>
      match t.begun, t.que, t.opn with
      | [], some b, _ => ok ((s.safDrop x b.txid 4).safShow x)
      | [], none, some b => ok ((s.safDrop x b.txid 4).safShow x)
      | _, _, _ => ok s

/-- R288: QUERY to the leader, while it is in the peer table, for each buffer whose outcome is not known. -/
def execQuerySend (site : Fin 16) (s : State) : Res :=
  let x := site.val
  if (s.peer (s.leader x)).isSome then
    ok (((s.safOf x).dbt.filter (fun b => !b.resolved)).foldl (fun a b => a.sendSite x (s.leader x) (.query b.txid)) s)
  else ok s

/-- R282, R288: the leader answers from its record of the last eight outcomes; it knows no other. -/
def execQueryReceive (site : Fin 16) (epoch txid chip : Nat) (s : State) : Res :=
  let x := site.val
  s.safMsg x epoch chip txid false (fun s =>
    if s.isLeader x && (s.peersOf x).contains chip then
      match (s.safOf x).last.find? (fun p => p.1 == txid) with
      | some p => s.sendSite x chip (.outcome txid (if p.2.1 then .committed else .aborted) p.2.2)
      | none => s.sendSite x chip (.outcome txid .unknown 0)
    else s)

/-- R288: an OUTCOME resolves the buffer in doubt; UNKNOWN changes nothing. COMMITTED fixes the first gap still in time,
not the beat it names. -/
def execOutcomeReceive (site : Fin 16) (epoch txid : Nat) (verdict : Verdict) (_beat : Nat) (s : State) : Res :=
  let x := site.val
  s.safMsg x epoch (s.leader x) txid false (fun s =>
    match verdict with
    | .committed => s.safRule x txid true true
    | .aborted => s.safRule x txid false true
    | .unknown => s)

/-- R282, R285, R313: a NACK STALE is counted for the site; for a PREPARE it is a NO vote with reason 5. -/
def execNackStaleReceive (site : Fin 16) (chip txid : Nat) (ofPrepare : Bool) (s : State) : Res :=
  let x := site.val
  let s1 := s.incF F.FAB_SSTALE_CNT x
  match (s.safOf x).lead with
  | some l => if ofPrepare && l.txid == txid then ok (((s1.safVote x chip 5).safNext x).safShow x) else ok s1
  | none => ok s1

end Sys2Proof.Machine
end

