-- ==== Sys2Proof/Machine/Fabric.lean ====
section
/-! DEFINITION. The fabric's commands: FLASH words, cells and links, training and discovery, sleep and wake (R295 to R319). -/

namespace Sys2Proof.Machine

/-! ### FLASH words (R299 to R302) -/

/-- Bitwise majority of three words. -/
def majority (a b c : Nat) : Nat := (a &&& b) ||| (a &&& c) ||| (b &&& c)

/-- R301: what three copies say: the majority of three, or the value of two that agree. -/
def copiesVote (c : Copies) : Option Nat :=
  match c.c1, c.c2, c.c3 with
  | some a, some b, some d => some (majority a b d)
  | some a, some b, none => if a = b then some a else none
  | some a, none, some b => if a = b then some a else none
  | none, some a, some b => if a = b then some a else none
  | _, _, _ => none

/-- Does a copy that came on `port` need a sleeping port (R316)? A SYS word from another shelf starts a shelf tree. -/
def State.forwardSleeps (s : State) (port w : Nat) : Bool :=
  s.linksAsleep (if bits w 2 0 == 4 && decide (5 ≤ port) && decide (port ≤ 8) then [0, 1, 2, 3, 4]
    else [0, 1, 2, 3, 4].filter (fun k => hasBit (bits w 31 27) k))

/-- R300, R301: every copy goes on as it arrives. -/
def State.forwardCopies (s : State) (port : Nat) (c : Copies) : State :=
  let l := c.c1.toList ++ c.c2.toList ++ c.c3.toList
  let s1 := l.foldl (fun a w => a.flashForward port (w % 4294967296)) s
  if l.any (s.forwardSleeps port) then s1.wakeRequest else s1

/-- R298: is a port still before the end of a block that a code violation spoiled? -/
def State.blockLost (s : State) (k : Nat) : Bool := decide (s.now < (s.portOf k).lostTill)

/-- R301, R302: a FLASH word on a port: its copies go on, and the chip acts on the voted word when its FTYPE is as the
command says. A word without a verdict is counted. Copies in a spoiled block are lost (R298). -/
def State.flashArrive (s : State) (port : Nat) (c : Copies) (ftype : Nat → Bool) (act : State → Nat → State) : State :=
  if s.portState port != 2 || s.blockLost port then s
  else
    let s1 := s.forwardCopies port c
    match copiesVote c with
    | none => s1.incF F.FAB_PFLERR_CNT port
    | some w => if ftype (bits w 2 0) then act s1 (w % 4294967296) else s1

/-- R302: a word of a site acts where the site is hosted and EPL matches; another EPL is counted. -/
def State.flashSite (s : State) (w : Nat) (act : State → Nat → State) : State :=
  match s.siteBySsn (bits w 15 3) with
  | some x => if s.epochNow x % 16 = bits w 26 23 then act s x else s.incF F.FAB_FLSTALE_CNT 0
  | none => s

/-- R94, R302: CODE: the FLASH condition group of the site's engines. -/
def execFlashCode (port : Fin 12) (copies : Copies) (s : State) : Res :=
  ok (s.flashArrive port.val copies (fun t => t == 0) (fun a w => a.flashSite w (fun b x => b.flashShow x (bits w 19 16))))

/-- R302: the match state of chip `src` for a tag: ARMED opens it, PASS and FAIL follow one that is open for that tag. Those of a chip's
three tags before it stand beside it; older ones go, since TAG counts modulo 8. -/
def matchWord (l : List (Nat × Nat × Nat)) (src tag st : Nat) : List (Nat × Nat × Nat) :=
  if st = 0 then l.filter (fun p => p.1 != src || (p.2.1 != tag && decide ((tag + 8 - p.2.1) % 8 < 4))) ++ [(src, tag, 0)]
  else if st ≤ 2 then l.map (fun p => if p.1 = src ∧ p.2.1 = tag then (src, tag, st) else p)
  else l

/-- R302: MATCH: the site match. -/
def execFlashMatch (port : Fin 12) (copies : Copies) (src : Nat) (s : State) : Res :=
  ok (s.flashArrive port.val copies (fun t => t == 1) (fun a w => a.flashSite w (fun b x =>
    b.modSite x (fun t => { t with chipMatch := matchWord t.chipMatch src (bits w 22 20) (bits w 17 16) }))))

/-- R129, R302: ABORT: FAB in every engine that runs a burst of the site. -/
def execFlashAbort (port : Fin 12) (copies : Copies) (s : State) : Res :=
  ok (s.flashArrive port.val copies (fun t => t == 2) (fun a w => a.flashSite w (fun b x =>
    engines.foldl (fun c e => if (c.engOf e).site = x then c.setF F.SE_EXCB_PFAB e 1 else c) b)))

/-- R391: FAULT: REMOTE in Sumac; the site's pins follow with the safe-state signal (R48). -/
def execFlashFault (port : Fin 12) (copies : Copies) (s : State) : Res :=
  ok (s.flashArrive port.val copies (fun t => t == 3) (fun a w => a.flashSite w (fun b x => b.sourceOn x 8)))

/-- R316: CANCEL: a sleep voted or scheduled for later is abandoned; in the cycle of T it is kept as a wake (R318). -/
def State.cancelReceived (s : State) : State :=
  let st := s.getF F.FAB_SLPSTAT_STATE 0
  let drop := s.giveUpSleep
  if st = 1 then drop
  else if st = 2 then
    match s.fab.sleepAt with
    | some t => if s.nowNs < t then drop else s.holdWake
    | none => drop
  else if st = 3 ∧ s.getF F.FAB_SLPT_NS 0 = s.nowNs % 4294967296 then s.wakeTones
  else s

/-- R302, R316: SYS: the code and PF0 event 0; code 15 is CANCEL. -/
def execFlashSys (port : Fin 12) (copies : Copies) (s : State) : Res :=
  ok (s.flashArrive port.val copies (fun t => t == 4) (fun a w =>
    if bits w 19 16 = 15 then a.cancelReceived else (a.setF F.FAB_SYSRX_CODE 0 (bits w 19 16)).raisePf 0))

/-- R302: FTYPE 5 to 7: the word goes on, and nothing else happens. -/
def execFlashReservedFtype (port : Fin 12) (copies : Copies) (s : State) : Res :=
  ok (s.flashArrive port.val copies (fun t => decide (5 ≤ t)) (fun a _ => a))

/-- R302, R319: SEND with a code of 1 to 14. -/
def execSysFlashSend (fn : Fn) (code : Nat) (s : State) : Res :=
  if fn = .pf0 then
    let c := code % 16
    let s1 := s.setF F.FAB_SYSFL_CODE 0 c
    if c = 0 ∨ c = 15 then ok s1
    else
      let s2 := s1.flashSystem (flashWord 4 0 c 0 0)
      ok (if s.treeAsleep then s2.wakeRequest else s2)
  else ok s

/-! ### Cells and links (R304 to R307) -/

/-- A cell in its place in the order of its stream: it is delivered, or has been dropped (its payload is gone: R313). -/
def State.inOrder (s : State) (w : List Nat) : State := if w.length < 16 then s else s.log (.delivered w)

/-- Cells held for order that follow number `n` of a stream (source and class), delivered one after another. -/
def State.releaseEarly (s : State) (key : Nat) : Nat → Nat → State
  | 0, n => { s with fab := { s.fab with rxEseq := Tbl.set (fun _ => 0) s.fab.rxEseq key n } }
  | f + 1, n =>
    match takeFirst (fun w => bits (w.getD 0 0) 25 17 * 4 + bits (w.getD 0 0) 1 0 == key && w.getD 2 0 / 4096 == n) s.fab.early with
    | some (w, rest) =>
      (({ s with fab := { s.fab with early := rest } } : State).inOrder w).releaseEarly key f ((n + 1) % 1048576)
    | none => { s with fab := { s.fab with rxEseq := Tbl.set (fun _ => 0) s.fab.rxEseq key n } }

/-- The stream of a cell (source and class) and its number there. -/
def cellKey (w : List Nat) : Nat × Nat := (bits (w.getD 0 0) 25 17 * 4 + bits (w.getD 0 0) 1 0, w.getD 2 0 / 4096)

/-- How far a cell's number is ahead of the next one due in its stream; none for one that has come before (R306). -/
def State.ahead (s : State) (w : List Nat) : Option Nat :=
  let d := ((cellKey w).2 + 1048576 - Tbl.get (fun _ => 0) s.fab.rxEseq (cellKey w).1 % 1048576) % 1048576
  if d < 524288 ∧ s.fab.early.all (fun v => cellKey v != cellKey w) then some d else none

/-- R306: a CTRL or DATA cell for this chip is delivered once and in ESEQ order for its source and class. -/
def State.deliver (s : State) (w : List Nat) : State :=
  match s.ahead w with
  | some 0 => (s.inOrder w).releaseEarly (cellKey w).1 s.fab.early.length (((cellKey w).2 + 1) % 1048576)
  | some _ => { s with fab := { s.fab with early := s.fab.early ++ [w] } }
  | none => s

/-- R304, R306, R313: a cell accepted on a link: passed on with one hop less, or delivered. A DATA cell of a hosted site with
another epoch is dropped and NACKed STALE, and its place in the order counts as taken; a CTRL message is judged by the command that
acts on it. -/
def State.cellAccepted (s : State) (w : List Nat) : State :=
  let w0 := w.getD 0 0
  let dst := bits w0 16 8
  let cls := bits w0 1 0
  let ttl := bits w0 29 26
  if dst ≠ s.chipNo then
    if ttl = 0 then s.incF F.FAB_TTLDROP_CNT 0
    else s.route { cls := cls, dst := dst, site := bits (w.getD 1 0) 12 0, epoch := bits (w.getD 1 0) 31 16,
                   eseq := w.getD 2 0 / 4096, vc := hasBit w0 30, ttl := ttl - 1, msg := none, words := w }
  else if cls = 2 then s.log (.delivered w)
  else if cls = 1 then
    match s.siteBySsn (bits (w.getD 1 0) 12 0) with
    | some x =>
      if s.epochNow x = bits (w.getD 1 0) 31 16 then s.deliver w
      else if (s.ahead w).isSome then (s.deliver (w.take 3)).sendSite x (bits w0 25 17) (.nackStale 0 false)
      else s
    | none => s.deliver w
  else if cls = 0 then s.deliver w
  else s

/-- R305: a cell on a link: the next expected one with a good check is acknowledged and accepted; for any other the link
sends one negative acknowledgement and discards until the expected one comes. In a spoiled block a cell fails its check (R298). -/
def execCellReceive (port : Fin 12) (words : List Nat) (s : State) : Res :=
  let k := port.val
  let p := s.portOf k
  let n := bits (words.getD 2 0) 11 0
  if s.portState k ≠ 2 then ok s
  else if !s.blockLost k && cellOk words && n == p.rxSeq then
    let s1 := (s.modPort k (fun q => { q with rxSeq := (n + 1) % 4096, nacking := false })).sendLink k true n
    ok (s1.cellAccepted words)
  else if p.nacking then ok s
  else ok ((s.modPort k (fun q => { q with nacking := true })).sendLink k false p.rxSeq)

/-- R305: the cells up to the acknowledged one leave the retry buffer; each that was resent counts as a transient error. -/
def execLinkAck (port : Fin 12) (lseq : Nat) (s : State) : Res :=
  let k := port.val
  let l := (s.portOf k).retry
  match l.findIdx? (fun r => r.1 == lseq) with
  | some i =>
    let n := ((l.take (i + 1)).filter (fun r => r.2.1 != 0)).length
    ok (((s.modPort k (fun p => { p with retry := p.retry.drop (i + 1) })).addF F.FAB_PTRANS_CNT k n).drainHeld k)
  | none => ok s

/-- R305: a negative acknowledgement. -/
def execLinkNack (port : Fin 12) (s : State) : Res :=
  ok (if s.portState port.val = 2 then s.resend port.val else s)

/-- R305: 200 ns without an acknowledgement. -/
def execRetryTimeout (port : Fin 12) (s : State) : Res :=
  ok (if s.portState port.val = 2 then s.resend port.val else s)

/-- R307: a credit comes back; a chip holds at most the two that its partner grants. One with another epoch is dropped and NACKed STALE
(R313). -/
def execCreditReturn (site : Fin 16) (chip : Sender) (s : State) : Res :=
  let x := site.val
  if !s.present x then ok s
  else if chip.epoch ≠ s.epochNow x then ok (s.sendSite x chip.chip (.nackStale 0 false))
  else ok (s.modSite x (fun t => { t with
    credits := Tbl.set (fun _ => 2) t.credits chip.chip (min 2 (Tbl.get (fun _ => 2) t.credits chip.chip + 1)) }))

/-! ### Training and discovery (R308 to R310) -/

/-- R308: a port in use starts a training attempt. -/
def execPortTrainStart (port : Fin 12) (s : State) : Res :=
  let k := port.val
  let st := s.portState k
  ok (if s.flag F.FAB_PCTL_EN k && st != 1 && st != 5 then s.startTraining k else s)

/-- R308: RETRAIN, written by PF0. -/
def execRetrain (fn : Fn) (port : Fin 12) (s : State) : Res :=
  let k := port.val
  let st := s.portState k
  ok (if fn = .pf0 && s.flag F.FAB_PCTL_EN k && st != 1 && st != 5 then s.startTraining k else s)

/-- R310: HELLO leaves on a port that has just trained. A port of the board's wiring knows its partner's number; on an
alternate it is not known, and the destination and its number there are free values (log entry 9). -/
def State.sendHello (s : State) (k : Nat) : State :=
  let m := Msg.hello s.chipNo s.fab.digest (s.flag F.FAB_ID_TROOT 0) (s.getF F.FAB_TOPOVER_VER 0)
  if k ≤ 8 then (s.cellMade 0 (s.neighbour k)).cellOn k (s.makeCell 0 (s.neighbour k) 0 0 m)
  else
    let c := s.drawn.makeCell 0 (s.anyVal % 512) 0 0 m
    s.drawn.drawn.drawn.cellOn k { c with eseq := s.drawn.drawn.anyVal % 1048576 }

/-- R310, R318: the ports whose partner has the chip number that a HELLO names and another identity digest. -/
def State.rivals (s : State) (k chip digest : Nat) : List Nat :=
  (List.range 12).filter (fun j => j != k && s.portState j == 2 &&
    (match (s.portOf j).hello with | some h => h.1 == chip && h.2.1 != digest | none => false))

/-- A port with a partner of a duplicate number: DUPID, DOWN, no traffic (R310). -/
def State.dupPort (s : State) (k : Nat) : State := (s.setFs k [(F.FAB_PSTAT_DUPID, 1), (F.FAB_PSTAT_STATE, 0)]).linkDown k

/-- R309, R23: a port is retired: PF0 event 2 and an entry of the fault log; a parent on it is lost (R278). -/
def State.retirePort (s : State) (k : Nat) : State :=
  let s1 := ((s.setF F.FAB_PSTAT_STATE k 5).raisePf 2).faultLog 4 k
  let s2 := if s.time.parent = some k ∧ !s.flag F.TBS_STAT_ROOT 0 then s1.parentLost else s1
  s2.topology

/-- R308 to R310: a training attempt ends: the port is UP with its measured flight and sends HELLO, or tries again, or is
retired after three failures in a row. -/
def execPortTrainDone (port : Fin 12) (ok : Bool) (flight : Nat) (s : State) : Res :=
  let k := port.val
  if s.portState k ≠ 1 then Sys2Proof.Machine.ok s
  else if ok then
    let s1 := s.setFs k [(F.FAB_PSTAT_STATE, 2), (F.FAB_PSTAT_FLIGHT, flight)]
    Sys2Proof.Machine.ok ((s1.modPort k (fun p => { p with fails := 0, txSeq := 0, rxSeq := 0, nacking := false })).sendHello k)
  else
    let n := (s.portOf k).fails + 1
    let s1 := s.modPort k (fun p => { p with fails := n })
    Sys2Proof.Machine.ok (if 3 ≤ n then s1.retirePort k else s1.startTraining k)

/-- R310: the partner's HELLO: it is admitted unless its number is this chip's or is held in the peer table by another chip
(one with another identity digest: log entry 12). Of two with one number in the same cycle neither is admitted (R318). -/
def execHelloReceive (port : Fin 12) (chip digest : Nat) (troot : Bool) (s : State) : Res :=
  let k := port.val
  if s.portState k ≠ 2 then ok s
  else if chip = s.chipNo ∨ ((s.peer chip).isSome ∧
      (s.fab.links.any (fun e => e.a == chip && e.up && e.digest != digest) || !(s.rivals k chip digest).isEmpty)) then
    ok (((s.rivals k chip digest).filter (fun j => match (s.portOf j).hello with | some h => h.2.2 == s.nowNs | none => false)).foldl
      (fun a j => a.dupPort j) (s.dupPort k))
  else
    let s1 := (s.setFs k [(F.FAB_PSTAT_FAR, chip), (F.FAB_PSTAT_FARV, 1)]).modPort k (fun p => { p with hello := some (chip, digest, s.nowNs) })
    let s2 : State := if troot then { s1 with fab := { s1.fab with root := some chip } } else s1
    let l := s2.ownLink k true
    ok (((s2.putLink l).flood l).topology.drainHeld k)

/-- R310: a link-state change that is news goes on to the neighbours, and the table follows. This chip knows its own ports
best. -/
def execLinkStateReceive (link : LinkState) (s : State) : Res :=
  if link.a = s.chipNo || s.fab.links.contains link then ok s
  else
    let s1 : State := if link.root then { s with fab := { s.fab with root := some link.a } } else s
    ok (((s1.putLink link).flood link).topology)

/-- R317: after a T that this chip has given up, or while the shelf may have slept on votes without it, a port of the shelf that fell silent
is taken for one whose partner is in the deep state (log entry 56). -/
def State.partnerDeep (s : State) (k : Nat) : Bool :=
  sleepPorts.contains k && (s.getF F.FAB_SLPSTAT_STATE 0 == 1 ||
    (s.getF F.FAB_SLPSTAT_STATE 0 == 0 && (match s.fab.gaveUp with | some t => decide (t ≤ s.nowNs) | none => false)))

/-- R310, R317: a port that receives no valid word for 2 µs is DOWN; to a partner found in the deep state goes the wake tone. -/
def execPortDown (port : Fin 12) (s : State) : Res :=
  let k := port.val
  ok (if s.portState k = 2 then
    let s1 := (s.setF F.FAB_PSTAT_STATE k 0).linkDown k
    if s.partnerDeep k then s1.log (.wakeTone k) else s1
  else s)

/-- R296, R298: the line bits that a port has received since a comma show a code violation: it is counted, and the words of the block up to
the next comma are lost, 34 bits of 31.25 ps each. Bits that show none change nothing. -/
def execCodeViolation (p : PortLine) (s : State) : Res :=
  let k := p.port.val
  let r := readBlock p.line
  ok (if r.2 then
    (s.incF F.FAB_PCV_CNT k).modPort k (fun q => { q with lostTill := s.now + Time.ofQ ((blockWords - r.1.length) * 8500) })
  else s)

/-! ### Sleep and wake (R314 to R317) -/

/-- R315: the root holds a vote; with one from every chip of the shelf it sends SLEEP-AT and sleeps with them. -/
def State.countVote (s : State) (chip : Nat) : State :=
  let v := if s.fab.votes.contains chip then s.fab.votes else chip :: s.fab.votes
  ({ s with fab := { s.fab with votes := v } } : State).tallyVotes

/-- R315: the chip's sleep vote goes to the shelf root. -/
def State.castVote (s : State) : State :=
  let s1 := s.setF F.FAB_SLPSTAT_STATE 0 1
  if s.shelfRoot = s.chipNo then s1.countVote s.chipNo else s1.send 0 s.shelfRoot .sleepVote

/-- R318: does a gap of this cycle start the beats of a site? -/
def State.startsNow (s : State) : Bool := sites.any (fun x => s.startsBeats x)

/-- R315: VOTE; refused while a site of the chip runs beats. A chip that has voted, or sleeps, casts no second vote. -/
def execSleepVote (fn : Fn) (s : State) : Res :=
  if fn = .pf0 then
    if s.anyRun || s.startsNow then ok (s.setF F.FAB_SLPSTAT_CTL_REJ 0 1)
    else if s.getF F.FAB_SLPSTAT_STATE 0 = 0 then ok s.castVote else ok s
  else ok s

/-- R315: a vote reaches the root; on another chip it is void. -/
def execSleepVoteReceive (chip : Nat) (s : State) : Res :=
  ok (if s.shelfRoot = s.chipNo && s.shelfChips.contains chip then s.countVote chip else s)

/-- R315, R317: SLEEP-AT; T is judged by the half-window rule. -/
def execSleepAtReceive (tm : Nat) (s : State) : Res :=
  if s.getF F.FAB_SLPSTAT_STATE 0 = 3 then ok s
  else ok (s.scheduleSleep ((s.nowNs : Int) + halfWindow s.now tm).toNat)

/-- R316: at C a wake request held from before C cancels the sleep; a later one is kept. -/
def execSleepCancelInstant (s : State) : Res :=
  match s.fab.sleepAt, s.fab.wake with
  | some t, some w => ok (if s.getF F.FAB_SLPSTAT_STATE 0 = 2 ∧ w + 48 < t then s.cancelSleep else s)
  | _, _ => ok s

/-- R316: T of a scheduled sleep. -/
def execSleepEnter (s : State) : Res := ok (if s.getF F.FAB_SLPSTAT_STATE 0 = 2 then s.enterSleep else s)

/-- R316: WAKE, written by PF0. -/
def execFabWake (fn : Fn) (s : State) : Res := ok (if fn = .pf0 then s.wakeRequest else s)

/-- R314, R316: a wake tone on a sleeping port: the port leaves the deep state and the tone goes on. -/
def execWakeToneDetect (port : Fin 12) (s : State) : Res :=
  let k := port.val
  ok (if s.portState k = 3 then (s.setF F.FAB_PSTAT_STATE k 4).wakeTones else s)

/-- R314, R316, R317: a port is UP again: held cells go out, a timebase whose parent slept is in ACQ, and with the last port
the chip is awake. -/
def execDeepStateExitDone (port : Fin 12) (s : State) : Res :=
  let k := port.val
  if s.portState k = 4 then
    let s1 := (s.setF F.FAB_PSTAT_STATE k 2).drainHeld k
    let s2 := if s.time.parent = some k ∧ s.getF F.TBS_STAT_STATE 0 ≠ 0 then s1.enterAcq else s1
    ok s2.awakeCheck
  else ok s

end Sys2Proof.Machine
end

