-- ==== Sys2Proof/Machine/Fault.lean ====
section
/-! DEFINITION. Sumac's sources, recovery counts, wires, FLT_IN and the interlock (R386 to R402). -/

namespace Sys2Proof.Machine

/-- The scope and bit of a source (R387). -/
def srcAt (f : FaultSrc) : Nat × Nat :=
  match f with
  | .site x b => (x.val, b.val)
  | .chip b => (16, b.val)

/-- R397: the two copies of Sumac disagree: the chip is in safe state until reset, and Nutmeg keeps a record. -/
def State.selfFail (s : State) : State :=
  let s1 := s.sourceOn 16 6
  { s1 with nutmeg := { s1.nutmeg with selfRec := true } }

/-- R386, R387: a source becomes active. -/
def execFaultSourceActive (src : FaultSrc) (s : State) : Res :=
  match src with
  | .site x b => ok (s.siteFault x.val b.val)
  | .chip b => ok (if b.val = 6 then s.selfFail else s.sourceOn 16 b.val)

/-- R397. -/
def execSelfFault (s : State) : Res := ok s.selfFail

/-- R387: is the clearing condition of a held source met? THERM's is outside the model; RLOST, REMOTE and SELF have events of
their own, or none. -/
def State.srcClears (s : State) (k b : Nat) : Bool :=
  if k = 16 then
    match b with
    | 0 => !s.flag F.CLK_CORESTAT_BYP 0
    | 1 => !s.flag F.CLK_TBSTAT_BYP 0
    | 2 => !s.flag F.FLT_CFG_FLTINEN 0 || (s.sumac.fltP && !s.sumac.fltN)
    | 3 => s.flag F.FLT_ILK_ACL 0 && s.flag F.FLT_ILK_BCL 0 && !s.flag F.FLT_ILK_DISCREP 0
    | 4 => true
    | 5 => s.getF F.GLB_BOOTSTAT_PHASE 0 == 8
    | _ => false
  else
    match b with
    | 4 => false
    | 5 => (s.safOf k).dbt.isEmpty
    | 7 => (s.siteOf k).resetting == 0
    | 8 => false
    | 12 => !s.siteUnclk k
    | _ => true

/-- R386, R394: a wire fault ends, or a held source whose clearing condition is met becomes inactive. SELF ends by a reset only (R397). -/
def execFaultSourceClear (src : FaultSrc) (s : State) : Res :=
  let k := (srcAt src).1
  let b := (srcAt src).2
  if s.wired k b && !(k == 16 && b == 6) then
    let under := s.sumac.wires.any (fun w => w == (k, b, true))
    let s1 : State := { s with sumac := { s.sumac with wires := s.sumac.wires.filter (fun w => !(w.1 == k && w.2.1 == b)) } }
    ok (if under then s1 else s1.sourceOff k b)
  else ok (if s.srcClears k b then s.sourceOff k b else s)

/-- R386: two samples with equal wires: the source counts as active, and is recorded. -/
def execWireFault (src : FaultSrc) (s : State) : Res :=
  let k := (srcAt src).1
  let b := (srcAt src).2
  if s.wired k b then ok s
  else
    let was := hasBit (s.srcs k) b
    let s1 := (s.setFs 0 [(F.FLT_STAT_WIREF, 1), (F.FLT_WIRE_SRC, b), (F.FLT_WIRE_CHIPSRC, if k = 16 then 1 else 0),
      (F.FLT_WIRE_SITE, if k = 16 then 0 else k)]).satF F.FLT_WIRE_CNT 0 1
    let s2 := if b = 6 ∧ k = 16 then s1.selfFail else s1.sourceOn k b
    ok { s2 with sumac := { s2.sumac with wires := (k, b, was) :: s2.sumac.wires } }

/-- A scope becomes LATCHED, which the fault log records (R395, R428). -/
def State.latch (s : State) (k : Nat) : State := ((s.setF F.FLT_SSRC_LATCHED k 1).sumacShow).faultLog 1 k

/-- R426, R434: the bookkeeping of a change of a count that is now due: the instant since which one waits. -/
def State.changeDue (s : State) : SumacSt :=
  if s.sumac.storing = 0 ∧ s.sumac.clearing = 0 then { s.sumac with dueNs := s.nowNs } else s.sumac

/-- R395: how far RCNT stands above RBASE; a CLEAR that is being written counts as made. -/
def State.recUsed (s : State) (k : Nat) : Nat :=
  (s.getF F.FLT_RCNT_RCNT k + 4294967296 -
    (if hasBit s.sumac.clearing k then Tbl.get (fun _ => 0) s.sumac.newBase k else s.getF F.FLT_RBASE_RBASE k)) % 4294967296

/-- R402: has the RESET of a site, in this cycle, stopped its quiet period? -/
def State.resetCut (s : State) (k : Nat) : Bool :=
  k != 16 && hasBit (s.srcs k) 7 && s.justOn k && Tbl.get (fun _ => 0) s.sumac.cutNs k == s.nowNs + 1

/-- R395, R402: the quiet period of a scope ends: its increment is due in NVM, or the scope is LATCHED, a site also where its RESET came in this
cycle. One that is LATCHED stays so. -/
def execQuietEnd (k : Fin 17) (s : State) : Res :=
  let q := k.val
  if s.flag F.FLT_SSRC_QUIETING q && s.flag F.FLT_SSRC_LATCHED q then ok (s.setF F.FLT_SSRC_QUIETING q 0).sumacShow
  else if s.flag F.FLT_SSRC_QUIETING q then
    if s.recUsed q < s.getF F.FLT_RLIM_RLIM 0 then
      let s1 : State := { s with sumac := { s.changeDue with exiting := setBit s.sumac.exiting q, storing := setBit s.sumac.storing q } }
      ok (s1.setF F.FLT_SSRC_QUIETING q 0).sumacShow
    else ok ((s.setF F.FLT_SSRC_QUIETING q 0).latch q)
  else if s.resetCut q && !s.flag F.FLT_SSRC_LATCHED q && decide (s.getF F.FLT_RLIM_RLIM 0 ≤ s.recUsed q) then ok (s.latch q)
  else ok s

/-- The write of a change of a recovery count fails: its page with it, and the scope latches (R395). -/
def State.recFail (s : State) (q : Nat) : State :=
  (((s.intentCut (s.boot.recSeq + 1)).setF F.FLT_STAT_NVMFAIL 0 1).faultLog 5 q).latch q

/-- R395, R402, R426: both writes of a change are over: the increment stands and the scope exits, unless a source came; or RBASE is what the
CLEAR made it; a store that fails latches the scope. -/
def execRecoveryWriteDone (k : Fin 17) (okd : Bool) (s : State) : Res :=
  let q := k.val
  if hasBit s.sumac.storing q then
    let s1 : State := { s with sumac := { s.sumac with storing := clearBit s.sumac.storing q, exiting := clearBit s.sumac.exiting q } }
    ok (if okd then (s1.recChange q false (s.getF F.FLT_RCNT_RCNT q + 1)).sumacShow else s1.recFail q)
  else if hasBit s.sumac.clearing q then
    let s1 : State := { s with sumac := { s.sumac with clearing := clearBit s.sumac.clearing q } }
    ok (if okd then s1.recChange q true (Tbl.get (fun _ => 0) s.sumac.newBase q) else s1.recFail q)
  else ok s

/-- R395, R396, R402: CLEAR, of a site scope from the site's VF, of the chip scope from PF0: RBASE is RCNT once its change is made (R426), and
the scope leaves LATCHED. A pulse source of the same cycle keeps its quiet period. While one CLEAR is being written another does nothing
(R5). -/
def execFltClear (fn : Fn) (k : Fin 17) (s : State) : Res :=
  let q := k.val
  if (if q = 16 then fn == Fn.pf0 else s.fnSite fn q) && !hasBit s.sumac.clearing q then
    let s1 : State := { s with sumac := { s.changeDue with
      clearing := setBit s.sumac.clearing q, newBase := Tbl.set (fun _ => 0) s.sumac.newBase q (s.getF F.FLT_RCNT_RCNT q) } }
    ok (if s.flag F.FLT_SSRC_LATCHED q then
      ((if s.srcs q = 0 ∧ s.justOn q = false then s1.setF F.FLT_SSRC_QUIETING q 0 else s1).setF F.FLT_SSRC_LATCHED q 0).sumacShow
    else s1)
  else ok s

/-- R391: a site source other than REMOTE, or a chip source, is active on this chip. -/
def State.faultsOut (s : State) (x : Nat) : Bool := clearBit (s.srcs x) 8 != 0 || s.srcs 16 != 0

/-- R391: FAULT words are sent again. -/
def execFaultRepeat (s : State) : Res :=
  ok ((sites.filter (fun x => s.present x && s.faultsOut x)).foldl (fun a x => a.faultWord x) s)

/-- R387: no FAULT word for 200 µs. -/
def execRemoteExpire (site : Fin 16) (s : State) : Res := ok (s.sourceOff site.val 8)

/-- R393: FLTIN follows the pair as recognised, while it is enabled. -/
def State.fltinShow (s : State) : State :=
  if s.flag F.FLT_CFG_FLTINEN 0 && !(s.sumac.fltP && !s.sumac.fltN) then
    (if s.sumac.fltP == s.sumac.fltN then s.setF F.FLT_STAT_FLTIN_LINE 0 1 else s).sourceOn 16 2
  else s.sourceOff 16 2

/-- R393: a state of the FLT_IN pair is recognised. -/
def execFltinChange (p n : Bool) (s : State) : Res :=
  ok ({ s with sumac := { s.sumac with fltP := p, fltN := n } } : State).fltinShow

/-- R398, R400: an interlock input (false is ILK_A, true ILK_B) is recognised open. -/
def execIlkOpen (b : Bool) (s : State) : Res :=
  if (if b then s.sumac.openB else s.sumac.openA) then ok s
  else
    let a := !b || s.sumac.openA
    let c := b || s.sumac.openB
    let both := s.sumac.bothOpen || (a && c && s.flag F.FLT_ILK_DISCREP 0)
    let s1 : State := { s with sumac := { s.sumac with openA := a, openB := c, bothOpen := both, openNs := some (b, s.nowNs), wasBoth := s.sumac.bothOpen } }
    let s2 := (s1.setF (if b then F.FLT_ILK_BCL else F.FLT_ILK_ACL) 0 0).setF F.FLT_ILK_OPENED 0 1
    ok ((s2.satF F.FLT_ILKCNT_OPN 0 1).sourceOn 16 3)

/-- The end of a DISCREPANCY whose first half is over (R400). -/
def State.discrepOver (s : State) : State :=
  if s.sumac.bothOpen then ({ s with sumac := { s.sumac with bothOpen := false } } : State).setF F.FLT_ILK_DISCREP 0 0 else s

/-- R398, R400: an interlock input is recognised closed. Where the other opens in the same cycle, a DISCREPANCY that would clear does, and
ILK stays active for the open input (R402). -/
def execIlkClose (b : Bool) (s : State) : Res :=
  let s1 : State := { s with sumac := { s.sumac with openA := s.sumac.openA && b, openB := s.sumac.openB && !b } }
  let s2 := s1.setF (if b then F.FLT_ILK_BCL else F.FLT_ILK_ACL) 0 1
  if s2.flag F.FLT_ILK_ACL 0 && s2.flag F.FLT_ILK_BCL 0 then
    let s3 := s2.discrepOver
    ok (if s3.flag F.FLT_ILK_DISCREP 0 then s3 else s3.sourceOff 16 3)
  else if s2.sumac.openNs = some (!b, s.nowNs) ∧ s2.sumac.wasBoth = true then ok s2.discrepOver
  else ok s2

/-- R399, R400: a disagreement has lasted long enough to latch. -/
def execDiscrepancyLatch (s : State) : Res :=
  if s.flag F.FLT_ILK_ACL 0 != s.flag F.FLT_ILK_BCL 0 && (!s.flag F.FLT_ILK_DISCREP 0 || s.sumac.bothOpen) then
    let s1 : State := { s with sumac := { s.sumac with bothOpen := false } }
    ok (((s1.setF F.FLT_ILK_DISCREP 0 1).satF F.FLT_ILKCNT_DSC 0 1).sourceOn 16 3)
  else ok s

end Sys2Proof.Machine
end

