-- ==== Sys2Proof/Machine/Train.lean ====
section
/-! DEFINITION. The training store on SE15 (R352, R353), and the two commands that issue and resolve a word, of a burst or of a
training pass (R117). -/

namespace Sys2Proof.Machine

/-! ### Training words (R352) -/

/-- HOP, the helper operation of a training word. -/
def mHOP (w : Nat) : Nat := bits w 99 96
/-- HCH, the DRAM channel that it names. -/
def mHCH (w : Nat) : Nat := bits w 103 100
/-- HARG, its argument. -/
def mHARG (w : Nat) : Nat := bits w 127 104

/-- The training word at an address of the store of 1,024 words (R336). -/
def State.trainWord (s : State) (pc : Nat) : Nat := Tbl.get (fun _ => 0) s.tstore (pc % 1024)

/-- R87, R92, R93, R129, R352, R475: the cause and number of the TRAP that a training word raises at issue: RSVD for what R87 reserves in
any word, VOP, MODE or HOP; STKOVF or STKUND; EVT. Nothing is armed in a pass. -/
def trainTrap (w : Nat) (ds : Bool) (sp : Nat) : Option (Nat × Nat) :=
  if reservedWord w ds false false || mVOP w != 0 || mMODE w != 0 || decide (8 ≤ mHOP w) then some (1, 0)
  else if mBRK w == 3 && decide (8 ≤ sp) then some (2, 0)
  else if mBRK w == 4 && sp == 0 then some (3, 0)
  else if 8 ≤ mEVT w then some (0, mEVT w % 8)
  else none

/-- Change the pass in progress. -/
def State.modTrain (s : State) (f : TrainRun → TrainRun) : State :=
  { s with boot := { s.boot with pass := s.boot.pass.map f } }

/-- R352: what a helper command does, `sel` being the channel selected. What a read-back finds is the PHY's, and ATT is stated nowhere:
both are free values. HOP 3 leaves its pattern in the channel's training rows. In a retraining pass HOP 6 makes the channel one of those that NCH
counts, and HOP 7 fails it by R354; at boot both show at the end of training. -/
def State.helper (s : State) (w sel : Nat) : State :=
  match mHOP w with
  | 1 => s.modTrain (fun r => { r with sel := mHCH w })
  | 2 => { s with boot := { s.boot with phy := Tbl.set (fun _ => 0) s.boot.phy (sel * 256 + mHARG w % 256) (mIMM32 w) } }
  | 3 => { s with boot := { s.boot with rows := Tbl.set (fun _ => 0) s.boot.rows sel (mHARG w % 16 + mIMM32 w * 16) } }
  | 4 => s.drawn.modEng 15 (fun g => { g with failLast := s.anyVal % 2 == 1 })
  | 5 => s.drawn.setFs sel [(F.MEM_CHTR_WMARG, mHARG w), (F.MEM_CHTR_RMARG, mHARG w / 256), (F.MEM_CHTR_ATT, s.anyVal)]
  | 6 =>
    if hasBit (s.getF F.MEM_CHRET_RET 0) sel then s
    else
      let t := s.setF F.MEM_CHTR_INSVC sel 1
      if (s.engOf 15).training then t.nchShow t.dcInService.length else t
  | 7 =>
    if s.flag F.MEM_CHTR_INSVC sel then (if (s.engOf 15).training then s.dcFail sel else s.setF F.MEM_CHTR_INSVC sel 0) else s
  | _ => s

/-- A pass ends, by HALT or by an exception: at boot the channels stay as they are; a retraining pass is over (R352, R353). -/
def State.trainOver (s : State) : State :=
  let s1 := (({ s with boot := { s.boot with pass := none } } : State).modEng 15 (fun g => { g with failLast := false })).setF F.SE_STATE_STATE 15 0
  if (s.engOf 15).training then ({ s1 with boot := { s1.boot with train := [] } } : State).trainEnd else s1

/-- R140, R352: the TRAP of a training word leaves its record on SE15. The pass has no burst: the beat and vector that the record names
are free values. -/
def State.trainExc (s : State) (r : TrainRun) (cause n : Nat) : State :=
  let a := s.drawn.takeExc 15 7 cause n (match r.delay with | some _ => (r.pc + 8191) % 8192 | none => r.pc) r.delay.isSome false (r.delay.getD 0)
    (s.localNow 8) s.anyVal
  a.setF F.SE_EXCF_BEAT 15 (s.anyVal / 4294967296)

/-- SE15 issues the next word of the training store. -/
def State.trainIssue (s : State) (r : TrainRun) : State :=
  if r.word.isSome then s
  else
    let w := s.trainWord r.pc
    let s1 := s.setF F.SE_STATE_PC 15 r.pc
    match trainTrap w r.delay.isSome (s.sp 15) with
    | some (cause, n) => (s1.trainExc r cause n).trainOver
    | none => s1.modTrain (fun q => { q with word := some w })

/-- R89, R121, R127, R352: the training word in issue resolves: its helper command and its loop counters, and the next word. No TOSEL
applies, since the pass has no site. -/
def State.trainResolve (s : State) (r : TrainRun) : State :=
  match r.word with
  | none => s
  | some w =>
    if mBRK w == 6 && s.cond 15 (mCGRP w) 0 (s.localNow 8) &&& mCMASK w == 0 then s.modTrain (fun q => { q with word := none })
    else
      let s1 := (s.helper w r.sel).loopStep 15 w
      let s2 := s1.stackStep 15 w r.pc false
      let tgt := s.branchTarget s2 15 w r.pc 0 (s.localNow 8)
      if mBRK w = 7 then s2.trainOver
      else s2.modTrain (fun q => { q with
        word := none, pc := r.delay.getD ((r.pc + 1) % 8192), delay := if mBranch w then some tgt else none })

/-! ### The commands -/

/-- R117, R352: an engine at a word boundary issues the next word; SE15 in a training pass, that of the training store. -/
def execWordIssue (e : Fin 16) (upset : Nat) (s : State) : Res :=
  match s.boot.pass with
  | some r => if e.val = 15 then ok (s.trainIssue r) else s.burstIssue e upset
  | none => s.burstIssue e upset

/-- R117, R352: the resolve instant of the word in issue, of a burst or of a training pass. -/
def execWordResolve (e : Fin 16) (s : State) : Res :=
  match s.boot.pass with
  | some r => if e.val = 15 then ok (s.trainResolve r) else s.burstResolve e
  | none => s.burstResolve e

end Sys2Proof.Machine
end

