-- ==== Sys2Proof/Machine/BootOps.lean ====
section
/-! DEFINITION. The boot image and the steps of the boot (R411 to R420): headers, sections and their checks, what each section
sets, and the reset that a boot starts from. -/

namespace Sys2Proof.Machine

/-! ### Headers (R413, R415) -/

/-- `n` bytes of the boot flash from `a`; bytes the board has not programmed read 0xFF. -/
def flashBytes (fl : List Byte) (a n : Nat) : List Byte :=
  let l := (fl.drop a).take n
  l ++ List.replicate (n - l.length) 255#8

/-- The 32-bit word at an offset. -/
def w32 (l : List Byte) (o : Nat) : Nat := leNat ((l.drop o).take 4)

/-- One line of a section table. -/
structure SecRow where
  off : Nat
  len : Nat
  typ : Nat
  deriving DecidableEq, Repr

/-- A copy's header: which copy by flash address (1 is the fallback address), IMGVER, KEY and the section table. -/
structure ImgHdr where
  addr : Nat
  ver : Nat
  key : List Byte
  secs : List SecRow
  deriving DecidableEq, Repr

/-- R413: the header of the copy at flash address 0 or 0x80_0000; none when it is unusable. -/
def imgHdr (fl : List Byte) (addr : Nat) : Option ImgHdr :=
  let b := flashBytes fl (addr * 8388608) 1536
  let n := bits (w32 b 4) 23 16
  if w32 b 0 = 0x4A453634 ∧ w32 b 4 % 65536 = 1 ∧ w32 b 0x5FC = crc32c (b.take 0x5FC) ∧ 1 ≤ n ∧ n ≤ 64 then
    some { addr := addr, ver := w32 b 8 % 65536, key := (b.drop 0x10).take 97,
           secs := (List.range n).map (fun i => ⟨w32 b (0x100 + 16 * i), w32 b (0x104 + 16 * i), w32 b (0x108 + 16 * i) % 256⟩) }
  else none

/-- How many sections of a type a copy holds. -/
def ImgHdr.count (h : ImgHdr) (t : Nat) : Nat := (h.secs.filter (fun r => r.typ == t)).length

/-- R415: no reserved type, and no type more often than a copy may hold it. -/
def ImgHdr.formatOk (h : ImgHdr) : Bool :=
  h.secs.all (fun r => decide (1 ≤ r.typ) && decide (r.typ ≤ 6)) && decide (h.count 1 ≤ 16) &&
    [2, 3, 4, 5, 6].all (fun t => decide (h.count t ≤ 1))

/-- The two copies in their roles (R416): the one read first and the other, each absent when it cannot be used. -/
structure Img where
  main : Option ImgHdr
  other : Option ImgHdr
  deriving DecidableEq, Repr

/-- A copy that can be used. -/
def usable (fl : List Byte) (addr : Nat) : Option ImgHdr := (imgHdr fl addr).filter ImgHdr.formatOk

/-- R416: FBFIRST exchanges the roles. -/
def State.image (s : State) : Img :=
  let p := usable s.boot.flash 0
  let q := usable s.boot.flash 1
  if s.boot.fbFirst then ⟨q, p⟩ else ⟨p, q⟩

/-! ### Sections (R414, R416) -/

/-- A section that has verified: table position, word 0 of its header, version, payload, the section as stored, what its
signature covers, the key slot, the copy by flash address, and whether it came from the second copy in role. -/
structure Sec where
  idx : Nat
  w0 : Nat
  ver : Nat
  payload : List Byte
  raw : List Byte
  body : List Byte
  slot : Nat
  addr : Nat
  fb : Bool
  deriving DecidableEq, Repr

/-- ENGM of a control-store section. -/
def Sec.engm (c : Sec) : Nat := c.w0 / 65536 % 65536

/-- Word `k` of a payload. -/
def Sec.w (c : Sec) (k : Nat) : Nat := w32 c.payload (4 * k)

/-- The first 32 bits of a SHA-384 digest, byte 0 lowest (R414). -/
def digest32 (l : List Byte) : Nat := leNat ((List.range 4).map (fun k => (Config.sha384 l).getD k 0#8))

/-- The 48 bytes of a digest. -/
def digest48 (l : List Byte) : List Byte := (List.range 48).map (fun k => (Config.sha384 l).getD k 0#8)

/-- The digest in a key slot (R433). -/
def State.slotDigest (s : State) (n : Nat) : List Byte :=
  (List.range 12).flatMap (fun w => leBytes 4 (s.getF F.NVM_KDIG_DIG (n * 12 + w)))

/-- State of a key slot: 0 EMPTY, 1 VALID, 2 REVOKED, 3 CORRUPT (R423). -/
def State.keyState (s : State) (n : Nat) : Nat := s.getF (if n = 0 then F.NVM_KSTAT_K0 else F.NVM_KSTAT_K1) 0

/-- R414: the VALID slot that holds the digest of a key. -/
def State.keySlot (s : State) (key : List Byte) : Option Nat :=
  [0, 1].find? (fun n => s.keyState n == 1 && s.slotDigest n == digest48 key)

/-- R414, R416: section `i` of a copy: it verifies and passes `check` (which answers 0, or a cause as FAILWHY codes it). -/
def State.loadSec (s : State) (h : ImgHdr) (i : Nat) (fb : Bool) (check : Sec → Nat) : Except Nat Sec :=
  match h.secs[i]? with
  | none => .error 4
  | some r =>
    if r.len < 160 ∨ 8388608 < r.off + r.len then .error 4
    else
      let raw := flashBytes s.boot.flash (h.addr * 8388608 + r.off) r.len
      let plen := w32 raw 8
      let body := raw.take (64 + plen)
      match s.keySlot h.key with
      | none => .error 3
      | some k =>
        if !Config.ecdsaP384 h.key (Config.sha384 body) ((raw.drop (64 + plen)).take 96) then .error 3
        else if w32 raw 0 % 256 ≠ r.typ ∨ 64 + plen + 96 ≠ r.len then .error 4
        else
          let c : Sec := { idx := i, w0 := w32 raw 0, ver := w32 raw 4 % 65536, payload := body.drop 64, raw := raw, body := body,
                           slot := k, addr := h.addr, fb := fb }
          match check c with
          | 0 => .ok c
          | w => .error w

/-- ENGM of section `i` of a copy as its header stands in flash. -/
def rawEngm (fl : List Byte) (h : ImgHdr) (i : Nat) : Nat :=
  match h.secs[i]? with
  | some r => w32 (flashBytes fl (h.addr * 8388608 + r.off) 4) 0 / 65536
  | none => 0

/-- R416: does position `i` of the other copy hold the same TYPE, and for type 1 the same ENGM? -/
def sameSec (fl : List Byte) (g h : ImgHdr) (i t : Nat) : Bool :=
  (h.secs[i]?).any (fun r => r.typ == t) && (t != 1 || rawEngm fl g i == rawEngm fl h i)

/-- Where the sections of a type lie: positions of the copy read first, or, where it cannot be used or lacks a required type, of
the other copy alone (true). -/
def Img.find (im : Img) (t : Nat) : List (Nat × Bool) :=
  let pos := fun (h : ImgHdr) => (List.range h.secs.length).filter (fun i => (h.secs[i]?).any (fun r => r.typ == t))
  match im.main, im.other with
  | some h, o =>
    match pos h, o with
    | [], some g => if 2 ≤ t ∧ t ≤ 4 then (pos g).map (fun i => (i, true)) else []
    | l, _ => l.map (fun i => (i, false))
  | none, some g => (pos g).map (fun i => (i, true))
  | none, none => []

/-- R416: section `i` from the first copy, or from the second; else FAILSEC and FAILWHY. -/
def State.takeSec (s : State) (im : Img) (t i : Nat) (alone : Bool) (check : Sec → Nat) : Except (Nat × Nat) Sec :=
  let second := match im.other with
    | some g => if alone || (im.main.any (fun h => sameSec s.boot.flash h g i t)) then
        match s.loadSec g i true check with
        | .ok c => some c
        | .error _ => none
      else none
    | none => none
  let first : Except Nat Sec := match im.main, im.other with
    | some h, o =>
      if alone then (match o with | some g => s.loadSec g i true check | none => .error 2) else s.loadSec h i false check
    | none, some g => s.loadSec g i true check
    | none, none => .error 2
  match first, second with
  | .ok c, _ => .ok c
  | .error _, some c => .ok c
  | .error w, none => .error (i, w)

/-- A section that every image must hold: missing from both copies is FORMAT with its TYPE (R416). -/
def State.required (s : State) (im : Img) (t : Nat) (check : Sec → Nat) : Except (Nat × Nat) Sec :=
  match im.find t with
  | [] => .error (t, 4)
  | p :: _ => s.takeSec im t p.1 p.2 check

/-- GLB_FBMASK and FBUSED follow a section taken (R432). -/
def State.markSec (s : State) (c : Sec) : State :=
  if c.fb then
    let f := if c.idx < 32 then F.GLB_FBMASK_LO_FB else F.GLB_FBMASK_HI_FB
    (s.setF f 0 (setBit (s.getF f 0) (c.idx % 32))).setF F.GLB_BOOTSTAT_FBUSED 0 1
  else s

/-! ### The boot's own registers -/

/-- PHASE; once it is none of RESET, FAILED and NOKEY, a TAP instruction that drives pins acts as BYPASS (R420, R470). -/
def State.setPhase (s : State) (p : Nat) : State :=
  let s1 := s.setF F.GLB_BOOTSTAT_PHASE 0 p
  if p = 0 ∨ p = 9 ∨ p = 10 ∨ s.tap = .samplePreload then s1 else { s1 with tap := .bypass }

/-- PHASE in force. -/
def State.phase (s : State) : Nat := s.getF F.GLB_BOOTSTAT_PHASE 0

/-- R416: the boot halts: PHASE, FAILSEC, FAILWHY, PF0 event 4, and an entry of the fault log. -/
def State.bootFail (s : State) (sec why : Nat) : State :=
  ((((s.setPhase (if why = 1 then 10 else 9)).setFs 0 [(F.GLB_BOOTSTAT_FAILSEC, sec), (F.GLB_BOOTSTAT_FAILWHY, why)]).raisePf 4).faultLog
    3 sec)

/-! ### Fabric identity (R415, R310) -/

/-- The payload is 64 bytes. -/
def checkIdent (c : Sec) : Nat := if c.payload.length = 64 then 0 else 4

/-- Chip number, time root and the digest that HELLO carries. -/
def State.applyIdent (s : State) (c : Sec) : State :=
  let chip := c.w 0 % 512
  let root := bit (c.w 0) 9
  let s1 := (s.markSec c).setFs 0 [(F.FAB_ID_CHIP, chip), (F.FAB_ID_TROOT, root), (F.TBS_STAT_ROOT, root)]
  let s2 : State := { s1 with fab := { s1.fab with digest := digest32 c.raw, root := if root = 1 then some chip else none } }
  s2.setF F.FAB_ID_SROOT 0 (if s2.shelfRoot = chip then 1 else 0)

/-! ### Partition map (R320 to R323) -/

/-- The map's records in SITE_MAP. -/
def State.mapWords (s : State) (c : Sec) : State :=
  (List.range 1024).foldl (fun a k => a.setF F.SITE_MAP_WORD k (c.w (16 + k))) s

/-- HSHARE of a site (R321). -/
def State.hshare (s : State) (x : Nat) : Nat := bits (s.map x 10) 23 16

/-- Does a relation hold between every two different members? -/
def eachPair (l : List Nat) (p : Nat → Nat → Bool) : Bool := l.all (fun x => l.all (fun y => x == y || p x y))

/-- A sum over sites. -/
def total (l : List Nat) (f : Nat → Nat) : Nat := (l.map f).sum

/-- Balls that a site uses: outputs, inputs (R321). -/
def State.balls (s : State) (x : Nat) (out : Bool) : List Nat :=
  [0, 1, 2, 3].filterMap (fun k => if out then s.trgOut x k else s.trgInSlot x k)

/-- No member of one list is in the other. -/
def apart (a b : List Nat) : Bool := a.all (fun x => !b.contains x)

/-- Every region of the sites: base, end and whether it is double with an odd size, in MiB. -/
def State.allRegions (s : State) (l : List Nat) : List (Nat × Nat × Bool) :=
  l.flatMap (fun x => ((List.range 16).filter (fun r => s.regValid x r)).map (fun r =>
    (s.regBase x r, s.regBase x r + s.regSize x r, s.regDbl x r && s.regSize x r % 2 == 1)))

/-- R322: regions inside the user area, even double regions (R350), and no two overlapping. -/
def regionsOk (l : List (Nat × Nat × Bool)) : Bool :=
  l.all (fun r => decide (r.2.1 ≤ 61440) && !r.2.2) &&
    (List.range l.length).all (fun i => (List.range l.length).all (fun j =>
      match l[i]?, l[j]? with
      | some a, some b => i == j || a.1 == a.2.1 || b.1 == b.2.1 || decide (a.2.1 ≤ b.1) || decide (b.2.1 ≤ a.1)
      | _, _ => true))

/-- R322: the checks of a map that SITE_MAP holds, for this chip. -/
def State.mapOk (s : State) : Bool :=
  let l := sites.filter (fun x => s.present x)
  l.all (fun x => s.shelf x == s.chipNo / 32 && s.leader x / 32 == s.shelf x && hasBit (s.memb x) (s.chipNo % 32)) &&
  eachPair l (fun x y => s.chm x &&& s.chm y == 0) && l.all (fun x => s.chm x == 0 || s.qmask0 x != 0) &&
  eachPair l (fun x y => s.qmask0 x &&& s.qmask0 y == 0) && decide (total l s.qent0 ≤ 4096) &&
  l.all (fun x => decide (s.flowLo x + s.flowN x ≤ 256)) &&
  eachPair l (fun x y => s.flowN x == 0 || s.flowN y == 0 || decide (s.flowLo x + s.flowN x ≤ s.flowLo y) ||
    decide (s.flowLo y + s.flowN y ≤ s.flowLo x)) &&
  l.all (fun x => (List.range 8).all (fun o => decide (s.rowBase x o + s.rowCount x o ≤ 768 * 4096))) &&
  regionsOk (s.allRegions l) &&
  l.all (fun x => decide (4 ≤ s.ssize x) && decide (8 ≤ s.bksz x) && s.regValid x (s.bkreg x) &&
    decide (s.bksz x * 4096 ≤ s.regSize x (s.bkreg x) * 1048576)) && decide (total l s.ssize ≤ 2032) &&
  eachPair l (fun x y => apart (s.balls x true ++ s.balls x false) (s.balls y true ++ s.balls y false)) &&
  fitsDram (l.map (fun x => (s.rsvRt x, s.rsvHost x, s.cwin x))) 16 &&
  decide (total l s.flslot ≤ 240) && decide (total l (fun x => bits (s.map x 10) 15 8) ≤ 16) && decide (total l s.hshare ≤ 256)

/-- R320, R322: the checks of the map section. -/
def State.checkMap (s : State) (c : Sec) : Nat :=
  if c.payload.length ≠ 4160 then 4
  else if c.w 1 ≠ s.chipNo ∨ (s.mapWords c).mapOk = false then 5
  else 0

/-- The levels at a site's trigger input slots (R321, R465). -/
def State.trigSlots (s : State) (x : Nat) : Nat :=
  [0, 1, 2, 3].foldl (fun m k => match s.trgInSlot x k with | some b => if hasBit s.trgIn b then setBit m k else m | none => m) 0

/-- What a site's record sets (R202, R260, R263, R265, R313, R321). -/
def State.applyRecord (s : State) (x : Nat) : State :=
  (((s.modSite x (fun t => { t with trigIn := s.trigSlots x })).setQuota x (s.qmask0 x)).setFs x [(F.DSP_SQ_QENT, s.qent0 x), (F.DSP_SFLOW_FLOWLO, s.flowLo x), (F.DSP_SFLOW_FLOWN, s.flowN x),
    (F.SITE_CWIN_CWIN, s.cwin x), (F.SITE_CSTG_SSIZE, s.ssize x), (F.SITE_CBKSZ_BKSZ, s.bksz x)]).setF F.FAB_SEPOCH_EPOCH x
    (s.map x 0 / 65536)

/-- The map is in force (R320 to R323). -/
def State.applyMap (s : State) (c : Sec) : State :=
  let s1 := ((s.markSec c).mapWords c).setFs 0 [(F.SITE_GDIG_DIG, digest32 c.body), (F.SITE_GSTAT_MAPCOPY, c.addr)]
  ((sites.filter (fun x => s1.present x)).foldl (fun a x => a.applyRecord x) s1).resvCheck

/-! ### Training microcode (R352) -/

/-- 1 to 1,024 words. -/
def checkTrain (c : Sec) : Nat :=
  if c.payload.length % 24 = 0 ∧ 24 ≤ c.payload.length ∧ c.payload.length ≤ 24576 then 0 else 4

/-- The 24-byte words of a payload (R116). -/
def words24 (l : List Byte) : List Nat := (List.range (l.length / 24)).map (fun k => leNat ((l.drop (24 * k)).take 24))

/-- The training store, which SE15 begins to run (R352). -/
def State.applyTrain (s : State) (c : Sec) : State :=
  let s1 := (s.markSec c).setFs 15 [(F.SE_STATE_STATE, 1), (F.SE_STATE_SITEV, 0)]
  { s1 with tstore := (words24 c.payload).zipIdx.filterMap (fun p => if p.1 = 0 then none else some (p.2, p.1)),
            boot := { s1.boot with pass := some {} } }

/-! ### Register initialisation (R417) -/

/-- Is field `f` of instance `ix` one that register initialisation sets? The count of a ring that the device moves is RO: the producer's
of rings 1 and 2, the consumer's of rings 0 and 3 (R441). -/
def initFld (f : Fld) (ix : Nat) : Bool :=
  if f = F.HST_RPROD_PROD then ix % 4 == 0 || ix % 4 == 3
  else if f = F.HST_RCONS_CONS then ix % 4 == 1 || ix % 4 == 2
  else f.ty == .rw || f.ty == .rwl || f.ty == .sh

/-- The bits of the fields of an instance of a register; all others are reserved (R6). -/
def RegDesc.used (d : RegDesc) (ix : Nat) : Nat := d.flds.foldl (fun a f => a ||| (2 ^ f.widthAt ix - 1) * 2 ^ f.lo) 0

/-- R98, R236, R274, R343, R360, R366, R394, R400 and the limits on SLPLEAD and TRINT: may register initialisation set the
field `f` of instance `ix` to `v`? -/
def limitOk (f : Fld) (ix v : Nat) : Bool :=
  let inr := fun (lo hi : Nat) => decide (lo ≤ v) && decide (v ≤ hi)
  if f = F.SITE_STEP_LOG2 then decide (v ≤ 5)
  else if f = F.SITE_BLEN_BLEN then v == 0 || inr 1000 4000000000
  else if f = F.SITE_BGAP_GAP then decide (64 ≤ v)
  else if f = F.TBS_SERVO_EXLOG then decide (v ≤ 10)
  else if f = F.TBS_SERVO_MAXPPM then v != 0
  else if f = F.TBS_OFFLIM_OFFLIM then decide (100 ≤ v)
  else if f = F.MEM_CHMASK_MASK then v % 256 == 2 ^ ix
  else if f = F.MEM_BKMASK_MASK then v % 256 == 2 ^ (4 + ix)
  else if f = F.MEM_TRCFG_TRINT then v != 0
  else if f = F.CLK_LPCFG_RDIV then inr 1 20
  else if f = F.CLK_LPO_DIV then inr 2 8
  else if f = F.CLK_LPSSC_DEPTH then decide (v ≤ 5000)
  else if f = F.CLK_LPSSC_FMOD then inr 300 330
  else if f = F.FAB_SLPLEAD_US then v != 0
  else if f = F.FLT_QUIET_QMS then inr 1 60000
  else if f = F.FLT_ILK_DTIME then inr 1 1000
  else true

/-- R360: f_VCO of a value of CLK_LPCFG. -/
def vcoOk (d : RegDesc) (v : Nat) : Bool :=
  d.base != R.CLK_LPCFG.base ||
    (decide (80 * bits v 4 0 ≤ bits v 16 5) && decide (bits v 16 5 ≤ 160 * bits v 4 0))

/-- R417: is a pair one that register initialisation may hold? -/
def pairOk (addr v : Nat) : Bool :=
  match findRegFor .pf0 addr with
  | some h =>
    !h.live && decide (0x80000 ≤ h.desc.base) && h.desc.flds.any (fun f => initFld f h.ix) && v &&& h.desc.used (h.desc.copy .pf0 h.ix) == v && vcoOk h.desc v &&
      h.desc.flds.all (fun f => !initFld f h.ix || limitOk f h.ix (v / 2 ^ f.lo % 2 ^ f.width))
  | none => false

/-- A pair sets the fields of its register: at its own address, and live for an SH field. -/
def State.applyPair (s : State) (addr v : Nat) : State :=
  match findRegFor .pf0 addr with
  | some h =>
    let ix := h.desc.copy .pf0 h.ix
    h.desc.flds.foldl (fun a f =>
      if initFld f h.ix then
        let a1 := a.setF f ix (v / 2 ^ f.lo)
        if f.ty = .sh then a1.setL f ix (v / 2 ^ f.lo) else a1
      else a) s
  | none => s

/-- The pairs of a payload. -/
def Sec.pairs (c : Sec) : List (Nat × Nat) := (List.range (c.payload.length / 8)).map (fun k => (c.w (2 * k), c.w (2 * k + 1)))

/-- Every pair in order. -/
def State.applyPairs (s : State) (c : Sec) : State := c.pairs.foldl (fun a p => a.applyPair p.1 p.2) s

/-- R235, R236, R362: what must hold of the registers that result. -/
def State.initOk (s : State) : Bool :=
  sites.all (fun x => s.getF F.SITE_BLEN_BLEN x == 0 || decide (2 * s.getF F.SITE_BGAP_GAP x ≤ s.getF F.SITE_BLEN_BLEN x)) &&
  (List.range 8).all (fun o =>
    let n := s.getL F.OCT_CKSEL_LP o
    !s.flag F.CLK_LPCFG_OWNV n || (s.present (s.getF F.CLK_LPCFG_OWN n) && s.ownsOct (s.getF F.CLK_LPCFG_OWN n) o))

/-- R417: the checks of a register-initialisation section. -/
def State.checkInit (s : State) (c : Sec) : Nat :=
  if c.payload.length % 8 ≠ 0 ∨ 32768 < c.payload.length then 4
  else if c.pairs.all (fun p => pairOk p.1 p.2) && (s.applyPairs c).initOk then 0
  else 5

/-- The registers as register initialisation leaves them are in force: line outputs, the increment, octets and their channels,
line clocks, FLT_IN; and the record of them that a site reset goes back to (R331). -/
def State.afterInit (s : State) : State :=
  let s1 : State := { s with init := s.reg, initLive := s.live }
  let s2 := [0, 1, 2, 3].foldl (fun a n => a.lpLoad a.reg n) s1
  let s3 := s2.setFs 0 [(F.TBS_INC_LO_FRAC, s.getF F.TBS_INCNOM_LO_FRAC 0), (F.TBS_INC_HI_INT, s.getF F.TBS_INCNOM_HI_INT 0)]
  let s4 := (List.range 64).foldl (fun a c => a.chanBack c s.now) s3
  (s4.clockShow s.now).fltinShow.sumacShow

/-! ### Control stores (R110, R112, R116) -/

/-- R115, R116, R415: ENGM is not 0; 1 to 8,192 words. -/
def checkStore (c : Sec) : Nat :=
  if c.engm ≠ 0 ∧ c.payload.length % 24 = 0 ∧ 24 ≤ c.payload.length ∧ c.payload.length ≤ 196608 then 0 else 4

/-- The image of a store in a table of stores: HALT above the payload. -/
def putImage (m : Tbl Nat) (e : Nat) (ws : List Nat) : Tbl Nat :=
  let keep := fun (p : Nat → Bool) => m.filter (fun q => p (q.1 / 8192))
  keep (fun k => decide (k < e)) ++
    ((ws.take 8192).zipIdx.filterMap (fun p => if withParity p.1 = haltWord then none else some (e * 8192 + p.2, withParity p.1))) ++
    keep (fun k => decide (e < k))

/-- Engine `e` is loaded with a section: store, mirror, version and digest. -/
def State.loadStore (s : State) (e : Nat) (c : Sec) (reloaded : Nat) : State :=
  let ws := words24 c.payload
  let s1 := s.setFs e [(F.SEQ_UCODE_VER_UVER, c.ver), (F.SEQ_UCODE_VER_SECT, c.idx), (F.SEQ_UCODE_VER_COPY, c.addr),
    (F.SEQ_UCODE_VER_KSLOT, c.slot), (F.SEQ_UCODE_VER_RELOADED, reloaded), (F.SEQ_UCODE_VER_VALID, 1),
    (F.SEQ_UCODE_DIG_DIG, digest32 c.body)]
  { s1 with cstore := putImage s1.cstore e ws, mirror := putImage s1.mirror e ws }

/-- R112: a control-store section loads the engines it names that no earlier section has loaded. -/
def State.applyStore (s : State) (c : Sec) : State :=
  ((List.range 16).filter (fun e => hasBit c.engm e && !s.flag F.SEQ_UCODE_VER_VALID e)).foldl (fun a e => a.loadStore e c 0)
    (s.markSec c)

/-- R112, R116, R416: the control stores in table order, then AUTORUN; the first section that fails halts the boot. -/
def State.bootStores (s : State) (im : Img) : List (Nat × Bool) → State
  | [] => s.setPhase 7
  | p :: l =>
    match s.takeSec im 1 p.1 p.2 checkStore with
    | .ok c => (s.applyStore c).bootStores im l
    | .error e => s.bootFail e.1 e.2

/-! ### The reset a boot starts from (R419, R422, R427, R432) -/

/-- Register fields that the NVM holds, the grade of the identity pages among them (R2, R421). -/
def nvmFlds : List Fld :=
  [F.GLB_ID_GRADE, F.FLT_RCNT_RCNT, F.FLT_RBASE_RBASE, F.NVM_KSTAT_K0, F.NVM_KSTAT_K1, F.NVM_KDIG_DIG, F.NVM_PSSEQ_SEQ, F.NVM_FLHEAD_HEAD,
   F.NVM_FLCNT_CNT, F.NVM_WEAR_MAX]

/-- The page of the settings copy that is not in force (R424). -/
def State.storePage (s : State) : Nat :=
  if s.flag F.NVM_STAT_PSVALID 0 && !s.flag F.NVM_STAT_PSCOPY 0 then 115 else 114

/-- A key slot becomes CORRUPT (R423). -/
def State.slotCorrupt (s : State) (n : Nat) : State :=
  (s.setF (if n = 0 then F.NVM_KSTAT_K0 else F.NVM_KSTAT_K1) 0 3).nvmCut ((2 + n) * 1024)

/-- The NVM command in progress fails. -/
def State.cmdCut (s : State) : State :=
  match s.boot.cmd with
  | some (1, _) => s.nvmCut (s.storePage * 1024)
  | some (_, n) => s.slotCorrupt n
  | none => s

/-- R426: the changes of recovery counts in progress, of RCNT first, in the order of their counts (log entry 68). -/
def State.changes (s : State) : List (Nat × Bool × Nat) :=
  ((List.range 17).filter (fun k => hasBit s.sumac.storing k)).map (fun k => (k, false, s.getF F.FLT_RCNT_RCNT k + 1)) ++
    ((List.range 17).filter (fun k => hasBit s.sumac.clearing k)).map (fun k => (k, true, Tbl.get (fun _ => 0) s.sumac.newBase k))

/-- R422, R427: the writes of these changes one after another, until they are cut off: after a change, before one, or in one of its two
writes. -/
def State.changesCut (s : State) : List (Nat × Bool × Nat) → State
  | [] => s
  | c :: l =>
    let q := s.boot.recSeq + 1
    match s.anyVal % 4 with
    | 0 => (s.drawn.recChange c.1 c.2.1 c.2.2).changesCut l
    | 1 => s.drawn
    | 2 => s.drawn.intentCut q
    | _ => (s.drawn.putIntent ⟨q, c.1, c.2.1, c.2.2⟩).snapCut q

/-- R427: changes of recovery counts in progress are cut off. -/
def State.countCut (s : State) : State := s.changesCut s.changes

/-- R427: of the valid snapshots, the one with the highest number; before any has been written, the counts as shipped. -/
def State.lastSnap (s : State) : RecSnap :=
  (s.boot.snaps.filterMap (fun p => p.2)).foldl (fun a b => if a.seq < b.seq then b else a) (s.snapNow 0)

/-- R427: of the valid intent records, the one with the highest number. -/
def State.lastIntent (s : State) : Option RecIntent :=
  (s.boot.intents.filterMap (fun p => p.2)).foldl (fun a b => if a.any (fun c => decide (b.seq ≤ c.seq)) then a else some b) none

/-- R427: at boot the counts are those of the latest snapshot; an intent beyond it is applied, and the result written. -/
def State.bootCounts (s : State) : State :=
  let p := s.lastSnap
  let a := (List.range 17).foldl (fun b k => (b.setF F.FLT_RCNT_RCNT k (p.cnt.getD k 0)).setF F.FLT_RBASE_RBASE k (p.base.getD k 0)) s
  match s.lastIntent with
  | some i => if p.seq < i.seq then (let b := a.recSet i; b.putSnap (b.snapNow i.seq)) else a
  | none => a

/-- R422: a SAVE in progress is cut off. -/
def State.savesCut (s : State) : State :=
  (List.range 8).foldl (fun a o =>
    match (s.octSt o).saving with
    | some p =>
      let b := saveToB (s.octSt o) p
      (a.nvmCut (((if b then 48 else 30) + qIx o p / 4) * 1024)).setsCut b (qIx o p / 4)
    | none => a) s

/-- TX pairs go to electrical idle and ERR to FAULT. -/
def State.pinsOff (s : State) : State :=
  let s1 := (List.range 64).foldl (fun a c => a.pinTo c .idle s.now) s
  if s.flag F.FLT_STAT_ERR 0 || !s.sumac.vio then s1 else s1.log (.err true)

/-- R419, R432: every part of the chip but Nutmeg and the NVM is reset. Outputs, free values and the levels at the chip's pins go on. -/
def State.powerReset (s : State) : State :=
  let t := s.cmdCut.countCut.savesCut.pinsOff
  State.warmShow { State.reset with
      reg := t.reg.filter (fun e => nvmFlds.any (fun f => f.id == e.1 / 1048576))
      oct := t.oct.filterMap (fun e => if e.2.field = [] ∧ e.2.fieldOld = [] then none else some (e.1, { field := e.2.field, fieldOld := e.2.fieldOld }))
      nutmeg := t.nutmeg
      nvm := t.nvm
      wear := t.wear
      boot := { recSeq := t.boot.recSeq, intents := t.boot.intents, snaps := t.boot.snaps, flash := t.boot.flash, sfdp := t.boot.sfdp }
      sumac := { fltP := t.sumac.fltP, fltN := t.sumac.fltN, vio := t.sumac.vio }
      numVfs := t.numVfs
      msixEn := t.msixEn
      trgIn := t.trgIn
      warm := t.warm
      free := t.free
      out := t.out
      pending := t.pending }

/-! ### Settings (R422, R424, R425) -/

/-- A settings copy that is valid. -/
def State.settingsPage (s : State) (pg : Nat) : Option (List Byte) :=
  let l := s.nvmBytes (pg * 1024) 1024
  if w32 l 1020 = crc32c (l.take 1020) ∧ w32 l 0 % 256 = 1 then some l else none

/-- The settings copy in force: the valid one with the later sequence number (half-window rule of R178). -/
def State.settings (s : State) : Option (Nat × List Byte) :=
  match s.settingsPage 114, s.settingsPage 115 with
  | some a, some b => if 0 < sext 32 (w32 b 4 + 4294967296 - w32 a 4) then some (1, b) else some (0, a)
  | some a, none => some (0, a)
  | none, some b => some (1, b)
  | none, none => none

/-- R425: bits of word 0x008 of the settings, and whether they count: SPIMAX is 0 or 25 to 100. -/
def settingsWord (p : Option (Nat × List Byte)) : Nat :=
  match p with
  | some q =>
    let w := w32 q.2 8
    if bits w 15 8 = 0 ∨ (25 ≤ bits w 15 8 ∧ bits w 15 8 ≤ 100) then w else 2
  | none => 2

/-- NVM_STAT and NVM_PSSEQ show the copy in force. -/
def State.showSettings (s : State) : State :=
  match s.settings with
  | some q => s.setFs 0 [(F.NVM_STAT_PSCOPY, q.1), (F.NVM_STAT_PSVALID, 1), (F.NVM_PSSEQ_SEQ, w32 q.2 4)]
  | none => s.setFs 0 [(F.NVM_STAT_PSCOPY, 0), (F.NVM_STAT_PSVALID, 0), (F.NVM_PSSEQ_SEQ, 0)]

/-! ### The boot up to training (R420 steps 1 to 5) -/

/-- R412: the instruction and the dummy clocks of the 1-1-4 fast read, if the SFDP has its signature and its Basic Flash Parameter Table offers
the mode (JESD216; PRESUMED, log entry 67). -/
def sfdpFast (l : List Byte) : Option (Nat × Nat) :=
  let p := w32 l 12 % 16777216
  let d := w32 l (p + 8)
  if w32 l 0 = 0x50444653 ∧ hasBit (w32 l p) 22 then some (bits d 31 24, bits d 20 16) else none

/-- R412, R425: how the boot flash is read: in 1-1-4 mode at the lower of 100 MHz and SPIMAX, or with instruction 0x03 at 25 MHz. -/
def readMode (l : List Byte) (word : Nat) : Nat × Nat × Nat :=
  match sfdpFast l with
  | some p => (p.1, p.2, if bits word 15 8 = 0 then 100 else min 100 (bits word 15 8))
  | none => (3, 0, 25)

/-- R358, R367: the PLLs lock to a reference that is present; without one they run on the bypass oscillator. -/
def State.bootPlls (s : State) (refOk : Bool) : State :=
  plls.foldl (fun a p =>
    let f := (pllFlds p).1
    let i := (pllFlds p).2
    if refOk then a.setF f.1 i 1
    else
      let b := a.setF f.2.2.1 i 1
      match p with
      | .core => b.sourceOn 16 0
      | .timebase => b.sourceOn 16 1
      | .line _ => b) (s.setF F.CLK_REF_REFOK 0 (if refOk then 1 else 0))

/-- R375: the factory figures and trims of slice set `n`, from its 256 bytes of NVM (R421). -/
def State.factorySet (s : State) (n : Nat) : Figures :=
  let l := s.nvmBytes (4096 + n * 256) 256
  { eyew := 240 + Config.trimField l 0 % 65296, inlrms := Config.trimField l 1 % 61, inlmax := Config.trimField l 2 % 151,
    dnlmin := (Config.trimField l 3 % 257 + 65408) % 65536, dnlmax := (Config.trimField l 4 % 257 + 65408) % 65536,
    trims := (l.take 252).map (fun b => b.toNat) }

/-- R373: each slice takes its valid field set with its figures; the others keep the factory set. -/
def State.sliceTrims (s : State) (o p : Nat) : State :=
  let f := setInForce (s.octSt o) p
  let g := match f with | some f => f.fig | none => s.factorySet (qIx o p)
  ((s.showFigures o p g).setFs (qIx o p) [(F.OCT_QSRC_FIELD, b2n f.isSome), (F.OCT_QCNT_CNT, match f with | some f => f.cnt | none => 0)]).modOct
    o (fun q => { q with trims := Tbl.set (fun _ => []) q.trims p g.trims })

/-- R180, R371: the front-end trims of channel `c`, the latencies of its lane among them. -/
def State.frontTrims (s : State) (c : Nat) : State :=
  let l := s.nvmBytes (22528 + c * 128) 128
  (s.modChan c (fun h => { h with feTrims := l })).setFs (lnIx c)
    [(F.OCT_LTXLAT_TXLAT, Config.trimField l 0), (F.OCT_LRXLAT_RXLAT, Config.trimField l 1)]

/-- R371, R373: the trims of every slice and front end. -/
def State.bootTrims (s : State) : State :=
  (List.range 64).foldl (fun a c => a.frontTrims c) ((List.range 8).foldl (fun a o => (List.range 9).foldl (fun b p => b.sliceTrims o p) a) s)

/-- GLB_RSTCAUSE, and a Nutmeg SELF record goes to the fault log (R397, R432). -/
def State.bootCause (s : State) : State :=
  let n := s.nutmeg
  let b2n := fun (b : Bool) => if b then 1 else 0
  let s1 := s.setFs 0 [(F.GLB_RSTCAUSE_COLD, b2n n.cold), (F.GLB_RSTCAUSE_PGLOSS, bit n.cause 1), (F.GLB_RSTCAUSE_WAKEUP, b2n n.standby),
    (F.GLB_RSTCAUSE_REBOOT, bit n.cause 3), (F.GLB_RSTCAUSE_SELFREC, b2n n.selfRec)]
  let s2 := if n.selfRec then s1.faultLog 2 0 else s1
  { s2 with nutmeg := { n with cold := false, cause := 0, selfRec := false, standby := false, wakeHeld := false, wakeNs := none } }

/-- R420 step 5: ports that are enabled start training. -/
def State.portsTrain (s : State) : State :=
  ((List.range 12).filter (fun k => s.flag F.FAB_PCTL_EN k)).foldl (fun a k => a.startTraining k) s

/-- R416: fabric identity, partition map and training microcode, in this order; the first that fails halts the boot. -/
def State.bootSections (s : State) (im : Img) : State :=
  match s.required im 3 checkIdent with
  | .error e => s.bootFail e.1 e.2
  | .ok c3 =>
    let s1 := s.applyIdent c3
    match s1.required im 2 s1.checkMap with
    | .error e => s1.bootFail e.1 e.2
    | .ok c2 =>
      let s2 := s1.applyMap c2
      match s2.required im 4 checkTrain with
      | .error e => s2.bootFail e.1 e.2
      | .ok c4 => ((s2.applyTrain c4).setPhase 4).portsTrain

/-- The boot from a chip that has just been reset, as far as DRAM training. -/
def State.bootStart (s : State) (refOk : Bool) : State :=
  let s1 := ((s.bootPlls refOk).bootTrims.showSettings.bootCounts).bootCause
  let word := settingsWord s1.settings
  let s2 : State := { s1 with boot := { s1.boot with fbFirst := hasBit word 0 } }
  if s2.keyState 0 ≠ 1 ∧ s2.keyState 1 ≠ 1 then s2.bootFail 0 1
  else
    let fl := s2.boot.flash
    let ver := fun (a : Nat) => match imgHdr fl a with | some h => h.ver | none => 65535
    let s3 := s2.setFs 0 [(F.GLB_BOOTSTAT_SLOWRD, if (sfdpFast s2.boot.sfdp).isSome then 0 else 1), (F.GLB_IMGVER_PRI, ver 0), (F.GLB_IMGVER_FBK, ver 1)]
    let s4 : State := { s3 with boot := { s3.boot with rdMode := readMode s3.boot.sfdp word } }
    let im := s4.image
    if im.main.isNone && im.other.isNone then
      s4.bootFail 0 (if (imgHdr fl 0).isSome || (imgHdr fl 1).isSome then 4 else 2)
    else
      s4.bootSections im

end Sys2Proof.Machine
end

