-- ==== Sys2Proof/Machine/Boot.lean ====
section
/-! DEFINITION. Power, boot, reload, power states, NVM commands and the TAP (R115, R352, R397, R411 to R434, R460, R470). -/

namespace Sys2Proof.Machine

/-! ### Power and the start of the boot -/

/-- R419, R420: PGOOD is recognised high: a full boot with what the board holds. -/
def execPgoodRise (board : Board) (s : State) : Res :=
  if s.nutmeg.pgood then ok s
  else
    let s1 := s.powerReset
    let s2 : State := { s1 with
      nutmeg := { s1.nutmeg with pgood := true }
      boot := { s1.boot with flash := board.flash, sfdp := board.sfdp } }
    ok (s2.bootStart board.refOk)

/-- R419: a fall of PGOOD resets everything but Nutmeg; outside STANDBY it is the cause that the next boot reports (R432). -/
def execPgoodFall (s : State) : Res :=
  if s.nutmeg.pgood then
    let s1 := s.powerReset
    let n := s1.nutmeg
    ok { s1 with
      nutmeg := { n with pgood := false, cause := if n.standby then n.cause else setBit n.cause 1 }
      sumac := { s1.sumac with vio := s1.sumac.vio && !n.standby } }
  else ok s

/-- R460: VAUX falls below the brown-out threshold: Nutmeg resets too, its SELF record is lost and PWR_EN goes low. -/
def execBrownOut (s : State) : Res :=
  let s1 := s.powerReset
  let s2 : State := { s1 with nutmeg := {}, sumac := { s1.sumac with vio := false } }
  ok (if s.nutmeg.pwrEn then s2.log (.pwrEn false) else s2)

/-- R460, R466: VAUX has risen: Nutmeg leaves reset, PWR_EN is high, and the next boot reports COLD. -/
def execVauxRise (s : State) : Res :=
  ok (({ s with nutmeg := { pgood := s.nutmeg.pgood, pwrEn := true } } : State).log (.pwrEn true))

/-- R392, R404: VIO is valid: the first conversion starts, and the ERR pair shows its state. -/
def execVioValid (s : State) : Res :=
  if s.sumac.vio then ok s
  else ok (({ s with sumac := { s.sumac with vio := true }, mon0 := s.getF F.MON_SEL_SEL 0 } : State).log
    (.err (s.flag F.FLT_STAT_ERR 0)))

/-- R432: REBOOT, from PF0: everything but Nutmeg is reset and boots again. -/
def execReboot (fn : Fn) (s : State) : Res :=
  if fn = .pf0 && s.nutmeg.pgood then
    let s1 := s.powerReset
    ok (({ s1 with nutmeg := { s1.nutmeg with cause := setBit s1.nutmeg.cause 3 } } : State).bootStart (s.flag F.CLK_REF_REFOK 0))
  else ok s

/-! ### Training, register initialisation, control stores (R352, R416, R417, R420 steps 6 to 8) -/

/-- R352: boot training is over with these channels in service. -/
def State.trainShow (s : State) (l : List Nat) : State :=
  s.trainOver.nchShow l.length

/-- R417: register initialisation, if the image holds one, then the control stores. -/
def State.bootInit (s : State) (im : Img) : State :=
  match im.find 5 with
  | [] => s.afterInit.bootStores im (im.find 1)
  | p :: _ =>
    match s.takeSec im 5 p.1 p.2 s.checkInit with
    | .ok c => (((s.markSec c).applyPairs c).afterInit).bootStores im (im.find 1)
    | .error e => s.bootFail e.1 e.2

/-- R352: no channel came into service: the training section of the other copy runs, if it has not yet. -/
def State.trainAgain (s : State) (im : Img) : State :=
  match im.find 4 with
  | [] => s.bootFail 4 4
  | p :: _ =>
    let used := s.getF (if p.1 < 32 then F.GLB_FBMASK_LO_FB else F.GLB_FBMASK_HI_FB) 0
    match im.main, im.other with
    | some h, some g =>
      if p.2 || hasBit used (p.1 % 32) || !sameSec s.boot.flash h g p.1 4 then s.bootFail p.1 6
      else match s.loadSec g p.1 true checkTrain with
        | .ok c => s.applyTrain c
        | .error _ => s.bootFail p.1 6
    | _, _ => s.bootFail p.1 6

/-- R352, R420: boot training ends; NCH counts the channels that the training store has put in service. A pass still running has not
finished its channels. -/
def execDramTrainingDone (_inService : Known) (s : State) : Res :=
  if s.phase = 4 then
    let l := (List.range 16).filter (fun d => s.flag F.MEM_CHTR_INSVC d)
    if l.isEmpty then ok (s.trainOver.trainAgain s.image) else ok ((s.trainShow l).bootInit s.image)
  else ok s

/-! ### Autorun and RUN (R418, R420 step 9) -/

/-- Up to 256 entries of 64 bytes. -/
def checkAuto (c : Sec) : Nat := if c.payload.length % 64 = 0 ∧ c.payload.length ≤ 16384 then 0 else 4

/-- R418: one entry arrives as an item of the VF of its site; without a free entry it waits. -/
def State.autoItem (s : State) (x : Nat) (d : List Nat) : State :=
  if s.present x then
    if s.entryFree x then s.takeItem (s.newItem x 2 d)
    else { s with boot := { s.boot with auto := s.boot.auto ++ [(x, d)] } }
  else s

/-- The entries of an autorun section, in payload order. -/
def State.autorun (s : State) (c : Sec) : State :=
  (List.range (c.payload.length / 64)).foldl (fun a k =>
    a.autoItem (c.w (16 * k) % 16) ((List.range 12).map (fun j => c.w (16 * k + 4 + j)))) (s.markSec c)

/-- R332, R355: what RUN does to the regions of a site: the user area in force decides which are lost, and the rest are zeroed. -/
def State.runSite (s : State) (x : Nat) : State :=
  if s.present x ∧ s.validRegions x ≠ [] then
    (((s.dramZero x (s.validRegions x)).modSite x (fun t => { t with regionsLeft := s.validRegions x })).loseRegions x (s.beyond x)).zeroTraffic x
      (s.validRegions x)
  else s.setF F.SITE_SSTAT_SCRUB x 0

/-- R387, R420: RUN, `us` after PGOOD: BOOT clears and the first retraining pass has its time (R353). -/
def State.runNow (s : State) (us : Nat) : State :=
  let s1 := sites.foldl (fun a x => a.runSite x) ((s.setPhase 8).setF F.GLB_BOOTT_US 0 us)
  ({ s1 with boot := { s1.boot with trainDue := some (s1.nowNs + s1.trint) } } : State).bootOver

/-- R418, R420: autorun is queued and the chip runs. -/
def execBootRun (us : Nat) (s : State) : Res :=
  if s.phase = 7 then
    let im := s.image
    match im.find 6 with
    | [] => ok (s.runNow us)
    | p :: _ =>
      match s.takeSec im 6 p.1 p.2 checkAuto with
      | .ok c => ok ((s.autorun c).runNow us)
      | .error e => ok (s.bootFail e.1 e.2)
  else ok s

/-! ### Reload (R114, R115) -/

/-- R115: may engine `e` be reloaded: it is IDLE and no other engine is in RELOAD? -/
def State.reloadOk (s : State) (e : Nat) : Bool := s.engState e == 0 && engines.all (fun k => s.engState k != 4)

/-- R115: RELOAD, which only PF0 may write. -/
def execReload (fn : Fn) (e : Fin 16) (sec : Nat) (copy : Bool) (s : State) : Res :=
  if fn = .pf0 then
    let k := e.val
    let s1 := s.setFs k [(F.SE_CTL_RELSEC, sec), (F.SE_CTL_RELCOPY, if copy then 1 else 0)]
    if s.reloadOk k then
      ok ((s1.setF F.SE_STATE_STATE k 4).modEng k (fun g => { g with reload := some (sec % 256, copy) })).preempt
    else ok (s1.setF F.SE_STAT_RLD_REJ k 1)
  else ok s

/-- The control-store section that a reload names, if it verifies and names the engine. -/
def State.reloadSec (s : State) (e sec : Nat) (copy : Bool) : Option Sec :=
  match imgHdr s.boot.flash (if copy then 1 else 0) with
  | some h =>
    match s.loadSec h sec false (fun c => if c.w0 % 256 = 1 ∧ hasBit c.engm e then checkStore c else 4) with
    | .ok c => some c
    | .error _ => none
  | none => none

/-- R115 step 1: what a reload reads into DRAM staging (R341): the section that the copy's header names, whatever it holds. -/
def State.staged (s : State) (sec : Nat) (copy : Bool) : List Byte :=
  match imgHdr s.boot.flash (if copy then 1 else 0) with
  | some h => match h.secs[sec]? with
    | some r => flashBytes s.boot.flash (h.addr * 8388608 + r.off) r.len
    | none => []
  | none => []

/-- R115: the reload ends: the section stands in staging; store, mirror, version and digest are written, or nothing; the engine is idle again. -/
def execReloadDone (e : Fin 16) (s : State) : Res :=
  let k := e.val
  match (s.engOf k).reload with
  | none => ok s
  | some (sec, copy) =>
    let s0 : State := { s with boot := { s.boot with staging := s.staged sec copy } }
    let s1 := (s0.modEng k (fun g => { g with reload := none })).setF F.SE_STATE_STATE k (if s.engState k = 5 then 5 else 0)
    match s.reloadSec k sec copy with
    | some c => ok (((s1.loadStore k c 1).setF F.SE_STAT_RLD_DONE k 1).joinNow k)
    | none => ok ((s1.setF F.SE_STAT_RLD_FAIL k 1).joinNow k)

/-! ### Power states (R429, R430) -/

/-- STATE in force: 0 ACTIVE, 1 IDLE, 2 DORMANT, 3 STANDBY. -/
def State.pwr (s : State) : Nat := s.getF F.GLB_PWRSTAT_STATE 0

/-- A power request ends: BUSY clears and PF0 event 5 is raised (R446). -/
def State.pwrEnd (s : State) : State :=
  (({ s with boot := { s.boot with power := none } } : State).setF F.GLB_PWRSTAT_BUSY 0 0).raisePf 5

/-- R429: REQ with GO, from PF0: taken when nothing runs and its condition holds, else PWR_REJ. -/
def State.pwrReq (fn : Fn) (r : Nat) (cond : Bool) (go : State → State) (s : State) : Res :=
  if fn = .pf0 then
    let s1 := s.setF F.GLB_PWRCTL_REQ 0 r
    if !s.flag F.GLB_PWRSTAT_BUSY 0 && cond then
      ok (go (({ s1 with boot := { s1.boot with power := some r, pwrNs := s.nowNs } } : State).setF F.GLB_PWRSTAT_BUSY 0 1))
    else ok (s1.setF F.GLB_PWRSTAT_PWR_REJ 0 1)
  else ok s

/-- R429: no engine holds a burst, every stream slot is free, and no Saffron transaction runs. -/
def State.idleOk (s : State) : Bool :=
  engines.all (fun e => (s.engOf e).item.isNone && (s.engOf e).saved.isNone) &&
    [0, 1, 2, 3].all (fun k => (s.streamOf k).site.isNone) &&
    sites.all (fun x => (s.siteOf x).saf.begun.isEmpty && (s.siteOf x).saf.lead.isNone)

/-- R422: is a write of the NVM in progress? -/
def State.nvmBusy (s : State) : Bool :=
  s.boot.cmd.isSome || s.sumac.storing != 0 || s.sumac.clearing != 0 || (List.range 8).any (fun o => (s.octSt o).saving.isSome)

/-- R430, R434: STANDBY is entered once no NVM write is in progress: WAKEPOL is latched and PWR_EN goes low. A wake recognised in this
cycle counts as one after the fall. -/
def State.standbyTry (s : State) : State :=
  if s.boot.power = some 3 ∧ s.nvmBusy = false ∧ s.nutmeg.standby = false then
    let n := { s.nutmeg with wakePol := hasBit (settingsWord s.settings) 1, pwrEn := false, standby := true, wakeHeld := s.nutmeg.wakeNs == some s.nowNs }
    (({ s with nutmeg := n } : State).setF F.GLB_PWRSTAT_STATE 0 3).log (.pwrEn false)
  else s

/-- R429: ACTIVE, from IDLE. -/
def execPwrReqActive (fn : Fn) (s : State) : Res := s.pwrReq fn 0 (s.pwr == 1) id

/-- R429: IDLE, from ACTIVE. -/
def execPwrReqIdle (fn : Fn) (s : State) : Res := s.pwrReq fn 1 (s.pwr == 0 && s.idleOk) id

/-- R315, R429: DORMANT, from IDLE: the sleep vote is cast. -/
def execPwrReqDormant (fn : Fn) (s : State) : Res :=
  s.pwrReq fn 2 (s.pwr == 1 && !s.anyRun) (fun t => if t.getF F.FAB_SLPSTAT_STATE 0 = 0 then t.castVote else t)

/-- R429, R430: STANDBY, from IDLE or DORMANT. -/
def execPwrReqStandby (fn : Fn) (s : State) : Res := s.pwrReq fn 3 (s.pwr == 1 || s.pwr == 2) State.standbyTry

/-- Every TX pair follows. -/
def State.allPins (s : State) : State := s.pinsShow (List.range 64) s.now

/-- R351: regions that partial-array self-refresh does not keep, with those still to be zeroed. -/
def State.unkept (s : State) (x : Nat) : List Nat :=
  (s.validRegions x).filter (fun r => !hasBit (s.getF F.MEM_RETAIN_RET x) r || (s.siteOf x).regionsLeft.contains r)

/-- The line PLLs. -/
def linePlls : List Pll := [.line 0, .line 1, .line 2, .line 3]

/-- R351, R429: DORMANT: the line PLLs are off, and RETAIN in force decides what DRAM keeps. -/
def State.dormantIn (s : State) : State :=
  let s1 := ([0, 1, 2, 3].foldl (fun a n => a.setF F.CLK_LPSTAT_LOCK n 0) (s.setF F.GLB_PWRSTAT_STATE 0 2)).clockShow s.now
  (sites.filter (fun x => s.present x && (s.siteOf x).resetting == 0)).foldl (fun a x =>
    a.modSite x (fun t => { t with regionsLeft := s.unkept x })) s1

/-- R351, R429: back in IDLE: the line PLLs lock, and regions that were not kept are to be zeroed. -/
def State.dormantOut (s : State) : State :=
  let s1 := linePlls.foldl (fun a p => a.pllLock p) (s.setF F.GLB_PWRSTAT_STATE 0 1)
  let l := sites.filter (fun x => !(s.siteOf x).regionsLeft.isEmpty)
  l.foldl (fun a x => (a.dramZero x (s.siteOf x).regionsLeft).zeroTraffic x (s.siteOf x).regionsLeft) (s1.setAll F.SITE_SSTAT_SCRUB l 1)

/-- R429: a transition ends. -/
def execPowerTransitionDone (s : State) : Res :=
  match s.boot.power with
  | some 0 =>
    let s1 := (List.range 64).foldl (fun a c => a.modChan c (fun h => { h with held := true })) (s.setF F.GLB_PWRSTAT_STATE 0 0)
    ok s1.allPins.pwrEnd
  | some 1 => ok (s.setF F.GLB_PWRSTAT_STATE 0 1).allPins.pwrEnd
  | some 2 =>
    if s.getF F.FAB_SLPSTAT_STATE 0 = 3 then ok s.dormantIn.pwrEnd
    else if s.getF F.FAB_SLPSTAT_STATE 0 = 0 then ok (s.setF F.GLB_PWRSTAT_CANCELLED 0 1).pwrEnd
    else ok s
  | some _ => ok s.standbyTry
  | none => if s.pwr = 2 ∧ s.getF F.FAB_SLPSTAT_STATE 0 = 0 then ok s.dormantOut else ok s

/-- R316, R429, R430: WAKE is recognised: Nutmeg holds it in STANDBY; before PWR_EN has fallen it abandons the entry; otherwise it
is a wake request. -/
def execWakePin (s : State) : Res :=
  if s.nutmeg.standby then ok { s with nutmeg := { s.nutmeg with wakeHeld := true } }
  else
    let s1 : State := { s with nutmeg := { s.nutmeg with wakeNs := some s.nowNs } }
    if s.boot.power = some 3 then ok (s1.setF F.GLB_PWRSTAT_CANCELLED 0 1).pwrEnd
    else ok s1.wakeRequest

/-- R430: 10 ms have passed and a wake is held: PWR_EN goes high. -/
def execStandbyHoldEnd (s : State) : Res :=
  if s.nutmeg.standby && s.nutmeg.wakeHeld && !s.nutmeg.pwrEn then
    ok (({ s with nutmeg := { s.nutmeg with pwrEn := true, wakeHeld := false } } : State).log (.pwrEn true))
  else ok s

/-! ### NVM commands (R422 to R425) -/

/-- KEYARM and the key sequence end. -/
def State.keyOff (s : State) : State :=
  ({ s with boot := { s.boot with keySeq := 0 } } : State).setF F.NVM_STAT_KEYARM 0 0

/-- R424: a write to NVM_KEY. -/
def execNvmKey (fn : Fn) (data : Nat) (s : State) : Res :=
  if fn = .pf0 then
    let s1 := s.keyOff
    if data % 4294967296 = 0x53544F52 then ok { s1 with boot := { s1.boot with keySeq := 1 } }
    else if data % 4294967296 = 0xACABB0AD ∧ s.boot.keySeq = 1 then ok (({ s1 with boot := { s1.boot with keyNs := s.time.ticks } } : State).setF F.NVM_STAT_KEYARM 0 1)
    else ok s1
  else ok s

/-- R424: have the 10 µs of KEYARM passed, in ticks: a step of system time is no time that passes? -/
def State.keyPast (s : State) : Bool := decide (s.boot.keyNs + 10000 ≤ s.time.ticks)

/-- R424: 10 µs have passed. -/
def execKeyarmExpire (s : State) : Res := ok (if s.keyPast then s.setF F.NVM_STAT_KEYARM 0 0 else s)

/-- R424, R434: GO: it starts the command when armed, idle and allowed, and fails otherwise, as it does in the cycle in which KEYARM
expires; either way KEYARM is over. What a command writes is NVM_PSBUF as it stands at GO (DEDUCED from R423, log entry 68). -/
def State.nvmGo (s : State) (cmd slot : Nat) (allowed : Bool) : State :=
  let s1 := s.keyOff.setF F.NVM_CMD_CMD 0 cmd
  if s.flag F.NVM_STAT_KEYARM 0 && !s.keyPast && !s.flag F.NVM_STAT_BUSY 0 && allowed then
    ({ s1 with boot := { s1.boot with cmd := some (cmd, slot), cmdBuf := s.psbuf, cmdNs := s.nowNs } } : State).setF F.NVM_STAT_BUSY 0 1
  else s1.setF F.NVM_STAT_FAIL 0 1

/-- `n` bytes of NVM_PSBUF. -/
def State.psBytes (s : State) (n : Nat) : List Byte := (List.range n).map (fun k => Tbl.get (fun _ => 0#8) s.psbuf k)

/-- R424: STORE. -/
def execNvmStore (fn : Fn) (s : State) : Res := if fn = .pf0 then ok (s.nvmGo 1 0 true) else ok s

/-- R423: PROGRAM, into an EMPTY slot, a digest that is neither all 0x00 nor all 0xFF. -/
def execNvmProgram (fn : Fn) (slot : Fin 2) (s : State) : Res :=
  let d := s.psBytes 48
  if fn = .pf0 then
    ok ((s.setF F.NVM_CMD_SLOT 0 slot.val).nvmGo 2 slot.val
      (s.keyState slot.val == 0 && d.any (fun b => b != 0#8) && d.any (fun b => b != 255#8)))
  else ok s

/-- R423: REVOKE, of a VALID slot while the other is VALID. -/
def execNvmRevoke (fn : Fn) (slot : Fin 2) (s : State) : Res :=
  if fn = .pf0 then
    ok ((s.setF F.NVM_CMD_SLOT 0 slot.val).nvmGo 3 slot.val (s.keyState slot.val == 1 && s.keyState (1 - slot.val) == 1))
  else ok s

/-- `n` bytes of NVM_PSBUF as it stood at GO. -/
def State.cmdBytes (s : State) (n : Nat) : List Byte := (List.range n).map (fun k => Tbl.get (fun _ => 0#8) s.boot.cmdBuf k)

/-- R421, R423: the page of a key slot: its state and its digest. -/
def State.keyPage (s : State) (n st : Nat) : State :=
  s.nvmRecord 3 ((2 + n) * 1024) 256 (st :: (List.range 12).map (fun w => s.getF F.NVM_KDIG_DIG (n * 12 + w)))

/-- R424, R425: the settings page that STORE writes: FMT, SEQ and CRC are the device's. -/
def State.storedPage (s : State) : List Byte :=
  let b := s.cmdBytes 1020
  let body := [1#8] ++ (b.drop 1).take 3 ++ leBytes 4 (s.getF F.NVM_PSSEQ_SEQ 0 + 1) ++ b.drop 8
  body ++ leBytes 4 (crc32c body)

/-- A write of the NVM has completed. -/
def State.nvmWritten (s : State) (cmd n : Nat) : State :=
  match cmd with
  | 1 => (s.nvmPut (s.storePage * 1024) s.storedPage).setFs 0
      [(F.NVM_STAT_PSCOPY, s.storePage - 114), (F.NVM_STAT_PSVALID, 1), (F.NVM_PSSEQ_SEQ, s.getF F.NVM_PSSEQ_SEQ 0 + 1)]
  | 2 =>
    let t := (List.range 12).foldl (fun a w => a.setF F.NVM_KDIG_DIG (n * 12 + w) (w32 (s.cmdBytes 48) (4 * w))) s
    (t.keyPage n 1).setF (if n = 0 then F.NVM_KSTAT_K0 else F.NVM_KSTAT_K1) 0 1
  | _ => (s.keyPage n 2).setF (if n = 0 then F.NVM_KSTAT_K0 else F.NVM_KSTAT_K1) 0 2

/-- R434: does a STORE wait for a change of a recovery count that was due no later? -/
def State.storeWaits (s : State) : Bool :=
  (s.sumac.storing != 0 || s.sumac.clearing != 0) && decide (s.sumac.dueNs ≤ s.boot.cmdNs)

/-- R422, R424: the command in progress completes, or its write fails; PF0 event 6; a STANDBY entry that waited goes on. -/
def execNvmWriteDone (okd : Bool) (s : State) : Res :=
  match s.boot.cmd with
  | none => ok s
  | some (c, n) =>
    if c = 1 ∧ s.storeWaits then ok s
    else
    let after := fun (t : State) => (({ t with boot := { t.boot with cmd := none } } : State).setF F.NVM_STAT_BUSY 0 0).raisePf 6
    if okd then ok (after ((s.nvmWritten c n).setF F.NVM_STAT_DONE 0 1)).standbyTry
    else ok (after ((s.cmdCut.setF F.NVM_STAT_FAIL 0 1).faultLog 5 (if c = 1 then s.storePage else 2 + n))).standbyTry

/-! ### TAP (R470) -/

/-- R470: a TAP instruction; those that drive pins act in RESET, FAILED and NOKEY only, and are BYPASS otherwise. -/
def execJtagInstruction (ins : JtagIns) (s : State) : Res :=
  let free := ins == .bypass || ins == .samplePreload || s.phase == 0 || s.phase == 9 || s.phase == 10
  ok { s with tap := if free then ins else .bypass }

end Sys2Proof.Machine
end

