-- ==== Sys2Proof/Machine/Host.lean ====
section
/-! DEFINITION. The host interface: register writes, the VF aperture, rings, stream-in, events, FLR, and the trigger inputs (R5,
R435 to R447, R464, R465). -/

namespace Sys2Proof.Machine

/-! ### Register writes (R5, R436, R439, R440) -/

/-- R435: vendor, device and class code of a function, the bytes of its BAR and its MSI-X vectors. -/
def pciFunction (fn : Fn) : Nat × Nat × Nat × (Nat × Nat) :=
  match fn with
  | .pf0 => (0x1E5D, 0x6464, 0x118000, (0x4000000, 8))
  | .vf _ => (0x1E5D, 0x6465, 0x118000, (0x400000, 16))

/-- R440, R447: the base of a window for an access: in the cycle of a write of the base, the one before it. -/
def State.winBase (s : State) (i : Nat) : Nat :=
  let w := Tbl.get (fun _ => (0, 0)) s.winAt i
  if w.1 = s.nowNs + 1 then w.2 else s.getF F.HST_WIN_BASE i

/-- R440: the PF0 address behind an address of a function: BAR0 itself, or an offset of the VF aperture. -/
def State.busAddr (s : State) (fn : Fn) (addr : Nat) : Option Nat :=
  match fn with
  | .pf0 => if addr < 0x4000000 then some addr else none
  | .vf n =>
    if addr < 0x1000 then some (0x2C0000 + n.val * 0x1000 + addr)
    else if 0x10000 ≤ addr ∧ addr < 0x11000 then some (0x2D1000 + (addr - 0x10000))
    else if 0x11000 ≤ addr ∧ addr < 0x12000 then some (0x2D2000 + (addr - 0x11000))
    else if 0x12000 ≤ addr ∧ addr ≤ 0x1201F then some (0xC0000 + (addr - 0x12000))
    else if 0x100000 ≤ addr ∧ addr < 0x400000 then
      let a := s.winBase (n.val * 3 + (addr / 0x100000 - 1)) * 0x100000 + addr % 0x100000
      if 0x2D0000 ≤ a ∧ a < 0x300000 then none else some a
    else none

/-- Fields whose write is a command of its own, and is left to it. -/
def ownRow : List Fld :=
  [F.OCT_WFRING_RBASE, F.OCT_WFRING_RSIZE, F.OCT_TDCCTL_RUN, F.HST_RCFG_LOG2N, F.HST_RCFG_EN, F.HST_RPROD_PROD, F.HST_RCONS_CONS,
   F.HST_EVMSK_MSK, F.HST_WIN_BASE, F.MON_SEL_SEL, F.NVM_KEY_KEY, F.ACQ_TTRIG_HI_NS, F.SAF_STGD_DATA, F.DSP_SCTL_STOP]

/-- What a write of `v` does to one field, by its type (R5). A source that is active is one that STK shows (R401). -/
def State.fldWrite (s : State) (f : Fld) (ix v : Nat) : State :=
  if ownRow.contains f then s
  else
    match f.ty with
    | .rw | .sh => s.setF f ix v
    | .rwl => if s.phase = 8 then s else s.setF f ix v
    | .w1c => s.setF f ix ((s.getF f ix - (s.getF f ix &&& v)) ||| (if f = F.FLT_SSRC_STK then s.srcs ix else 0))
    | .ro | .wsc => s

/-- A word written to an instance of a register, field by field. -/
def State.wordWrite (s : State) (d : RegDesc) (ix data : Nat) : State :=
  d.flds.foldl (fun a f => a.fldWrite f ix (data / 2 ^ f.lo % 2 ^ f.width)) s

/-- The same without the fields that `bad` names. -/
def State.wordWriteBut (s : State) (d : RegDesc) (ix data : Nat) (bad : List Fld) : State :=
  d.flds.foldl (fun a f => if bad.contains f then a else a.fldWrite f ix (data / 2 ^ f.lo % 2 ^ f.width)) s

/-- Two registers are one. -/
def RegDesc.is (d e : RegDesc) : Bool := d.base == e.base

/-- R214, R215, R220, R221: what a write to an acquisition register of channel `c` may not hold: none when the whole write is
refused, else the fields that keep their values. -/
def State.acqRefuse (s : State) (d : RegDesc) (c data : Nat) : Option (List Fld) :=
  let run := s.flag F.ACQ_CTL_RUN c
  if run && [R.ACQ_CFG, R.ACQ_WIN, R.ACQ_POST, R.ACQ_ROV, R.ACQ_EYECFG, R.ACQ_ETHR].any (fun e => d.is e) then none
  else if d.is R.ACQ_CFG then
    if 5 ≤ bits data 4 2 then none
    else some ((if bits data 6 5 = 3 then [F.ACQ_CFG_TSLOPE] else []) ++
      (if s.owner (bits data 12 7) = s.owner c then [] else [F.ACQ_CFG_TCH]))
  else if d.is R.ACQ_WIN then
    if bits data 16 0 ≤ 65536 ∧ bits data 16 0 + s.getF F.ACQ_POST_POST c ≤ 126976 then some [] else none
  else if d.is R.ACQ_POST then
    if 1 ≤ bits data 16 0 ∧ s.getF F.ACQ_WIN_PRE c + bits data 16 0 ≤ 126976 then some [] else none
  else if d.is R.ACQ_ROV then some (if 4 ≤ bits data 12 8 ∧ bits data 12 8 ≤ 20 then [] else [F.ACQ_ROV_DWELL])
  else some []

/-- R232, R233: the same for the TDC registers of channel `c`. -/
def State.tdcRefuse (s : State) (d : RegDesc) (c data : Nat) : Option (List Fld) :=
  let run := s.flag F.OCT_TDCCTL_RUN (chIx c)
  if run && (d.is R.OCT_TDCCFG || d.is R.OCT_TDCREF) then none
  else if d.is R.OCT_TDCCFG then
    some ((if s.owner (bits data 7 2) = s.owner c then [] else [F.OCT_TDCCFG_STOPCH]) ++
      (if 11 ≤ bits data 11 8 then [F.OCT_TDCCFG_EDIV] else []) ++ (if bits data 31 16 = 0 then [F.OCT_TDCCFG_FGATE] else []))
  else some []

/-- A write that a rule may refuse in whole or in part, with the field that says so. -/
def State.refusing (s : State) (d : RegDesc) (ix data : Nat) (r : Option (List Fld)) (rej : Fld) : State :=
  match r with
  | none => s.setF rej ix 1
  | some [] => s.wordWrite d ix data
  | some l => (s.wordWriteBut d ix data l).setF rej ix 1

/-- R446: an MSI-X entry that is unmasked sends the message that it held back. -/
def State.msixFree (s : State) (k f : Nat) : State :=
  if s.getF F.MSIX_CTRL_MASK (k * 17 + f) = 0 ∧ hasBit (s.getF F.MSIX_PBA_PEND f) k ∧ hasBit s.msixEn f then
    (s.setF F.MSIX_PBA_PEND f (clearBit (s.getF F.MSIX_PBA_PEND f) k)).msix f k
  else s

/-- R78: the slot registers that stay as they are while the slot is not free. -/
def streamRegs : List RegDesc :=
  [R.MEM_VSBASE_LO, R.MEM_VSBASE_HI, R.MEM_VSLEN, R.MEM_VSCFG, R.MEM_VSFBASE, R.MEM_VSRATE, R.MEM_VSCHM_LO, R.MEM_VSCHM_HI]

/-- R442: LOG2N of a disabled ring, by a write that leaves EN at 0. -/
def State.ringCfg (s : State) (ix data : Nat) : State :=
  if s.flag F.HST_RCFG_EN ix || hasBit data 31 then s else s.setF F.HST_RCFG_LOG2N ix data

/-- R447: W1C of event bits: one whose event comes in the same cycle ends 1, and sends its message if the event has sent none. -/
def State.evtClear (s : State) (f data : Nat) : State :=
  ((List.range 16).filter (fun k => hasBit data k && hasBit (s.getF F.HST_EVT_EVT f) k)).foldl (fun a k =>
    let off := a.setF F.HST_EVT_EVT f (clearBit (a.getF F.HST_EVT_EVT f) k)
    match Tbl.get (fun _ => none) s.evAt (f * 16 + k) with
    | some (t, stood) =>
      if Time.toNs t ≠ s.nowNs then off
      else if stood && !hasBit (s.getF F.HST_EVMSK_MSK f) k then a.msix f k
      else a
    | none => off) s

/-- A write that may act, by the rules of the register it names. The dividers and the spread of a line PLL are register initialisation's
alone to set (R362). -/
def State.regAct (s : State) (d : RegDesc) (ix data : Nat) : State :=
  if d.rd = .acq then s.refusing d ix data (s.acqRefuse d ix data) F.ACQ_STAT_CFG_REJ
  else if d.is R.OCT_TDCCFG || d.is R.OCT_TDCREF then s.refusing d ix data (s.tdcRefuse d ix data) F.OCT_TDCSTAT_CFG_REJ
  else if streamRegs.any (fun e => d.is e) && s.getF F.MEM_VSSTAT_STATE ix != 0 then s
  else if d.is R.HST_RBASE_LO || d.is R.HST_RBASE_HI then if s.flag F.HST_RCFG_EN ix then s else s.wordWrite d ix data
  else if d.is R.HST_EVT then s.evtClear ix data
  else if d.is R.HST_RCFG then s.ringCfg ix data
  else if d.is R.MSIX_CTRL then (s.wordWrite d ix data).msixFree (ix / 17) (ix % 17)
  else if d.is R.FLT_CFG then if s.phase = 8 then s else (s.wordWrite d ix data).fltinShow.sumacShow
  else if d.is R.CLK_LPCFG then (s.wordWriteBut d ix data [F.CLK_LPCFG_RDIV, F.CLK_LPCFG_NDIV]).clockShow s.now
  else if d.is R.CLK_LPSSC then s
  else if d.is R.NVM_CMD && hasBit data 4 && (bits data 2 0 == 0 || decide (4 ≤ bits data 2 0)) then
    (s.wordWrite d ix data).setF F.NVM_STAT_FAIL 0 1
  else s.wordWrite d ix data

/-- Is a write of a function one of a control of its site (R334)? Registers that every function has are not. -/
def isControl (d : RegDesc) : Bool := !(d.perFn || decide (0x2C0000 ≤ d.base ∧ d.base < 0x300000))

/-- A 32-bit write to a PF0 address. Any PF0 write to the NVM block ends KEYARM (R424). -/
def State.regWrite (s : State) (fn : Fn) (a data : Nat) : Res :=
  let s0 := if fn = .pf0 && decide (0x40000 ≤ a) && decide (a < 0x80000) then s.keyOff else s
  match findRegFor fn a with
  | none => ok s0
  | some h =>
    if h.live || !s0.mayWrite fn h.desc h.ix then ok s0
    else
      s0.hostOrder fn (isControl h.desc) h.desc h.ix data (fun t =>
        ok ((match fn with | .vf n => if h.desc.wr = WAcc.vs then t.vsFor (h.desc.outer h.ix) n.val else t | .pf0 => t).regAct h.desc (h.desc.copy fn h.ix) (data % 4294967296)))

/-- R433, R436: a write into NVM_PSBUF. -/
def State.psWrite (s : State) (off size data : Nat) : State :=
  let s1 := s.keyOff
  { s1 with psbuf := (List.range size).foldl (fun m j =>
      Tbl.set (fun _ => 0#8) m (off + j) (BitVec.ofNat 8 (data / 256 ^ j))) s1.psbuf }

/-- Is an address that of a register which is made on reading: a peer register, store read-back or a condition word (R310, R111)? -/
def madeAddr (a : Nat) : Bool :=
  (decide (0x100504 ≤ a) && decide (a < 0x100510)) ||
    (decide (0x2000000 ≤ a) && decide (a < 0x2400000) &&
      ((decide (0x20 ≤ a % 0x40000) && decide (a % 0x40000 < 0x3C)) || (decide (0xE0 ≤ a % 0x40000) && decide (a % 0x40000 < 0xE8))))

/-- R436: SZ in the HST_ERR of the function that made the access. -/
def State.sizeErr (s : State) (fn : Fn) : State := s.hstErr (fnIx fn) F.HST_ERR_SZ

/-- R436, R439, R440: a write of `size` bytes at an address of a function. -/
def execRegisterWrite (fn : Fn) (addr size data : Nat) (s : State) : Res :=
  if fn = .pf0 || s.vfLive fn then
    match s.busAddr fn addr with
    | none => ok s
    | some a =>
      if 0x40400 ≤ a ∧ a < 0x40800 then
        if fn = .pf0 && winSize (a - 0x40400) size && decide (a + size ≤ 0x40800) then ok (s.psWrite (a - 0x40400) size data) else ok s
      else if size = 4 ∧ a % 4 = 0 then s.regWrite fn a data
      else if size = 8 ∧ a % 8 = 0 then
        match s.regWrite fn a (data % 4294967296) with
        | .next t => t.regWrite fn (a + 4) (data / 4294967296)
        | r => r
      else if (findRegFor fn (a / 4 * 4)).isSome || madeAddr a then ok (s.sizeErr fn)
      else ok s
  else ok s

/-! ### Rings (R441 to R444) -/

/-- Index of ring `r` of VF `n`. -/
def ringIx (n r : Nat) : Nat := n * 4 + r

/-- LOG2N of a ring that may be enabled (R441). -/
def ringSize (r l : Nat) : Bool := decide (3 ≤ l) && decide (l ≤ if r = 2 then 12 else 16)

/-- R442: EN = 1. -/
def execRingEnable (vf : Fin 16) (ring : Fin 4) (log2n : Nat) (s : State) : Res :=
  let i := ringIx vf.val ring.val
  if s.vfLive (.vf vf) && !s.flag F.HST_RCFG_EN i then
    let s1 := s.setF F.HST_RCFG_LOG2N i log2n
    if ringSize ring.val (log2n % 32) then
      let s2 := ({ s1 with prodAt := Tbl.set (fun _ => (0, 0)) s.prodAt i (0, 0) } : State).setFs i
        [(F.HST_RCFG_EN, 1), (F.HST_RPROD_PROD, 0), (F.HST_RCONS_CONS, 0)]
      ok (if ring.val = 3 then s2.modSite vf.val (fun q => { q with siTaken := 0 }) else s2)
    else ok (s1.hstErr vf.val F.HST_ERR_CFGERR)
  else ok s

/-- R442: EN = 0. -/
def execRingDisable (vf : Fin 16) (ring : Fin 4) (s : State) : Res :=
  ok (if s.vfLive (.vf vf) then s.setF F.HST_RCFG_EN (ringIx vf.val ring.val) 0 else s)

/-- PROD − CONS for counts of a ring. -/
def ringFill (prod cons : Nat) : Nat := (prod + 4294967296 - cons) % 4294967296

/-- R447: PROD of a ring as the device sees it: the new slots of a write are there from the next cycle on. -/
def State.prodSeen (s : State) (i : Nat) : Nat :=
  let w := Tbl.get (fun _ => (0, 0)) s.prodAt i
  if w.1 = s.nowNs + 1 then w.2 else s.getF F.HST_RPROD_PROD i

/-- R442: a host write of its own count, which then reads `prod` and `cons`: it may not go back or exceed the ring. -/
def State.countWrite (s : State) (n r : Nat) (f : Fld) (new prod cons : Nat) : State :=
  let i := ringIx n r
  if !s.flag F.HST_RCFG_EN i then s
  else if 2147483648 ≤ ringFill new (s.getF f i) ∨ 2 ^ s.getF F.HST_RCFG_LOG2N i < ringFill prod cons then s.hstErr n F.HST_ERR_PTRERR
  else ({ s with prodAt := Tbl.set (fun _ => (0, 0)) s.prodAt i (s.nowNs + 1, s.prodSeen i) } : State).setF f i new

/-- R442, R443: PROD of the submission ring. -/
def execSubmitProdWrite (vf : Fin 16) (prod : Nat) (s : State) : Res :=
  let p := prod % 4294967296
  ok (if s.vfLive (.vf vf) then s.countWrite vf.val 0 F.HST_RPROD_PROD p p (s.getF F.HST_RCONS_CONS (ringIx vf.val 0)) else s)

/-- R442, R445: PROD of the stream-in ring. -/
def execStreamInProdWrite (vf : Fin 16) (prod : Nat) (s : State) : Res :=
  let p := prod % 4294967296
  ok (if s.vfLive (.vf vf) then s.countWrite vf.val 3 F.HST_RPROD_PROD p p (s.getF F.HST_RCONS_CONS (ringIx vf.val 3)) else s)

/-- R442: CONS of the completion and result-page rings; CONS of the other two is not the host's. -/
def execConsWrite (vf : Fin 16) (ring : Fin 4) (cons : Nat) (s : State) : Res :=
  let r := ring.val
  let c := cons % 4294967296
  ok (if s.vfLive (.vf vf) && (r == 1 || r == 2) then
    s.countWrite vf.val r F.HST_RCONS_CONS c (s.getF F.HST_RPROD_PROD (ringIx vf.val r)) c else s)

/-- Does the device have a slot of a ring that the host fills (rings 0 and 3)? -/
def State.slotWaits (s : State) (n r : Nat) : Bool :=
  let i := ringIx n r
  s.vfLive (.vf (Fin.ofNat 16 n)) && s.flag F.HST_RCFG_EN i && s.prodSeen i != s.getF F.HST_RCONS_CONS i

/-- R261: is the VF's turn: an entry is free, and no post, fabric item or autorun item of the site waits? -/
def State.vfTurn (s : State) (x : Nat) : Bool :=
  s.entryFree x && !s.postWaits x && (s.siteOf x).fabItems.isEmpty && s.boot.auto.all (fun p => p.1 != x)

/-- R257, R258, R443: the read of slot CONS completes and its item arrives; bytes 48 to 63 that are not 0 reject it. -/
def execSubmitSlotRead (vf : Fin 16) (slot : List Nat) (ok : Bool) (s : State) : Res :=
  let x := vf.val
  if s.slotWaits x 0 && s.vfTurn x then
    if ok then
      let i := s.newItem x 2 ((List.range 12).map (fun k => slot.getD k 0 % 4294967296))
      let s1 := if [12, 13, 14, 15].any (fun k => slot.getD k 0 % 4294967296 != 0) then s.reject i 1 else s.takeItem i
      .next (s1.incF F.HST_RCONS_CONS (ringIx x 0))
    else .next (s.hstErr x F.HST_ERR_DMAERR)
  else .next s

/-- R444: the next released record goes to its slot, its last four bytes in a later write, and PROD and CSEQ advance. -/
def execCompletionWrite (vf : Fin 16) (s : State) : Res :=
  let x := vf.val
  match (s.siteOf x).released, s.freeSlot x 1 32 with
  | r :: rest, some a =>
    let q := s.getF F.HST_CQSEQ_CSEQ x
    let s1 := (s.log (.dma (.vf vf) a (r.flatMap (leBytes 4) ++ leBytes 4 q ++ leBytes 8 0))).log
      (.dma (.vf vf) (a + 28) (leBytes 4 (4294967295 - q)))
    ok ((((s1.modSite x (fun t => { t with released := rest })).incF F.HST_RPROD_PROD (ringIx x 1)).incF F.HST_CQSEQ_CSEQ x).raiseVf x 0)
  | _, _ => ok s

/-! ### Stream-in (R445) -/

/-- R445: the RSN of the first check that a descriptor fails; 0 when it passes. -/
def State.streamInCheck (s : State) (x : Nat) (w : List Nat) : Nat :=
  let g := fun k => w.getD k 0 % 4294967296
  let kind := bits (g 0) 1 0
  let o := bits (g 0) 4 2
  let len := g 1
  let unit := if kind = 0 then 4 else if kind = 1 then 64 else 2048
  let resv := kind == 3 || bits (g 0) 31 5 != 0 || g 2 % 4 != 0 || g 6 != 0 || g 7 != 0 ||
    (kind == 0 && (bits (g 4) 31 22 != 0 || g 5 != 0)) || (kind == 1 && bits (g 5) 31 4 != 0) || (kind == 2 && (g 4 != 0 || g 5 != 0))
  if resv then 1
  else if len = 0 ∨ len % unit ≠ 0 then 2
  else if kind = 0 then
    if s.rowBase x o ≤ g 4 ∧ g 4 + len / 4 ≤ s.rowBase x o + s.rowCount x o then 0 else 3
  else if kind = 1 then
    let a := g 4 + g 5 * 4294967296
    if (List.range 16).any (fun r => s.regUsable x r && decide (s.regLo x r ≤ a) && decide (a + len ≤ s.regHi x r)) then 0 else 3
  else if !s.ownsOct x o || s.getF F.OCT_WFRING_RSIZE o == 0 then 4 else 0

/-- Bytes that a descriptor brings, written where it says; those for DRAM are HOST traffic (R21). While the site's memory is being zeroed they
are ignored (R333). -/
def State.streamInPut (s : State) (x : Nat) (w : List Nat) (data : List Byte) : State :=
  let g := fun k => w.getD k 0 % 4294967296
  let o := bits (g 0) 4 2
  if s.flag F.SITE_SSTAT_SCRUB x then s
  else
    match bits (g 0) 1 0 with
    | 0 => data.zipIdx.foldl (fun a p => a.bbWriteByte x o (g 4 * 4 + p.2) p.1.toNat) s
    | 1 =>
      let at0 := g 4 + g 5 * 4294967296
      (data.zipIdx.foldl (fun a p => a.setDram (a.physOf x (a.getF F.MEM_DBLFRONT_FRONT x) (at0 + p.2)) p.1) s).traffic 2 x at0
        ((data.length + 63) / 64)
    | _ => (List.range (data.length / 2048)).foldl (fun a k => a.granule o ((data.drop (2048 * k)).take 2048)) s

/-- R159, R445: how many granules of a segment-ring descriptor the ring has slots for: granule g is taken once g is below
RPTR + RSIZE. -/
def State.wfRoom (s : State) (w : List Nat) : Nat :=
  let o := bits (w.getD 0 0) 4 2
  ((s.getF F.OCT_WFRING_RSIZE o : Int) - s.ringAhead o).toNat

/-- R159, R445: does a segment-ring descriptor wait for room in the ring: are there granules of it, beyond the `n` taken, that no slot can
take? -/
def State.ringFull (s : State) (w : List Nat) (n : Nat) : Bool :=
  bits (w.getD 0 0) 1 0 == 2 && decide (s.wfRoom w < w.getD 1 0 % 4294967296 / 2048 - n)

/-- R445: the next descriptor ends: it is refused, its data are written, or its host read failed after `data`. One for a segment ring that has
no slots for all its granules gives those it has slots for, and waits with the rest (R159); one for DRAM waits until the HOST traffic of the
descriptors before it has been served (R326). One in progress completes also once EN is 0 (R442). -/
def execStreamInDescriptor (vf : Fin 16) (desc : List Nat) (data : List Byte) (ok : Bool) (s : State) : Res :=
  let x := vf.val
  let i := ringIx x 3
  if s.slotWaits x 3 || (s.vfLive (.vf vf) && (s.siteOf x).siTaken != 0) then
    let n := (s.siteOf x).siTaken
    let r := if n = 0 then s.streamInCheck x desc else 0
    let len := desc.getD 1 0 % 4294967296
    let ends := fun (t : State) => (t.modSite x (fun q => { q with siTaken := 0 })).incF F.HST_RCONS_CONS i
    let fail := fun (t : State) (n : Nat) =>
      (ends (t.setFs x [(F.HST_SIERR_IDX, s.getF F.HST_RCONS_CONS i), (F.HST_SIERRC_RSN, n)])).raiseVf x 3
    let body := if ok then padTo len (data.take len) else data.take len
    if r ≠ 0 then .next (fail s r)
    else if bits (desc.getD 0 0) 1 0 = 1 ∧ s.waiting 2 x = true then .next s
    else if ok && s.ringFull desc n then
      let k := s.wfRoom desc
      .next ((s.streamInPut x desc ((body.drop (2048 * n)).take (2048 * k))).modSite x (fun q => { q with siTaken := n + k }))
    else
      let s1 := s.streamInPut x desc (body.drop (2048 * n))
      .next (if ok then (ends s1).raiseVf x 2 else fail s1 5)
  else .next s

/-! ### Windows, events, resets of the endpoint (R440, R446, R464) -/

/-- R440: a window base. -/
def execWindowBaseWrite (vf : Fin 16) (k : Fin 3) (base : Nat) (s : State) : Res :=
  let i := vf.val * 3 + k.val
  ok (if s.vfLive (.vf vf) then
    (({ s with winAt := Tbl.set (fun _ => (0, 0)) s.winAt i (s.nowNs + 1, s.winBase i) } : State).setF F.HST_WIN_BASE i base)
  else s)

/-- R446: HST_EVMSK: events that are unmasked while they stand send their messages. -/
def execEvmskWrite (fn : Fn) (mask : Nat) (s : State) : Res :=
  let f := fnIx fn
  let m := if fn = .pf0 then mask % 256 else mask % 65536
  if fn = .pf0 || s.vfLive fn then
    ok ((List.range 16).foldl (fun a k =>
      if hasBit (s.getF F.HST_EVMSK_MSK f) k && !hasBit m k && hasBit (s.getF F.HST_EVT_EVT f) k then a.msix f k else a)
      (s.setF F.HST_EVMSK_MSK f m))
  else ok s

/-- Fields at their reset values. -/
def State.clearFs (s : State) (l : List (Fld × Nat)) : State := l.foldl (fun a p => a.setF p.1 p.2 (p.1.reset p.2)) s

/-- The MSI-X table and pending bits of a function. -/
def msixFlds (f : Nat) : List (Fld × Nat) :=
  (F.MSIX_PBA_PEND, f) :: (List.range 16).flatMap (fun k =>
    [(F.MSIX_ADDR_LO_ADDR, k * 17 + f), (F.MSIX_ADDR_HI_ADDR, k * 17 + f), (F.MSIX_DATA_DATA, k * 17 + f), (F.MSIX_CTRL_MASK, k * 17 + f)])

/-- The host register group of a VF but HST_CQSEQ (R440). -/
def groupFlds (n : Nat) : List (Fld × Nat) :=
  (List.range 4).flatMap (fun r =>
    [(F.HST_RBASE_LO_BASE, ringIx n r), (F.HST_RBASE_HI_BASE, ringIx n r), (F.HST_RCFG_LOG2N, ringIx n r), (F.HST_RCFG_EN, ringIx n r),
     (F.HST_RPROD_PROD, ringIx n r), (F.HST_RCONS_CONS, ringIx n r)]) ++
  [(F.HST_SIERR_IDX, n), (F.HST_SIERRC_RSN, n), (F.HST_EVT_EVT, n), (F.HST_EVMSK_MSK, n), (F.HST_WIN_BASE, n * 3), (F.HST_WIN_BASE, n * 3 + 1),
   (F.HST_WIN_BASE, n * 3 + 2), (F.HST_ERR_SZ, n), (F.HST_ERR_CFGERR, n), (F.HST_ERR_PTRERR, n), (F.HST_ERR_DMAERR, n)]

/-- R440: the Function Level Reset of a VF. -/
def execVfFlr (vf : Fin 16) (s : State) : Res :=
  ok (if vf.val < s.numVfs then s.clearFs (groupFlds vf.val ++ msixFlds vf.val) else s)

/-- R464: PE_PERST_N: every host register group and MSI-X table. -/
def execPerst (s : State) : Res :=
  ok ((sites.foldl (fun a n => a.clearFs (groupFlds n ++ msixFlds n)) s).clearFs
    ([(F.HST_EVT_EVT, 16), (F.HST_EVMSK_MSK, 16), (F.HST_ERR_SZ, 16)] ++ msixFlds 16))

/-! ### Trigger inputs (R214, R465) -/

/-- The slots of a site that a ball feeds. -/
def State.slotsOf (s : State) (x b : Nat) : List Nat := [0, 1, 2, 3].filter (fun k => s.trgInSlot x k == some b)

/-- A level at the slots of every site; a rising one triggers acquisition at the 1 ns tick of the host island that registers it. -/
def State.trigLevel (s : State) (b : Nat) (level : Bool) : State :=
  (sites.filter (fun x => s.present x)).foldl (fun a x => (s.slotsOf x b).foldl (fun c k =>
    let c1 := c.modSite x (fun t => { t with trigIn := if level then setBit t.trigIn k else clearBit t.trigIn k })
    if level && s.rxOn then c1.acqTrigIn x k (Time.ofNs (Time.toNs (s.localNow 11))) else c1) a) s

/-- R465: a TRGn level is registered. -/
def execTrgInEdge (ball : Fin 16) (level : Bool) (s : State) : Res :=
  let b := ball.val
  if hasBit s.trgIn b = level then ok s
  else ok (({ s with trgIn := if level then setBit s.trgIn b else clearBit s.trgIn b } : State).trigLevel b level)

end Sys2Proof.Machine
end

