-- ==== Sys2Proof/Machine/Mon.lean ====
section
/-! DEFINITION. The monitor converter (R403 to R410). -/

namespace Sys2Proof.Machine

/-- R405: the code of a conversion, clamped to its scale. -/
def monCode (raw : Int) : Nat := (max 0 (min 65535 raw)).toNat

/-- R403: what code `c` of input `i` stands for, as a fraction: volts, and degrees Celsius of the die temperatures. -/
def monValue (i c : Nat) : Int × Nat :=
  if i = 24 ∨ i = 25 then ((c : Int) - 16384, 256)
  else (12 * (c * (if i = 28 ∨ i = 29 then 2 else if i = 30 then 5 else 1) : Nat), 655360)

/-- The tracker of a clean or over-range conversion. -/
def MonSt.track (m : MonSt) (c : Nat) : MonSt := { m with min := Nat.min m.min c, max := Nat.max m.max c }

/-- R407, R408: a clean conversion of input `i`. -/
def State.monClean (s : State) (i c : Nat) : State :=
  let m := (s.monOf i).track c
  if m.cnt + 1 < 4294967296 then s.setMon i { m with sum := m.sum + c, cnt := m.cnt + 1 }
  else (s.setMon i m).setF F.MON_FLG_SATF i 1

/-- R404 to R408: a conversion of the input selected at its start ends: over-range, discarded, or clean. -/
def execConversionEnd (raw : Int) (s : State) : Res :=
  if s.sumac.vio then
    let i := s.mon0
    let left := s.getF F.MON_STAT_DLEFT 0
    let s1 := (s.setF F.MON_STAT_CUR 0 i).incF F.MON_CONV_CNT 0
    let s2 :=
      if raw < 0 ∨ 65535 < raw then
        (((s1.setMon i ((s1.monOf i).track (monCode raw))).setF F.MON_FLG_OVR i 1).satF F.MON_OVRCNT_CNT i 1).setF F.MON_STAT_DLEFT 0 2
      else if left ≠ 0 then (s1.satF F.MON_DISC_CNT i 1).setF F.MON_STAT_DLEFT 0 (left - 1)
      else s1.monClean i raw.toNat
    ok { s2 with mon0 := s.getF F.MON_SEL_SEL 0 }
  else ok s

/-- R406: the selection of the next conversion start. -/
def execMonSelect (fn : Fn) (sel : Nat) (s : State) : Res :=
  ok (if fn = .pf0 then s.setF F.MON_SEL_SEL 0 sel else s)

/-- R409: SNAP. -/
def execMonSnap (fn : Fn) (s : State) : Res :=
  if fn = .pf0 then
    let s1 := (List.range 32).foldl (fun a i =>
      let m := s.monOf i
      a.setFs i [(F.MON_SUM_LO_SUM, m.sum), (F.MON_SUM_HI_SUM, m.sum / 4294967296), (F.MON_CNT_CNT, m.cnt), (F.MON_MM_MIN, m.min),
        (F.MON_MM_MAX, m.max)]) s
    ok (s1.setF F.MON_SNT_NS 0 (Time.ns32 (s.localNow 11)))
  else ok s

/-- R409: CLR. -/
def execMonClr (fn : Fn) (s : State) : Res :=
  if fn = .pf0 then
    ok ((List.range 32).foldl (fun a i => (a.setMon i {}).setFs i [(F.MON_OVRCNT_CNT, 0), (F.MON_DISC_CNT, 0), (F.MON_FLG_SATF, 0)]) s)
  else ok s

end Sys2Proof.Machine
end

