-- ==== Sys2Proof/Machine/Tick.lean ====
section
/-! DEFINITION. The tick of the timebase (R273), which ends a cycle. -/

namespace Sys2Proof.Machine

/-- What a cycle brings beside its commands: what the coincidence rules leave to its end (R293), and what the comparison of a returning slice
finds (R381). -/
def State.cycleEnd (s : State) : State := (List.range 8).foldl (fun a o => a.clvWatch o) (sites.foldl (fun a x => a.safCycle x) s)

/-- R273, R275: the count advances by the TBS_INC in force at this tick, also where no INC_APPLY has said that its tick has come
(R16); NS passing 0xFFFF_FFFF sets WRAPF. Every copy advances with it. The cycle
that ends settles first what its coincidences left open. -/
def execTimebaseTick (s0 : State) : Res :=
  let s := s0.cycleEnd.runIncs
  let v := s.nowFix + s.inc
  let s1 := s.setNow v
  let s2 := if v / 18446744073709551616 = s.nowFix / 18446744073709551616 then s1 else s1.setF F.TBS_STAT_WRAPF 0 1
  let s3 := ({ s2 with time := { s2.time with ticks := s2.time.ticks + 1 } } : State).runLoads
  ok (if v / 4294967296 / 1000 = s.nowFix / 4294967296 / 1000 then s3 else s3.microsecond)

end Sys2Proof.Machine
end

