-- ==== Sys2Proof/Machine/Timed.lean ====
section
/-! DEFINITION. Timed actions in the islands (R18): arming, the late rules (R156, R178, R216, R242, R245), and the action at its
target. -/

namespace Sys2Proof.Machine

/-- The target of a request. -/
def reqTarget (r : TimedReq) : Time :=
  match r with
  | .segStart _ _ _ t => t
  | .launch _ _ t => t
  | .classF _ t => t
  | .classX _ t => t
  | .acqTrig _ t => t

/-- A request is armed in an island. -/
def State.armReq (s : State) (isl : Nat) (r : TimedReq) : State :=
  { s with time := { s.time with armed := s.time.armed ++ [(isl, r)] } }

/-- The late rule of each function (R18). -/
def State.lateReq (s : State) (r : TimedReq) : State :=
  match r with
  | .segStart o _ _ _ => (s.setF F.OCT_WFSTAT_TRGLATE o.val 1).incF F.OCT_WFTRGCNT_TRGCNT o.val
  | .launch c id _ => s.modLane c.val (fun l => { l with
      queue := l.queue.map (fun q => if q.id = id ∧ q.timed then { q with armed := false } else q) })
  | .classF x _ =>
    match (s.siteOf x.val).frozen with
    | some (m, f) =>
      let g := (f + 1) % 4294967296
      (s.modSite x.val (fun t => { t with frozen := some (m, g) })).setF F.SITE_BFPEND_F x.val g
    | none => s
  | .classX x _ =>
    match (s.safOf x.val).begun.find? (fun b => b.held) with
    | some b => (s.modSaf x.val (fun t => t.modBegun b.txid (fun b => { b with
        target := (b.target + 1) % 4294967296, deferred := true }))).safShow x.val
    | none => s
  | .acqTrig c _ => s.setF F.ACQ_STAT_TMISS c.val 1

/-- What of a request has left for its island: a segment start must have been sent by its octet (R156). -/
def State.reqArrive (s : State) (req : TimedReq) : Option State :=
  match req with
  | .segStart o trg flash t => s.segArrive o.val trg flash t
  | .launch _ _ _ => some s
  | .classF _ _ => some s
  | .classX _ _ => some s
  | .acqTrig _ _ => some s

/-- R18: a request arrives in its island: armed when it is held at least 16 ns of local time before its target, else late. -/
def execTimedRequestArrive (isl : Nat) (req : TimedReq) (s : State) : Res :=
  match s.reqArrive req with
  | some t => ok (if t.inTime isl (reqTarget req) then t.armReq isl req else t.lateReq req)
  | none => ok s

/-- The armed request of an island with the earliest target, and the others. -/
def firstArmed (isl : Nat) (l : List (Nat × TimedReq)) : Option (TimedReq × List (Nat × TimedReq)) :=
  let here := l.filter (fun p => p.1 == isl)
  let soon := here.foldl (fun m p => min m (reqTarget p.2)) ((here.head?.map (fun p => reqTarget p.2)).getD 0)
  (takeFirst (fun p => p.1 == isl && reqTarget p.2 == soon) l).map (fun q => (q.1.2, q.2))

/-- What an armed request does at its target. A pulse or code that is armed leaves at it whatever has become of its segment since (DESIGN
CHOICE, log entry 49). A launch and the commits of both classes have rows of their own for what follows
(LAUNCH_HEAD, PREAMBLE_START, GAP_APPLY). The fine delay places a segment start's pulse to its own LSB (R474). -/
def State.timedAct (s : State) (r : TimedReq) : State :=
  match r with
  | .segStart o trg flash t =>
    match s.octOwner o.val with
    | some x =>
      let s1 := s.pulses x trg (Time.ofQ (Time.toQ t))
      if flash % 16 = 0 then s1 else s1.codeFlash x (flash % 16)
    | none => s
  | .launch _ _ _ => s
  | .classF _ _ => s
  | .classX _ _ => s
  | .acqTrig c t => if s.getF F.ACQ_CFG_TSRC c.val = 3 then s.acqTrigger c.val t else s

/-- R18: the earliest armed request of an island takes effect. -/
def execTimedAction (isl : Nat) (s : State) : Res :=
  match firstArmed isl s.time.armed with
  | some (r, rest) => ok (({ s with time := { s.time with armed := rest } } : State).timedAct r)
  | none => ok s

end Sys2Proof.Machine
end

