-- ==== Sys2Proof/Machine/Dispatch.lean ====
section
/-! DEFINITION. The effect of each command, one arm per constructor. -/

namespace Sys2Proof.Machine

def exec (i : Instr) (s : State) : Host.Outcome State Fault Refusal :=
  match i with
  | .timebaseTick => Sys2Proof.Machine.execTimebaseTick s
  | .beaconSend => Sys2Proof.Machine.execBeaconSend s
  | .beaconArrive isl => Sys2Proof.Machine.execBeaconArrive isl s
  | .incApply => Sys2Proof.Machine.execIncApply s
  | .timedRequestArrive isl req => Sys2Proof.Machine.execTimedRequestArrive isl req s
  | .timedAction isl => Sys2Proof.Machine.execTimedAction isl s
  | .wordIssue e upset => Sys2Proof.Machine.execWordIssue e upset s
  | .mchkRewriteDone e mirrorBad upset => Sys2Proof.Machine.execMchkRewriteDone e mirrorBad upset s
  | .wordResolve e => Sys2Proof.Machine.execWordResolve e s
  | .postEntryFreed site => Sys2Proof.Machine.execPostEntryFreed site s
  | .trigoPulse e => Sys2Proof.Machine.execTrigoPulse e s
  | .fsigSend e => Sys2Proof.Machine.execFsigSend e s
  | .evtHostEvent e => Sys2Proof.Machine.execEvtHostEvent e s
  | .wopStartChain e => Sys2Proof.Machine.execWopStartChain e s
  | .wopStopChain e => Sys2Proof.Machine.execWopStopChain e s
  | .wopContinue e => Sys2Proof.Machine.execWopContinue e s
  | .popEarliest e => Sys2Proof.Machine.execPopEarliest e s
  | .popTimed e => Sys2Proof.Machine.execPopTimed e s
  | .captStart e => Sys2Proof.Machine.execCaptStart e s
  | .captStop e => Sys2Proof.Machine.execCaptStop e s
  | .captWord e => Sys2Proof.Machine.execCaptWord e s
  | .modeChangeEffect e => Sys2Proof.Machine.execModeChangeEffect e s
  | .persIdleEnd oct => Sys2Proof.Machine.execPersIdleEnd oct s
  | .matchArm e => Sys2Proof.Machine.execMatchArm e s
  | .asyncExceptionTake e => Sys2Proof.Machine.execAsyncExceptionTake e s
  | .uflReport e arrival => Sys2Proof.Machine.execUflReport e arrival s
  | .burstSuspend e => Sys2Proof.Machine.execBurstSuspend e s
  | .burstRestore e tm => Sys2Proof.Machine.execBurstRestore e tm s
  | .reload fn e sec copy => Sys2Proof.Machine.execReload fn e sec copy s
  | .reloadDone e => Sys2Proof.Machine.execReloadDone e s
  | .vectorRead oct e sramUe sramCe => Sys2Proof.Machine.execVectorRead oct e sramUe sramCe s
  | .driveEdge ch => Sys2Proof.Machine.execDriveEdge ch s
  | .strobe ch => Sys2Proof.Machine.execStrobe ch s
  | .compareComplete ch => Sys2Proof.Machine.execCompareComplete ch s
  | .conditionArrive e => Sys2Proof.Machine.execConditionArrive e s
  | .comparatorEdge ch uv tm => Sys2Proof.Machine.execComparatorEdge ch uv tm s
  | .sigdetChange ch above => Sys2Proof.Machine.execSigdetChange ch above s
  | .rxAdaptUpdate ch => Sys2Proof.Machine.execRxAdaptUpdate ch s
  | .safeReachOctet oct => Sys2Proof.Machine.execSafeReachOctet oct s
  | .bbWindowWrite fn oct off size data => Sys2Proof.Machine.execBbWindowWrite fn oct off size data s
  | .streamStart fn slot => Sys2Proof.Machine.execStreamStart fn slot s
  | .streamStop fn slot => Sys2Proof.Machine.execStreamStop fn slot s
  | .streamRefill slot => Sys2Proof.Machine.execStreamRefill slot s
  | .dramRequestComplete dc err => Sys2Proof.Machine.execDramRequestComplete dc err s
  | .dramPdEnter dc lvl => Sys2Proof.Machine.execDramPdEnter dc lvl s
  | .segmentEntryRead oct => Sys2Proof.Machine.execSegmentEntryRead oct s
  | .segmentPassStart oct => Sys2Proof.Machine.execSegmentPassStart oct s
  | .ringSlotRead oct => Sys2Proof.Machine.execRingSlotRead oct s
  | .granuleArrive oct data => Sys2Proof.Machine.execGranuleArrive oct data s
  | .wfringWrite fn oct data => Sys2Proof.Machine.execWfringWrite fn oct data s
  | .launchHead ch tm => Sys2Proof.Machine.execLaunchHead ch tm s
  | .preambleStart ch => Sys2Proof.Machine.execPreambleStart ch s
  | .frameTxEnd ch => Sys2Proof.Machine.execFrameTxEnd ch s
  | .timestampWrite ch => Sys2Proof.Machine.execTimestampWrite ch s
  | .tsqPop fn ch => Sys2Proof.Machine.execTsqPop fn ch s
  | .rxLock ch => Sys2Proof.Machine.execRxLock ch s
  | .rxLockLoss ch => Sys2Proof.Machine.execRxLockLoss ch s
  | .sdMatch ch ingress => Sys2Proof.Machine.execSdMatch ch ingress s
  | .rxFrameComplete ch data tm => Sys2Proof.Machine.execRxFrameComplete ch data tm s
  | .checkerBitError ch tm sym => Sys2Proof.Machine.execCheckerBitError ch tm sym s
  | .failClear fn ch => Sys2Proof.Machine.execFailClear fn ch s
  | .recordEnter site => Sys2Proof.Machine.execRecordEnter site s
  | .captureWindowEnd site => Sys2Proof.Machine.execCaptureWindowEnd site s
  | .pageFlushTimeout site => Sys2Proof.Machine.execPageFlushTimeout site s
  | .captureFlush fn site => Sys2Proof.Machine.execCaptureFlush fn site s
  | .pageMove site sramUe sramCe => Sys2Proof.Machine.execPageMove site sramUe sramCe s
  | .pageDeliver site dramUe => Sys2Proof.Machine.execPageDeliver site dramUe s
  | .adcSample ch uv tm sram => Sys2Proof.Machine.execAdcSample ch uv tm sram s
  | .acqRecordDone ch => Sys2Proof.Machine.execAcqRecordDone ch s
  | .rovingSample ch r => Sys2Proof.Machine.execRovingSample ch r s
  | .rovingStep ch => Sys2Proof.Machine.execRovingStep ch s
  | .acqRunStart ch tm => Sys2Proof.Machine.execAcqRunStart ch tm s
  | .acqRunStop ch tm => Sys2Proof.Machine.execAcqRunStop ch tm s
  | .acqStopDone ch => Sys2Proof.Machine.execAcqStopDone ch s
  | .acqArm fn ch => Sys2Proof.Machine.execAcqArm fn ch s
  | .acqForce fn ch => Sys2Proof.Machine.execAcqForce fn ch s
  | .acqClr fn ch => Sys2Proof.Machine.execAcqClr fn ch s
  | .acqClrDone ch => Sys2Proof.Machine.execAcqClrDone ch s
  | .acqEye fn ch => Sys2Proof.Machine.execAcqEye fn ch s
  | .acqEyeDone ch => Sys2Proof.Machine.execAcqEyeDone ch s
  | .acqTtrigSubmit fn ch ns => Sys2Proof.Machine.execAcqTtrigSubmit fn ch ns s
  | .tdcStamp ch fine => Sys2Proof.Machine.execTdcStamp ch fine s
  | .tdcGateEnd ch => Sys2Proof.Machine.execTdcGateEnd ch s
  | .tdcStartTimeout ch => Sys2Proof.Machine.execTdcStartTimeout ch s
  | .tdcRunStart fn ch => Sys2Proof.Machine.execTdcRunStart fn ch s
  | .tdcRunStop fn ch => Sys2Proof.Machine.execTdcRunStop fn ch s
  | .tdcSnap fn ch => Sys2Proof.Machine.execTdcSnap fn ch s
  | .tdcClr fn ch => Sys2Proof.Machine.execTdcClr fn ch s
  | .dllLock ch => Sys2Proof.Machine.execDllLock ch s
  | .dllUnlock ch => Sys2Proof.Machine.execDllUnlock ch s
  | .ocxoWarmChange level => Sys2Proof.Machine.execOcxoWarmChange level s
  | .commit fn site => Sys2Proof.Machine.execCommit fn site s
  | .commitFreeze site => Sys2Proof.Machine.execCommitFreeze site s
  | .gapApply site => Sys2Proof.Machine.execGapApply site s
  | .beatStart site => Sys2Proof.Machine.execBeatStart site s
  | .pinSample ch uv => Sys2Proof.Machine.execPinSample ch uv s
  | .signatureResult site u => Sys2Proof.Machine.execSignatureResult site u s
  | .itemArrive site src chip desc => Sys2Proof.Machine.execItemArrive site src chip desc s
  | .engineBind e => Sys2Proof.Machine.execEngineBind e s
  | .burstStart e tm => Sys2Proof.Machine.execBurstStart e tm s
  | .recordRelease site => Sys2Proof.Machine.execRecordRelease site s
  | .dspStop fn site => Sys2Proof.Machine.execDspStop fn site s
  | .dspUnstop fn site => Sys2Proof.Machine.execDspUnstop fn site s
  | .whistClear fn site => Sys2Proof.Machine.execWhistClear fn site s
  | .tbsSnap fn => Sys2Proof.Machine.execTbsSnap fn s
  | .tbsSet fn => Sys2Proof.Machine.execTbsSet fn s
  | .timeExchangeStart => Sys2Proof.Machine.execTimeExchangeStart s
  | .timeRequestReceive port child t1 => Sys2Proof.Machine.execTimeRequestReceive port child t1 s
  | .exchangeComplete port t2 t3 t4 => Sys2Proof.Machine.execExchangeComplete port t2 t3 t4 s
  | .exchangeLost => Sys2Proof.Machine.execExchangeLost s
  | .safOpen fn site => Sys2Proof.Machine.execSafOpen fn site s
  | .safStage fn site data => Sys2Proof.Machine.execSafStage fn site data s
  | .safPrepare fn site => Sys2Proof.Machine.execSafPrepare fn site s
  | .safAbort fn site => Sys2Proof.Machine.execSafAbort fn site s
  | .safResolveCommit fn site txid => Sys2Proof.Machine.execSafResolveCommit fn site txid s
  | .safResolveAbort fn site txid => Sys2Proof.Machine.execSafResolveAbort fn site txid s
  | .openReceive site epoch txid => Sys2Proof.Machine.execOpenReceive site epoch txid s
  | .prepareReceive site epoch txid beat => Sys2Proof.Machine.execPrepareReceive site epoch txid beat s
  | .voteReceive site epoch txid chip reason => Sys2Proof.Machine.execVoteReceive site epoch txid chip reason s
  | .decisionDeadline site => Sys2Proof.Machine.execDecisionDeadline site s
  | .deferReceive site epoch txid beat => Sys2Proof.Machine.execDeferReceive site epoch txid beat s
  | .commitReceive site epoch txid beat => Sys2Proof.Machine.execCommitReceive site epoch txid beat s
  | .abortReceive site epoch txid outcome => Sys2Proof.Machine.execAbortReceive site epoch txid outcome s
  | .participantDeadline site => Sys2Proof.Machine.execParticipantDeadline site s
  | .querySend site => Sys2Proof.Machine.execQuerySend site s
  | .queryReceive site epoch txid chip => Sys2Proof.Machine.execQueryReceive site epoch txid chip s
  | .outcomeReceive site epoch txid verdict beat => Sys2Proof.Machine.execOutcomeReceive site epoch txid verdict beat s
  | .nackStaleReceive site chip txid ofPrepare => Sys2Proof.Machine.execNackStaleReceive site chip txid ofPrepare s
  | .flashCode port copies => Sys2Proof.Machine.execFlashCode port copies s
  | .flashMatch port copies src => Sys2Proof.Machine.execFlashMatch port copies src s
  | .flashAbort port copies => Sys2Proof.Machine.execFlashAbort port copies s
  | .flashFault port copies => Sys2Proof.Machine.execFlashFault port copies s
  | .flashSys port copies => Sys2Proof.Machine.execFlashSys port copies s
  | .sysFlashSend fn code => Sys2Proof.Machine.execSysFlashSend fn code s
  | .cellReceive port words => Sys2Proof.Machine.execCellReceive port words s
  | .linkAck port lseq => Sys2Proof.Machine.execLinkAck port lseq s
  | .linkNack port => Sys2Proof.Machine.execLinkNack port s
  | .retryTimeout port => Sys2Proof.Machine.execRetryTimeout port s
  | .creditReturn site chip => Sys2Proof.Machine.execCreditReturn site chip s
  | .portTrainStart port => Sys2Proof.Machine.execPortTrainStart port s
  | .retrain fn port => Sys2Proof.Machine.execRetrain fn port s
  | .portTrainDone port ok flight => Sys2Proof.Machine.execPortTrainDone port ok flight s
  | .helloReceive port chip digest troot => Sys2Proof.Machine.execHelloReceive port chip digest troot s
  | .linkStateReceive link => Sys2Proof.Machine.execLinkStateReceive link s
  | .portDown port => Sys2Proof.Machine.execPortDown port s
  | .sleepVote fn => Sys2Proof.Machine.execSleepVote fn s
  | .sleepVoteReceive chip => Sys2Proof.Machine.execSleepVoteReceive chip s
  | .sleepAtReceive tm => Sys2Proof.Machine.execSleepAtReceive tm s
  | .sleepCancelInstant => Sys2Proof.Machine.execSleepCancelInstant s
  | .sleepEnter => Sys2Proof.Machine.execSleepEnter s
  | .fabWake fn => Sys2Proof.Machine.execFabWake fn s
  | .wakeToneDetect port => Sys2Proof.Machine.execWakeToneDetect port s
  | .siteReset fn site => Sys2Proof.Machine.execSiteReset fn site s
  | .siteResetBurstsEnded site => Sys2Proof.Machine.execSiteResetBurstsEnded site s
  | .siteResetDone site => Sys2Proof.Machine.execSiteResetDone site s
  | .scrubDone site => Sys2Proof.Machine.execScrubDone site s
  | .retrainPassStart => Sys2Proof.Machine.execRetrainPassStart s
  | .retrainStep dc res => Sys2Proof.Machine.execRetrainStep dc res s
  | .mirrorRewriteDone => Sys2Proof.Machine.execMirrorRewriteDone s
  | .refLoss => Sys2Proof.Machine.execRefLoss s
  | .refPresent => Sys2Proof.Machine.execRefPresent s
  | .pllLossOfLock pll => Sys2Proof.Machine.execPllLossOfLock pll s
  | .pllRelock pll => Sys2Proof.Machine.execPllRelock pll s
  | .updnow fn lp => Sys2Proof.Machine.execUpdnow fn lp s
  | .sliceFail oct slice => Sys2Proof.Machine.execSliceFail oct slice s
  | .frontEndFail ch => Sys2Proof.Machine.execFrontEndFail ch s
  | .clvTake fn oct pos => Sys2Proof.Machine.execClvTake fn oct pos s
  | .clvRetrim fn oct pos => Sys2Proof.Machine.execClvRetrim fn oct pos s
  | .clvReturn fn oct pos => Sys2Proof.Machine.execClvReturn fn oct pos s
  | .clvSave fn oct pos => Sys2Proof.Machine.execClvSave fn oct pos s
  | .retrimDone oct fig => Sys2Proof.Machine.execRetrimDone oct fig s
  | .saveDone oct ok => Sys2Proof.Machine.execSaveDone oct ok s
  | .faultSourceActive src => Sys2Proof.Machine.execFaultSourceActive src s
  | .faultSourceClear src => Sys2Proof.Machine.execFaultSourceClear src s
  | .wireFault src => Sys2Proof.Machine.execWireFault src s
  | .quietEnd k => Sys2Proof.Machine.execQuietEnd k s
  | .recoveryWriteDone k ok => Sys2Proof.Machine.execRecoveryWriteDone k ok s
  | .fltClear fn k => Sys2Proof.Machine.execFltClear fn k s
  | .faultRepeat => Sys2Proof.Machine.execFaultRepeat s
  | .remoteExpire site => Sys2Proof.Machine.execRemoteExpire site s
  | .fltinChange p n => Sys2Proof.Machine.execFltinChange p n s
  | .ilkOpen b => Sys2Proof.Machine.execIlkOpen b s
  | .ilkClose b => Sys2Proof.Machine.execIlkClose b s
  | .discrepancyLatch => Sys2Proof.Machine.execDiscrepancyLatch s
  | .selfFault => Sys2Proof.Machine.execSelfFault s
  | .conversionEnd raw => Sys2Proof.Machine.execConversionEnd raw s
  | .monSelect fn sel => Sys2Proof.Machine.execMonSelect fn sel s
  | .monSnap fn => Sys2Proof.Machine.execMonSnap fn s
  | .monClr fn => Sys2Proof.Machine.execMonClr fn s
  | .pgoodRise board => Sys2Proof.Machine.execPgoodRise board s
  | .pgoodFall => Sys2Proof.Machine.execPgoodFall s
  | .dramTrainingDone inService => Sys2Proof.Machine.execDramTrainingDone inService s
  | .bootRun us => Sys2Proof.Machine.execBootRun us s
  | .brownOut => Sys2Proof.Machine.execBrownOut s
  | .reboot fn => Sys2Proof.Machine.execReboot fn s
  | .pwrReqActive fn => Sys2Proof.Machine.execPwrReqActive fn s
  | .pwrReqIdle fn => Sys2Proof.Machine.execPwrReqIdle fn s
  | .pwrReqDormant fn => Sys2Proof.Machine.execPwrReqDormant fn s
  | .pwrReqStandby fn => Sys2Proof.Machine.execPwrReqStandby fn s
  | .powerTransitionDone => Sys2Proof.Machine.execPowerTransitionDone s
  | .wakePin => Sys2Proof.Machine.execWakePin s
  | .standbyHoldEnd => Sys2Proof.Machine.execStandbyHoldEnd s
  | .nvmKey fn data => Sys2Proof.Machine.execNvmKey fn data s
  | .keyarmExpire => Sys2Proof.Machine.execKeyarmExpire s
  | .nvmStore fn => Sys2Proof.Machine.execNvmStore fn s
  | .nvmProgram fn slot => Sys2Proof.Machine.execNvmProgram fn slot s
  | .nvmRevoke fn slot => Sys2Proof.Machine.execNvmRevoke fn slot s
  | .nvmWriteDone ok => Sys2Proof.Machine.execNvmWriteDone ok s
  | .registerWrite fn addr size data => Sys2Proof.Machine.execRegisterWrite fn addr size data s
  | .ringEnable vf ring log2n => Sys2Proof.Machine.execRingEnable vf ring log2n s
  | .ringDisable vf ring => Sys2Proof.Machine.execRingDisable vf ring s
  | .submitProdWrite vf prod => Sys2Proof.Machine.execSubmitProdWrite vf prod s
  | .submitSlotRead vf slot ok => Sys2Proof.Machine.execSubmitSlotRead vf slot ok s
  | .consWrite vf ring cons => Sys2Proof.Machine.execConsWrite vf ring cons s
  | .completionWrite vf => Sys2Proof.Machine.execCompletionWrite vf s
  | .streamInProdWrite vf prod => Sys2Proof.Machine.execStreamInProdWrite vf prod s
  | .streamInDescriptor vf desc data ok => Sys2Proof.Machine.execStreamInDescriptor vf desc data ok s
  | .windowBaseWrite vf k base => Sys2Proof.Machine.execWindowBaseWrite vf k base s
  | .evmskWrite fn mask => Sys2Proof.Machine.execEvmskWrite fn mask s
  | .vfFlr vf => Sys2Proof.Machine.execVfFlr vf s
  | .perst => Sys2Proof.Machine.execPerst s
  | .trgInEdge ball level => Sys2Proof.Machine.execTrgInEdge ball level s
  | .jtagInstruction ins => Sys2Proof.Machine.execJtagInstruction ins s
  | .tdcStopDone ch => Sys2Proof.Machine.execTdcStopDone ch s
  | .deepStateExitDone port => Sys2Proof.Machine.execDeepStateExitDone port s
  | .codeViolation p => Sys2Proof.Machine.execCodeViolation p s
  | .flashReservedFtype port copies => Sys2Proof.Machine.execFlashReservedFtype port copies s
  | .vioValid => Sys2Proof.Machine.execVioValid s
  | .vauxRise => Sys2Proof.Machine.execVauxRise s

end Sys2Proof.Machine
end

