-- ==== Sys2Proof/Machine/Read.lean ====
section
/-! DEFINITION. What a read of the bus returns (R5, R6, R71, R100, R111, R210, R310, R333, R421, R433, R436, R439, R440). The command table has no
row for a read and a read changes nothing, so no command calls this; statements and tests may. -/

namespace Sys2Proof.Machine

/-- Does an engine hold a burst of a site: the one it runs or the one in its context slot (R142, R271)? -/
def State.engHolds (s : State) (e x : Nat) : Bool :=
  (match (s.engOf e).item with | some i => i.site == x | none => false) ||
    (match (s.engOf e).saved with | some v => v.item.site == x | none => false)

/-- R111: do an engine's registers show a burst of a site: the one it runs, else the one in its context slot? (DEDUCED, log entry 47: a
VF whose burst is suspended does not read what another site's burst does there, R328.) -/
def State.engShown (s : State) (e x : Nat) : Bool :=
  match (s.engOf e).item with
  | some i => i.site == x
  | none => s.engHolds e x

/-- R439: may a function read an instance of a register? -/
def State.mayRead (s : State) (fn : Fn) (d : RegDesc) (ix : Nat) : Bool :=
  let q := d.outer ix
  match fn with
  | .pf0 => true
  | .vf n =>
    let x := n.val
    s.vfLive fn &&
      (match d.rd with
      | .pf => false
      | .all => true
      | .fn => true
      | .chan | .acq | .lane => s.ownsCh x ix
      | .chants => s.ownsCh x (ix / 512 * 8 + ix % 8)
      | .oct8 => s.ownsOct x q
      | .octany | .octslice | .fnoct => s.inOct x q
      | .site => q == x
      | .vs => s.slotShown q x
      | .lp | .lp4 => s.ownsLp x q
      | .hst | .hst1 | .hst3 | .scope => q == x
      | .eng => s.engShown q x
      | .dspeng => hasBit (s.quota x) q || s.engHolds q x)

/-- R310, R312: the peer that FAB_PEERSEL selects, as FAB_PEER, FAB_PCBND and FAB_PFBND show it. -/
def State.peerWord (s : State) (k : Nat) : Nat :=
  match s.peer (s.getF F.FAB_PEERSEL_CHIP 0), k with
  | some p, 0 => 1 + p.port * 2 + p.hops % 16 * 32 + b2n p.wide * 512
  | some p, 1 => p.cbnd
  | some p, _ => p.fbnd % 65536
  | none, _ => 0

/-- R111: SE_CSDATA0 to SE_CSDATA6 of engine `e`. -/
def State.storeWord (s : State) (e k : Nat) : Nat :=
  let v := s.store e (s.getF F.SE_CSADDR_ADDR e)
  if k < 6 then v / 2 ^ (32 * k) % 4294967296 else v / 2 ^ 192 % 256 + b2n (parityBad v) * 256

/-- R111: SE_COND_LO and SE_COND_HI of engine `e`, for the channels its word in issue drives. (DESIGN CHOICE, log entry 47: without a word in
issue the set of channels is empty, and the groups of an engine without a burst are those of site 0.) -/
def State.condWord (s : State) (e hi : Nat) : Nat :=
  let m := match (s.engOf e).cur with | some c => c.mask | none => 0
  (List.range 8).foldl (fun a g => a + s.cond e (8 * hi + g) m (s.localNow 8) % 16 * 16 ^ g) 0

/-- R5: the WSC bits of a register whose action runs, for the actions that take time. (DEDUCED, log entry 55: which these are.) -/
def State.wscBits (s : State) (d : RegDesc) (ix : Nat) : Nat :=
  if d.is R.SE_CTL then b2n (s.engState ix == 4) * 65536
  else if d.is R.SITE_SCTL then b2n (s.flag F.SITE_SSTAT_RESETTING ix)
  else if d.is R.FAB_PCTL then b2n (s.portState ix == 1) * 2
  else if d.is R.ACQ_CTL then b2n (s.chanOf ix).acq.clearing * 8 + b2n (s.chanOf ix).acq.eye * 16
  else if d.is R.FLT_SCTL then b2n (hasBit s.sumac.clearing ix)
  else if d.is R.NVM_CMD then b2n s.boot.cmd.isSome * 16
  else if d.is R.GLB_PWRCTL then b2n s.boot.power.isSome * 4
  else if d.is R.OCT_CLVCTL then
    let q := s.octSt ix
    let st := s.clvSt ix
    b2n (st == 1 && q.clvKind == 1) * 8 + b2n ((st == 1 && q.clvKind == 2) || st == 3) * 16 + b2n (q.retReq || st == 4) * 32 +
      b2n q.saving.isSome * 64
  else 0

/-- A register word that is not kept as fields: the peer registers, the Saffron bound (R294), store read-back and condition groups. -/
def State.madeWord (s : State) (fn : Fn) (a : Nat) : Option Nat :=
  if 0x100504 ≤ a ∧ a ≤ 0x10050C then (if fn = .pf0 then some (s.peerWord ((a - 0x100504) / 4)) else some 0)
  else if 0x2000000 ≤ a ∧ a < 0x2400000 then
    let e := (a - 0x2000000) / 0x40000
    let o := a % 0x40000
    if 0x20 ≤ o ∧ o ≤ 0x38 then some (if s.mayRead fn R.SE_STATE e then s.storeWord e ((o - 0x20) / 4) else 0)
    else if o = 0xE0 ∨ o = 0xE4 then some (if s.mayRead fn R.SE_STATE e then s.condWord e ((o - 0xE0) / 4) else 0)
    else none
  else none

/-- R436, R439: a register word. -/
def State.readWord (s : State) (fn : Fn) (a : Nat) : Nat :=
  match s.madeWord fn a with
  | some v => v
  | none =>
    match findRegFor fn a with
    | none => 0
    | some h =>
      if s.mayRead fn h.desc h.ix then
        (if h.desc.is R.SAF_BND then s.safBnd h.ix else h.desc.word (if h.live then s.live else s.reg) (h.desc.copy fn h.ix)) +
          s.wscBits h.desc h.ix
      else 0

/-- R71: a beat-buffer byte as a function sees it: nibbles that its site does not own read 0, and all of them while the site's
memory is being zeroed (R333). -/
def State.readBb (s : State) (fn : Fn) (o b : Nat) : Byte :=
  match fn with
  | .pf0 => s.bbByte o b
  | .vf n =>
    let own := fun h => s.ownsNibble n.val o (b / 4) (b % 4 * 2 + h) && !s.flag F.SITE_SSTAT_SCRUB n.val
    let v := (s.bbByte o b).toNat
    BitVec.ofNat 8 ((if own 0 then v % 16 else 0) + (if own 1 then v / 16 * 16 else 0))

/-- R71, R210, R421, R433: a byte of a memory window; none where the address names no window. -/
def State.readByte (s : State) (fn : Fn) (a : Nat) : Option Byte :=
  if 0x40400 ≤ a ∧ a < 0x40800 then some (if fn = .pf0 then Tbl.get (fun _ => 0#8) s.psbuf (a - 0x40400) else 0#8)
  else if 0x60000 ≤ a ∧ a < 0x80000 then some (if fn = .pf0 then Tbl.get (fun _ => 0#8) s.nvm (a - 0x60000) else 0#8)
  else if 0x1000000 ≤ a ∧ a < 0x1800000 ∧ 0x80000 ≤ a % 0x100000 ∧ a % 0x100000 < 0xC0000 then
    let o := (a - 0x1000000) / 0x100000
    let page := s.getF F.OCT_BBPAGE_PAGE (o * 17 + fnIx fn)
    some (if page < 48 then s.readBb fn o (page * 262144 + a % 0x100000 - 0x80000) else 0#8)
  else if 0x3400000 ≤ a ∧ a < 0x3C00000 then
    let c := (a - 0x3400000) / 0x20000
    some (if (fn = .pf0 || (s.fnOwns fn c && !s.flag F.SITE_SSTAT_SCRUB (fnIx fn))) && !(s.acqFunc c == 2 && decide (0x800 ≤ a % 0x20000))
      then s.acqByte c (a % 0x20000) else 0#8)
  else none

/-- R436: a register read of any size and alignment: bytes of the aligned word; an aligned 64-bit read gives two registers. -/
def State.readRegs (s : State) (fn : Fn) (a size : Nat) : Nat :=
  if size = 8 ∧ a % 8 = 0 then s.readWord fn a + s.readWord fn (a + 4) * 4294967296
  else s.readWord fn (a / 4 * 4) / 256 ^ (a % 4) % 256 ^ size

/-- R436, R440: what a read of `size` bytes at an address of a function returns. -/
def State.hostRead (s : State) (fn : Fn) (addr size : Nat) : Nat :=
  if fn = .pf0 || s.vfLive fn then
    match s.busAddr fn addr with
    | none => 0
    | some a =>
      match s.readByte fn a with
      | some _ => if winSize a size then leNat ((List.range size).map (fun j => (s.readByte fn (a + j)).getD 0#8)) else 0
      | none => s.readRegs fn a size
  else 0

end Sys2Proof.Machine
end

