-- ==== Sys2Proof/Safety.lean ====
section
/-! DEFINITION. What a safe run keeps: the canonical form of every table of the state, so that equal contents are equal data;
and the words in which statements say what a command leaves alone. -/

namespace Sys2Proof.Machine

/-- The register tables are canonical: keys strictly rising, and no entry that says what an unlisted field reads as. -/
def State.regsWf (s : State) : Bool :=
  Tbl.wf (fun _ => 0) s.reg && Tbl.wf (fun _ => 0) s.live && Tbl.wf (fun _ => 0) s.init && Tbl.wf (fun _ => 0) s.initLive

/-- The memories are canonical: beat buffers, acquisition SRAM, DRAM, and the bytes and the page counts of the NVM. -/
def State.memsWf (s : State) : Bool :=
  Tbl.wf (fun _ => (0 : Byte)) s.bb && Tbl.wf (fun _ => (0 : Byte)) s.acqMem && Tbl.wf (fun _ => (0 : Byte)) s.dram &&
    Tbl.wf (fun _ => (0 : Byte)) s.nvm && Tbl.wf (fun _ => (0 : Byte)) s.psbuf && Tbl.wf (fun _ => 0) s.wear

/-- The control stores, their mirror and the training store are canonical: an unlisted store address holds HALT (R116). -/
def State.storesWf (s : State) : Bool :=
  Tbl.wf (fun _ => haltWord) s.cstore && Tbl.wf (fun _ => haltWord) s.mirror && Tbl.wf (fun _ => 0) s.tstore

/-- The tables of engines, channels, octets, sites, ports, monitor inputs and stream slots are canonical. -/
def State.unitsWf (s : State) : Bool :=
  Tbl.wf (fun _ => ({} : EngSt)) s.eng && Tbl.wf (fun _ => ({} : ChanSt)) s.chan && Tbl.wf (fun _ => ({} : OctSt)) s.oct &&
    Tbl.wf (fun _ => ({} : SiteSt)) s.site && Tbl.wf (fun _ => ({} : PortSt)) s.port && Tbl.wf (fun _ => ({} : MonSt)) s.mon &&
    Tbl.wf (fun _ => ({} : StreamSt)) s.stream

/-- Every table of the state is canonical. -/
def State.canonical (s : State) : Bool := s.regsWf && s.memsWf && s.storesWf && s.unitsWf

/-- The register fields whose keys are not in `w` read the same in both states, at their own addresses. -/
def RegsBut (w : List Nat) (s t : State) : Prop :=
  ∀ k, k ∉ w → Tbl.get (fun _ => 0) t.reg k = Tbl.get (fun _ => 0) s.reg k

/-- Between `s` and `t` nothing changes but the register fields whose keys are in `w`. -/
def RegsOnly (w : List Nat) (s t : State) : Prop := { t with reg := s.reg } = s ∧ RegsBut w s t

/-- The keys of one index of several fields. -/
def keysAt (i : Nat) (l : List Fld) : List Nat := l.map (fun f => f.key i)

/-- Every byte of every memory, and every word of every store, is the same in both states. -/
def State.sameMems (s t : State) : Prop :=
  t.bb = s.bb ∧ t.acqMem = s.acqMem ∧ t.dram = s.dram ∧ t.nvm = s.nvm ∧ t.psbuf = s.psbuf ∧ t.cstore = s.cstore ∧
    t.mirror = s.mirror ∧ t.tstore = s.tstore

/-- Between `s` and `t` nothing changes but the register fields whose keys are in `w` and channel `c`. -/
def ChanOnly (c : Nat) (w : List Nat) (s t : State) : Prop :=
  { t with reg := s.reg, chan := s.chan } = s ∧ RegsBut w s t ∧ ∀ k, k ≠ c → t.chanOf k = s.chanOf k

/-- Between `s` and `t` nothing changes but the register fields whose keys are in `w` and octet `o`. -/
def OctOnly (o : Nat) (w : List Nat) (s t : State) : Prop :=
  { t with reg := s.reg, oct := s.oct } = s ∧ RegsBut w s t ∧ ∀ k, k ≠ o → t.octSt k = s.octSt k

/-- Between `s` and `t` nothing changes but the register fields whose keys are in `w` and site `x`. -/
def SiteOnly (x : Nat) (w : List Nat) (s t : State) : Prop :=
  { t with reg := s.reg, site := s.site } = s ∧ RegsBut w s t ∧ ∀ k, k ≠ x → t.siteOf k = s.siteOf k

/-- Between `s` and `t` nothing changes but the register fields whose keys are in `w` and port `k`. -/
def PortOnly (k : Nat) (w : List Nat) (s t : State) : Prop :=
  { t with reg := s.reg, port := s.port } = s ∧ RegsBut w s t ∧ ∀ j, j ≠ k → t.portOf j = s.portOf j

/-- Between `s` and `t` nothing changes but the register fields whose keys are in `w`, channel `c` and the orders of site
`x`. -/
def ChanOrder (c x : Nat) (w : List Nat) (s t : State) : Prop :=
  { t with reg := s.reg, chan := s.chan, site := s.site } = s ∧ RegsBut w s t ∧ (∀ k, k ≠ c → t.chanOf k = s.chanOf k) ∧
    ∀ k, { t.siteOf k with orders := [] } = { s.siteOf k with orders := [] } ∧ (k ≠ x → t.siteOf k = s.siteOf k)

/-- No order of site `x` stands, and none waits in the cycle (R334). -/
abbrev State.noOrders (s : State) (x : Nat) : Prop := (s.siteOf x).orders = [] ∧ ∀ i ∈ s.cycleRest, s.stopOrder x i = none

/-- VF `n` is there, its site is present, and no order of the site stands: its writes to its site's controls act (R320,
R334). -/
abbrev State.hostFree (s : State) (n : Fin 16) : Prop := s.vfLive (.vf n) = true ∧ s.noOrders n.val

/-- A message of this epoch reaches a member chip of site `x` that is not its leader, and no order of the site stands. -/
abbrev State.memberOf (s : State) (x : Fin 16) (epoch : Nat) : Prop :=
  s.present x.val = true ∧ epoch = s.getF F.FAB_SEPOCH_EPOCH x.val ∧ s.noOrders x.val ∧ s.isLeader x.val = false

/-- A message of this epoch from chip `c` reaches the leader of site `x`, and no order of the site stands. -/
abbrev State.leaderOf (s : State) (x : Fin 16) (epoch c : Nat) : Prop :=
  s.present x.val = true ∧ epoch = s.getF F.FAB_SEPOCH_EPOCH x.val ∧ s.noOrders x.val ∧ s.isLeader x.val = true ∧
    (s.peersOf x.val).contains c = true

/-- The vectors of channel `c` with `v` among them, in the order of their starts, and which of their strobes are taken (R66). -/
def State.withVect (s : State) (c : Nat) (v : Vect) : List Vect :=
  strobesIn (s.chanOf c).saRef (s.chanOf c).sbRef (insertBefore (fun w => decide (v.start < w.start)) v (s.chanOf c).vects)

/-- The keys of the fields that show a lane's queues. -/
def laneKeys (c : Nat) : List Nat :=
  keysAt (lnIx c) [F.OCT_LSTAT_LQN, F.OCT_LSTAT_TSQN, F.OCT_TSQHEAD_ID, F.OCT_TSQHEAD_STATUS, F.OCT_TSQHEAD_VALID,
    F.OCT_TSQT_LO_FRAC, F.OCT_TSQT_HI_NS]

end Sys2Proof.Machine
end

