-- ==== Sys2Proof/WellFormed.lean ====
section
/-! DEFINITION. Which commands the world outside can give: operands within the widths the manual gives the data they carry.
The meanings are total: they do not rely on it. -/

namespace Sys2Proof

/-- A 16-bit value. -/
def word16 (n : Nat) : Bool := decide (n < 65536)

/-- A 32-bit value. -/
def word32 (n : Nat) : Bool := decide (n < 4294967296)

/-- An access size that a window serves (R436). -/
def sizeOk (n : Nat) : Bool := [1, 2, 4, 8].contains n

/-- A timed island: the octets 0 to 7 and the units 8 to 12, and the Tiltik ports at 16 to 27 (R281). -/
def islandOk (n : Nat) : Bool := decide (n < 13) || (decide (16 ≤ n) && decide (n < 28))

/-- A chip number: shelf and position (R319). -/
def chipOk (n : Nat) : Bool := decide (n < 512)

/-- A frame identifier has 16 bits (R176); other requests carry data of any size. -/
def reqOk (r : TimedReq) : Bool :=
  match r with
  | .launch _ id _ => word16 id
  | .segStart _ trg flash _ => decide (trg < 256) && decide (flash < 256)
  | .classF _ _ | .classX _ _ | .acqTrig _ _ => true

/-- A copy of a FLASH word that arrived has 32 bits (R299). -/
def copyOk (c : Option Nat) : Bool :=
  match c with
  | none => true
  | some w => word32 w

/-- The three copies of a FLASH word. -/
def copiesOk (c : Copies) : Bool := copyOk c.c1 && copyOk c.c2 && copyOk c.c3

/-- A link of the fabric: two chips and one of twelve ports. -/
def linkOk (l : LinkState) : Bool := chipOk l.a && chipOk l.b && decide (l.port < 12)

/-- A pass of 2^26 hits for each of the five delay lines and for the 4,096 TDC codes (R225, R372), with figures of 16 bits (R376). -/
def passOk (p : Density) : Bool :=
  word16 p.eyew && word16 p.inlrms && word16 p.inlmax && p.lines.length == 5 && p.lines.all (fun l => l.sum == 67108864) &&
    p.tdc.length == 4096 && p.tdc.sum == 67108864

namespace Instr

/-- Can the world outside the block give this command with these operands? -/
def wellFormed (i : Instr) : Bool :=
  match i with
  | .timebaseTick => true
  | .beaconSend => true
  | .beaconArrive isl => islandOk isl
  | .incApply => true
  | .timedRequestArrive isl req => islandOk isl && reqOk req
  | .timedAction isl => islandOk isl
  | .wordIssue _ upset => decide (upset < 2 ^ 200)
  | .mchkRewriteDone _ _ upset => decide (upset < 2 ^ 200)
  | .wordResolve _ => true
  | .postEntryFreed _ => true
  | .trigoPulse _ => true
  | .fsigSend _ => true
  | .evtHostEvent _ => true
  | .wopStartChain _ => true
  | .wopStopChain _ => true
  | .wopContinue _ => true
  | .popEarliest _ => true
  | .popTimed _ => true
  | .captStart _ => true
  | .captStop _ => true
  | .captWord _ => true
  | .modeChangeEffect _ => true
  | .persIdleEnd _ => true
  | .matchArm _ => true
  | .asyncExceptionTake _ => true
  | .uflReport _ _ => true
  | .burstSuspend _ => true
  | .burstRestore _ _ => true
  | .reload _ _ sec _ => decide (sec < 256)
  | .reloadDone _ => true
  | .vectorRead _ _ sramUe sramCe => decide (sramUe < 256) && decide (sramCe < 4294967296)
  | .driveEdge _ => true
  | .strobe _ => true
  | .compareComplete _ => true
  | .conditionArrive _ => true
  | .comparatorEdge _ _ _ => true
  | .sigdetChange _ _ => true
  | .rxAdaptUpdate _ => true
  | .safeReachOctet _ => true
  | .bbWindowWrite _ _ off size data => sizeOk size && decide (off < 262144) && decide (data < 256 ^ size)
  | .streamStart _ _ => true
  | .streamStop _ _ => true
  | .streamRefill _ => true
  | .dramRequestComplete _ _ => true
  | .dramPdEnter _ _ => true
  | .segmentEntryRead _ => true
  | .segmentPassStart _ => true
  | .ringSlotRead _ => true
  | .granuleArrive _ data => decide (data.length = 2048)
  | .wfringWrite _ _ data => word32 data
  | .launchHead _ _ => true
  | .preambleStart _ => true
  | .frameTxEnd _ => true
  | .timestampWrite _ => true
  | .tsqPop _ _ => true
  | .rxLock _ => true
  | .rxLockLoss _ => true
  | .sdMatch _ _ => true
  | .rxFrameComplete _ _ _ => true
  | .checkerBitError _ _ _ => true
  | .failClear _ _ => true
  | .recordEnter _ => true
  | .captureWindowEnd _ => true
  | .pageFlushTimeout _ => true
  | .captureFlush _ _ => true
  | .pageMove _ sramUe sramCe => decide (sramUe / 2 ^ 256 < 2 ^ 256) && word32 sramCe
  | .pageDeliver _ _ => true
  | .adcSample _ _ _ sram => word32 sram.ce
  | .acqRecordDone _ => true
  | .rovingSample _ r => word32 r.sram.ce
  | .rovingStep _ => true
  | .acqRunStart _ _ => true
  | .acqRunStop _ _ => true
  | .acqStopDone _ => true
  | .acqArm _ _ => true
  | .acqForce _ _ => true
  | .acqClr _ _ => true
  | .acqClrDone _ => true
  | .acqEye _ _ => true
  | .acqEyeDone _ => true
  | .acqTtrigSubmit _ _ ns => word32 ns
  | .tdcStamp _ fine => decide (fine < 4096)
  | .tdcGateEnd _ => true
  | .tdcStartTimeout _ => true
  | .tdcRunStart _ _ => true
  | .tdcRunStop _ _ => true
  | .tdcSnap _ _ => true
  | .tdcClr _ _ => true
  | .dllLock _ => true
  | .dllUnlock _ => true
  | .ocxoWarmChange _ => true
  | .commit _ _ => true
  | .commitFreeze _ => true
  | .gapApply _ => true
  | .beatStart _ => true
  | .pinSample _ _ => true
  | .signatureResult _ _ => true
  | .itemArrive _ _ chip desc => chipOk chip.chip && word16 chip.epoch && decide (desc.length = 12) && desc.all word32
  | .engineBind _ => true
  | .burstStart _ _ => true
  | .recordRelease _ => true
  | .dspStop _ _ => true
  | .dspUnstop _ _ => true
  | .whistClear _ _ => true
  | .tbsSnap _ => true
  | .tbsSet _ => true
  | .timeExchangeStart => true
  | .timeRequestReceive _ child _ => chipOk child
  | .exchangeComplete _ _ _ _ => true
  | .exchangeLost => true
  | .safOpen _ _ => true
  | .safStage _ _ data => word32 data
  | .safPrepare _ _ => true
  | .safAbort _ _ => true
  | .safResolveCommit _ _ txid => word16 txid
  | .safResolveAbort _ _ txid => word16 txid
  | .openReceive _ epoch txid => word16 epoch && word16 txid
  | .prepareReceive _ epoch txid beat => word16 epoch && word16 txid && word32 beat
  | .voteReceive _ epoch txid chip reason => word16 epoch && word16 txid && chipOk chip && decide (reason < 256)
  | .decisionDeadline _ => true
  | .deferReceive _ epoch txid beat => word16 epoch && word16 txid && word32 beat
  | .commitReceive _ epoch txid beat => word16 epoch && word16 txid && word32 beat
  | .abortReceive _ epoch txid outcome => word16 epoch && word16 txid && decide (outcome < 256)
  | .participantDeadline _ => true
  | .querySend _ => true
  | .queryReceive _ epoch txid chip => word16 epoch && word16 txid && chipOk chip
  | .outcomeReceive _ epoch txid _ beat => word16 epoch && word16 txid && word32 beat
  | .nackStaleReceive _ chip txid _ => chipOk chip && word16 txid
  | .flashCode _ copies => copiesOk copies
  | .flashMatch _ copies src => copiesOk copies && chipOk src
  | .flashAbort _ copies => copiesOk copies
  | .flashFault _ copies => copiesOk copies
  | .flashSys _ copies => copiesOk copies
  | .sysFlashSend _ code => decide (code < 16)
  | .cellReceive _ words => decide (words.length = 16) && words.all word32
  | .linkAck _ lseq => decide (lseq < 4096)
  | .linkNack _ => true
  | .retryTimeout _ => true
  | .creditReturn _ chip => chipOk chip.chip && word16 chip.epoch
  | .portTrainStart _ => true
  | .retrain _ _ => true
  | .portTrainDone _ _ _ => true
  | .helloReceive _ chip _ _ => chipOk chip
  | .linkStateReceive link => linkOk link
  | .portDown _ => true
  | .sleepVote _ => true
  | .sleepVoteReceive chip => chipOk chip
  | .sleepAtReceive _ => true
  | .sleepCancelInstant => true
  | .sleepEnter => true
  | .fabWake _ => true
  | .wakeToneDetect _ => true
  | .siteReset _ _ => true
  | .siteResetBurstsEnded _ => true
  | .siteResetDone _ => true
  | .scrubDone _ => true
  | .retrainPassStart => true
  | .retrainStep _ _ => true
  | .mirrorRewriteDone => true
  | .refLoss => true
  | .refPresent => true
  | .pllLossOfLock _ => true
  | .pllRelock _ => true
  | .updnow _ _ => true
  | .sliceFail _ _ => true
  | .frontEndFail _ => true
  | .clvTake _ _ _ => true
  | .clvRetrim _ _ _ => true
  | .clvReturn _ _ _ => true
  | .clvSave _ _ _ => true
  | .retrimDone _ pass => passOk pass
  | .saveDone _ _ => true
  | .faultSourceActive _ => true
  | .faultSourceClear _ => true
  | .wireFault _ => true
  | .quietEnd _ => true
  | .recoveryWriteDone _ _ => true
  | .fltClear _ _ => true
  | .faultRepeat => true
  | .remoteExpire _ => true
  | .fltinChange _ _ => true
  | .ilkOpen _ => true
  | .ilkClose _ => true
  | .discrepancyLatch => true
  | .selfFault => true
  | .conversionEnd _ => true
  | .monSelect _ sel => word32 sel
  | .monSnap _ => true
  | .monClr _ => true
  | .pgoodRise board => decide (board.flash.length ≤ 16777216)
  | .pgoodFall => true
  | .dramTrainingDone _ => true
  | .bootRun _ => true
  | .brownOut => true
  | .reboot _ => true
  | .pwrReqActive _ => true
  | .pwrReqIdle _ => true
  | .pwrReqDormant _ => true
  | .pwrReqStandby _ => true
  | .powerTransitionDone => true
  | .wakePin => true
  | .standbyHoldEnd => true
  | .nvmKey _ data => word32 data
  | .keyarmExpire => true
  | .nvmStore _ => true
  | .nvmProgram _ _ => true
  | .nvmRevoke _ _ => true
  | .nvmWriteDone _ => true
  | .registerWrite _ _ size data => sizeOk size && decide (data < 256 ^ size)
  | .ringEnable _ _ log2n => decide (log2n < 16)
  | .ringDisable _ _ => true
  | .submitProdWrite _ prod => word32 prod
  | .submitSlotRead _ slot _ => decide (slot.length = 16) && slot.all word32
  | .consWrite _ _ cons => word32 cons
  | .completionWrite _ => true
  | .streamInProdWrite _ prod => word32 prod
  | .streamInDescriptor _ desc _ _ => decide (desc.length = 8) && desc.all word32
  | .windowBaseWrite _ _ base => word32 base
  | .evmskWrite _ mask => word32 mask
  | .vfFlr _ => true
  | .perst => true
  | .trgInEdge _ _ => true
  | .jtagInstruction _ => true
  | .tdcStopDone _ => true
  | .deepStateExitDone _ => true
  | .codeViolation p => decide (p.line.length ≤ 8192)
  | .flashReservedFtype _ copies => copiesOk copies
  | .vioValid => true
  | .vauxRise => true

end Instr

end Sys2Proof
end

