-- ==== Sys2Proof/Certificates/Slice0/Obligations.lean ====
section
/-! DEFINITION. The statements about the block: what its rules say it does. -/

open Sys2Proof Sys2Proof.Machine

/-! ### The queue, reset and the whole machine -/

/-- Step takes the command at the front of the queue and runs it on the block with the rest of the queue. -/
def Obligations.StepRunsFrontCommand : Prop :=
∀ (s : State) (c : Instr) (rest : List Instr), s.pending = c :: rest → step s = exec c { s with pending := rest }

/-- The model's choice (log entry 1): with an empty queue the block idles; and no word spells a command (log entry 17). -/
def Obligations.IdleStepKeepsState : Prop :=
(∀ s : State, s.pending = [] → step s = .next s) ∧
    (∀ nbits w : Nat, decodeTableWord nbits w = none) ∧ ∀ (s : State) (nbits w : Nat), s.withFetchWord nbits w = s

/-- After reset every register field reads its reset value, live values included, and every memory reads 0 (HALT in the
stores: log entry 13). -/
def Obligations.ResetValues : Prop :=
(∀ (f : Fld) (i : Nat), State.reset.getF f i = f.reset i ∧ State.reset.getL f i = f.reset i) ∧
    (∀ o b : Nat, State.reset.bbByte o b = 0) ∧ (∀ c b : Nat, State.reset.acqByte c b = 0) ∧
    (∀ a : Nat, State.reset.dramByte a = 0) ∧ (∀ e a : Nat, State.reset.store e a = haltWord) ∧
    State.reset.pending = [] ∧ State.reset.out = []

/-- After reset every table of the state is canonical. -/
def Obligations.ResetIsCanonical : Prop :=
State.reset.canonical = true

/-- Every step keeps the register tables canonical. -/
def Obligations.StepKeepsRegistersCanonical : Prop :=
∀ s t : State, s.regsWf = true → step s = .next t → t.regsWf = true

/-- Every step keeps the memories and the stores canonical. -/
def Obligations.StepKeepsMemoriesCanonical : Prop :=
∀ s t : State, s.memsWf = true → s.storesWf = true → step s = .next t → t.memsWf = true ∧ t.storesWf = true

/-- Every step keeps the tables of units canonical. -/
def Obligations.StepKeepsUnitsCanonical : Prop :=
∀ s t : State, s.unitsWf = true → step s = .next t → t.unitsWf = true

/-- Every command, in every state, with every operand, answers a next state, and leaves the queue as it was. -/
def Obligations.CommandsAnswerNextAndKeepQueue : Prop :=
  ∀ (c : Instr) (s : State), ∃ t, exec c s = .next t ∧ t.pending = s.pending

/-! ### System time (R15 to R18, R273 to R281) -/

/-- A tick ends its cycle and adds the TBS_INC in force at it to system time (an increment sent earlier is in force once its named
tick has come), every island's copy moves with it, and nothing changes but the time registers and the microsecond counters of the
dispatcher. The end of a cycle changes nothing while no transaction has lapsed in it (R290) and no returning slice is compared (R381). -/
def Obligations.TickAdvancesTime : Prop :=
(∀ s c : State, s.cycleEnd = c → ∃ t, exec .timebaseTick s = .next t ∧
    t.getF F.TBS_FRAC_FRAC 0 = (c.nowFix + c.runIncs.inc) % 4294967296 ∧
    t.getF F.TBS_NS_NS 0 = (c.nowFix + c.runIncs.inc) / 4294967296 % 4294967296 ∧
    t.getF F.TBS_WRAPCNT_WRAP 0 = (c.nowFix + c.runIncs.inc) / 18446744073709551616 % 4294967296 ∧
    ((c.nowFix + c.runIncs.inc) / 18446744073709551616 ≠ c.nowFix / 18446744073709551616 → t.getF F.TBS_STAT_WRAPF 0 = 1) ∧
    t.time.ticks = c.time.ticks + 1 ∧ t.time.incSent = c.runIncs.time.incSent ∧
    ((∀ l ∈ c.time.loads, c.time.ticks + 1 < l.2.1) → t.time = { c.runIncs.time with ticks := c.time.ticks + 1 }) ∧
    { t with reg := c.reg, time := c.time } = c ∧
    RegsBut ([F.TBS_INC_LO_FRAC.key 0, F.TBS_INC_HI_INT.key 0, F.TBS_FRAC_FRAC.key 0, F.TBS_NS_NS.key 0,
      F.TBS_WRAPCNT_WRAP.key 0, F.TBS_STAT_WRAPF.key 0] ++
      (List.range 16).map F.DSP_EBUSY_BUSY.key ++ sites.map F.DSP_SBPUS_US.key) c t) ∧
  (∀ s : State, (∀ x ∈ sites, (s.safOf x).lapsed = none) → (∀ o < 8, s.getF F.OCT_CLVSTAT_STATE o ≠ 4) → s.cycleEnd = s) ∧
  (∀ s : State, (∀ p ∈ s.time.incSent, s.time.ticks < p.1) → s.runIncs = s) ∧
  (∀ (s : State) (n i : Nat) (rest : List (Nat × Nat)), s.time.incSent = (n, i) :: rest → n ≤ s.time.ticks → i < 2 ^ 40 →
    (∀ p ∈ rest, s.time.ticks < p.1) → s.runIncs.inc = i ∧ s.runIncs.time = { s.time with incSent := rest })

/-- A beacon goes to every timed island and names a tick at least 128 ns ahead, with the time there and the increment.
An island whose copy agrees with a beacon takes it off the way and nothing else; a STEP beacon is loaded unchecked; a copy
that differs is loaded, and TIME_SLIP names the island. -/
def Obligations.BeaconsLeadAndAreChecked : Prop :=
  (∀ s : State, 0 < s.inc → ∃ t, exec .beaconSend s = .next t ∧ { t with time := s.time, free := s.free } = s ∧
    t.time.stepPend = false ∧ t.time.incNext = none ∧
    ∃ tick v i, 128 * 4294967296 ≤ (tick - s.time.ticks) * s.inc ∧
      t.time.beacons = s.time.beacons ++ timedIslands.map (fun k => ⟨k, tick, v, i, s.time.stepPend⟩) ∧
      (∀ n, s.time.incNext = some n → i = n ∧ t.time.incSent = putInc tick n s.time.incSent) ∧
      (s.time.incSent = [] → v = s.nowFix + (tick - s.time.ticks) * s.inc ∧ i = s.time.incNext.getD s.inc)) ∧
  (∀ (s : State) (isl : Nat) (b : Beacon) (rest : List Beacon),
    takeFirst (fun b => b.isl == isl) s.time.beacons = some (b, rest) →
    (b.step = true → exec (.beaconArrive isl) s =
      .next (({ s with time := { s.time with beacons := rest } } : State).loadAt isl b.tick b.value)) ∧
    (b.step = false → s.time.ticks < b.tick → s.copyAt isl b.tick = b.value → exec (.beaconArrive isl) s =
      .next { s with time := { s.time with beacons := rest } }) ∧
    (b.step = false → s.time.ticks < b.tick → s.copyAt isl b.tick ≠ b.value → sites.filter (fun x => s.usesIsland x isl) = [] →
      isl < 32 → ∃ t, exec (.beaconArrive isl) s = .next t ∧ t.getF F.TBS_STAT_TIME_SLIP 0 = 1 ∧
        t.getF F.TBS_SLIP_ISL 0 = isl ∧ t.time.loads = s.time.loads ++ [(isl, b.tick, b.value)] ∧ t.time.beacons = rest))

/-- The increment takes effect at the tick it was sent for, and not before it; SNAP copies the time of one tick; SET at the root
steps the time. -/
def Obligations.TimeRegisterCommands : Prop :=
(∀ (s : State) (n i : Nat) (rest : List (Nat × Nat)), s.time.incSent = (n, i) :: rest → n ≤ s.time.ticks →
    (∀ p ∈ rest, s.time.ticks < p.1) → ∃ t, exec .incApply s = .next t ∧
    t.getF F.TBS_INC_LO_FRAC 0 = i % 4294967296 ∧ t.getF F.TBS_INC_HI_INT 0 = i / 4294967296 % 256 ∧
    t.time = { s.time with incSent := rest } ∧ { t with reg := s.reg, time := s.time } = s ∧
    RegsBut (keysAt 0 [F.TBS_INC_LO_FRAC, F.TBS_INC_HI_INT]) s t) ∧
  (∀ s : State, (∀ p ∈ s.time.incSent, s.time.ticks < p.1) → exec .incApply s = .next s) ∧
  (∀ (s : State) (fn : Fn), fn = .pf0 ∨ s.vfLive fn = true → ∃ t, exec (.tbsSnap fn) s = .next t ∧
    t.getF F.TBS_SNS_NS (fnIx fn) = s.getF F.TBS_NS_NS 0 % 4294967296 ∧
    t.getF F.TBS_SFRAC_FRAC (fnIx fn) = s.getF F.TBS_FRAC_FRAC 0 % 4294967296 ∧
    t.getF F.TBS_SWRAP_WRAP (fnIx fn) = s.getF F.TBS_WRAPCNT_WRAP 0 % 4294967296 ∧
    RegsOnly (keysAt (fnIx fn) [F.TBS_SNS_NS, F.TBS_SFRAC_FRAC, F.TBS_SWRAP_WRAP]) s t) ∧
  (∀ s : State, s.flag F.TBS_STAT_ROOT 0 = true → s.anyRun = false → s.getF F.TBS_SETNS_NS 0 < 4294967296 →
    ∃ t, exec (.tbsSet .pf0) s = .next t ∧
    t.getF F.TBS_NS_NS 0 = s.getF F.TBS_SETNS_NS 0 % 4294967296 ∧ t.getF F.TBS_FRAC_FRAC 0 = 0 ∧
    t.getF F.TBS_STAT_STEPPED 0 = 1 ∧ t.time.stepPend = true ∧ { t with reg := s.reg, time := s.time } = s ∧
    RegsBut (keysAt 0 [F.TBS_FRAC_FRAC, F.TBS_NS_NS, F.TBS_WRAPCNT_WRAP, F.TBS_STAT_STEPPED]) s t) ∧
  (∀ s : State, s.anyRun = true → exec (.tbsSet .pf0) s = .next s)

/-- A child asks its parent and notes the instant; a parent answers with a reply and a follow-up whose t3 is not before t2; a
lost exchange is counted, and the eighth in a row loses the parent and holds the increment.
An exchange that completes while LOCKED, with the offset within OFFLIM, reports offset and delay in picoseconds, counts, and
the servo sets the next increment; the timebase stays LOCKED. -/
def Obligations.TimeExchangesSteerServo : Prop :=
  ((∀ (s : State) (k : Nat), s.time.parent = some k → s.flag F.TBS_STAT_ROOT 0 = false → s.portState k = 2 →
    exec .timeExchangeStart s = .next
      (({ s with time := { s.time with exT1 := some s.now } } : State).send 2 (s.getF F.FAB_PSTAT_FAR k) .timeReq)) ∧
  (∀ (s : State) (p : Fin 12) (child t1 : Nat), s.portState p.val = 2 → ∃ t3, s.now ≤ t3 ∧
    exec (.timeRequestReceive p child t1) s = .next ((s.drawn.send 2 child .timeReply).send 2 child (.timeFollow s.now t3))) ∧
  (∀ (s : State) (t1 k : Nat), s.time.exT1 = some t1 → s.time.parent = some k → s.portState k < 3 →
    s.time.lostRow + 1 < 8 → ∃ t, exec .exchangeLost s = .next t ∧
      t.getF F.TBS_EXFAIL_CNT 0 = (s.getF F.TBS_EXFAIL_CNT 0 + 1) % 4294967296 ∧
      t.time = { s.time with exT1 := none, lostRow := s.time.lostRow + 1 } ∧ { t with reg := s.reg, time := s.time } = s ∧
      RegsBut [F.TBS_EXFAIL_CNT.key 0] s t) ∧
  (∀ (s : State) (t1 k : Nat), s.time.exT1 = some t1 → s.time.parent = some k → s.portState k < 3 →
    s.time.lostRow = 7 → s.getF F.TBS_STAT_STATE 0 = 2 → ∃ t, exec .exchangeLost s = .next t ∧
      t.getF F.TBS_STAT_STATE 0 = 3 ∧ t.getF F.TBS_STAT_PARLOST 0 = 1 ∧ t.getF F.TBS_STAT_PARV 0 = 0 ∧
      t.time.parent = none ∧ t.time.incNext = some s.holdInc)) ∧
  (∀ (s : State) (p : Fin 12) (t1 t2 t3 t4 : Nat), s.time.exT1 = some t1 → s.time.parent = some p.val →
    s.getF F.TBS_STAT_STATE 0 = 2 →
    (theta2 t1 t2 t3 t4 (s.getF F.TBS_ASYM_ASYM p.val)).natAbs ≤ 2 * s.getF F.TBS_OFFLIM_OFFLIM 0 * 34359738368 →
    ∃ t, exec (.exchangeComplete p t2 t3 t4) s = .next t ∧
      t.getF F.TBS_OFFS_THETA 0 = trunc 32 (clampInt (-2147483648) 2147483647
        (nearest (theta2 t1 t2 t3 t4 (s.getF F.TBS_ASYM_ASYM p.val)) (2 * psUnits))) % 4294967296 ∧
      t.getF F.TBS_EXCNT_CNT 0 = (s.getF F.TBS_EXCNT_CNT 0 + 1) % 4294967296 ∧
      t.getF F.TBS_STAT_STATE 0 = 2 ∧ t.getF F.TBS_STAT_PARV 0 = 1 ∧ t.time.exT1 = none ∧ t.time.lostRow = 0 ∧
      t.time.incNext = some (s.servo (nearest (theta2 t1 t2 t3 t4 (s.getF F.TBS_ASYM_ASYM p.val) * 4294967296)
        (2 * 1000 * psUnits * (2 ^ s.getF F.TBS_SERVO_EXLOG 0 * 1000 : Nat)))).1.toNat ∧
      { t with reg := s.reg, time := s.time } = s ∧
      RegsBut (keysAt 0 [F.TBS_OFFS_THETA, F.TBS_DELAY_DELTA, F.TBS_EXCNT_CNT, F.TBS_STAT_PARENT, F.TBS_STAT_PARV]) s t)

/-- A timed request held 16 ns of local time before its target is armed, and later requests follow the late rule of their
function; a segment start that its octet has not sent does nothing; an armed request that acts leaves the list. -/
def Obligations.TimedRequestArmsOrFallsLate : Prop :=
(∀ (s u : State) (isl : Nat) (r : TimedReq), s.reqArrive r = some u → u.localNow isl + Time.ofNs 16 ≤ reqTarget r →
    exec (.timedRequestArrive isl r) s = .next { u with time := { u.time with armed := u.time.armed ++ [(isl, r)] } }) ∧
  (∀ (s : State) (isl : Nat) (r : TimedReq), s.reqArrive r = none → exec (.timedRequestArrive isl r) s = .next s) ∧
  (∀ (s : State) (isl : Nat) (c : Fin 64) (tm : Time), s.localNow isl + Time.ofNs 16 ≤ tm →
    exec (.timedRequestArrive isl (.acqTrig c tm)) s =
      .next { s with time := { s.time with armed := s.time.armed ++ [(isl, .acqTrig c tm)] } }) ∧
  (∀ (s : State) (isl : Nat) (c : Fin 64) (tm : Time), tm < s.localNow isl + Time.ofNs 16 →
    ∃ t, exec (.timedRequestArrive isl (.acqTrig c tm)) s = .next t ∧ t.getF F.ACQ_STAT_TMISS c.val = 1 ∧
      RegsOnly [F.ACQ_STAT_TMISS.key c.val] s t) ∧
  (∀ (s : State) (isl : Nat) (o : Fin 8) (trg flash : Nat) (tm : Time), (s.octSt o.val).wave.sent = [(trg, flash, some tm)] →
    (s.octSt o.val).wave.asked = [] → trg + flash ≠ 0 →
    tm < s.localNow isl + Time.ofNs 16 →
    ∃ t, exec (.timedRequestArrive isl (.segStart o trg flash tm)) s = .next t ∧ t.getF F.OCT_WFSTAT_TRGLATE o.val = 1 ∧
      t.getF F.OCT_WFTRGCNT_TRGCNT o.val = (s.getF F.OCT_WFTRGCNT_TRGCNT o.val + 1) % 2 ^ F.OCT_WFTRGCNT_TRGCNT.width ∧
      (t.octSt o.val).wave = { (s.octSt o.val).wave with sent := [] } ∧
      OctOnly o.val (keysAt o.val [F.OCT_WFSTAT_TRGLATE, F.OCT_WFTRGCNT_TRGCNT]) s t) ∧
  (∀ (s : State) (isl : Nat) (o : Fin 8) (trg flash x : Nat) (tm : Time) (rest : List (Nat × TimedReq)),
    firstArmed isl s.time.armed = some (.segStart o trg flash tm, rest) → s.octOwner o.val = some x → flash % 16 = 0 →
    exec (.timedAction isl) s =
      .next (({ s with time := { s.time with armed := rest } } : State).pulses x trg (Time.ofQ (Time.toQ tm)))) ∧
  (∀ (s : State) (isl : Nat) (c : Fin 64) (tm : Time) (rest : List (Nat × TimedReq)),
    firstArmed isl s.time.armed = some (.acqTrig c tm, rest) → s.getF F.ACQ_CFG_TSRC c.val = 3 →
    (((s.chanOf c.val).acq.taken tm).isEmpty = true → ∃ t, exec (.timedAction isl) s = .next t ∧
      (t.chanOf c.val).acq = { (s.chanOf c.val).acq with events := (s.chanOf c.val).acq.events ++ [tm] } ∧
      t.time = { s.time with armed := rest }) ∧
    exec (.timedAction isl) s = .next (({ s with time := { s.time with armed := rest } } : State).acqTrigger c.val tm))

/-! ### Engines (R85 to R147) -/

/-- R102: what VAOP loads into the VA register VDST when a word completes; with it the post-update of the VSRC register of a
word that loads none, and the loop counters. -/
def Obligations.CompletionLoadsVaAndCounters : Prop :=
∀ (s t : State) (e w pc n : Nat) (hret : Bool), e < 16 → t = s.internal e w pc n hret →
    (mVAOP w = 1 → t.getF F.SE_VA_ROW (e * 16 + mVDST w) = mVIMM w ∧ t.getF F.SE_VA_STR (e * 16 + mVDST w) = 0 ∧
      t.getF F.SE_VA_SLOT (e * 16 + mVDST w) = 0) ∧
    (mVAOP w = 2 → t.getF F.SE_VA_STR (e * 16 + mVDST w) = 1 ∧ t.getF F.SE_VA_SLOT (e * 16 + mVDST w) = mVIMM w % 4 ∧
      t.getF F.SE_VA_ROW (e * 16 + mVDST w) = 0) ∧
    (mVAOP w = 3 → t.va e (mVDST w) = s.par e (mVIMM w % 8) % 2 ^ 25) ∧
    (mVAOP w = 0 → (mVOP w = 0 ∨ mVOP w = 1 ∨ mVOP w = 4 ∨ mVOP w = 7) → ∀ k, k < 16 → t.va e k = s.va e k) ∧
    (mVAOP w = 0 → (mVOP w = 2 ∨ mVOP w = 5) → hasBit (s.va e (mVSRC w)) 22 = false →
      t.getF F.SE_VA_ROW (e * 16 + mVSRC w) = (s.va e (mVSRC w) % 2 ^ 22 + n) % 2 ^ 22) ∧
    (mVAOP w = 0 → (mVOP w = 3 ∨ mVOP w = 6) → hasBit (s.va e (mVSRC w)) 22 = false → n < 2 ^ 22 →
      t.getF F.SE_VA_ROW (e * 16 + mVSRC w) = (s.va e (mVSRC w) % 2 ^ 22 + 2 ^ 22 - n) % 2 ^ 22) ∧
    (∀ k, k < 4 → (mLOOP w k = 0 → t.lc e k = s.lc e k) ∧
      (mLOOP w k = 1 → mLSRC w = false → t.lc e k = mIMM32 w) ∧
      (mLOOP w k = 1 → mLSRC w = true → t.lc e k = s.par e (mIMM16 w % 8) % 2 ^ 32) ∧
      (2 ≤ mLOOP w k → t.lc e k = (s.lc e k + (2 ^ 32 - 1)) % 2 ^ 32))

/-- At a free word boundary the engine issues the word stored at its next address; a word with a parity error goes to a retry
instead and its address is recorded; with an exception waiting the engine issues nothing. In a training pass SE15 issues the word of
the training store; one that traps leaves the record of its TRAP and ends the pass. -/
def Obligations.WordIssueFetchesNextWord : Prop :=
(∀ (e : Fin 16) (s : State), s.boot.pass = none → (s.engOf e.val).atBoundary = true → (s.engOf e.val).stopReq = false →
    (s.asyncPend e.val = false → parityBad (s.store e.val (s.engOf e.val).nextPc) = false →
      exec (.wordIssue e 0) s = .next ((s.setF F.SE_STATE_PC e.val (s.engOf e.val).nextPc).issueWord e.val
        (s.store e.val (s.engOf e.val).nextPc) (s.engOf e.val).nextS)) ∧
    (s.asyncPend e.val = false → parityBad (s.store e.val (s.engOf e.val).nextPc) = true →
      ∃ t, exec (.wordIssue e 0) s = .next t ∧
        (t.engOf e.val) = { s.engOf e.val with parity := some (s.engOf e.val).nextS } ∧
        t.getF F.SE_MCREC_MCADDR e.val = (s.engOf e.val).nextPc % 8192 ∧
        t.getF F.SE_STATE_PC e.val = (s.engOf e.val).nextPc % 8192 ∧ { t with reg := s.reg, eng := s.eng } = s ∧
        (∀ k, k ≠ e.val → t.engOf k = s.engOf k) ∧ RegsBut (keysAt e.val [F.SE_STATE_PC, F.SE_MCREC_MCADDR]) s t) ∧
    (s.asyncPend e.val = true → (s.engOf e.val).inExc = false → (s.engOf e.val).guarded = false →
      ∀ upset, exec (.wordIssue e upset) s = .next s)) ∧
  (∀ (s : State) (r : TrainRun) (upset : Nat), s.boot.pass = some r → r.word = none →
    trainTrap (s.trainWord r.pc) r.delay.isSome (s.sp 15) = none → ∃ t, exec (.wordIssue 15 upset) s = .next t ∧
      t.boot = { s.boot with pass := some { r with word := some (s.trainWord r.pc) } } ∧
      t.getF F.SE_STATE_PC 15 = r.pc % 8192 ∧ { t with reg := s.reg, boot := s.boot } = s ∧ RegsBut [F.SE_STATE_PC.key 15] s t) ∧
  (∀ (s : State) (r : TrainRun) (upset cause n : Nat), s.boot.pass = some r → r.word = none →
    trainTrap (s.trainWord r.pc) r.delay.isSome (s.sp 15) = some (cause, n) → ∃ t, exec (.wordIssue 15 upset) s = .next t ∧
      t.getF F.SE_EXC_CODE 15 = 7 ∧ t.getF F.SE_EXC_CAUSE 15 = cause ∧ t.getF F.SE_EXC_TRAPN 15 = n ∧
      t.getF F.SE_EXC_VALID 15 = 1 ∧ (r.delay = none → t.getF F.SE_EXC_EPC 15 = r.pc % 8192) ∧
      t.getF F.SE_STATE_STATE 15 = 0 ∧ t.boot.pass = none ∧ s.sameMems t)

/-- A plain word completes at its resolve instant; one that goes on without a branch leaves the engine at the next address,
at the end of the word. A word that posts waits with its post while no entry is free.
A repeating word whose condition does not hold and whose time is not out repeats; one whose time is out raises MTO with code 1,
and a WAIT with CMASK = 0 completes then. -/
def Obligations.WordResolveGoesOnOrRepeats : Prop :=
  (∀ (e : Fin 16) (s : State) (c : Issued) (i : Item), s.boot.pass = none → (s.engOf e.val).cur = some c →
    (s.engOf e.val).item = some i →
    (s.engOf e.val).post = none → (s.engOf e.val).suspending = false → (s.engOf e.val).ufl = none → mRepeats c.word = false →
    (mXFER c.word ≠ 4 → mXFER c.word ≠ 5 → exec (.wordResolve e) s = .next (s.completeWord e.val c)) ∧
    (mBRK c.word = 0 → c.delay = none → ((s.completeWord e.val c).engOf e.val).nextPc = (c.pc + 1) % 8192 ∧
      ((s.completeWord e.val c).engOf e.val).cur = none ∧ ((s.completeWord e.val c).engOf e.val).nextS = c.e) ∧
    (mXFER c.word = 4 ∨ mXFER c.word = 5 → s.entryFree i.site = false → i.site < 16 → s.flag F.DSP_SCTL_STOP i.site = false →
      ∃ t, exec (.wordResolve e) s = .next t ∧ (t.engOf e.val).post =
          some { num := s.serial, site := i.site, desc := (s.newItem i.site 0 (s.postDesc e.val c.word i)).desc } ∧
        (t.engOf e.val).cur = some c ∧ t.serial = s.serial + 1 ∧ t.getF F.DSP_SSTAT_POSTWAIT i.site = 1 ∧
        { t with reg := s.reg, eng := s.eng, serial := s.serial } = s ∧ (∀ k, k ≠ e.val → t.engOf k = s.engOf k) ∧
        RegsBut [F.DSP_SSTAT_POSTWAIT.key i.site] s t)) ∧
  (∀ (e : Fin 16) (s : State) (c : Issued) (i : Item), s.boot.pass = none → (s.engOf e.val).cur = some c →
    (s.engOf e.val).item = some i →
    (s.engOf e.val).post = none → (s.engOf e.val).suspending = false → (s.engOf e.val).ufl = none → mRepeats c.word = true →
    s.repCond e.val c = false →
    (s.timedOut i.site c = false → ∃ t, exec (.wordResolve e) s = .next t ∧ (t.engOf e.val).cur = none ∧
      (t.engOf e.val).nextPc = c.pc ∧ (t.engOf e.val).nextS = c.e ∧ (t.engOf e.val).s0 = some c.s0 ∧
      (t.engOf e.val).evt0 = c.evt0 ∧ (t.engOf e.val).item = some i ∧
      { t with eng := s.eng } = s ∧ ∀ k, k ≠ e.val → t.engOf k = s.engOf k) ∧
    (s.timedOut i.site c = true → (mBRK c.word = 6 → mCMASK c.word ≠ 0) →
      exec (.wordResolve e) s = .next ((s.modEng e.val (fun h => h.past c)).raiseSync e.val c 1 0 0 c.e c.vidx)) ∧
    (s.timedOut i.site c = true → mBRK c.word = 6 → mCMASK c.word = 0 → mXFER c.word < 4 →
      exec (.wordResolve e) s = .next (s.completeWord e.val c)))

/-- R135, R140: a synchronous exception writes its record and sends the engine to the handler at eight times its code, which starts
where its first vector fits. -/
def Obligations.ExceptionEntersHandler : Prop :=
∀ (s : State) (e : Nat) (w : Issued) (code cause trapn vidx : Nat) (hs : Time), e < 16 → code < 8 → cause < 8 →
    (s.engOf e).inExc = false → w.delay = none →
    ((s.raiseSync e w code cause trapn hs vidx).engOf e).inExc = true ∧
    ((s.raiseSync e w code cause trapn hs vidx).engOf e).excCode = code ∧
    ((s.raiseSync e w code cause trapn hs vidx).engOf e).nextPc = code * 8 ∧
    ((s.raiseSync e w code cause trapn hs vidx).engOf e).nextS =
      ((s.restoreUndo e w.before).dropWordSpan (match (s.engOf e).item with | some i => i.site | none => 0) e w.s0).planned
        (match (s.engOf e).item with | some i => i.site | none => 0) e (code * 8) hs ∧
    ((s.raiseSync e w code cause trapn hs vidx).engOf e).cur = none ∧
    (s.raiseSync e w code cause trapn hs vidx).getF F.SE_EXC_CODE e = code ∧
    (s.raiseSync e w code cause trapn hs vidx).getF F.SE_EXC_CAUSE e = cause ∧
    (s.raiseSync e w code cause trapn hs vidx).getF F.SE_EXC_VALID e = 1 ∧
    (s.raiseSync e w code cause trapn hs vidx).getF F.SE_EXC_EPC e = w.pc % 8192 ∧
    (s.raiseSync e w code cause trapn hs vidx).getF F.SE_STATE_STATE e = 3 ∧
    s.sameMems (s.raiseSync e w code cause trapn hs vidx)

/-- The first waiting exception of SAFE, FAB and PRE is taken at a free boundary, SAFE before FAB before PRE, and its waiting
bit clears.
An underrun report of a word the engine no longer holds only clears the report; one of a word it holds raises UFL with code
2 and clears the report. -/
def Obligations.AsyncOrderAndUnderrunReport : Prop :=
  (∀ (e : Fin 16) (s : State), (s.engOf e.val).atBoundary = true → (s.engOf e.val).guarded = false →
    (s.engOf e.val).inExc = false → (s.engOf e.val).stopReq = false →
    (s.flag F.SE_EXCB_PSAFE e.val = true → ∃ t, exec (.asyncExceptionTake e) s = .next t ∧ (t.engOf e.val).excCode = 5 ∧
      (t.engOf e.val).inExc = true ∧ (t.engOf e.val).nextPc = 40 ∧ t.getF F.SE_EXCB_PSAFE e.val = 0 ∧
      t.getF F.SE_EXC_EPC e.val = (s.engOf e.val).nextPc % 8192) ∧
    (s.flag F.SE_EXCB_PSAFE e.val = false → s.flag F.SE_EXCB_PFAB e.val = true →
      ∃ t, exec (.asyncExceptionTake e) s = .next t ∧ (t.engOf e.val).excCode = 4 ∧ (t.engOf e.val).nextPc = 32 ∧
      t.getF F.SE_EXCB_PFAB e.val = 0) ∧
    (s.flag F.SE_EXCB_PSAFE e.val = false → s.flag F.SE_EXCB_PFAB e.val = false → s.flag F.SE_EXCB_PPRE e.val = true →
      ∃ t, exec (.asyncExceptionTake e) s = .next t ∧ (t.engOf e.val).excCode = 6 ∧ (t.engOf e.val).nextPc = 48 ∧
      t.getF F.SE_EXCB_PPRE e.val = 0)) ∧
  (∀ (e : Fin 16) (arrival : Time) (s : State) (wid vidx : Nat) (sv : Time), (s.engOf e.val).ufl = some (wid, vidx, sv) →
    (((s.engOf e.val).cur.toList ++ (s.engOf e.val).hist).find? (fun q => q.wid == wid) = none →
      exec (.uflReport e arrival) s = .next (s.modEng e.val (fun h => { h with ufl := none }))) ∧
    (∀ (c : Issued) (i : Item), ((s.engOf e.val).cur.toList ++ (s.engOf e.val).hist).find? (fun q => q.wid == wid) = some c →
      (s.engOf e.val).item = some i → c.inExc = false →
      ∃ t, exec (.uflReport e arrival) s = .next t ∧ (t.engOf e.val).inExc = true ∧ (t.engOf e.val).excCode = 2 ∧
        (t.engOf e.val).ufl = none ∧ (t.engOf e.val).nextPc = 16 ∧ (t.engOf e.val).cur = none ∧
        (t.engOf e.val).post = none ∧ (t.engOf e.val).item = some i))

/-- A transient parity error reads the mirror, counts one, clears MCLAST and issues the rewritten word; a waiting post is admitted once an entry is
free, and its word completes. -/
def Obligations.RetryAndPostComplete : Prop :=
(∀ (e : Fin 16) (s : State) (t0 : Time), (s.engOf e.val).parity = some t0 →
    s.mirrorGone e.val (s.engOf e.val).nextPc = false →
    parityBad (withParity (s.mirrorWord e.val (s.engOf e.val).nextPc)) = false → ∃ (u : State) (t : Time),
      exec (.mchkRewriteDone e false 0) s = .next (u.issueWord e.val
        (withParity (s.mirrorWord e.val (s.engOf e.val).nextPc)) t) ∧
      u.store e.val (s.engOf e.val).nextPc = withParity (s.mirrorWord e.val (s.engOf e.val).nextPc) ∧
      (u.engOf e.val).parity = none ∧ u.getF F.SE_MCREC_MCLAST e.val = 0 ∧
      u.getF F.SE_PARCNT_CNT e.val = satAt 16 (s.getF F.SE_PARCNT_CNT e.val + 1) % 65536 ∧
      u.reqs = s.reqs ++ [⟨s.serial, 3, 16, mirrorDc e.val (s.engOf e.val).nextPc, s.nowNs, 0, 0, none, none⟩] ∧
      { u with reg := s.reg, eng := s.eng, cstore := s.cstore, reqs := s.reqs, serial := s.serial } = s ∧
      t = s.gridFrom (s.engOf e.val).site (s.groupOf (s.engOf e.val).site
        (withParity (s.mirrorWord e.val (s.engOf e.val).nextPc))) (s.localNow 8 + Time.ofNs 64)) ∧
  (∀ (x : Fin 16) (e : Nat) (s : State) (p : Post) (c : Issued), e < 16 →
    (∀ k, k < 16 → k ≠ e → (s.engOf k).post = none) → (s.engOf e).post = some p → p.site = x.val → (s.engOf e).cur = some c →
    s.entryFree x.val = true → ∃ u b,
      u = ((s.modEng e (fun g => { g with post := none })).takeItem (s.newItem x.val 0 p.desc)).setF F.DSP_SSTAT_POSTWAIT x.val b ∧
      (((u.completeWord e c).engOf e).item = none →
        exec (.postEntryFreed x) s = .next ((u.completeWord e c).fabricNext x.val)) ∧
      (((u.completeWord e c).engOf e).item.isSome = true → exec (.postEntryFreed x) s =
        .next (((u.completeWord e c).modEng e (fun g => { g with
          nextS := s.gridFrom x.val c.mask (s.localNow 8 + Time.ofNs 64) })).fabricNext x.val)))

/-- Suspending puts the whole context of a burst into the slot of its engine and frees the engine, for an item that is bound to it
or, with none, for its own restore; restoring gives it all back. -/
def Obligations.SuspendAndRestore : Prop :=
(∀ (e : Fin 16) (s : State) (i : Item), (s.engOf e.val).item = some i → (s.engOf e.val).suspending = true →
    (s.engOf e.val).stopReq = false → (s.engOf e.val).saved = none →
    ∃ t v, exec (.burstSuspend e) s = .next t ∧ (t.engOf e.val).saved = some v ∧ v.item = i ∧
      v.pc = (s.engOf e.val).nextPc ∧ v.undo = s.snap e.val ∧ v.par = (List.range 8).map (fun j => s.par e.val j) ∧
      v.exc = excFlds.map (fun f => s.getF f e.val) ∧ v.inExc = (s.engOf e.val).inExc ∧ v.delay = (s.engOf e.val).delay ∧
      v.mat = (s.engOf e.val).mat ∧ v.cmps = (s.engOf e.val).cmps ∧ v.reln = (s.engOf e.val).reln ∧
      (t.engOf e.val).item = none ∧ (t.engOf e.val).started = false ∧
      ((t.engOf e.val).restoring = true ↔ s.ready.any (fun j => j.bound == some e.val) = false ∧
        s.ready.filter (fun j => s.yieldFor e.val j) = []) ∧ ∀ k, k ≠ e.val → t.engOf k = s.engOf k) ∧
  (∀ (e : Fin 16) (s : State) (i : Item), (s.engOf e.val).item = some i → (s.engOf e.val).suspending = true →
    (s.engOf e.val).stopReq = true → exec (.burstSuspend e) s = .next (s.endBurst e.val 5 0 false)) ∧
  (∀ (e : Fin 16) (s : State) (v : Saved) (tm : Time), (s.engOf e.val).saved = some v → (s.engOf e.val).item = none →
    (s.engOf e.val).restoring = true → s.engState e.val ≠ 4 →
    ∃ t, exec (.burstRestore e tm) s = .next t ∧ (t.engOf e.val).item = some v.item ∧
      (t.engOf e.val).started = true ∧ (t.engOf e.val).nextPc = v.pc ∧ (t.engOf e.val).nextS = s.gridFrom v.item.site
        (s.groupOf v.item.site (s.store e.val v.pc % 2 ^ 192)) (tm + Time.ofNs 64) ∧
      (t.engOf e.val).delay = v.delay ∧ (t.engOf e.val).inExc = v.inExc ∧ (t.engOf e.val).mat = v.mat ∧
      (t.engOf e.val).cmps = v.cmps ∧ (t.engOf e.val).reln = v.reln ∧
      (t.engOf e.val).saved = none ∧ (t.engOf e.val).restoring = false ∧ ∀ k, k ≠ e.val → t.engOf k = s.engOf k)

/-- The pin-time actions of a word: trigger pulses, FLASH code, host event, match arming and mode change each act once, as R108,
R123 and R126 say, and leave the list of the engine; a match arms in its own burst only (R85). -/
def Obligations.PinTimeActions : Prop :=
(∀ (e : Fin 16) (s s1 : State) (a : PinAct) (m : Nat),
    s.takeAct e.val (fun a => match a with | .trigo _ => true | _ => false) = some (a, s1) → a.act = .trigo m →
    exec (.trigoPulse e) s = .next (s1.pulses a.site m a.t)) ∧
  (∀ (e : Fin 16) (s s1 : State) (a : PinAct) (c : Nat),
    s.takeAct e.val (fun a => match a with | .fsig _ => true | _ => false) = some (a, s1) → a.act = .fsig c →
    exec (.fsigSend e) s = .next (s1.codeFlash a.site c)) ∧
  (∀ (e : Fin 16) (s s1 : State) (a : PinAct) (n : Nat),
    s.takeAct e.val (fun a => match a with | .evt _ => true | _ => false) = some (a, s1) → a.act = .evt n → n + 3 < 16 →
    ∃ t, exec (.evtHostEvent e) s = .next t ∧ hasBit (t.getF F.HST_EVT_EVT a.site) (n + 3) = true ∧ t.eng = s1.eng) ∧
  (∀ (e : Fin 16) (s s1 : State) (a : PinAct),
    s.takeAct e.val (fun a => match a with | .arm _ => true | _ => false) = some (a, s1) → a.act = .arm false →
    (∃ i, (s.engOf e.val).item = some i ∧ i.serial = a.ser) → ∃ t, exec (.matchArm e) s = .next t ∧ (t.engOf e.val).mat.armed = true ∧ (t.engOf e.val).mat.lmatch = false ∧
      (t.engOf e.val).mat.window = a.wid ∧
      (t.engOf e.val).mat.result = none ∧ { t with eng := s1.eng } = s1) ∧
  (∀ (e : Fin 16) (s s1 : State) (a : PinAct),
    s.takeAct e.val (fun a => match a with | .arm _ => true | _ => false) = some (a, s1) → a.act = .arm true →
    (∃ i, (s.engOf e.val).item = some i ∧ i.serial = a.ser) → ∃ u : State, { u with eng := s1.eng, site := s1.site } = s1 ∧ (u.engOf e.val).mat.armed = true ∧ (u.engOf e.val).mat.arms = true ∧
      (u.siteOf a.site).matchTag = ((s1.siteOf a.site).matchTag + 1) % 8 ∧ (u.siteOf a.site).result = none ∧
      exec (.matchArm e) s = .next (u.siteFlash a.site 1 0 (((s1.siteOf a.site).matchTag + 1) % 8))) ∧
  (∀ (e : Fin 16) (s s1 : State) (a : PinAct),
    s.takeAct e.val (fun a => match a with | .arm _ => true | _ => false) = some (a, s1) → a.act = .arm false →
    (∀ i, (s.engOf e.val).item = some i → i.serial ≠ a.ser) → (s.engOf e.val).saved = none →
    ∃ t, exec (.matchArm e) s = .next t ∧ (t.engOf e.val).mat = (s.engOf e.val).mat ∧ { t with eng := s1.eng } = s1) ∧
  (∀ (e : Fin 16) (s s1 : State) (a : PinAct) (code m o : Nat),
    s.takeAct e.val (fun a => match a with | .mode _ _ => true | _ => false) = some (a, s1) → a.act = .mode code m →
    maskOcts m = [o] →
    (s1.ownsOct a.site o = true → exec (.modeChangeEffect e) s = .next (s1.setPers o (code - 1) a.t)) ∧
    (s1.ownsOct a.site o = false → ∃ t, exec (.modeChangeEffect e) s = .next t ∧ t.getF F.SE_STAT_MODE_REJ e.val = 1 ∧
      RegsOnly [F.SE_STAT_MODE_REJ.key e.val] s1 t))

/-! ### Waveforms (R148 to R162) -/

/-- In the last pass of a segment the octet reads the following entry whole, and its segment-start request leaves with it; a WOP on
its way has its entry read and held; a pass that has repeats left is followed by another of the same segment; the last pass of an
END segment stops the chain.
WOP 1 starts a chain at the end of its word, WOP 2 marks where the chain in play stops, WOP 3 where it is redirected; each acts
in the octets of the group that are in waveform personality and that the site owns whole. A WOP 1 to an invalid entry stops what
plays. -/
def Obligations.SegmentsAndChains : Prop :=
  ((∀ (o : Fin 8) (s : State) (p : SegEnt), s.pers o.val = 1 → s.wopToRead o.val = none →
    (s.octSt o.val).wave.play = some p → (s.octSt o.val).wave.left = 0 → (s.octSt o.val).wave.next = none → p.fin = false →
    ∃ t, exec (.segmentEntryRead o) s = .next t ∧
      (t.octSt o.val).wave.next = some (s.segEnt o.val p.next, s.segValid o.val (s.segEnt o.val p.next)) ∧
      (t.octSt o.val).wave.play = some p ∧
      (s.segValid o.val (s.segEnt o.val p.next) = false → t.getF F.OCT_WFSTAT_SEGERR o.val = 1) ∧
      (s.segValid o.val (s.segEnt o.val p.next) = true → (s.segEnt o.val p.next).trg ≠ 0 → (t.octSt o.val).wave.sent =
        (s.octSt o.val).wave.sent ++ [((s.segEnt o.val p.next).trg, (s.segEnt o.val p.next).flash, some (s.passEnd o.val))]) ∧
      OctOnly o.val (keysAt o.val [F.OCT_WFSTAT_SEGERR, F.OCT_WFERRENT_ENT]) s t) ∧
  (∀ (o : Fin 8) (s : State) (e key obj : Nat) (u : Option Time) (n : SegEnt), s.persAhead o.val = 1 →
    s.wopToRead o.val = some (e, key, obj, u) → n = { s.segEnt o.val obj with asker := some (e, key) } →
    ∃ t, exec (.segmentEntryRead o) s = .next t ∧
      (t.octSt o.val).wave.held = (s.octSt o.val).wave.held ++ [(e, key, n, s.segValid o.val n)] ∧
      (s.segValid o.val n = true → n.trg ≠ 0 →
        (u.isSome = true → (t.octSt o.val).wave.sent = (s.octSt o.val).wave.sent ++ [(n.trg, n.flash, u)]) ∧
        (u = none → (t.octSt o.val).wave.asked = (s.octSt o.val).wave.asked ++ [(n.trg, n.flash, e, key)])) ∧
      OctOnly o.val (keysAt o.val [F.OCT_WFSTAT_SEGERR, F.OCT_WFERRENT_ENT]) s t) ∧
  (∀ (o : Fin 8) (s : State) (p : SegEnt), (s.octSt o.val).wave.play = some p → (s.octSt o.val).wave.stopAt = none →
    (s.octSt o.val).wave.goto = [] → 0 < (s.octSt o.val).wave.left → ∃ t, exec (.segmentPassStart o) s = .next t ∧
      (t.octSt o.val).wave.play = some p ∧ (t.octSt o.val).wave.left = (s.octSt o.val).wave.left - 1 ∧
      (t.octSt o.val).wave.pos = (s.octSt o.val).wave.pos + (s.octSt o.val).wave.len ∧
      t.getF F.OCT_WFSTAT_RUN o.val = 1 ∧ s.sameMems t) ∧
  (∀ (o : Fin 8) (s : State) (p : SegEnt), (s.octSt o.val).wave.play = some p → (s.octSt o.val).wave.stopAt = none →
    (s.octSt o.val).wave.goto = [] → (s.octSt o.val).wave.left = 0 → p.fin = true →
    ∃ t, exec (.segmentPassStart o) s = .next t ∧ (t.octSt o.val).wave.play = none ∧
      t.getF F.OCT_WFSTAT_RUN o.val = 0 ∧ s.sameMems t)) ∧
  ((∀ (e : Fin 16) (s s1 : State) (a : PinAct) (obj m key : Nat),
    s.takeAct e.val (fun a => match a with | .wop 1 _ _ _ => true | _ => false) = some (a, s1) → a.act = .wop 1 obj m key →
    ∃ t, exec (.wopStartChain e) s = .next t ∧ s1.sameMems t ∧
      (∀ o ∈ s1.wopOcts a.site m, (s1.wopEntry o e.val key obj none).1.2 = true →
        (t.octSt o).wave.play = some (s1.wopEntry o e.val key obj none).1.1 ∧ (t.octSt o).wave.anchor = Time.ofQ (Time.toQ a.t) ∧
        (t.octSt o).wave.pos = 0 ∧ t.getF F.OCT_WFSTAT_RUN o = 1) ∧
      (∀ o ∈ s1.wopOcts a.site m, (s1.wopEntry o e.val key obj none).1.2 = false →
        (t.octSt o).wave.play = none ∧ t.getF F.OCT_WFSTAT_RUN o = 0) ∧
      ∀ o, o ∉ s1.wopOcts a.site m → t.octSt o = s1.octSt o) ∧
  (∀ (e : Fin 16) (s s1 : State) (a : PinAct) (obj m key : Nat),
    s.takeAct e.val (fun a => match a with | .wop 2 _ _ _ => true | _ => false) = some (a, s1) → a.act = .wop 2 obj m key →
    ∃ t, exec (.wopStopChain e) s = .next t ∧ { t with oct := s1.oct } = s1 ∧
      (∀ o ∈ s1.wopOcts a.site m, (s1.octSt o).wave.play.isSome = true →
        (t.octSt o).wave = { (s1.octSt o).wave with stopAt := some a.t }) ∧
      ∀ o, o ∉ s1.wopOcts a.site m ∨ (s1.octSt o).wave.play = none → t.octSt o = s1.octSt o) ∧
  (∀ (e : Fin 16) (s s1 : State) (a : PinAct) (obj m key : Nat),
    s.takeAct e.val (fun a => match a with | .wop 3 _ _ _ => true | _ => false) = some (a, s1) → a.act = .wop 3 obj m key →
    ∃ t, exec (.wopContinue e) s = .next t ∧ s1.sameMems t ∧
      (∀ o ∈ s1.wopOcts a.site m, (s1.octSt o).wave.play.isSome = true → (t.octSt o).wave.goto = (s1.octSt o).wave.goto ++
        [((s1.wopEntry o e.val key obj none).1.1, (s1.wopEntry o e.val key obj none).1.2, a.t)]) ∧
      ∀ o, o ∉ s1.wopOcts a.site m → t.octSt o = s1.octSt o))

/-- Each read of a ring slot that is to play advances RPTR; an incomplete slot sets UNDERRUN and counts. A granule in time is stored byte for byte
in the block of its slot and advances WPTR; one whose slot has been read is discarded, and none is taken while the site is scrubbed. -/
def Obligations.WaveformRing : Prop :=
(∀ (o : Fin 8) (s : State) (sel : Bool), s.getF F.OCT_WFRING_RSIZE o.val ≠ 0 → s.pers o.val = 1 → s.slotFor o.val = some sel →
    ∃ t, exec (.ringSlotRead o) s = .next t ∧
      t.getF F.OCT_WFRPTR_RPTR o.val = (s.getF F.OCT_WFRPTR_RPTR o.val + 1) % 2 ^ F.OCT_WFRPTR_RPTR.width ∧ s.sameMems t ∧
      ((s.octSt o.val).wave.granules.contains (s.getF F.OCT_WFRPTR_RPTR o.val) = false →
        t.getF F.OCT_WFSTAT_UNDERRUN o.val = 1 ∧
        t.getF F.OCT_WFLOST_LOST o.val = (s.getF F.OCT_WFLOST_LOST o.val + 1) % 2 ^ F.OCT_WFLOST_LOST.width)) ∧
  (∀ (o : Fin 8) (s : State) (data : List Byte), s.getF F.OCT_WFRING_RSIZE o.val ≠ 0 → 0 ≤ s.ringAhead o.val →
    s.ringAhead o.val < s.getF F.OCT_WFRING_RSIZE o.val → data.length = 2048 →
    (∀ x, s.octOwner o.val = some x → s.flag F.SITE_SSTAT_SCRUB x = false) →
    ∃ t, exec (.granuleArrive o data) s = .next t ∧
      t.getF F.OCT_WFWPTR_WPTR o.val = (s.getF F.OCT_WFWPTR_WPTR o.val + 1) % 2 ^ F.OCT_WFWPTR_WPTR.width ∧
      (∀ k, k < 2048 → t.bbByte o.val ((s.getF F.OCT_WFRING_RBASE o.val + s.getF F.OCT_WFWPTR_WPTR o.val %
        s.getF F.OCT_WFRING_RSIZE o.val) * 2048 + k) = data.getD k 0) ∧
      (∀ a, (∀ k, k < 2048 → a ≠ o.val * 12582912 + ((s.getF F.OCT_WFRING_RBASE o.val + s.getF F.OCT_WFWPTR_WPTR o.val %
        s.getF F.OCT_WFRING_RSIZE o.val) * 2048 + k)) → Tbl.get (fun _ => (0 : Byte)) t.bb a = Tbl.get (fun _ => 0) s.bb a) ∧
      (t.octSt o.val).wave.granules = (s.octSt o.val).wave.granules ++ [s.getF F.OCT_WFWPTR_WPTR o.val] ∧
      { t with reg := s.reg, oct := s.oct, bb := s.bb } = s ∧ RegsBut [F.OCT_WFWPTR_WPTR.key o.val] s t) ∧
  (∀ (o : Fin 8) (s : State) (data : List Byte), s.getF F.OCT_WFRING_RSIZE o.val ≠ 0 → s.ringAhead o.val < 0 →
    (∀ x, s.octOwner o.val = some x → s.flag F.SITE_SSTAT_SCRUB x = false) → ∃ t, exec (.granuleArrive o data) s = .next t ∧
      t.getF F.OCT_WFWPTR_WPTR o.val = (s.getF F.OCT_WFWPTR_WPTR o.val + 1) % 2 ^ F.OCT_WFWPTR_WPTR.width ∧
      RegsOnly [F.OCT_WFWPTR_WPTR.key o.val] s t) ∧
  (∀ (o : Fin 8) (s : State) (data : List Byte) (x : Nat), s.octOwner o.val = some x → s.flag F.SITE_SSTAT_SCRUB x = true →
    exec (.granuleArrive o data) s = .next s) ∧
  (∀ (o : Fin 8) (n : Fin 16) (s : State) (b sz : Nat), s.hostFree n →
    s.octOwner o.val = some n.val → s.flag F.OCT_WFSTAT_RUN o.val = false → 8 ≤ sz → b + sz ≤ 6144 →
    s.blocksIn o.val b sz = true → ∃ t, exec (.wfringWrite (.vf n) o (b + sz * 65536)) s = .next t ∧
      t.getF F.OCT_WFRING_RBASE o.val = b ∧ t.getF F.OCT_WFRING_RSIZE o.val = sz ∧ t.getF F.OCT_WFRPTR_RPTR o.val = 0 ∧
      t.getF F.OCT_WFWPTR_WPTR o.val = 0 ∧ (t.octSt o.val).wave.granules = [] ∧ (t.octSt o.val).wave.queue = [] ∧
      { t with reg := s.reg, oct := s.oct, site := s.site } = s ∧
      RegsBut (keysAt o.val [F.OCT_WFRING_RBASE, F.OCT_WFRING_RSIZE, F.OCT_WFRPTR_RPTR, F.OCT_WFWPTR_WPTR]) s t) ∧
  (∀ (o : Fin 8) (n : Fin 16) (s : State) (data : Nat), s.hostFree n →
    s.octOwner o.val = some n.val → s.flag F.OCT_WFSTAT_RUN o.val = true → ∃ t,
      exec (.wfringWrite (.vf n) o data) s = .next t ∧ t.getF F.OCT_WFSTAT_CFG_REJ o.val = 1 ∧
      { t with reg := s.reg, site := s.site } = s ∧ RegsBut [F.OCT_WFSTAT_CFG_REJ.key o.val] s t)

/-! ### Vectors and receivers (R39 to R84) -/

/-- A write of a VF through its beat-buffer window changes only nibbles that its site owns, and stores the nibbles it owns; with
SCRUB set, out of its bounds or with a size not served it changes nothing. -/
def Obligations.BeatBufferWindowRespectsOwners : Prop :=
(∀ (n : Fin 16) (o : Fin 8) (off size data r c : Nat) (s t : State), c < 8 → exec (.bbWindowWrite (.vf n) o off size data) s = .next t →
    s.ownsNibble n.val o.val r c = false → t.nibble o.val r c = s.nibble o.val r c) ∧
  (∀ (n : Fin 16) (o : Fin 8) (off data : Nat) (s : State), s.vfLive (.vf n) = true → off < 262144 →
    s.getF F.OCT_BBPAGE_PAGE (o.val * 17 + n.val) < 48 → s.flag F.SITE_SSTAT_SCRUB n.val = false →
    (∀ h, h < 2 → s.ownsNibble n.val o.val ((s.getF F.OCT_BBPAGE_PAGE (o.val * 17 + n.val) * 262144 + off) / 4)
      (off % 4 * 2 + h) = true) →
    ∃ t, exec (.bbWindowWrite (.vf n) o off 1 data) s = .next t ∧
      (t.bbByte o.val (s.getF F.OCT_BBPAGE_PAGE (o.val * 17 + n.val) * 262144 + off)).toNat = data % 256 ∧
      { t with bb := s.bb } = s ∧
      ∀ a, a ≠ o.val * 12582912 + (s.getF F.OCT_BBPAGE_PAGE (o.val * 17 + n.val) * 262144 + off) →
        Tbl.get (fun _ => (0 : Byte)) t.bb a = Tbl.get (fun _ => 0) s.bb a) ∧
  (∀ (n : Fin 16) (o : Fin 8) (off size data : Nat) (s : State),
    s.flag F.SITE_SSTAT_SCRUB n.val = true ∨ winSize off size = false ∨ 262144 < off + size →
    exec (.bbWindowWrite (.vf n) o off size data) s = .next s)

/-- The octet reads the next vector of an engine's word, no hold interval being in progress there: each channel of the word gets one
more vector in the order of starts, at the first start at or after the fetch's where it fits its beat (at the pins as a spread clock
has it), with the drive code that the fetch gives. A stream
vector that is in the FIFO takes its record, and one that is not is an underrun: the word is cancelled and its report sets out.
The earliest edge is driven at its instant unless it lies less than 125 steps of 0.125 ps after the last driven one, when it is
dropped; in another personality and in the 24 ns of R31 it is not driven.
Once the safe-state signal has reached an octet, every pair of a channel in safe state is in electrical idle and stays so until
a gap; when the idle of a personality change ends, the pairs show what their back ends drive. -/
def Obligations.VectorsAndEdges : Prop :=
  (∀ (o : Fin 8) (e : Fin 16) (s : State) (f : Fetch), (s.engOf e.val).nextFetch o.val = some f → f.oct = o.val →
    s.holdMask e.val &&& 255 * 256 ^ o.val = 0 →
    ∀ T, T = (s.sched (s.vecSite e.val f.pos o.val)).fit f.s (s.paceOf f) →
    (f.slot = none → ∃ t, exec (.vectorRead o e 0 0) s = .next t ∧
      (∀ q c, q < 8 → hasBit f.pos q = true → c = o.val * 8 + q → ∃ v, (t.chanOf c).vects = s.withVect c v ∧
        v.start = s.pinAt c T ∧ v.eng = e.val ∧ v.wid = f.wid ∧
        v.drive = s.codeAt f (some (f.rowOf f.k)) q (f.ueMask (some (f.rowOf f.k))) % 4 ∧ (f.cmpe = false → v.expect = 0) ∧
        v.idx = (if T = f.s then f.vidx else 0)) ∧
      (∀ c, (c < o.val * 8 ∨ o.val * 8 + 8 ≤ c) → (t.chanOf c).vects = (s.chanOf c).vects) ∧ s.sameMems t) ∧
    (∀ sl b, f.slot = some sl → f.dead = false → f.base = some b → s.getF F.MEM_VSSTAT_STATE sl = 2 → (s.engOf e.val).ending = none →
      b + f.k < (s.streamOf sl).filled → ∃ t, exec (.vectorRead o e 0 0) s = .next t ∧
        (t.streamOf sl).taken = max (s.streamOf sl).taken (b + f.k + 1) ∧
        (∀ q c, q < 8 → hasBit f.pos q = true → c = o.val * 8 + q → ∃ v, (t.chanOf c).vects = s.withVect c v ∧
          v.drive = s.codeAt f (some (s.fifoRow sl (b + f.k))) q (f.ueMask (some (s.fifoRow sl (b + f.k)))) % 4) ∧ s.sameMems t) ∧
    (∀ sl b w, f.slot = some sl → f.dead = false → f.base = some b → s.getF F.MEM_VSSTAT_STATE sl = 1 →
      (s.engOf e.val).cur = some w → w.wid = f.wid → (s.engOf e.val).ending = none → ∃ t, exec (.vectorRead o e 0 0) s = .next t ∧
        (∃ idx, (t.engOf e.val).ufl = some (f.wid, idx, T)) ∧
        (∀ q c, q < 8 → hasBit f.pos q = true → c = o.val * 8 + q → ∃ v, (t.chanOf c).vects = s.withVect c v ∧ v.drive = 2) ∧
        s.sameMems t)) ∧
  (∀ (c : Fin 64) (s : State) (d e : Edge) (rest : List Edge),
    best (fun (a b : Edge) => decide (a.t < b.t)) (s.chanOf c.val).edges = some d →
    takeFirst (fun q => q == d) (s.chanOf c.val).edges = some (e, rest) →
    (s.pers (octOf c.val) = 0 → s.inPersIdle (octOf c.val) d.vs = false →
      (∀ u, (s.chanOf c.val).lastEdge = some u → u + Time.ofQ 125 ≤ d.t) →
      ∃ t, exec (.driveEdge c) s = .next t ∧ (t.chanOf c.val).lastEdge = some d.t ∧ (t.chanOf c.val).edges = rest ∧
        (t.chanOf c.val).want = d.lvl ∧ (t.chanOf c.val).pin = (if s.pinBlocked c.val then .idle else d.lvl) ∧
        (∀ k, k ≠ c.val → t.chanOf k = s.chanOf k) ∧ s.sameMems t) ∧
    (∀ u, s.pers (octOf c.val) = 0 → s.inPersIdle (octOf c.val) d.vs = false → (s.chanOf c.val).lastEdge = some u →
      d.t < u + Time.ofQ 125 →
      ∃ t, exec (.driveEdge c) s = .next t ∧ (t.chanOf c.val) = { s.chanOf c.val with edges := rest } ∧
        (∀ k, k ≠ c.val → t.chanOf k = s.chanOf k) ∧ t.getF F.OCT_VSTAT_EDGE_DROP (fnOct (octOf c.val) 16) = 1 ∧
        { t with reg := s.reg, chan := s.chan } = s) ∧
    (s.pers (octOf c.val) ≠ 0 ∨ s.inPersIdle (octOf c.val) d.vs = true →
      ∃ t, exec (.driveEdge c) s = .next t ∧ (t.chanOf c.val) = { s.chanOf c.val with edges := rest } ∧
        (∀ k, k ≠ c.val → t.chanOf k = s.chanOf k) ∧ { t with chan := s.chan } = s)) ∧
  ((∀ (o : Fin 8) (s : State), ∃ t, exec (.safeReachOctet o) s = .next t ∧
    (∀ c, c ∈ chansOf o.val → s.chanSafe c = true → (t.chanOf c).pin = .idle ∧ (t.chanOf c).held = true ∧
      (t.chanOf c).lane.txPrev = 0) ∧
    (∀ c, c ∉ chansOf o.val ∨ s.chanSafe c = false → (t.chanOf c).pin = (s.chanOf c).pin ∧ (t.chanOf c).held = (s.chanOf c).held) ∧
    s.sameMems t) ∧
  (∀ (o : Fin 8) (s : State), ∃ t, exec (.persIdleEnd o) s = .next t ∧ (t.octSt o.val).persIdle = false ∧
    (∀ c, c ∈ chansOf o.val → (t.pinBlocked c = false → (t.chanOf c).pin = (s.chanOf c).want) ∧
      (t.pinBlocked c = true → (t.chanOf c).pin = .idle)) ∧
    (∀ c, c ∉ chansOf o.val → t.chanOf c = s.chanOf c) ∧ s.sameMems t))

/-- R67: the fail rule of a vector by its strobe mode and expect code, from the levels at SA and SB and whether the comparator
changed after SA and no later than SB. -/
def Obligations.CompareRule : Prop :=
∀ v : Vect,
    (v.smode = false → (v.expect = 0 → v.fails = false) ∧ (v.expect = 1 → v.fails = v.saLvl) ∧
      (v.expect = 2 → v.fails = !v.saLvl) ∧ (v.expect = 3 → v.fails = (v.saLvl == v.sbLvl))) ∧
    (v.smode = true → (v.expect = 0 → v.fails = false) ∧ (v.expect = 1 → v.fails = (v.saLvl || v.changed)) ∧
      (v.expect = 2 → v.fails = (!v.saLvl || v.changed)) ∧ (v.expect = 3 → v.fails = !v.changed))

/-- A strobe takes the comparator level at its instant or is skipped, the vector is judged once both instants are past, and the
result sets FAIL_LAST and LMATCH (and with ARMS the chip's own result) when it arrives, in the engine or in the context of the burst suspended there. -/
def Obligations.StrobeCompareArrive : Prop :=
(∀ (c : Fin 64) (s : State) (v : Vect) (rest : List Vect) (u : Time), (s.chanOf c.val).vects = v :: rest → v.done = false →
    (nextStrobe (v :: rest) = some (u, 0, true) → v.saOk = true → v.sbDone = false ∨ v.expect ≠ 0 →
      ∃ t, exec (.strobe c) s = .next t ∧
        (t.chanOf c.val).vects = { v with saDone := true, saLvl := (s.chanOf c.val).comp } :: rest ∧
        ((s.chanOf c.val).late = [] → { t with chan := s.chan } = s) ∧ ∀ k, k ≠ c.val → t.chanOf k = s.chanOf k) ∧
    (nextStrobe (v :: rest) = some (u, 0, false) → v.sbOk = true → v.saDone = false ∨ v.expect ≠ 0 →
      ∃ t, exec (.strobe c) s = .next t ∧
        (t.chanOf c.val).vects = { v with sbDone := true, sbLvl := (s.chanOf c.val).comp } :: rest ∧
        ∀ k, k ≠ c.val → t.chanOf k = s.chanOf k) ∧
    (nextStrobe (v :: rest) = some (u, 0, true) → v.saOk = false → v.sbDone = false → v.expect ≠ 0 →
      ∃ t, exec (.strobe c) s = .next t ∧
        (t.chanOf c.val).vects = { v with saDone := true, saLvl := false, expect := 0 } :: rest ∧
        t.getF F.OCT_VSTAT_STRB_SKIP (fnOct (octOf c.val) 16) = 1 ∧ ∀ k, k ≠ c.val → t.chanOf k = s.chanOf k)) ∧
  (∀ (c : Fin 64) (s : State) (v : Vect) (rest : List Vect), (s.chanOf c.val).vects = v :: rest → v.saDone = true →
    v.sbDone = true → v.done = false → (∀ w, rest.head? = some w → w.done = false) →
    ∃ t, exec (.compareComplete c) s = .next t ∧ (t.chanOf c.val).vects = rest ∧ s.sameMems t ∧
      (v.fails = true → s.chanSafe c.val = false → s.pers (octOf c.val) = 0 → s.inPersIdle (octOf c.val) v.start = false →
        (s.engOf v.eng).mat.arms = false → (s.engOf v.eng).saved = none →
        t.getF F.OCT_FCNT_FCNT (chIx c.val) =
          satAt F.OCT_FCNT_FCNT.width (s.getF F.OCT_FCNT_FCNT (chIx c.val) + 1) % 2 ^ F.OCT_FCNT_FCNT.width ∧
        t.getF F.OCT_FCTL_FFV (chIx c.val) ≠ 0)) ∧
  (∀ (e : Fin 16) (s : State) (a : CmpArrive) (rest : List CmpArrive), (s.engOf e.val).arrivals = a :: rest →
    ∃ t, exec (.conditionArrive e) s = .next t ∧ (t.engOf e.val).arrivals = rest ∧
      (t.engOf e.val).failAny = ((s.engOf e.val).failAny || a.fail) ∧
      (∀ w f, a.word = some (w, f) → (s.engOf e.val).failWid ≤ w → (t.engOf e.val).failLast = f ∧ (t.engOf e.val).failWid = w) ∧
      (∀ u v, a.window = some ((s.engOf e.val).mat.window, u, v) → (s.engOf e.val).mat.formed ≤ u →
        (t.engOf e.val).mat.lmatch = v ∧
        ((s.engOf e.val).mat.arms = true → (t.siteOf (s.engOf e.val).site).result = some v)) ∧
      ((s.engOf e.val).mat.arms = false → t.site = s.site) ∧ (∀ x, x ≠ (s.engOf e.val).site → t.siteOf x = s.siteOf x) ∧
      { t with eng := s.eng, site := s.site } = s ∧ ∀ k, k ≠ e.val → t.engOf k = s.engOf k) ∧
  (∀ (e : Fin 16) (s : State) (v : Saved) (a : CmpArrive) (rest : List CmpArrive), (s.engOf e.val).arrivals = [] →
    (s.engOf e.val).saved = some v → v.arrivals = a :: rest → ∃ t w, exec (.conditionArrive e) s = .next t ∧
      (t.engOf e.val).saved = some w ∧ w.arrivals = rest ∧ w.failAny = (v.failAny || a.fail) ∧ w.item = v.item ∧
      (v.mat.arms = false → t.site = s.site) ∧ (∀ x, x ≠ v.item.site → t.siteOf x = s.siteOf x) ∧
      { t with eng := s.eng, site := s.site } = s ∧ ∀ k, k ≠ e.val → t.engOf k = s.engOf k)

/-- The hysteresis of R43, with THR in millivolts and the input in microvolts (at the balls, or with NEAR = 1 the channel's own TX
signal): the output goes high at THR + H or above, low at THR - H or below, and otherwise stays; SIGDET follows the detector, and a change of it starts the precoder of the receiver again (the model's reading of R171, log entry 62); an
adaptation leaves every coefficient within -64 to +64. -/
def Obligations.ReceiverEvents : Prop :=
(∀ (c : Fin 64) (s : State) (uv : Int) (tm : Time), s.rxOn = true → (s.chanOf c.val).comp = false →
    (sext 11 (s.getL F.OCT_THR_THR (chIx c.val)) + s.getL F.OCT_THR_HYST (chIx c.val)) * 1000 * levelUnit ≤ s.rxLevel c.val uv tm →
    ∃ t, exec (.comparatorEdge c uv tm) s = .next t ∧ (t.chanOf c.val).comp = true ∧ { t with chan := s.chan } = s ∧
      ∀ k, k ≠ c.val → t.chanOf k = s.chanOf k) ∧
  (∀ (c : Fin 64) (s : State) (uv : Int) (tm : Time), s.rxOn = true → (s.chanOf c.val).comp = true →
    s.rxLevel c.val uv tm ≤ (sext 11 (s.getL F.OCT_THR_THR (chIx c.val)) - s.getL F.OCT_THR_HYST (chIx c.val)) * 1000 * levelUnit →
    ∃ t, exec (.comparatorEdge c uv tm) s = .next t ∧ (t.chanOf c.val).comp = false ∧ { t with chan := s.chan } = s ∧
      ∀ k, k ≠ c.val → t.chanOf k = s.chanOf k) ∧
  (∀ (c : Fin 64) (s : State) (uv : Int) (tm : Time),
    (sext 11 (s.getL F.OCT_THR_THR (chIx c.val)) - s.getL F.OCT_THR_HYST (chIx c.val)) * 1000 * levelUnit < s.rxLevel c.val uv tm →
    s.rxLevel c.val uv tm < (sext 11 (s.getL F.OCT_THR_THR (chIx c.val)) + s.getL F.OCT_THR_HYST (chIx c.val)) * 1000 * levelUnit →
    exec (.comparatorEdge c uv tm) s = .next s) ∧
  (∀ (c : Fin 64) (s : State) (uv : Int) (tm : Time), s.flagL F.OCT_LBCFG_NEAR (chIx c.val) = false →
    s.rxLevel c.val uv tm = uv * levelUnit) ∧
  (∀ (c : Fin 64) (s : State) (l uv : Int) (tm : Time), s.flagL F.OCT_LBCFG_NEAR (chIx c.val) = true →
    (s.chanOf c.val).level = some l → s.rxLevel c.val uv tm = l) ∧
  (∀ (c : Fin 64) (s : State) (b : Bool), s.rxOn = true → ∃ t, exec (.sigdetChange c b) s = .next t ∧
    t.getF F.OCT_FESTAT_SIGDET (chIx c.val) = (if s.sigAbove c.val b then 1 else 0) ∧
    (s.flagL F.OCT_LBCFG_NEAR (chIx c.val) = false → s.sigAbove c.val b = b) ∧
    (t.getF F.OCT_FESTAT_SIGDET (chIx c.val) = s.getF F.OCT_FESTAT_SIGDET (chIx c.val) → t.chan = s.chan) ∧
    (t.getF F.OCT_FESTAT_SIGDET (chIx c.val) ≠ s.getF F.OCT_FESTAT_SIGDET (chIx c.val) →
      t.chanOf c.val = { s.chanOf c.val with lane := { (s.chanOf c.val).lane with rxPrev := 0 } }) ∧
    ChanOnly c.val [F.OCT_FESTAT_SIGDET.key (chIx c.val)] s t) ∧
  (∀ (c : Fin 64) (s : State), s.rxOn = true → s.flagL F.OCT_RXCFG_ADAPT (chIx c.val) = true →
    ∃ t, exec (.rxAdaptUpdate c) s = .next t ∧
      (∀ f ∈ coefFlds, -64 ≤ sext 8 (t.getL f (chIx c.val)) ∧ sext 8 (t.getL f (chIx c.val)) ≤ 64) ∧
      { t with live := s.live, free := s.free } = s)

/-! ### Streams and the memory controller (R76 to R81, R345 to R348) -/

/-- START admits a stream that meets R79, with LTOL and the fill begun, and refuses one that does not, by the registers that the slot has
for the site (a slot that another site used last comes with its reset values: the model's choice, log entry 31); STOP ends it and
frees the slot.
A stream half empty asks for the records that fit; a request that completes leaves the controller, with the counts of error
correction, and none completes while the DRAM is in self-refresh; the row of an access stays open where its class says so; a channel enters a power level when it is enabled, idle and tolerated. -/
def Obligations.StreamsAndMemoryController : Prop :=
  ((∀ (n : Fin 16) (k : Fin 4) (s u : State), s.hostFree n → u = s.vsFor k.val n.val → u.getF F.MEM_VSSTAT_STATE k.val = 0 →
    u.streamFits n.val k.val = true → ∃ t, exec (.streamStart (.vf n) k) s = .next t ∧
      t.getF F.MEM_VSSTAT_STATE k.val = 1 ∧ (t.streamOf k.val).site = some n.val ∧ (t.streamOf k.val).taken = 0 ∧
      t.getF F.MEM_VSLTOL_LTOL k.val = u.getF F.MEM_VSCFG_FDEPTH k.val * 2048 * u.getF F.MEM_VSRATE_MINPER k.val / 8000 %
        2 ^ F.MEM_VSLTOL_LTOL.width ∧ s.sameMems t) ∧
  (∀ (n : Fin 16) (k : Fin 4) (s u : State), s.hostFree n → u = s.vsFor k.val n.val → u.getF F.MEM_VSSTAT_STATE k.val = 0 →
    u.streamFits n.val k.val = false → ∃ t, exec (.streamStart (.vf n) k) s = .next t ∧
      t.getF F.MEM_VSSTAT_ADM_REJ k.val = 1 ∧ t.getF F.MEM_VSSTAT_STATE k.val = 0 ∧
      { t with reg := u.reg, site := u.site } = u ∧ RegsBut [F.MEM_VSSTAT_ADM_REJ.key k.val] u t) ∧
  (∀ (s : State) (k x : Nat), ((s.streamOf k).site.isSome = true ∨ (s.streamOf k).user = some x → s.vsFor k x = s) ∧
    ((s.streamOf k).site = none → (s.streamOf k).user ≠ some x → (∀ f ∈ vsFlds, (s.vsFor k x).getF f k = f.reset k) ∧
      { s.vsFor k x with reg := s.reg, stream := s.stream } = s)) ∧
  (∀ (n : Fin 16) (k : Fin 4) (s : State), s.hostFree n →
    (s.streamOf k.val).site = some n.val → ∃ t, exec (.streamStop (.vf n) k) s = .next t ∧
      t.getF F.MEM_VSSTAT_STATE k.val = 0 ∧ t.streamOf k.val = { user := (s.streamOf k.val).user } ∧
      (∀ j, j ≠ k.val → t.streamOf j = s.streamOf j) ∧
      { t with reg := s.reg, site := s.site, stream := s.stream, reqs := s.reqs } = s ∧
      RegsBut [F.MEM_VSSTAT_STATE.key k.val] s t)) ∧
  ((∀ (k : Fin 4) (s : State) (x : Nat), (s.streamOf k.val).site = some x → (s.streamOf k.val).refill = false →
    ((s.streamOf k.val).filled - (s.streamOf k.val).taken) * 2 ≤ s.getF F.MEM_VSCFG_FDEPTH k.val * 4096 →
    (s.streamOf k.val).filled <
      min (s.getF F.MEM_VSLEN_LEN k.val) ((s.streamOf k.val).taken + s.getF F.MEM_VSCFG_FDEPTH k.val * 4096) →
    ∃ t, exec (.streamRefill k) s = .next t ∧ (t.streamOf k.val).refill = true ∧
      (t.streamOf k.val).filled = (s.streamOf k.val).filled ∧ s.sameMems t) ∧
  (∀ (d : Fin 16) (s : State) (r : MemReq), s.selfRefresh = false →
    best s.reqFirst (s.reqs.filter (fun q => q.dc == d.val && s.admits q)) = some r →
    hasBit (s.getF F.MEM_CHRET_RET 0) d.val = false →
    (r.slot = none → ∃ t, exec (.dramRequestComplete d .clean) s = .next t ∧ t.reqs = s.reqs.filter (fun q => q.num != r.num) ∧
      (t.siteOf r.account).memWin = s.memWindow ∧ { t with reqs := s.reqs, site := s.site, openRow := s.openRow } = s ∧
      t.openRow = (if 16 ≤ r.site then s else s.rowTouch r.cls (s.dramPos r.phys)).openRow ∧
      ∀ k, k ≠ r.account → t.siteOf k = s.siteOf k) ∧
    (r.slot = none → ∃ t, exec (.dramRequestComplete d .corrected) s = .next t ∧
      t.reqs = s.reqs.filter (fun q => q.num != r.num) ∧
      t.getF F.MEM_CHCE_CNT d.val = (s.getF F.MEM_CHCE_CNT d.val + 1) % 2 ^ F.MEM_CHCE_CNT.width ∧
      { t with reg := s.reg, reqs := s.reqs, site := s.site, openRow := s.openRow } = s ∧
      RegsBut [F.MEM_CECNT_CNT.key 0, F.MEM_CHCE_CNT.key d.val] s t) ∧
    (∀ k n m, r.slot = some (k, n, m) → s.dramGone r.site = false → ∃ t, exec (.dramRequestComplete d .clean) s = .next t ∧
      t.reqs = s.reqs.filter (fun q => q.num != r.num) ∧ (s.streamOf k).filled ≤ (t.streamOf k).filled ∧ t.dram = s.dram)) ∧
  (∀ (d : Fin 16) (e : MemErr) (s : State), s.flag F.CLK_CORESTAT_BYP 0 = true ∨ s.getF F.GLB_PWRSTAT_STATE 0 ≠ 0 → exec (.dramRequestComplete d e) s = .next s) ∧
  (∀ (s : State) (cls : Nat) (p : DramPos), (s.rowTouch cls p).openRowOf p.dc p.bank =
    if hasBit (s.getF F.MEM_PGHINT_OPEN 0) cls then some p.row else none) ∧
  (∀ (d : Fin 16) (s : State), s.reqs = [] → (∀ k, k < 4 → s.getF F.MEM_VSSTAT_STATE k = 0) → s.flag F.MEM_PDCFG_PD1EN 0 = true →
    bits (s.getF F.MEM_PDSTAT_LVL 0) (2 * d.val + 1) (2 * d.val) = 0 → ∃ t, exec (.dramPdEnter d 1) s = .next t ∧
      t.getF F.MEM_PDSTAT_LVL 0 = (s.getF F.MEM_PDSTAT_LVL 0 + 4 ^ d.val) % 4294967296 ∧
      RegsOnly [F.MEM_PDSTAT_LVL.key 0] s t) ∧
  (∀ (d : Fin 16) (lvl : Fin 3) (s : State) (r : MemReq), r ∈ s.reqs → r.dc = d.val → exec (.dramPdEnter d lvl) s = .next s))

/-! ### Protocol lanes (R163 to R186) -/

/-- A POP gives each of its lanes' requests the next identifier and puts it at the end of the launch queue; one that finds the
queue full completes LQFULL, one of an invalid template TPL. The head entry is decided, or completes MISSED, BUSY, SAFE or RATE. -/
def Obligations.LaunchRequests : Prop :=
(∀ (e : Fin 16) (s s1 : State) (a : PinAct) (obj imm m : Nat),
    s.takeAct e.val (fun a => match a with | .pop 1 _ _ _ => true | _ => false) = some (a, s1) → a.act = .pop 1 obj imm m →
    ∃ t, exec (.popEarliest e) s = .next t ∧ { t with reg := s1.reg, chan := s1.chan } = s1 ∧
      RegsBut ((s1.popChans m).flatMap (fun c => keysAt (lnIx c) [F.OCT_LSEQ_SEQ, F.OCT_LSTAT_LQ_FULL, F.OCT_LMISS_MISS] ++
        laneKeys c)) s1 t ∧ (∀ k, k ∉ s1.popChans m → t.chanOf k = s1.chanOf k) ∧
      ∀ c ∈ s1.popChans m, t.getF F.OCT_LSEQ_SEQ (lnIx c) = (s1.getF F.OCT_LSEQ_SEQ (lnIx c) + 1) % 2 ^ F.OCT_LSEQ_SEQ.width ∧
        (16 ≤ (s1.chanOf c).lane.queue.length → t.getF F.OCT_LSTAT_LQ_FULL (lnIx c) = 1 ∧
          (t.chanOf c).lane = { (s1.chanOf c).lane with
            tsPend := (s1.chanOf c).lane.tsPend ++ [{ id := s1.getF F.OCT_LSEQ_SEQ (lnIx c), status := 5, t := a.t }] }) ∧
        ((s1.chanOf c).lane.queue.length < 16 →
          1023 < obj ∨ s1.tplValid a.site (octOf c) (s1.tplWords (octOf c) obj) = false →
          (t.chanOf c).lane = { (s1.chanOf c).lane with
            tsPend := (s1.chanOf c).lane.tsPend ++ [{ id := s1.getF F.OCT_LSEQ_SEQ (lnIx c), status := 7, t := a.t }] }) ∧
        ((s1.chanOf c).lane.queue.length < 16 → obj ≤ 1023 →
          s1.tplValid a.site (octOf c) (s1.tplWords (octOf c) obj) = true →
          (t.chanOf c).lane = { (s1.chanOf c).lane with
            queue := (s1.chanOf c).lane.queue ++ [{ id := s1.getF F.OCT_LSEQ_SEQ (lnIx c), tpl := s1.tplWords (octOf c) obj,
                                                    timed := false, target := a.t, ew := a.t, armed := false }],
            headAt := if (s1.chanOf c).lane.queue.isEmpty then a.t else (s1.chanOf c).lane.headAt } ∧
          t.getF F.OCT_LSTAT_LQN (lnIx c) = ((s1.chanOf c).lane.queue.length + 1) % 2 ^ F.OCT_LSTAT_LQN.width)) ∧
  (∀ (e : Fin 16) (s s1 : State) (a : PinAct) (obj imm m : Nat),
    s.takeAct e.val (fun a => match a with | .pop 2 _ _ _ => true | _ => false) = some (a, s1) → a.act = .pop 2 obj imm m →
    ∀ (u : Time) (d : Int), u = (s1.sched a.site).start ((s1.sched a.site).off a.t) + Time.ofNs imm →
    d = ((Time.toFix u : Int) - Time.toFix a.t) % 18446744073709551616 →
    ∃ t, exec (.popTimed e) s = .next t ∧ { t with reg := s1.reg, chan := s1.chan } = s1 ∧
      RegsBut ((s1.popChans m).flatMap (fun c => keysAt (lnIx c) [F.OCT_LSEQ_SEQ, F.OCT_LSTAT_LQ_FULL, F.OCT_LMISS_MISS] ++
        laneKeys c)) s1 t ∧ (∀ k, k ∉ s1.popChans m → t.chanOf k = s1.chanOf k) ∧
      ∀ c ∈ s1.popChans m, t.getF F.OCT_LSEQ_SEQ (lnIx c) = (s1.getF F.OCT_LSEQ_SEQ (lnIx c) + 1) % 2 ^ F.OCT_LSEQ_SEQ.width ∧
        ((s1.chanOf c).lane.queue.length < 16 → obj ≤ 1023 →
          s1.tplValid a.site (octOf c) (s1.tplWords (octOf c) obj) = true → ∃ r : Launch,
          (t.chanOf c).lane.queue = (s1.chanOf c).lane.queue ++ [r] ∧ r.id = s1.getF F.OCT_LSEQ_SEQ (lnIx c) ∧
          r.tpl = s1.tplWords (octOf c) obj ∧ r.timed = true ∧ r.ew = a.t ∧
          (16 * 4294967296 ≤ d ∧ d < 9223372036854775808 → r.armed = true ∧ r.target = a.t + d.toNat * 8000) ∧
          (d < 16 * 4294967296 ∨ 9223372036854775808 ≤ d → r.armed = false ∧ r.target = u))) ∧
  (∀ (ch : Fin 64) (tm : Time) (s : State) (r : Launch) (rest : List Launch), (s.chanOf ch.val).lane.queue = r :: rest →
    (s.chanOf ch.val).lane.frame = none → s.pers (octOf ch.val) = 2 →
    (∀ st : Nat, (r.timed = true ∧ r.armed = false ∧ st = 1) ∨ ((r.timed = false ∨ r.armed = true) ∧
        ((hasBit (s.getF F.OCT_PSTAT_RATEBLK (octOf ch.val)) (posOf ch.val) = true ∧ st = 4) ∨
         (hasBit (s.getF F.OCT_PSTAT_RATEBLK (octOf ch.val)) (posOf ch.val) = false ∧
          ((s.getL F.OCT_LCFG_TXSRC (lnIx ch.val) = 1 ∧ st = 2) ∨
           (s.getL F.OCT_LCFG_TXSRC (lnIx ch.val) ≠ 1 ∧ s.unclocked (octOf ch.val) = true ∧ st = 3))))) →
      ∃ t, exec (.launchHead ch tm) s = .next t ∧ (t.chanOf ch.val).lane = { (s.chanOf ch.val).lane with
        queue := rest, headAt := tm,
        tsPend := (s.chanOf ch.val).lane.tsPend ++
          [{ id := r.id, status := st, t := if st = 4 ∨ r.timed = false then tm else r.target }] } ∧
        t.getF F.OCT_LMISS_MISS (lnIx ch.val) =
          (s.getF F.OCT_LMISS_MISS (lnIx ch.val) + 1) % 2 ^ F.OCT_LMISS_MISS.width ∧
        ChanOnly ch.val (F.OCT_LMISS_MISS.key (lnIx ch.val) :: laneKeys ch.val) s t) ∧
    (∀ (a : Time) (k0 : Int) (n : Nat), (r.timed = false ∨ r.armed = true) →
      hasBit (s.getF F.OCT_PSTAT_RATEBLK (octOf ch.val)) (posOf ch.val) = false →
      s.getL F.OCT_LCFG_TXSRC (lnIx ch.val) ≠ 1 → s.unclocked (octOf ch.val) = false →
      n = tPRELEN r.tpl * 8 / bps (s.pam4 ch.val) →
      (r.timed = true → a = Time.ofQ (Time.toQ r.target) ∧ k0 = -(n : Int)) →
      (r.timed = false → a = (s.chanOf ch.val).lane.anchor ∧
        k0 = s.symFrom ch.val a (max tm (max (r.ew + Time.ofNs 16) (s.chanOf ch.val).lane.ipgEnd))) →
      ((r.timed = true → (s.chanOf ch.val).lane.ipgEnd ≤ s.symAt ch.val a k0 ∧
          (s.chanOf ch.val).lane.headAt + Time.ofNs 16 ≤ s.symAt ch.val a k0) →
        (s.chanOf ch.val).lane.blank ≤ s.symAt ch.val a k0 →
        ∃ t f, exec (.launchHead ch tm) s = .next t ∧ (t.chanOf ch.val).lane = { (s.chanOf ch.val).lane with frame := some f } ∧
          f.req = r ∧ f.anchor = a ∧ f.k0 = k0 ∧ f.pre = s.symAt ch.val a k0 ∧
          f.sd = (if r.timed then r.target else s.symAt ch.val a (k0 + n)) ∧ f.sending = false ∧ ChanOnly ch.val [] s t) ∧
      (∀ st : Nat, (r.timed = true ∧ s.symAt ch.val a k0 < (s.chanOf ch.val).lane.ipgEnd ∧ st = 2) ∨
          ((r.timed = false ∨ (s.chanOf ch.val).lane.ipgEnd ≤ s.symAt ch.val a k0) ∧
            ((r.timed = true ∧ s.symAt ch.val a k0 < (s.chanOf ch.val).lane.headAt + Time.ofNs 16 ∧ st = 1) ∨
             ((r.timed = false ∨ (s.chanOf ch.val).lane.headAt + Time.ofNs 16 ≤ s.symAt ch.val a k0) ∧
              s.symAt ch.val a k0 < (s.chanOf ch.val).lane.blank ∧ st = 2))) →
        ∃ t, exec (.launchHead ch tm) s = .next t ∧ (t.chanOf ch.val).lane = { (s.chanOf ch.val).lane with
          queue := rest, headAt := tm,
          tsPend := (s.chanOf ch.val).lane.tsPend ++
            [{ id := r.id, status := st, t := if r.timed then r.target else tm }] } ∧
          ChanOnly ch.val (F.OCT_LMISS_MISS.key (lnIx ch.val) :: laneKeys ch.val) s t)))

/-- A decided frame begins with the bits that R174 builds; its end gives SENT with the instant of its start delimiter, or SAFE where
a symbol of it fell in safe state; the entry goes to the timestamp queue in order, and POP of the owner's VF removes the head. -/
def Obligations.FramesAndTimestamps : Prop :=
(∀ (ch : Fin 64) (s : State) (f : TxFrame), (s.chanOf ch.val).lane.frame = some f → f.sending = false →
    ((s.chanOf ch.val).lane.blank ≤ f.pre → ∃ t, exec (.preambleStart ch) s = .next t ∧
      (t.chanOf ch.val).lane.frame = some { f with
        bits := ((s.fillUntil ch.val f.pre).frameBytes ch.val f.req).1.flatMap byteBits, sending := true, safe := s.chanSafe ch.val } ∧
      (t.chanOf ch.val).lane.fill = none ∧ (t.chanOf ch.val).lane.anchor = f.anchor ∧ (t.chanOf ch.val).want = .signal ∧
      (t.chanOf ch.val).pin = (if s.pinBlocked ch.val then .idle else .signal) ∧ s.sameMems t ∧
      RegsBut [F.OCT_FESTAT_IDLE.key (chIx ch.val)] s t ∧ ∀ k, k ≠ ch.val → t.chanOf k = s.chanOf k) ∧
    (f.pre < (s.chanOf ch.val).lane.blank → ∃ t, exec (.preambleStart ch) s = .next t ∧
      (t.chanOf ch.val).lane = { (s.chanOf ch.val).lane with
        frame := none, queue := (s.chanOf ch.val).lane.queue.drop 1, headAt := f.pre,
        tsPend := (s.chanOf ch.val).lane.tsPend ++ [{ id := f.req.id, status := 2, t := f.req.when f.pre }] } ∧
      ChanOnly ch.val (F.OCT_LMISS_MISS.key (lnIx ch.val) :: laneKeys ch.val) s t)) ∧
  (∀ (ch : Fin 64) (s : State) (f : TxFrame), (s.chanOf ch.val).lane.frame = some f → f.sending = true →
    ∃ t, exec (.frameTxEnd ch) s = .next t ∧ (t.chanOf ch.val).lane.frame = none ∧
      (t.chanOf ch.val).lane.queue = (s.chanOf ch.val).lane.queue.drop 1 ∧
      (t.chanOf ch.val).lane.ipgEnd = s.symAt ch.val f.anchor
        (f.k0 + (f.k + symsFor (s.pam4 ch.val) f.bits.length : Nat) + (tIPG f.req.tpl : Nat)) ∧
      (t.chanOf ch.val).lane.fill.isSome = decide (tIDLE f.req.tpl ≠ 0) ∧ s.sameMems t ∧
      (∀ k, k ≠ ch.val → t.chanOf k = s.chanOf k) ∧
      (f.safe = false → s.chanSafe ch.val = false → (s.chanOf ch.val).held = false →
        (t.chanOf ch.val).lane.tsPend = (s.chanOf ch.val).lane.tsPend ++ [{ id := f.req.id, status := 0, t := f.sd }] ∧
        Out.frame ch.val f.req.id f.sd ∈ t.out ∧ t.getF F.OCT_LMISS_MISS (lnIx ch.val) = s.getF F.OCT_LMISS_MISS (lnIx ch.val)) ∧
      (f.safe = true ∨ s.chanSafe ch.val = true →
        (∃ u, (t.chanOf ch.val).lane.tsPend = (s.chanOf ch.val).lane.tsPend ++ [{ id := f.req.id, status := 3, t := f.req.when u }]) ∧
        t.getF F.OCT_LMISS_MISS (lnIx ch.val) =
          (s.getF F.OCT_LMISS_MISS (lnIx ch.val) + 1) % 2 ^ F.OCT_LMISS_MISS.width)) ∧
  (∀ (ch : Fin 64) (s : State) (e : TsEnt) (rest : List TsEnt), (s.chanOf ch.val).lane.tsPend = e :: rest →
    ((s.chanOf ch.val).lane.tsq.length < 8 → ∃ t, exec (.timestampWrite ch) s = .next t ∧
      (t.chanOf ch.val).lane = { (s.chanOf ch.val).lane with tsPend := rest, tsq := (s.chanOf ch.val).lane.tsq ++ [e] } ∧
      t.getF F.OCT_LSTAT_TSQN (lnIx ch.val) = ((s.chanOf ch.val).lane.tsq.length + 1) % 2 ^ F.OCT_LSTAT_TSQN.width ∧
      ChanOnly ch.val (laneKeys ch.val) s t) ∧
    (8 ≤ (s.chanOf ch.val).lane.tsq.length → ∃ t, exec (.timestampWrite ch) s = .next t ∧
      (t.chanOf ch.val).lane = { (s.chanOf ch.val).lane with tsPend := rest } ∧ t.getF F.OCT_LSTAT_TSQ_OVF (lnIx ch.val) = 1 ∧
      t.getF F.OCT_LTSQDROP_DROP (lnIx ch.val) = (s.getF F.OCT_LTSQDROP_DROP (lnIx ch.val) + 1) % 2 ^ F.OCT_LTSQDROP_DROP.width ∧
      ChanOnly ch.val (keysAt (lnIx ch.val) [F.OCT_LTSQDROP_DROP, F.OCT_LSTAT_TSQ_OVF]) s t)) ∧
  (∀ (n : Fin 16) (ch : Fin 64) (s : State), s.octOwner (octOf ch.val) = some n.val → s.vfLive (.vf n) = true →
    ∃ t, exec (.tsqPop (.vf n) ch) s = .next t ∧
      (t.chanOf ch.val).lane = { (s.chanOf ch.val).lane with tsq := (s.chanOf ch.val).lane.tsq.drop 1 } ∧
      (∀ (e1 e2 : TsEnt) (rest : List TsEnt), (s.chanOf ch.val).lane.tsq = e1 :: e2 :: rest →
        t.getF F.OCT_TSQHEAD_ID (lnIx ch.val) = e2.id % 2 ^ F.OCT_TSQHEAD_ID.width ∧
        t.getF F.OCT_TSQHEAD_STATUS (lnIx ch.val) = e2.status % 2 ^ F.OCT_TSQHEAD_STATUS.width ∧
        t.getF F.OCT_TSQHEAD_VALID (lnIx ch.val) = 1) ∧
      ((s.chanOf ch.val).lane.tsq.length ≤ 1 → t.getF F.OCT_TSQHEAD_VALID (lnIx ch.val) = 0) ∧
      ChanOnly ch.val (laneKeys ch.val) s t)

/-- The receive side: lock and its loss, the start of a frame where the bits received match, the record of a frame with its CRC verdict,
a bit error of the checker, and the clear of the fail registers. -/
def Obligations.LaneReceive : Prop :=
(∀ (ch : Fin 64) (s : State), s.rxOn = true → s.pers (octOf ch.val) = 2 → s.flag F.OCT_LSTAT_LOCK (lnIx ch.val) = false →
    ∃ t, exec (.rxLock ch) s = .next t ∧ t.getF F.OCT_LSTAT_LOCK (lnIx ch.val) = 1 ∧
      (t.chanOf ch.val).lane = { (s.chanOf ch.val).lane with
        rxPrev := 0, rxCodes := [], rxSlice := 0, rxBits := [], seed := 0, rxIng := none, rxData := [] } ∧
      ChanOnly ch.val [F.OCT_LSTAT_LOCK.key (lnIx ch.val)] s t) ∧
  (∀ (ch : Fin 64) (s : State), s.flag F.OCT_LSTAT_LOCK (lnIx ch.val) = true →
    ∃ t, exec (.rxLockLoss ch) s = .next t ∧ t.getF F.OCT_LSTAT_LOCK (lnIx ch.val) = 0 ∧
      t.getF F.OCT_LSTAT_LOCKLOST (lnIx ch.val) = 1 ∧ (t.chanOf ch.val).lane.rxIng = none ∧
      (t.chanOf ch.val).lane.rxBits = [] ∧ s.sameMems t ∧
      t.getF F.OCT_LRXFRM_FRM (lnIx ch.val) = (s.getF F.OCT_LRXFRM_FRM (lnIx ch.val) +
        if (s.chanOf ch.val).lane.rxIng.isSome then 1 else 0) % 2 ^ F.OCT_LRXFRM_FRM.width ∧
      ((s.chanOf ch.val).lane.rxIng = none → (s.chanOf ch.val).late = [] →
        ChanOnly ch.val (keysAt (lnIx ch.val) [F.OCT_LSTAT_LOCK, F.OCT_LSTAT_LOCKLOST]) s t)) ∧
  (∀ (ch : Fin 64) (s : State), s.rxOn = true → s.pers (octOf ch.val) = 2 →
    s.flagL F.OCT_LCFG_RXFRM (lnIx ch.val) = true → s.flag F.OCT_LSTAT_LOCK (lnIx ch.val) = true →
    hasBit (s.getF F.OCT_PSTAT_RATEBLK (octOf ch.val)) (posOf ch.val) = false →
    (∀ (u : Time) (l : List Nat), (s.chanOf ch.val).lane.rxIng = none → s.sdHit ch.val = some (u, l) →
      ∃ t, exec (.sdMatch ch ()) s = .next t ∧
        (t.chanOf ch.val).lane = { (s.chanOf ch.val).lane with rxIng := some (s.ingress ch.val u), rxData := l } ∧
        ChanOnly ch.val [] s t) ∧
    ((s.chanOf ch.val).lane.rxIng.isSome = true ∨ s.sdHit ch.val = none → exec (.sdMatch ch ()) s = .next s)) ∧
  (∀ (ch : Fin 64) (s : State) (ing fin : Time) (bs : List Nat) (rest : List (Time × List Nat × Time)) (data : List Byte)
      (len n : Nat), s.rxOn = true → (s.chanOf ch.val).lane.rxFull = (ing, bs, fin) :: rest →
    len = s.getL F.OCT_LRXFMT_RXLEN (lnIx ch.val) → data = bytesOf len bs →
    n = len - crcLen (s.getL F.OCT_LRXFMT_RXCRC (lnIx ch.val)) →
    ∃ t, exec (.rxFrameComplete ch () ()) s = .next t ∧ (t.chanOf ch.val).lane.rxFull = rest ∧
      t.getF F.OCT_LRXREC_VALID (lnIx ch.val) = 1 ∧
      t.getF F.OCT_LRXTS_LO_FRAC (lnIx ch.val) = Time.frac32 ing % 4294967296 ∧
      t.getF F.OCT_LRXTS_HI_NS (lnIx ch.val) = Time.int32 ing % 4294967296 ∧
      t.getF F.OCT_LRXFRM_FRM (lnIx ch.val) = (s.getF F.OCT_LRXFRM_FRM (lnIx ch.val) + 1) % 2 ^ F.OCT_LRXFRM_FRM.width ∧
      (crcLen (s.getL F.OCT_LRXFMT_RXCRC (lnIx ch.val)) = 0 ∨
          leNat (data.drop n) = (frameCrc (s.getL F.OCT_LRXFMT_RXCRC (lnIx ch.val)) (data.take n)).2 →
        t.getF F.OCT_LRXREC_CRCERR (lnIx ch.val) = 0 ∧
        t.getF F.OCT_FCNT_FCNT (chIx ch.val) = s.getF F.OCT_FCNT_FCNT (chIx ch.val)) ∧
      (crcLen (s.getL F.OCT_LRXFMT_RXCRC (lnIx ch.val)) ≠ 0 →
          leNat (data.drop n) ≠ (frameCrc (s.getL F.OCT_LRXFMT_RXCRC (lnIx ch.val)) (data.take n)).2 →
        t.getF F.OCT_LRXREC_CRCERR (lnIx ch.val) = 1 ∧
        t.getF F.OCT_LRXCRCERR_CRCERR (lnIx ch.val) =
          (s.getF F.OCT_LRXCRCERR_CRCERR (lnIx ch.val) + 1) % 2 ^ F.OCT_LRXCRCERR_CRCERR.width ∧
        t.getF F.OCT_FCNT_FCNT (chIx ch.val) = satAt F.OCT_FCNT_FCNT.width (s.getF F.OCT_FCNT_FCNT (chIx ch.val) + 1)) ∧
      s.sameMems t) ∧
  (∀ (ch : Fin 64) (s : State) (tm : Time) (sym beat : Nat) (rest : List (Time × Nat × Nat)),
    (s.chanOf ch.val).lane.errs = (tm, sym, beat) :: rest → ∃ t, exec (.checkerBitError ch () ()) s = .next t ∧
      (t.chanOf ch.val).lane.errs = rest ∧
      t.getF F.OCT_LBITERR_ERR (lnIx ch.val) = (s.getF F.OCT_LBITERR_ERR (lnIx ch.val) + 1) % 2 ^ F.OCT_LBITERR_ERR.width ∧
      t.getF F.OCT_FCNT_FCNT (chIx ch.val) = satAt F.OCT_FCNT_FCNT.width (s.getF F.OCT_FCNT_FCNT (chIx ch.val) + 1) ∧
      (s.flag F.OCT_FCTL_FFV (chIx ch.val) = false →
        t.getF F.OCT_FFIDX_FFIDX (chIx ch.val) = sym % 2 ^ F.OCT_FFIDX_FFIDX.width ∧
        t.getF F.OCT_FFBEAT_FFBEAT (chIx ch.val) = beat % 2 ^ F.OCT_FFBEAT_FFBEAT.width ∧
        t.getF F.OCT_FCTL_FFV (chIx ch.val) = 1 ∧ t.getF F.OCT_FCTL_FFKIND (chIx ch.val) = 2) ∧ s.sameMems t) ∧
  (∀ (n : Fin 16) (ch : Fin 64) (s : State), s.hostFree n → s.ownsCh n.val ch.val = true →
    ∃ t, exec (.failClear (.vf n) ch) s = .next t ∧ t.getF F.OCT_FCNT_FCNT (chIx ch.val) = 0 ∧
      t.getF F.OCT_FFIDX_FFIDX (chIx ch.val) = 0 ∧ t.getF F.OCT_FFBEAT_FFBEAT (chIx ch.val) = 0 ∧
      t.getF F.OCT_FCTL_FFV (chIx ch.val) = 0 ∧ SiteOnly n.val
        (keysAt (chIx ch.val) [F.OCT_FCNT_FCNT, F.OCT_FFIDX_FFIDX, F.OCT_FFBEAT_FFBEAT, F.OCT_FCTL_FFV]) s t)

/-! ### Capture (R187 to R209) -/

/-- Spans: START opens one for its set from its instant on, STOP closes it there, WORD completes one from the start to the end of its
word and charges what only it held.
At a window end the five rules of R204 act on what the window admitted, once what waits has been charged and has entered: a stopped
site restarts when the backlog is low; at d = 8 a full backlog or an overrun stops capture; too many bytes or a full backlog raise d; a
low backlog and room for it lower d; else d stays. The next window begins at the boundary. -/
def Obligations.CaptureSpansAndWindow : Prop :=
  ((∀ (e : Fin 16) (s s1 : State) (a : PinAct) (q : Nat) (u : Time),
    s.takeAct e.val (fun a => match a with | .capt 1 _ _ => true | _ => false) = some (a, s1) → a.act = .capt 1 q u →
    ∃ t, exec (.captStart e) s = .next t ∧ (t.capOf a.site).openSpan q = true ∧
      (∀ v, (t.capOf a.site).inSpan q v = ((s1.capOf a.site).inSpan q v || decide (a.t ≤ v))) ∧
      (∀ p, p ≠ q → ∀ v, (t.capOf a.site).inSpan p v = (s1.capOf a.site).inSpan p v) ∧ SiteOnly a.site [] s1 t) ∧
  (∀ (e : Fin 16) (s s1 : State) (a : PinAct) (q : Nat) (u : Time),
    s.takeAct e.val (fun a => match a with | .capt 2 _ _ => true | _ => false) = some (a, s1) → a.act = .capt 2 q u →
    ∃ t, exec (.captStop e) s = .next t ∧
      ((∀ p ∈ (s1.capOf a.site).spans, p.1 = q → p.2.2 = none → p.2.1 ≠ a.t) → (t.capOf a.site).openSpan q = false) ∧
      (∀ v, v < a.t → (t.capOf a.site).inSpan q v = (s1.capOf a.site).inSpan q v) ∧
      (∀ p, p ≠ q → ∀ v, (t.capOf a.site).inSpan p v = (s1.capOf a.site).inSpan p v) ∧ SiteOnly a.site [] s1 t) ∧
  (∀ (e : Fin 16) (s s1 : State) (a : PinAct) (q : Nat) (u : Time),
    s.takeAct e.val (fun a => match a with | .capt 3 _ _ => true | _ => false) = some (a, s1) → a.act = .capt 3 q u →
    ∃ t, exec (.captWord e) s = .next t ∧ (t.capOf a.site).fin = (s1.capOf a.site).fin ++ [(q, u, a.t)] ∧
      (t.capOf a.site).spans = (s1.capOf a.site).spans ∧
      (∀ c ∈ (t.capOf a.site).held, c ∈ (s1.capOf a.site).held ∧ ¬(c.q = q ∧ u ≤ c.u ∧ c.u < a.t)) ∧
      ((∀ c ∈ (s1.capOf a.site).held, ¬(c.q = q ∧ u ≤ c.u ∧ c.u < a.t)) →
        (t.capOf a.site).cands = (s1.capOf a.site).cands) ∧ SiteOnly a.site [] s1 t)) ∧
  (∀ (x : Fin 16) (s u : State), u = ((((s.modCap x.val (fun k => { k with
      winStart := max k.winStart (boundary s.memNow - Time.ofNs 1024) })).chargeAhead x.val (boundary s.memNow)).capDrain
        x.val).capDue x.val (boundary s.memNow)) →
    ∃ t, exec (.captureWindowEnd x) s = .next t ∧ (t.capOf x.val).winStart = boundary s.memNow ∧
      ((u.capOf x.val).ahead = [] → (t.capOf x.val).window = []) ∧ s.sameMems t ∧
      (u.flag F.SITE_CAPSTAT_STOPPED x.val = true → u.bksz x.val ≤ u.getF F.SITE_CBKOCC_BKOCC x.val * 2 →
        t.getF F.SITE_CAPSTAT_STOPPED x.val = 1) ∧
      (u.flag F.SITE_CAPSTAT_STOPPED x.val = true → u.getF F.SITE_CBKOCC_BKOCC x.val * 2 < u.bksz x.val →
        u.stageRoom x.val (u.capOf x.val).staged.length = true → t.getF F.SITE_CAPSTAT_STOPPED x.val = 0) ∧
      (u.flag F.SITE_CAPSTAT_STOPPED x.val = false →
        (u.dec x.val = 8 → u.bksz x.val ≤ u.getF F.SITE_CBKOCC_BKOCC x.val ∨ (u.capOf x.val).ovrWin = true →
          t.getF F.SITE_CAPSTAT_STOPPED x.val = 1 ∧ t.getF F.SITE_CAPSTAT_CAPT_FULL x.val = 1 ∧ (t.capOf x.val).overrun = none) ∧
        (u.dec x.val = 8 → u.getF F.SITE_CBKOCC_BKOCC x.val < u.bksz x.val → (u.capOf x.val).ovrWin = false →
          u.cwin x.val < (u.capOf x.val).kept → (u.capOf x.val).overrun = none →
          t.dec x.val = 8 ∧ t.getF F.SITE_CAPSTAT_REDUCED x.val = 1) ∧
        (u.dec x.val < 8 → u.cwin x.val < (u.capOf x.val).kept ∨ u.bksz x.val ≤ u.getF F.SITE_CBKOCC_BKOCC x.val →
          (u.capOf x.val).overrun = none → t.dec x.val = u.dec x.val + 1 ∧ t.getF F.SITE_CAPSTAT_REDUCED x.val = 1) ∧
        ((u.capOf x.val).kept ≤ u.cwin x.val → 0 < u.dec x.val → u.dec x.val ≤ 8 → (u.dec x.val = 8 → (u.capOf x.val).ovrWin = false) →
          u.getF F.SITE_CBKOCC_BKOCC x.val * 2 < u.bksz x.val → (u.capOf x.val).overrun = none →
          ((u.capOf x.val).admitted (u.dec x.val - 1) ≤ u.cwin x.val → t.dec x.val = u.dec x.val - 1) ∧
          (u.cwin x.val < (u.capOf x.val).admitted (u.dec x.val - 1) → t.dec x.val = u.dec x.val)) ∧
        ((u.capOf x.val).kept ≤ u.cwin x.val → u.dec x.val = 0 → u.getF F.SITE_CBKOCC_BKOCC x.val < u.bksz x.val →
          (u.capOf x.val).overrun = none → t.dec x.val = 0)))

/-- Pages: the oldest record that waits enters the open page whole where it fits, with the mark that R208 gives it; a flush takes in what
waits and closes the page with the next sequence number; a page moves to the backlog when that has room and no CAPTURE traffic of the site waits, and is delivered into
a free host slot with its DONE word once its blocks have been read. -/
def Obligations.CapturePages : Prop :=
(∀ (x : Fin 16) (s : State) (c : Cand) (rest : List Cand), (s.capOf x.val).cands = c :: rest →
    (∀ u ∈ (s.capOf x.val).closeAt, c.charge < u.1) → ∃ t, exec (.recordEnter x) s = .next t ∧ (t.capOf x.val).cands = rest ∧
      s.sameMems t ∧
      (s.notStoring x.val = true → (t.capOf x.val).page = (s.capOf x.val).page ∧ SiteOnly x.val [] s t) ∧
      (∀ (p : Page) (r : List Byte), s.notStoring x.val = false → (s.capOf x.val).page = some p → p.tail = [] →
        r = recordBytes c.typ c.q c.ch 0 c.beat (decide (c.typ ≤ 2) && (s.capOf x.val).suspChans.contains (c.ch, c.beat)) c.t c.body →
        p.recs.length + (16 + c.body.length) ≤ 4056 → (t.capOf x.val).page.map (fun g => g.recs) = some (p.recs ++ r) ∧
          (t.capOf x.val).page.map (fun g => g.tail) = some [] ∧ SiteOnly x.val [] s t) ∧
      (s.notStoring x.val = false → (s.capOf x.val).page = none → s.stageRoom x.val (s.capOf x.val).staged.length = true →
        (t.capOf x.val).page.map (fun g => g.recs) = some (recordBytes c.typ c.q c.ch 0 c.beat
          (decide (c.typ ≤ 2) && (s.capOf x.val).suspChans.contains (c.ch, c.beat)) c.t c.body) ∧
          SiteOnly x.val [F.SITE_CSTG_SUSED.key x.val] s t)) ∧
  (∀ (x : Fin 16) (s : State), (s.getF F.SITE_CFLTO_FLTO x.val ≠ 0 →
      exec (.pageFlushTimeout x) s = .next (s.flushPage x.val)) ∧
    (s.getF F.SITE_CFLTO_FLTO x.val = 0 → exec (.pageFlushTimeout x) s = .next s) ∧
    (s.hostFree x → exec (.captureFlush (.vf x) x) s = .next ((s.modSite x.val (fun k => { k with
      orders := [⟨s.nowNs, 2, 2, R.SITE_CCTL.addr x.val, 1, 0⟩] })).flushPage x.val))) ∧
  (∀ (x : Fin 16) (s : State), ((s.flushPage x.val).capOf x.val).cands = [] ∧
    (∀ p : Page, (s.capOf x.val).page = some p → (s.capOf x.val).cands = [] → (∀ u ∈ (s.capOf x.val).closeAt, s.memNow < u.1) →
      p.tailT ≠ s.memNow ∨ p.tail = [] → ((s.flushPage x.val).capOf x.val).page = none ∧
      ((s.flushPage x.val).capOf x.val).staged = (s.capOf x.val).staged ++ [{ p.settle with
        seq := s.getF F.SITE_CSEQ_SEQ x.val, early := true, stop := false, closeNs := Time.ns32 s.memNow }] ∧
      (s.flushPage x.val).getF F.SITE_CSEQ_SEQ x.val = (s.getF F.SITE_CSEQ_SEQ x.val + 1) % 2 ^ F.SITE_CSEQ_SEQ.width ∧
      SiteOnly x.val (keysAt x.val [F.SITE_CSEQ_SEQ, F.SITE_CSTG_SUSED]) s (s.flushPage x.val))) ∧
  (∀ (x : Fin 16) (ue ce : Nat) (s : State) (p : Page) (rest : List Page), (s.capOf x.val).staged = p :: rest →
    (∀ u ∈ (s.capOf x.val).closeAt, s.memNow < u.1) →
    (s.getF F.SITE_CBKOCC_BKOCC x.val < s.bksz x.val → s.waiting 1 x.val = false → ∃ t, exec (.pageMove x ue ce) s = .next t ∧ (t.capOf x.val).staged = rest ∧
      (t.capOf x.val).backlog = (s.capOf x.val).backlog ++ [{ p with zero := p.zero ||| ue % 2 ^ 512 }] ∧
      t.getF F.SITE_CBKOCC_BKOCC x.val = (s.getF F.SITE_CBKOCC_BKOCC x.val + 1) % 2 ^ F.SITE_CBKOCC_BKOCC.width ∧
      t.getF F.MEM_SCE_CNT 0 = (s.getF F.MEM_SCE_CNT 0 + ce) % 2 ^ F.MEM_SCE_CNT.width ∧
      (ue % 2 ^ 512 ≠ 0 → t.getF F.MEM_SUE_CNT 0 = (s.getF F.MEM_SUE_CNT 0 + popcount 512 (ue % 2 ^ 512)) % 2 ^ F.MEM_SUE_CNT.width) ∧
      (ue % 2 ^ 512 = 0 → t.reqs.length = s.reqs.length + 128) ∧ s.sameMems t) ∧
    (s.bksz x.val ≤ s.getF F.SITE_CBKOCC_BKOCC x.val ∨ s.waiting 1 x.val = true → exec (.pageMove x ue ce) s = .next s)) ∧
  (∀ (x : Fin 16) (k : Known) (s : State) (p : Page) (rest : List Page) (a : Nat), (s.capOf x.val).backlog = p :: rest →
    s.freeSlot x.val 2 4096 = some a →
    ((∀ r ∈ s.reqs, ∀ q, r.site = x.val → r.page = some q → q.1 ≠ p.seq) →
      ∃ t, exec (.pageDeliver x k) s = .next t ∧ Out.dma (.vf x) a (s.pageBytes x.val p) ∈ t.out ∧
      Out.dma (.vf x) (a + 4092) (leBytes 4 (if hasBit p.zero 511 then 0 else 4294967295 - p.seq % 4294967296)) ∈ t.out ∧
      (t.capOf x.val).backlog = rest ∧
      t.getF F.SITE_CDLV_DLV x.val = (s.getF F.SITE_CDLV_DLV x.val + 1) % 2 ^ F.SITE_CDLV_DLV.width ∧
      t.getF F.HST_RPROD_PROD (x.val * 4 + 2) = (s.getF F.HST_RPROD_PROD (x.val * 4 + 2) + 1) % 4294967296 ∧ s.sameMems t) ∧
    (∀ r ∈ s.reqs, ∀ q, r.site = x.val → r.page = some q → q.1 = p.seq → exec (.pageDeliver x k) s = .next s))

/-! ### Acquisition (R210 to R224) -/

/-- The code of an input is 128 + round(v × 128 / FS) clamped to 0 to 255 (R39), halves going to the higher code (the model's choice, log
entry 61).
A sample whose UI lies in the run adds one to the bin of its code and to no other byte of a voltage histogram, and one outside the
run none; a roving sample waits for its UI's main sample, or does so in the map at once; a complete dwell goes on to the next phase,
and after phase 127 counts a pass. -/
def Obligations.AcquisitionCodesAndCounts : Prop :=
  (∀ (s : State) (c : Nat) (v fs : Int), fs = s.fullScale c * (1000 * levelUnit) →
    (s.adcCode c v = 0 ↔ 256 * v < -(255 * fs)) ∧ (s.adcCode c v = 255 ↔ 253 * fs ≤ 256 * v) ∧
    (0 < s.adcCode c v → s.adcCode c v < 255 →
      -fs ≤ 256 * v - 2 * ((s.adcCode c v : Int) - 128) * fs ∧ 256 * v - 2 * ((s.adcCode c v : Int) - 128) * fs < fs)) ∧
  ((∀ (ch : Fin 64) (uv : Int) (tm : Time) (ce : Nat) (s : State) (start u ui : Time) (beat code : Nat), s.rxOn = true →
    s.adcUi ch.val tm = some (start, u, ui, beat) → code = s.adcCode ch.val (s.adcInput ch.val uv u) →
    s.acqFunc ch.val = 2 → s.getF F.ACQ_CFG_GATE ch.val = 0 → s.flag F.ACQ_CFG_VSRC ch.val = false →
    (∀ q, (s.chanOf ch.val).acq.uis.head? = some q → s.crosses ch.val q.code code = false) →
    ∃ t, exec (.adcSample ch uv tm ⟨false, ce⟩) s = .next t ∧ t.bb = s.bb ∧ t.dram = s.dram ∧ t.nvm = s.nvm ∧
      (t.chanOf ch.val).acq.uis.head? = some ⟨start, u, ui, code, (s.chanOf ch.val).acq.rov, none,
        (s.chanOf ch.val).acq.inRun start, none⟩ ∧
      ((s.chanOf ch.val).acq.inRun start = false → t.acqMem = s.acqMem) ∧
      ((s.chanOf ch.val).acq.inRun start = true → s.bin ch.val (code * 4) < 4294967295 →
        t.bin ch.val (code * 4) = s.bin ch.val (code * 4) + 1 ∧
        (∀ a, (∀ k, k < 4 → a ≠ ch.val * 131072 + (code * 4 + k)) →
          Tbl.get (fun _ => (0 : Byte)) t.acqMem a = Tbl.get (fun _ => 0) s.acqMem a))) ∧
  (∀ (ch : Fin 64) (uv : Int) (ce : Nat) (s : State) (p code : Nat), s.rxOn = true → p = s.rovPhase ch.val →
    code = s.adcCode ch.val (s.adcInput ch.val uv (s.rovAt ch.val p)) →
    (p < 64 → ∃ t, exec (.rovingSample ch ⟨uv, ⟨false, ce⟩⟩) s = .next t ∧
      (t.chanOf ch.val).acq = { (s.chanOf ch.val).acq with rov := some (p, code) } ∧
      t.getF F.ACQ_STAT_ROVPH ch.val = p % 2 ^ F.ACQ_STAT_ROVPH.width ∧
      { t with reg := s.reg, chan := s.chan, free := s.free } = s ∧
      RegsBut [F.ACQ_STAT_ROVPH.key ch.val, F.MEM_SCE_CNT.key 0] s t ∧ ∀ k, k ≠ ch.val → t.chanOf k = s.chanOf k) ∧
    (∀ (q : AcqUi) (rest : List AcqUi), 64 ≤ p → (s.chanOf ch.val).acq.uis = q :: rest →
      (q.counted = false → ∃ t, exec (.rovingSample ch ⟨uv, ⟨false, ce⟩⟩) s = .next t ∧ t.acqMem = s.acqMem ∧
        (t.chanOf ch.val).acq = { (s.chanOf ch.val).acq with uis := { q with rov := some (p, code) } :: rest }) ∧
      (∀ b, q.counted = true → s.acqFunc ch.val = 1 → s.flag F.ACQ_ROV_SWEEP ch.val = false → b = (p * 256 + code) * 4 →
        s.bin ch.val b < 4294967295 → ∃ t, exec (.rovingSample ch ⟨uv, ⟨false, ce⟩⟩) s = .next t ∧
        t.bin ch.val b = s.bin ch.val b + 1 ∧
        (∀ a, (∀ k, k < 4 → a ≠ ch.val * 131072 + (b + k)) →
          Tbl.get (fun _ => (0 : Byte)) t.acqMem a = Tbl.get (fun _ => 0) s.acqMem a) ∧
        t.getF F.ACQ_STAT_ROVPH ch.val = p % 2 ^ F.ACQ_STAT_ROVPH.width ∧
        { t with reg := s.reg, chan := s.chan, acqMem := s.acqMem, free := s.free } = s ∧
        RegsBut [F.ACQ_STAT_ROVPH.key ch.val, F.MEM_SCE_CNT.key 0] s t))) ∧
  (∀ (ch : Fin 64) (uv : Int) (tm : Time) (ue : Bool) (ce : Nat) (s : State), s.rxOn = false →
    exec (.rovingSample ch ⟨uv, ⟨ue, ce⟩⟩) s = .next (s.setF F.ACQ_STAT_ROVPH ch.val (s.rovPhase ch.val)) ∧
    exec (.adcSample ch uv tm ⟨ue, ce⟩) s = .next s) ∧
  (∀ (ch : Fin 64) (s : State), s.flag F.ACQ_ROV_SWEEP ch.val = true → (s.chanOf ch.val).acq.settle = 0 →
    2 ^ s.getF F.ACQ_ROV_DWELL ch.val ≤ (s.chanOf ch.val).acq.dwell → ∃ t, exec (.rovingStep ch) s = .next t ∧
      (t.chanOf ch.val).acq = { (s.chanOf ch.val).acq with
                                phase := ((s.chanOf ch.val).acq.phase + 1) % 128, settle := 4, dwell := 0 } ∧
      t.getF F.ACQ_STAT_ROVPH ch.val = ((s.chanOf ch.val).acq.phase + 1) % 128 % 2 ^ F.ACQ_STAT_ROVPH.width ∧
      t.getF F.ACQ_PASS_PASS ch.val = (if (s.chanOf ch.val).acq.phase % 128 = 127 then
        satAt F.ACQ_PASS_PASS.width (s.getF F.ACQ_PASS_PASS ch.val + 1) else s.getF F.ACQ_PASS_PASS ch.val) ∧
      ChanOnly ch.val (keysAt ch.val [F.ACQ_STAT_ROVPH, F.ACQ_PASS_PASS]) s t))

/-- Running, arming, triggering and the end of a record (R214 to R216, R220): a FORCE waits for the sample that would be its reference, and
one that has it starts the record. -/
def Obligations.AcquisitionRuns : Prop :=
(∀ (ch : Fin 64) (tm : Time) (s : State), s.flag F.ACQ_CTL_RUN ch.val = true → (s.chanOf ch.val).acq.run = false →
    ∃ t, exec (.acqRunStart ch tm) s = .next t ∧
      (t.chanOf ch.val).acq = { (s.chanOf ch.val).acq with run := true, t0 := tm, gateLeft := 0, trigs := [] } ∧
      t.getF F.ACQ_STAT_ACTIVE ch.val = 1 ∧ t.getF F.ACQ_RUNT0_NS ch.val = Time.ns32 tm % 4294967296 ∧
      ChanOnly ch.val (keysAt ch.val [F.ACQ_STAT_ACTIVE, F.ACQ_RUNT0_NS]) s t) ∧
  (∀ (ch : Fin 64) (tm : Time) (s : State), s.flag F.ACQ_CTL_RUN ch.val = false → (s.chanOf ch.val).acq.run = true →
    ∃ t, exec (.acqRunStop ch tm) s = .next t ∧
      (t.chanOf ch.val).acq = { (s.chanOf ch.val).acq with
        run := false, t1 := tm, trig := if (s.chanOf ch.val).acq.refSeen then (s.chanOf ch.val).acq.trig else none } ∧
      t.getF F.ACQ_RUNT1_NS ch.val = Time.ns32 tm % 4294967296 ∧ ChanOnly ch.val [F.ACQ_RUNT1_NS.key ch.val] s t) ∧
  (∀ (ch : Fin 64) (s : State), (s.chanOf ch.val).acq.run = false → ∃ t, exec (.acqStopDone ch) s = .next t ∧
    t.getF F.ACQ_STAT_ACTIVE ch.val = 0 ∧ RegsOnly [F.ACQ_STAT_ACTIVE.key ch.val] s t) ∧
  (∀ (n : Fin 16) (ch : Fin 64) (s : State), s.hostFree n → s.ownsCh n.val ch.val = true → s.acqFunc ch.val = 3 →
    s.flag F.ACQ_CTL_RUN ch.val = true → ∃ t off, exec (.acqArm (.vf n) ch) s = .next t ∧ off < 131072 ∧
      t.getF F.ACQ_STAT_ARMED ch.val = 1 ∧ t.getF F.ACQ_STAT_TRIGD ch.val = 0 ∧
      (t.chanOf ch.val).acq = { (s.chanOf ch.val).acq with
        armT := s.localNow (octOf ch.val), off := off, since := 0, trig := none, refSeen := false, left := 0 } ∧
      { t with reg := s.reg, chan := s.chan, site := s.site, free := s.free } = s ∧
      RegsBut (keysAt ch.val [F.ACQ_STAT_ARMED, F.ACQ_STAT_TRIGD]) s t ∧ ∀ k, k ≠ ch.val → t.chanOf k = s.chanOf k) ∧
  (∀ (ch : Fin 64) (s : State), s.flag F.ACQ_STAT_ARMED ch.val = true → (s.chanOf ch.val).acq.refSeen = true →
    (s.chanOf ch.val).acq.left = 0 → ∃ t, exec (.acqRecordDone ch) s = .next t ∧ t.getF F.ACQ_STAT_ARMED ch.val = 0 ∧
      t.getF F.ACQ_STAT_TRIGD ch.val = 1 ∧
      (t.chanOf ch.val).acq = { (s.chanOf ch.val).acq with trig := none, refSeen := false } ∧
      ChanOnly ch.val (keysAt ch.val [F.ACQ_STAT_ARMED, F.ACQ_STAT_TRIGD]) s t) ∧
  (∀ (n : Fin 16) (ch : Fin 64) (s : State) (u : Time) (l : List AcqUi), s.hostFree n → s.ownsCh n.val ch.val = true →
    u = Time.ofNs (Time.toNs (s.localNow (octOf ch.val))) → l = (s.chanOf ch.val).acq.taken u →
    (l = [] → ∃ t, exec (.acqForce (.vf n) ch) s = .next t ∧
      (t.chanOf ch.val).acq = { (s.chanOf ch.val).acq with events := (s.chanOf ch.val).acq.events ++ [u] } ∧
      ChanOrder ch.val n.val [] s t) ∧
    (∀ (r : AcqUi) (off : Nat), l.getLast? = some r → r.off = some off →
      s.acqFires ch.val u r ((l.filter (fun q => decide (u < q.t) && q.off.isSome)).length) = true → s.getF F.ACQ_CFG_GATE ch.val ≠ 3 →
      ∃ t, exec (.acqForce (.vf n) ch) s = .next t ∧
        (t.chanOf ch.val).acq = { (s.chanOf ch.val).acq with
          trig := some u, refSeen := true,
          left := s.acqPost ch.val - 1 - ((s.chanOf ch.val).acq.off + 131071 - off) % 131072 } ∧
        t.getF F.ACQ_TREC_TIDX ch.val = off % 2 ^ F.ACQ_TREC_TIDX.width ∧
        t.getF F.ACQ_TRGT_LO_FRAC ch.val = Time.frac32 u % 4294967296 ∧
        t.getF F.ACQ_TRGT_HI_NS ch.val = Time.int32 u % 4294967296 ∧
        ChanOrder ch.val n.val (keysAt ch.val [F.ACQ_TRGT_LO_FRAC, F.ACQ_TRGT_HI_NS, F.ACQ_TREC_TIDX, F.ACQ_TREC_TFRAC,
          F.ACQ_TRBEAT_BEAT]) s t)) ∧
  (∀ (n : Fin 16) (ch : Fin 64) (ns d : Nat) (s : State), s.hostFree n → s.ownsCh n.val ch.val = true →
    d = ((ns % 4294967296 * 4294967296 + s.getF F.ACQ_TTRIG_LO_FRAC ch.val + 18446744073709551616 -
      s.copyFix (octOf ch.val) % 18446744073709551616) % 18446744073709551616) →
    ∃ t, exec (.acqTtrigSubmit (.vf n) ch ns) s = .next t ∧ t.getF F.ACQ_TTRIG_HI_NS ch.val = ns % 4294967296 ∧
      (16 * 4294967296 ≤ d ∧ d < 2147483648 * 4294967296 →
        (octOf ch.val, TimedReq.acqTrig ch (Time.ofFix (s.copyFix (octOf ch.val) + d))) ∈ t.time.armed ∧
        t.getF F.ACQ_STAT_TMISS ch.val = s.getF F.ACQ_STAT_TMISS ch.val) ∧
      (d < 16 * 4294967296 ∨ 2147483648 * 4294967296 ≤ d → t.getF F.ACQ_STAT_TMISS ch.val = 1 ∧
        ∀ p ∈ t.time.armed, ∀ tm, p.2 ≠ .acqTrig ch tm) ∧
      { t with reg := s.reg, time := s.time, site := s.site } = s ∧
      RegsBut (keysAt ch.val [F.ACQ_TTRIG_HI_NS, F.ACQ_STAT_TMISS]) s t)

/-- CLR empties the slot once it is done and restarts the sweep; EYE on a stopped map gives LEFT, RIGHT and WIDTH of the open
columns about phase 64; both are refused while RUN = 1 and have no effect while they run (R5, R220, R222). -/
def Obligations.AcquisitionClears : Prop :=
(∀ (n : Fin 16) (ch : Fin 64) (s : State), s.hostFree n → s.ownsCh n.val ch.val = true →
    ((s.chanOf ch.val).acq.clearing = false → s.flag F.ACQ_CTL_RUN ch.val = false → ∃ t, exec (.acqClr (.vf n) ch) s = .next t ∧
      (t.chanOf ch.val).acq = { (s.chanOf ch.val).acq with clearing := true, eye := false } ∧
      t.getF F.ACQ_EYER_VALID ch.val = 0 ∧ ChanOrder ch.val n.val [F.ACQ_EYER_VALID.key ch.val] s t) ∧
    ((s.chanOf ch.val).acq.clearing = false → s.flag F.ACQ_CTL_RUN ch.val = true → ∃ t, exec (.acqClr (.vf n) ch) s = .next t ∧
      t.getF F.ACQ_STAT_CFG_REJ ch.val = 1 ∧ SiteOnly n.val [F.ACQ_STAT_CFG_REJ.key ch.val] s t) ∧
    ((s.chanOf ch.val).acq.clearing = true → ∃ t, exec (.acqClr (.vf n) ch) s = .next t ∧ SiteOnly n.val [] s t) ∧
    ((s.chanOf ch.val).acq.eye = false → s.flag F.ACQ_CTL_RUN ch.val = false → s.flag F.ACQ_STAT_ACTIVE ch.val = false →
      s.acqFunc ch.val = 1 → ∃ t, exec (.acqEye (.vf n) ch) s = .next t ∧
        (t.chanOf ch.val).acq = { (s.chanOf ch.val).acq with eye := true } ∧
        t.getF F.ACQ_EYER_VALID ch.val = 0 ∧ ChanOrder ch.val n.val [F.ACQ_EYER_VALID.key ch.val] s t) ∧
    ((s.chanOf ch.val).acq.eye = false →
      s.flag F.ACQ_CTL_RUN ch.val = true ∨ s.flag F.ACQ_STAT_ACTIVE ch.val = true ∨ s.acqFunc ch.val ≠ 1 →
      ∃ t, exec (.acqEye (.vf n) ch) s = .next t ∧ t.getF F.ACQ_STAT_CFG_REJ ch.val = 1 ∧
        SiteOnly n.val [F.ACQ_STAT_CFG_REJ.key ch.val] s t)) ∧
  (∀ (ch : Fin 64) (s : State), (s.chanOf ch.val).acq.clearing = true → ∃ t, exec (.acqClrDone ch) s = .next t ∧
    (∀ b, b < 131072 → t.acqByte ch.val b = 0) ∧
    (∀ a, a < ch.val * 131072 ∨ (ch.val + 1) * 131072 ≤ a →
      Tbl.get (fun _ => (0 : Byte)) t.acqMem a = Tbl.get (fun _ => 0) s.acqMem a) ∧
    (t.chanOf ch.val).acq = { (s.chanOf ch.val).acq with clearing := false, phase := 0, settle := 4, dwell := 0 } ∧
    t.getF F.ACQ_PASS_PASS ch.val = 0 ∧ t.getF F.ACQ_STAT_ROVPH ch.val = 0 ∧
    { t with reg := s.reg, chan := s.chan, acqMem := s.acqMem } = s ∧
    RegsBut (keysAt ch.val [F.ACQ_PASS_PASS, F.ACQ_STAT_ROVPH]) s t) ∧
  (∀ (ch : Fin 64) (s : State), (s.chanOf ch.val).acq.eye = true → ∃ t, exec (.acqEyeDone ch) s = .next t ∧
    t.getF F.ACQ_EYER_VALID ch.val = 1 ∧ (t.chanOf ch.val).acq = { (s.chanOf ch.val).acq with eye := false } ∧
    (s.eyeOpen ch.val 64 = false → t.getF F.ACQ_EYER_WIDTH ch.val = 0) ∧
    (∀ l r, l ≤ 64 → 64 ≤ r → r ≤ 127 → (∀ p, l ≤ p → p ≤ r → s.eyeOpen ch.val p = true) →
      (l = 0 ∨ s.eyeOpen ch.val (l - 1) = false) → (r = 127 ∨ s.eyeOpen ch.val (r + 1) = false) →
      t.getF F.ACQ_EYER_LEFT ch.val = l ∧ t.getF F.ACQ_EYER_RIGHT ch.val = r ∧
        t.getF F.ACQ_EYER_WIDTH ch.val = (r - l + 1) % 2 ^ F.ACQ_EYER_WIDTH.width) ∧
    ChanOnly ch.val (keysAt ch.val [F.ACQ_EYER_LEFT, F.ACQ_EYER_RIGHT, F.ACQ_EYER_WIDTH, F.ACQ_EYER_VALID]) s t)

/-! ### TDC (R225 to R234) -/

/-- An edge of a period measurement gives a value against the edge before it, or starts one; one inside the dead time is skipped and
counted; an edge of an interval's stop channel completes it; an edge in an open gate counts in it; a gate gives its span and edge count, or
is discarded and counted, or where a take-over has discarded it counts nothing; an edge outside every run that it could serve is
nothing; a start without a stop is discarded and counted. -/
def Obligations.TdcMeasures : Prop :=
(∀ (ch : Fin 64) (fine st : Nat) (tm : Time) (w : Bool) (rest : List (Time × Bool)) (s : State),
    (s.chanOf ch.val).tdc.edges = (tm, w) :: rest → st = stampOf tm fine →
    (∀ l, s.meas ch.val ≠ 3 → (s.chanOf ch.val).tdc.last = some l → st < l + 4096 →
      ((s.chanOf ch.val).tdc.takes st = true ∨ ∃ d ∈ s.stopsFor ch.val, (s.chanOf d).tdc.takes st = true) → ∃ t, exec (.tdcStamp ch fine) s = .next t ∧
      t.getF F.OCT_TDCSKIP_SKIP (chIx ch.val) = (s.getF F.OCT_TDCSKIP_SKIP (chIx ch.val) + 1) % 2 ^ F.OCT_TDCSKIP_SKIP.width ∧
      (t.chanOf ch.val).tdc = { (s.chanOf ch.val).tdc with
        edges := rest, gSince := (s.chanOf ch.val).tdc.gSince + 1, gSWarm := (s.chanOf ch.val).tdc.gSWarm || w } ∧
      ChanOnly ch.val [F.OCT_TDCSKIP_SKIP.key (chIx ch.val)] s t) ∧
    ((s.chanOf ch.val).tdc.takes st = false → (∀ d ∈ s.stopsFor ch.val, (s.chanOf d).tdc.takes st = false) →
      ∃ t, exec (.tdcStamp ch fine) s = .next t ∧ (t.chanOf ch.val).tdc = { (s.chanOf ch.val).tdc with edges := rest } ∧
        ChanOnly ch.val [] s t) ∧
    ((∀ l, (s.chanOf ch.val).tdc.last = some l → l + 4096 ≤ st) → (s.chanOf ch.val).tdc.takes st = true → s.stopsFor ch.val = [] →
      (∀ (p : Nat) (v : Bool), s.meas ch.val = 2 → (s.chanOf ch.val).tdc.start = some (p, v) → st - p ≤ 68719476735 →
        ∃ t, exec (.tdcStamp ch fine) s = .next t ∧
          (t.chanOf ch.val).tdc = { (s.chanOf ch.val).tdc with
            edges := rest, last := some st, start := some (st, w), cnt := satAt 32 ((s.chanOf ch.val).tdc.cnt + 1),
            sum := ((s.chanOf ch.val).tdc.sum + (st - p)) % 2 ^ 64,
            sq := satAt 64 ((s.chanOf ch.val).tdc.sq +
              (((st - p : Nat) : Int) - s.getF F.OCT_TDCREF_REF (chIx ch.val)).natAbs ^ 2),
            min := min (s.chanOf ch.val).tdc.min (st - p), max := max (s.chanOf ch.val).tdc.max (st - p),
            warm := (s.chanOf ch.val).tdc.warm || (v || w) } ∧
          ChanOnly ch.val [F.OCT_TDCSTAT_SQSAT.key (chIx ch.val)] s t) ∧
      (∀ (p : Nat) (v : Bool), s.meas ch.val = 2 → (s.chanOf ch.val).tdc.start = some (p, v) → 68719476735 < st - p →
        ∃ t, exec (.tdcStamp ch fine) s = .next t ∧
          (t.chanOf ch.val).tdc = { (s.chanOf ch.val).tdc with edges := rest, last := some st, start := some (st, w) } ∧
          t.getF F.OCT_TDCDISC_DISC (chIx ch.val) = (s.getF F.OCT_TDCDISC_DISC (chIx ch.val) + 1) % 2 ^ F.OCT_TDCDISC_DISC.width ∧
          ChanOnly ch.val [F.OCT_TDCDISC_DISC.key (chIx ch.val)] s t) ∧
      (s.meas ch.val = 1 ∨ s.meas ch.val = 2 → (s.chanOf ch.val).tdc.start = none → ∃ t, exec (.tdcStamp ch fine) s = .next t ∧
        (t.chanOf ch.val).tdc = { (s.chanOf ch.val).tdc with edges := rest, last := some st, start := some (st, w) } ∧
        ChanOnly ch.val [] s t) ∧
      (∀ f, s.meas ch.val = 3 → st < s.gateEnd ch.val → (s.chanOf ch.val).tdc.gFirst = some f →
        ∃ t, exec (.tdcStamp ch fine) s = .next t ∧
          (t.chanOf ch.val).tdc = { (s.chanOf ch.val).tdc with
            edges := rest, last := some st, gLast := st, gStamps := (s.chanOf ch.val).tdc.gStamps + 1,
            gEdges := (s.chanOf ch.val).tdc.gEdges + (s.chanOf ch.val).tdc.gSince + 1, gSince := 0, gSWarm := false,
            gWarm := (s.chanOf ch.val).tdc.gWarm || (s.chanOf ch.val).tdc.gSWarm || w } ∧
          ChanOnly ch.val [] s t)) ∧
    (∀ (d p : Nat) (v : Bool), (∀ l, (s.chanOf ch.val).tdc.last = some l → l + 4096 ≤ st) → s.stopsFor ch.val = [d] →
      d ≠ ch.val → (s.chanOf ch.val).tdc.run = false → (s.chanOf d).tdc.start = some (p, v) → p < st →
      (s.chanOf d).tdc.takes st = true → st - p ≤ 68719476735 → ∃ t, exec (.tdcStamp ch fine) s = .next t ∧
        (t.chanOf d).tdc.start = none ∧ (t.chanOf d).tdc.cnt = satAt 32 ((s.chanOf d).tdc.cnt + 1) ∧
        (t.chanOf d).tdc.sum = ((s.chanOf d).tdc.sum + (st - p)) % 2 ^ 64 ∧
        (t.chanOf ch.val).tdc = { (s.chanOf ch.val).tdc with edges := rest, last := some st } ∧
        { t with reg := s.reg, chan := s.chan } = s ∧ RegsBut [F.OCT_TDCSTAT_SQSAT.key (chIx d)] s t)) ∧
  (∀ (ch : Fin 64) (s : State), (s.chanOf ch.val).tdc.run = true → s.meas ch.val = 3 →
    (s.chanOf ch.val).tdc.before (s.gateEnd ch.val) = true → s.gateEnd ch.val ≤ s.stampNow ch.val →
    (s.chanOf ch.val).tdc.edges.all (fun p => decide (s.gateEnd ch.val ≤ p.1 / 8388608000)) = true →
    ((s.chanOf ch.val).tdc.gDead = true → ∃ t, exec (.tdcGateEnd ch) s = .next t ∧
      (t.chanOf ch.val).tdc = { (s.chanOf ch.val).tdc.noGate with gate := (s.chanOf ch.val).tdc.gate + 1 } ∧ ChanOnly ch.val [] s t) ∧
    (∀ f, (s.chanOf ch.val).tdc.gDead = false → (s.chanOf ch.val).tdc.gFirst = some f → 2 ≤ (s.chanOf ch.val).tdc.gStamps → ∃ t, exec (.tdcGateEnd ch) s = .next t ∧
      (t.chanOf ch.val).tdc = { (s.chanOf ch.val).tdc.noGate with
        gate := (s.chanOf ch.val).tdc.gate + 1, cnt := satAt 32 ((s.chanOf ch.val).tdc.cnt + 1),
        sum := ((s.chanOf ch.val).tdc.sum + ((s.chanOf ch.val).tdc.gLast - f)) % 2 ^ 64,
        ecnt := ((s.chanOf ch.val).tdc.ecnt + (s.chanOf ch.val).tdc.gEdges) % 2 ^ 64,
        warm := (s.chanOf ch.val).tdc.warm || (s.chanOf ch.val).tdc.gWarm } ∧ ChanOnly ch.val [] s t) ∧
    ((s.chanOf ch.val).tdc.gDead = false → (s.chanOf ch.val).tdc.gFirst = none ∨ (s.chanOf ch.val).tdc.gStamps < 2 → ∃ t, exec (.tdcGateEnd ch) s = .next t ∧
      (t.chanOf ch.val).tdc = { (s.chanOf ch.val).tdc.noGate with gate := (s.chanOf ch.val).tdc.gate + 1 } ∧
      t.getF F.OCT_TDCDISC_DISC (chIx ch.val) = (s.getF F.OCT_TDCDISC_DISC (chIx ch.val) + 1) % 2 ^ F.OCT_TDCDISC_DISC.width ∧
      ChanOnly ch.val [F.OCT_TDCDISC_DISC.key (chIx ch.val)] s t)) ∧
  (∀ (ch : Fin 64) (p : Nat) (w : Bool) (s : State), (s.chanOf ch.val).tdc.start = some (p, w) → s.meas ch.val = 1 →
    p + 68719476735 < s.stampNow ch.val →
    (s.chanOf (s.tdcCfg ch.val).2.1).tdc.edges.all
      (fun q => decide (p + 68719476735 < q.1 / 8388608000)) = true →
    ∃ t, exec (.tdcStartTimeout ch) s = .next t ∧ (t.chanOf ch.val).tdc = { (s.chanOf ch.val).tdc with start := none } ∧
      t.getF F.OCT_TDCDISC_DISC (chIx ch.val) = (s.getF F.OCT_TDCDISC_DISC (chIx ch.val) + 1) % 2 ^ F.OCT_TDCDISC_DISC.width ∧
      ChanOnly ch.val [F.OCT_TDCDISC_DISC.key (chIx ch.val)] s t)

/-- RUN, SNAP and CLR by the owner's VF, the end of a stopped run, the lock of the DLL and its loss, and the warm flag (R227,
R232 to R234). -/
def Obligations.TdcControls : Prop :=
(∀ (n : Fin 16) (ch : Fin 64) (s : State), s.hostFree n → s.ownsCh n.val ch.val = true →
    (s.flag F.OCT_TDCCTL_RUN (chIx ch.val) = false → ∃ t, exec (.tdcRunStart (.vf n) ch) s = .next t ∧
      (t.chanOf ch.val).tdc.run = true ∧ (t.chanOf ch.val).tdc.t0 = Time.toNs (s.localNow (octOf ch.val)) + 1 ∧
      (t.chanOf ch.val).tdc.stopT = none ∧ (t.chanOf ch.val).tdc.div = 0 ∧ (t.chanOf ch.val).tdc.gate = 0 ∧
      (t.chanOf ch.val).tdc.start = none ∧ (t.chanOf ch.val).tdc.gFirst = none ∧
      t.getF F.OCT_TDCCTL_RUN (chIx ch.val) = 1 ∧ t.getF F.OCT_TDCSTAT_ACTIVE (chIx ch.val) = 1 ∧
      ((s.chanOf ch.val).tdc.stopT = none → t.getF F.OCT_TDCDISC_DISC (chIx ch.val) = s.getF F.OCT_TDCDISC_DISC (chIx ch.val)) ∧
      (∀ m : Nat × Nat × Nat, m = (if (s.chanOf ch.val).tdc.stopT.isSome then none else (s.chanOf ch.val).tdc.cfg).getD
          (s.getF F.OCT_TDCCFG_MEAS (chIx ch.val), s.getF F.OCT_TDCCFG_STOPCH (chIx ch.val), s.getF F.OCT_TDCCFG_FGATE (chIx ch.val)) →
        (m.1 ≠ 1 ∨ m.2.1 = ch.val →
          ChanOrder ch.val n.val (keysAt (chIx ch.val) [F.OCT_TDCCTL_RUN, F.OCT_TDCSTAT_ACTIVE, F.OCT_TDCDISC_DISC]) s t) ∧
        (m.1 = 1 → m.2.1 ≠ ch.val →
          t.chanOf m.2.1 = { s.chanOf m.2.1 with tdc := { (s.chanOf m.2.1).tdc with sdiv := 0 } } ∧
          ChanOrder ch.val n.val (keysAt (chIx ch.val) [F.OCT_TDCCTL_RUN, F.OCT_TDCSTAT_ACTIVE, F.OCT_TDCDISC_DISC]) s
            (t.setChan m.2.1 (s.chanOf m.2.1))))) ∧
    (s.flag F.OCT_TDCCTL_RUN (chIx ch.val) = true → ∃ t, exec (.tdcRunStop (.vf n) ch) s = .next t ∧
      (t.chanOf ch.val).tdc = { (s.chanOf ch.val).tdc with
        stopT := some (Time.toNs (s.localNow (octOf ch.val)) + 1), cfg := some (s.tdcCfg ch.val) } ∧
      t.getF F.OCT_TDCCTL_RUN (chIx ch.val) = 0 ∧ ChanOrder ch.val n.val [F.OCT_TDCCTL_RUN.key (chIx ch.val)] s t) ∧
    (∃ t, exec (.tdcSnap (.vf n) ch) s = .next t ∧
      t.getF F.OCT_TDCCNT_CNT (chIx ch.val) = (s.chanOf ch.val).tdc.cnt % 2 ^ F.OCT_TDCCNT_CNT.width ∧
      t.getF F.OCT_TDCSUM_LO_SUM (chIx ch.val) = (s.chanOf ch.val).tdc.sum % 4294967296 ∧
      t.getF F.OCT_TDCSUM_HI_SUM (chIx ch.val) = (s.chanOf ch.val).tdc.sum / 4294967296 % 4294967296 ∧
      t.getF F.OCT_TDCMIN_LO_MIN (chIx ch.val) = (s.chanOf ch.val).tdc.min % 4294967296 ∧
      t.getF F.OCT_TDCMAX_LO_MAX (chIx ch.val) = (s.chanOf ch.val).tdc.max % 4294967296 ∧
      t.getF F.OCT_TDCSNT_NS (chIx ch.val) = Time.ns32 (s.localNow (octOf ch.val)) % 4294967296 ∧
      t.chan = s.chan ∧ SiteOnly n.val (keysAt (chIx ch.val) [F.OCT_TDCCNT_CNT, F.OCT_TDCSUM_LO_SUM, F.OCT_TDCSUM_HI_SUM,
        F.OCT_TDCSQ_LO_SQ, F.OCT_TDCSQ_HI_SQ, F.OCT_TDCMIN_LO_MIN, F.OCT_TDCMIN_HI_MIN, F.OCT_TDCMAX_LO_MAX, F.OCT_TDCMAX_HI_MAX,
        F.OCT_TDCECNT_LO_ECNT, F.OCT_TDCECNT_HI_ECNT, F.OCT_TDCSTAT_SWARM, F.OCT_TDCSNT_NS]) s t) ∧
    (s.flag F.OCT_TDCCTL_RUN (chIx ch.val) = false → ∃ t, exec (.tdcClr (.vf n) ch) s = .next t ∧
      (t.chanOf ch.val).tdc = { (s.chanOf ch.val).tdc with
        cnt := 0, sum := 0, ecnt := 0, sq := 0, min := 68719476735, max := 0, warm := false } ∧
      t.getF F.OCT_TDCDISC_DISC (chIx ch.val) = 0 ∧ t.getF F.OCT_TDCSKIP_SKIP (chIx ch.val) = 0 ∧
      ChanOrder ch.val n.val (keysAt (chIx ch.val) [F.OCT_TDCDISC_DISC, F.OCT_TDCSKIP_SKIP]) s t) ∧
    (s.flag F.OCT_TDCCTL_RUN (chIx ch.val) = true → ∃ t, exec (.tdcClr (.vf n) ch) s = .next t ∧
      t.getF F.OCT_TDCSTAT_CFG_REJ (chIx ch.val) = 1 ∧ SiteOnly n.val [F.OCT_TDCSTAT_CFG_REJ.key (chIx ch.val)] s t)) ∧
  (∀ (ch : Fin 64) (n : Nat) (s : State), (s.chanOf ch.val).tdc.stopT = some n →
    (n ≤ Time.toNs (s.localNow (octOf ch.val)) →
      (s.chanOf ch.val).tdc.edges.all (fun p => decide (Time.ofNs n ≤ p.1)) = true → ∃ t, exec (.tdcStopDone ch) s = .next t ∧
        (t.chanOf ch.val).tdc.run = false ∧ (t.chanOf ch.val).tdc.stopT = none ∧ (t.chanOf ch.val).tdc.start = none ∧
        (t.chanOf ch.val).tdc.cfg = none ∧ (t.chanOf ch.val).tdc.gFirst = none ∧ t.getF F.OCT_TDCSTAT_ACTIVE (chIx ch.val) = 0 ∧
        (s.meas ch.val = 1 → (s.chanOf ch.val).tdc.start.isSome = true → t.getF F.OCT_TDCDISC_DISC (chIx ch.val) =
          (s.getF F.OCT_TDCDISC_DISC (chIx ch.val) + 1) % 2 ^ F.OCT_TDCDISC_DISC.width) ∧
        ChanOnly ch.val (keysAt (chIx ch.val) [F.OCT_TDCSTAT_ACTIVE, F.OCT_TDCDISC_DISC]) s t) ∧
    (Time.toNs (s.localNow (octOf ch.val)) < n → exec (.tdcStopDone ch) s = .next s)) ∧
  (∀ (ch : Fin 64) (s : State), (s.chanOf ch.val).tdc.stopT = none → (s.chanOf ch.val).tdc.run = false →
    ∃ t, exec (.tdcStopDone ch) s = .next t ∧
    t.getF F.OCT_TDCSTAT_ACTIVE (chIx ch.val) = 0 ∧ RegsOnly [F.OCT_TDCSTAT_ACTIVE.key (chIx ch.val)] s t) ∧
  (∀ (ch : Fin 64) (s : State), ∃ t, exec (.dllLock ch) s = .next t ∧ t.getF F.OCT_TDCSTAT_DLLLOCK (chIx ch.val) = 1 ∧
    RegsOnly [F.OCT_TDCSTAT_DLLLOCK.key (chIx ch.val)] s t) ∧
  (∀ (ch : Fin 64) (s : State), s.flag F.OCT_TDCSTAT_DLLLOCK (chIx ch.val) = true → ∃ t, exec (.dllUnlock ch) s = .next t ∧
    t.getF F.OCT_TDCSTAT_DLLLOCK (chIx ch.val) = 0 ∧ t.getF F.OCT_TDCSTAT_DLLUL (chIx ch.val) = 1 ∧
    (t.chanOf ch.val).tdc = { (s.chanOf ch.val).tdc.noGate with
      start := none, edges := [], gDead := (s.chanOf ch.val).tdc.gDead } ∧
    ((s.chanOf ch.val).tdc.start.isSome = true → s.meas ch.val = 1 → t.getF F.OCT_TDCDISC_DISC (chIx ch.val) =
      (s.getF F.OCT_TDCDISC_DISC (chIx ch.val) + 1) % 2 ^ F.OCT_TDCDISC_DISC.width) ∧
    ChanOnly ch.val (keysAt (chIx ch.val) [F.OCT_TDCSTAT_DLLLOCK, F.OCT_TDCSTAT_DLLUL, F.OCT_TDCDISC_DISC]) s t) ∧
  (∀ (level : Bool) (s : State), ∃ t, exec (.ocxoWarmChange level) s = .next t ∧ t.warm = level ∧
    (∀ c, c < 64 → t.getF F.OCT_TDCSTAT_WARMNOW (chIx c) = if level then 1 else 0) ∧
    { t with reg := s.reg, warm := s.warm } = s ∧ RegsBut ((List.range 64).map (fun c => F.OCT_TDCSTAT_WARMNOW.key (chIx c))) s t)

/-! ### Beats, commits and signatures (R235 to R255) -/

/-- COMMIT, COMMIT_FREEZE, GAP_APPLY, BEAT_START, PIN_SAMPLE and SIGNATURE_RESULT answer a next state: a commit request takes its gap
once (R242); at Z the shadows are frozen (R242); at the gap the frozen values go live, COMMIT clears and the beat is recorded, then class X
applies and is counted (R244, R245), and without beats an anchor starts them (R291); the next beat's number and start show (R237); a pin
sample reads idle below 15 mV (R251); a unit records its result, and a mismatch does what ACT says (R253, R255). -/
def Obligations.BeatsCommitAndJudge : Prop :=
(∀ (x : Fin 16) (s : State), s.hostFree x →
    (s.flag F.SITE_BCTL_COMMIT x.val = false → ∃ t, exec (.commit (.vf x) x) s = .next t ∧ t.getF F.SITE_BCTL_COMMIT x.val = 1 ∧
      (s.beatsRun x.val = true →
        t.getF F.SITE_BFPEND_F x.val = s.gapBeat x.val (s.localNow 11) % 2 ^ F.SITE_BFPEND_F.width) ∧
      SiteOnly x.val (keysAt x.val [F.SITE_BCTL_COMMIT, F.SITE_BFPEND_F]) s t) ∧
    (s.flag F.SITE_BCTL_COMMIT x.val = true → ∃ t, exec (.commit (.vf x) x) s = .next t ∧ SiteOnly x.val [] s t)) ∧
  (∀ (x : Fin 16) (s : State), s.flag F.SITE_BCTL_COMMIT x.val = true → s.beatsRun x.val = true →
    (s.siteOf x.val).frozen = none → ∃ t, exec (.commitFreeze x) s = .next t ∧
      (t.siteOf x.val).frozen = some (s.reg, s.getF F.SITE_BFPEND_F x.val) ∧ SiteOnly x.val [] s t) ∧
  (∀ (x : Fin 16) (s : State) (f : Nat), s.beatsRun x.val = true → f = ((s.sched x.val).f0 + 1) % 4294967296 →
    ∃ t, exec (.gapApply x) s = .next t ∧ t.bb = s.bb ∧ t.acqMem = s.acqMem ∧ t.dram = s.dram ∧ t.psbuf = s.psbuf ∧
      t.cstore = s.cstore ∧ t.mirror = s.mirror ∧ t.tstore = s.tstore ∧
      (∀ m, (s.siteOf x.val).frozen = some (m, f) → t.getF F.SITE_BCTL_COMMIT x.val = 0 ∧ t.getF F.SITE_BFAPP_F x.val = f ∧
        t.getF F.SITE_BFCNT_CNT x.val = (s.getF F.SITE_BFCNT_CNT x.val + 1) % 2 ^ F.SITE_BFCNT_CNT.width ∧
        (t.siteOf x.val).frozen = none) ∧
      ((∀ m, (s.siteOf x.val).frozen ≠ some (m, f)) →
        t.getF F.SITE_BCTL_COMMIT x.val = s.getF F.SITE_BCTL_COMMIT x.val ∧
        t.getF F.SITE_BFAPP_F x.val = s.getF F.SITE_BFAPP_F x.val) ∧
      (s.dueX x.val f ≠ [] → t.getF F.SITE_BXAPP_F x.val = f ∧ t.getF F.SAF_LASTF_F x.val = f) ∧
      t.getF F.SAF_APPCNT_CNT x.val = (s.getF F.SAF_APPCNT_CNT x.val + (s.dueX x.val f).length) % 2 ^ F.SAF_APPCNT_CNT.width) ∧
  (∀ (x : Fin 16) (s : State), s.beatsRun x.val = false →
    ((s.safOf x.val).startX x.val = none → exec (.gapApply x) s = .next s) ∧
    (∀ f, (s.safOf x.val).startX x.val = some f → ∃ t, exec (.gapApply x) s = .next t ∧ t.bb = s.bb ∧ t.acqMem = s.acqMem ∧
      t.dram = s.dram ∧ t.psbuf = s.psbuf ∧ t.cstore = s.cstore ∧ t.mirror = s.mirror ∧ t.tstore = s.tstore ∧
      (s.dueX x.val f ≠ [] → t.getF F.SITE_BXAPP_F x.val = f % 4294967296 ∧ t.getF F.SAF_LASTF_F x.val = f % 4294967296) ∧
      (∀ p ∈ s.dueX x.val f, (p.1.anchor x.val).isSome = true → t.getF F.SITE_BSTAT_RUN x.val = 1) ∧
      t.getF F.SAF_APPCNT_CNT x.val = (s.getF F.SAF_APPCNT_CNT x.val + (s.dueX x.val f).length) % 2 ^ F.SAF_APPCNT_CNT.width)) ∧
  (∀ (x : Fin 16) (s : State), s.beatsRun x.val = true → ∃ t, exec (.beatStart x) s = .next t ∧
    t.getF F.SITE_BNOW_BNOW x.val = (s.getF F.SITE_BNOW_BNOW x.val + 1) % 4294967296 ∧
    t.getF F.SITE_BSTART_BSTART x.val = (s.siteOf x.val).nextB % 2 ^ F.SITE_BSTART_BSTART.width ∧
    (t.siteOf x.val).bStart = (s.siteOf x.val).nextB ∧
    (t.siteOf x.val).nextB = (s.siteOf x.val).nextB + s.getF F.SITE_BLEN_BLEN x.val ∧
    { t with reg := s.reg, eng := s.eng, chan := s.chan, site := s.site, sumac := s.sumac } = s ∧
    RegsBut (keysAt x.val [F.SITE_BNOW_BNOW, F.SITE_BSTART_BSTART]) s t) ∧
  (∀ (ch : Fin 64) (uv : Int) (s : State) (p : Nat × Nat × Nat × Time),
    best (fun (a b : Nat × Nat × Nat × Time) => decide (a.2.2.2 < b.2.2.2)) (s.chanOf ch.val).pinDue = some p →
    ∃ t v, exec (.pinSample ch uv) s = .next t ∧ (t.chanOf ch.val).pinDue = (s.chanOf ch.val).pinDue.filter (fun q => q != p) ∧
      (t.chanOf ch.val).pins = (s.chanOf ch.val).pins ++ [(p.1, p.2.1, p.2.2.1, v)] ∧ (t.chanOf ch.val).pinLast = v ∧
      (uv.natAbs < 15000 → v = 2) ∧ (25000 < uv.natAbs → v = if 0 < uv then 1 else 0) ∧
      (v = 2 ∨ v = if 0 < uv then 1 else 0) ∧ { t with chan := s.chan, free := s.free } = s ∧
      ∀ k, k ≠ ch.val → t.chanOf k = s.chanOf k) ∧
  (∀ (ch : Fin 64) (uv : Int) (s : State), (s.chanOf ch.val).pinDue = [] → exec (.pinSample ch uv) s = .next s) ∧
  (∀ (x : Fin 16) (u : Fin 8) (s : State), (∀ r ∈ (s.siteOf x.val).sgRun, r.2.1 ≠ u.val) →
    exec (.signatureResult x u) s = .next s) ∧
  (∀ (x : Fin 16) (u : Fin 8) (s : State) (r : Nat × Nat × List Nat) (rest : List (Nat × Nat × List Nat)),
    takeFirst (fun (p : Nat × Nat × List Nat) => p.2.1 == u.val) (s.siteOf x.val).sgRun = some (r, rest) →
    ∃ t j sig, s.sigJudge x.val r.1 r.2.2 = (j, sig) ∧ exec (.signatureResult x u) s = .next t ∧
      t.getF F.SITE_SGRES_SIG (sgIx x.val u.val) = (if j ≤ 1 then sig % 4294967296 else 0) ∧
      t.getF F.SITE_SGRST_STATUS (sgIx x.val u.val) = j % 2 ^ F.SITE_SGRST_STATUS.width ∧
      t.getF F.SITE_SGRST_VALID (sgIx x.val u.val) = 1 ∧ t.getF F.SITE_SGRBEAT_BEAT (sgIx x.val u.val) = r.1 % 4294967296 ∧
      (t.siteOf x.val).sgRun = rest ∧ s.sameMems t ∧
      (j ≠ 1 → SiteOnly x.val (keysAt (sgIx x.val u.val)
        [F.SITE_SGRES_SIG, F.SITE_SGRST_STATUS, F.SITE_SGRST_VALID, F.SITE_SGRBEAT_BEAT]) s t) ∧
      (j = 1 → t.getF F.SITE_SGRST_MM (sgIx x.val u.val) = 1 ∧ t.getF F.SITE_BSTAT_SGMM x.val = 1 ∧
        t.getF F.SITE_SGMMCNT_CNT (sgIx x.val u.val) =
          (s.getF F.SITE_SGMMCNT_CNT (sgIx x.val u.val) + 1) % 2 ^ F.SITE_SGMMCNT_CNT.width ∧
        (r.2.2.getD 1 0 = 2 → hasBit (t.getF F.FLT_SSRC_STK x.val) 6 = true)))

/-! ### The dispatcher (R256 to R272) -/

/-- ITEM_ARRIVE, ENGINE_BIND, BURST_START and RECORD_RELEASE answer a next state: items arrive (R257, R258, R261), are bound to the best
candidate of a free engine (R263), start with their parameters (R85), and release their records in order (R268); with no entry free a fabric
item waits (R261), and one of another epoch is NACKed STALE (R313).
DSP_STOP, DSP_UNSTOP and WHIST_CLEAR answer a next state: STOP from PF0 or from the site's VF acts with RESET and STOP before other orders: what waits is cancelled, what is suspended
completes, what runs is told to end, and with nothing left it is over at once; STOP = 0 admits again; the wait histogram is zeroed by the
site's VF (R270, R271, R334). -/
def Obligations.ItemsThroughDispatcher : Prop :=
  ((∀ (x : Fin 16) (src : Fin 3) (chip : Sender) (desc : List Nat) (s : State) (i : Item), s.present x.val = true →
    (src.val = 1 → chip.epoch = s.epochNow x.val) → s.entryFree x.val = true → s.postWaits x.val = false → (src.val ≠ 0 → (s.siteOf x.val).fabItems = []) →
    i = s.newItem x.val src.val (descWords desc) →
    (s.rejectReason i = 0 → s.flag F.DSP_SCTL_STOP x.val = false → ∃ t, exec (.itemArrive x src chip desc) s = .next t ∧
      t.ready.map (fun j => j.serial) =
        (insertBefore (fun j => (s.laterSrc x.val src.val).contains j.serial) i s.ready).map (fun j => j.serial) ∧
      t.getF F.DSP_SQ_QUSED x.val = (s.getF F.DSP_SQ_QUSED x.val + 1) % 2 ^ F.DSP_SQ_QUSED.width ∧ t.eng = s.eng ∧ s.sameMems t ∧
      (i.prio < 7 → (∀ j ∈ s.ready, j.prio < 7) →
        t.ready = insertBefore (fun j => (s.laterSrc x.val src.val).contains j.serial) i s.ready ∧
        t.getF F.DSP_QDEPTH_DEPTH (x.val * 8 + i.prio) =
          (s.getF F.DSP_QDEPTH_DEPTH (x.val * 8 + i.prio) + 1) % 2 ^ F.DSP_QDEPTH_DEPTH.width)) ∧
    (s.rejectReason i = 0 → s.flag F.DSP_SCTL_STOP x.val = true → ∃ t, exec (.itemArrive x src chip desc) s = .next t ∧
      t.ready = s.ready ∧ (t.siteOf x.val).recs.length = (s.siteOf x.val).recs.length + 1 ∧ t.eng = s.eng ∧ s.sameMems t) ∧
    (s.rejectReason i ≠ 0 → ∃ t, exec (.itemArrive x src chip desc) s = .next t ∧ t.ready = s.ready ∧
      t.getF F.DSP_SQ_QUSED x.val = s.getF F.DSP_SQ_QUSED x.val ∧ t.getF F.DSP_SSTAT_REJ x.val = 1 ∧
      t.getF F.DSP_SREJCNT_CNT x.val = (s.getF F.DSP_SREJCNT_CNT x.val + 1) % 2 ^ F.DSP_SREJCNT_CNT.width ∧
      (t.siteOf x.val).recs.length = (s.siteOf x.val).recs.length + 1 ∧ t.eng = s.eng ∧ s.sameMems t)) ∧
  (∀ (x : Fin 16) (chip : Sender) (desc : List Nat) (s : State), s.present x.val = true → chip.epoch ≠ s.epochNow x.val →
    exec (.itemArrive x 1 chip desc) s = .next (s.sendSite x.val chip.chip (.nackStale 0 false))) ∧
  (∀ (x : Fin 16) (chip : Sender) (desc : List Nat) (s : State), s.present x.val = true →
    s.entryFree x.val = false ∨ s.postWaits x.val = true →
    (chip.epoch = s.epochNow x.val → ∃ t, exec (.itemArrive x 1 chip desc) s = .next t ∧
      (t.siteOf x.val).fabItems = (s.siteOf x.val).fabItems ++ [(chip.chip, descWords desc)] ∧ SiteOnly x.val [] s t) ∧
    exec (.itemArrive x 0 chip desc) s = .next s ∧ exec (.itemArrive x 2 chip desc) s = .next s) ∧
  (∀ (e : Fin 16) (s : State),
    (∀ i, best (if (s.quotaSite e.val).isSome then earlier else earlierLent) (s.ready.filter (fun i => s.candidate e.val i)) = some i →
      ∃ t, exec (.engineBind e) s = .next t ∧ t = (s.bindTo i e.val).preempt ∧
        { t with reg := s.reg, ready := s.ready, boot := s.boot } = s ∧
        t.ready.map (fun j => j.serial) = s.ready.map (fun j => j.serial) ∧
        ((∀ j ∈ s.ready, j.prio < 7) → t.ready = bindItem s.ready i.serial e.val) ∧
        ((∀ j ∈ s.ready, j.prio < 7) → s.boot.power ≠ some 1 → t.boot = s.boot ∧ RegsBut [F.DSP_QDEPTH_DEPTH.key (i.site * 8 + i.prio),
          F.DSP_WHIST_CNT.key (i.site * 16 + waitBin (s.nowNs - i.arrNs))] s t) ∧
        ((∀ j ∈ s.ready, j.prio < 7) → s.boot.power = some 1 → t.boot.power = none ∧ t.getF F.GLB_PWRSTAT_PWR_REJ 0 = 1)) ∧
    (best (if (s.quotaSite e.val).isSome then earlier else earlierLent) (s.ready.filter (fun i => s.candidate e.val i)) = none →
      exec (.engineBind e) s = .next s)) ∧
  (∀ (e : Fin 16) (tm : Time) (s : State) (i : Item), s.ready.find? (fun j => j.bound == some e.val) = some i →
    (s.engOf e.val).item = none → (s.engOf e.val).suspending = false → (s.engOf e.val).restoring = false →
    (s.engOf e.val).training = false → s.engState e.val = 0 → s.siteReady i.site = true →
    ∃ t, exec (.burstStart e tm) s = .next t ∧ (t.engOf e.val).item = some i ∧ (t.engOf e.val).started = true ∧
      (t.engOf e.val).nextPc = i.entry ∧ (t.engOf e.val).nextS =
        s.gridFrom i.site (s.groupOf i.site (s.store e.val i.entry % 2 ^ 192)) (tm + Time.ofNs 80) ∧
      t.getF F.SE_STATE_STATE e.val = 1 ∧ t.getF F.SE_STATE_PC e.val = i.entry % 2 ^ F.SE_STATE_PC.width ∧
      t.getF F.SE_STATE_SITE e.val = i.site % 2 ^ F.SE_STATE_SITE.width ∧
      (∀ k, k < 8 → t.getF F.SE_PAR_PAR (e.val * 8 + k) = i.w (4 + k) % 4294967296) ∧
      (∀ k, k < 4 → t.getF F.SE_LC_LC (e.val * 4 + k) = 0) ∧ t.getF F.SE_SP_SP e.val = 0 ∧
      (∀ k, k ≠ e.val → t.engOf k = s.engOf k) ∧ s.sameMems t) ∧
  (∀ (x : Fin 16) (s : State) (r : Rec) (rest : List Rec), s.ringRoom x.val = true →
    (s.siteOf x.val).nextRec = some (r, rest) → ∃ t, exec (.recordRelease x) s = .next t ∧
      (t.siteOf x.val).released = (s.siteOf x.val).released ++ [r.words] ∧ s.sameMems t ∧
      ((r.final && r.holds) = false → (t.siteOf x.val).recs = rest ∧ SiteOnly x.val [] s t) ∧
      ((r.final && r.holds) = true → (s.siteOf x.val).fabItems = [] → s.boot.auto = [] → (t.siteOf x.val).recs = rest ∧
        t.getF F.DSP_SQ_QUSED x.val = (s.getF F.DSP_SQ_QUSED x.val - 1) % 2 ^ F.DSP_SQ_QUSED.width ∧
        SiteOnly x.val (keysAt x.val [F.DSP_SQ_QUSED, F.DSP_SSTAT_BP]) s t)) ∧
  (∀ (x : Fin 16) (s : State), s.ringRoom x.val = false ∨ (s.siteOf x.val).nextRec = none →
    exec (.recordRelease x) s = .next s)) ∧
  ((∀ (x : Fin 16) (fn : Fn) (s : State), s.noOrders x.val → fn = .pf0 ∨ fn = .vf x ∧ s.vfLive fn = true →
    ∃ t, exec (.dspStop fn x) s = .next t ∧ t.getF F.DSP_SCTL_STOP x.val = 1 ∧ (∀ j ∈ t.ready, j.site ≠ x.val) ∧
      (∀ e, e < 16 → (s.engOf e).post = none →
        (∀ i, (s.engOf e).item = some i → i.site = x.val → (t.engOf e).stopReq = true ∧ (t.engOf e).item = some i) ∧
        (∀ v, (s.engOf e).saved = some v → v.item.site = x.val → (t.engOf e).saved = none)) ∧
      (s.postWaits x.val = false → (∀ j ∈ s.ready, j.site ≠ x.val) →
        (∀ e, e < 16 → (∀ i, (s.engOf e).item = some i → i.site ≠ x.val) ∧ ∀ v, (s.engOf e).saved = some v → v.item.site ≠ x.val) →
        t.getF F.DSP_SSTAT_STOPPED x.val = 0) ∧ s.sameMems t) ∧
  (∀ (x : Fin 16) (fn : Fn) (s : State), s.noOrders x.val → fn = .pf0 ∨ fn = .vf x ∧ s.vfLive fn = true →
    ∃ t, exec (.dspUnstop fn x) s = .next t ∧
    t.getF F.DSP_SCTL_STOP x.val = 0 ∧ SiteOnly x.val [F.DSP_SCTL_STOP.key x.val] s t) ∧
  (∀ (x : Fin 16) (s : State) (o : Order), (s.siteOf x.val).orders = [o] → o.ns = s.nowNs → o.rank = 0 → o.src = 2 →
    o.addr ≠ R.DSP_SCTL.addr x.val →
    ∃ t, exec (.dspUnstop .pf0 x) s = .next t ∧ t.getF F.SITE_SSTAT_CONFLICT x.val = 1 ∧
      t.getF F.DSP_SCTL_STOP x.val = s.getF F.DSP_SCTL_STOP x.val ∧
      t.getF F.SITE_SCFLN_CNT x.val = (s.getF F.SITE_SCFLN_CNT x.val + 1) % 2 ^ F.SITE_SCFLN_CNT.width ∧
      t.getF F.SITE_SCFLA_ADDR x.val = R.DSP_SCTL.addr x.val % 4294967296) ∧
  (∀ (x : Fin 16) (s : State), s.hostFree x → ∃ t, exec (.whistClear (.vf x) x) s = .next t ∧
    (∀ b, b < 16 → t.getF F.DSP_WHIST_CNT (x.val * 16 + b) = 0) ∧
    SiteOnly x.val ((List.range 16).map (fun b => F.DSP_WHIST_CNT.key (x.val * 16 + b))) s t))

/-! ### Saffron (R282 to R294) -/

/-- The host's writes on the leader and on a member: OPEN, staging, PREPARE, ABORT and RESOLVE. -/
def Obligations.SaffronHost : Prop :=
(∀ (x : Fin 16) (s : State), s.hostFree x →
    (s.isLeader x.val = true → (s.safOf x.val).opn = none → ∃ t, exec (.safOpen (.vf x) x) s = .next t ∧
      t.safOf x.val = { s.safOf x.val with opn := some { txid := (s.safOf x.val).nextTx },
                                           nextTx := ((s.safOf x.val).nextTx + 1) % 65536 } ∧
      t.getF F.SAF_OPEN_TXID x.val = (s.safOf x.val).nextTx % 2 ^ F.SAF_OPEN_TXID.width ∧ t.getF F.SAF_OPEN_STATE x.val = 1 ∧
      t.getF F.SAF_STGN_N x.val = 0 ∧ t.getF F.SAF_SWAP_MASK x.val = 0 ∧ s.sameMems t) ∧
    (s.isLeader x.val = false → ∃ t, exec (.safOpen (.vf x) x) s = .next t ∧
      t.getF F.SAF_STAT_CTL_REJ x.val = 1 ∧ t.safOf x.val = s.safOf x.val ∧ SiteOnly x.val [F.SAF_STAT_CTL_REJ.key x.val] s t) ∧
    (s.isLeader x.val = true → (s.safOf x.val).opn.isSome = true → ∃ t, exec (.safOpen (.vf x) x) s = .next t ∧
      t.getF F.SAF_STAT_CTL_REJ x.val = 1 ∧ (t.safOf x.val).opn = (s.safOf x.val).opn ∧
      (t.safOf x.val).nextTx = (s.safOf x.val).nextTx ∧ SiteOnly x.val [F.SAF_STAT_CTL_REJ.key x.val] s t)) ∧
  (∀ (x : Fin 16) (data : Nat) (s : State), s.hostFree x →
    (∀ b, (s.safOf x.val).opn = some b → s.stageable x.val (s.getF F.SAF_STGA_ADDR x.val) = true → b.writes.length < 1024 →
      ∃ t, exec (.safStage (.vf x) x data) s = .next t ∧
        t.safOf x.val = { s.safOf x.val with
                          opn := some { b with writes := b.writes ++ [(s.getF F.SAF_STGA_ADDR x.val, data % 4294967296)] } } ∧
        t.getF F.SAF_STGD_DATA x.val = data % 4294967296 ∧
        t.getF F.SAF_STGN_N x.val = (b.writes.length + 1) % 2 ^ F.SAF_STGN_N.width ∧ s.sameMems t) ∧
    ((s.safOf x.val).opn = none ∨ s.stageable x.val (s.getF F.SAF_STGA_ADDR x.val) = false ∨
        (∀ b, (s.safOf x.val).opn = some b → 1024 ≤ b.writes.length) →
      ∃ t, exec (.safStage (.vf x) x data) s = .next t ∧ t.getF F.SAF_STAT_STG_REJ x.val = 1 ∧ t.safOf x.val = s.safOf x.val ∧
        SiteOnly x.val (keysAt x.val [F.SAF_STGD_DATA, F.SAF_STAT_STG_REJ]) s t)) ∧
  (∀ (x : Fin 16) (s : State), s.hostFree x → (s.isLeader x.val = false ∨ (s.safOf x.val).opn = none) →
    ∃ t, exec (.safPrepare (.vf x) x) s = .next t ∧ t.getF F.SAF_STAT_CTL_REJ x.val = 1 ∧ t.safOf x.val = s.safOf x.val ∧
      SiteOnly x.val [F.SAF_STAT_CTL_REJ.key x.val] s t) ∧
  (∀ (x : Fin 16) (s : State) (b : SafBuf), s.hostFree x → s.isLeader x.val = true → (s.safOf x.val).opn = some b →
    (∀ n old, (s.safOf x.val).openRej = some (n, old) → n ≠ s.nowNs) →
    (∀ f, (s.safOf x.val).run = none → s.safLapsing x.val = false → s.voteOn x.val (s.leaveOpen x.val b) = 0 →
      s.safTarget x.val (s.getF F.SAF_TGT_F x.val) (s.leaveOpen x.val b) = some f → s.lOver x.val f b = true →
      s.lOver x.val ((f + 1) % 4294967296) b = false → (∀ c ∈ s.peersOf x.val, (s.peer c).isSome = true) →
      (∀ c ∈ s.members x.val, c = s.chipNo) → ∃ t, exec (.safPrepare (.vf x) x) s = .next t ∧ t.getF F.SAF_RUN_STATE x.val = 6 ∧
        (t.safOf x.val).run = some { b with swap := s.getF F.SAF_SWAP_MASK x.val, frozen := true, prepared := true,
                                            target := (f + 1) % 4294967296, held := true, deferred := true } ∧ s.sameMems t) ∧
    (∀ f, (s.safOf x.val).run = none → s.safLapsing x.val = false → s.voteOn x.val (s.leaveOpen x.val b) = 0 →
      s.safTarget x.val (s.getF F.SAF_TGT_F x.val) (s.leaveOpen x.val b) = some f → s.lOver x.val f b = false →
      (∀ c ∈ s.peersOf x.val, (s.peer c).isSome = true) → ∃ t, exec (.safPrepare (.vf x) x) s = .next t ∧
        (t.safOf x.val).opn = none ∧ t.getF F.SAF_RUN_TXID x.val = b.txid % 2 ^ F.SAF_RUN_TXID.width ∧ s.sameMems t ∧
        ((∀ c ∈ s.members x.val, c = s.chipNo) → t.getF F.SAF_RUN_STATE x.val = 6 ∧
          (t.safOf x.val).run = some { b with swap := s.getF F.SAF_SWAP_MASK x.val, frozen := true, prepared := true, target := f,
                                              held := true, deferred := false }) ∧
        ((∃ c ∈ s.members x.val, c ≠ s.chipNo) →
          (t.safOf x.val).lead = some { txid := b.txid, beat := f, yes := [s.chipNo] } ∧
          (t.safOf x.val).run = some { b with swap := s.getF F.SAF_SWAP_MASK x.val, frozen := true, prepared := true, target := f })) ∧
    ((s.safOf x.val).run = none → s.safLapsing x.val = false →
      s.safTarget x.val (s.getF F.SAF_TGT_F x.val) (s.leaveOpen x.val b) = none →
      ∃ t, exec (.safPrepare (.vf x) x) s = .next t ∧ (t.safOf x.val).opn = none ∧ (t.safOf x.val).run = none ∧
        t.getF F.SAF_LAST_TXID x.val = b.txid % 2 ^ F.SAF_LAST_TXID.width ∧ t.getF F.SAF_LAST_OUTCOME x.val = 7 ∧ s.sameMems t) ∧
    ((s.safOf x.val).run.isSome = true ∨ s.safLapsing x.val = true → (s.safOf x.val).que = none → ∃ t, exec (.safPrepare (.vf x) x) s = .next t ∧
      t.safOf x.val = { s.safOf x.val with opn := none, que := some { b with swap := s.getF F.SAF_SWAP_MASK x.val },
                                           leadQue := some (b.txid, s.getF F.SAF_TGT_F x.val) } ∧
      t.getF F.SAF_QUE_TXID x.val = b.txid % 2 ^ F.SAF_QUE_TXID.width ∧ s.sameMems t) ∧
    (∀ q, (s.safOf x.val).run.isSome = true ∨ s.safLapsing x.val = true → (s.safOf x.val).que = some q → ∃ t, exec (.safPrepare (.vf x) x) s = .next t ∧
      (t.safOf x.val).opn = none ∧ (t.safOf x.val).que = some { b with swap := s.getF F.SAF_SWAP_MASK x.val } ∧
      t.getF F.SAF_LAST_TXID x.val = q.txid % 2 ^ F.SAF_LAST_TXID.width ∧ t.getF F.SAF_LAST_OUTCOME x.val = 6 ∧
      t.getF F.SAF_STAT_SUPERSEDED x.val = 1 ∧ s.sameMems t)) ∧
  (∀ (x : Fin 16) (s : State), s.hostFree x →
    (s.isLeader x.val = false → ∃ t, exec (.safAbort (.vf x) x) s = .next t ∧ t.getF F.SAF_STAT_CTL_REJ x.val = 1 ∧
      t.safOf x.val = s.safOf x.val ∧ SiteOnly x.val [F.SAF_STAT_CTL_REJ.key x.val] s t) ∧
    (s.isLeader x.val = true → ∃ t, exec (.safAbort (.vf x) x) s = .next t ∧ (t.safOf x.val).opn = none ∧
      (t.safOf x.val).que = none ∧ s.sameMems t ∧
      (∀ b, (s.safOf x.val).opn = some b → (s.safOf x.val).que = none → (s.safOf x.val).lead = none →
        t.getF F.SAF_LAST_TXID x.val = b.txid % 2 ^ F.SAF_LAST_TXID.width ∧ t.getF F.SAF_LAST_OUTCOME x.val = 5 ∧
        t.getF F.SAF_STAT_ABORTED x.val = 1) ∧
      (∀ l, (s.safOf x.val).lead = some l → l.decided = false → (t.safOf x.val).run = none ∧ (t.safOf x.val).lead = none ∧
        t.getF F.SAF_LAST_TXID x.val = l.txid % 2 ^ F.SAF_LAST_TXID.width ∧ t.getF F.SAF_LAST_OUTCOME x.val = 5) ∧
      (∀ l, (s.safOf x.val).lead = some l → l.decided = true → l.ns ≠ s.nowNs → (t.safOf x.val).run = (s.safOf x.val).run ∧
        (t.safOf x.val).lead = some l) ∧
      (∀ l, (s.safOf x.val).lead = some l → l.decided = true → l.ns = s.nowNs → (t.safOf x.val).run = none ∧
        (t.safOf x.val).lead = none ∧ t.getF F.SAF_LAST_TXID x.val = l.txid % 2 ^ F.SAF_LAST_TXID.width ∧
        t.getF F.SAF_LAST_OUTCOME x.val = 5))) ∧
  (∀ (x : Fin 16) (txid : Nat) (s : State) (b : SafBuf), s.hostFree x →
    (s.safOf x.val).dbt.find? (fun q => q.txid == txid % 65536) = some b → b.resolved = false →
    (∃ t, exec (.safResolveCommit (.vf x) x txid) s = .next t ∧
      (t.safOf x.val).dbt = (s.safOf x.val).dbt.map (fun q =>
        if q.txid = txid % 65536 then { q with resolved := true, target := s.nextGap x.val b } else q) ∧
      t.getF F.SAF_RESOLVE_TXID x.val = txid % 65536 ∧ s.sameMems t) ∧
    (∃ t, exec (.safResolveAbort (.vf x) x txid) s = .next t ∧
      (t.safOf x.val).dbt = (s.safOf x.val).dbt.filter (fun q => q.txid != txid % 65536) ∧
      t.getF F.SAF_LAST_OUTCOME x.val = 9 ∧ t.getF F.SAF_RESOLVE_TXID x.val = txid % 65536 ∧ s.sameMems t ∧
      ((∀ q ∈ (s.safOf x.val).dbt, q.txid = txid % 65536) → t.getF F.SAF_STAT_INDOUBT x.val = 0)))

/-- A member of a transaction: OPEN, PREPARE and its vote, DEFER, COMMIT, ABORT, the participant deadline, QUERY and OUTCOME. -/
def Obligations.SaffronMember : Prop :=
(∀ (x : Fin 16) (epoch txid : Nat) (s : State), s.memberOf x epoch →
    ((s.safOf x.val).opn = none → ∃ t, exec (.openReceive x epoch txid) s = .next t ∧
      t.safOf x.val = { s.safOf x.val with opn := some { txid := txid } } ∧
      t.getF F.SAF_OPEN_TXID x.val = txid % 2 ^ F.SAF_OPEN_TXID.width ∧ t.getF F.SAF_SWAP_MASK x.val = 0 ∧ s.sameMems t) ∧
    (∀ b, (s.safOf x.val).opn = some b → ∃ t, exec (.openReceive x epoch txid) s = .next t ∧
      (t.safOf x.val).opn = some { txid := txid } ∧ (t.safOf x.val).que = some { b with swap := s.getF F.SAF_SWAP_MASK x.val } ∧
      (∀ q, (s.safOf x.val).que = some q → t.getF F.SAF_LAST_TXID x.val = q.txid % 2 ^ F.SAF_LAST_TXID.width ∧
        t.getF F.SAF_LAST_OUTCOME x.val = 6) ∧ s.sameMems t)) ∧
  (∀ (x : Fin 16) (epoch txid beat : Nat) (s : State), s.memberOf x epoch →
    (∀ b, s.prepBuf x.val txid = some b → (s.safOf x.val).run = none → ∃ t, exec (.prepareReceive x epoch txid beat) s = .next t ∧
      (t.safOf x.val).run = some { b with frozen := true, prepared := s.voteOn x.val b == 0, target := beat } ∧ s.sameMems t) ∧
    (∀ b r, s.prepBuf x.val txid = some b → (s.safOf x.val).run = some r → r.prepared = true →
      ∃ t, exec (.prepareReceive x epoch txid beat) s = .next t ∧ (t.safOf x.val).prior = (s.safOf x.val).prior ++ [r] ∧
        (t.safOf x.val).run = some { b with frozen := true, prepared := s.voteOn x.val b == 0, target := beat } ∧ s.sameMems t) ∧
    (∀ b r, s.prepBuf x.val txid = some b → (s.safOf x.val).run = some r → r.prepared = false →
      ∃ t, exec (.prepareReceive x epoch txid beat) s = .next t ∧
        (t.safOf x.val).run = some { b with frozen := true, prepared := s.voteOn x.val b == 0, target := beat } ∧
        t.getF F.SAF_LAST_TXID x.val = r.txid % 2 ^ F.SAF_LAST_TXID.width ∧ t.getF F.SAF_LAST_OUTCOME x.val = 4 ∧ s.sameMems t) ∧
    (s.prepBuf x.val txid = none → ∃ u : State, exec (.prepareReceive x epoch txid beat) s =
        .next (u.sendSite x.val (s.leader x.val) (.vote txid 6)) ∧ SiteOnly x.val [] s u ∧ u.safOf x.val = s.safOf x.val)) ∧
  (∀ (x : Fin 16) (epoch txid beat : Nat) (s : State) (b : SafBuf), s.memberOf x epoch → (s.safOf x.val).begunOf txid = some b →
    (b.prepared = true → b.held = false →
      (∃ t, exec (.deferReceive x epoch txid beat) s = .next t ∧
        t.safOf x.val = (s.safOf x.val).modBegun txid (fun b => { b with target := beat, deferred := true }) ∧
        (∀ r, (s.safOf x.val).run = some r → r.txid = txid → t.getF F.SAF_RTGT_F x.val = beat % 4294967296) ∧ s.sameMems t) ∧
      (∃ t, exec (.commitReceive x epoch txid beat) s = .next t ∧
        t.safOf x.val = (s.safOf x.val).modBegun txid (fun b => { b with
          held := true, deferred := b.deferred || b.target != beat, target := beat }) ∧
        (∀ r, (s.safOf x.val).run = some r → r.txid = txid → t.getF F.SAF_RUN_STATE x.val = 6) ∧ s.sameMems t)) ∧
    (b.prepared = false ∨ b.held = true →
      (∃ t, exec (.deferReceive x epoch txid beat) s = .next t ∧ t.safOf x.val = s.safOf x.val ∧ SiteOnly x.val [] s t) ∧
      (∃ t, exec (.commitReceive x epoch txid beat) s = .next t ∧ t.safOf x.val = s.safOf x.val ∧ SiteOnly x.val [] s t))) ∧
  (∀ (x : Fin 16) (epoch txid outcome : Nat) (s : State) (b : SafBuf), s.memberOf x epoch →
    (∀ q ∈ (s.safOf x.val).dbt, q.txid ≠ txid) → (s.safOf x.val).buf txid = some b →
    (b.held = false → ∃ t, exec (.abortReceive x epoch txid outcome) s = .next t ∧ (t.safOf x.val).buf txid = none ∧
      t.getF F.SAF_LAST_TXID x.val = txid % 2 ^ F.SAF_LAST_TXID.width ∧ t.getF F.SAF_LAST_OUTCOME x.val = outcome % 16 ∧
      s.sameMems t) ∧
    (b.held = true → ∃ t, exec (.abortReceive x epoch txid outcome) s = .next t ∧ t.safOf x.val = s.safOf x.val ∧
      SiteOnly x.val [] s t)) ∧
  (∀ (x : Fin 16) (s : State), s.isLeader x.val = false →
    (∀ b, (s.safOf x.val).begun.find? (fun b => s.expired x.val b) = some b →
      (b.prepared = true → ∃ t, exec (.participantDeadline x) s = .next t ∧
        t.safOf x.val = { (s.safOf x.val).endBegun b.txid with dbt := (s.safOf x.val).dbt ++ [b] } ∧
        t.getF F.SAF_STAT_INDOUBT x.val = 1 ∧ s.sameMems t) ∧
      (b.prepared = false → ∃ t, exec (.participantDeadline x) s = .next t ∧ (t.safOf x.val).buf b.txid = none ∧
        t.getF F.SAF_LAST_TXID x.val = b.txid % 2 ^ F.SAF_LAST_TXID.width ∧ t.getF F.SAF_LAST_OUTCOME x.val = 4 ∧ s.sameMems t)) ∧
    (∀ b, (s.safOf x.val).begun = [] → (s.safOf x.val).que = some b ∨ (s.safOf x.val).que = none ∧ (s.safOf x.val).opn = some b →
      ∃ t, exec (.participantDeadline x) s = .next t ∧ (t.safOf x.val).buf b.txid = none ∧
        t.getF F.SAF_LAST_TXID x.val = b.txid % 2 ^ F.SAF_LAST_TXID.width ∧ t.getF F.SAF_LAST_OUTCOME x.val = 4 ∧ s.sameMems t)) ∧
  (∀ (x : Fin 16) (s : State), s.isLeader x.val = true ∨
      (s.safOf x.val).begun ≠ [] ∧ (∀ b ∈ (s.safOf x.val).begun, b.held = true ∨ (∃ n, s.deadline x.val b = some n ∧ (s.nowNs : Int) < n) ∨
        s.settledNow x.val b = true) → exec (.participantDeadline x) s = .next s) ∧
  (∀ (x : Fin 16) (s : State), ((s.peer (s.leader x.val)).isSome = true → exec (.querySend x) s =
      .next (((s.safOf x.val).dbt.filter (fun b => !b.resolved)).foldl
        (fun a b => a.sendSite x.val (s.leader x.val) (.query b.txid)) s)) ∧
    (s.peer (s.leader x.val) = none → exec (.querySend x) s = .next s)) ∧
  (∀ (x : Fin 16) (epoch txid beat : Nat) (s : State), s.memberOf x epoch →
    (∀ b, (s.safOf x.val).dbt.find? (fun q => q.txid == txid) = some b → b.resolved = false →
      (∃ t, exec (.outcomeReceive x epoch txid .committed beat) s = .next t ∧
        (t.safOf x.val).dbt = (s.safOf x.val).dbt.map (fun q =>
          if q.txid = txid then { q with resolved := true, target := s.nextGap x.val b } else q) ∧ s.sameMems t) ∧
      (∃ t, exec (.outcomeReceive x epoch txid .aborted beat) s = .next t ∧
        (t.safOf x.val).dbt = (s.safOf x.val).dbt.filter (fun q => q.txid != txid) ∧
        t.getF F.SAF_LAST_OUTCOME x.val = 9 ∧ s.sameMems t)) ∧
    (∃ t, exec (.outcomeReceive x epoch txid .unknown beat) s = .next t ∧ t.safOf x.val = s.safOf x.val ∧ SiteOnly x.val [] s t))

/-- The leader: a NO vote aborts with the chip and the reason, the last YES commits, incomplete votes defer once and then abort,
and a QUERY is answered from the record of outcomes; a NACK STALE is counted. -/
def Obligations.SaffronLeader : Prop :=
(∀ (x : Fin 16) (epoch txid chip reason : Nat) (s : State) (l : SafLead), s.leaderOf x epoch chip →
    (s.safOf x.val).lead = some l → l.decided = false → l.txid = txid → (s.safOf x.val).leadQue = none → s.lPast x.val l = false →
    (reason % 8 ≠ 0 → ∃ t, exec (.voteReceive x epoch txid chip reason) s = .next t ∧ (t.safOf x.val).run = none ∧
      (t.safOf x.val).lead = none ∧ t.getF F.SAF_LAST_TXID x.val = txid % 2 ^ F.SAF_LAST_TXID.width ∧
      t.getF F.SAF_LAST_OUTCOME x.val = 3 ∧ t.getF F.SAF_LAST_NOCHIP x.val = chip % 2 ^ F.SAF_LAST_NOCHIP.width ∧
      t.getF F.SAF_LAST_NOREASON x.val = reason % 8 ∧ s.sameMems t) ∧
    (∀ b, reason % 8 = 0 → (s.safOf x.val).run = some b →
      ((∀ c ∈ s.members x.val, c = chip ∨ c ∈ l.yes) →
          l.deferred = false ∨ l.ns ≠ s.nowNs ∨ s.lOver x.val (beatBack l.beat) b = true →
        ∃ t, exec (.voteReceive x epoch txid chip reason) s = .next t ∧
          (t.safOf x.val).run = some { b with held := true, target := l.beat, deferred := l.deferred } ∧
          (t.safOf x.val).last = ((txid, true, l.beat) :: (s.safOf x.val).last.filter (fun p => p.1 != txid)).take 8 ∧
          t.getF F.SAF_RUN_STATE x.val = 6 ∧ s.sameMems t) ∧
      ((∀ c ∈ s.members x.val, c = chip ∨ c ∈ l.yes) → l.deferred = true → l.ns = s.nowNs → s.lOver x.val (beatBack l.beat) b = false →
        ∃ t, exec (.voteReceive x epoch txid chip reason) s = .next t ∧
          (t.safOf x.val).run = some { b with
            held := true, target := beatBack l.beat, deferred := false } ∧
          t.getF F.SAF_RUN_STATE x.val = 6 ∧ s.sameMems t) ∧
      ((∃ c ∈ s.members x.val, c ≠ chip ∧ c ∉ l.yes) → ∃ t, exec (.voteReceive x epoch txid chip reason) s = .next t ∧
        t.safOf x.val = { s.safOf x.val with
          lead := some { l with yes := if l.yes.contains chip then l.yes else chip :: l.yes } } ∧ s.sameMems t))) ∧
  (∀ (x : Fin 16) (epoch txid chip reason : Nat) (s : State) (l : SafLead) (b : SafBuf), s.leaderOf x epoch chip →
    (s.safOf x.val).lead = some l → l.decided = false → l.txid = txid → (s.safOf x.val).run = some b → s.lOver x.val l.beat b = true →
    (l.deferred = true → (s.safOf x.val).leadQue = none → ∃ t, exec (.voteReceive x epoch txid chip reason) s = .next t ∧
      (t.safOf x.val).run = none ∧ (t.safOf x.val).lead = none ∧ t.getF F.SAF_LAST_OUTCOME x.val = 4 ∧ s.sameMems t) ∧
    (l.deferred = false → s.lOver x.val ((l.beat + 1) % 4294967296) b = false → reason % 8 = 0 → l.beat < 4294967296 →
      (∀ c ∈ s.members x.val, c = chip ∨ c ∈ l.yes) → ∃ t, exec (.voteReceive x epoch txid chip reason) s = .next t ∧
      (t.safOf x.val).run = some { b with held := true, target := (l.beat + 1) % 4294967296, deferred := true } ∧ s.sameMems t)) ∧
  (∀ (x : Fin 16) (s : State) (l : SafLead), (s.safOf x.val).lead = some l →
    (l.decided = true → exec (.decisionDeadline x) s = .next s) ∧
    (∀ b n, (s.safOf x.val).run = some b → s.lNs x.val l.beat b = some n → (s.nowNs : Int) < n →
      exec (.decisionDeadline x) s = .next s)) ∧
  (∀ (x : Fin 16) (s : State) (l : SafLead), (s.safOf x.val).lead = some l →
    (∀ b n, (s.safOf x.val).run = some b → s.lNs x.val l.beat b = some n → n ≤ (s.nowNs : Int)) →
    (l.decided = false → l.deferred = false → ∃ t, exec (.decisionDeadline x) s = .next t ∧
      (t.safOf x.val).lead = some { l with beat := (l.beat + 1) % 4294967296, deferred := true, ns := s.nowNs } ∧
      (t.safOf x.val).run = (s.safOf x.val).run.map (fun b =>
        { b with target := (l.beat + 1) % 4294967296, deferred := true }) ∧ s.sameMems t) ∧
    (l.decided = false → l.deferred = true → ∃ t, exec (.decisionDeadline x) s = .next t ∧
      (t.safOf x.val).run = none ∧ (t.safOf x.val).lead = none ∧ t.getF F.SAF_LAST_OUTCOME x.val = 4 ∧ s.sameMems t)) ∧
  (∀ (x : Fin 16) (epoch txid chip : Nat) (s : State), s.leaderOf x epoch chip →
    (∀ p, (s.safOf x.val).last.find? (fun p => p.1 == txid) = some p →
      ∃ u : State, exec (.queryReceive x epoch txid chip) s =
          .next (u.sendSite x.val chip (.outcome txid (if p.2.1 then .committed else .aborted) p.2.2)) ∧ SiteOnly x.val [] s u) ∧
    ((s.safOf x.val).last.find? (fun p => p.1 == txid) = none →
      ∃ u : State, exec (.queryReceive x epoch txid chip) s = .next (u.sendSite x.val chip (.outcome txid .unknown 0)) ∧
        SiteOnly x.val [] s u)) ∧
  (∀ (x : Fin 16) (chip txid : Nat) (prep : Bool) (s : State),
    ((s.safOf x.val).lead = none ∨ prep = false ∨ (∀ l, (s.safOf x.val).lead = some l → l.txid ≠ txid) →
      ∃ t, exec (.nackStaleReceive x chip txid prep) s = .next t ∧
        t.getF F.FAB_SSTALE_CNT x.val = (s.getF F.FAB_SSTALE_CNT x.val + 1) % 2 ^ F.FAB_SSTALE_CNT.width ∧
        RegsOnly [F.FAB_SSTALE_CNT.key x.val] s t) ∧
    (∀ l, (s.safOf x.val).lead = some l → l.txid = txid → l.decided = false → (s.safOf x.val).leadQue = none → s.lPast x.val l = false →
      ∃ t, exec (.nackStaleReceive x chip txid true) s = .next t ∧ (t.safOf x.val).run = none ∧ (t.safOf x.val).lead = none ∧
        t.getF F.SAF_LAST_OUTCOME x.val = 3 ∧ t.getF F.SAF_LAST_NOREASON x.val = 5 ∧ s.sameMems t)) ∧
  (∀ (x : Fin 16) (epoch txid : Nat) (s : State), s.present x.val = true → epoch ≠ s.getF F.FAB_SEPOCH_EPOCH x.val →
    exec (.openReceive x epoch txid) s = .next (s.sendSite x.val (s.leader x.val) (.nackStale txid false)))

/-! ### The fabric (R295 to R319) -/

/-- FLASH_CODE, FLASH_MATCH, FLASH_ABORT, FLASH_FAULT, FLASH_SYS, FLASH_RESERVED_FTYPE and SYS_FLASH_SEND: copies go on as they arrive; the voted word acts in its site when EPL matches; without a verdict, or with
another EPL, it is counted; a SYS word raises PF0 event 0, and its code 15 cancels a sleep that was voted; SEND starts one. -/
def Obligations.FlashWords : Prop :=
(∀ (p : Fin 12) (c : Copies) (s a : State) (w v x : Nat), s.portState p.val = 2 → s.blockLost p.val = false →
    copiesVote c = some w → v = w % 4294967296 → a = s.forwardCopies p.val c → a.siteBySsn (bits v 15 3) = some x →
    (a.epochNow x % 16 = bits v 26 23 →
      (bits v 2 0 = 0 → ∃ t, exec (.flashCode p c) s = .next t ∧ { t with eng := a.eng } = a ∧
        ∀ e i, e < 16 → (a.engOf e).item = some i → i.site = x → (t.engOf e).flash = bits v 19 16) ∧
      (bits v 2 0 = 1 → ∀ src, ∃ t, exec (.flashMatch p c src) s = .next t ∧
        (t.siteOf x).chipMatch = matchWord (a.siteOf x).chipMatch src (bits v 22 20) (bits v 17 16) ∧ SiteOnly x [] a t) ∧
      (bits v 2 0 = 2 → ∃ t, exec (.flashAbort p c) s = .next t ∧
        (∀ e, e < 16 → t.getF F.SE_EXCB_PFAB e = if (a.engOf e).site = x then 1 else a.getF F.SE_EXCB_PFAB e) ∧
        RegsOnly ((List.range 16).map F.SE_EXCB_PFAB.key) a t) ∧
      (bits v 2 0 = 3 → exec (.flashFault p c) s = .next (a.sourceOn x 8))) ∧
    (a.epochNow x % 16 ≠ bits v 26 23 →
      (bits v 2 0 = 0 → exec (.flashCode p c) s = .next (a.incF F.FAB_FLSTALE_CNT 0)) ∧
      (bits v 2 0 = 1 → ∀ src, exec (.flashMatch p c src) s = .next (a.incF F.FAB_FLSTALE_CNT 0)) ∧
      (bits v 2 0 = 2 → exec (.flashAbort p c) s = .next (a.incF F.FAB_FLSTALE_CNT 0)) ∧
      (bits v 2 0 = 3 → exec (.flashFault p c) s = .next (a.incF F.FAB_FLSTALE_CNT 0)))) ∧
  (∀ (p : Fin 12) (c : Copies) (src : Nat) (s a : State), s.portState p.val = 2 → s.blockLost p.val = false →
    copiesVote c = none → a = (s.forwardCopies p.val c).incF F.FAB_PFLERR_CNT p.val →
    exec (.flashCode p c) s = .next a ∧ exec (.flashMatch p c src) s = .next a ∧ exec (.flashAbort p c) s = .next a ∧
      exec (.flashFault p c) s = .next a ∧ exec (.flashSys p c) s = .next a ∧ exec (.flashReservedFtype p c) s = .next a) ∧
  (∀ (p : Fin 12) (c : Copies) (src : Nat) (s : State), s.portState p.val ≠ 2 ∨ s.blockLost p.val = true →
    exec (.flashCode p c) s = .next s ∧ exec (.flashMatch p c src) s = .next s ∧ exec (.flashAbort p c) s = .next s ∧
      exec (.flashFault p c) s = .next s ∧ exec (.flashSys p c) s = .next s ∧ exec (.flashReservedFtype p c) s = .next s) ∧
  (∀ (p : Fin 12) (c : Copies) (s a : State) (w v : Nat), s.portState p.val = 2 → s.blockLost p.val = false →
    copiesVote c = some w → v = w % 4294967296 → a = s.forwardCopies p.val c →
    (bits v 2 0 = 4 → bits v 19 16 ≠ 15 → ∃ t, exec (.flashSys p c) s = .next t ∧ t.getF F.FAB_SYSRX_CODE 0 = bits v 19 16 ∧
      hasBit (t.getF F.HST_EVT_EVT 16) 0 = true ∧ { t with reg := a.reg, out := a.out, evAt := a.evAt } = a) ∧
    (bits v 2 0 = 4 → bits v 19 16 = 15 → a.getF F.FAB_SLPSTAT_STATE 0 = 1 → ∃ t, exec (.flashSys p c) s = .next t ∧
      t.getF F.FAB_SLPSTAT_STATE 0 = 0 ∧ t.getF F.FAB_SLPSTAT_CANCELLED 0 = 1 ∧ t.fab = { a.fab with sleepAt := none, wake := none, gaveUp := a.fab.sleepAt } ∧
      { t with reg := a.reg, fab := a.fab } = a) ∧
    (5 ≤ bits v 2 0 → exec (.flashReservedFtype p c) s = .next a)) ∧
  (∀ (code c : Nat) (s : State), c = code % 16 →
    (1 ≤ c → c < 15 → s.treeAsleep = false → ∃ t, exec (.sysFlashSend .pf0 code) s = .next t ∧
      t.getF F.FAB_SYSFL_CODE 0 = c ∧ { t with reg := s.reg, out := s.out, port := s.port } = s ∧ RegsBut [F.FAB_SYSFL_CODE.key 0] s t ∧
      (∀ k, k < 5 → s.carries k = true → Out.flash k (flashWord 4 0 c 0 0 + (2 ^ k - 1) * 134217728) ∈ t.out) ∧
      ∀ j, j < 4 → s.carries (5 + j) = true → Out.flash (5 + j) (flashWord 4 0 c 0 0 + (2 ^ j - 1) * 8) ∈ t.out) ∧
    (c = 0 ∨ c = 15 → exec (.sysFlashSend .pf0 code) s = .next (s.setF F.FAB_SYSFL_CODE 0 c)))

/-- Cells and links: the next expected good cell is acknowledged and delivered, any other draws one negative acknowledgement; an
acknowledgement empties the retry buffer; a negative one, or none in time, resends it, four times at most; a credit comes back up to
two; and a block of lane words is read back as it was scrambled and stuffed. -/
def Obligations.CellsAndLinks : Prop :=
(∀ (p : Fin 12) (w : List Nat) (s : State), s.portState p.val = 2 →
    (s.blockLost p.val = false → cellOk w = true → bits (w.getD 2 0) 11 0 = (s.portOf p.val).rxSeq →
      (bits (w.getD 0 0) 16 8 = s.chipNo → bits (w.getD 0 0) 1 0 = 2 → ∃ t b, exec (.cellReceive p w) s = .next t ∧
        { t.portOf p.val with line := (s.portOf p.val).line, lineAt := (s.portOf p.val).lineAt } =
          { s.portOf p.val with rxSeq := ((s.portOf p.val).rxSeq + 1) % 4096, nacking := false } ∧
        (∀ k, k ≠ p.val → t.portOf k = s.portOf k) ∧
        t.out = Out.delivered w :: Out.line p.val b :: Out.link p.val true (s.portOf p.val).rxSeq :: s.out ∧
        { t with port := s.port, out := s.out } = s) ∧
      (bits (w.getD 0 0) 16 8 = s.chipNo → bits (w.getD 0 0) 1 0 = 0 → s.ahead w = some 0 → s.fab.early = [] →
        ∃ t b, exec (.cellReceive p w) s = .next t ∧
          t.out = Out.delivered w :: Out.line p.val b :: Out.link p.val true (s.portOf p.val).rxSeq :: s.out ∧
          Tbl.get (fun _ => 0) t.fab.rxEseq (cellKey w).1 = ((cellKey w).2 + 1) % 1048576 ∧
          { t with port := s.port, out := s.out, fab := s.fab } = s) ∧
      (∀ x, bits (w.getD 0 0) 16 8 = s.chipNo → bits (w.getD 0 0) 1 0 = 1 → s.siteBySsn (bits (w.getD 1 0) 12 0) = some x →
        s.ahead w = some 0 → s.fab.early = [] →
        (s.epochNow x = bits (w.getD 1 0) 31 16 → ∃ t b, exec (.cellReceive p w) s = .next t ∧
          t.out = Out.delivered w :: Out.line p.val b :: Out.link p.val true (s.portOf p.val).rxSeq :: s.out ∧
          Tbl.get (fun _ => 0) t.fab.rxEseq (cellKey w).1 = ((cellKey w).2 + 1) % 1048576 ∧
          { t with port := s.port, out := s.out, fab := s.fab } = s) ∧
        (s.epochNow x ≠ bits (w.getD 1 0) 31 16 → ∃ (u : State) (b : List Bool), exec (.cellReceive p w) s =
            .next (u.sendSite x (bits (w.getD 0 0) 25 17) (.nackStale 0 false)) ∧
          u.out = Out.line p.val b :: Out.link p.val true (s.portOf p.val).rxSeq :: s.out ∧
          Tbl.get (fun _ => 0) u.fab.rxEseq (cellKey w).1 = ((cellKey w).2 + 1) % 1048576 ∧
          { u with port := s.port, out := s.out, fab := s.fab } = s)) ∧
      (bits (w.getD 0 0) 16 8 ≠ s.chipNo → bits (w.getD 0 0) 29 26 = 0 → ∃ t b, exec (.cellReceive p w) s = .next t ∧
        t.getF F.FAB_TTLDROP_CNT 0 = (s.getF F.FAB_TTLDROP_CNT 0 + 1) % 2 ^ F.FAB_TTLDROP_CNT.width ∧
        t.out = Out.line p.val b :: Out.link p.val true (s.portOf p.val).rxSeq :: s.out ∧
        { t with port := s.port, out := s.out, reg := s.reg } = s)) ∧
    (s.blockLost p.val = true ∨ cellOk w = false ∨ bits (w.getD 2 0) 11 0 ≠ (s.portOf p.val).rxSeq →
      ((s.portOf p.val).nacking = false → ∃ t b, exec (.cellReceive p w) s = .next t ∧
        { t.portOf p.val with line := (s.portOf p.val).line, lineAt := (s.portOf p.val).lineAt } =
          { s.portOf p.val with nacking := true } ∧ (∀ k, k ≠ p.val → t.portOf k = s.portOf k) ∧
        t.out = Out.line p.val b :: Out.link p.val false (s.portOf p.val).rxSeq :: s.out ∧
        { t with port := s.port, out := s.out } = s) ∧
      ((s.portOf p.val).nacking = true → exec (.cellReceive p w) s = .next s))) ∧
  (∀ (p : Fin 12) (lseq : Nat) (s : State),
    (∀ i, (s.portOf p.val).retry.findIdx? (fun r => r.1 == lseq) = some i → ∃ t, exec (.linkAck p lseq) s = .next t ∧
      t.getF F.FAB_PTRANS_CNT p.val = (s.getF F.FAB_PTRANS_CNT p.val +
        (((s.portOf p.val).retry.take (i + 1)).filter (fun r => r.2.1 != 0)).length) % 2 ^ F.FAB_PTRANS_CNT.width ∧
      RegsBut [F.FAB_PTRANS_CNT.key p.val] s t ∧
      ((s.portOf p.val).held = [] → (t.portOf p.val) = { s.portOf p.val with retry := (s.portOf p.val).retry.drop (i + 1) } ∧
        PortOnly p.val [F.FAB_PTRANS_CNT.key p.val] s t)) ∧
    ((s.portOf p.val).retry.findIdx? (fun r => r.1 == lseq) = none → exec (.linkAck p lseq) s = .next s)) ∧
  (∀ (p : Fin 12) (s : State), s.portState p.val = 2 →
    (∀ (n j : Nat) (c : Cell) (rest : List (Nat × Nat × Cell)), (s.portOf p.val).retry = (n, j, c) :: rest →
      (j < 4 → ∃ t, exec (.linkNack p) s = .next t ∧ exec (.retryTimeout p) s = .next t ∧
        (t.portOf p.val).retry = (s.portOf p.val).retry.map (fun r => (r.1, r.2.1 + 1, r.2.2)) ∧
        (∀ r ∈ (s.portOf p.val).retry, Out.cell p.val r.1 r.2.2 ∈ t.out) ∧ { t with port := s.port, out := s.out } = s ∧
        ∀ k, k ≠ p.val → t.portOf k = s.portOf k) ∧
      (4 ≤ j → ∃ t, exec (.linkNack p) s = .next t ∧ exec (.retryTimeout p) s = .next t ∧ t.portState p.val = 1 ∧
        (t.portOf p.val).attempts = (s.portOf p.val).attempts + 1 ∧ s.sameMems t)) ∧
    ((s.portOf p.val).retry = [] → exec (.linkNack p) s = .next s ∧ exec (.retryTimeout p) s = .next s)) ∧
  (∀ (x : Fin 16) (chip : Sender) (s : State),
    (s.present x.val = false → exec (.creditReturn x chip) s = .next s) ∧
    (s.present x.val = true → chip.epoch ≠ s.epochNow x.val →
      exec (.creditReturn x chip) s = .next (s.sendSite x.val chip.chip (.nackStale 0 false)))) ∧
  (∀ (x : Fin 16) (chip : Sender) (s : State), s.present x.val = true → chip.epoch = s.epochNow x.val →
    ∃ t, exec (.creditReturn x chip) s = .next t ∧
    Tbl.get (fun _ => 2) (t.siteOf x.val).credits chip.chip = min 2 (Tbl.get (fun _ => 2) (s.siteOf x.val).credits chip.chip + 1) ∧
    (∀ c, c ≠ chip.chip → Tbl.get (fun _ => 2) (t.siteOf x.val).credits c = Tbl.get (fun _ => 2) (s.siteOf x.val).credits c) ∧
    SiteOnly x.val [] s t) ∧
  (∀ l : List Bool, destuff 0 false (stuff 0 false l) = (l, true)) ∧
  (∀ ws : List (Nat × Nat), ws.length ≤ 128 → (∀ w ∈ ws, w.1 < 3 ∧ w.2 < 4294967296) →
    readBlock (stuff 0 false (scrambleFrom 0 (ws.flatMap laneWord))) = (ws, false))

/-- Ports: training starts on a port in use, ends UP with its flight and a HELLO or tries again, and three failures in a row retire
it; HELLO admits the partner or refuses its own number; link states are kept; a port without words is down; a code violation is counted and
spoils the rest of its block. -/
def Obligations.PortsTrainAndDiscover : Prop :=
(∀ (p : Fin 12) (s : State),
    (s.flag F.FAB_PCTL_EN p.val = true → s.portState p.val ≠ 1 → s.portState p.val ≠ 5 →
      ∃ t, exec (.portTrainStart p) s = .next t ∧ exec (.retrain .pf0 p) s = .next t ∧ t.portState p.val = 1 ∧
        (t.portOf p.val).attempts = (s.portOf p.val).attempts + 1 ∧ s.sameMems t ∧
        (s.portState p.val = 0 → PortOnly p.val (keysAt p.val [F.FAB_PSTAT_STATE, F.FAB_PRTRN_CNT]) s t)) ∧
    (s.flag F.FAB_PCTL_EN p.val = false ∨ s.portState p.val = 1 ∨ s.portState p.val = 5 →
      exec (.portTrainStart p) s = .next s ∧ exec (.retrain .pf0 p) s = .next s)) ∧
  (∀ (p : Fin 12) (flight : Nat) (s : State), s.portState p.val = 1 →
    (∃ t c b, exec (.portTrainDone p true flight) s = .next t ∧ t.portState p.val = 2 ∧
      t.getF F.FAB_PSTAT_FLIGHT p.val = flight % 2 ^ F.FAB_PSTAT_FLIGHT.width ∧ (t.portOf p.val).fails = 0 ∧
      (t.portOf p.val).rxSeq = 0 ∧ t.out = Out.line p.val b :: Out.cell p.val 0 c :: s.out ∧
      c.msg = some (.hello s.chipNo s.fab.digest (s.flag F.FAB_ID_TROOT 0) (s.getF F.FAB_TOPOVER_VER 0)) ∧ s.sameMems t) ∧
    ((s.portOf p.val).fails < 2 → ∃ t, exec (.portTrainDone p false flight) s = .next t ∧ t.portState p.val = 1 ∧
      (t.portOf p.val).fails = (s.portOf p.val).fails + 1 ∧
      PortOnly p.val (keysAt p.val [F.FAB_PSTAT_STATE, F.FAB_PRTRN_CNT]) s t) ∧
    (2 ≤ (s.portOf p.val).fails → ∃ t, exec (.portTrainDone p false flight) s = .next t ∧ t.portState p.val = 5 ∧
      hasBit (t.getF F.HST_EVT_EVT 16) 2 = true)) ∧
  (∀ (p : Fin 12) (ok : Bool) (flight : Nat) (s : State), s.portState p.val ≠ 1 →
    exec (.portTrainDone p ok flight) s = .next s) ∧
  (∀ (p : Fin 12) (chip digest : Nat) (troot : Bool) (s : State), s.portState p.val = 2 →
    (chip = s.chipNo → ∃ t, exec (.helloReceive p chip digest troot) s = .next t ∧ t.getF F.FAB_PSTAT_DUPID p.val = 1 ∧
      t.portState p.val = 0 ∧ s.sameMems t) ∧
    (chip ≠ s.chipNo → s.peer chip = none ∨
        (∀ e ∈ s.fab.links, e.a = chip → e.up = true → e.digest = digest) ∧ s.rivals p.val chip digest = [] →
      ∃ t, exec (.helloReceive p chip digest troot) s = .next t ∧
      t.getF F.FAB_PSTAT_FAR p.val = chip % 2 ^ F.FAB_PSTAT_FAR.width ∧ t.getF F.FAB_PSTAT_FARV p.val = 1 ∧ s.sameMems t) ∧
    ((s.peer chip).isSome = true → (∃ e ∈ s.fab.links, e.a = chip ∧ e.up = true ∧ e.digest ≠ digest) ∨ s.rivals p.val chip digest ≠ [] →
      ∃ t, exec (.helloReceive p chip digest troot) s = .next t ∧ t.getF F.FAB_PSTAT_DUPID p.val = 1 ∧ t.portState p.val = 0 ∧
        s.sameMems t)) ∧
  (∀ (l : LinkState) (s : State),
    (l.a ≠ s.chipNo → s.fab.links.contains l = false →
      ∃ t, exec (.linkStateReceive l) s = .next t ∧ l ∈ t.fab.links ∧ s.sameMems t) ∧
    (l.a = s.chipNo ∨ s.fab.links.contains l = true → exec (.linkStateReceive l) s = .next s)) ∧
  (∀ (p : Fin 12) (s : State), (s.portState p.val = 2 → ∃ t, exec (.portDown p) s = .next t ∧ t.portState p.val = 0 ∧
      t.getF F.FAB_PSTAT_FARV p.val = 0 ∧ (t.portOf p.val).retry = [] ∧ s.sameMems t ∧
      (sleepPorts.contains p.val = true → (∃ n, s.getF F.FAB_SLPSTAT_STATE 0 = 0 ∧ s.fab.gaveUp = some n ∧ n ≤ s.nowNs) →
        Out.wakeTone p.val ∈ t.out)) ∧
    (s.portState p.val ≠ 2 → exec (.portDown p) s = .next s)) ∧
  (∀ (p : Fin 12) (line : List Bool) (s : State),
    ((readBlock line).2 = true → ∃ t, exec (.codeViolation ⟨p, line⟩) s = .next t ∧
      t.getF F.FAB_PCV_CNT p.val = (s.getF F.FAB_PCV_CNT p.val + 1) % 2 ^ F.FAB_PCV_CNT.width ∧
      (t.portOf p.val) = { s.portOf p.val with lostTill := s.now + Time.ofQ ((128 - (readBlock line).1.length) * 8500) } ∧
      PortOnly p.val [F.FAB_PCV_CNT.key p.val] s t) ∧
    ((readBlock line).2 = false → exec (.codeViolation ⟨p, line⟩) s = .next s))

/-- Sleep and wake: a vote is refused while beats run; the root holds votes and with the last one sends SLEEP-AT; SLEEP-AT is scheduled; a
wake before C cancels it; at T the ports sleep; a wake tone wakes them. -/
def Obligations.SleepAndWake : Prop :=
(∀ s : State, s.anyRun = true ∨ s.startsNow = true → ∃ t, exec (.sleepVote .pf0) s = .next t ∧ t.getF F.FAB_SLPSTAT_CTL_REJ 0 = 1 ∧
    RegsOnly [F.FAB_SLPSTAT_CTL_REJ.key 0] s t) ∧
  (∀ s : State, s.anyRun = false → s.startsNow = false →
    (s.getF F.FAB_SLPSTAT_STATE 0 = 0 → s.shelfRoot ≠ s.chipNo →
      exec (.sleepVote .pf0) s = .next ((s.setF F.FAB_SLPSTAT_STATE 0 1).send 0 s.shelfRoot .sleepVote)) ∧
    (s.getF F.FAB_SLPSTAT_STATE 0 = 0 → s.shelfRoot = s.chipNo → s.chipNo ∉ s.fab.votes →
      (∃ c ∈ s.shelfChips, c ≠ s.chipNo ∧ c ∉ s.fab.votes) → ∃ t, exec (.sleepVote .pf0) s = .next t ∧
        t.getF F.FAB_SLPSTAT_STATE 0 = 1 ∧ t.fab = { s.fab with votes := s.chipNo :: s.fab.votes } ∧
        { t with reg := s.reg, fab := s.fab } = s) ∧
    (s.getF F.FAB_SLPSTAT_STATE 0 ≠ 0 → exec (.sleepVote .pf0) s = .next s)) ∧
  (∀ (chip : Nat) (s : State), s.shelfRoot = s.chipNo → s.shelfChips.contains chip = true → chip ∉ s.fab.votes →
    ((∃ c ∈ s.shelfChips, c ≠ chip ∧ c ∉ s.fab.votes) → ∃ t, exec (.sleepVoteReceive chip) s = .next t ∧
      t.fab = { s.fab with votes := chip :: s.fab.votes } ∧ { t with fab := s.fab } = s) ∧
    ((∀ c ∈ s.shelfChips, c = chip ∨ c ∈ s.fab.votes) → s.getF F.FAB_SLPLEAD_US 0 ≠ 0 → s.fab.wake = none →
      (∀ k, k < 12 → s.portState k ≠ 3) → ∃ t, exec (.sleepVoteReceive chip) s = .next t ∧
      t.getF F.FAB_SLPSTAT_STATE 0 = 2 ∧ t.fab.sleepAt = some (s.nowNs + s.getF F.FAB_SLPLEAD_US 0 * 1000) ∧
      t.getF F.FAB_SLPT_NS 0 = (s.nowNs + s.getF F.FAB_SLPLEAD_US 0 * 1000) % 4294967296 ∧ t.fab.votes = [] ∧ s.sameMems t)) ∧
  (∀ (chip : Nat) (s : State), s.shelfRoot ≠ s.chipNo → exec (.sleepVoteReceive chip) s = .next s) ∧
  (∀ (tm n : Nat) (s : State), s.getF F.FAB_SLPSTAT_STATE 0 ≠ 3 → n = ((s.nowNs : Int) + halfWindow s.now tm).toNat → s.nowNs < n →
    s.fab.wake = none → ∃ t, exec (.sleepAtReceive tm) s = .next t ∧ t.getF F.FAB_SLPSTAT_STATE 0 = 2 ∧
      t.getF F.FAB_SLPT_NS 0 = n % 4294967296 ∧ t.fab = { s.fab with sleepAt := some n } ∧
      { t with reg := s.reg, fab := s.fab } = s ∧ RegsBut (keysAt 0 [F.FAB_SLPT_NS, F.FAB_SLPSTAT_STATE]) s t) ∧
  (∀ (tm : Nat) (s : State), s.getF F.FAB_SLPSTAT_STATE 0 = 3 → exec (.sleepAtReceive tm) s = .next s) ∧
  (∀ (n w : Nat) (s : State), s.fab.sleepAt = some n → s.fab.wake = some w → s.getF F.FAB_SLPSTAT_STATE 0 = 2 →
    (w + 48 < n → ∃ t, exec .sleepCancelInstant s = .next t ∧ t.getF F.FAB_SLPSTAT_STATE 0 = 0 ∧
      t.getF F.FAB_SLPSTAT_CANCELLED 0 = 1 ∧ t.fab.sleepAt = none ∧ t.fab.wake = none ∧ s.sameMems t) ∧
    (n ≤ w + 48 → exec .sleepCancelInstant s = .next s)) ∧
  (∀ s : State, s.fab.sleepAt = none ∨ s.fab.wake = none → exec .sleepCancelInstant s = .next s) ∧
  (∀ s : State, (s.getF F.FAB_SLPSTAT_STATE 0 = 2 → s.fab.wake = none → ∃ t, exec .sleepEnter s = .next t ∧
      t.getF F.FAB_SLPSTAT_STATE 0 = 3 ∧ t.fab.sleepAt = none ∧
      (∀ k ∈ sleepPorts, t.portState k = if s.portState k = 2 then 3 else s.portState k) ∧ s.sameMems t) ∧
    (s.getF F.FAB_SLPSTAT_STATE 0 ≠ 2 → exec .sleepEnter s = .next s)) ∧
  (∀ s : State, (s.getF F.FAB_SLPSTAT_STATE 0 = 0 → exec (.fabWake .pf0) s = .next s) ∧
    (s.getF F.FAB_SLPSTAT_STATE 0 = 1 → s.fab.wake = none → ∃ t, exec (.fabWake .pf0) s = .next t ∧
      t.fab = { s.fab with wake := some s.nowNs } ∧ { t with fab := s.fab } = s) ∧
    (∀ n, s.getF F.FAB_SLPSTAT_STATE 0 = 2 → s.fab.sleepAt = some n →
      (s.nowNs + 48 < n → ∃ t, exec (.fabWake .pf0) s = .next t ∧ t.getF F.FAB_SLPSTAT_STATE 0 = 0 ∧
        t.getF F.FAB_SLPSTAT_CANCELLED 0 = 1 ∧ t.fab.sleepAt = none ∧ t.fab.gaveUp = some n ∧ s.sameMems t) ∧
      (n ≤ s.nowNs + 48 → s.fab.wake = none → ∃ t, exec (.fabWake .pf0) s = .next t ∧
        t.fab = { s.fab with wake := some s.nowNs } ∧ { t with fab := s.fab } = s)) ∧
    (s.getF F.FAB_SLPSTAT_STATE 0 = 3 → ∃ t, exec (.fabWake .pf0) s = .next t ∧
      (∀ k ∈ sleepPorts, s.portState k = 3 → t.portState k = 4 ∧ Out.wakeTone k ∈ t.out) ∧ s.sameMems t)) ∧
  (∀ (p : Fin 12) (s : State), (s.portState p.val = 3 → ∃ t, exec (.wakeToneDetect p) s = .next t ∧ t.portState p.val = 4 ∧
      (∀ k ∈ sleepPorts, k ≠ p.val → s.portState k = 3 → t.portState k = 4 ∧ Out.wakeTone k ∈ t.out) ∧ s.sameMems t) ∧
    (s.portState p.val ≠ 3 → exec (.wakeToneDetect p) s = .next s)) ∧
  (∀ (p : Fin 12) (s : State), (s.portState p.val = 4 → ∃ t, exec (.deepStateExitDone p) s = .next t ∧ t.portState p.val = 2 ∧
      s.sameMems t) ∧
    (s.portState p.val ≠ 4 → exec (.deepStateExitDone p) s = .next s))

/-! ### Site reset, scrubbing and retraining (R331 to R333, R353, R354) -/

/-- RESET puts a site in safe state, stops it and drops what it holds; its end leaves the DRAM regions zero and the site out of
reset; scrubbing ends the same way; SE15 takes a retraining pass and gives it back after its last channel; a channel that fails retraining
is retired. -/
def Obligations.SiteResetAndScrub : Prop :=
(∀ (fn : Fn) (x : Fin 16) (s : State), (s.siteOf x.val).orders = [] → s.present x.val = true →
    (fn = .pf0 ∨ s.fnSite fn x.val = true) →
    (s.flag F.SITE_SSTAT_RESETTING x.val = false → ∃ t, exec (.siteReset fn x) s = .next t ∧
      (t.siteOf x.val).resetting = 1 ∧ (t.siteOf x.val).recs = [] ∧ (t.siteOf x.val).fabItems = [] ∧
      (t.siteOf x.val).cap.staged = [] ∧ (t.siteOf x.val).cap.page = none ∧ (t.siteOf x.val).cap.backlog = [] ∧
      (t.siteOf x.val).saf.opn = none ∧ (t.siteOf x.val).saf.que = none ∧ t.getF F.SITE_CSEQ_SEQ x.val = 0 ∧
      hasBit (t.getF F.FLT_SSRC_SRC x.val) 7 = true ∧ t.siteSafe x.val = true ∧ s.sameMems t ∧ t.chan = s.chan ∧ t.oct = s.oct ∧
      t.live = s.live) ∧
    (s.flag F.SITE_SSTAT_RESETTING x.val = true → exec (.siteReset fn x) s = .next s)) ∧
  (∀ (x : Fin 16) (s : State),
    ((s.siteOf x.val).resetting = 1 → s.burstsOver x.val = true →
      ∃ t, exec (.siteResetBurstsEnded x) s = .next t ∧ (t.siteOf x.val).resetting = 2 ∧ (t.siteOf x.val).recs = [] ∧
        (t.siteOf x.val).saf.run = none ∧ (t.siteOf x.val).saf.last = (s.siteOf x.val).saf.last ∧
        (∀ c b, c < 64 → b < 131072 → s.ownsCh x.val c = true → t.acqByte c b = 0) ∧
        (∀ c b, c < 64 → b < 131072 → s.ownsCh x.val c = false → t.acqByte c b = s.acqByte c b) ∧
        (∀ r a, r ∈ s.validRegions x.val → s.regLo x.val r ≤ a → a < s.regHi x.val r → t.dramByte a = 0) ∧
        (∀ a, (∀ r ∈ s.validRegions x.val, a < s.regLo x.val r ∨ s.regHi x.val r ≤ a) → t.dramByte a = s.dramByte a) ∧
        t.getF F.FAB_SEPOCH_EPOCH x.val = (s.getF F.FAB_SEPOCH_EPOCH x.val + 1) % 65536 ∧
        (∀ y, y ≠ x.val → t.siteOf y = s.siteOf y) ∧ ((∀ o, o < 8 → (s.octSt o).next = []) → t.nvm = s.nvm) ∧ t.cstore = s.cstore) ∧
    ((s.siteOf x.val).resetting ≠ 1 ∨ s.burstsOver x.val = false → exec (.siteResetBurstsEnded x) s = .next s)) ∧
  (∀ (x : Fin 16) (s : State),
    ((s.siteOf x.val).resetting = 2 → ∃ t, exec (.siteResetDone x) s = .next t ∧
      (t.siteOf x.val).resetting = 0 ∧ t.getF F.SITE_SSTAT_SCRUB x.val = 0 ∧ t.getF F.SITE_SSTAT_RESETTING x.val = 0 ∧
      (t.siteOf x.val).regionsLeft = [] ∧ (s.beyond x.val = [] → (t.siteOf x.val).gone = 0 ∧ t.getF F.MEM_RLOST_LOST x.val = 0) ∧
      { t with reg := s.reg, site := s.site, sumac := s.sumac, out := s.out, evAt := s.evAt } = s ∧
      ∀ y, y ≠ x.val → t.siteOf y = s.siteOf y) ∧
    ((s.siteOf x.val).resetting ≠ 2 → exec (.siteResetDone x) s = .next s)) ∧
  (∀ (x : Fin 16) (s : State),
    (s.flag F.SITE_SSTAT_SCRUB x.val = true → (s.siteOf x.val).resetting = 0 → (s.siteOf x.val).regionsLeft ≠ [] →
      (∀ y, y < x.val → s.flag F.SITE_SSTAT_SCRUB y = false ∨ (s.siteOf y).resetting ≠ 0 ∨ (s.siteOf y).regionsLeft = []) →
      ∃ t, exec (.scrubDone x) s = .next t ∧ t.getF F.SITE_SSTAT_SCRUB x.val = 0 ∧ (t.siteOf x.val).regionsLeft = [] ∧
        SiteOnly x.val [F.SITE_SSTAT_SCRUB.key x.val] s t) ∧
    (s.flag F.SITE_SSTAT_SCRUB x.val = false ∨ (s.siteOf x.val).resetting ≠ 0 ∨ (s.siteOf x.val).regionsLeft = [] ∨
        (∃ y, y < x.val ∧ s.flag F.SITE_SSTAT_SCRUB y = true ∧ (s.siteOf y).resetting = 0 ∧ (s.siteOf y).regionsLeft ≠ []) →
      exec (.scrubDone x) s = .next s)) ∧
  (∀ s : State, s.engState 15 ≠ 5 →
    ((∀ d, s.boot.trainDue = some d → d ≤ s.nowNs) → (∀ i ∈ s.ready, i.bound ≠ some 15) → s.selfRefresh = false → (s.engOf 15).item = none → (s.engOf 15).saved = none → (s.engOf 15).suspending = false →
      (s.engOf 15).restoring = false → (s.engOf 15).training = false → s.engState 15 = 0 →
      ∃ t, exec .retrainPassStart s = .next t ∧ t.engOf 15 = { s.engOf 15 with training := true } ∧ t.engState 15 = 1 ∧
        t.getF F.MEM_STAT_TRBUSY 0 = 1 ∧ t.boot.train = s.dcInService ∧ t.boot.trainDue = some (s.nowNs + s.trint) ∧
        t.boot.pass = some {} ∧
        ((∀ j ∈ s.ready, j.prio < 7) →
          t.boot = { s.boot with train := s.dcInService, trainDue := some (s.nowNs + s.trint), pass := some {} } ∧ t.ready = s.ready) ∧
        t.getF F.MEM_STAT_TRLATE 0 = (if s.boot.trainDue.any (fun d => decide (d + s.trint < s.nowNs)) then 1
          else s.getF F.MEM_STAT_TRLATE 0) ∧
        { t with reg := s.reg, eng := s.eng, boot := s.boot, ready := s.ready } = s ∧ ∀ e, e ≠ 15 → t.engOf e = s.engOf e) ∧
    ((∃ d, s.boot.trainDue = some d ∧ s.nowNs < d) ∨ (∃ i ∈ s.ready, i.bound = some 15) ∨ (s.engOf 15).item.isSome = true ∨ (s.engOf 15).saved.isSome = true ∨ (s.engOf 15).training = true ∨ s.engState 15 ≠ 0 ∨ s.selfRefresh = true →
      exec .retrainPassStart s = .next s)) ∧
  (∀ s : State, s.engState 15 = 5 → exec .retrainPassStart s = .next (s.setF F.MEM_STAT_TRLATE 0 1)) ∧
  (∀ (d : Fin 16) (s : State), d.val ∈ s.boot.train → s.stepWaits = true →
    (∀ w r n : Nat, ∃ t, exec (.retrainStep d (.pass w r n)) s = .next t ∧ d.val ∉ t.boot.train ∧
      (∀ k, k ≠ d.val → (k ∈ t.boot.train ↔ k ∈ s.boot.train)) ∧
      t.getF F.MEM_CHTR_WMARG d.val = w % 2 ^ F.MEM_CHTR_WMARG.width ∧
      t.getF F.MEM_CHTR_RMARG d.val = r % 2 ^ F.MEM_CHTR_RMARG.width ∧
      t.getF F.MEM_TRCNT_CNT 0 = (if 1 < n then (s.getF F.MEM_TRCNT_CNT 0 + 1) % 2 ^ F.MEM_TRCNT_CNT.width
        else s.getF F.MEM_TRCNT_CNT 0) ∧
      (t.boot.train = [] → (t.engOf 15).training = false ∧ t.engState 15 = 0 ∧ t.getF F.MEM_STAT_TRBUSY 0 = 0 ∧ t.boot.pass = none) ∧
      (t.boot.train ≠ [] → t.eng = s.eng ∧ t.engState 15 = s.engState 15 ∧ t.boot.pass = s.boot.pass) ∧
      { t with reg := s.reg, eng := s.eng, boot := s.boot, reqs := s.reqs, serial := s.serial } = s) ∧
    (s.flag F.MEM_CHTR_INSVC d.val = true → ∃ t, exec (.retrainStep d .fail) s = .next t ∧ d.val ∉ t.boot.train ∧
      t.getF F.MEM_CHTR_INSVC d.val = 0 ∧ hasBit (t.getF F.MEM_CHRET_RET 0) d.val = true ∧
      t.getF F.MEM_STAT_NCH 0 = (s.getF F.MEM_STAT_NCH 0 - 1) % 2 ^ F.MEM_STAT_NCH.width ∧ t.getF F.MEM_STAT_MODMAP 0 = 1 ∧ t.getF F.MEM_STAT_MIR2 0 = 0 ∧ hasBit (t.getF F.HST_EVT_EVT 16) 2 = true ∧
      t.dram = s.dram ∧ t.bb = s.bb ∧ t.cstore = s.cstore)) ∧
  (∀ (d : Fin 16) (res : TrainRes) (s : State), d.val ∉ s.boot.train ∨ s.stepWaits = false →
    exec (.retrainStep d res) s = .next s) ∧
  (∀ s : State, ∃ t, exec .mirrorRewriteDone s = .next t ∧ t.getF F.MEM_STAT_MIR2 0 = 1 ∧
    (∀ c, c ∈ t.boot.mirGone ↔ c ∈ s.boot.mirGone ∧ (c ^^^ 8) ∈ s.boot.mirGone) ∧
    { t with reg := s.reg, boot := s.boot, reqs := s.reqs, serial := s.serial, free := s.free } = s ∧
    RegsBut [F.MEM_STAT_MIR2.key 0, F.MEM_PDSTAT_LVL.key 0] s t)

/-! ### Reference, PLLs and line clocks (R358 to R370) -/

/-- The loss of the reference puts every PLL that is on at the bypass oscillator; a PLL that loses lock goes there and is counted, and
relocks once the reference is present; UPDNOW is refused while the site's beats run, and loads valid pending outputs otherwise. -/
def Obligations.ClocksLoseAndRelock : Prop :=
(∀ s : State,
    (s.flag F.CLK_REF_REFOK 0 = true → ∃ t, exec .refLoss s = .next t ∧ t.getF F.CLK_REF_REFOK 0 = 0 ∧
      t.getF F.CLK_REF_REFLOSS 0 = 1 ∧ t.getF F.CLK_REF_LCNT 0 = satAt F.CLK_REF_LCNT.width (s.getF F.CLK_REF_LCNT 0 + 1) ∧
      (∀ p ∈ plls, s.pllOff p = false → t.flag (pllFlds p).1.2.2.1 (pllFlds p).2 = true) ∧
      s.sameMems t ∧ t.eng = s.eng ∧ t.oct = s.oct ∧ t.site = s.site ∧ t.time = s.time) ∧
    (s.flag F.CLK_REF_REFOK 0 = false → exec .refLoss s = .next s)) ∧
  (∀ s : State, ∃ t, exec .refPresent s = .next t ∧ t.getF F.CLK_REF_REFOK 0 = 1 ∧ RegsOnly [F.CLK_REF_REFOK.key 0] s t) ∧
  (∀ (p : Pll) (s : State),
    (s.flag (pllFlds p).1.2.2.1 (pllFlds p).2 = false → s.pllOff p = false → ∃ t, exec (.pllLossOfLock p) s = .next t ∧
      t.getF (pllFlds p).1.1 (pllFlds p).2 = 0 ∧ t.getF (pllFlds p).1.2.1 (pllFlds p).2 = 1 ∧
      t.getF (pllFlds p).1.2.2.1 (pllFlds p).2 = 1 ∧ t.getF (pllFlds p).1.2.2.2 (pllFlds p).2 =
        satAt (pllFlds p).1.2.2.2.width (s.getF (pllFlds p).1.2.2.2 (pllFlds p).2 + 1) ∧
      (p = .core → hasBit (t.getF F.FLT_STAT_CSRC 0) 0 = true) ∧ (p = .timebase → hasBit (t.getF F.FLT_STAT_CSRC 0) 1 = true) ∧
      s.sameMems t ∧ t.eng = s.eng ∧ t.oct = s.oct ∧ t.site = s.site ∧ t.time = s.time) ∧
    (s.flag (pllFlds p).1.2.2.1 (pllFlds p).2 = true ∨ s.pllOff p = true → exec (.pllLossOfLock p) s = .next s) ∧
    (s.flag F.CLK_REF_REFOK 0 = true → s.flag (pllFlds p).1.1 (pllFlds p).2 = false → s.pllOff p = false →
      ∃ t, exec (.pllRelock p) s = .next t ∧ t.getF (pllFlds p).1.1 (pllFlds p).2 = 1 ∧
        t.getF (pllFlds p).1.2.2.1 (pllFlds p).2 = 0 ∧ s.sameMems t ∧ t.eng = s.eng ∧ t.oct = s.oct ∧ t.site = s.site) ∧
    (s.flag F.CLK_REF_REFOK 0 = false ∨ s.flag (pllFlds p).1.1 (pllFlds p).2 = true ∨ s.pllOff p = true →
      exec (.pllRelock p) s = .next s)) ∧
  (∀ (v : Fin 16) (n : Fin 4) (s : State), s.hostFree v → s.ownsLp v.val n.val = true →
    (s.beatsRun v.val = true ∨ s.startsBeats v.val = true → ∃ t, exec (.updnow (.vf v) n) s = .next t ∧ t.getF F.CLK_LPSTAT_UPD_REJ n.val = 1 ∧
      SiteOnly v.val [F.CLK_LPSTAT_UPD_REJ.key n.val] s t) ∧
    (s.beatsRun v.val = false → s.startsBeats v.val = false → s.lpPendOk n.val = false → ∃ t, exec (.updnow (.vf v) n) s = .next t ∧
      t.getF F.CLK_LPSTAT_CFG_REJ n.val = 1 ∧ SiteOnly v.val [F.CLK_LPSTAT_CFG_REJ.key n.val] s t) ∧
    (s.beatsRun v.val = false → s.startsBeats v.val = false → s.lpPendOk n.val = true → ∃ t, exec (.updnow (.vf v) n) s = .next t ∧
      (∀ m, m < 4 → t.getF F.CLK_LPL_DIV (lpoIx n.val m) = s.getF F.CLK_LPO_DIV (lpoIx n.val m) ∧
        t.getF F.CLK_LPL_DLY (lpoIx n.val m) = s.getF F.CLK_LPO_DLY (lpoIx n.val m) % 64 ∧
        t.getF F.CLK_LPL_EN (lpoIx n.val m) = s.getF F.CLK_LPO_EN (lpoIx n.val m) % 2) ∧
      s.sameMems t ∧ t.eng = s.eng ∧ t.stream = s.stream ∧ t.time = s.time)) ∧
  (∀ (n : Fin 4) (s : State), exec (.updnow .pf0 n) s = .next (s.setF F.CLK_LPSTAT_UPD_REJ n.val 1)) ∧
  (∀ (v : Fin 16) (n : Fin 4) (s : State), s.ownsLp v.val n.val = false ∨ s.vfLive (.vf v) = false →
    exec (.updnow (.vf v) n) s = .next s)

/-! ### Clove (R377 to R385) -/

/-- With no beats Clove takes a failed slice's channel, or one it is asked for, at once, and otherwise waits for a gap; RETRIM begins a
pass, whose end gives new figures and asks for the return; SAVE stores them; a failed Clove is FAILED; a failed front end retires its
channel. -/
def Obligations.CloveServesSlices : Prop :=
(∀ (o p : Fin 8) (s : State), s.clvSt o.val = 0 ∨ s.clvSt o.val = 1 ∧ (s.octSt o.val).clvPos = p.val →
    hasBit (s.octSt o.val).failed p.val = false → s.flag F.OCT_FESTAT_RETIRED (chIx (o.val * 8 + p.val)) = false →
    ((∀ x, s.owner (o.val * 8 + p.val) = some x → s.beatsRun x = false) → ∃ t, exec (.sliceFail o ⟨p.val, by omega⟩) s = .next t ∧
      t.clvSt o.val = 2 ∧ t.getF F.OCT_OSTAT_CLVPOS o.val = p.val ∧ t.getF F.OCT_OSTAT_CLVBUSY o.val = 1 ∧
      t.getF F.OCT_FESTAT_ONCLV (chIx (o.val * 8 + p.val)) = 1 ∧ hasBit (t.octSt o.val).failed p.val = true ∧
      (t.octSt o.val).clvPos = p.val ∧ (t.octSt o.val).clvKind = 0 ∧ (t.chanOf (o.val * 8 + p.val)).tdc.start = none ∧
      { t with reg := s.reg, oct := s.oct, chan := s.chan } = s ∧
      RegsBut (keysAt o.val [F.OCT_CLVSTAT_STATE, F.OCT_OSTAT_CLVPOS, F.OCT_OSTAT_CLVBUSY, F.OCT_CLVTKN_CNT] ++
        keysAt (chIx (o.val * 8 + p.val)) [F.OCT_FESTAT_ONCLV, F.OCT_TDCDISC_DISC]) s t ∧
      (∀ k, k ≠ o.val → t.octSt k = s.octSt k) ∧ ∀ k, k ≠ o.val * 8 + p.val → t.chanOf k = s.chanOf k) ∧
    (∀ x, s.owner (o.val * 8 + p.val) = some x → s.beatsRun x = true → ∃ t, exec (.sliceFail o ⟨p.val, by omega⟩) s = .next t ∧
      t.clvSt o.val = 1 ∧ hasBit (t.octSt o.val).failed p.val = true ∧ (t.octSt o.val).clvPos = p.val ∧
      (t.octSt o.val).clvKind = 0 ∧ (t.octSt o.val).clvBeat = none ∧ s.sameMems t)) ∧
  (∀ (o p : Fin 8) (s : State), hasBit (s.octSt o.val).failed p.val = true ∨
      s.flag F.OCT_FESTAT_RETIRED (chIx (o.val * 8 + p.val)) = true →
    ∃ t, exec (.sliceFail o ⟨p.val, by omega⟩) s = .next t ∧ hasBit (t.octSt o.val).failed p.val = true ∧ OctOnly o.val [] s t) ∧
  (∀ (o : Fin 8) (s : State), hasBit (s.octSt o.val).failed 8 = false → s.clvSt o.val ≠ 5 →
    ∃ t, exec (.sliceFail o 8) s = .next t ∧ t.clvSt o.val = 5 ∧ hasBit (t.octSt o.val).failed 8 = true ∧
      (s.clvSt o.val = 0 → OctOnly o.val [F.OCT_CLVSTAT_STATE.key o.val] s t) ∧
      (1 < s.clvSt o.val → hasBit (s.octSt o.val).failed (s.octSt o.val).clvPos = true →
        t.flag F.OCT_FESTAT_RETIRED (chIx (s.clvChan o.val)) = true) ∧
      (∀ l, 1 < s.clvSt o.val → hasBit (s.octSt o.val).failed (s.octSt o.val).clvPos = false → (s.octSt o.val).oldTrims = some l →
        Tbl.get (fun _ => []) (t.octSt o.val).trims (s.octSt o.val).clvPos = l ∧
        t.getF F.OCT_QSRC_UNSAVED (qIx o.val (s.octSt o.val).clvPos) = if (s.octSt o.val).oldUns then 1 else 0) ∧
      t.bb = s.bb ∧ t.acqMem = s.acqMem ∧ t.dram = s.dram ∧ t.cstore = s.cstore) ∧
  (∀ (o : Fin 8) (s : State), hasBit (s.octSt o.val).failed 8 = true ∨ s.clvSt o.val = 5 → exec (.sliceFail o 8) s = .next s) ∧
  (∀ (c : Fin 64) (s : State), s.flag F.OCT_FESTAT_RETIRED (chIx c.val) = false → ∃ t, exec (.frontEndFail c) s = .next t ∧
    t.getF F.OCT_FESTAT_RETIRED (chIx c.val) = 1 ∧ hasBit (t.getF F.HST_EVT_EVT 16) 2 = true ∧
    (t.chanOf c.val).front = true ∧ (t.chanOf c.val).pin = .idle ∧ (∀ k, k ≠ c.val → t.chanOf k = s.chanOf k) ∧
    t.oct = s.oct ∧ t.eng = s.eng ∧ t.bb = s.bb ∧ t.acqMem = s.acqMem ∧ t.dram = s.dram ∧ t.cstore = s.cstore) ∧
  (∀ (n : Fin 16) (o p : Fin 8) (s : State), s.hostFree n → s.owner (o.val * 8 + p.val) = some n.val → s.clvSt o.val = 0 →
    s.flag F.OCT_FESTAT_RETIRED (chIx (o.val * 8 + p.val)) = false → s.clvLower o.val p.val = false →
    (s.beatsRun n.val = false →
      (∃ t, exec (.clvTake (.vf n) o p) s = .next t ∧ t.clvSt o.val = 2 ∧ t.getF F.OCT_OSTAT_CLVPOS o.val = p.val ∧
        t.getF F.OCT_FESTAT_ONCLV (chIx (o.val * 8 + p.val)) = 1 ∧
        t.getF F.OCT_CLVTKN_CNT o.val = (s.getF F.OCT_CLVTKN_CNT o.val + 1) % 2 ^ F.OCT_CLVTKN_CNT.width ∧ s.sameMems t ∧
        (∀ k, k ≠ o.val → t.octSt k = s.octSt k) ∧ ∀ k, k ≠ o.val * 8 + p.val → t.chanOf k = s.chanOf k) ∧
      ((s.octSt o.val).saving ≠ some p.val → ∃ t, exec (.clvRetrim (.vf n) o p) s = .next t ∧ t.clvSt o.val = 3 ∧
        t.getF F.OCT_OSTAT_CLVPOS o.val = p.val ∧
        (t.octSt o.val).oldTrims = some (Tbl.get (fun _ => []) (s.octSt o.val).trims p.val) ∧ s.sameMems t ∧
        (∀ k, k ≠ o.val → t.octSt k = s.octSt k) ∧ ∀ k, k ≠ o.val * 8 + p.val → t.chanOf k = s.chanOf k)) ∧
    (s.beatsRun n.val = true → ∃ t, exec (.clvTake (.vf n) o p) s = .next t ∧ t.clvSt o.val = 1 ∧
      (t.octSt o.val).clvPos = p.val ∧ (t.octSt o.val).clvKind = 1 ∧
      (t.octSt o.val).clvBeat = some (s.gapBeat n.val (s.localNow 11)) ∧ s.sameMems t ∧ t.chan = s.chan)) ∧
  (∀ (n : Fin 16) (o p : Fin 8) (s : State), s.hostFree n → s.owner (o.val * 8 + p.val) = some n.val →
    ((s.octSt o.val).saving = none →
      (s.ownCarries o.val p.val = true → (s.octSt o.val).trimReq ≠ some (p.val, s.nowNs) →
        s.flag F.OCT_QSRC_UNSAVED (qIx o.val p.val) = true → ∃ t, exec (.clvSave (.vf n) o p) s = .next t ∧
        t.octSt o.val = { s.octSt o.val with saving := some p.val, savNs := s.nowNs } ∧ s.sameMems t ∧
        RegsBut [F.OCT_CLVCTL_POS.key o.val] s t) ∧
      (s.ownCarries o.val p.val = false ∨ (s.octSt o.val).trimReq = some (p.val, s.nowNs) ∨
        s.flag F.OCT_QSRC_UNSAVED (qIx o.val p.val) = false → ∃ t, exec (.clvSave (.vf n) o p) s = .next t ∧
        t.oct = s.oct ∧ t.getF F.OCT_CLVSTAT_REQ_REJ o.val = 1 ∧ s.sameMems t ∧
        RegsBut (keysAt o.val [F.OCT_CLVCTL_POS, F.OCT_CLVSTAT_REQ_REJ]) s t)) ∧
    ((s.octSt o.val).saving.isSome = true → ∃ t, exec (.clvSave (.vf n) o p) s = .next t ∧ t.oct = s.oct ∧
      SiteOnly n.val [F.OCT_CLVCTL_POS.key o.val] s t) ∧
    (s.clvSt o.val = 2 → (s.octSt o.val).clvPos = p.val → (s.octSt o.val).retReq = false →
      ∃ t, exec (.clvReturn (.vf n) o p) s = .next t ∧
        t.octSt o.val = { s.octSt o.val with
          retReq := true, retNs := s.nowNs
          shadowBeat := if s.beatsRun n.val then some (s.gapBeat n.val (s.localNow 11)) else none } ∧
        s.sameMems t ∧ RegsBut [F.OCT_CLVCTL_POS.key o.val] s t) ∧
    (s.clvHas o.val p.val = false → ∃ t, exec (.clvReturn (.vf n) o p) s = .next t ∧ t.oct = s.oct ∧
      t.getF F.OCT_CLVSTAT_REQ_REJ o.val = 1 ∧ RegsBut (keysAt o.val [F.OCT_CLVCTL_POS, F.OCT_CLVSTAT_REQ_REJ]) s t) ∧
    (s.clvSt o.val = 2 → (s.octSt o.val).clvPos = p.val → (s.octSt o.val).clvKind = 1 → (s.octSt o.val).saving ≠ some p.val →
      ∃ t, exec (.clvRetrim (.vf n) o p) s = .next t ∧ t.clvSt o.val = 3 ∧
        t.octSt o.val = { s.octSt o.val with
          clvKind := 2, retReq := false, oldTrims := some (Tbl.get (fun _ => []) (s.octSt o.val).trims p.val)
          oldUns := s.flag F.OCT_QSRC_UNSAVED (qIx o.val p.val), trimReq := some (p.val, s.nowNs) } ∧
        RegsBut (keysAt o.val [F.OCT_CLVCTL_POS, F.OCT_CLVSTAT_STATE]) s t)) ∧
  (∀ (o p : Fin 8) (s : State), ∃ t, exec (.clvTake .pf0 o p) s = .next t ∧ exec (.clvRetrim .pf0 o p) s = .next t ∧
    exec (.clvReturn .pf0 o p) s = .next t ∧ exec (.clvSave .pf0 o p) s = .next t ∧ RegsOnly [F.OCT_CLVCTL_POS.key o.val] s t) ∧
  (∀ (o : Fin 8) (g : Density) (s : State),
    (s.clvSt o.val = 3 → (s.octSt o.val).retReq = false → ∃ t, exec (.retrimDone o g) s = .next t ∧
      t.getF F.OCT_QEYE_EYEW (qIx o.val (s.octSt o.val).clvPos) = g.eyew % 2 ^ F.OCT_QEYE_EYEW.width ∧
      t.getF F.OCT_QSRC_UNSAVED (qIx o.val (s.octSt o.val).clvPos) = 1 ∧
      t.getF F.OCT_QINL_INLRMS (qIx o.val (s.octSt o.val).clvPos) = g.inlrms % 2 ^ F.OCT_QINL_INLRMS.width ∧
      t.getF F.OCT_QINL_INLMAX (qIx o.val (s.octSt o.val).clvPos) = g.inlmax % 2 ^ F.OCT_QINL_INLMAX.width ∧
      Tbl.get (fun _ => []) (t.octSt o.val).trims (s.octSt o.val).clvPos = (g.lines ++ [g.tdc]).flatMap (runSum 0) ++ g.dsp ∧ (t.octSt o.val).retReq = true ∧
      OctOnly o.val (keysAt (qIx o.val (s.octSt o.val).clvPos) [F.OCT_QEYE_EYEW, F.OCT_QINL_INLRMS, F.OCT_QINL_INLMAX,
        F.OCT_QDNL_DNLMIN, F.OCT_QDNL_DNLMAX, F.OCT_QSRC_UNSAVED, F.OCT_QCNT_CNT]) s t) ∧
    (s.clvSt o.val ≠ 3 ∨ (s.octSt o.val).retReq = true → exec (.retrimDone o g) s = .next s)) ∧
  (∀ (o : Fin 8) (s : State),
    (∀ p, (s.octSt o.val).saving = some p →
      (∃ t, exec (.saveDone o true) s = .next t ∧ (t.octSt o.val).saving = none ∧ t.getF F.OCT_QSRC_FIELD (qIx o.val p) = 1 ∧
        t.getF F.OCT_QSRC_UNSAVED (qIx o.val p) = 0 ∧ t.getF F.OCT_CLVSTAT_SAVED o.val = 1 ∧
        Tbl.get (fun _ => none) (t.octSt o.val).field p =
          some { fig := s.figures o.val p, cnt := s.getF F.OCT_QCNT_CNT (qIx o.val p), copyB := saveToB (s.octSt o.val) p
                 seq := match setInForce (s.octSt o.val) p with | some f => (f.seq + 1) % 4294967296 | none => 1 } ∧
        Tbl.get (fun _ => none) (t.octSt o.val).fieldOld p = setInForce (s.octSt o.val) p ∧
        { t with reg := s.reg, oct := s.oct, nvm := s.nvm, wear := s.wear, free := s.free } = s) ∧
      (∃ t, exec (.saveDone o false) s = .next t ∧ (t.octSt o.val).saving = none ∧
        (p < 9 → ∀ f, Tbl.get (fun _ => none) (t.octSt o.val).field p = some f ∨
          Tbl.get (fun _ => none) (t.octSt o.val).fieldOld p = some f → f.copyB ≠ saveToB (s.octSt o.val) p) ∧
        t.getF F.OCT_CLVSTAT_SAVE_FAIL o.val = 1 ∧
        { t with reg := s.reg, oct := s.oct, nvm := s.nvm, wear := s.wear, free := s.free, boot := s.boot } = s)) ∧
    ((s.octSt o.val).saving = none → ∀ okd, exec (.saveDone o okd) s = .next s))

/-! ### Sumac (R386 to R402) -/

/-- A source puts its scope in safe state and shows; the last one to clear starts the quiet period; wires that agree are a fault of
their own; the end of a quiet period asks for its increment or latches; CLEAR sets the base and ends a latch; FAULT words are repeated.
FLT_IN other than NO FAULT is a source while it is enabled, and an impossible state sets FLTIN_LINE; an open interlock input, and
a disagreement that lasts, are the source ILK; closing both clears it, unless a disagreement holds. -/
def Obligations.FaultSourcesAndInputs : Prop :=
  ((∀ (b : Fin 7) (s : State), b.val ≠ 6 → ∃ t, exec (.faultSourceActive (.chip b)) s = .next t ∧
    hasBit (t.getF F.FLT_STAT_CSRC 0) b.val = true ∧ t.chipSafe = true ∧ (∀ x, t.siteSafe x = true) ∧
    (hasBit (s.srcs 16) b.val = false → hasBit (t.getF F.FLT_SSRC_STK 16) b.val = true ∧ t.getF F.FLT_STAT_CSAFE 0 = 1 ∧
      ∀ x, x < 16 → hasBit (t.getF F.FLT_STAT_SSAFE 0) x = true) ∧
    s.sameMems t ∧ t.eng = s.eng ∧ t.chan = s.chan ∧ t.oct = s.oct ∧ t.site = s.site) ∧
  (∀ (x : Fin 16) (b : Fin 13) (s : State), ∃ t, exec (.faultSourceActive (.site x b)) s = .next t ∧ t.siteSafe x.val = true ∧
    (isPulse b.val = false → hasBit (t.getF F.FLT_SSRC_SRC x.val) b.val = true) ∧
    (isPulse b.val = true ∨ hasBit (s.srcs x.val) b.val = false → hasBit (t.getF F.FLT_SSRC_STK x.val) b.val = true ∧
      t.getF F.FLT_SSRC_SAFE x.val = 1 ∧ hasBit (t.getF F.FLT_STAT_SSAFE 0) x.val = true) ∧
    (isPulse b.val = true → t.getF F.FLT_SSRC_SRC x.val = s.getF F.FLT_SSRC_SRC x.val ∧
      (s.getF F.FLT_SSRC_SRC x.val = 0 → t.getF F.FLT_SSRC_QUIETING x.val = 1)) ∧
    s.sameMems t ∧ t.eng = s.eng ∧ t.chan = s.chan ∧ t.oct = s.oct ∧ t.site = s.site) ∧
  (∀ s : State, ∃ t, exec .selfFault s = .next t ∧ exec (.faultSourceActive (.chip 6)) s = .next t ∧
    hasBit (t.getF F.FLT_STAT_CSRC 0) 6 = true ∧ t.chipSafe = true ∧ t.nutmeg = { s.nutmeg with selfRec := true } ∧
    (hasBit (s.srcs 16) 6 = false → t.getF F.FLT_STAT_CSAFE 0 = 1) ∧
    s.sameMems t ∧ t.eng = s.eng ∧ t.chan = s.chan ∧ t.oct = s.oct ∧ t.site = s.site) ∧
  (∀ (x : Fin 16) (b : Fin 13) (s : State),
    (s.wired x.val b.val = false → s.srcClears x.val b.val = true → hasBit (s.getF F.FLT_SSRC_SRC x.val) b.val = true →
      ∃ t, exec (.faultSourceClear (.site x b)) s = .next t ∧
        t.getF F.FLT_SSRC_SRC x.val = clearBit (s.getF F.FLT_SSRC_SRC x.val) b.val % 2 ^ 13 ∧
        (clearBit (s.getF F.FLT_SSRC_SRC x.val) b.val = 0 → t.getF F.FLT_SSRC_QUIETING x.val = 1 ∧ t.siteSafe x.val = true) ∧
        { t with reg := s.reg, sumac := s.sumac, evAt := s.evAt, out := s.out } = s) ∧
    (s.wired x.val b.val = false → s.srcClears x.val b.val = false → exec (.faultSourceClear (.site x b)) s = .next s) ∧
    (s.wired x.val b.val = true → ∃ t, exec (.faultSourceClear (.site x b)) s = .next t ∧ t.wired x.val b.val = false ∧
      { t with reg := s.reg, sumac := s.sumac, evAt := s.evAt, out := s.out } = s)) ∧
  (∀ (b : Fin 7) (s : State), s.wired 16 b.val = false → s.srcClears 16 b.val = true →
    hasBit (s.getF F.FLT_STAT_CSRC 0) b.val = true → ∃ t, exec (.faultSourceClear (.chip b)) s = .next t ∧
      t.getF F.FLT_STAT_CSRC 0 = clearBit (s.getF F.FLT_STAT_CSRC 0) b.val % 2 ^ 7 ∧
      (clearBit (s.getF F.FLT_STAT_CSRC 0) b.val = 0 → t.getF F.FLT_SSRC_QUIETING 16 = 1) ∧
      { t with reg := s.reg, sumac := s.sumac, evAt := s.evAt, out := s.out } = s) ∧
  (∀ (b : Fin 7) (s : State), s.wired 16 b.val = true →
    (b.val ≠ 6 → ∃ t, exec (.faultSourceClear (.chip b)) s = .next t ∧ t.wired 16 b.val = false ∧
      { t with reg := s.reg, sumac := s.sumac, evAt := s.evAt, out := s.out } = s) ∧
    (b.val = 6 → exec (.faultSourceClear (.chip b)) s = .next s)) ∧
  (∀ (x : Fin 16) (b : Fin 13) (s : State),
    (s.wired x.val b.val = false → ∃ t, exec (.wireFault (.site x b)) s = .next t ∧
      t.getF F.FLT_STAT_WIREF 0 = 1 ∧ t.getF F.FLT_WIRE_SRC 0 = b.val ∧ t.getF F.FLT_WIRE_CHIPSRC 0 = 0 ∧
      t.getF F.FLT_WIRE_SITE 0 = x.val ∧ t.getF F.FLT_WIRE_CNT 0 = satAt F.FLT_WIRE_CNT.width (s.getF F.FLT_WIRE_CNT 0 + 1) ∧
      t.wired x.val b.val = true ∧ hasBit (t.getF F.FLT_SSRC_SRC x.val) b.val = true ∧ s.sameMems t ∧ t.site = s.site) ∧
    (s.wired x.val b.val = true → exec (.wireFault (.site x b)) s = .next s)) ∧
  (∀ (b : Fin 7) (s : State), s.wired 16 b.val = false → ∃ t, exec (.wireFault (.chip b)) s = .next t ∧
    t.getF F.FLT_STAT_WIREF 0 = 1 ∧ t.getF F.FLT_WIRE_SRC 0 = b.val ∧ t.getF F.FLT_WIRE_CHIPSRC 0 = 1 ∧
    t.wired 16 b.val = true ∧ hasBit (t.getF F.FLT_STAT_CSRC 0) b.val = true ∧ s.sameMems t ∧ t.site = s.site) ∧
  (∀ (k : Fin 17) (s : State) (used : Nat),
    used = (s.getF F.FLT_RCNT_RCNT k.val + 4294967296 - (if hasBit s.sumac.clearing k.val = true
      then Tbl.get (fun _ => 0) s.sumac.newBase k.val else s.getF F.FLT_RBASE_RBASE k.val)) % 4294967296 →
    (s.flag F.FLT_SSRC_QUIETING k.val = true → s.flag F.FLT_SSRC_LATCHED k.val = false → used < s.getF F.FLT_RLIM_RLIM 0 →
      ∃ t, exec (.quietEnd k) s = .next t ∧ t.getF F.FLT_SSRC_QUIETING k.val = 0 ∧ hasBit t.sumac.storing k.val = true ∧
        hasBit t.sumac.exiting k.val = true ∧ t.scopeHeld k.val = true ∧
        { t with reg := s.reg, sumac := s.sumac, evAt := s.evAt, out := s.out } = s) ∧
    (s.flag F.FLT_SSRC_QUIETING k.val = true → s.flag F.FLT_SSRC_LATCHED k.val = false → s.getF F.FLT_RLIM_RLIM 0 ≤ used →
      ∃ t, exec (.quietEnd k) s = .next t ∧ t.getF F.FLT_SSRC_QUIETING k.val = 0 ∧ t.getF F.FLT_SSRC_LATCHED k.val = 1 ∧
        t.scopeHeld k.val = true ∧ t.bb = s.bb ∧ t.dram = s.dram ∧ t.site = s.site ∧ t.eng = s.eng) ∧
    (s.flag F.FLT_SSRC_QUIETING k.val = true → s.flag F.FLT_SSRC_LATCHED k.val = true → ∃ t, exec (.quietEnd k) s = .next t ∧
      t.getF F.FLT_SSRC_QUIETING k.val = 0 ∧ t.getF F.FLT_SSRC_LATCHED k.val = s.getF F.FLT_SSRC_LATCHED k.val ∧
      { t with reg := s.reg, sumac := s.sumac, evAt := s.evAt, out := s.out } = s) ∧
    (s.flag F.FLT_SSRC_QUIETING k.val = false → s.resetCut k.val = true → s.flag F.FLT_SSRC_LATCHED k.val = false →
      s.getF F.FLT_RLIM_RLIM 0 ≤ used → ∃ t, exec (.quietEnd k) s = .next t ∧ t.getF F.FLT_SSRC_LATCHED k.val = 1 ∧
        t.bb = s.bb ∧ t.dram = s.dram ∧ t.site = s.site ∧ t.eng = s.eng) ∧
    (s.flag F.FLT_SSRC_QUIETING k.val = false → s.resetCut k.val = false ∨ s.flag F.FLT_SSRC_LATCHED k.val = true ∨
      used < s.getF F.FLT_RLIM_RLIM 0 → exec (.quietEnd k) s = .next s)) ∧
  (∀ (k : Fin 17) (s : State),
    (hasBit s.sumac.storing k.val = true →
      (∃ t, exec (.recoveryWriteDone k true) s = .next t ∧ hasBit t.sumac.storing k.val = false ∧
        hasBit t.sumac.exiting k.val = false ∧
        t.getF F.FLT_RCNT_RCNT k.val = (s.getF F.FLT_RCNT_RCNT k.val + 1) % 4294967296 ∧ t.boot.recSeq = s.boot.recSeq + 1 ∧
        Tbl.get (fun _ => none) t.boot.intents ((s.boot.recSeq + 1) % 8) =
          some ⟨s.boot.recSeq + 1, k.val, false, s.getF F.FLT_RCNT_RCNT k.val + 1⟩ ∧ t.bb = s.bb ∧ t.dram = s.dram ∧
        t.site = s.site ∧ t.eng = s.eng) ∧
      (∃ t, exec (.recoveryWriteDone k false) s = .next t ∧ hasBit t.sumac.storing k.val = false ∧
        t.getF F.FLT_STAT_NVMFAIL 0 = 1 ∧ t.getF F.FLT_SSRC_LATCHED k.val = 1 ∧
        t.getF F.FLT_RCNT_RCNT k.val = s.getF F.FLT_RCNT_RCNT k.val ∧ t.bb = s.bb ∧ t.dram = s.dram ∧ t.site = s.site)) ∧
    (hasBit s.sumac.storing k.val = false → hasBit s.sumac.clearing k.val = true →
      (∃ t, exec (.recoveryWriteDone k true) s = .next t ∧ hasBit t.sumac.clearing k.val = false ∧
        t.getF F.FLT_RBASE_RBASE k.val = Tbl.get (fun _ => 0) s.sumac.newBase k.val % 4294967296 ∧
        t.getF F.FLT_RCNT_RCNT k.val = s.getF F.FLT_RCNT_RCNT k.val) ∧
      (∃ t, exec (.recoveryWriteDone k false) s = .next t ∧ hasBit t.sumac.clearing k.val = false ∧
        t.getF F.FLT_STAT_NVMFAIL 0 = 1 ∧ t.getF F.FLT_SSRC_LATCHED k.val = 1 ∧
        t.getF F.FLT_RBASE_RBASE k.val = s.getF F.FLT_RBASE_RBASE k.val)) ∧
    (hasBit s.sumac.storing k.val = false → hasBit s.sumac.clearing k.val = false →
      ∀ okd, exec (.recoveryWriteDone k okd) s = .next s)) ∧
  (∀ (fn : Fn) (k : Fin 17) (s : State),
    (fn = .pf0 ∧ k.val = 16 ∨ (∃ n : Fin 16, fn = .vf n ∧ k.val = n.val ∧ s.vfLive fn = true) →
      hasBit s.sumac.clearing k.val = false → ∃ t, exec (.fltClear fn k) s = .next t ∧
      Tbl.get (fun _ => 0) t.sumac.newBase k.val = s.getF F.FLT_RCNT_RCNT k.val ∧
      t.getF F.FLT_RBASE_RBASE k.val = s.getF F.FLT_RBASE_RBASE k.val ∧ t.getF F.FLT_SSRC_LATCHED k.val = 0 ∧
      hasBit t.sumac.clearing k.val = true ∧ t.getF F.FLT_SSRC_STK k.val = s.getF F.FLT_SSRC_STK k.val ∧ s.sameMems t ∧
      t.eng = s.eng ∧ t.chan = s.chan ∧ { t with reg := s.reg, sumac := s.sumac, evAt := s.evAt, out := s.out } = s) ∧
    (hasBit s.sumac.clearing k.val = true → exec (.fltClear fn k) s = .next s) ∧
    (fn = .pf0 → k.val ≠ 16 → exec (.fltClear fn k) s = .next s) ∧
    (∀ n : Fin 16, fn = .vf n → k.val ≠ n.val → exec (.fltClear fn k) s = .next s)) ∧
  (∀ s : State, ∃ t, exec .faultRepeat s = .next t ∧ s.sameMems t ∧ t.eng = s.eng ∧ t.chan = s.chan ∧ t.site = s.site ∧
    t.sumac = s.sumac ∧
    (s.treeAsleep = false → { t with out := s.out, port := s.port } = s ∧
      ∀ x k, x < 16 → s.present x = true → s.faultsOut x = true → s.peersOf x ≠ [] → k < 5 → s.carries k = true →
        Out.flash k (flashWord 3 (s.ssn x) 0 0 (s.epl x) + (2 ^ k - 1) * 134217728) ∈ t.out)) ∧
  (∀ (x : Fin 16) (s : State), s.wired x.val 8 = false →
    (hasBit (s.getF F.FLT_SSRC_SRC x.val) 8 = true → ∃ t, exec (.remoteExpire x) s = .next t ∧
      t.getF F.FLT_SSRC_SRC x.val = clearBit (s.getF F.FLT_SSRC_SRC x.val) 8 % 2 ^ 13 ∧
      (clearBit (s.getF F.FLT_SSRC_SRC x.val) 8 = 0 → t.getF F.FLT_SSRC_QUIETING x.val = 1) ∧
      { t with reg := s.reg, sumac := s.sumac, evAt := s.evAt, out := s.out } = s) ∧
    (hasBit (s.getF F.FLT_SSRC_SRC x.val) 8 = false → exec (.remoteExpire x) s = .next s))) ∧
  ((∀ (p n : Bool) (s : State), ∃ t, exec (.fltinChange p n) s = .next t ∧ t.sumac.fltP = p ∧ t.sumac.fltN = n ∧
    (s.flag F.FLT_CFG_FLTINEN 0 = true → (p && !n) = false → hasBit (t.getF F.FLT_STAT_CSRC 0) 2 = true ∧
      (p = n → t.getF F.FLT_STAT_FLTIN_LINE 0 = 1)) ∧
    (s.flag F.FLT_CFG_FLTINEN 0 = false ∨ (p && !n) = true → s.wired 16 2 = false → hasBit (t.getF F.FLT_STAT_CSRC 0) 2 = false) ∧
    s.sameMems t ∧ t.eng = s.eng ∧ t.chan = s.chan ∧ t.site = s.site) ∧
  (∀ (b : Bool) (s : State),
    ((if b then s.sumac.openB else s.sumac.openA) = false → ∃ t, exec (.ilkOpen b) s = .next t ∧
      t.getF (if b then F.FLT_ILK_BCL else F.FLT_ILK_ACL) 0 = 0 ∧ t.getF F.FLT_ILK_OPENED 0 = 1 ∧
      t.getF F.FLT_ILKCNT_OPN 0 = satAt F.FLT_ILKCNT_OPN.width (s.getF F.FLT_ILKCNT_OPN 0 + 1) ∧
      hasBit (t.getF F.FLT_STAT_CSRC 0) 3 = true ∧ t.chipSafe = true ∧ (if b then t.sumac.openB else t.sumac.openA) = true ∧
      s.sameMems t ∧ t.eng = s.eng ∧ t.chan = s.chan ∧ t.site = s.site) ∧
    ((if b then s.sumac.openB else s.sumac.openA) = true → exec (.ilkOpen b) s = .next s)) ∧
  (∀ (b : Bool) (s : State), ∃ t, exec (.ilkClose b) s = .next t ∧ t.getF (if b then F.FLT_ILK_BCL else F.FLT_ILK_ACL) 0 = 1 ∧
    (if b then t.sumac.openB else t.sumac.openA) = false ∧
    (s.flag (if b then F.FLT_ILK_ACL else F.FLT_ILK_BCL) 0 = true → s.wired 16 3 = false →
      s.flag F.FLT_ILK_DISCREP 0 = false ∨ s.sumac.bothOpen = true →
      hasBit (t.getF F.FLT_STAT_CSRC 0) 3 = false ∧ t.getF F.FLT_ILK_DISCREP 0 = 0) ∧
    (s.flag (if b then F.FLT_ILK_ACL else F.FLT_ILK_BCL) 0 = false ∨
      s.flag F.FLT_ILK_DISCREP 0 = true ∧ s.sumac.bothOpen = false →
      RegsBut (keysAt 0 [if b then F.FLT_ILK_BCL else F.FLT_ILK_ACL, F.FLT_ILK_DISCREP]) s t) ∧
    { t with reg := s.reg, sumac := s.sumac, evAt := s.evAt, out := s.out } = s) ∧
  (∀ s : State,
    (s.flag F.FLT_ILK_ACL 0 ≠ s.flag F.FLT_ILK_BCL 0 → s.flag F.FLT_ILK_DISCREP 0 = false ∨ s.sumac.bothOpen = true →
      ∃ t, exec .discrepancyLatch s = .next t ∧ t.getF F.FLT_ILK_DISCREP 0 = 1 ∧ hasBit (t.getF F.FLT_STAT_CSRC 0) 3 = true ∧
        t.getF F.FLT_ILKCNT_DSC 0 = satAt F.FLT_ILKCNT_DSC.width (s.getF F.FLT_ILKCNT_DSC 0 + 1) ∧ t.sumac.bothOpen = false ∧
        s.sameMems t ∧ t.site = s.site) ∧
    (s.flag F.FLT_ILK_ACL 0 = s.flag F.FLT_ILK_BCL 0 ∨ s.flag F.FLT_ILK_DISCREP 0 = true ∧ s.sumac.bothOpen = false →
      exec .discrepancyLatch s = .next s)))

/-! ### The monitor (R403 to R410) -/

/-- R408 whole: a clean conversion adds to SUM and CNT, and one that would push CNT past its largest value leaves both and sets
SATF; the sum cannot overflow first. -/
def Obligations.MonitorCountSaturates : Prop :=
(∀ (raw : Int) (s : State), s.sumac.vio = true → 0 ≤ raw → raw ≤ 65535 → s.getF F.MON_STAT_DLEFT 0 = 0 →
    ((s.monOf s.mon0).cnt < 4294967295 → ∃ t, exec (.conversionEnd raw) s = .next t ∧
      (t.monOf s.mon0).sum = (s.monOf s.mon0).sum + raw.toNat ∧ (t.monOf s.mon0).cnt = (s.monOf s.mon0).cnt + 1 ∧
      t.getF F.MON_FLG_SATF s.mon0 = s.getF F.MON_FLG_SATF s.mon0) ∧
    (4294967295 ≤ (s.monOf s.mon0).cnt → ∃ t, exec (.conversionEnd raw) s = .next t ∧
      (t.monOf s.mon0).sum = (s.monOf s.mon0).sum ∧ (t.monOf s.mon0).cnt = (s.monOf s.mon0).cnt ∧
      t.getF F.MON_FLG_SATF s.mon0 = 1)) ∧
  (65535 * (2 ^ 32 - 1) < 2 ^ 48)

/-- A conversion counts and shows its input, an over-range one is clamped, flagged and makes the next two discards, and a discard
counts; the next conversion takes the selection. SNAP and CLR act on all 32 inputs in one step. -/
def Obligations.MonitorConversions : Prop :=
(∀ (raw : Int) (s : State), s.sumac.vio = true → ∃ t, exec (.conversionEnd raw) s = .next t ∧
    t.getF F.MON_STAT_CUR 0 = s.mon0 % 2 ^ F.MON_STAT_CUR.width ∧
    t.getF F.MON_CONV_CNT 0 = (s.getF F.MON_CONV_CNT 0 + 1) % 2 ^ F.MON_CONV_CNT.width ∧ t.mon0 = s.getF F.MON_SEL_SEL 0 ∧
    (∀ k, k ≠ s.mon0 → t.monOf k = s.monOf k) ∧ { t with reg := s.reg, mon := s.mon, mon0 := s.mon0 } = s ∧
    (raw < 0 → t.getF F.MON_FLG_OVR s.mon0 = 1 ∧ t.getF F.MON_STAT_DLEFT 0 = 2 ∧ (t.monOf s.mon0).min = 0 ∧
      (t.monOf s.mon0).sum = (s.monOf s.mon0).sum) ∧
    (65535 < raw → t.getF F.MON_FLG_OVR s.mon0 = 1 ∧ t.getF F.MON_STAT_DLEFT 0 = 2 ∧
      (t.monOf s.mon0).max = max (s.monOf s.mon0).max 65535 ∧ (t.monOf s.mon0).cnt = (s.monOf s.mon0).cnt) ∧
    (0 ≤ raw → raw ≤ 65535 → s.getF F.MON_STAT_DLEFT 0 ≠ 0 → t.monOf s.mon0 = s.monOf s.mon0 ∧
      t.getF F.MON_DISC_CNT s.mon0 = satAt F.MON_DISC_CNT.width (s.getF F.MON_DISC_CNT s.mon0 + 1))) ∧
  (∀ (raw : Int) (s : State), s.sumac.vio = false → exec (.conversionEnd raw) s = .next s) ∧
  (∀ (n : Fin 16) (sel : Nat) (s : State), exec (.monSelect (.vf n) sel) s = .next s ∧ exec (.monSnap (.vf n)) s = .next s ∧
    exec (.monClr (.vf n)) s = .next s) ∧
  (∀ (sel : Nat) (s : State), ∃ t, exec (.monSelect .pf0 sel) s = .next t ∧
    t.getF F.MON_SEL_SEL 0 = sel % 2 ^ F.MON_SEL_SEL.width ∧ RegsOnly [F.MON_SEL_SEL.key 0] s t) ∧
  (∀ s : State, ∃ t, exec (.monSnap .pf0) s = .next t ∧ { t with reg := s.reg } = s ∧
    t.getF F.MON_SNT_NS 0 = Time.ns32 (s.localNow 11) % 4294967296 ∧
    ∀ i, i < 32 → t.getF F.MON_SUM_LO_SUM i = (s.monOf i).sum % 4294967296 ∧
      t.getF F.MON_SUM_HI_SUM i = (s.monOf i).sum / 4294967296 % 2 ^ F.MON_SUM_HI_SUM.width ∧
      t.getF F.MON_CNT_CNT i = (s.monOf i).cnt % 4294967296 ∧ t.getF F.MON_MM_MIN i = (s.monOf i).min % 65536 ∧
      t.getF F.MON_MM_MAX i = (s.monOf i).max % 65536) ∧
  (∀ s : State, ∃ t, exec (.monClr .pf0) s = .next t ∧ { t with reg := s.reg, mon := s.mon } = s ∧
    (∀ i, i < 32 → t.monOf i = {} ∧ t.getF F.MON_OVRCNT_CNT i = 0 ∧ t.getF F.MON_DISC_CNT i = 0 ∧ t.getF F.MON_FLG_SATF i = 0) ∧
    RegsBut ((List.range 32).flatMap (fun i => keysAt i [F.MON_OVRCNT_CNT, F.MON_DISC_CNT, F.MON_FLG_SATF])) s t)

/-! ### Power, boot and reload (R115, R352, R411 to R434, R460, R470) -/

/-- Where each command of this group completes (R352, R397, R411 to R420, R430, R432, R460, R466, R470). PGOOD_RISE starts a boot from a
reset chip; PGOOD_FALL resets all but Nutmeg; BROWN_OUT and VAUX_RISE reset Nutmeg; VIO_VALID starts the monitor and shows ERR; REBOOT boots
again; DRAM_TRAINING_DONE and BOOT_RUN go on to RUN, which zeroes the regions of every site (R332); JTAG_INSTRUCTION selects. -/
def Obligations.PowerAndBoot : Prop :=
(∀ (b : Board) (s : State),
    (s.nutmeg.pgood = false → ∃ t, exec (.pgoodRise b) s = .next t ∧ t.nutmeg.pgood = true ∧
      t.boot.flash = b.flash ∧ t.boot.sfdp = b.sfdp ∧ t.getF F.GLB_RSTCAUSE_COLD 0 = (if s.nutmeg.cold then 1 else 0) ∧
      t.getF F.GLB_RSTCAUSE_WAKEUP 0 = (if s.nutmeg.standby then 1 else 0) ∧ t.nutmeg.cold = false ∧ t.nutmeg.standby = false ∧
      t.dram = [] ∧ t.bb = [] ∧ t.cstore = [] ∧ t.ready = [] ∧ t.stream = [] ∧
      (s.keyState 0 ≠ 1 → s.keyState 1 ≠ 1 → t.phase = 10 ∧ t.getF F.GLB_BOOTSTAT_FAILWHY 0 = 1 ∧
        hasBit (t.getF F.HST_EVT_EVT 16) 4 = true)) ∧
    (s.nutmeg.pgood = true → exec (.pgoodRise b) s = .next s)) ∧
  (∀ s : State,
    (s.nutmeg.pgood = true → ∃ t, exec .pgoodFall s = .next t ∧ t.nutmeg.pgood = false ∧
      (s.nutmeg.standby = false → hasBit t.nutmeg.cause 1 = true) ∧ (s.nutmeg.standby = true → t.sumac.vio = false) ∧
      t.dram = [] ∧ t.bb = [] ∧ t.cstore = [] ∧ t.ready = [] ∧ t.warm = s.warm ∧
      ∀ f i, i < 1048576 → (F.OCT_TDCSTAT_WARMNOW :: nvmFlds).all (fun g => g.id != f.id) = true → t.getF f i = f.reset i) ∧
    (s.nutmeg.pgood = false → exec .pgoodFall s = .next s)) ∧
  (∀ s : State, ∃ t, exec .brownOut s = .next t ∧ t.nutmeg = {} ∧ t.dram = [] ∧ t.sumac.vio = false ∧
    (s.nutmeg.pwrEn = true → Out.pwrEn false ∈ t.out)) ∧
  (∀ s : State, exec .vauxRise s = .next { s with nutmeg := { pgood := s.nutmeg.pgood, pwrEn := true },
                                                  out := .pwrEn true :: s.out }) ∧
  (∀ s : State,
    (s.sumac.vio = false → ∃ t, exec .vioValid s = .next t ∧ t.sumac.vio = true ∧ t.mon0 = s.getF F.MON_SEL_SEL 0 ∧
      t.out = Out.err (s.flag F.FLT_STAT_ERR 0) :: s.out ∧ { t with sumac := s.sumac, mon0 := s.mon0, out := s.out } = s) ∧
    (s.sumac.vio = true → exec .vioValid s = .next s)) ∧
  (∀ (fn : Fn) (s : State),
    (fn = .pf0 → s.nutmeg.pgood = true → ∃ t, exec (.reboot fn) s = .next t ∧ t.getF F.GLB_RSTCAUSE_REBOOT 0 = 1 ∧ t.dram = [] ∧
      t.bb = [] ∧ t.cstore = [] ∧ t.ready = [] ∧ t.nutmeg.cause = 0 ∧ t.nutmeg.pgood = true) ∧
    (fn ≠ .pf0 ∨ s.nutmeg.pgood = false → exec (.reboot fn) s = .next s)) ∧
  (∀ (l : List Nat) (s : State), l = (List.range 16).filter (fun d => s.flag F.MEM_CHTR_INSVC d) →
    (s.phase = 4 → l ≠ [] → exec (.dramTrainingDone ()) s = .next ((s.trainShow l).bootInit s.image) ∧
      (s.trainShow l).getF F.MEM_STAT_NCH 0 = l.length ∧
      (s.trainShow l).getF F.MEM_STAT_MODMAP 0 = (if l.length < 16 then 1 else 0) ∧ (s.trainShow l).boot.pass = none ∧
      (s.image.find 5 = [] → s.image.find 1 = [] → ∃ t, exec (.dramTrainingDone ()) s = .next t ∧ t.phase = 7)) ∧
    (s.phase = 4 → l = [] → s.image.find 4 = [] → ∃ t, exec (.dramTrainingDone ()) s = .next t ∧ t.phase = 9 ∧
      t.getF F.GLB_BOOTSTAT_FAILWHY 0 = 4 ∧ hasBit (t.getF F.HST_EVT_EVT 16) 4 = true) ∧
    (s.phase ≠ 4 → exec (.dramTrainingDone ()) s = .next s)) ∧
  (∀ (us : Nat) (s : State),
    (s.phase = 7 → s.image.find 6 = [] → ∃ t, exec (.bootRun us) s = .next t ∧ t.phase = 8 ∧
      t.getF F.GLB_BOOTT_US 0 = us % 2 ^ F.GLB_BOOTT_US.width ∧ t.boot.trainDue.isSome = true ∧
      (s.wired 16 5 = false → hasBit (t.getF F.FLT_STAT_CSRC 0) 5 = false) ∧
      (∀ x r a, x < 16 → s.present x = true → r ∈ s.validRegions x → s.regLo x r ≤ a → a < s.regHi x r → t.dramByte a = 0) ∧
      (∀ a, (∀ x r, x < 16 → s.present x = true → r ∈ s.validRegions x → a < s.regLo x r ∨ s.regHi x r ≤ a) →
        t.dramByte a = s.dramByte a) ∧
      s.sameMems { t with dram := s.dram } ∧ t.eng = s.eng ∧ t.chan = s.chan) ∧
    (s.phase ≠ 7 → exec (.bootRun us) s = .next s)) ∧
  (∀ (ins : JtagIns) (s : State), ∃ t, exec (.jtagInstruction ins) s = .next t ∧ { t with tap := s.tap } = s ∧
    (s.phase = 0 ∨ s.phase = 9 ∨ s.phase = 10 ∨ ins = .samplePreload → t.tap = ins) ∧
    (s.phase ≠ 0 → s.phase ≠ 9 → s.phase ≠ 10 → ins ≠ .samplePreload → t.tap = .bypass))

/-- R114, R115: RELOAD from PF0 takes an idle engine to RELOAD, and is refused otherwise; it ends with the section in staging, and in store
and mirror, or with nothing changed in them.
A power request from PF0 in the right state makes the chip busy, and is refused otherwise; its end shows the new state and raises
PF0 event 5; STANDBY drops PWR_EN and a wake gives it back. -/
def Obligations.ReloadAndPowerStates : Prop :=
  ((∀ (e : Fin 16) (sec : Nat) (copy : Bool) (s : State),
    (s.engState e.val = 0 → (∀ k, k < 16 → s.engState k ≠ 4) → ∃ t, exec (.reload .pf0 e sec copy) s = .next t ∧
      t.engState e.val = 4 ∧ t.engOf e.val = { s.engOf e.val with reload := some (sec % 256, copy) } ∧
      (∀ k, k ≠ e.val → t.engOf k = s.engOf k) ∧ { t with reg := s.reg, eng := s.eng, ready := s.ready, boot := s.boot } = s ∧
      ((∀ j ∈ s.ready, j.prio < 7) → t.ready = s.ready ∧ t.boot = s.boot ∧
        RegsBut (keysAt e.val [F.SE_CTL_RELSEC, F.SE_CTL_RELCOPY, F.SE_STATE_STATE]) s t)) ∧
    (s.engState e.val ≠ 0 ∨ (∃ k, k < 16 ∧ s.engState k = 4) → ∃ t, exec (.reload .pf0 e sec copy) s = .next t ∧
      t.getF F.SE_STAT_RLD_REJ e.val = 1 ∧
      RegsOnly (keysAt e.val [F.SE_CTL_RELSEC, F.SE_CTL_RELCOPY, F.SE_STAT_RLD_REJ]) s t) ∧
    (∀ n : Fin 16, exec (.reload (.vf n) e sec copy) s = .next s)) ∧
  (∀ (e : Fin 16) (sec : Nat) (copy : Bool) (s : State), (s.engOf e.val).reload = some (sec, copy) →
    (s.reloadSec e.val sec copy = none → ∃ t, exec (.reloadDone e) s = .next t ∧
      t.engState e.val = (if s.engState e.val = 5 then 5 else 0) ∧
      t.getF F.SE_STAT_RLD_FAIL e.val = 1 ∧ (t.engOf e.val).reload = none ∧ s.sameMems t ∧
      t.boot = { s.boot with staging := s.staged sec copy } ∧ { t with reg := s.reg, eng := s.eng, boot := s.boot } = s) ∧
    (∀ c, s.reloadSec e.val sec copy = some c → ∃ t, exec (.reloadDone e) s = .next t ∧
      t.engState e.val = (if s.engState e.val = 5 then 5 else 0) ∧
      t.getF F.SE_STAT_RLD_DONE e.val = 1 ∧ t.getF F.SEQ_UCODE_VER_UVER e.val = c.ver % 2 ^ F.SEQ_UCODE_VER_UVER.width ∧
      t.getF F.SEQ_UCODE_VER_RELOADED e.val = 1 ∧ t.cstore = putImage s.cstore e.val (words24 c.payload) ∧
      t.mirror = putImage s.mirror e.val (words24 c.payload) ∧ (t.engOf e.val).reload = none ∧
      t.boot = { s.boot with staging := s.staged sec copy } ∧
      { t with reg := s.reg, eng := s.eng, cstore := s.cstore, mirror := s.mirror, boot := s.boot } = s)) ∧
  (∀ (e : Fin 16) (s : State), (s.engOf e.val).reload = none → exec (.reloadDone e) s = .next s)) ∧
  ((∀ s : State, s.flag F.GLB_PWRSTAT_BUSY 0 = false →
    (s.pwr = 1 → ∃ t, exec (.pwrReqActive .pf0) s = .next t ∧ t.getF F.GLB_PWRSTAT_BUSY 0 = 1 ∧
      t.boot = { s.boot with power := some 0, pwrNs := s.nowNs } ∧
      { t with reg := s.reg, boot := s.boot } = s ∧ RegsBut (keysAt 0 [F.GLB_PWRCTL_REQ, F.GLB_PWRSTAT_BUSY]) s t) ∧
    (s.pwr = 0 → s.idleOk = true → ∃ t, exec (.pwrReqIdle .pf0) s = .next t ∧ t.getF F.GLB_PWRSTAT_BUSY 0 = 1 ∧
      t.boot = { s.boot with power := some 1, pwrNs := s.nowNs } ∧ { t with reg := s.reg, boot := s.boot } = s ∧
      RegsBut (keysAt 0 [F.GLB_PWRCTL_REQ, F.GLB_PWRSTAT_BUSY]) s t) ∧
    (s.pwr = 1 → s.anyRun = false → ∃ t, exec (.pwrReqDormant .pf0) s = .next t ∧ t.getF F.GLB_PWRSTAT_BUSY 0 = 1 ∧
      t.boot = { s.boot with power := some 2, pwrNs := s.nowNs } ∧ s.sameMems t ∧ t.chan = s.chan ∧ t.eng = s.eng) ∧
    (s.pwr = 1 ∨ s.pwr = 2 → (s.nvmBusy = false → s.nutmeg.standby = false → ∃ t, exec (.pwrReqStandby .pf0) s = .next t ∧
        t.pwr = 3 ∧ t.nutmeg.standby = true ∧ t.nutmeg.pwrEn = false ∧ t.out = Out.pwrEn false :: s.out ∧ t.boot.power = some 3 ∧
        { t with reg := s.reg, boot := s.boot, nutmeg := s.nutmeg, out := s.out } = s) ∧
      (s.nvmBusy = true → ∃ t, exec (.pwrReqStandby .pf0) s = .next t ∧ t.getF F.GLB_PWRSTAT_BUSY 0 = 1 ∧
        t.boot = { s.boot with power := some 3, pwrNs := s.nowNs } ∧ { t with reg := s.reg, boot := s.boot } = s))) ∧
  (∀ s : State,
    (s.flag F.GLB_PWRSTAT_BUSY 0 = true ∨ s.pwr ≠ 1 → ∃ t, exec (.pwrReqActive .pf0) s = .next t ∧
      t.getF F.GLB_PWRSTAT_PWR_REJ 0 = 1 ∧ RegsOnly (keysAt 0 [F.GLB_PWRCTL_REQ, F.GLB_PWRSTAT_PWR_REJ]) s t) ∧
    (s.flag F.GLB_PWRSTAT_BUSY 0 = true ∨ s.pwr ≠ 0 ∨ s.idleOk = false → ∃ t, exec (.pwrReqIdle .pf0) s = .next t ∧
      t.getF F.GLB_PWRSTAT_PWR_REJ 0 = 1 ∧ RegsOnly (keysAt 0 [F.GLB_PWRCTL_REQ, F.GLB_PWRSTAT_PWR_REJ]) s t) ∧
    (s.flag F.GLB_PWRSTAT_BUSY 0 = true ∨ s.pwr ≠ 1 ∨ s.anyRun = true → ∃ t, exec (.pwrReqDormant .pf0) s = .next t ∧
      t.getF F.GLB_PWRSTAT_PWR_REJ 0 = 1 ∧ RegsOnly (keysAt 0 [F.GLB_PWRCTL_REQ, F.GLB_PWRSTAT_PWR_REJ]) s t) ∧
    (s.flag F.GLB_PWRSTAT_BUSY 0 = true ∨ s.pwr ≠ 1 ∧ s.pwr ≠ 2 → ∃ t, exec (.pwrReqStandby .pf0) s = .next t ∧
      t.getF F.GLB_PWRSTAT_PWR_REJ 0 = 1 ∧ RegsOnly (keysAt 0 [F.GLB_PWRCTL_REQ, F.GLB_PWRSTAT_PWR_REJ]) s t) ∧
    ∀ n : Fin 16, exec (.pwrReqActive (.vf n)) s = .next s ∧ exec (.pwrReqIdle (.vf n)) s = .next s ∧
      exec (.pwrReqDormant (.vf n)) s = .next s ∧ exec (.pwrReqStandby (.vf n)) s = .next s) ∧
  (∀ s : State,
    (s.boot.power = some 0 → ∃ t, exec .powerTransitionDone s = .next t ∧ t.pwr = 0 ∧ t.getF F.GLB_PWRSTAT_BUSY 0 = 0 ∧
      t.boot.power = none ∧ hasBit (t.getF F.HST_EVT_EVT 16) 5 = true ∧ (∀ c, c < 64 → (t.chanOf c).held = true) ∧ s.sameMems t) ∧
    (s.boot.power = some 1 → ∃ t, exec .powerTransitionDone s = .next t ∧ t.pwr = 1 ∧ t.getF F.GLB_PWRSTAT_BUSY 0 = 0 ∧
      t.boot.power = none ∧ hasBit (t.getF F.HST_EVT_EVT 16) 5 = true ∧ (∀ c, c < 64 → (t.chanOf c).pin = .idle) ∧ s.sameMems t) ∧
    (s.boot.power = some 2 → s.getF F.FAB_SLPSTAT_STATE 0 = 3 → ∃ t, exec .powerTransitionDone s = .next t ∧ t.pwr = 2 ∧
      t.getF F.GLB_PWRSTAT_BUSY 0 = 0 ∧ t.boot.power = none ∧ hasBit (t.getF F.HST_EVT_EVT 16) 5 = true ∧
      (∀ n, n < 4 → t.getF F.CLK_LPSTAT_LOCK n = 0) ∧ s.sameMems t) ∧
    (s.boot.power = some 2 → s.getF F.FAB_SLPSTAT_STATE 0 = 0 → ∃ t, exec .powerTransitionDone s = .next t ∧ t.pwr = s.pwr ∧
      t.getF F.GLB_PWRSTAT_CANCELLED 0 = 1 ∧ t.getF F.GLB_PWRSTAT_BUSY 0 = 0 ∧ t.boot.power = none ∧ s.sameMems t) ∧
    (s.boot.power = some 3 → s.nvmBusy = false → s.nutmeg.standby = false → ∃ t, exec .powerTransitionDone s = .next t ∧
      t.pwr = 3 ∧ t.nutmeg.standby = true ∧ t.nutmeg.pwrEn = false ∧ t.out = Out.pwrEn false :: s.out) ∧
    (s.boot.power = none → s.pwr = 2 → s.getF F.FAB_SLPSTAT_STATE 0 = 0 → ∃ t, exec .powerTransitionDone s = .next t ∧
      t.pwr = 1 ∧ (∀ x, x < 16 → (s.siteOf x).regionsLeft ≠ [] → t.getF F.SITE_SSTAT_SCRUB x = 1) ∧
      (∀ x r a, x < 16 → r ∈ (s.siteOf x).regionsLeft → s.regLo x r ≤ a → a < s.regHi x r → t.dramByte a = 0) ∧
      (∀ a, (∀ x r, x < 16 → r ∈ (s.siteOf x).regionsLeft → a < s.regLo x r ∨ s.regHi x r ≤ a) → t.dramByte a = s.dramByte a) ∧
      s.sameMems { t with dram := s.dram }) ∧
    (s.boot.power = none → s.pwr ≠ 2 ∨ s.getF F.FAB_SLPSTAT_STATE 0 ≠ 0 → exec .powerTransitionDone s = .next s) ∧
    (s.boot.power = some 2 → s.getF F.FAB_SLPSTAT_STATE 0 = 1 ∨ s.getF F.FAB_SLPSTAT_STATE 0 = 2 →
      exec .powerTransitionDone s = .next s) ∧
    (s.boot.power = some 3 → s.nvmBusy = true ∨ s.nutmeg.standby = true → exec .powerTransitionDone s = .next s)) ∧
  (∀ s : State,
    (s.nutmeg.standby = true → exec .wakePin s = .next { s with nutmeg := { s.nutmeg with wakeHeld := true } }) ∧
    (s.nutmeg.standby = false → s.boot.power = some 3 → ∃ t, exec .wakePin s = .next t ∧
      t.getF F.GLB_PWRSTAT_CANCELLED 0 = 1 ∧ t.getF F.GLB_PWRSTAT_BUSY 0 = 0 ∧ t.boot.power = none ∧ t.pwr = s.pwr ∧ s.sameMems t) ∧
    (s.nutmeg.standby = false → s.boot.power ≠ some 3 →
      exec .wakePin s = .next ({ s with nutmeg := { s.nutmeg with wakeNs := some s.nowNs } } : State).wakeRequest ∧
      (s.getF F.FAB_SLPSTAT_STATE 0 = 0 → exec .wakePin s = .next { s with nutmeg := { s.nutmeg with wakeNs := some s.nowNs } }))) ∧
  (∀ s : State,
    (s.nutmeg.standby = true → s.nutmeg.wakeHeld = true → s.nutmeg.pwrEn = false →
      exec .standbyHoldEnd s = .next { s with nutmeg := { s.nutmeg with pwrEn := true, wakeHeld := false },
                                              out := .pwrEn true :: s.out }) ∧
    (s.nutmeg.standby = false ∨ s.nutmeg.wakeHeld = false ∨ s.nutmeg.pwrEn = true → exec .standbyHoldEnd s = .next s)))

/-- The two keys in order arm for 10 µs, GO starts an armed and allowed command once and fails otherwise, and its end clears BUSY and
raises PF0 event 6 (R422 to R424). -/
def Obligations.NvmCommands : Prop :=
(∀ (d : Nat) (s : State),
    (d % 4294967296 = 0x53544F52 → ∃ t, exec (.nvmKey .pf0 d) s = .next t ∧ t.boot = { s.boot with keySeq := 1 } ∧
      t.getF F.NVM_STAT_KEYARM 0 = 0 ∧ { t with reg := s.reg, boot := s.boot } = s ∧ RegsBut [F.NVM_STAT_KEYARM.key 0] s t) ∧
    (d % 4294967296 = 0xACABB0AD → s.boot.keySeq = 1 → ∃ t, exec (.nvmKey .pf0 d) s = .next t ∧
      t.boot = { s.boot with keySeq := 0, keyNs := s.time.ticks } ∧
      t.getF F.NVM_STAT_KEYARM 0 = 1 ∧ { t with reg := s.reg, boot := s.boot } = s ∧ RegsBut [F.NVM_STAT_KEYARM.key 0] s t) ∧
    (d % 4294967296 ≠ 0x53544F52 → d % 4294967296 ≠ 0xACABB0AD ∨ s.boot.keySeq ≠ 1 → ∃ t, exec (.nvmKey .pf0 d) s = .next t ∧
      t.boot = { s.boot with keySeq := 0 } ∧ t.getF F.NVM_STAT_KEYARM 0 = 0 ∧
      { t with reg := s.reg, boot := s.boot } = s ∧ RegsBut [F.NVM_STAT_KEYARM.key 0] s t) ∧
    ∀ n : Fin 16, exec (.nvmKey (.vf n) d) s = .next s) ∧
  (∀ s : State,
    (s.boot.keyNs + 10000 ≤ s.time.ticks → ∃ t, exec .keyarmExpire s = .next t ∧ t.getF F.NVM_STAT_KEYARM 0 = 0 ∧
      RegsOnly [F.NVM_STAT_KEYARM.key 0] s t) ∧
    (s.time.ticks < s.boot.keyNs + 10000 → exec .keyarmExpire s = .next s)) ∧
  (∀ s : State, s.flag F.NVM_STAT_KEYARM 0 = true → s.time.ticks < s.boot.keyNs + 10000 → s.flag F.NVM_STAT_BUSY 0 = false →
    (∃ t, exec (.nvmStore .pf0) s = .next t ∧ t.boot = { s.boot with keySeq := 0, cmd := some (1, 0), cmdBuf := s.psbuf, cmdNs := s.nowNs } ∧
      t.getF F.NVM_STAT_BUSY 0 = 1 ∧ t.getF F.NVM_STAT_KEYARM 0 = 0 ∧ { t with reg := s.reg, boot := s.boot } = s ∧
      RegsBut (keysAt 0 [F.NVM_STAT_KEYARM, F.NVM_STAT_BUSY, F.NVM_CMD_CMD]) s t) ∧
    (∀ n : Fin 2, s.keyState n.val = 0 → (s.psBytes 48).any (fun b => b != 0) = true →
      (s.psBytes 48).any (fun b => b != 255) = true → ∃ t, exec (.nvmProgram .pf0 n) s = .next t ∧
      t.boot = { s.boot with keySeq := 0, cmd := some (2, n.val), cmdBuf := s.psbuf, cmdNs := s.nowNs } ∧ t.getF F.NVM_STAT_BUSY 0 = 1 ∧
      t.getF F.NVM_STAT_KEYARM 0 = 0 ∧ { t with reg := s.reg, boot := s.boot } = s ∧
      RegsBut (keysAt 0 [F.NVM_STAT_KEYARM, F.NVM_STAT_BUSY, F.NVM_CMD_CMD, F.NVM_CMD_SLOT]) s t) ∧
    (∀ n : Fin 2, s.keyState n.val = 1 → s.keyState (1 - n.val) = 1 → ∃ t, exec (.nvmRevoke .pf0 n) s = .next t ∧
      t.boot = { s.boot with keySeq := 0, cmd := some (3, n.val), cmdBuf := s.psbuf, cmdNs := s.nowNs } ∧ t.getF F.NVM_STAT_BUSY 0 = 1 ∧
      t.getF F.NVM_STAT_KEYARM 0 = 0 ∧ { t with reg := s.reg, boot := s.boot } = s ∧
      RegsBut (keysAt 0 [F.NVM_STAT_KEYARM, F.NVM_STAT_BUSY, F.NVM_CMD_CMD, F.NVM_CMD_SLOT]) s t)) ∧
  (∀ (n : Fin 2) (s : State), s.flag F.NVM_STAT_KEYARM 0 = false ∨ s.boot.keyNs + 10000 ≤ s.time.ticks ∨ s.flag F.NVM_STAT_BUSY 0 = true →
    (∃ t, exec (.nvmStore .pf0) s = .next t ∧ t.getF F.NVM_STAT_FAIL 0 = 1 ∧ t.boot = { s.boot with keySeq := 0 } ∧
      { t with reg := s.reg, boot := s.boot } = s ∧ RegsBut (keysAt 0 [F.NVM_STAT_KEYARM, F.NVM_STAT_FAIL, F.NVM_CMD_CMD]) s t) ∧
    (∃ t, exec (.nvmProgram .pf0 n) s = .next t ∧ t.getF F.NVM_STAT_FAIL 0 = 1 ∧ t.boot = { s.boot with keySeq := 0 }) ∧
    (∃ t, exec (.nvmRevoke .pf0 n) s = .next t ∧ t.getF F.NVM_STAT_FAIL 0 = 1 ∧ t.boot = { s.boot with keySeq := 0 })) ∧
  (∀ (n : Fin 2) (s : State),
    (s.keyState n.val ≠ 0 → ∃ t, exec (.nvmProgram .pf0 n) s = .next t ∧ t.getF F.NVM_STAT_FAIL 0 = 1 ∧ t.boot.cmd = s.boot.cmd) ∧
    (s.keyState n.val ≠ 1 ∨ s.keyState (1 - n.val) ≠ 1 → ∃ t, exec (.nvmRevoke .pf0 n) s = .next t ∧
      t.getF F.NVM_STAT_FAIL 0 = 1 ∧ t.boot.cmd = s.boot.cmd) ∧
    ∀ v : Fin 16, exec (.nvmStore (.vf v)) s = .next s ∧ exec (.nvmProgram (.vf v) n) s = .next s ∧
      exec (.nvmRevoke (.vf v) n) s = .next s) ∧
  (∀ (okd : Bool) (c n : Nat) (s : State), s.boot.cmd = some (c, n) → c ≠ 1 ∨ s.storeWaits = false →
    ∃ t, exec (.nvmWriteDone okd) s = .next t ∧ t.boot.cmd = none ∧ t.getF F.NVM_STAT_BUSY 0 = 0 ∧
      hasBit (t.getF F.HST_EVT_EVT 16) 6 = true ∧
      (okd = true → t.getF F.NVM_STAT_DONE 0 = 1) ∧ (okd = false → t.getF F.NVM_STAT_FAIL 0 = 1) ∧
      (okd = true → c = 1 → t.getF F.NVM_STAT_PSVALID 0 = 1 ∧ t.nvmBytes (s.storePage * 1024) 1024 = s.storedPage) ∧
      (c = 2 → n < 2 → t.keyState n = if okd then 1 else 3) ∧ (c = 3 → n < 2 → t.keyState n = if okd then 2 else 3) ∧
      t.dram = s.dram ∧ t.bb = s.bb ∧ t.cstore = s.cstore ∧ t.chan = s.chan ∧ t.site = s.site) ∧
  (∀ (okd : Bool) (s : State), s.boot.cmd = none ∨ (∃ n, s.boot.cmd = some (1, n)) ∧ s.storeWaits = true →
    exec (.nvmWriteDone okd) s = .next s)

/-! ### The host interface (R435 to R447, R464, R465) -/

/-- R446: a raised event bit sends its vector's message when it goes from 0 to 1 unmasked, and sends nothing further while it is 1;
a bit that stands sends its message when HST_EVMSK unmasks it. -/
def Obligations.EventVectors : Prop :=
(∀ (s : State) (f k : Nat), hasBit (s.getF F.HST_EVT_EVT f) k = true → { s.raise f k with evAt := s.evAt } = s) ∧
  (∀ (s : State) (f : Fin 17) (k : Nat), k < 16 → hasBit (s.getF F.HST_EVT_EVT f.val) k = false →
    hasBit ((s.raise f.val k).getF F.HST_EVT_EVT f.val) k = true ∧
    (hasBit (s.getF F.HST_EVMSK_MSK f.val) k = true → (s.raise f.val k).out = s.out) ∧
    (hasBit (s.getF F.HST_EVMSK_MSK f.val) k = false →
      (hasBit s.msixEn f.val = true → s.getF F.MSIX_CTRL_MASK (k * 17 + f.val) = 0 →
        (s.raise f.val k).out = Out.msix (if h : f.val < 16 then .vf ⟨f.val, h⟩ else .pf0) k :: s.out) ∧
      (hasBit s.msixEn f.val = false ∨ s.getF F.MSIX_CTRL_MASK (k * 17 + f.val) ≠ 0 → (s.raise f.val k).out = s.out ∧
        hasBit ((s.raise f.val k).getF F.MSIX_PBA_PEND f.val) k = true))) ∧
  (∀ (fn : Fn) (m v : Nat) (s : State), fn = .pf0 ∨ s.vfLive fn = true → v = m % (if fn = .pf0 then 256 else 65536) →
    ∃ t, exec (.evmskWrite fn m) s = .next t ∧ t.getF F.HST_EVMSK_MSK (fnIx fn) = v ∧
    (∀ k, k < 16 → hasBit (s.getF F.HST_EVMSK_MSK (fnIx fn)) k = true → hasBit v k = false →
      hasBit (s.getF F.HST_EVT_EVT (fnIx fn)) k = true → hasBit s.msixEn (fnIx fn) = true →
      s.getF F.MSIX_CTRL_MASK (k * 17 + fnIx fn) = 0 → Out.msix fn k ∈ t.out) ∧
    ((∀ k, k < 16 → hasBit (s.getF F.HST_EVT_EVT (fnIx fn)) k = false) → t.out = s.out) ∧
    { t with reg := s.reg, out := s.out } = s ∧ RegsBut (keysAt (fnIx fn) [F.HST_EVMSK_MSK, F.MSIX_PBA_PEND]) s t) ∧
  (∀ (fn : Fn) (m : Nat) (s : State), fn ≠ .pf0 → s.vfLive fn = false → exec (.evmskWrite fn m) s = .next s)

/-- Where each command of this group completes (R5, R424, R433, R436 to R442, R447, R464). REGISTER_WRITE acts on the register it names, of
8 bytes on two, or puts bytes into NVM_PSBUF; a wrong size is an error. RING_ENABLE leaves both counts 0, RING_DISABLE clears EN;
SUBMIT_PROD_WRITE, STREAM_IN_PROD_WRITE and CONS_WRITE may neither go back nor exceed the ring, and the slots of a write are there from the
next cycle on; WINDOW_BASE_WRITE writes a base; VF_FLR and PERST leave their groups at reset. -/
def Obligations.RegistersAndRings : Prop :=
(∀ (a data : Nat) (h : RegHit) (s : State), a < 0x4000000 → (a < 0x40000 ∨ 0x80000 ≤ a) → a % 4 = 0 →
    findRegFor .pf0 a = some h →
    (h.live = false → s.mayWrite .pf0 h.desc h.ix = true →
      exec (.registerWrite .pf0 a 4 data) s = .next (s.regAct h.desc (h.desc.copy .pf0 h.ix) (data % 4294967296))) ∧
    (h.live = true ∨ s.mayWrite .pf0 h.desc h.ix = false → exec (.registerWrite .pf0 a 4 data) s = .next s)) ∧
  (∀ (n : Fin 16) (addr a data : Nat) (h : RegHit) (s : State), s.vfLive (.vf n) = true → s.busAddr (.vf n) addr = some a →
    (a < 0x40400 ∨ 0x40800 ≤ a) → a % 4 = 0 → findRegFor (.vf n) a = some h →
    (h.live = false → s.mayWrite (.vf n) h.desc h.ix = true → isControl h.desc = false → h.desc.wr ≠ .vs →
      exec (.registerWrite (.vf n) addr 4 data) s = .next (s.regAct h.desc (h.desc.copy (.vf n) h.ix) (data % 4294967296))) ∧
    (h.live = true ∨ s.mayWrite (.vf n) h.desc h.ix = false → exec (.registerWrite (.vf n) addr 4 data) s = .next s)) ∧
  (∀ (a data : Nat) (s : State), a < 0x4000000 → (a < 0x40400 ∨ 0x40800 ≤ a) → a % 8 = 0 →
    ∃ u, exec (.registerWrite .pf0 a 4 (data % 4294967296)) s = .next u ∧
      exec (.registerWrite .pf0 a 8 data) s = exec (.registerWrite .pf0 (a + 4) 4 (data / 4294967296)) u) ∧
  (∀ (off size data : Nat) (s : State), winSize off size = true → off + size ≤ 0x400 →
    ∃ t, exec (.registerWrite .pf0 (0x40400 + off) size data) s = .next t ∧ t.getF F.NVM_STAT_KEYARM 0 = 0 ∧ t.boot.keySeq = 0 ∧
      (∀ j, j < size → Tbl.get (fun _ => 0#8) t.psbuf (off + j) = BitVec.ofNat 8 (data / 256 ^ j)) ∧
      (∀ k, k < off ∨ off + size ≤ k → Tbl.get (fun _ => 0#8) t.psbuf k = Tbl.get (fun _ => 0#8) s.psbuf k) ∧
      { t with reg := s.reg, boot := s.boot, psbuf := s.psbuf } = s ∧ RegsBut [F.NVM_STAT_KEYARM.key 0] s t) ∧
  (∀ (a data : Nat) (s : State), a < 0x4000000 → (a < 0x40000 ∨ 0x80000 ≤ a) → a % 4 = 0 → findRegFor .pf0 a = none →
    exec (.registerWrite .pf0 a 4 data) s = .next s) ∧
  (∀ (fn : Fn) (addr a size data : Nat) (s : State), fn = .pf0 ∨ s.vfLive fn = true → s.busAddr fn addr = some a →
    a < 0x40400 ∨ 0x40800 ≤ a → ¬(size = 4 ∧ a % 4 = 0) → ¬(size = 8 ∧ a % 8 = 0) → (findRegFor fn (a / 4 * 4)).isSome = true →
    ∃ t, exec (.registerWrite fn addr size data) s = .next t ∧ t.getF F.HST_ERR_SZ (fnIx fn) = 1 ∧
      (fn = .pf0 → RegsOnly [F.HST_ERR_SZ.key 16] s t) ∧
      (fn ≠ .pf0 → hasBit (t.getF F.HST_EVT_EVT (fnIx fn)) 15 = true ∧ { t with reg := s.reg, evAt := s.evAt, out := s.out } = s ∧
        RegsBut (keysAt (fnIx fn) [F.HST_ERR_SZ, F.HST_EVT_EVT, F.MSIX_PBA_PEND]) s t)) ∧
  (∀ (n : Fin 16) (r : Fin 4) (l : Nat) (s : State),
    (s.vfLive (.vf n) = true → s.flag F.HST_RCFG_EN (ringIx n.val r.val) = false →
      (3 ≤ l % 32 → l % 32 ≤ (if r.val = 2 then 12 else 16) → ∃ t, exec (.ringEnable n r l) s = .next t ∧
        t.getF F.HST_RCFG_EN (ringIx n.val r.val) = 1 ∧ t.getF F.HST_RCFG_LOG2N (ringIx n.val r.val) = l % 32 ∧
        t.getF F.HST_RPROD_PROD (ringIx n.val r.val) = 0 ∧ t.getF F.HST_RCONS_CONS (ringIx n.val r.val) = 0 ∧
        t.prodSeen (ringIx n.val r.val) = 0 ∧
        SiteOnly n.val (keysAt (ringIx n.val r.val) [F.HST_RCFG_LOG2N, F.HST_RCFG_EN, F.HST_RPROD_PROD, F.HST_RCONS_CONS]) s
          { t with prodAt := s.prodAt }) ∧
      (l % 32 < 3 ∨ (if r.val = 2 then 12 else 16) < l % 32 → ∃ t, exec (.ringEnable n r l) s = .next t ∧
        t.getF F.HST_ERR_CFGERR n.val = 1 ∧ t.getF F.HST_RCFG_EN (ringIx n.val r.val) = 0 ∧
        hasBit (t.getF F.HST_EVT_EVT n.val) 15 = true ∧ { t with reg := s.reg, evAt := s.evAt, out := s.out } = s)) ∧
    (s.vfLive (.vf n) = false ∨ s.flag F.HST_RCFG_EN (ringIx n.val r.val) = true → exec (.ringEnable n r l) s = .next s)) ∧
  (∀ (n : Fin 16) (r : Fin 4) (s : State),
    (s.vfLive (.vf n) = true → ∃ t, exec (.ringDisable n r) s = .next t ∧
      t.getF F.HST_RCFG_EN (ringIx n.val r.val) = 0 ∧ RegsOnly [F.HST_RCFG_EN.key (ringIx n.val r.val)] s t) ∧
    (s.vfLive (.vf n) = false → exec (.ringDisable n r) s = .next s)) ∧
  (∀ (n : Fin 16) (prod p : Nat) (s : State), s.vfLive (.vf n) = true → p = prod % 4294967296 →
    (∀ i, i = ringIx n.val 0 → s.flag F.HST_RCFG_EN i = true →
      (ringFill p (s.getF F.HST_RPROD_PROD i) < 2147483648 → ringFill p (s.getF F.HST_RCONS_CONS i) ≤ 2 ^ s.getF F.HST_RCFG_LOG2N i →
        ∃ t, exec (.submitProdWrite n prod) s = .next t ∧ t.getF F.HST_RPROD_PROD i = p ∧ t.prodSeen i = s.prodSeen i ∧
          RegsOnly [F.HST_RPROD_PROD.key i] s { t with prodAt := s.prodAt }) ∧
      (2147483648 ≤ ringFill p (s.getF F.HST_RPROD_PROD i) ∨
          2 ^ s.getF F.HST_RCFG_LOG2N i < ringFill p (s.getF F.HST_RCONS_CONS i) →
        ∃ t, exec (.submitProdWrite n prod) s = .next t ∧ t.getF F.HST_ERR_PTRERR n.val = 1 ∧
          t.getF F.HST_RPROD_PROD i = s.getF F.HST_RPROD_PROD i ∧ hasBit (t.getF F.HST_EVT_EVT n.val) 15 = true)) ∧
    (∀ i, i = ringIx n.val 3 → s.flag F.HST_RCFG_EN i = true →
      (ringFill p (s.getF F.HST_RPROD_PROD i) < 2147483648 → ringFill p (s.getF F.HST_RCONS_CONS i) ≤ 2 ^ s.getF F.HST_RCFG_LOG2N i →
        ∃ t, exec (.streamInProdWrite n prod) s = .next t ∧ t.getF F.HST_RPROD_PROD i = p ∧ t.prodSeen i = s.prodSeen i ∧
          RegsOnly [F.HST_RPROD_PROD.key i] s { t with prodAt := s.prodAt }) ∧
      (2147483648 ≤ ringFill p (s.getF F.HST_RPROD_PROD i) ∨
          2 ^ s.getF F.HST_RCFG_LOG2N i < ringFill p (s.getF F.HST_RCONS_CONS i) →
        ∃ t, exec (.streamInProdWrite n prod) s = .next t ∧ t.getF F.HST_ERR_PTRERR n.val = 1 ∧
          t.getF F.HST_RPROD_PROD i = s.getF F.HST_RPROD_PROD i ∧ hasBit (t.getF F.HST_EVT_EVT n.val) 15 = true)) ∧
    (∀ (r : Fin 4) (i : Nat), r.val = 1 ∨ r.val = 2 → i = ringIx n.val r.val → s.flag F.HST_RCFG_EN i = true →
      (ringFill p (s.getF F.HST_RCONS_CONS i) < 2147483648 → ringFill (s.getF F.HST_RPROD_PROD i) p ≤ 2 ^ s.getF F.HST_RCFG_LOG2N i →
        ∃ t, exec (.consWrite n r prod) s = .next t ∧ t.getF F.HST_RCONS_CONS i = p ∧
          RegsOnly [F.HST_RCONS_CONS.key i] s { t with prodAt := s.prodAt }) ∧
      (2147483648 ≤ ringFill p (s.getF F.HST_RCONS_CONS i) ∨
          2 ^ s.getF F.HST_RCFG_LOG2N i < ringFill (s.getF F.HST_RPROD_PROD i) p →
        ∃ t, exec (.consWrite n r prod) s = .next t ∧ t.getF F.HST_ERR_PTRERR n.val = 1 ∧
          t.getF F.HST_RCONS_CONS i = s.getF F.HST_RCONS_CONS i ∧ hasBit (t.getF F.HST_EVT_EVT n.val) 15 = true)) ∧
    (s.flag F.HST_RCFG_EN (ringIx n.val 0) = false → exec (.submitProdWrite n prod) s = .next s) ∧
    (s.flag F.HST_RCFG_EN (ringIx n.val 3) = false → exec (.streamInProdWrite n prod) s = .next s) ∧
    (∀ r : Fin 4, r.val = 0 ∨ r.val = 3 ∨ s.flag F.HST_RCFG_EN (ringIx n.val r.val) = false → exec (.consWrite n r prod) s = .next s)) ∧
  (∀ (n : Fin 16) (k : Fin 3) (b : Nat) (s : State), s.vfLive (.vf n) = true → ∃ t, exec (.windowBaseWrite n k b) s = .next t ∧
    t.getF F.HST_WIN_BASE (n.val * 3 + k.val) = b % 2 ^ F.HST_WIN_BASE.width ∧
    t.winBase (n.val * 3 + k.val) = s.winBase (n.val * 3 + k.val) ∧ { t with reg := s.reg, winAt := s.winAt } = s ∧
    RegsBut [F.HST_WIN_BASE.key (n.val * 3 + k.val)] s t) ∧
  (∀ (n : Fin 16) (s : State),
    (n.val < s.numVfs → ∃ t, exec (.vfFlr n) s = .next t ∧
      (∀ p ∈ groupFlds n.val ++ msixFlds n.val, t.getF p.1 p.2 = p.1.reset p.2) ∧
      RegsOnly ((groupFlds n.val ++ msixFlds n.val).map (fun p => p.1.key p.2)) s t) ∧
    (s.numVfs ≤ n.val → exec (.vfFlr n) s = .next s)) ∧
  (∀ s : State, ∃ t, exec .perst s = .next t ∧ { t with reg := s.reg } = s ∧
    (∀ n, n < 16 → ∀ p ∈ groupFlds n ++ msixFlds n, t.getF p.1 p.2 = p.1.reset p.2) ∧
    (∀ p ∈ msixFlds 16, t.getF p.1 p.2 = p.1.reset p.2) ∧ t.getF F.HST_EVT_EVT 16 = F.HST_EVT_EVT.reset 16)

/-- Slots and levels: a slot that is read becomes an item, or is an error; a record goes to its slot with its completion word later;
a stream-in descriptor is refused by its first failing check, brings its bytes, or waits for room in a segment ring; a trigger level
reaches the slots it feeds. -/
def Obligations.SlotsAndTriggers : Prop :=
(∀ (n : Fin 16) (slot : List Nat) (s : State),
    (s.slotWaits n.val 0 = true → s.vfTurn n.val = true →
      ((∀ k ∈ [12, 13, 14, 15], slot.getD k 0 % 4294967296 = 0) → exec (.submitSlotRead n slot true) s = .next ((s.takeItem
        (s.newItem n.val 2 ((List.range 12).map (fun k => slot.getD k 0 % 4294967296)))).incF F.HST_RCONS_CONS (ringIx n.val 0))) ∧
      (∃ t, exec (.submitSlotRead n slot true) s = .next t ∧
        t.getF F.HST_RCONS_CONS (ringIx n.val 0) = (s.getF F.HST_RCONS_CONS (ringIx n.val 0) + 1) % 4294967296 ∧
        ((∃ k ∈ [12, 13, 14, 15], slot.getD k 0 % 4294967296 ≠ 0) → t.getF F.DSP_SSTAT_REJ n.val = 1 ∧ t.ready = s.ready) ∧
        s.sameMems t ∧ t.eng = s.eng ∧ t.chan = s.chan) ∧
      (∃ t, exec (.submitSlotRead n slot false) s = .next t ∧ t.getF F.HST_ERR_DMAERR n.val = 1 ∧
        hasBit (t.getF F.HST_EVT_EVT n.val) 15 = true ∧ { t with reg := s.reg, evAt := s.evAt, out := s.out } = s ∧
        RegsBut (keysAt n.val [F.HST_ERR_DMAERR, F.HST_EVT_EVT, F.MSIX_PBA_PEND]) s t)) ∧
    (s.slotWaits n.val 0 = false ∨ s.vfTurn n.val = false → ∀ okd, exec (.submitSlotRead n slot okd) s = .next s)) ∧
  (∀ (n : Fin 16) (s : State),
    (∀ (r : List Nat) (rest : List (List Nat)) (a : Nat), (s.siteOf n.val).released = r :: rest →
      s.freeSlot n.val 1 32 = some a → ∃ t, exec (.completionWrite n) s = .next t ∧ (t.siteOf n.val).released = rest ∧
        Out.dma (.vf n) a (r.flatMap (leBytes 4) ++ leBytes 4 (s.getF F.HST_CQSEQ_CSEQ n.val) ++ leBytes 8 0) ∈ t.out ∧
        Out.dma (.vf n) (a + 28) (leBytes 4 (4294967295 - s.getF F.HST_CQSEQ_CSEQ n.val)) ∈ t.out ∧
        t.getF F.HST_RPROD_PROD (ringIx n.val 1) = (s.getF F.HST_RPROD_PROD (ringIx n.val 1) + 1) % 4294967296 ∧
        t.getF F.HST_CQSEQ_CSEQ n.val = (s.getF F.HST_CQSEQ_CSEQ n.val + 1) % 4294967296 ∧
        hasBit (t.getF F.HST_EVT_EVT n.val) 0 = true ∧ { t with reg := s.reg, site := s.site, out := s.out, evAt := s.evAt } = s) ∧
    ((s.siteOf n.val).released = [] ∨ s.freeSlot n.val 1 32 = none → exec (.completionWrite n) s = .next s)) ∧
  (∀ (n : Fin 16) (desc : List Nat) (data : List Byte) (s : State),
    (s.slotWaits n.val 3 = true → (s.siteOf n.val).siTaken = 0 →
      (∀ r, r = s.streamInCheck n.val desc → r ≠ 0 → ∀ okd, ∃ t, exec (.streamInDescriptor n desc data okd) s = .next t ∧
        t.getF F.HST_SIERRC_RSN n.val = r ∧
        t.getF F.HST_SIERR_IDX n.val = s.getF F.HST_RCONS_CONS (ringIx n.val 3) % 4294967296 ∧
        t.getF F.HST_RCONS_CONS (ringIx n.val 3) = (s.getF F.HST_RCONS_CONS (ringIx n.val 3) + 1) % 4294967296 ∧
        hasBit (t.getF F.HST_EVT_EVT n.val) 3 = true ∧ s.sameMems t) ∧
      (s.streamInCheck n.val desc = 0 → bits (desc.getD 0 0) 1 0 = 1 → s.waiting 2 n.val = true →
        ∀ okd, exec (.streamInDescriptor n desc data okd) s = .next s) ∧
      (s.streamInCheck n.val desc = 0 → (bits (desc.getD 0 0) 1 0 = 1 → s.waiting 2 n.val = false) →
        (s.ringFull desc 0 = false →
          (data.length = desc.getD 1 0 % 4294967296 → exec (.streamInDescriptor n desc data true) s =
            .next ((((s.streamInPut n.val desc data).modSite n.val (fun q => { q with siTaken := 0 })).incF F.HST_RCONS_CONS
              (ringIx n.val 3)).raiseVf n.val 2)) ∧
          ∃ t, exec (.streamInDescriptor n desc data true) s = .next t ∧
            t.getF F.HST_RCONS_CONS (ringIx n.val 3) = (s.getF F.HST_RCONS_CONS (ringIx n.val 3) + 1) % 4294967296 ∧
            (t.siteOf n.val).siTaken = 0 ∧ hasBit (t.getF F.HST_EVT_EVT n.val) 2 = true) ∧
        (s.ringFull desc 0 = true → ∃ t, exec (.streamInDescriptor n desc data true) s = .next t ∧
          (t.siteOf n.val).siTaken = s.wfRoom desc ∧ t.getF F.HST_RCONS_CONS (ringIx n.val 3) = s.getF F.HST_RCONS_CONS (ringIx n.val 3)) ∧
        ∃ t, exec (.streamInDescriptor n desc data false) s = .next t ∧ t.getF F.HST_SIERRC_RSN n.val = 5 ∧
          hasBit (t.getF F.HST_EVT_EVT n.val) 3 = true)) ∧
    (s.vfLive (.vf n) = true → (s.siteOf n.val).siTaken ≠ 0 → bits (desc.getD 0 0) 1 0 = 2 →
      (s.ringFull desc (s.siteOf n.val).siTaken = false → ∃ t, exec (.streamInDescriptor n desc data true) s = .next t ∧
        t.getF F.HST_RCONS_CONS (ringIx n.val 3) = (s.getF F.HST_RCONS_CONS (ringIx n.val 3) + 1) % 4294967296 ∧
        (t.siteOf n.val).siTaken = 0 ∧ hasBit (t.getF F.HST_EVT_EVT n.val) 2 = true) ∧
      (s.ringFull desc (s.siteOf n.val).siTaken = true → ∃ t, exec (.streamInDescriptor n desc data true) s = .next t ∧
        (t.siteOf n.val).siTaken = (s.siteOf n.val).siTaken + s.wfRoom desc ∧
        t.getF F.HST_RCONS_CONS (ringIx n.val 3) = s.getF F.HST_RCONS_CONS (ringIx n.val 3))) ∧
    (s.slotWaits n.val 3 = false → (s.siteOf n.val).siTaken = 0 ∨ s.vfLive (.vf n) = false →
      ∀ okd, exec (.streamInDescriptor n desc data okd) s = .next s)) ∧
  (∀ (b : Fin 16) (level : Bool) (s : State),
    (hasBit s.trgIn b.val ≠ level → ∃ t, exec (.trgInEdge b level) s = .next t ∧ hasBit t.trgIn b.val = level ∧
      (∀ k, k ≠ b.val → hasBit t.trgIn k = hasBit s.trgIn k) ∧
      (∀ x k, x < 16 → k < 4 → s.present x = true → s.trgInSlot x k = some b.val → hasBit (t.siteOf x).trigIn k = level) ∧
      { t with reg := s.reg, chan := s.chan, site := s.site, trgIn := s.trgIn, acqMem := s.acqMem } = s) ∧
    (hasBit s.trgIn b.val = level → exec (.trgInEdge b level) s = .next s))
end

