-- ==== Sys2Proof/Laws/Disp.lean ====
section
/-! SUPPORT. What binding and preempting leave alone: registers, the ready store and the boot record apart, everything. -/

namespace Sys2Proof.Machine

/-- What every element's step keeps, the whole fold keeps. -/
theorem foldl_keeps {α β : Type} (r : β → β → Prop) (hr : ∀ b, r b b) (ht : ∀ a b c, r a b → r b c → r a c) (f : β → α → β)
    (h : ∀ b x, r b (f b x)) (l : List α) (b : β) : r b (l.foldl f b) := by
  induction l generalizing b with
  | nil => exact hr b
  | cons x l ih => exact ht _ _ _ (h b x) (ih _)

/-- An idle request that a binding turns away ends (R429): registers and the boot record apart, nothing changes. -/
theorem State.idleRefused_frame (s : State) :
    { s.idleRefused with reg := s.reg, boot := s.boot } = s := by
  unfold State.idleRefused; split <;> rfl

/-- Binding an item leaves all but registers, the ready store and the boot record as it was. -/
theorem State.bindTo_frame (s : State) (i : Item) (e : Nat) :
    { s.bindTo i e with reg := s.reg, ready := s.ready, boot := s.boot } = s := by
  unfold State.bindTo State.idleRefused; simp only []; split <;> rfl

/-- So does preempting (R265). -/
theorem State.preempt_frame (s : State) :
    { s.preempt with reg := s.reg, ready := s.ready, boot := s.boot } = s := by
  refine foldl_keeps (fun a b : State => { b with reg := a.reg, ready := a.ready, boot := a.boot } = a) (fun _ => rfl) ?_ _ ?_ _ _
  · intro a b c h1 h2
    have e1 : a = { b with reg := a.reg, ready := a.ready, boot := a.boot } := h1.symm
    have e2 : b = { c with reg := b.reg, ready := b.ready, boot := b.boot } := h2.symm
    rw [e2] at e1
    exact e1.symm
  · intro b i
    split
    · split
      · exact State.bindTo_frame _ _ _
      · rfl
    · rfl

end Sys2Proof.Machine
end

