-- ==== Sys2Proof/Laws/State.lean ====
section
/-! SUPPORT. What the elementary updates of the state leave alone: one lemma for each update and each field it does not
write, each true by definition. -/

namespace Sys2Proof.Machine.State

variable (s : State)

/-! ### `setF` writes `reg` alone -/

@[simp] theorem setF_live (f : Fld) (i v : Nat) : (s.setF f i v).live = s.live := rfl
@[simp] theorem setF_init (f : Fld) (i v : Nat) : (s.setF f i v).init = s.init := rfl
@[simp] theorem setF_initLive (f : Fld) (i v : Nat) : (s.setF f i v).initLive = s.initLive := rfl
@[simp] theorem setF_time (f : Fld) (i v : Nat) : (s.setF f i v).time = s.time := rfl
@[simp] theorem setF_eng (f : Fld) (i v : Nat) : (s.setF f i v).eng = s.eng := rfl
@[simp] theorem setF_chan (f : Fld) (i v : Nat) : (s.setF f i v).chan = s.chan := rfl
@[simp] theorem setF_oct (f : Fld) (i v : Nat) : (s.setF f i v).oct = s.oct := rfl
@[simp] theorem setF_site (f : Fld) (i v : Nat) : (s.setF f i v).site = s.site := rfl
@[simp] theorem setF_port (f : Fld) (i v : Nat) : (s.setF f i v).port = s.port := rfl
@[simp] theorem setF_fab (f : Fld) (i v : Nat) : (s.setF f i v).fab = s.fab := rfl
@[simp] theorem setF_ready (f : Fld) (i v : Nat) : (s.setF f i v).ready = s.ready := rfl
@[simp] theorem setF_serial (f : Fld) (i v : Nat) : (s.setF f i v).serial = s.serial := rfl
@[simp] theorem setF_mon (f : Fld) (i v : Nat) : (s.setF f i v).mon = s.mon := rfl
@[simp] theorem setF_mon0 (f : Fld) (i v : Nat) : (s.setF f i v).mon0 = s.mon0 := rfl
@[simp] theorem setF_reqs (f : Fld) (i v : Nat) : (s.setF f i v).reqs = s.reqs := rfl
@[simp] theorem setF_openRow (f : Fld) (i v : Nat) : (s.setF f i v).openRow = s.openRow := rfl
@[simp] theorem setF_stream (f : Fld) (i v : Nat) : (s.setF f i v).stream = s.stream := rfl
@[simp] theorem setF_sumac (f : Fld) (i v : Nat) : (s.setF f i v).sumac = s.sumac := rfl
@[simp] theorem setF_nutmeg (f : Fld) (i v : Nat) : (s.setF f i v).nutmeg = s.nutmeg := rfl
@[simp] theorem setF_boot (f : Fld) (i v : Nat) : (s.setF f i v).boot = s.boot := rfl
@[simp] theorem setF_bb (f : Fld) (i v : Nat) : (s.setF f i v).bb = s.bb := rfl
@[simp] theorem setF_acqMem (f : Fld) (i v : Nat) : (s.setF f i v).acqMem = s.acqMem := rfl
@[simp] theorem setF_dram (f : Fld) (i v : Nat) : (s.setF f i v).dram = s.dram := rfl
@[simp] theorem setF_cstore (f : Fld) (i v : Nat) : (s.setF f i v).cstore = s.cstore := rfl
@[simp] theorem setF_mirror (f : Fld) (i v : Nat) : (s.setF f i v).mirror = s.mirror := rfl
@[simp] theorem setF_tstore (f : Fld) (i v : Nat) : (s.setF f i v).tstore = s.tstore := rfl
@[simp] theorem setF_nvm (f : Fld) (i v : Nat) : (s.setF f i v).nvm = s.nvm := rfl
@[simp] theorem setF_wear (f : Fld) (i v : Nat) : (s.setF f i v).wear = s.wear := rfl
@[simp] theorem setF_psbuf (f : Fld) (i v : Nat) : (s.setF f i v).psbuf = s.psbuf := rfl
@[simp] theorem setF_numVfs (f : Fld) (i v : Nat) : (s.setF f i v).numVfs = s.numVfs := rfl
@[simp] theorem setF_msixEn (f : Fld) (i v : Nat) : (s.setF f i v).msixEn = s.msixEn := rfl
@[simp] theorem setF_evAt (f : Fld) (i v : Nat) : (s.setF f i v).evAt = s.evAt := rfl
@[simp] theorem setF_winAt (f : Fld) (i v : Nat) : (s.setF f i v).winAt = s.winAt := rfl
@[simp] theorem setF_prodAt (f : Fld) (i v : Nat) : (s.setF f i v).prodAt = s.prodAt := rfl
@[simp] theorem setF_trgIn (f : Fld) (i v : Nat) : (s.setF f i v).trgIn = s.trgIn := rfl
@[simp] theorem setF_warm (f : Fld) (i v : Nat) : (s.setF f i v).warm = s.warm := rfl
@[simp] theorem setF_tap (f : Fld) (i v : Nat) : (s.setF f i v).tap = s.tap := rfl
@[simp] theorem setF_free (f : Fld) (i v : Nat) : (s.setF f i v).free = s.free := rfl
@[simp] theorem setF_out (f : Fld) (i v : Nat) : (s.setF f i v).out = s.out := rfl
@[simp] theorem setF_pending (f : Fld) (i v : Nat) : (s.setF f i v).pending = s.pending := rfl

/-! ### `setL` writes `live` alone -/

@[simp] theorem setL_reg (f : Fld) (i v : Nat) : (s.setL f i v).reg = s.reg := rfl
@[simp] theorem setL_init (f : Fld) (i v : Nat) : (s.setL f i v).init = s.init := rfl
@[simp] theorem setL_initLive (f : Fld) (i v : Nat) : (s.setL f i v).initLive = s.initLive := rfl
@[simp] theorem setL_time (f : Fld) (i v : Nat) : (s.setL f i v).time = s.time := rfl
@[simp] theorem setL_eng (f : Fld) (i v : Nat) : (s.setL f i v).eng = s.eng := rfl
@[simp] theorem setL_chan (f : Fld) (i v : Nat) : (s.setL f i v).chan = s.chan := rfl
@[simp] theorem setL_oct (f : Fld) (i v : Nat) : (s.setL f i v).oct = s.oct := rfl
@[simp] theorem setL_site (f : Fld) (i v : Nat) : (s.setL f i v).site = s.site := rfl
@[simp] theorem setL_port (f : Fld) (i v : Nat) : (s.setL f i v).port = s.port := rfl
@[simp] theorem setL_fab (f : Fld) (i v : Nat) : (s.setL f i v).fab = s.fab := rfl
@[simp] theorem setL_ready (f : Fld) (i v : Nat) : (s.setL f i v).ready = s.ready := rfl
@[simp] theorem setL_serial (f : Fld) (i v : Nat) : (s.setL f i v).serial = s.serial := rfl
@[simp] theorem setL_mon (f : Fld) (i v : Nat) : (s.setL f i v).mon = s.mon := rfl
@[simp] theorem setL_mon0 (f : Fld) (i v : Nat) : (s.setL f i v).mon0 = s.mon0 := rfl
@[simp] theorem setL_reqs (f : Fld) (i v : Nat) : (s.setL f i v).reqs = s.reqs := rfl
@[simp] theorem setL_openRow (f : Fld) (i v : Nat) : (s.setL f i v).openRow = s.openRow := rfl
@[simp] theorem setL_stream (f : Fld) (i v : Nat) : (s.setL f i v).stream = s.stream := rfl
@[simp] theorem setL_sumac (f : Fld) (i v : Nat) : (s.setL f i v).sumac = s.sumac := rfl
@[simp] theorem setL_nutmeg (f : Fld) (i v : Nat) : (s.setL f i v).nutmeg = s.nutmeg := rfl
@[simp] theorem setL_boot (f : Fld) (i v : Nat) : (s.setL f i v).boot = s.boot := rfl
@[simp] theorem setL_bb (f : Fld) (i v : Nat) : (s.setL f i v).bb = s.bb := rfl
@[simp] theorem setL_acqMem (f : Fld) (i v : Nat) : (s.setL f i v).acqMem = s.acqMem := rfl
@[simp] theorem setL_dram (f : Fld) (i v : Nat) : (s.setL f i v).dram = s.dram := rfl
@[simp] theorem setL_cstore (f : Fld) (i v : Nat) : (s.setL f i v).cstore = s.cstore := rfl
@[simp] theorem setL_mirror (f : Fld) (i v : Nat) : (s.setL f i v).mirror = s.mirror := rfl
@[simp] theorem setL_tstore (f : Fld) (i v : Nat) : (s.setL f i v).tstore = s.tstore := rfl
@[simp] theorem setL_nvm (f : Fld) (i v : Nat) : (s.setL f i v).nvm = s.nvm := rfl
@[simp] theorem setL_wear (f : Fld) (i v : Nat) : (s.setL f i v).wear = s.wear := rfl
@[simp] theorem setL_psbuf (f : Fld) (i v : Nat) : (s.setL f i v).psbuf = s.psbuf := rfl
@[simp] theorem setL_numVfs (f : Fld) (i v : Nat) : (s.setL f i v).numVfs = s.numVfs := rfl
@[simp] theorem setL_msixEn (f : Fld) (i v : Nat) : (s.setL f i v).msixEn = s.msixEn := rfl
@[simp] theorem setL_evAt (f : Fld) (i v : Nat) : (s.setL f i v).evAt = s.evAt := rfl
@[simp] theorem setL_winAt (f : Fld) (i v : Nat) : (s.setL f i v).winAt = s.winAt := rfl
@[simp] theorem setL_prodAt (f : Fld) (i v : Nat) : (s.setL f i v).prodAt = s.prodAt := rfl
@[simp] theorem setL_trgIn (f : Fld) (i v : Nat) : (s.setL f i v).trgIn = s.trgIn := rfl
@[simp] theorem setL_warm (f : Fld) (i v : Nat) : (s.setL f i v).warm = s.warm := rfl
@[simp] theorem setL_tap (f : Fld) (i v : Nat) : (s.setL f i v).tap = s.tap := rfl
@[simp] theorem setL_free (f : Fld) (i v : Nat) : (s.setL f i v).free = s.free := rfl
@[simp] theorem setL_out (f : Fld) (i v : Nat) : (s.setL f i v).out = s.out := rfl
@[simp] theorem setL_pending (f : Fld) (i v : Nat) : (s.setL f i v).pending = s.pending := rfl

/-! ### `setEng` writes `eng` alone -/

@[simp] theorem setEng_reg (e : Nat) (v : EngSt) : (s.setEng e v).reg = s.reg := rfl
@[simp] theorem setEng_live (e : Nat) (v : EngSt) : (s.setEng e v).live = s.live := rfl
@[simp] theorem setEng_init (e : Nat) (v : EngSt) : (s.setEng e v).init = s.init := rfl
@[simp] theorem setEng_initLive (e : Nat) (v : EngSt) : (s.setEng e v).initLive = s.initLive := rfl
@[simp] theorem setEng_time (e : Nat) (v : EngSt) : (s.setEng e v).time = s.time := rfl
@[simp] theorem setEng_chan (e : Nat) (v : EngSt) : (s.setEng e v).chan = s.chan := rfl
@[simp] theorem setEng_oct (e : Nat) (v : EngSt) : (s.setEng e v).oct = s.oct := rfl
@[simp] theorem setEng_site (e : Nat) (v : EngSt) : (s.setEng e v).site = s.site := rfl
@[simp] theorem setEng_port (e : Nat) (v : EngSt) : (s.setEng e v).port = s.port := rfl
@[simp] theorem setEng_fab (e : Nat) (v : EngSt) : (s.setEng e v).fab = s.fab := rfl
@[simp] theorem setEng_ready (e : Nat) (v : EngSt) : (s.setEng e v).ready = s.ready := rfl
@[simp] theorem setEng_serial (e : Nat) (v : EngSt) : (s.setEng e v).serial = s.serial := rfl
@[simp] theorem setEng_mon (e : Nat) (v : EngSt) : (s.setEng e v).mon = s.mon := rfl
@[simp] theorem setEng_mon0 (e : Nat) (v : EngSt) : (s.setEng e v).mon0 = s.mon0 := rfl
@[simp] theorem setEng_reqs (e : Nat) (v : EngSt) : (s.setEng e v).reqs = s.reqs := rfl
@[simp] theorem setEng_openRow (e : Nat) (v : EngSt) : (s.setEng e v).openRow = s.openRow := rfl
@[simp] theorem setEng_stream (e : Nat) (v : EngSt) : (s.setEng e v).stream = s.stream := rfl
@[simp] theorem setEng_sumac (e : Nat) (v : EngSt) : (s.setEng e v).sumac = s.sumac := rfl
@[simp] theorem setEng_nutmeg (e : Nat) (v : EngSt) : (s.setEng e v).nutmeg = s.nutmeg := rfl
@[simp] theorem setEng_boot (e : Nat) (v : EngSt) : (s.setEng e v).boot = s.boot := rfl
@[simp] theorem setEng_bb (e : Nat) (v : EngSt) : (s.setEng e v).bb = s.bb := rfl
@[simp] theorem setEng_acqMem (e : Nat) (v : EngSt) : (s.setEng e v).acqMem = s.acqMem := rfl
@[simp] theorem setEng_dram (e : Nat) (v : EngSt) : (s.setEng e v).dram = s.dram := rfl
@[simp] theorem setEng_cstore (e : Nat) (v : EngSt) : (s.setEng e v).cstore = s.cstore := rfl
@[simp] theorem setEng_mirror (e : Nat) (v : EngSt) : (s.setEng e v).mirror = s.mirror := rfl
@[simp] theorem setEng_tstore (e : Nat) (v : EngSt) : (s.setEng e v).tstore = s.tstore := rfl
@[simp] theorem setEng_nvm (e : Nat) (v : EngSt) : (s.setEng e v).nvm = s.nvm := rfl
@[simp] theorem setEng_wear (e : Nat) (v : EngSt) : (s.setEng e v).wear = s.wear := rfl
@[simp] theorem setEng_psbuf (e : Nat) (v : EngSt) : (s.setEng e v).psbuf = s.psbuf := rfl
@[simp] theorem setEng_numVfs (e : Nat) (v : EngSt) : (s.setEng e v).numVfs = s.numVfs := rfl
@[simp] theorem setEng_msixEn (e : Nat) (v : EngSt) : (s.setEng e v).msixEn = s.msixEn := rfl
@[simp] theorem setEng_evAt (e : Nat) (v : EngSt) : (s.setEng e v).evAt = s.evAt := rfl
@[simp] theorem setEng_winAt (e : Nat) (v : EngSt) : (s.setEng e v).winAt = s.winAt := rfl
@[simp] theorem setEng_prodAt (e : Nat) (v : EngSt) : (s.setEng e v).prodAt = s.prodAt := rfl
@[simp] theorem setEng_trgIn (e : Nat) (v : EngSt) : (s.setEng e v).trgIn = s.trgIn := rfl
@[simp] theorem setEng_warm (e : Nat) (v : EngSt) : (s.setEng e v).warm = s.warm := rfl
@[simp] theorem setEng_tap (e : Nat) (v : EngSt) : (s.setEng e v).tap = s.tap := rfl
@[simp] theorem setEng_free (e : Nat) (v : EngSt) : (s.setEng e v).free = s.free := rfl
@[simp] theorem setEng_out (e : Nat) (v : EngSt) : (s.setEng e v).out = s.out := rfl
@[simp] theorem setEng_pending (e : Nat) (v : EngSt) : (s.setEng e v).pending = s.pending := rfl

/-! ### `setChan` writes `chan` alone -/

@[simp] theorem setChan_reg (c : Nat) (v : ChanSt) : (s.setChan c v).reg = s.reg := rfl
@[simp] theorem setChan_live (c : Nat) (v : ChanSt) : (s.setChan c v).live = s.live := rfl
@[simp] theorem setChan_init (c : Nat) (v : ChanSt) : (s.setChan c v).init = s.init := rfl
@[simp] theorem setChan_initLive (c : Nat) (v : ChanSt) : (s.setChan c v).initLive = s.initLive := rfl
@[simp] theorem setChan_time (c : Nat) (v : ChanSt) : (s.setChan c v).time = s.time := rfl
@[simp] theorem setChan_eng (c : Nat) (v : ChanSt) : (s.setChan c v).eng = s.eng := rfl
@[simp] theorem setChan_oct (c : Nat) (v : ChanSt) : (s.setChan c v).oct = s.oct := rfl
@[simp] theorem setChan_site (c : Nat) (v : ChanSt) : (s.setChan c v).site = s.site := rfl
@[simp] theorem setChan_port (c : Nat) (v : ChanSt) : (s.setChan c v).port = s.port := rfl
@[simp] theorem setChan_fab (c : Nat) (v : ChanSt) : (s.setChan c v).fab = s.fab := rfl
@[simp] theorem setChan_ready (c : Nat) (v : ChanSt) : (s.setChan c v).ready = s.ready := rfl
@[simp] theorem setChan_serial (c : Nat) (v : ChanSt) : (s.setChan c v).serial = s.serial := rfl
@[simp] theorem setChan_mon (c : Nat) (v : ChanSt) : (s.setChan c v).mon = s.mon := rfl
@[simp] theorem setChan_mon0 (c : Nat) (v : ChanSt) : (s.setChan c v).mon0 = s.mon0 := rfl
@[simp] theorem setChan_reqs (c : Nat) (v : ChanSt) : (s.setChan c v).reqs = s.reqs := rfl
@[simp] theorem setChan_openRow (c : Nat) (v : ChanSt) : (s.setChan c v).openRow = s.openRow := rfl
@[simp] theorem setChan_stream (c : Nat) (v : ChanSt) : (s.setChan c v).stream = s.stream := rfl
@[simp] theorem setChan_sumac (c : Nat) (v : ChanSt) : (s.setChan c v).sumac = s.sumac := rfl
@[simp] theorem setChan_nutmeg (c : Nat) (v : ChanSt) : (s.setChan c v).nutmeg = s.nutmeg := rfl
@[simp] theorem setChan_boot (c : Nat) (v : ChanSt) : (s.setChan c v).boot = s.boot := rfl
@[simp] theorem setChan_bb (c : Nat) (v : ChanSt) : (s.setChan c v).bb = s.bb := rfl
@[simp] theorem setChan_acqMem (c : Nat) (v : ChanSt) : (s.setChan c v).acqMem = s.acqMem := rfl
@[simp] theorem setChan_dram (c : Nat) (v : ChanSt) : (s.setChan c v).dram = s.dram := rfl
@[simp] theorem setChan_cstore (c : Nat) (v : ChanSt) : (s.setChan c v).cstore = s.cstore := rfl
@[simp] theorem setChan_mirror (c : Nat) (v : ChanSt) : (s.setChan c v).mirror = s.mirror := rfl
@[simp] theorem setChan_tstore (c : Nat) (v : ChanSt) : (s.setChan c v).tstore = s.tstore := rfl
@[simp] theorem setChan_nvm (c : Nat) (v : ChanSt) : (s.setChan c v).nvm = s.nvm := rfl
@[simp] theorem setChan_wear (c : Nat) (v : ChanSt) : (s.setChan c v).wear = s.wear := rfl
@[simp] theorem setChan_psbuf (c : Nat) (v : ChanSt) : (s.setChan c v).psbuf = s.psbuf := rfl
@[simp] theorem setChan_numVfs (c : Nat) (v : ChanSt) : (s.setChan c v).numVfs = s.numVfs := rfl
@[simp] theorem setChan_msixEn (c : Nat) (v : ChanSt) : (s.setChan c v).msixEn = s.msixEn := rfl
@[simp] theorem setChan_evAt (c : Nat) (v : ChanSt) : (s.setChan c v).evAt = s.evAt := rfl
@[simp] theorem setChan_winAt (c : Nat) (v : ChanSt) : (s.setChan c v).winAt = s.winAt := rfl
@[simp] theorem setChan_prodAt (c : Nat) (v : ChanSt) : (s.setChan c v).prodAt = s.prodAt := rfl
@[simp] theorem setChan_trgIn (c : Nat) (v : ChanSt) : (s.setChan c v).trgIn = s.trgIn := rfl
@[simp] theorem setChan_warm (c : Nat) (v : ChanSt) : (s.setChan c v).warm = s.warm := rfl
@[simp] theorem setChan_tap (c : Nat) (v : ChanSt) : (s.setChan c v).tap = s.tap := rfl
@[simp] theorem setChan_free (c : Nat) (v : ChanSt) : (s.setChan c v).free = s.free := rfl
@[simp] theorem setChan_out (c : Nat) (v : ChanSt) : (s.setChan c v).out = s.out := rfl
@[simp] theorem setChan_pending (c : Nat) (v : ChanSt) : (s.setChan c v).pending = s.pending := rfl

/-! ### `setOct` writes `oct` alone -/

@[simp] theorem setOct_reg (o : Nat) (v : OctSt) : (s.setOct o v).reg = s.reg := rfl
@[simp] theorem setOct_live (o : Nat) (v : OctSt) : (s.setOct o v).live = s.live := rfl
@[simp] theorem setOct_init (o : Nat) (v : OctSt) : (s.setOct o v).init = s.init := rfl
@[simp] theorem setOct_initLive (o : Nat) (v : OctSt) : (s.setOct o v).initLive = s.initLive := rfl
@[simp] theorem setOct_time (o : Nat) (v : OctSt) : (s.setOct o v).time = s.time := rfl
@[simp] theorem setOct_eng (o : Nat) (v : OctSt) : (s.setOct o v).eng = s.eng := rfl
@[simp] theorem setOct_chan (o : Nat) (v : OctSt) : (s.setOct o v).chan = s.chan := rfl
@[simp] theorem setOct_site (o : Nat) (v : OctSt) : (s.setOct o v).site = s.site := rfl
@[simp] theorem setOct_port (o : Nat) (v : OctSt) : (s.setOct o v).port = s.port := rfl
@[simp] theorem setOct_fab (o : Nat) (v : OctSt) : (s.setOct o v).fab = s.fab := rfl
@[simp] theorem setOct_ready (o : Nat) (v : OctSt) : (s.setOct o v).ready = s.ready := rfl
@[simp] theorem setOct_serial (o : Nat) (v : OctSt) : (s.setOct o v).serial = s.serial := rfl
@[simp] theorem setOct_mon (o : Nat) (v : OctSt) : (s.setOct o v).mon = s.mon := rfl
@[simp] theorem setOct_mon0 (o : Nat) (v : OctSt) : (s.setOct o v).mon0 = s.mon0 := rfl
@[simp] theorem setOct_reqs (o : Nat) (v : OctSt) : (s.setOct o v).reqs = s.reqs := rfl
@[simp] theorem setOct_openRow (o : Nat) (v : OctSt) : (s.setOct o v).openRow = s.openRow := rfl
@[simp] theorem setOct_stream (o : Nat) (v : OctSt) : (s.setOct o v).stream = s.stream := rfl
@[simp] theorem setOct_sumac (o : Nat) (v : OctSt) : (s.setOct o v).sumac = s.sumac := rfl
@[simp] theorem setOct_nutmeg (o : Nat) (v : OctSt) : (s.setOct o v).nutmeg = s.nutmeg := rfl
@[simp] theorem setOct_boot (o : Nat) (v : OctSt) : (s.setOct o v).boot = s.boot := rfl
@[simp] theorem setOct_bb (o : Nat) (v : OctSt) : (s.setOct o v).bb = s.bb := rfl
@[simp] theorem setOct_acqMem (o : Nat) (v : OctSt) : (s.setOct o v).acqMem = s.acqMem := rfl
@[simp] theorem setOct_dram (o : Nat) (v : OctSt) : (s.setOct o v).dram = s.dram := rfl
@[simp] theorem setOct_cstore (o : Nat) (v : OctSt) : (s.setOct o v).cstore = s.cstore := rfl
@[simp] theorem setOct_mirror (o : Nat) (v : OctSt) : (s.setOct o v).mirror = s.mirror := rfl
@[simp] theorem setOct_tstore (o : Nat) (v : OctSt) : (s.setOct o v).tstore = s.tstore := rfl
@[simp] theorem setOct_nvm (o : Nat) (v : OctSt) : (s.setOct o v).nvm = s.nvm := rfl
@[simp] theorem setOct_wear (o : Nat) (v : OctSt) : (s.setOct o v).wear = s.wear := rfl
@[simp] theorem setOct_psbuf (o : Nat) (v : OctSt) : (s.setOct o v).psbuf = s.psbuf := rfl
@[simp] theorem setOct_numVfs (o : Nat) (v : OctSt) : (s.setOct o v).numVfs = s.numVfs := rfl
@[simp] theorem setOct_msixEn (o : Nat) (v : OctSt) : (s.setOct o v).msixEn = s.msixEn := rfl
@[simp] theorem setOct_evAt (o : Nat) (v : OctSt) : (s.setOct o v).evAt = s.evAt := rfl
@[simp] theorem setOct_winAt (o : Nat) (v : OctSt) : (s.setOct o v).winAt = s.winAt := rfl
@[simp] theorem setOct_prodAt (o : Nat) (v : OctSt) : (s.setOct o v).prodAt = s.prodAt := rfl
@[simp] theorem setOct_trgIn (o : Nat) (v : OctSt) : (s.setOct o v).trgIn = s.trgIn := rfl
@[simp] theorem setOct_warm (o : Nat) (v : OctSt) : (s.setOct o v).warm = s.warm := rfl
@[simp] theorem setOct_tap (o : Nat) (v : OctSt) : (s.setOct o v).tap = s.tap := rfl
@[simp] theorem setOct_free (o : Nat) (v : OctSt) : (s.setOct o v).free = s.free := rfl
@[simp] theorem setOct_out (o : Nat) (v : OctSt) : (s.setOct o v).out = s.out := rfl
@[simp] theorem setOct_pending (o : Nat) (v : OctSt) : (s.setOct o v).pending = s.pending := rfl

/-! ### `setSite` writes `site` alone -/

@[simp] theorem setSite_reg (x : Nat) (v : SiteSt) : (s.setSite x v).reg = s.reg := rfl
@[simp] theorem setSite_live (x : Nat) (v : SiteSt) : (s.setSite x v).live = s.live := rfl
@[simp] theorem setSite_init (x : Nat) (v : SiteSt) : (s.setSite x v).init = s.init := rfl
@[simp] theorem setSite_initLive (x : Nat) (v : SiteSt) : (s.setSite x v).initLive = s.initLive := rfl
@[simp] theorem setSite_time (x : Nat) (v : SiteSt) : (s.setSite x v).time = s.time := rfl
@[simp] theorem setSite_eng (x : Nat) (v : SiteSt) : (s.setSite x v).eng = s.eng := rfl
@[simp] theorem setSite_chan (x : Nat) (v : SiteSt) : (s.setSite x v).chan = s.chan := rfl
@[simp] theorem setSite_oct (x : Nat) (v : SiteSt) : (s.setSite x v).oct = s.oct := rfl
@[simp] theorem setSite_port (x : Nat) (v : SiteSt) : (s.setSite x v).port = s.port := rfl
@[simp] theorem setSite_fab (x : Nat) (v : SiteSt) : (s.setSite x v).fab = s.fab := rfl
@[simp] theorem setSite_ready (x : Nat) (v : SiteSt) : (s.setSite x v).ready = s.ready := rfl
@[simp] theorem setSite_serial (x : Nat) (v : SiteSt) : (s.setSite x v).serial = s.serial := rfl
@[simp] theorem setSite_mon (x : Nat) (v : SiteSt) : (s.setSite x v).mon = s.mon := rfl
@[simp] theorem setSite_mon0 (x : Nat) (v : SiteSt) : (s.setSite x v).mon0 = s.mon0 := rfl
@[simp] theorem setSite_reqs (x : Nat) (v : SiteSt) : (s.setSite x v).reqs = s.reqs := rfl
@[simp] theorem setSite_openRow (x : Nat) (v : SiteSt) : (s.setSite x v).openRow = s.openRow := rfl
@[simp] theorem setSite_stream (x : Nat) (v : SiteSt) : (s.setSite x v).stream = s.stream := rfl
@[simp] theorem setSite_sumac (x : Nat) (v : SiteSt) : (s.setSite x v).sumac = s.sumac := rfl
@[simp] theorem setSite_nutmeg (x : Nat) (v : SiteSt) : (s.setSite x v).nutmeg = s.nutmeg := rfl
@[simp] theorem setSite_boot (x : Nat) (v : SiteSt) : (s.setSite x v).boot = s.boot := rfl
@[simp] theorem setSite_bb (x : Nat) (v : SiteSt) : (s.setSite x v).bb = s.bb := rfl
@[simp] theorem setSite_acqMem (x : Nat) (v : SiteSt) : (s.setSite x v).acqMem = s.acqMem := rfl
@[simp] theorem setSite_dram (x : Nat) (v : SiteSt) : (s.setSite x v).dram = s.dram := rfl
@[simp] theorem setSite_cstore (x : Nat) (v : SiteSt) : (s.setSite x v).cstore = s.cstore := rfl
@[simp] theorem setSite_mirror (x : Nat) (v : SiteSt) : (s.setSite x v).mirror = s.mirror := rfl
@[simp] theorem setSite_tstore (x : Nat) (v : SiteSt) : (s.setSite x v).tstore = s.tstore := rfl
@[simp] theorem setSite_nvm (x : Nat) (v : SiteSt) : (s.setSite x v).nvm = s.nvm := rfl
@[simp] theorem setSite_wear (x : Nat) (v : SiteSt) : (s.setSite x v).wear = s.wear := rfl
@[simp] theorem setSite_psbuf (x : Nat) (v : SiteSt) : (s.setSite x v).psbuf = s.psbuf := rfl
@[simp] theorem setSite_numVfs (x : Nat) (v : SiteSt) : (s.setSite x v).numVfs = s.numVfs := rfl
@[simp] theorem setSite_msixEn (x : Nat) (v : SiteSt) : (s.setSite x v).msixEn = s.msixEn := rfl
@[simp] theorem setSite_evAt (x : Nat) (v : SiteSt) : (s.setSite x v).evAt = s.evAt := rfl
@[simp] theorem setSite_winAt (x : Nat) (v : SiteSt) : (s.setSite x v).winAt = s.winAt := rfl
@[simp] theorem setSite_prodAt (x : Nat) (v : SiteSt) : (s.setSite x v).prodAt = s.prodAt := rfl
@[simp] theorem setSite_trgIn (x : Nat) (v : SiteSt) : (s.setSite x v).trgIn = s.trgIn := rfl
@[simp] theorem setSite_warm (x : Nat) (v : SiteSt) : (s.setSite x v).warm = s.warm := rfl
@[simp] theorem setSite_tap (x : Nat) (v : SiteSt) : (s.setSite x v).tap = s.tap := rfl
@[simp] theorem setSite_free (x : Nat) (v : SiteSt) : (s.setSite x v).free = s.free := rfl
@[simp] theorem setSite_out (x : Nat) (v : SiteSt) : (s.setSite x v).out = s.out := rfl
@[simp] theorem setSite_pending (x : Nat) (v : SiteSt) : (s.setSite x v).pending = s.pending := rfl

/-! ### `setPort` writes `port` alone -/

@[simp] theorem setPort_reg (k : Nat) (v : PortSt) : (s.setPort k v).reg = s.reg := rfl
@[simp] theorem setPort_live (k : Nat) (v : PortSt) : (s.setPort k v).live = s.live := rfl
@[simp] theorem setPort_init (k : Nat) (v : PortSt) : (s.setPort k v).init = s.init := rfl
@[simp] theorem setPort_initLive (k : Nat) (v : PortSt) : (s.setPort k v).initLive = s.initLive := rfl
@[simp] theorem setPort_time (k : Nat) (v : PortSt) : (s.setPort k v).time = s.time := rfl
@[simp] theorem setPort_eng (k : Nat) (v : PortSt) : (s.setPort k v).eng = s.eng := rfl
@[simp] theorem setPort_chan (k : Nat) (v : PortSt) : (s.setPort k v).chan = s.chan := rfl
@[simp] theorem setPort_oct (k : Nat) (v : PortSt) : (s.setPort k v).oct = s.oct := rfl
@[simp] theorem setPort_site (k : Nat) (v : PortSt) : (s.setPort k v).site = s.site := rfl
@[simp] theorem setPort_fab (k : Nat) (v : PortSt) : (s.setPort k v).fab = s.fab := rfl
@[simp] theorem setPort_ready (k : Nat) (v : PortSt) : (s.setPort k v).ready = s.ready := rfl
@[simp] theorem setPort_serial (k : Nat) (v : PortSt) : (s.setPort k v).serial = s.serial := rfl
@[simp] theorem setPort_mon (k : Nat) (v : PortSt) : (s.setPort k v).mon = s.mon := rfl
@[simp] theorem setPort_mon0 (k : Nat) (v : PortSt) : (s.setPort k v).mon0 = s.mon0 := rfl
@[simp] theorem setPort_reqs (k : Nat) (v : PortSt) : (s.setPort k v).reqs = s.reqs := rfl
@[simp] theorem setPort_openRow (k : Nat) (v : PortSt) : (s.setPort k v).openRow = s.openRow := rfl
@[simp] theorem setPort_stream (k : Nat) (v : PortSt) : (s.setPort k v).stream = s.stream := rfl
@[simp] theorem setPort_sumac (k : Nat) (v : PortSt) : (s.setPort k v).sumac = s.sumac := rfl
@[simp] theorem setPort_nutmeg (k : Nat) (v : PortSt) : (s.setPort k v).nutmeg = s.nutmeg := rfl
@[simp] theorem setPort_boot (k : Nat) (v : PortSt) : (s.setPort k v).boot = s.boot := rfl
@[simp] theorem setPort_bb (k : Nat) (v : PortSt) : (s.setPort k v).bb = s.bb := rfl
@[simp] theorem setPort_acqMem (k : Nat) (v : PortSt) : (s.setPort k v).acqMem = s.acqMem := rfl
@[simp] theorem setPort_dram (k : Nat) (v : PortSt) : (s.setPort k v).dram = s.dram := rfl
@[simp] theorem setPort_cstore (k : Nat) (v : PortSt) : (s.setPort k v).cstore = s.cstore := rfl
@[simp] theorem setPort_mirror (k : Nat) (v : PortSt) : (s.setPort k v).mirror = s.mirror := rfl
@[simp] theorem setPort_tstore (k : Nat) (v : PortSt) : (s.setPort k v).tstore = s.tstore := rfl
@[simp] theorem setPort_nvm (k : Nat) (v : PortSt) : (s.setPort k v).nvm = s.nvm := rfl
@[simp] theorem setPort_wear (k : Nat) (v : PortSt) : (s.setPort k v).wear = s.wear := rfl
@[simp] theorem setPort_psbuf (k : Nat) (v : PortSt) : (s.setPort k v).psbuf = s.psbuf := rfl
@[simp] theorem setPort_numVfs (k : Nat) (v : PortSt) : (s.setPort k v).numVfs = s.numVfs := rfl
@[simp] theorem setPort_msixEn (k : Nat) (v : PortSt) : (s.setPort k v).msixEn = s.msixEn := rfl
@[simp] theorem setPort_evAt (k : Nat) (v : PortSt) : (s.setPort k v).evAt = s.evAt := rfl
@[simp] theorem setPort_winAt (k : Nat) (v : PortSt) : (s.setPort k v).winAt = s.winAt := rfl
@[simp] theorem setPort_prodAt (k : Nat) (v : PortSt) : (s.setPort k v).prodAt = s.prodAt := rfl
@[simp] theorem setPort_trgIn (k : Nat) (v : PortSt) : (s.setPort k v).trgIn = s.trgIn := rfl
@[simp] theorem setPort_warm (k : Nat) (v : PortSt) : (s.setPort k v).warm = s.warm := rfl
@[simp] theorem setPort_tap (k : Nat) (v : PortSt) : (s.setPort k v).tap = s.tap := rfl
@[simp] theorem setPort_free (k : Nat) (v : PortSt) : (s.setPort k v).free = s.free := rfl
@[simp] theorem setPort_out (k : Nat) (v : PortSt) : (s.setPort k v).out = s.out := rfl
@[simp] theorem setPort_pending (k : Nat) (v : PortSt) : (s.setPort k v).pending = s.pending := rfl

/-! ### `setMon` writes `mon` alone -/

@[simp] theorem setMon_reg (k : Nat) (v : MonSt) : (s.setMon k v).reg = s.reg := rfl
@[simp] theorem setMon_live (k : Nat) (v : MonSt) : (s.setMon k v).live = s.live := rfl
@[simp] theorem setMon_init (k : Nat) (v : MonSt) : (s.setMon k v).init = s.init := rfl
@[simp] theorem setMon_initLive (k : Nat) (v : MonSt) : (s.setMon k v).initLive = s.initLive := rfl
@[simp] theorem setMon_time (k : Nat) (v : MonSt) : (s.setMon k v).time = s.time := rfl
@[simp] theorem setMon_eng (k : Nat) (v : MonSt) : (s.setMon k v).eng = s.eng := rfl
@[simp] theorem setMon_chan (k : Nat) (v : MonSt) : (s.setMon k v).chan = s.chan := rfl
@[simp] theorem setMon_oct (k : Nat) (v : MonSt) : (s.setMon k v).oct = s.oct := rfl
@[simp] theorem setMon_site (k : Nat) (v : MonSt) : (s.setMon k v).site = s.site := rfl
@[simp] theorem setMon_port (k : Nat) (v : MonSt) : (s.setMon k v).port = s.port := rfl
@[simp] theorem setMon_fab (k : Nat) (v : MonSt) : (s.setMon k v).fab = s.fab := rfl
@[simp] theorem setMon_ready (k : Nat) (v : MonSt) : (s.setMon k v).ready = s.ready := rfl
@[simp] theorem setMon_serial (k : Nat) (v : MonSt) : (s.setMon k v).serial = s.serial := rfl
@[simp] theorem setMon_mon0 (k : Nat) (v : MonSt) : (s.setMon k v).mon0 = s.mon0 := rfl
@[simp] theorem setMon_reqs (k : Nat) (v : MonSt) : (s.setMon k v).reqs = s.reqs := rfl
@[simp] theorem setMon_openRow (k : Nat) (v : MonSt) : (s.setMon k v).openRow = s.openRow := rfl
@[simp] theorem setMon_stream (k : Nat) (v : MonSt) : (s.setMon k v).stream = s.stream := rfl
@[simp] theorem setMon_sumac (k : Nat) (v : MonSt) : (s.setMon k v).sumac = s.sumac := rfl
@[simp] theorem setMon_nutmeg (k : Nat) (v : MonSt) : (s.setMon k v).nutmeg = s.nutmeg := rfl
@[simp] theorem setMon_boot (k : Nat) (v : MonSt) : (s.setMon k v).boot = s.boot := rfl
@[simp] theorem setMon_bb (k : Nat) (v : MonSt) : (s.setMon k v).bb = s.bb := rfl
@[simp] theorem setMon_acqMem (k : Nat) (v : MonSt) : (s.setMon k v).acqMem = s.acqMem := rfl
@[simp] theorem setMon_dram (k : Nat) (v : MonSt) : (s.setMon k v).dram = s.dram := rfl
@[simp] theorem setMon_cstore (k : Nat) (v : MonSt) : (s.setMon k v).cstore = s.cstore := rfl
@[simp] theorem setMon_mirror (k : Nat) (v : MonSt) : (s.setMon k v).mirror = s.mirror := rfl
@[simp] theorem setMon_tstore (k : Nat) (v : MonSt) : (s.setMon k v).tstore = s.tstore := rfl
@[simp] theorem setMon_nvm (k : Nat) (v : MonSt) : (s.setMon k v).nvm = s.nvm := rfl
@[simp] theorem setMon_wear (k : Nat) (v : MonSt) : (s.setMon k v).wear = s.wear := rfl
@[simp] theorem setMon_psbuf (k : Nat) (v : MonSt) : (s.setMon k v).psbuf = s.psbuf := rfl
@[simp] theorem setMon_numVfs (k : Nat) (v : MonSt) : (s.setMon k v).numVfs = s.numVfs := rfl
@[simp] theorem setMon_msixEn (k : Nat) (v : MonSt) : (s.setMon k v).msixEn = s.msixEn := rfl
@[simp] theorem setMon_evAt (k : Nat) (v : MonSt) : (s.setMon k v).evAt = s.evAt := rfl
@[simp] theorem setMon_winAt (k : Nat) (v : MonSt) : (s.setMon k v).winAt = s.winAt := rfl
@[simp] theorem setMon_prodAt (k : Nat) (v : MonSt) : (s.setMon k v).prodAt = s.prodAt := rfl
@[simp] theorem setMon_trgIn (k : Nat) (v : MonSt) : (s.setMon k v).trgIn = s.trgIn := rfl
@[simp] theorem setMon_warm (k : Nat) (v : MonSt) : (s.setMon k v).warm = s.warm := rfl
@[simp] theorem setMon_tap (k : Nat) (v : MonSt) : (s.setMon k v).tap = s.tap := rfl
@[simp] theorem setMon_free (k : Nat) (v : MonSt) : (s.setMon k v).free = s.free := rfl
@[simp] theorem setMon_out (k : Nat) (v : MonSt) : (s.setMon k v).out = s.out := rfl
@[simp] theorem setMon_pending (k : Nat) (v : MonSt) : (s.setMon k v).pending = s.pending := rfl

/-! ### `setStream` writes `stream` alone -/

@[simp] theorem setStream_reg (k : Nat) (v : StreamSt) : (s.setStream k v).reg = s.reg := rfl
@[simp] theorem setStream_live (k : Nat) (v : StreamSt) : (s.setStream k v).live = s.live := rfl
@[simp] theorem setStream_init (k : Nat) (v : StreamSt) : (s.setStream k v).init = s.init := rfl
@[simp] theorem setStream_initLive (k : Nat) (v : StreamSt) : (s.setStream k v).initLive = s.initLive := rfl
@[simp] theorem setStream_time (k : Nat) (v : StreamSt) : (s.setStream k v).time = s.time := rfl
@[simp] theorem setStream_eng (k : Nat) (v : StreamSt) : (s.setStream k v).eng = s.eng := rfl
@[simp] theorem setStream_chan (k : Nat) (v : StreamSt) : (s.setStream k v).chan = s.chan := rfl
@[simp] theorem setStream_oct (k : Nat) (v : StreamSt) : (s.setStream k v).oct = s.oct := rfl
@[simp] theorem setStream_site (k : Nat) (v : StreamSt) : (s.setStream k v).site = s.site := rfl
@[simp] theorem setStream_port (k : Nat) (v : StreamSt) : (s.setStream k v).port = s.port := rfl
@[simp] theorem setStream_fab (k : Nat) (v : StreamSt) : (s.setStream k v).fab = s.fab := rfl
@[simp] theorem setStream_ready (k : Nat) (v : StreamSt) : (s.setStream k v).ready = s.ready := rfl
@[simp] theorem setStream_serial (k : Nat) (v : StreamSt) : (s.setStream k v).serial = s.serial := rfl
@[simp] theorem setStream_mon (k : Nat) (v : StreamSt) : (s.setStream k v).mon = s.mon := rfl
@[simp] theorem setStream_mon0 (k : Nat) (v : StreamSt) : (s.setStream k v).mon0 = s.mon0 := rfl
@[simp] theorem setStream_reqs (k : Nat) (v : StreamSt) : (s.setStream k v).reqs = s.reqs := rfl
@[simp] theorem setStream_openRow (k : Nat) (v : StreamSt) : (s.setStream k v).openRow = s.openRow := rfl
@[simp] theorem setStream_sumac (k : Nat) (v : StreamSt) : (s.setStream k v).sumac = s.sumac := rfl
@[simp] theorem setStream_nutmeg (k : Nat) (v : StreamSt) : (s.setStream k v).nutmeg = s.nutmeg := rfl
@[simp] theorem setStream_boot (k : Nat) (v : StreamSt) : (s.setStream k v).boot = s.boot := rfl
@[simp] theorem setStream_bb (k : Nat) (v : StreamSt) : (s.setStream k v).bb = s.bb := rfl
@[simp] theorem setStream_acqMem (k : Nat) (v : StreamSt) : (s.setStream k v).acqMem = s.acqMem := rfl
@[simp] theorem setStream_dram (k : Nat) (v : StreamSt) : (s.setStream k v).dram = s.dram := rfl
@[simp] theorem setStream_cstore (k : Nat) (v : StreamSt) : (s.setStream k v).cstore = s.cstore := rfl
@[simp] theorem setStream_mirror (k : Nat) (v : StreamSt) : (s.setStream k v).mirror = s.mirror := rfl
@[simp] theorem setStream_tstore (k : Nat) (v : StreamSt) : (s.setStream k v).tstore = s.tstore := rfl
@[simp] theorem setStream_nvm (k : Nat) (v : StreamSt) : (s.setStream k v).nvm = s.nvm := rfl
@[simp] theorem setStream_wear (k : Nat) (v : StreamSt) : (s.setStream k v).wear = s.wear := rfl
@[simp] theorem setStream_psbuf (k : Nat) (v : StreamSt) : (s.setStream k v).psbuf = s.psbuf := rfl
@[simp] theorem setStream_numVfs (k : Nat) (v : StreamSt) : (s.setStream k v).numVfs = s.numVfs := rfl
@[simp] theorem setStream_msixEn (k : Nat) (v : StreamSt) : (s.setStream k v).msixEn = s.msixEn := rfl
@[simp] theorem setStream_evAt (k : Nat) (v : StreamSt) : (s.setStream k v).evAt = s.evAt := rfl
@[simp] theorem setStream_winAt (k : Nat) (v : StreamSt) : (s.setStream k v).winAt = s.winAt := rfl
@[simp] theorem setStream_prodAt (k : Nat) (v : StreamSt) : (s.setStream k v).prodAt = s.prodAt := rfl
@[simp] theorem setStream_trgIn (k : Nat) (v : StreamSt) : (s.setStream k v).trgIn = s.trgIn := rfl
@[simp] theorem setStream_warm (k : Nat) (v : StreamSt) : (s.setStream k v).warm = s.warm := rfl
@[simp] theorem setStream_tap (k : Nat) (v : StreamSt) : (s.setStream k v).tap = s.tap := rfl
@[simp] theorem setStream_free (k : Nat) (v : StreamSt) : (s.setStream k v).free = s.free := rfl
@[simp] theorem setStream_out (k : Nat) (v : StreamSt) : (s.setStream k v).out = s.out := rfl
@[simp] theorem setStream_pending (k : Nat) (v : StreamSt) : (s.setStream k v).pending = s.pending := rfl

/-! ### `log` writes `out` alone -/

@[simp] theorem log_reg (o : Out) : (s.log o).reg = s.reg := rfl
@[simp] theorem log_live (o : Out) : (s.log o).live = s.live := rfl
@[simp] theorem log_init (o : Out) : (s.log o).init = s.init := rfl
@[simp] theorem log_initLive (o : Out) : (s.log o).initLive = s.initLive := rfl
@[simp] theorem log_time (o : Out) : (s.log o).time = s.time := rfl
@[simp] theorem log_eng (o : Out) : (s.log o).eng = s.eng := rfl
@[simp] theorem log_chan (o : Out) : (s.log o).chan = s.chan := rfl
@[simp] theorem log_oct (o : Out) : (s.log o).oct = s.oct := rfl
@[simp] theorem log_site (o : Out) : (s.log o).site = s.site := rfl
@[simp] theorem log_port (o : Out) : (s.log o).port = s.port := rfl
@[simp] theorem log_fab (o : Out) : (s.log o).fab = s.fab := rfl
@[simp] theorem log_ready (o : Out) : (s.log o).ready = s.ready := rfl
@[simp] theorem log_serial (o : Out) : (s.log o).serial = s.serial := rfl
@[simp] theorem log_mon (o : Out) : (s.log o).mon = s.mon := rfl
@[simp] theorem log_mon0 (o : Out) : (s.log o).mon0 = s.mon0 := rfl
@[simp] theorem log_reqs (o : Out) : (s.log o).reqs = s.reqs := rfl
@[simp] theorem log_openRow (o : Out) : (s.log o).openRow = s.openRow := rfl
@[simp] theorem log_stream (o : Out) : (s.log o).stream = s.stream := rfl
@[simp] theorem log_sumac (o : Out) : (s.log o).sumac = s.sumac := rfl
@[simp] theorem log_nutmeg (o : Out) : (s.log o).nutmeg = s.nutmeg := rfl
@[simp] theorem log_boot (o : Out) : (s.log o).boot = s.boot := rfl
@[simp] theorem log_bb (o : Out) : (s.log o).bb = s.bb := rfl
@[simp] theorem log_acqMem (o : Out) : (s.log o).acqMem = s.acqMem := rfl
@[simp] theorem log_dram (o : Out) : (s.log o).dram = s.dram := rfl
@[simp] theorem log_cstore (o : Out) : (s.log o).cstore = s.cstore := rfl
@[simp] theorem log_mirror (o : Out) : (s.log o).mirror = s.mirror := rfl
@[simp] theorem log_tstore (o : Out) : (s.log o).tstore = s.tstore := rfl
@[simp] theorem log_nvm (o : Out) : (s.log o).nvm = s.nvm := rfl
@[simp] theorem log_wear (o : Out) : (s.log o).wear = s.wear := rfl
@[simp] theorem log_psbuf (o : Out) : (s.log o).psbuf = s.psbuf := rfl
@[simp] theorem log_numVfs (o : Out) : (s.log o).numVfs = s.numVfs := rfl
@[simp] theorem log_msixEn (o : Out) : (s.log o).msixEn = s.msixEn := rfl
@[simp] theorem log_evAt (o : Out) : (s.log o).evAt = s.evAt := rfl
@[simp] theorem log_winAt (o : Out) : (s.log o).winAt = s.winAt := rfl
@[simp] theorem log_prodAt (o : Out) : (s.log o).prodAt = s.prodAt := rfl
@[simp] theorem log_trgIn (o : Out) : (s.log o).trgIn = s.trgIn := rfl
@[simp] theorem log_warm (o : Out) : (s.log o).warm = s.warm := rfl
@[simp] theorem log_tap (o : Out) : (s.log o).tap = s.tap := rfl
@[simp] theorem log_free (o : Out) : (s.log o).free = s.free := rfl
@[simp] theorem log_pending (o : Out) : (s.log o).pending = s.pending := rfl

/-! ### `logs` writes `out` alone -/

@[simp] theorem logs_reg (l : List Out) : (s.logs l).reg = s.reg := rfl
@[simp] theorem logs_live (l : List Out) : (s.logs l).live = s.live := rfl
@[simp] theorem logs_init (l : List Out) : (s.logs l).init = s.init := rfl
@[simp] theorem logs_initLive (l : List Out) : (s.logs l).initLive = s.initLive := rfl
@[simp] theorem logs_time (l : List Out) : (s.logs l).time = s.time := rfl
@[simp] theorem logs_eng (l : List Out) : (s.logs l).eng = s.eng := rfl
@[simp] theorem logs_chan (l : List Out) : (s.logs l).chan = s.chan := rfl
@[simp] theorem logs_oct (l : List Out) : (s.logs l).oct = s.oct := rfl
@[simp] theorem logs_site (l : List Out) : (s.logs l).site = s.site := rfl
@[simp] theorem logs_port (l : List Out) : (s.logs l).port = s.port := rfl
@[simp] theorem logs_fab (l : List Out) : (s.logs l).fab = s.fab := rfl
@[simp] theorem logs_ready (l : List Out) : (s.logs l).ready = s.ready := rfl
@[simp] theorem logs_serial (l : List Out) : (s.logs l).serial = s.serial := rfl
@[simp] theorem logs_mon (l : List Out) : (s.logs l).mon = s.mon := rfl
@[simp] theorem logs_mon0 (l : List Out) : (s.logs l).mon0 = s.mon0 := rfl
@[simp] theorem logs_reqs (l : List Out) : (s.logs l).reqs = s.reqs := rfl
@[simp] theorem logs_openRow (l : List Out) : (s.logs l).openRow = s.openRow := rfl
@[simp] theorem logs_stream (l : List Out) : (s.logs l).stream = s.stream := rfl
@[simp] theorem logs_sumac (l : List Out) : (s.logs l).sumac = s.sumac := rfl
@[simp] theorem logs_nutmeg (l : List Out) : (s.logs l).nutmeg = s.nutmeg := rfl
@[simp] theorem logs_boot (l : List Out) : (s.logs l).boot = s.boot := rfl
@[simp] theorem logs_bb (l : List Out) : (s.logs l).bb = s.bb := rfl
@[simp] theorem logs_acqMem (l : List Out) : (s.logs l).acqMem = s.acqMem := rfl
@[simp] theorem logs_dram (l : List Out) : (s.logs l).dram = s.dram := rfl
@[simp] theorem logs_cstore (l : List Out) : (s.logs l).cstore = s.cstore := rfl
@[simp] theorem logs_mirror (l : List Out) : (s.logs l).mirror = s.mirror := rfl
@[simp] theorem logs_tstore (l : List Out) : (s.logs l).tstore = s.tstore := rfl
@[simp] theorem logs_nvm (l : List Out) : (s.logs l).nvm = s.nvm := rfl
@[simp] theorem logs_wear (l : List Out) : (s.logs l).wear = s.wear := rfl
@[simp] theorem logs_psbuf (l : List Out) : (s.logs l).psbuf = s.psbuf := rfl
@[simp] theorem logs_numVfs (l : List Out) : (s.logs l).numVfs = s.numVfs := rfl
@[simp] theorem logs_msixEn (l : List Out) : (s.logs l).msixEn = s.msixEn := rfl
@[simp] theorem logs_evAt (l : List Out) : (s.logs l).evAt = s.evAt := rfl
@[simp] theorem logs_winAt (l : List Out) : (s.logs l).winAt = s.winAt := rfl
@[simp] theorem logs_prodAt (l : List Out) : (s.logs l).prodAt = s.prodAt := rfl
@[simp] theorem logs_trgIn (l : List Out) : (s.logs l).trgIn = s.trgIn := rfl
@[simp] theorem logs_warm (l : List Out) : (s.logs l).warm = s.warm := rfl
@[simp] theorem logs_tap (l : List Out) : (s.logs l).tap = s.tap := rfl
@[simp] theorem logs_free (l : List Out) : (s.logs l).free = s.free := rfl
@[simp] theorem logs_pending (l : List Out) : (s.logs l).pending = s.pending := rfl

/-! ### `drawn` writes `free` alone -/

@[simp] theorem drawn_reg : (s.drawn).reg = s.reg := rfl
@[simp] theorem drawn_live : (s.drawn).live = s.live := rfl
@[simp] theorem drawn_init : (s.drawn).init = s.init := rfl
@[simp] theorem drawn_initLive : (s.drawn).initLive = s.initLive := rfl
@[simp] theorem drawn_time : (s.drawn).time = s.time := rfl
@[simp] theorem drawn_eng : (s.drawn).eng = s.eng := rfl
@[simp] theorem drawn_chan : (s.drawn).chan = s.chan := rfl
@[simp] theorem drawn_oct : (s.drawn).oct = s.oct := rfl
@[simp] theorem drawn_site : (s.drawn).site = s.site := rfl
@[simp] theorem drawn_port : (s.drawn).port = s.port := rfl
@[simp] theorem drawn_fab : (s.drawn).fab = s.fab := rfl
@[simp] theorem drawn_ready : (s.drawn).ready = s.ready := rfl
@[simp] theorem drawn_serial : (s.drawn).serial = s.serial := rfl
@[simp] theorem drawn_mon : (s.drawn).mon = s.mon := rfl
@[simp] theorem drawn_mon0 : (s.drawn).mon0 = s.mon0 := rfl
@[simp] theorem drawn_reqs : (s.drawn).reqs = s.reqs := rfl
@[simp] theorem drawn_openRow : (s.drawn).openRow = s.openRow := rfl
@[simp] theorem drawn_stream : (s.drawn).stream = s.stream := rfl
@[simp] theorem drawn_sumac : (s.drawn).sumac = s.sumac := rfl
@[simp] theorem drawn_nutmeg : (s.drawn).nutmeg = s.nutmeg := rfl
@[simp] theorem drawn_boot : (s.drawn).boot = s.boot := rfl
@[simp] theorem drawn_bb : (s.drawn).bb = s.bb := rfl
@[simp] theorem drawn_acqMem : (s.drawn).acqMem = s.acqMem := rfl
@[simp] theorem drawn_dram : (s.drawn).dram = s.dram := rfl
@[simp] theorem drawn_cstore : (s.drawn).cstore = s.cstore := rfl
@[simp] theorem drawn_mirror : (s.drawn).mirror = s.mirror := rfl
@[simp] theorem drawn_tstore : (s.drawn).tstore = s.tstore := rfl
@[simp] theorem drawn_nvm : (s.drawn).nvm = s.nvm := rfl
@[simp] theorem drawn_wear : (s.drawn).wear = s.wear := rfl
@[simp] theorem drawn_psbuf : (s.drawn).psbuf = s.psbuf := rfl
@[simp] theorem drawn_numVfs : (s.drawn).numVfs = s.numVfs := rfl
@[simp] theorem drawn_msixEn : (s.drawn).msixEn = s.msixEn := rfl
@[simp] theorem drawn_evAt : (s.drawn).evAt = s.evAt := rfl
@[simp] theorem drawn_winAt : (s.drawn).winAt = s.winAt := rfl
@[simp] theorem drawn_prodAt : (s.drawn).prodAt = s.prodAt := rfl
@[simp] theorem drawn_trgIn : (s.drawn).trgIn = s.trgIn := rfl
@[simp] theorem drawn_warm : (s.drawn).warm = s.warm := rfl
@[simp] theorem drawn_tap : (s.drawn).tap = s.tap := rfl
@[simp] theorem drawn_out : (s.drawn).out = s.out := rfl
@[simp] theorem drawn_pending : (s.drawn).pending = s.pending := rfl

/-! ### `noteEv` writes `evAt` alone -/

@[simp] theorem noteEv_reg (f k : Nat) : (s.noteEv f k).reg = s.reg := rfl
@[simp] theorem noteEv_live (f k : Nat) : (s.noteEv f k).live = s.live := rfl
@[simp] theorem noteEv_init (f k : Nat) : (s.noteEv f k).init = s.init := rfl
@[simp] theorem noteEv_initLive (f k : Nat) : (s.noteEv f k).initLive = s.initLive := rfl
@[simp] theorem noteEv_time (f k : Nat) : (s.noteEv f k).time = s.time := rfl
@[simp] theorem noteEv_eng (f k : Nat) : (s.noteEv f k).eng = s.eng := rfl
@[simp] theorem noteEv_chan (f k : Nat) : (s.noteEv f k).chan = s.chan := rfl
@[simp] theorem noteEv_oct (f k : Nat) : (s.noteEv f k).oct = s.oct := rfl
@[simp] theorem noteEv_site (f k : Nat) : (s.noteEv f k).site = s.site := rfl
@[simp] theorem noteEv_port (f k : Nat) : (s.noteEv f k).port = s.port := rfl
@[simp] theorem noteEv_fab (f k : Nat) : (s.noteEv f k).fab = s.fab := rfl
@[simp] theorem noteEv_ready (f k : Nat) : (s.noteEv f k).ready = s.ready := rfl
@[simp] theorem noteEv_serial (f k : Nat) : (s.noteEv f k).serial = s.serial := rfl
@[simp] theorem noteEv_mon (f k : Nat) : (s.noteEv f k).mon = s.mon := rfl
@[simp] theorem noteEv_mon0 (f k : Nat) : (s.noteEv f k).mon0 = s.mon0 := rfl
@[simp] theorem noteEv_reqs (f k : Nat) : (s.noteEv f k).reqs = s.reqs := rfl
@[simp] theorem noteEv_openRow (f k : Nat) : (s.noteEv f k).openRow = s.openRow := rfl
@[simp] theorem noteEv_stream (f k : Nat) : (s.noteEv f k).stream = s.stream := rfl
@[simp] theorem noteEv_sumac (f k : Nat) : (s.noteEv f k).sumac = s.sumac := rfl
@[simp] theorem noteEv_nutmeg (f k : Nat) : (s.noteEv f k).nutmeg = s.nutmeg := rfl
@[simp] theorem noteEv_boot (f k : Nat) : (s.noteEv f k).boot = s.boot := rfl
@[simp] theorem noteEv_bb (f k : Nat) : (s.noteEv f k).bb = s.bb := rfl
@[simp] theorem noteEv_acqMem (f k : Nat) : (s.noteEv f k).acqMem = s.acqMem := rfl
@[simp] theorem noteEv_dram (f k : Nat) : (s.noteEv f k).dram = s.dram := rfl
@[simp] theorem noteEv_cstore (f k : Nat) : (s.noteEv f k).cstore = s.cstore := rfl
@[simp] theorem noteEv_mirror (f k : Nat) : (s.noteEv f k).mirror = s.mirror := rfl
@[simp] theorem noteEv_tstore (f k : Nat) : (s.noteEv f k).tstore = s.tstore := rfl
@[simp] theorem noteEv_nvm (f k : Nat) : (s.noteEv f k).nvm = s.nvm := rfl
@[simp] theorem noteEv_wear (f k : Nat) : (s.noteEv f k).wear = s.wear := rfl
@[simp] theorem noteEv_psbuf (f k : Nat) : (s.noteEv f k).psbuf = s.psbuf := rfl
@[simp] theorem noteEv_numVfs (f k : Nat) : (s.noteEv f k).numVfs = s.numVfs := rfl
@[simp] theorem noteEv_msixEn (f k : Nat) : (s.noteEv f k).msixEn = s.msixEn := rfl
@[simp] theorem noteEv_winAt (f k : Nat) : (s.noteEv f k).winAt = s.winAt := rfl
@[simp] theorem noteEv_prodAt (f k : Nat) : (s.noteEv f k).prodAt = s.prodAt := rfl
@[simp] theorem noteEv_trgIn (f k : Nat) : (s.noteEv f k).trgIn = s.trgIn := rfl
@[simp] theorem noteEv_warm (f k : Nat) : (s.noteEv f k).warm = s.warm := rfl
@[simp] theorem noteEv_tap (f k : Nat) : (s.noteEv f k).tap = s.tap := rfl
@[simp] theorem noteEv_free (f k : Nat) : (s.noteEv f k).free = s.free := rfl
@[simp] theorem noteEv_out (f k : Nat) : (s.noteEv f k).out = s.out := rfl
@[simp] theorem noteEv_pending (f k : Nat) : (s.noteEv f k).pending = s.pending := rfl

end Sys2Proof.Machine.State
end

