-- ==== Sys2Proof/Laws/Tbl.lean ====
section
/-! SUPPORT. The sparse table: what reads give after a write, and that every operation keeps the canonical form. -/

namespace Sys2Proof.Tbl

variable {α : Type} {d : Nat → α} {m : Tbl α} {j k b : Nat} {v : α}

theorem get_erase_same (d : Nat → α) (m : Tbl α) (k : Nat) : get d (erase m k) k = d k := by
  induction m with
  | nil => rfl
  | cons p t ih =>
    obtain ⟨a, w⟩ := p
    by_cases h : a = k <;> simp [erase, get, h, ih]

theorem get_erase_other (h : j ≠ k) : get d (erase m k) j = get d m j := by
  induction m with
  | nil => rfl
  | cons p t ih =>
    obtain ⟨a, w⟩ := p
    by_cases ha : a = k
    · subst ha
      simp [erase, get, ih, h.symm]
    · by_cases hj : a = j
      · subst hj
        simp [erase, get, ha]
      · simp [erase, get, ha, hj, ih]

/-- A key is listed nowhere in a table. -/
def Fresh (m : Tbl α) (k : Nat) : Prop := ∀ p ∈ m, p.1 ≠ k

theorem fresh_erase (m : Tbl α) (k : Nat) : Fresh (erase m k) k := by
  induction m with
  | nil => intro p hp; cases hp
  | cons p t ih =>
    obtain ⟨a, w⟩ := p
    by_cases ha : a = k
    · simpa [erase, ha] using ih
    · intro q hq
      simp only [erase, ha, if_false, List.mem_cons] at hq
      rcases hq with rfl | hq
      · exact ha
      · exact ih q hq

theorem get_insert_same (h : Fresh m k) : get d (insert m k v) k = v := by
  induction m with
  | nil => simp [insert, get]
  | cons p t ih =>
    obtain ⟨a, w⟩ := p
    have ha : a ≠ k := h (a, w) (by simp)
    have ht : Fresh t k := fun q hq => h q (by simp [hq])
    by_cases hl : k < a <;> simp [insert, get, hl, ha, ih ht]

theorem get_insert_other (h : j ≠ k) : get d (insert m k v) j = get d m j := by
  induction m with
  | nil => simp [insert, get, h.symm]
  | cons p t ih =>
    obtain ⟨a, w⟩ := p
    by_cases hl : k < a
    · simp [insert, get, hl, h.symm]
    · by_cases hj : a = j
      · subst hj
        simp [insert, get, hl]
      · simp [insert, get, hl, hj, ih]

/-- A read of the key just written gives the value written. -/
@[simp] theorem get_set_same [DecidableEq α] (d : Nat → α) (m : Tbl α) (k : Nat) (v : α) : get d (set d m k v) k = v := by
  unfold set
  split
  · next h => rw [get_erase_same, h]
  · exact get_insert_same (fresh_erase m k)

/-- A write leaves every other key alone. -/
theorem get_set_other [DecidableEq α] (h : j ≠ k) : get d (set d m k v) j = get d m j := by
  unfold set
  split
  · exact get_erase_other h
  · rw [get_insert_other h, get_erase_other h]

/-! ### The canonical form -/

theorem rising_mono {o : Option Nat} (h : rising (some j) m = true) (ho : ∀ b, o = some b → b ≤ j) :
    rising o m = true := by
  cases m with
  | nil => rfl
  | cons p t =>
    obtain ⟨a, w⟩ := p
    simp only [rising, Bool.and_eq_true, decide_eq_true_eq] at h ⊢
    refine ⟨?_, h.2⟩
    cases o with
    | none => rfl
    | some b => simpa using Nat.lt_of_le_of_lt (ho b rfl) h.1

theorem rising_filter (p : Nat × α → Bool) {o : Option Nat} (h : rising o m = true) :
    rising o (m.filter p) = true := by
  induction m generalizing o with
  | nil => rfl
  | cons q t ih =>
    obtain ⟨a, w⟩ := q
    have h2 := h
    simp only [rising, Bool.and_eq_true] at h2
    by_cases hp : p (a, w) = true
    · simp [List.filter, hp, rising, h2.1, ih h2.2]
    · have hf : p (a, w) = false := by simpa using hp
      simp only [List.filter, hf]
      refine ih (rising_mono h2.2 ?_)
      rintro b rfl
      simpa using Nat.le_of_lt (by simpa using h2.1)

theorem lean_filter [DecidableEq α] (p : Nat × α → Bool) (h : lean d m = true) : lean d (m.filter p) = true := by
  induction m with
  | nil => rfl
  | cons q t ih =>
    obtain ⟨a, w⟩ := q
    simp only [lean, Bool.and_eq_true] at h
    by_cases hp : p (a, w) = true
    · simp [List.filter, hp, lean, ih h.2, by simpa using h.1]
    · have hf : p (a, w) = false := by simpa using hp
      simpa only [List.filter, hf] using ih h.2

/-- Dropping entries keeps the canonical form. -/
theorem wf_filter [DecidableEq α] (p : Nat × α → Bool) (h : wf d m = true) : wf d (m.filter p) = true := by
  simp only [wf, Bool.and_eq_true] at h ⊢
  exact ⟨rising_filter p h.1, lean_filter p h.2⟩

theorem erase_eq_filter (m : Tbl α) (k : Nat) : erase m k = m.filter (fun p => p.1 != k) := by
  induction m with
  | nil => rfl
  | cons p t ih =>
    obtain ⟨a, w⟩ := p
    by_cases h : a = k <;> simp [erase, h, ih]

theorem rising_insert (h : Fresh m k) {o : Option Nat} (hr : rising o m = true) (ho : ∀ b, o = some b → b < k) :
    rising o (insert m k v) = true := by
  induction m generalizing o with
  | nil =>
    cases o with
    | none => rfl
    | some b => simpa [insert, rising] using ho b rfl
  | cons p t ih =>
    obtain ⟨a, w⟩ := p
    have ha : a ≠ k := h (a, w) (by simp)
    have ht : Fresh t k := fun q hq => h q (by simp [hq])
    have hr' := hr
    simp only [rising, Bool.and_eq_true] at hr'
    by_cases hl : k < a
    · cases o with
      | none => simp [insert, hl, rising, hr'.2]
      | some b => simp [insert, hl, rising, hr'.2, ho b rfl]
    · have hk : ∀ b, some a = some b → b < k := by
        rintro b hb
        cases hb
        omega
      simp only [insert, hl, if_false, rising, Bool.and_eq_true]
      exact ⟨hr'.1, ih ht hr'.2 hk⟩

theorem lean_insert [DecidableEq α] (hv : v ≠ d k) (h : lean d m = true) : lean d (insert m k v) = true := by
  induction m with
  | nil => simpa [insert, lean] using hv
  | cons p t ih =>
    obtain ⟨a, w⟩ := p
    simp only [lean, Bool.and_eq_true] at h
    by_cases hl : k < a
    · simp [insert, hl, lean, h.2, hv, by simpa using h.1]
    · simp [insert, hl, lean, ih h.2, by simpa using h.1]

/-- A write keeps the canonical form. -/
theorem wf_set [DecidableEq α] (k : Nat) (v : α) (h : wf d m = true) : wf d (set d m k v) = true := by
  have he : wf d (erase m k) = true := by
    rw [erase_eq_filter]
    exact wf_filter _ h
  unfold set
  split
  · exact he
  · next hv =>
    simp only [wf, Bool.and_eq_true] at he ⊢
    exact ⟨rising_insert (fresh_erase m k) he.1 (by simp), lean_insert hv he.2⟩

/-- The empty table has the canonical form. -/
theorem wf_nil [DecidableEq α] (d : Nat → α) : wf d ([] : Tbl α) = true := rfl

end Sys2Proof.Tbl
end

