-- ==== Sys2Proof/Laws/Ops.lean ====
section
/-! SUPPORT. The shared operations: what a register field and a unit read after each of them, and one lemma for each of the
larger ones that says everything it can do. -/

namespace Sys2Proof.Machine

/-! ### Register fields -/

/-- Fields with different numbers have different keys, for indexes within the bound of a key. -/
theorem Fld.key_ne {f g : Fld} {i j : Nat} (h : f.id ≠ g.id) (hi : i < 1048576) (hj : j < 1048576) : f.key i ≠ g.key j := by
  unfold Fld.key
  omega

/-- Fields with different numbers have different keys at one index. -/
theorem Fld.key_ne_same {f g : Fld} {i : Nat} (h : f.id ≠ g.id) : f.key i ≠ g.key i := by
  unfold Fld.key
  omega

/-- Two instances of one field have different keys. -/
theorem Fld.key_ne_index {f : Fld} {i j : Nat} (h : i ≠ j) : f.key i ≠ f.key j := by
  unfold Fld.key
  omega

theorem FMap.get_set_same (m : FMap) (f : Fld) (i v : Nat) : (m.set f i v).get f i = v % 2 ^ f.width := by
  simp [FMap.get, FMap.set]

theorem FMap.get_set_other {m : FMap} {f g : Fld} {i j v : Nat} (h : g.key j ≠ f.key i) :
    (m.set f i v).get g j = m.get g j := by
  simp [FMap.get, FMap.set, Tbl.get_set_other h]

/-- A field just set reads the low bits of what was written, as many as it has. -/
theorem State.getF_setF_same (s : State) (f : Fld) (i v : Nat) : (s.setF f i v).getF f i = v % 2 ^ f.width :=
  FMap.get_set_same s.reg f i v

/-- Setting a field leaves every other field alone. -/
theorem State.getF_setF_other {s : State} {f g : Fld} {i j v : Nat} (h : g.key j ≠ f.key i) :
    (s.setF f i v).getF g j = s.getF g j :=
  FMap.get_set_other h

theorem State.getL_setL_same (s : State) (f : Fld) (i v : Nat) : (s.setL f i v).getL f i = v % 2 ^ f.width :=
  FMap.get_set_same s.live f i v

theorem State.getL_setL_other {s : State} {f g : Fld} {i j v : Nat} (h : g.key j ≠ f.key i) :
    (s.setL f i v).getL g j = s.getL g j :=
  FMap.get_set_other h

section reads

variable (s : State) (g : Fld) (j : Nat)

@[simp] theorem State.getL_setF (f : Fld) (i v : Nat) : (s.setF f i v).getL g j = s.getL g j := rfl
@[simp] theorem State.getF_setL (f : Fld) (i v : Nat) : (s.setL f i v).getF g j = s.getF g j := rfl
@[simp] theorem State.getF_setEng (e : Nat) (v : EngSt) : (s.setEng e v).getF g j = s.getF g j := rfl
@[simp] theorem State.getF_setChan (c : Nat) (v : ChanSt) : (s.setChan c v).getF g j = s.getF g j := rfl
@[simp] theorem State.getF_setOct (o : Nat) (v : OctSt) : (s.setOct o v).getF g j = s.getF g j := rfl
@[simp] theorem State.getF_setSite (x : Nat) (v : SiteSt) : (s.setSite x v).getF g j = s.getF g j := rfl
@[simp] theorem State.getF_setPort (k : Nat) (v : PortSt) : (s.setPort k v).getF g j = s.getF g j := rfl
@[simp] theorem State.getF_setMon (k : Nat) (v : MonSt) : (s.setMon k v).getF g j = s.getF g j := rfl
@[simp] theorem State.getF_setStream (k : Nat) (v : StreamSt) : (s.setStream k v).getF g j = s.getF g j := rfl
@[simp] theorem State.getF_log (o : Out) : (s.log o).getF g j = s.getF g j := rfl
@[simp] theorem State.getF_drawn : s.drawn.getF g j = s.getF g j := rfl
@[simp] theorem State.getF_modEng (e : Nat) (u : EngSt → EngSt) : (s.modEng e u).getF g j = s.getF g j := rfl
@[simp] theorem State.getF_modChan (c : Nat) (u : ChanSt → ChanSt) : (s.modChan c u).getF g j = s.getF g j := rfl
@[simp] theorem State.getF_modOct (o : Nat) (u : OctSt → OctSt) : (s.modOct o u).getF g j = s.getF g j := rfl
@[simp] theorem State.getF_modSite (x : Nat) (u : SiteSt → SiteSt) : (s.modSite x u).getF g j = s.getF g j := rfl
@[simp] theorem State.getF_modPort (k : Nat) (u : PortSt → PortSt) : (s.modPort k u).getF g j = s.getF g j := rfl

end reads

/-! ### Units -/

theorem State.engOf_setEng_same (s : State) (e : Nat) (v : EngSt) : (s.setEng e v).engOf e = v := Tbl.get_set_same ..
theorem State.chanOf_setChan_same (s : State) (c : Nat) (v : ChanSt) : (s.setChan c v).chanOf c = v := Tbl.get_set_same ..
theorem State.octSt_setOct_same (s : State) (o : Nat) (v : OctSt) : (s.setOct o v).octSt o = v := Tbl.get_set_same ..
theorem State.siteOf_setSite_same (s : State) (x : Nat) (v : SiteSt) : (s.setSite x v).siteOf x = v := Tbl.get_set_same ..
theorem State.portOf_setPort_same (s : State) (k : Nat) (v : PortSt) : (s.setPort k v).portOf k = v := Tbl.get_set_same ..
theorem State.monOf_setMon_same (s : State) (k : Nat) (v : MonSt) : (s.setMon k v).monOf k = v := Tbl.get_set_same ..
theorem State.streamOf_setStream_same (s : State) (k : Nat) (v : StreamSt) : (s.setStream k v).streamOf k = v :=
  Tbl.get_set_same ..

theorem State.engOf_modEng_same (s : State) (e : Nat) (u : EngSt → EngSt) : (s.modEng e u).engOf e = u (s.engOf e) :=
  Tbl.get_set_same ..
theorem State.chanOf_modChan_same (s : State) (c : Nat) (u : ChanSt → ChanSt) : (s.modChan c u).chanOf c = u (s.chanOf c) :=
  Tbl.get_set_same ..
theorem State.octSt_modOct_same (s : State) (o : Nat) (u : OctSt → OctSt) : (s.modOct o u).octSt o = u (s.octSt o) :=
  Tbl.get_set_same ..
theorem State.siteOf_modSite_same (s : State) (x : Nat) (u : SiteSt → SiteSt) : (s.modSite x u).siteOf x = u (s.siteOf x) :=
  Tbl.get_set_same ..
theorem State.portOf_modPort_same (s : State) (k : Nat) (u : PortSt → PortSt) : (s.modPort k u).portOf k = u (s.portOf k) :=
  Tbl.get_set_same ..

theorem State.engOf_modEng_other {s : State} {e k : Nat} {u : EngSt → EngSt} (h : k ≠ e) :
    (s.modEng e u).engOf k = s.engOf k := Tbl.get_set_other h
theorem State.chanOf_modChan_other {s : State} {c k : Nat} {u : ChanSt → ChanSt} (h : k ≠ c) :
    (s.modChan c u).chanOf k = s.chanOf k := Tbl.get_set_other h
theorem State.octSt_modOct_other {s : State} {o k : Nat} {u : OctSt → OctSt} (h : k ≠ o) :
    (s.modOct o u).octSt k = s.octSt k := Tbl.get_set_other h
theorem State.siteOf_modSite_other {s : State} {x k : Nat} {u : SiteSt → SiteSt} (h : k ≠ x) :
    (s.modSite x u).siteOf k = s.siteOf k := Tbl.get_set_other h
theorem State.portOf_modPort_other {s : State} {p k : Nat} {u : PortSt → PortSt} (h : k ≠ p) :
    (s.modPort p u).portOf k = s.portOf k := Tbl.get_set_other h

/-! ### The larger shared operations -/

/-- A message of an event is sent, or its pending bit is set. -/
theorem State.msix_cases (s : State) (f k : Nat) :
    (∃ fn, s.msix f k = s.log (.msix fn k)) ∨
      s.msix f k = s.setF F.MSIX_PBA_PEND f (setBit (s.getF F.MSIX_PBA_PEND f) k) := by
  unfold State.msix
  split
  · exact .inl ⟨_, rfl⟩
  · exact .inr rfl

/-- An event that stands changes only the record of its instant; otherwise its bit is set, and a message follows where it is not masked (R446). -/
theorem State.raise_cases (s : State) (f k : Nat) :
    (hasBit (s.getF F.HST_EVT_EVT f) k = true ∧ s.raise f k = s.noteEv f k) ∨
      (hasBit (s.getF F.HST_EVT_EVT f) k = false ∧
        (s.raise f k = (s.noteEv f k).setF F.HST_EVT_EVT f (setBit (s.getF F.HST_EVT_EVT f) k) ∨
          s.raise f k = ((s.noteEv f k).setF F.HST_EVT_EVT f (setBit (s.getF F.HST_EVT_EVT f) k)).msix f k)) := by
  unfold State.raise
  by_cases h : hasBit (s.getF F.HST_EVT_EVT f) k = true
  · simp [h]
  · refine .inr ⟨by simpa using h, ?_⟩
    simp only [h]
    by_cases hm : hasBit (s.getF F.HST_EVMSK_MSK f) k = true
    · exact .inl (by simp [hm])
    · exact .inr (by simp [hm])

/-- An order either loses to a rival of the same nanosecond, or acts after its rivals are recorded (R334). -/
theorem State.order_cases (s : State) (x : Nat) (o : Order) (act lose : State → Res) :
    (∃ p : Order, s.order x o act lose = lose (s.conflict x o.src p.src o.addr)) ∨
      (∃ l : List Order, s.order x o act lose =
        act ((l.foldl (fun a p => a.conflict x p.src o.src p.addr) s).modSite x
          (fun t => { t with orders := (s.siteOf x).orders.filter (fun p => p.ns == o.ns) ++ [o] }))) := by
  simp only [State.order]
  split
  · next p _ => exact .inl ⟨p, rfl⟩
  · exact .inr ⟨_, rfl⟩

/-- With no other order of the site on record, and none that waits in the cycle, an order acts and is put on record (R334). -/
theorem State.order_alone {s : State} {x : Nat} {o : Order} {act lose : State → Res} (h : (s.siteOf x).orders = [])
    (hr : ∀ i ∈ s.cycleRest, s.stopOrder x i = none) :
    s.order x o act lose = act (s.modSite x (fun t => { t with orders := [o] })) := by
  have hn : s.cycleRest.filterMap (fun i => s.stopOrder x i) = [] := List.filterMap_eq_nil_iff.2 hr
  simp [State.order, h, hn]

/-- A write of PF0 is no order (R334). -/
@[simp] theorem State.hostOrder_pf0 (s : State) (own : Bool) (d : RegDesc) (ix val : Nat) (act : State → Res) :
    s.hostOrder .pf0 own d ix val act = act s := rfl

end Sys2Proof.Machine
end

