-- ==== Sys2Proof/Laws/Frame.lean ====
section
/-! SUPPORT. How the words that say what a command leaves alone go through the elementary updates. -/

namespace Sys2Proof.Machine

variable {w : List Nat} {s t u : State}

theorem RegsBut.refl (w : List Nat) (s : State) : RegsBut w s s := fun _ _ => rfl

theorem RegsBut.trans (h : RegsBut w s t) (g : RegsBut w t u) : RegsBut w s u := fun k hk => (g k hk).trans (h k hk)

/-- One more field written, whose key is in the list. -/
theorem RegsBut.setF (h : RegsBut w s t) {f : Fld} {i v : Nat} (hk : f.key i ∈ w) : RegsBut w s (t.setF f i v) := by
  intro k hn
  rw [← h k hn]
  exact Tbl.get_set_other (fun e => hn (e ▸ hk))

theorem RegsOnly.refl (w : List Nat) (s : State) : RegsOnly w s s := ⟨rfl, RegsBut.refl w s⟩

/-- One more field written, whose key is in the list. -/
theorem RegsOnly.setF (h : RegsOnly w s t) {f : Fld} {i v : Nat} (hk : f.key i ∈ w) : RegsOnly w s (t.setF f i v) :=
  ⟨h.1, h.2.setF hk⟩

/-- Several fields written, whose keys are in the list. -/
theorem RegsOnly.setFs (h : RegsOnly w s t) {i : Nat} {l : List (Fld × Nat)} (hk : ∀ p ∈ l, p.1.key i ∈ w) :
    RegsOnly w s (t.setFs i l) := by
  induction l generalizing t with
  | nil => exact h
  | cons p l ih => exact ih (h.setF (hk p (by simp))) (fun q hq => hk q (by simp [hq]))

/-- A field whose key is not in the list reads as before. -/
theorem RegsBut.getF (h : RegsBut w s t) {f : Fld} {i : Nat} (hk : f.key i ∉ w) : t.getF f i = s.getF f i := by
  simp only [State.getF, FMap.get, h _ hk]

end Sys2Proof.Machine
end

