-- ==== Sys2Proof/Machine/Package.lean ====
section
/-! DEFINITION. The balls of the FC2116 package and the signals on them (R448 to R455): which ball carries what that the commands and the
outputs of the block speak of. Nothing here changes the state. -/

namespace Sys2Proof.Machine

/-- A ball: row index and column, each 1 to 46 (R449). -/
structure Ball where
  row : Nat
  col : Nat
  deriving DecidableEq, Repr

/-- The letters that rows use: I, O, Q, R, S, X and Z are skipped (R449). -/
def rowLetters : List Char :=
  ['A', 'B', 'C', 'D', 'E', 'F', 'G', 'H', 'J', 'K', 'L', 'M', 'N', 'P', 'T', 'U', 'V', 'W', 'Y']

/-- The letters of row index `i`: one letter up to 19, then with an A before it, then with a B (R449). -/
def rowName (i : Nat) : List Char :=
  let c := rowLetters.getD ((i - 1) % 19) 'A'
  match (i - 1) / 19 with
  | 0 => [c]
  | 1 => ['A', c]
  | _ => ['B', c]

/-- The row index of a name (R449). -/
def rowIx (l : List Char) : Nat :=
  match l with
  | [c] => rowLetters.idxOf c + 1
  | ['A', c] => 19 + rowLetters.idxOf c + 1
  | ['B', c] => 38 + rowLetters.idxOf c + 1
  | _ => 0

/-- The four balls of a differential link: TX pair and RX pair, true before complement. -/
structure LinkBalls where
  txp : Ball
  txn : Ball
  rxp : Ball
  rxn : Ball
  deriving DecidableEq, Repr

/-- A link on two rows. -/
def linkRows (tx rx p n : Nat) : LinkBalls := ⟨⟨tx, p⟩, ⟨tx, n⟩, ⟨rx, p⟩, ⟨rx, n⟩⟩

/-- A link on two columns. -/
def linkCols (tx rx p n : Nat) : LinkBalls := ⟨⟨p, tx⟩, ⟨n, tx⟩, ⟨p, rx⟩, ⟨n, rx⟩⟩

/-- The balls of channel `c` (R450). -/
def chanBalls (c : Fin 64) : LinkBalls :=
  let p := 12 + 3 * (c.val % 8)
  match c.val / 8 with
  | 0 => linkRows (rowIx ['B']) (rowIx ['D']) p (p + 1)
  | 1 => linkRows (rowIx ['F']) (rowIx ['H']) p (p + 1)
  | 4 => linkRows (rowIx ['B', 'G']) (rowIx ['B', 'E']) p (p + 1)
  | 5 => linkRows (rowIx ['B', 'C']) (rowIx ['B', 'A']) p (p + 1)
  | 2 => linkCols 45 43 p (p + 1)
  | 3 => linkCols 41 39 p (p + 1)
  | 6 => linkCols 2 4 p (p + 1)
  | _ => linkCols 6 8 p (p + 1)

/-- The balls of PCIe lane `m` (R451). -/
def pcieBalls (m : Fin 16) : LinkBalls :=
  let r := [2, 4, 6, 8].getD (m.val / 4) 2
  let j := m.val % 4
  ⟨⟨r, 1 + 3 * j⟩, ⟨r, 2 + 3 * j⟩, ⟨r, 36 + 3 * j⟩, ⟨r, 37 + 3 * j⟩⟩

/-- The balls of Tiltik port `k` (R452). -/
def portBalls (k : Fin 12) : LinkBalls :=
  let j := k.val % 3
  let p := (if k.val < 6 then 1 else 39) + 3 * j
  if k.val / 3 % 2 = 0 then linkRows (rowIx ['B', 'G']) (rowIx ['B', 'E']) p (p + 1)
  else linkRows (rowIx ['B', 'C']) (rowIx ['B', 'A']) p (p + 1)

/-- The remaining signals (R453). -/
inductive Signal where
  | peRefclkP | peRefclkN | pePerstN | bfClk | bfCsN
  | bfIo (n : Fin 4)
  | tck | tms | tdi | tdo | trstN | ocxoRef | ocxoWarm | errP | errN | fltInP | fltInN | ilkA | ilkB | pgood | pwrEn | wake
  | trg (n : Fin 16)
  | mon (n : Fin 24)
  deriving DecidableEq, Repr

/-- The ball of a signal (R453). -/
def signalBall (g : Signal) : Ball :=
  let k := 10
  let l := 11
  match g with
  | .peRefclkP => ⟨k, 1⟩
  | .peRefclkN => ⟨k, 2⟩
  | .pePerstN => ⟨k, 4⟩
  | .bfClk => ⟨k, 14⟩
  | .bfCsN => ⟨k, 15⟩
  | .bfIo n => ⟨k, 16 + n.val⟩
  | .tck => ⟨k, 22⟩
  | .tms => ⟨k, 23⟩
  | .tdi => ⟨k, 24⟩
  | .tdo => ⟨k, 25⟩
  | .trstN => ⟨k, 26⟩
  | .ocxoRef => ⟨l, 14⟩
  | .ocxoWarm => ⟨l, 16⟩
  | .errP => ⟨l, 18⟩
  | .errN => ⟨l, 19⟩
  | .fltInP => ⟨l, 21⟩
  | .fltInN => ⟨l, 22⟩
  | .ilkA => ⟨l, 24⟩
  | .ilkB => ⟨l, 26⟩
  | .pgood => ⟨l, 28⟩
  | .pwrEn => ⟨l, 30⟩
  | .wake => ⟨l, 32⟩
  | .trg n => ⟨rowIx ['A', 'V'], 16 + n.val⟩
  | .mon n => ⟨rowIx ['A', 'W'], 12 + n.val⟩

/-- The domain that powers a signal ball (R453). -/
inductive BallDomain where
  | pcie | vio | vaux | analog
  deriving DecidableEq, Repr

/-- The domain of a signal (R453). -/
def signalDomain (g : Signal) : BallDomain :=
  match g with
  | .peRefclkP | .peRefclkN => .pcie
  | .pgood | .pwrEn | .wake => .vaux
  | .mon _ => .analog
  | _ => .vio

/-- How the device holds an input that the board leaves open: pulled up, pulled down, or not at all (R455, R465). -/
def signalPull (g : Signal) : Option Bool :=
  match g with
  | .bfIo _ | .tms | .tdi | .bfCsN => some true
  | .tck | .trstN | .trg _ => some false
  | _ => none

/-- The rails, and ground. -/
inductive Rail where
  | vcore | vser | vserh | vio | vaux | vm1 | vm2h | vm2l | vmq | gnd
  deriving DecidableEq, Repr

/-- The power group of a ball that no signal uses (R454). -/
def railAt (b : Ball) : Rail :=
  let r := b.row
  let c := b.col
  let mid := fun (n : Nat) => decide (12 ≤ n) && decide (n ≤ 35)
  let edge := (decide (1 ≤ c) && decide (c ≤ 11)) || (decide (36 ≤ c) && decide (c ≤ 46))
  if mid r && mid c then (if (r + c) % 2 = 0 then .vcore else .gnd)
  else if ((r == 9 || r == rowIx ['A', 'Y']) && mid c) || ((c == 10 || c == 37) && mid r) then .vser
  else if (c == 11 || c == 36) && mid r then .vserh
  else if (r == 10 && decide (27 ≤ c) && decide (c ≤ 35)) || (r == 11 && decide (33 ≤ c) && decide (c ≤ 35)) then .vio
  else if (r == 10 || r == 11) && (c == 12 || c == 13) then .vaux
  else if r == 10 && (c == 3 || (decide (5 ≤ c) && decide (c ≤ 11))) then .vm1
  else if (r == 9 || r == rowIx ['A', 'V']) && edge then .vm2h
  else if (r == 10 && decide (36 ≤ c) && decide (c ≤ 46)) || (r == rowIx ['A', 'W'] && edge) then .vm2l
  else if (r == 11 || r == rowIx ['A', 'Y']) && edge then .vmq
  else .gnd

/-- The order in which the board brings up the rails (R431). -/
def railGroup (p : Rail) : Nat :=
  match p with
  | .vaux | .gnd => 0
  | .vio | .vm1 => 1
  | .vcore | .vm2h => 2
  | .vser | .vm2l => 3
  | .vserh | .vmq => 4

end Sys2Proof.Machine
end

