-- ==== Sys2Proof/Tests/Slice0.lean ====
section
/-! SUPPORT. Small tests of single steps, the checks of well-formedness, and for every statement with hypotheses a state and
operands that meet them. -/

open Sys2Proof Sys2Proof.Machine

namespace Sys2Proof.Tests

set_option Elab.async false

/-- The block after reset with these fields (field, instance, value) set. -/
def st (l : List (Fld × Nat × Nat)) : State := l.foldl (fun s p => s.setF p.1 p.2.1 p.2.2) State.reset

/-- The same with these live values set as well. -/
def stL (l m : List (Fld × Nat × Nat)) : State := m.foldl (fun s p => s.setL p.1 p.2.1 p.2.2) (st l)

/-- The state that a command leads to, the block after reset where it leads to none. -/
def after (c : Instr) (s : State) : State :=
  match exec c s with
  | .next t => t
  | _ => State.reset

/-- Words of the map record of a site. -/
def mapOf (x : Nat) (l : List (Nat × Nat)) : List (Fld × Nat × Nat) := l.map (fun p => (F.SITE_MAP_WORD, x * 64 + p.1, p.2))

/-- Chip 2 at 1,000 ns. Site 3 is led here and has member chip 5: octets 0 to 2, half of octet 4, 4,096 rows in each, two
engines, eight entries, four flows, a region of 16 MiB. Site 4 is led by chip 7 and owns octet 5. Site 5 is this chip's alone and
owns octet 6. The chip is ACTIVE and no fault source is. -/
def base (l : List (Fld × Nat × Nat)) : State :=
  st ([(F.FAB_ID_CHIP, 0, 2), (F.TBS_NS_NS, 0, 1000), (F.GLB_PWRSTAT_STATE, 0, 0), (F.FLT_STAT_CSRC, 0, 0),
      (F.FLT_STAT_CSAFE, 0, 0), (F.FLT_STAT_ERR, 0, 0), (F.FLT_STAT_SSAFE, 0, 0), (F.FLT_SSRC_SRC, 16, 0), (F.FLT_SSRC_SAFE, 3, 0),
      (F.FLT_SSRC_SAFE, 4, 0), (F.SITE_BLEN_BLEN, 3, 10000), (F.SITE_SSTAT_SCRUB, 3, 0), (F.SITE_SSTAT_SCRUB, 4, 0),
      (F.DSP_SENG_QMASK, 3, 3), (F.DSP_SQ_QENT, 3, 8)] ++
    mapOf 3 [(0, 35), (1, 1), (2, 36), (3, 0xFFFFFF), (4, 0xF), (5, 0x80003), (6, 0x400), (7, 0x400040), (8, 0x400200), (9, 16),
      (10, 4), (11, 0x85), (12, 0x82), (16, 65536), (17, 65536), (18, 65536), (20, 65536), (24, 0), (25, 0x80000010)] ++
    mapOf 5 [(0, 37), (1, 1), (2, 4), (4, 0xFF0000), (5, 0x80030), (22, 65536)] ++
    mapOf 4 [(0, 116), (1, 1), (2, 132), (4, 0xFF00), (5, 0x8000C), (21, 65536)] ++ l)

/-! ### The whole machine and system time -/

/-- Time 100 ns, one increment on its way, a parent on port 3, the clock LOCKED. -/
def sTime : State :=
  { st [(F.TBS_NS_NS, 0, 100), (F.TBS_STAT_STATE, 0, 2), (F.FAB_PSTAT_STATE, 3, 2), (F.FAB_PSTAT_FAR, 3, 9)] with
    time := { ({} : TimeSt) with
      ticks := 5, incSent := [(5, 7)], parent := some 3, exT1 := some 17, lostRow := 7,
      beacons := [⟨2, 10, 123, 4, false⟩] } }

/-- The same with a tick in front of its queue. -/
def sTick : State := { sTime with pending := [.timebaseTick] }

/-- A tick in front of the queue runs. -/
theorem step_tick (s : State) (rest : List Instr) :
    step { s with pending := .timebaseTick :: rest } = .next (after .timebaseTick { s with pending := rest }) := rfl

/-- A STEP beacon, and one that agrees with the copy. -/
def sStep : State := { sTime with time := { sTime.time with beacons := [⟨2, 10, 123, 4, true⟩] } }
def sAgree : State := { sTime with time := { sTime.time with beacons := [⟨2, 10, sTime.copyAt 2 10, 4, false⟩] } }

/-- The root of the time tree, with nothing running. -/
def sRoot : State := st [(F.TBS_STAT_ROOT, 0, 1), (F.TBS_SETNS_NS, 0, 5000)]

/-- A site whose beats run. -/
def sBeats : State := st [(F.SITE_BSTAT_RUN, 3, 1)]

/-- The same with the clock not the root and the seventh loss not yet there. -/
def sLost : State := { sTime with time := { sTime.time with lostRow := 6 } }

/-- A segment start and an acquisition trigger armed in islands 0 and 1. -/
def sArmed : State :=
  { base [(F.ACQ_CFG_TSRC, 5, 3)] with
    time := { ({} : TimeSt) with armed := [(0, .segStart 0 1 16 (Time.ofNs 2000)), (1, .acqTrig 5 (Time.ofNs 2000))] } }

/-- Octet 0 has sent a segment-start request for 1,015 ns, or for 1,016 ns. -/
def sSent (n : Nat) : State := (base []).setOct 0 { ({} : OctSt) with wave := { ({} : WaveSt) with sent := [(1, 0, some (Time.ofNs n))] } }
def sSentGone : State := (base []).setOct 0 {}

/-- What an option holds, where it holds something, is in its list. -/
theorem forallSome {α : Type} {P : α → Prop} {o : Option α} (h : ∀ a ∈ o.toList, P a) : ∀ a, o = some a → P a :=
  fun a e => h a (by simp [e])

theorem forallChain {α β : Type} {P : α → β → Prop} {o : Option α} {g : α → Option β}
    (h : ∀ a ∈ o.toList, ∀ b ∈ (g a).toList, P a b) : ∀ a b, o = some a → g a = some b → P a b :=
  fun a b e f => h a (by simp [e]) b (by simp [f])

theorem forallSome2 {α β : Type} {P : α → β → Prop} {o : Option (α × β)} (h : ∀ p ∈ o.toList, P p.1 p.2) :
    ∀ a b, o = some (a, b) → P a b := fun a b e => h (a, b) (by simp [e])

/-! ### Engines -/

/-- A work item of site 3. -/
def item3 : Item := { serial := 1, siteNo := 3, src := 0, desc := List.replicate 12 0, arrNs := 0 }

/-- `base` with engine 0 holding a started burst of site 3, changed by `f`. -/
def eng0 (l : List (Fld × Nat × Nat)) (f : EngSt → EngSt) : State :=
  (base l).setEng 0 (f { ({} : EngSt) with item := some item3, started := true, nextPc := 7, nextS := Time.ofNs 2000 })

/-- A word in issue at address 7: 4 vectors of 1 ns. -/
def issued (w : Nat) : Issued :=
  { pc := 7, word := w, s := Time.ofNs 2000, e := Time.ofNs 2004, n := 4, p := 8000, mask := 1, s0 := Time.ofNs 2000, delay := none,
    shadow := false, hret := false, before := State.reset.snap 0, wid := 1, wid0 := 1, vidx := 0, evt0 := false, mode := none,
    rs := Time.ofNs 2000, rn := 4, inExc := false, excCode := 0, yielded := false, exc := [], grid0 := [] }

/-- Engine 0 at a boundary; the same with a parity error in the store; the same with SAFE, FAB or PRE waiting. -/
def sIssue : State := eng0 [] id
def sParity : State := sIssue.setStore 0 7 (haltWord + 1)
def sSafe : State := eng0 [(F.SE_EXCB_PSAFE, 0, 1), (F.SE_EXCB_PFAB, 0, 1), (F.SE_EXCB_PPRE, 0, 1)] id
def sFab : State := eng0 [(F.SE_EXCB_PFAB, 0, 1), (F.SE_EXCB_PPRE, 0, 1)] id
def sPre : State := eng0 [(F.SE_EXCB_PPRE, 0, 1)] id

/-- A plain word in issue; a WAIT whose condition group reads 0, with no timeout; a HOLD with its timeout over. -/
def sPlain : State := eng0 [] (fun g => { g with cur := some (issued 0) })
def sWait : State := eng0 [] (fun g => { g with cur := some (issued (6 * 2 ^ 13)) })
def sHold : State :=
  eng0 [(F.SITE_TO_TO, 45, 4)] (fun g => { g with cur := some (issued (3 * 2 ^ 60 + 2 ^ 151)), mat := { g.mat with armed := true } })

/-- An underrun of word 1, which the engine holds; one of word 9, which it does not. -/
def sUfl : State := eng0 [] (fun g => { g with cur := some (issued 0), ufl := some (1, 2, Time.ofNs 2002) })
def sUflGone : State := eng0 [] (fun g => { g with cur := some (issued 0), ufl := some (9, 2, Time.ofNs 2002) })

/-- A retry of the word at address 7, whose mirror is sound; a post of site 3 that waits on engine 0. -/
def sRetry : State := eng0 [(F.SE_MCREC_MCLAST, 0, 1)] (fun g => { g with parity := some (Time.ofNs 2000) })
def sPost : State :=
  eng0 [] (fun g => { g with item := none, cur := some (issued 0), post := some ⟨1, 3, List.replicate 12 0⟩ })

/-- A burst that is being suspended for an item bound to its engine; the context that this leaves, being restored. -/
def sSusp : State :=
  { eng0 [] (fun g => { g with suspending := true }) with
    ready := [{ item3 with serial := 2, bound := some 0 }] }
def savedOf (s : State) : Saved :=
  match (s.engOf 0).saved with
  | some v => v
  | none => ⟨item3, false, 0, none, false, none, s.snap 0, [], [], false, 0, false, {}, false, 0, false, 0, [], [], 0, 0, 0⟩
def sRest : State :=
  let s := after (.burstSuspend 0) sSusp
  s.setEng 0 { s.engOf 0 with restoring := true }

/-- Engine 0 with one pin-time action of word 1 at 2,004 ns, and what is left when it is taken. -/
def sAct (a : Act) : State := eng0 [] (fun g => { g with acts := [⟨1, 3, Time.ofNs 2004, a, item3.serial⟩] })
def sActOther : State := eng0 [] (fun g => { g with acts := [⟨1, 3, Time.ofNs 2004, .arm false, 99⟩] })
def sActed : State := eng0 [] (fun g => { g with acts := [] })

/-- A training pass on SE15 at address 0 of an empty store. -/
def sPass : State := { base [] with boot := { ({} : BootSt) with pass := some {} } }

/-- A word that posts, and a WAIT with CMASK = 0, its timeout over. -/
def wPost : Nat := 4 * 2 ^ 76
def wWaitAlways : Nat := 6 * 2 ^ 13 + 2 ^ 151
def sPosting : State := eng0 [(F.DSP_SQ_QUSED, 3, 8)] (fun g => { g with cur := some (issued wPost) })
def sWaitOver : State := eng0 [(F.SITE_TO_TO, 45, 4)] (fun g => { g with cur := some (issued wWaitAlways) })

/-- A burst that is being suspended when its site stops it. -/
def sSuspStop : State := eng0 [] (fun g => { g with suspending := true, stopReq := true })

/-! ### Waveforms, vectors and streams -/

/-- `base` with live values. -/
def baseL (l m : List (Fld × Nat × Nat)) : State := m.foldl (fun s p => s.setL p.1 p.2.1 p.2.2) (base l)

/-- Octet 0 in waveform personality, with segment entry 1 valid. -/
def sWave (l : List (Fld × Nat × Nat)) (f : WaveSt → WaveSt) : State :=
  let s := baseL ([(F.OCT_SEGVAL_VALID, segIx 0 1, 1), (F.OCT_SEGLEN_NGR, segIx 0 1, 8), (F.OCT_SEGBLK_BLK, segIx 0 1, 0)] ++ l)
    [(F.OCT_PERS_PERS, 0, 1)]
  s.setOct 0 { s.octSt 0 with wave := f {} }

def seg (fin : Bool) : SegEnt := ⟨0, 0, 8, 1, fin, false, 0, 0, 0, none⟩

def sSegRead : State := sWave [] (fun w => { w with play := some (seg false), len := 16384 })
def sSegRepeat : State := sWave [] (fun w => { w with play := some (seg false), left := 2, len := 16384 })
def sSegEnd : State := sWave [] (fun w => { w with play := some (seg true), len := 16384 })

/-- Octet 0 in waveform personality with an engine's WOP at 2,004 ns, and the same with the action taken. -/
def sWop (op : Nat) (f : WaveSt → WaveSt) : State :=
  let s := sWave [] f
  s.setEng 0 { ({} : EngSt) with item := some item3, acts := [⟨1, 3, Time.ofNs 2004, .wop op 1 1 1, item3.serial⟩] }
def sWopTaken (f : WaveSt → WaveSt) : State := (sWave [] f).setEng 0 { ({} : EngSt) with item := some item3 }

/-- A ring of 8 slots in octet 0, its write count ahead of its read count, or behind it. -/
def sRing : State := sWave [(F.OCT_WFRING_RSIZE, 0, 8), (F.OCT_WFWPTR_WPTR, 0, 3), (F.OCT_WFRPTR_RPTR, 0, 2)] id
def sRingLate : State := sWave [(F.OCT_WFRING_RSIZE, 0, 8), (F.OCT_WFWPTR_WPTR, 0, 3), (F.OCT_WFRPTR_RPTR, 0, 5)] id
def sRingRun : State := sWave [(F.OCT_WFSTAT_RUN, 0, 1)] id

/-- The last vector of a word with VOP = IDLE on channel 0. -/
def fetch0 : Fetch :=
  { oct := 0, s := Time.ofNs 2000, n := 1, k := 0, row := 0, slot := none, base := none, mirror := false, fixed := 2,
    pos := 1, cmpe := false, tsets := List.replicate 8 0, paceCh := 0, paceSet := 0, wid := 1, vidx := 0, dead := false }
def sFetch : State :=
  (eng0 [] (fun g => { g with fetches := [fetch0] })).setSite 3 { ({} : SiteSt) with nextB := 10000, winEnd := 9936 }

def edge0 : Edge := ⟨Time.ofNs 2000, Time.ofNs 1999, .high, 0, 0, 0⟩
def sEdge (u : Option Time) : State :=
  (base []).setChan 0 { ({} : ChanSt) with edges := [edge0], lastEdge := u, held := false }

/-- Octet 0 with site 3 in safe state; octet 0 in the idle of a personality change. -/
def sUnsafe : State := base [(F.FLT_SSRC_SRC, 3, 1)]
def sPersIdle : State := (base []).setOct 0 { ({} : OctSt) with persIdle := true }

/-- A vector that expects H with an edge strobe at 2,001 ns, and the same past both strobes with the level high. -/
def vect0 : Vect :=
  { start := Time.ofNs 2000, beat := 0, idx := 0, drive := 0, expect := 2, sa := Time.ofNs 2001, sb := Time.ofNs 2002, smode := false,
    eng := 0, wid := 1, saOk := true, sbOk := true }
def vect1 : Vect := { vect0 with saDone := true, sbDone := true, saLvl := true }
def sVect (v : Vect) : State := (base []).setChan 0 { ({} : ChanSt) with vects := [v] }
def sArr : State := eng0 [] (fun g => { g with arrivals := [⟨true, some (1, true), some (0, 0, false)⟩] })

/-- The comparator of channel 0 high. -/
def sComp : State := (base []).setChan 0 { ({} : ChanSt) with comp := true }
/-- Adaptation on, with a hysteresis of 5 mV. -/
def sAdapt : State := baseL [] [(F.OCT_RXCFG_ADAPT, 0, 1), (F.OCT_THR_HYST, 0, 5)]

/-- A stream of one record that meets R79 on slot 0 (octet 0, channel 0), and a slot with no octet. -/
def sStream : State :=
  base [(F.MEM_VSCFG_OCTM, 0, 1), (F.MEM_VSCFG_FDEPTH, 0, 1), (F.MEM_VSCHM_LO_CHM, 0, 1), (F.MEM_VSLEN_LEN, 0, 1),
    (F.MEM_VSRATE_MINPER, 0, 8000)] |>.setStream 0 { ({} : StreamSt) with user := some 3 }
def sStreaming : State :=
  { sStream.setStream 0 { ({} : StreamSt) with site := some 3 } with reqs := [] }

/-- A request of class HOST on DRAM channel 1. -/
def req0 : MemReq := ⟨0, 2, 3, 1, 0, 64, 64, none, none⟩
def sReq : State := { base [] with reqs := [req0] }
def sPd : State := base [(F.MEM_PDCFG_PD1EN, 0, 1)]

/-- A WOP 1 of entry 1 on its way to octet 0, its entry not read yet, or read; a ring entry in play with the first slot unread. -/
def sWopHeld : State := sWop 1 (fun w => { w with held := [(0, 1, (sWave [] id).segEnt 0 1, true)] })
def sWopHeldTaken : State := sWopTaken (fun w => { w with held := [(0, 1, (sWave [] id).segEnt 0 1, true)] })
def sRingPlay : State :=
  sWave [(F.OCT_WFRING_RSIZE, 0, 8), (F.OCT_WFWPTR_WPTR, 0, 3), (F.OCT_WFRPTR_RPTR, 0, 2)]
    (fun w => { w with play := some { seg false with ring := true }, len := 2048 })

/-- A vector of slot 0's record 0: the FIFO holds it, or the stream is still filling. -/
def fetch1 : Fetch := { fetch0 with fixed := 0, slot := some 0, base := some 0 }
def sFetch1 (st : Nat) : State :=
  (((base [(F.MEM_VSSTAT_STATE, 0, st), (F.MEM_VSCFG_FDEPTH, 0, 1)]).setEng 0 { ({} : EngSt) with
      item := some item3, started := true, cur := some (issued 0), fetches := [fetch1] }).setStream 0
    { ({} : StreamSt) with site := some 3, filled := 1 }).setSite 3 { ({} : SiteSt) with nextB := 10000, winEnd := 9936 }

/-- An edge of a vector that lies in the 24 ns after a personality change. -/
def sEdgeIdle : State := (sEdge none).setOct 0 { ({} : OctSt) with persAt := some (Time.ofNs 1990) }

/-- A vector with its edge strobe to be skipped, one with SA taken, and a result of an engine's burst or of the saved one. -/
def vectSkip : Vect := { vect0 with saOk := false }
def vectB : Vect := { vect0 with saDone := true, saLvl := true }
def arr0 : CmpArrive := ⟨true, some (1, true), some (0, 0, false)⟩
def saved0 : Saved := { savedOf (base []) with arrivals := [arr0] }
def sArrSaved : State := eng0 [] (fun g => { g with saved := some saved0 })

/-- The loopback of channel 0 on, its pair at a settled level. -/
def sNear : State := (baseL [] [(F.OCT_LBCFG_NEAR, 0, 1)]).setChan 0 { ({} : ChanSt) with level := some 5 }

/-- A refill on its way, and a request that the memory controller admits. -/
def reqFill : MemReq := ⟨0, 0, 3, 1, 0, 64, 64, some (0, 0, 4), none⟩
def sReqFill : State := { sStreaming with reqs := [reqFill] }

/-! ### Lanes and capture -/

/-- Octet 0 in protocol personality and clocked; template 1 is a header of four bytes after two bytes of preamble and one of start
delimiter. -/
def sLane (l m : List (Fld × Nat × Nat)) (f : LaneSt → LaneSt) : State :=
  let s := baseL ([(F.OCT_TPL0_PRELEN, 1, 2), (F.OCT_TPL0_SDLEN, 1, 1), (F.OCT_TPL4_HLEN, 1, 4), (F.OCT_TPL10_VALID, 1, 1),
    (F.OCT_CKSTAT_UNCLK, 0, 0), (F.OCT_CKSTAT_FLINE, 0, 6400)] ++ l) ([(F.OCT_PERS_PERS, 0, 2)] ++ m)
  s.setChan 0 { ({} : ChanSt) with lane := f {}, held := false }

/-- The same with a POP of template `obj` at 2,004 ns on engine 0, and with the action taken. -/
def sPop (op obj : Nat) : State :=
  (sLane [] [] id).setEng 0 { ({} : EngSt) with item := some item3, acts := [⟨1, 3, Time.ofNs 2004, .pop op obj 40 1, item3.serial⟩] }
def sPopTaken : State := (sLane [] [] id).setEng 0 { ({} : EngSt) with item := some item3 }

/-- A launch request of template 1 with identifier 9. -/
def launch (timed : Bool) : Launch := ⟨9, sPopTaken.tplWords 0 1, timed, Time.ofNs 2500, Time.ofNs 2004, false⟩
def sHead (timed : Bool) : State := sLane [] [] (fun l => { l with queue := [launch timed] })

/-- A frame in hand, decided or on its way; entries in the timestamp queue. -/
def frame0 (snd : Bool) : TxFrame := ⟨launch false, Time.ofNs 2100, Time.ofNs 2101, 0, 0, [], 0, snd, false⟩
def sFrame (snd : Bool) : State := sLane [] [] (fun l => { l with queue := [launch false], frame := some (frame0 snd) })
def ent (n : Nat) : TsEnt := ⟨n, 0, Time.ofNs 2101⟩
def sTs (n : Nat) : State := sLane [] [] (fun l => { l with tsPend := [ent 1], tsq := List.replicate n (ent 2) })

/-- A lane that receives: locked or not, with frame reception (CRC-32, 8 bytes) or the checker on. -/
def sRx (lock : Nat) (ing : Option Time) : State :=
  sLane [(F.OCT_LSTAT_LOCK, 0, lock)]
    [(F.OCT_LCFG_RXFRM, 0, 1), (F.OCT_LCFG_CHKEN, 0, 1), (F.OCT_LRXFMT_RXLEN, 0, 8), (F.OCT_LRXFMT_RXCRC, 0, 1)]
    (fun l => { l with rxIng := ing })

/-- `base` with the capture of site 3. -/
def sCap (l : List (Fld × Nat × Nat)) (f : CapSt → CapSt) : State := (base l).setSite 3 { ({} : SiteSt) with cap := f {} }

/-- The same with a CAPT action at 2,004 ns on engine 0, and with it taken. -/
def sCapt (op : Nat) (f : CapSt → CapSt) : State :=
  (sCap [] f).setEng 0 { ({} : EngSt) with item := some item3, acts := [⟨1, 3, Time.ofNs 2004, .capt op 2 (Time.ofNs 2000), item3.serial⟩] }
def sCaptTaken (f : CapSt → CapSt) : State := (sCap [] f).setEng 0 { ({} : EngSt) with item := some item3 }

/-- Window ends with 600 and with 100 bytes admitted; CWIN is 512. -/
def sWin (n : Nat) : State := sCap [] (fun k => { k with window := [(0, n)], page := some {} })

/-- A candidate of BITS waiting for the open page; a page open, in staging, and in the backlog with a host slot free. -/
def cand0 : Cand := ⟨1, 2, 0, 0, 0, Time.ofNs 2000, Time.ofNs 2000, Time.ofNs 2000, List.replicate 16 0⟩
def sCand : State := sCap [] (fun k => { k with cands := [cand0], page := some {} })
def sOpen (v : Nat) : State := sCap [(F.SITE_CFLTO_FLTO, 3, v)] (fun k => { k with page := some {} })
def sStaged (n : Nat) : State := sCap [(F.SITE_CBKOCC_BKOCC, 3, n)] (fun k => { k with staged := [{}] })
def sBack : State :=
  sCap [(F.HST_RCFG_EN, 14, 1), (F.HST_RCFG_LOG2N, 14, 4), (F.HST_RBASE_LO_BASE, 14, 65536)] (fun k => { k with backlog := [{}] })

/-- Launches whose preamble cannot start: in an IPG, too soon after the head was reached, in the 24 ns of R31. -/
def launchArmed : Launch := { launch true with armed := true }
def sHeadArmed (f : LaneSt → LaneSt) : State := sLane [] [] (fun l => f { l with queue := [launchArmed] })
def sHeadBlank : State := sLane [] [] (fun l => { l with queue := [launch false], blank := Time.ofNs 9000 })
/-- A frame whose preamble a personality change forbids. -/
def sFrameBlank : State := sLane [] [] (fun l => { l with queue := [launch false], frame := some (frame0 false), blank := Time.ofNs 9000 })

/-- A locked lane with the 2 bits of its start delimiter received, a whole frame of 8 bytes waiting, and an error to count. -/
def sRxSd : State :=
  sLane [(F.OCT_LSTAT_LOCK, 0, 1)] [(F.OCT_LCFG_RXFRM, 0, 1), (F.OCT_LRXFMT_SDBITS, 0, 2), (F.OCT_LRXSD_LO_SD, 0, 1)]
    (fun l => { l with rxBits := [(0, Time.ofNs 2001), (1, Time.ofNs 2000)] })
def sRxFull : State :=
  sLane [(F.OCT_LSTAT_LOCK, 0, 1)] [(F.OCT_LCFG_RXFRM, 0, 1), (F.OCT_LRXFMT_RXLEN, 0, 8), (F.OCT_LRXFMT_RXCRC, 0, 1)]
    (fun l => { l with rxFull := [(Time.ofNs 2000, List.replicate 64 1, Time.ofNs 2010)] })
def sRxErr : State := sLane [] [] (fun l => { l with errs := [(Time.ofNs 2000, 3, 7)] })

/-- Window ends at 1,024 ns: `d` in force, `b` pages in the backlog, 600 or 100 bytes kept, an overrun in the window, stopped. -/
def sWinAt (d b n stp : Nat) (ovr : Bool) : State :=
  sCap [(F.SITE_CAPSTAT_DEC, 3, d), (F.SITE_CBKOCC_BKOCC, 3, b), (F.SITE_CAPSTAT_STOPPED, 3, stp)]
    (fun k => { k with window := [(0, n, true)], page := some {}, ovrWin := ovr })
def winU (s : State) : State :=
  (((s.modCap 3 (fun k => { k with winStart := max k.winStart (boundary s.memNow - Time.ofNs 1024) })).chargeAhead 3
    (boundary s.memNow)).capDrain 3).capDue 3 (boundary s.memNow)

/-! ### Acquisition and TDC -/

/-- `base` with channel 0's acquisition. -/
def sAcq (l : List (Fld × Nat × Nat)) (f : AcqSt → AcqSt) : State := (base l).setChan 0 { ({} : ChanSt) with acq := f {} }

def sHist : State := sAcq [(F.ACQ_CFG_FUNC, 0, 2)] (fun a => { a with run := true })
def sRov : State := sAcq [(F.ACQ_CFG_FUNC, 0, 1), (F.ACQ_ROV_PHASE, 0, 5)] (fun a => { a with run := true })
def sRovStep : State := sAcq [(F.ACQ_ROV_SWEEP, 0, 1), (F.ACQ_ROV_DWELL, 0, 3)] (fun a => { a with phase := 127, settle := 0, dwell := 8 })

/-- RUN set or clear with the acquisition counting or not; a snapshot that runs, armed or done. -/
def sRun (reg : Nat) (run : Bool) : State := sAcq [(F.ACQ_CTL_RUN, 0, reg)] (fun a => { a with run := run })
def sSnap : State := sAcq [(F.ACQ_CFG_FUNC, 0, 3), (F.ACQ_CTL_RUN, 0, 1), (F.ACQ_STAT_ARMED, 0, 1)]
  (fun a => { a with run := true, since := 5000 })
def sSnapDone : State := sAcq [(F.ACQ_STAT_ARMED, 0, 1)] (fun a => { a with refSeen := true })

/-- An eye map at rest, cleared, or being extracted with hits allowed everywhere. -/
def sEye (run : Nat) (clr eye : Bool) : State :=
  sAcq [(F.ACQ_CFG_FUNC, 0, 1), (F.ACQ_CTL_RUN, 0, run)] (fun a => { a with clearing := clr, eye := eye })

/-- `base` with channel 0's TDC locked and running or not, measuring as `m` says. -/
def sTdc (m run : Nat) (f : TdcSt → TdcSt) : State :=
  (base [(F.OCT_TDCCFG_MEAS, 0, m), (F.OCT_TDCCTL_RUN, 0, run), (F.OCT_TDCSTAT_DLLLOCK, 0, 1)]).setChan 0
    { ({} : ChanSt) with tdc := f {} }
def sPeriod (l : Option Nat) : State := sTdc 2 1 (fun t => { t with run := true, last := l, start := some (1000, false) })
def sGate (n : Nat) : State := sTdc 3 1 (fun t => { t with run := true, gFirst := some 1000, gLast := 9000, gStamps := n, gEdges := 5 })
def sStart : State := sTdc 1 1 (fun t => { t with run := true, start := some (1000, false) })

/-- A channel in vector mode with a vector that its ADC has not sampled, and with FUNC = 0b10. -/
def sHistV : State :=
  (base [(F.ACQ_CFG_FUNC, 0, 2)]).setChan 0 { ({} : ChanSt) with vects := [vect0], acq := { ({} : AcqSt) with run := true } }
/-- A roving sample at phase 64 after its main sample, which is counted or not. -/
def ui0 (cnt : Bool) : AcqUi := { start := Time.ofNs 990, t := Time.ofNs 991, ui := Time.ofNs 1, code := 128, counted := cnt }
def sRov64 (cnt : Bool) : State :=
  sAcq [(F.ACQ_CFG_FUNC, 0, 1), (F.ACQ_ROV_PHASE, 0, 64)] (fun a => { a with run := true, uis := [ui0 cnt] })
def sOffAir : State := base [(F.GLB_PWRSTAT_STATE, 0, 1)]
/-- An armed record whose sample of 1,001 ns has been taken; the same a sample before the holdoff ends. -/
def sSnapUi (n : Nat) : State :=
  sAcq [(F.ACQ_CFG_FUNC, 0, 3), (F.ACQ_CTL_RUN, 0, 1), (F.ACQ_STAT_ARMED, 0, 1), (F.ACQ_WIN_PRE, 0, 10)]
    (fun a => { a with run := true, since := n, uis := [{ ui0 false with start := Time.ofNs 1001, t := Time.ofNs 1001, off := some 0 }] })
def ui1 : AcqUi := { ui0 false with start := Time.ofNs 1001, t := Time.ofNs 1001, off := some 0 }

/-- Channel 0's TDC running with an edge at 2,000 ns, or at 20 ms, that waits to be stamped. -/
def sEdgeAt (m n : Nat) (f : TdcSt → TdcSt) : State :=
  sTdc m 1 (fun t => f { t with run := true, edges := [(Time.ofNs n, false)] })
/-- Channel 1's interval with channel 0 as its stop channel. -/
def sStops : State :=
  ((base [(F.OCT_TDCCFG_MEAS, chIx 1, 1), (F.OCT_TDCCFG_STOPCH, chIx 1, 0)]).setChan 0
    { ({} : ChanSt) with tdc := { ({} : TdcSt) with edges := [(Time.ofNs 2000, false)] } }).setChan 1
    { ({} : ChanSt) with tdc := { ({} : TdcSt) with run := true, start := some (8191999, false) } }
/-- A gate of 1,024 ns that is over at 2,000 ns, with `n` stamps in it, changed by `f`. -/
def sGateEndAt (n : Nat) (f : TdcSt → TdcSt) : State :=
  (base [(F.OCT_TDCCFG_MEAS, 0, 3), (F.OCT_TDCCFG_FGATE, 0, 1), (F.TBS_NS_NS, 0, 2000)]).setChan 0 { ({} : ChanSt) with
    tdc := f { ({} : TdcSt) with run := true, gFirst := some 1000, gLast := 9000, gStamps := n, gEdges := 5 } }
def sGateEnd (n : Nat) : State := sGateEndAt n id
def sTimeout : State :=
  (base [(F.OCT_TDCCFG_MEAS, 0, 1), (F.TBS_NS_NS, 0, 20000000)]).setChan 0 { ({} : ChanSt) with
    tdc := { ({} : TdcSt) with run := true, start := some (1000, false) } }
def sStopAt (n : Nat) : State := sTdc 1 0 (fun t => { t with run := true, stopT := some n })

/-! ### Beats, the dispatcher and Saffron -/

/-- `base` with site `x`. -/
def sSite (l : List (Fld × Nat × Nat)) (x : Nat) (f : SiteSt → SiteSt) : State := (base l).setSite x (f {})

/-- Site 3 with its beats running: beat 7 from 0 to 10,000 ns, its window to 9,936 ns. -/
def sBeat (l : List (Fld × Nat × Nat)) (f : SiteSt → SiteSt) : State :=
  sSite ([(F.SITE_BSTAT_RUN, 3, 1), (F.SITE_BNOW_BNOW, 3, 7)] ++ l) 3 (fun q => f { q with nextB := 10000, winEnd := 9936 })

def sCommit : State := sBeat [(F.SITE_BCTL_COMMIT, 3, 1), (F.SITE_BFPEND_F, 3, 8)] id
def sFrozen : State := sBeat [(F.SITE_BCTL_COMMIT, 3, 1)] (fun q => { q with frozen := some ([], 8) })
def sPin : State := (base []).setChan 0 { ({} : ChanSt) with pinDue := [(7, 0, 1, Time.ofNs 2000)] }

/-- A unit whose beat is over: one vector of channel 0 read; its expected value is the signature, or not. -/
def sSig (e : Nat) : State :=
  (sBeat [] (fun q => { q with sgRun := [(6, 0, [0, 0, 0, 0, 0, 0, e, 0])] })).setChan 0
    { ({} : ChanSt) with read := [(6, 0, Time.ofNs 100, Time.ofNs 101)], beatInit := [(6, 0, 0)] }

/-- Item words for entry 7, priority 2, engines 0 and 1. -/
def desc0 : List Nat := [7 + 2 * 8192, 3, 0, 0, 1, 2, 3, 4, 5, 6, 7, 8]
def sDsp (l : List (Fld × Nat × Nat)) (ready : List Item) : State :=
  { sBeat ([(F.SEQ_UCODE_VER_VALID, 0, 1), (F.GLB_PWRSTAT_BUSY, 0, 0)] ++ l) id with ready := ready }
def item0 : Item := (sDsp [] []).newItem 3 0 desc0

/-- A record of no flow waiting, with room in the completion ring or without. -/
def rec0 : Rec := ⟨1, none, false, [1, 2, 3], false⟩
def sRec (en : Nat) : State := sSite [(F.HST_RCFG_EN, 13, en), (F.HST_RCFG_LOG2N, 13, 4)] 3 (fun q => { q with recs := [rec0] })
def order0 : Order := ⟨1000, 0, 2, 0, 0, 0⟩
def sOrder : State := sSite [] 3 (fun q => { q with orders := [order0] })

/-- Saffron of site `x`. -/
def sSaf (x : Nat) (l : List (Fld × Nat × Nat)) (f : SafSt → SafSt) : State := sSite l x (fun q => { q with saf := f {} })
def buf (n : Nat) : SafBuf := { txid := n }
/-- A resolved transaction of site 3 that starts its beats with beat 5. -/
def sStarts : State := sSaf 3 [] (fun q => { q with dbt := [{ buf 9 with resolved := true, target := 5 }] })

/-- Site 3's buffer open with an address set to SITE_BLEN, or to 1. -/
def sStage (a : Nat) : State := sSaf 3 [(F.SAF_STGA_ADDR, 3, a)] (fun q => { q with opn := some (buf 9) })
def sPrep : State := sSaf 5 [(F.SITE_BSTAT_RUN, 5, 1), (F.SAF_TGT_F, 5, 4)] (fun q => { q with opn := some (buf 9) })
def sQueue : State := sSaf 5 [] (fun q => { q with opn := some (buf 9), run := some (buf 8) })
def sDoubt (x : Nat) : State := sSaf x [] (fun q => { q with dbt := [buf 9] })

/-- Site 4, a member here: its buffer open, or running and prepared or not. -/
def sMemOpen : State := sSaf 4 [(F.FAB_SEPOCH_EPOCH, 4, 6)] (fun q => { q with opn := some (buf 9) })
def sMemRun (p : Bool) : State :=
  sSaf 4 [(F.FAB_SEPOCH_EPOCH, 4, 6)] (fun q => { q with run := some { buf 9 with prepared := p } })
def sMemDbt : State :=
  { sSaf 4 [(F.FAB_SEPOCH_EPOCH, 4, 6)] (fun q => { q with dbt := [buf 9] }) with
    fab := { ({} : FabSt) with peers := [⟨7, 0, 1, 500, 900, false, false⟩] } }

/-- Site 3, led here: a transaction that waits for chip 5's vote, deferred or not; one whose outcome is recorded. -/
def sLead (d : Bool) : State :=
  sSaf 3 [(F.FAB_SEPOCH_EPOCH, 3, 6)] (fun q => { q with
    run := some { buf 9 with prepared := true }, lead := some { txid := 9, beat := 20, yes := [2], deferred := d } })
def sOutc : State := sSaf 3 [(F.FAB_SEPOCH_EPOCH, 3, 6)] (fun q => { q with last := [(9, true, 20)] })

/-- What the unit's judgement of `sSig` gives: its status and signature. -/
def sgWords (e : Nat) : List Nat := [0, 0, 0, 0, 0, 0, e, 0]
def sig0 : Nat × Nat := (sSig 0).sigJudge 3 6 (sgWords 0)
def sigOk : State := sSig sig0.2

/-- A transaction open behind a running and a queued one. -/
def sQueue2 : State := sSaf 5 [] (fun q => { q with opn := some (buf 9), run := some (buf 8), que := some (buf 7) })
/-- A transaction of a site with its beats running, beat 4 at `nb` its target. -/
def sPrepAt (nb : Nat) : State :=
  sSite [(F.SITE_BSTAT_RUN, 5, 1), (F.SITE_BLEN_BLEN, 5, 10000), (F.SITE_BNOW_BNOW, 5, 3), (F.SAF_TGT_F, 5, 4)] 5
    (fun q => { q with nextB := nb, winEnd := nb, saf := { ({} : SafSt) with opn := some (buf 9) } })
/-- A transaction whose target the leader cannot meet. -/
def sPrepLate : State := sSaf 5 [(F.SITE_BSTAT_RUN, 5, 1), (F.SITE_BNOW_BNOW, 5, 7), (F.SAF_TGT_F, 5, 4)] (fun q => { q with opn := some (buf 9) })
/-- A second PREPARE while a prepared buffer waits for its outcome; a buffer whose COMMIT is held. -/
def sMemBoth : State :=
  sSaf 4 [(F.FAB_SEPOCH_EPOCH, 4, 6)] (fun q => { q with opn := some (buf 9), run := some { buf 8 with prepared := true } })
def sMemUnprep : State := sSaf 4 [(F.FAB_SEPOCH_EPOCH, 4, 6)] (fun q => { q with opn := some (buf 9), run := some (buf 8) })
def sMemHeld : State :=
  sSaf 4 [(F.FAB_SEPOCH_EPOCH, 4, 6)] (fun q => { q with run := some { buf 9 with prepared := true, held := true } })
/-- The leader's record of transaction 9 for beat 20, and the same deferred in this cycle, decided, or with no vote. -/
def lead0 : SafLead := { txid := 9, beat := 20, yes := [2] }
def sLeadIs (l : SafLead) : State :=
  sSaf 3 [(F.FAB_SEPOCH_EPOCH, 3, 6)] (fun q => { q with run := some { buf 9 with prepared := true }, lead := some l })
/-- The same with the beats of site 3 running, beat 20 at `nb`. -/
def sLeadAt (nb : Nat) (l : SafLead) : State :=
  sSite [(F.FAB_SEPOCH_EPOCH, 3, 6), (F.SITE_BSTAT_RUN, 3, 1), (F.SITE_BNOW_BNOW, 3, 19)] 3 (fun q => { q with
    nextB := nb, winEnd := nb, saf := { ({} : SafSt) with run := some { buf 9 with prepared := true }, lead := some l } })


/-! ### The fabric -/

/-- `base` with port 1 UP. -/
def sPort (l : List (Fld × Nat × Nat)) (f : PortSt → PortSt) : State :=
  (base ((F.FAB_PSTAT_STATE, 1, 2) :: l)).setPort 1 (f {})

/-- Three equal copies of a FLASH word of site 35. -/
def copies (w : Nat) : Copies := ⟨some w, some w, some w⟩
def fwd (w : Nat) : State := (sPort [] id).forwardCopies 1 (copies w)

/-- A good cell of class 2 for chip 2 with the link number `n`. -/
def cellBody0 (n : Nat) : List Nat := [2 + 2 * 256, 0, n] ++ List.replicate 12 0
def cellOf (n : Nat) : List Nat := cellBody0 n ++ [crc32c (cellBody (cellBody0 n ++ [0]))]
def cell0 : Cell := ⟨0, 5, 35, 0, 0, false, 15, none, []⟩
def sRetryBuf : State := sPort [] (fun q => { q with retry := [(4, 1, cell0), (5, 0, cell0)] })

/-- Port 1 unused, training, or training with two failures behind it. -/
def sTrain (st fails : Nat) : State :=
  (base [(F.FAB_PCTL_EN, 1, 1), (F.FAB_PSTAT_STATE, 1, st)]).setPort 1 { ({} : PortSt) with fails := fails }
def link0 : LinkState := ⟨5, 3, 9, true, 100, false, 0⟩
/-- Port 1 UP while chip 9 stands in the peer table with the digest 5. -/
def sTwice : State :=
  { sPort [] id with fab := { ({} : FabSt) with peers := [⟨9, 0, 1, 500, 900, false, false⟩], links := [{ link0 with a := 9, digest := 5 }] } }

/-- `base` with the fabric: chip 3 of the shelf in the peer table, or chip 1, which is then the root. -/
def sShelf (l : List (Fld × Nat × Nat)) (c : Nat) (f : FabSt → FabSt) : State :=
  { base l with fab := f { ({} : FabSt) with peers := [⟨c, 0, 1, 500, 900, false, false⟩] } }
/-- A sleep of the shelf at `n`. -/
def sSleepAt (n : Nat) : State := sShelf [(F.FAB_SLPSTAT_STATE, 0, 2)] 3 (fun f => { f with sleepAt := some n })
def sSched (w : Nat) : State := sShelf [(F.FAB_SLPSTAT_STATE, 0, 2)] 3 (fun f => { f with sleepAt := some 2000, wake := some w })

/-- A sleep scheduled while a SYS CANCEL arrives. -/
def sSlp : State := sPort [(F.FAB_SLPSTAT_STATE, 0, 1)] id

/-- A good cell with these first three words. -/
def cellWith (a b n : Nat) : List Nat :=
  let w := [a, b, n] ++ List.replicate 12 0
  w ++ [crc32c (cellBody (w ++ [0]))]
def sResent : State := sPort [] (fun q => { q with retry := [(4, 4, cell0)] })
/-- The vote that completes a shelf. -/
def sLastVote : State := sShelf [] 3 (fun f => { f with votes := [2] })
/-- The lanes of port 1 asleep. -/
def sAsleep : State := base [(F.FAB_SLPSTAT_STATE, 0, 3), (F.FAB_PSTAT_STATE, 1, 3)]

/-! ### Site reset, clocks, Clove, Sumac and the monitor -/

def eng15 (l : List (Fld × Nat × Nat)) (b : BootSt → BootSt) (f : EngSt → EngSt) : State :=
  { (base l).setEng 15 (f {}) with boot := b {} }
def sScrub (n : Nat) : State := sSite [(F.SITE_SSTAT_SCRUB, 3, 1)] 3 (fun q => { q with resetting := n, regionsLeft := [0] })

def sRef (l : List (Fld × Nat × Nat)) : State := base ([(F.CLK_REF_REFOK, 0, 1)] ++ l)
def sLp (run div : Nat) : State :=
  base [(F.CLK_LPCFG_OWNV, 1, 1), (F.CLK_LPCFG_OWN, 1, 3), (F.SITE_BSTAT_RUN, 3, run), (F.CLK_LPO_DIV, 4, div),
    (F.CLK_LPO_DIV, 5, 2), (F.CLK_LPO_DIV, 6, 8), (F.CLK_LPO_DIV, 7, 4)]

/-- `base` with octet 6, which site 5 owns. -/
def sOct (l : List (Fld × Nat × Nat)) (f : OctSt → OctSt) : State := (base l).setOct 6 (f {})
/-- A pass with every hit of a line in one tap, and every hit of the TDC in one code. -/
def fig0 : Density := ⟨240, 2, 3, List.replicate 5 [67108864], 67108864 :: List.replicate 4095 0, []⟩

/-- `base` with Sumac. -/
def sSum (l : List (Fld × Nat × Nat)) (f : SumacSt → SumacSt) : State := { base l with sumac := f {} }
def sQuiet (lim : Nat) : State :=
  base [(F.FLT_SSRC_QUIETING, 3, 1), (F.FLT_RCNT_RCNT, 3, 5), (F.FLT_RBASE_RBASE, 3, 3), (F.FLT_RLIM_RLIM, 0, lim)]

/-- `base` with VIO valid, input 7 being converted with `n` conversions behind it and `d` discards left. -/
def sMon (n d : Nat) : State :=
  { (sSum [(F.MON_STAT_DLEFT, 0, d), (F.MON_SEL_SEL, 0, 9)] (fun q => { q with vio := true })).setMon 7
      ⟨1000, n, 10, 20⟩ with mon0 := 7 }

/-- A training pass that waits for channel 2. -/
def sTrStep : State := eng15 [(F.MEM_CHTR_INSVC, 2, 1)] (fun b => { b with train := [2] }) (fun g => { g with training := true })
/-- Octet 6 while site 5 runs beats. -/
def sOctRun (f : OctSt → OctSt) : State := sOct [(F.SITE_BSTAT_RUN, 5, 1)] f
def sOn (st : Nat) (f : OctSt → OctSt) : State := sOct [(F.OCT_CLVSTAT_STATE, 6, st)] (fun q => f { q with clvPos := 2 })

/-! ### Power, boot, reload, NVM and the host interface -/

def sBoot (l : List (Fld × Nat × Nat)) (f : BootSt → BootSt) : State := { base l with boot := f {} }
def sNut (l : List (Fld × Nat × Nat)) (f : NutmegSt → NutmegSt) : State := { base l with nutmeg := f {} }

def sRel : State :=
  { (base [(F.SE_STATE_STATE, 2, 4)]).setEng 2 { ({} : EngSt) with reload := some (0, false) } with boot := {} }

/-- Bytes of words, least significant byte first. -/
def wordBytes (l : List Nat) : List Byte := l.flatMap (leBytes 4)

/-- A boot image: a header of one section of type 1 with its CRC, then that section: one word of one store, and a signature of
zeros. -/
def headerBody : List Byte :=
  wordBytes [0x4A453634, 0x10001, 1] ++ List.replicate 244 0#8 ++ wordBytes [1536, 184, 1, 0] ++ List.replicate 1260 0#8
def section0 : List Byte :=
  wordBytes [1 + 4 * 65536, 9, 24] ++ List.replicate 52 0#8 ++ List.replicate 24 0x5A#8 ++ List.replicate 96 0#8
def flash0 : List Byte := headerBody ++ leBytes 4 (crc32c headerBody) ++ section0
def row0 : SecRow := ⟨1536, 184, 1⟩
def key0 : List Byte := List.replicate 97 0#8

theorem leBytes_length (n v : Nat) : (leBytes n v).length = n := by simp [leBytes]

theorem wordBytes_length (l : List Nat) : (wordBytes l).length = 4 * l.length := by
  induction l with
  | nil => rfl
  | cons a l ih => simp only [wordBytes, List.flatMap_cons, List.length_append, leBytes_length, List.length_cons] at ih ⊢; omega

theorem headerBody_length : headerBody.length = 1532 := by
  simp only [headerBody, List.length_append, wordBytes_length, List.length_replicate, List.length_cons, List.length_nil]

theorem section0_length : section0.length = 184 := by
  simp only [section0, List.length_append, wordBytes_length, List.length_replicate, List.length_cons, List.length_nil]

theorem w32_left (a b : List Byte) (o : Nat) (h : o + 4 ≤ a.length) : w32 (a ++ b) o = w32 a o := by
  unfold w32
  rw [List.drop_append_of_le_length (by omega), List.take_append_of_le_length (by rw [List.length_drop]; omega)]

theorem crcShift_lt (p : Nat) (hp : p < 2 ^ 32) (n : Nat) : ∀ a, a < 2 ^ 32 → crcShift p n a < 2 ^ 32 := by
  induction n with
  | zero => exact fun a h => h
  | succ n ih =>
    intro a h
    refine ih _ ?_
    split
    · exact Nat.xor_lt_two_pow (by omega) hp
    · omega

theorem crcRun_lt (p : Nat) (hp : p < 2 ^ 32) (l : List Byte) : ∀ a, a < 2 ^ 32 → crcRun p l a < 2 ^ 32 := by
  induction l with
  | nil => exact fun a h => h
  | cons b l ih =>
    exact fun a h => ih _ (crcShift_lt p hp 8 _ (Nat.xor_lt_two_pow h (by have := b.isLt; omega)))

theorem crc32c_lt (l : List Byte) : crc32c l < 2 ^ 32 :=
  Nat.xor_lt_two_pow (crcRun_lt _ (by decide) l _ (by decide)) (by decide)

theorem w32_leBytes (n : Nat) (h : n < 2 ^ 32) : leNat (leBytes 4 n) = n := by
  simp [leNat, leBytes, List.range_succ]
  omega

theorem image0_header : imgHdr flash0 0 = some ⟨0, 1, key0, [row0]⟩ := by
  have hl := headerBody_length
  have hb : flashBytes flash0 0 1536 = headerBody ++ leBytes 4 (crc32c headerBody) := by
    have : (headerBody ++ leBytes 4 (crc32c headerBody)).length = 1536 := by simp [hl, leBytes_length]
    simp only [flashBytes, flash0, List.drop_zero]
    rw [← this, List.take_left]
    simp
  have hc : w32 (headerBody ++ leBytes 4 (crc32c headerBody)) 0x5FC = crc32c headerBody := by
    unfold w32
    rw [← hl, List.drop_left, List.take_of_length_le (by rw [leBytes_length]), w32_leBytes _ (crc32c_lt _)]
  have ht : (headerBody ++ leBytes 4 (crc32c headerBody)).take 0x5FC = headerBody := by rw [← hl, List.take_left]
  have hw : ∀ o, o + 4 ≤ 1532 → w32 (headerBody ++ leBytes 4 (crc32c headerBody)) o = w32 headerBody o :=
    fun o h => w32_left _ _ _ (by omega)
  have hk : ((headerBody ++ leBytes 4 (crc32c headerBody)).drop 0x10).take 97 = key0 := by
    rw [List.drop_append_of_le_length (by omega), List.take_append_of_le_length (by rw [List.length_drop]; omega)]
    decide +kernel
  have h0 : w32 headerBody 0 = 0x4A453634 := by decide +kernel
  have h4 : w32 headerBody 4 = 0x10001 := by decide +kernel
  have h8 : w32 headerBody 8 = 1 := by decide +kernel
  have h100 : w32 headerBody 0x100 = 1536 := by decide +kernel
  have h104 : w32 headerBody 0x104 = 184 := by decide +kernel
  have h108 : w32 headerBody 0x108 = 1 := by decide +kernel
  have hn : bits 0x10001 23 16 = 1 := by decide +kernel
  simp [imgHdr, hb, hc, ht, hw, hk, h0, h4, h8, h100, h104, h108, hn, row0]

theorem image0_section : flashBytes flash0 (0 * 8388608 + row0.off) row0.len = section0 := by
  have hl : (headerBody ++ leBytes 4 (crc32c headerBody)).length = 1536 := by simp [headerBody_length, leBytes_length]
  have hs := section0_length
  simp only [flashBytes, flash0, row0, Nat.zero_mul, Nat.zero_add]
  rw [← hl, List.drop_left, ← hs, List.take_length]
  simp
/-- The first section of a copy verifies and passes its check. -/
theorem loadSec_of (s : State) (h : ImgHdr) (r : SecRow) (sec sig : List Byte) (chk : Sec → Nat) (hr : h.secs[0]? = some r)
    (hl : ¬ (r.len < 160 ∨ 8388608 < r.off + r.len))
    (hg : flashBytes s.boot.flash (h.addr * 8388608 + r.off) r.len = sec) (hslot : s.keySlot h.key = some 0)
    (h1 : w32 sec 8 = 24) (h2 : (sec.drop 88).take 96 = sig) (h3 : w32 sec 0 % 256 = r.typ) (h4 : 184 = r.len)
    (hc : ∀ c : Sec, c.w0 = w32 sec 0 → c.payload = (sec.take 88).drop 64 → chk c = 0)
    (hv : Config.ecdsaP384 h.key (Config.sha384 (sec.take 88)) sig = true) :
    ∃ c, s.loadSec h 0 false chk = .ok c := by
  unfold State.loadSec
  rw [hr]
  simp only [hl, if_false, hg, hslot, h1]
  have e : 64 + 24 = 88 := rfl
  rw [e, h2, hv, hc _ rfl rfl]
  simp [h3, ← h4]

/-- A section that verifies and fits is found. -/
theorem reloadSec_of (s : State) (key sec sig : List Byte) (hh : imgHdr s.boot.flash 0 = some ⟨0, 1, key, [row0]⟩)
    (hg : flashBytes s.boot.flash (0 * 8388608 + row0.off) row0.len = sec) (hslot : s.keySlot key = some 0)
    (h1 : w32 sec 8 = 24) (h2 : (sec.drop 88).take 96 = sig) (h3 : w32 sec 0 = 1 + 4 * 65536)
    (h4 : ((sec.take 88).drop 64).length = 24) (hv : Config.ecdsaP384 key (Config.sha384 (sec.take 88)) sig = true) :
    ∃ c, s.reloadSec 2 0 false = some c := by
  have h5 : hasBit 4 2 = true := by decide
  obtain ⟨c, hc⟩ := loadSec_of s ⟨0, 1, key, [row0]⟩ row0 sec sig
    (fun c => if c.w0 % 256 = 1 ∧ hasBit c.engm 2 then checkStore c else 4) rfl (by decide) hg hslot h1 h2 (by rw [h3]; rfl) rfl
    (fun c e0 e1 => by simp [checkStore, Sec.engm, e0, e1, h3, h4, h5]) hv
  refine ⟨c, ?_⟩
  unfold State.reloadSec
  rw [if_neg (by decide), hh]
  simp only [hc]

/-- A reload that finds its section: the flash holds an image whose signature the verification accepts, and slot 0 is VALID and
holds the digest of its key. Which signatures verify is free (log entry 7), so the witness has that as its hypothesis. -/
theorem wit_ReloadAndPowerStates_section (s : State) (hf : s.boot.flash = flash0) (hk : s.keyState 0 = 1)
    (hd : s.slotDigest 0 = digest48 key0)
    (hv : Config.ecdsaP384 key0 (Config.sha384 (section0.take 88)) (List.replicate 96 0#8) = true) :
    ∃ c, s.reloadSec 2 0 false = some c :=
  reloadSec_of s key0 section0 _ (hf ▸ image0_header) (hf ▸ image0_section) (by simp [State.keySlot, hk, hd]) (by decide +kernel)
    (by decide +kernel) (by decide +kernel) (by decide +kernel) hv

def sNvm (l : List (Fld × Nat × Nat)) (f : BootSt → BootSt) : State := sBoot ([(F.NVM_STAT_KEYARM, 0, 1)] ++ l) f

def sEvt (msk evt : Nat) : State := base [(F.HST_EVMSK_MSK, 3, msk), (F.HST_EVT_EVT, 3, evt), (F.MSIX_CTRL_MASK, 4 * 17 + 3, 0)]

/-- The ring `r` of VF3 enabled with 16 slots, PROD and CONS as given. -/
def hRing (r p c : Nat) : State :=
  base [(F.HST_RCFG_EN, 12 + r, 1), (F.HST_RCFG_LOG2N, 12 + r, 4), (F.HST_RPROD_PROD, 12 + r, p), (F.HST_RCONS_CONS, 12 + r, c)]
def hitSel : RegHit := ⟨R.MON_SEL, 0, false⟩

def sRel1 : State := (hRing 1 4 2).setSite 3 { ({} : SiteSt) with released := [[1, 2, 3, 4, 5]] }
def descWf : List Nat := [0, 8, 0, 0, 65536 * 4096, 0, 0, 0]

/-! ### Worked examples of the manual -/

/-- After R344: address 0x1_2345_6780 lies in DC6 under the default masks, and the next block in DC7. -/
theorem test_dram_channel_of_address :
    (st [(F.MEM_STAT_MODMAP, 0, 0)]).dcOf 0x123456780 = 6 ∧ (st [(F.MEM_STAT_MODMAP, 0, 0)]).dcOf 0x1234567C0 = 7 := by
  decide +kernel

/-- After R76: with ROT = 3 and REV = 0, position 1 drives column 4. -/
theorem test_rotated_column : (stL [] [(F.OCT_FETCH_ROT, 2, 3)]).column 2 1 = 4 := by decide +kernel

/-- After R437: where DSP_SSTAT of site 2 and the group of VF 5 lie. -/
theorem test_register_addresses :
    (findReg 0x181410).map (fun h => (h.desc.name, h.ix)) = some ("DSP_SSTAT", 2) ∧
      (findReg 0x2C5000).map (fun h => (h.desc.name, h.ix)) = some ("HST_RBASE_LO", 20) := by decide +kernel

/-- LOCKED to port 2, EXLOG 4, an exchange begun at 1,000 ns. -/
def sExample : State :=
  let s := base [(F.TBS_STAT_STATE, 0, 2), (F.TBS_SERVO_EXLOG, 0, 4), (F.TBS_OFFLIM_OFFLIM, 0, 4000)]
  { s with time := { s.time with exT1 := some (Time.ofNs 1000), parent := some 2, servoS := 0 } }

/-- The same after the exchange. -/
def sExampleAfter : State :=
  after (.exchangeComplete 2 (1100080 * 34359738368) (Time.ofNs 1200) (Time.ofNs 1300)) sExample

/-- After R280: θ is 40 ps, δ is 100.040 ns, S becomes 10,737 and TBS_INC 0x1_0000_0AA5. -/
theorem test_exchange_steers_servo :
    sExampleAfter.getF F.TBS_OFFS_THETA 0 = 40 ∧ sExampleAfter.getF F.TBS_DELAY_DELTA 0 = 100040 ∧
      sExampleAfter.time.servoS = 10737 ∧ sExampleAfter.time.incNext = some 0x100000AA5 := by decide +kernel

/-- After R454: CH17, CH40, T6 and PCIe lane 13. -/
theorem test_ball_map :
    chanBalls 17 = ⟨⟨rowIx ['T'], 45⟩, ⟨rowIx ['U'], 45⟩, ⟨rowIx ['T'], 43⟩, ⟨rowIx ['U'], 43⟩⟩ ∧
      (chanBalls 40).txp = ⟨rowIx ['B', 'C'], 12⟩ ∧ (chanBalls 40).rxn = ⟨rowIx ['B', 'A'], 13⟩ ∧
      portBalls 6 = ⟨⟨rowIx ['B', 'G'], 39⟩, ⟨rowIx ['B', 'G'], 40⟩, ⟨rowIx ['B', 'E'], 39⟩, ⟨rowIx ['B', 'E'], 40⟩⟩ ∧
      (pcieBalls 13).txp = ⟨rowIx ['H'], 4⟩ ∧ (pcieBalls 13).rxn = ⟨rowIx ['H'], 40⟩ := by decide +kernel

/-- The monitor's example: input 5 over range, two conversions of input 26 discarded, a clean one added. -/
def sMonExample : State :=
  after (.conversionEnd 40960) (after (.conversionEnd 40960) (after (.conversionEnd 40960) (after (.conversionEnd 70000)
    { sSum [(F.MON_SEL_SEL, 0, 26)] (fun q => { q with vio := true }) with mon0 := 5 })))

theorem test_monitor_example :
    (sMonExample.monOf 5).max = 0xFFFF ∧ sMonExample.getF F.MON_FLG_OVR 5 = 1 ∧ sMonExample.getF F.MON_OVRCNT_CNT 5 = 1 ∧
      sMonExample.getF F.MON_DISC_CNT 26 = 2 ∧ sMonExample.monOf 26 = ⟨40960, 1, 0xA000, 0xA000⟩ := by decide +kernel

/-! ### Well-formedness: one ill-formed operand for each check, and the same operand at its bound where it has one -/

theorem test_wf_islands_chips_links :
    (Instr.beaconArrive 13).wellFormed = false ∧ (Instr.beaconArrive 28).wellFormed = false ∧
      (Instr.beaconArrive 27).wellFormed = true ∧ (Instr.sleepVoteReceive 512).wellFormed = false ∧
      (Instr.sleepVoteReceive 511).wellFormed = true ∧ (Instr.linkStateReceive { link0 with a := 512 }).wellFormed = false ∧
      (Instr.linkStateReceive { link0 with port := 12 }).wellFormed = false ∧
      (Instr.linkStateReceive { link0 with b := 512 }).wellFormed = false ∧ (Instr.linkAck 1 4096).wellFormed = false := by decide

theorem test_wf_requests_and_copies :
    (Instr.timedRequestArrive 13 (.classF 3 (Time.ofNs 1))).wellFormed = false ∧
      (Instr.timedRequestArrive 0 (.launch 1 65536 (Time.ofNs 1))).wellFormed = false ∧
      (Instr.timedRequestArrive 0 (.segStart 1 256 0 (Time.ofNs 1))).wellFormed = false ∧
      (Instr.timedRequestArrive 0 (.segStart 1 0 256 (Time.ofNs 1))).wellFormed = false ∧
      (Instr.timedRequestArrive 0 (.segStart 1 255 255 (Time.ofNs 1))).wellFormed = true ∧
      (Instr.flashCode 0 ⟨some 4294967296, none, none⟩).wellFormed = false ∧
      (Instr.flashCode 0 ⟨none, some 4294967296, none⟩).wellFormed = false ∧
      (Instr.flashCode 0 ⟨none, none, some 4294967296⟩).wellFormed = false ∧
      (Instr.flashCode 0 ⟨none, none, some 4294967295⟩).wellFormed = true := by decide

theorem test_wf_words_and_sizes :
    (Instr.wordIssue 0 (2 ^ 200)).wellFormed = false ∧ (Instr.reload .pf0 0 256 false).wellFormed = false ∧
      (Instr.vectorRead 0 0 256 0).wellFormed = false ∧ (Instr.vectorRead 0 0 0 4294967296).wellFormed = false ∧
      (Instr.bbWindowWrite (.vf 3) 0 0 3 0).wellFormed = false ∧ (Instr.bbWindowWrite (.vf 3) 0 262144 4 0).wellFormed = false ∧
      (Instr.bbWindowWrite (.vf 3) 0 0 1 256).wellFormed = false ∧ (Instr.granuleArrive 0 []).wellFormed = false ∧
      (Instr.adcSample 0 0 0 ⟨false, 4294967296⟩).wellFormed = false ∧ (Instr.rovingSample 0 ⟨0, ⟨false, 4294967296⟩⟩).wellFormed = false ∧
      (Instr.tdcStamp 0 4096).wellFormed = false ∧ (Instr.tdcStamp 0 4095).wellFormed = true ∧
      (Instr.pageMove 0 (2 ^ 256 * 2 ^ 256) 0).wellFormed = false ∧ (Instr.pageMove 0 0 4294967296).wellFormed = false ∧
      (Instr.ringEnable 0 0 16).wellFormed = false ∧ (Instr.registerWrite .pf0 0 5 0).wellFormed = false ∧
      (Instr.registerWrite .pf0 0 2 65536).wellFormed = false ∧ (Instr.nvmKey .pf0 4294967296).wellFormed = false ∧
      (Instr.sysFlashSend .pf0 16).wellFormed = false := by decide

theorem test_wf_items_messages_figures :
    (Instr.itemArrive 3 2 ⟨512, 0⟩ desc0).wellFormed = false ∧ (Instr.itemArrive 3 2 ⟨0, 0⟩ []).wellFormed = false ∧
      (Instr.itemArrive 3 2 ⟨0, 0⟩ (4294967296 :: desc0.tail)).wellFormed = false ∧ (Instr.itemArrive 3 2 ⟨0, 0⟩ desc0).wellFormed = true ∧
      (Instr.submitSlotRead 3 desc0 true).wellFormed = false ∧ (Instr.streamInDescriptor 3 desc0 [] true).wellFormed = false ∧
      (Instr.cellReceive 0 desc0).wellFormed = false ∧ (Instr.openReceive 3 65536 0).wellFormed = false ∧
      (Instr.openReceive 3 0 65536).wellFormed = false ∧ (Instr.prepareReceive 3 0 0 4294967296).wellFormed = false ∧
      (Instr.voteReceive 3 0 0 512 0).wellFormed = false ∧ (Instr.voteReceive 3 0 0 0 256).wellFormed = false ∧
      (Instr.abortReceive 3 0 0 256).wellFormed = false ∧ (Instr.itemArrive 3 2 ⟨0, 65536⟩ desc0).wellFormed = false := by decide

theorem test_wf_passes :
    (Instr.retrimDone 0 fig0).wellFormed = true ∧ (Instr.retrimDone 0 { fig0 with eyew := 65536 }).wellFormed = false ∧
      (Instr.retrimDone 0 { fig0 with inlrms := 65536 }).wellFormed = false ∧
      (Instr.retrimDone 0 { fig0 with inlmax := 65536 }).wellFormed = false ∧
      (Instr.retrimDone 0 { fig0 with lines := [] }).wellFormed = false ∧
      (Instr.retrimDone 0 { fig0 with tdc := [67108864] }).wellFormed = false ∧
      (Instr.retrimDone 0 { fig0 with tdc := List.replicate 4096 1 }).wellFormed = false := by decide +kernel

/-- A flash larger than 16 MiB. -/
theorem test_wf_flash (l : List Byte) (h : 16777216 < l.length) : (Instr.pgoodRise ⟨l, [], true⟩).wellFormed = false := by
  simp only [Instr.wellFormed]
  exact decide_eq_false (by omega)

/-- A block of more than 8,192 line bits. -/
theorem test_wf_line (l : List Bool) (h : 8192 < l.length) : (Instr.codeViolation ⟨0, l⟩).wellFormed = false := by
  simp only [Instr.wellFormed]
  exact decide_eq_false (by omega)

/-! ### Witnesses: for every statement with hypotheses, a state and operands that meet those of each of its clauses -/

theorem wit_StepRunsFrontCommand :
    ∃ (s : State) (c : Instr) (rest : List Instr), s.pending = c :: rest :=
  ⟨sTick, .timebaseTick, [], by decide +kernel⟩

theorem wit_IdleStepKeepsState :
    ∃ (s : State), s.pending = [] :=
  ⟨sTime, by decide +kernel⟩

theorem wit_StepKeepsRegistersCanonical :
    ∃ (s t : State), s.regsWf = true ∧ step s = .next t :=
  ⟨sTick, after .timebaseTick { sTime with pending := [] }, by decide +kernel, step_tick sTime []⟩

theorem wit_StepKeepsMemoriesCanonical :
    ∃ (s t : State), s.memsWf = true ∧ s.storesWf = true ∧ step s = .next t :=
  ⟨sTick, after .timebaseTick { sTime with pending := [] }, by decide +kernel, by decide +kernel, step_tick sTime []⟩

theorem wit_StepKeepsUnitsCanonical :
    ∃ (s t : State), s.unitsWf = true ∧ step s = .next t :=
  ⟨sTick, after .timebaseTick { sTime with pending := [] }, by decide +kernel, step_tick sTime []⟩

theorem wit_TickAdvancesTime :
    (∃ (s c : State), s.cycleEnd = c) ∧
    (∃ (s : State), (∀ x ∈ sites, (s.safOf x).lapsed = none) ∧ (∀ o < 8, s.getF F.OCT_CLVSTAT_STATE o ≠ 4)) ∧
    (∃ (s : State), (∀ p ∈ s.time.incSent, s.time.ticks < p.1)) ∧
    (∃ (s : State) (n i : Nat) (rest : List (Nat × Nat)), s.time.incSent = (n, i) :: rest ∧ n ≤ s.time.ticks ∧ i < 2 ^ 40 ∧
      (∀ p ∈ rest, s.time.ticks < p.1)) :=
  ⟨⟨base [], (base []).cycleEnd, rfl⟩,
    ⟨base [], by decide +kernel⟩,
    ⟨base [], by decide +kernel⟩,
    ⟨sTime, 5, 7, [], by decide +kernel⟩⟩

theorem wit_BeaconsLeadAndAreChecked :
    (∃ (s : State), 0 < s.inc) ∧
    (∃ (s : State) (isl : Nat) (b : Beacon) (rest : List Beacon), takeFirst (fun b => b.isl == isl) s.time.beacons = some (b,
      rest) ∧ b.step = true) ∧
    (∃ (s : State) (isl : Nat) (b : Beacon) (rest : List Beacon), takeFirst (fun b => b.isl == isl) s.time.beacons = some (b,
      rest) ∧ b.step = false ∧ s.time.ticks < b.tick ∧ s.copyAt isl b.tick = b.value) ∧
    (∃ (s : State) (isl : Nat) (b : Beacon) (rest : List Beacon), takeFirst (fun b => b.isl == isl) s.time.beacons = some (b,
      rest) ∧ b.step = false ∧ s.time.ticks < b.tick ∧ s.copyAt isl b.tick ≠ b.value ∧
      sites.filter (fun x => s.usesIsland x isl) = [] ∧ isl < 32) :=
  ⟨⟨sTime, by decide +kernel⟩,
    ⟨sStep, 2, ⟨2, 10, 123, 4, true⟩, [], by decide +kernel⟩,
    ⟨sAgree, 2, ⟨2, 10, sTime.copyAt 2 10, 4, false⟩, [], by decide +kernel⟩,
    ⟨sTime, 2, ⟨2, 10, 123, 4, false⟩, [], by decide +kernel⟩⟩

theorem wit_TimeRegisterCommands :
    (∃ (s : State) (n i : Nat) (rest : List (Nat × Nat)), s.time.incSent = (n, i) :: rest ∧ n ≤ s.time.ticks ∧ (∀ p ∈ rest,
      s.time.ticks < p.1)) ∧
    (∃ (s : State), (∀ p ∈ s.time.incSent, s.time.ticks < p.1)) ∧
    (∃ (s : State) (fn : Fn), (fn = .pf0 ∨ s.vfLive fn = true)) ∧
    (∃ (s : State), s.flag F.TBS_STAT_ROOT 0 = true ∧ s.anyRun = false ∧ s.getF F.TBS_SETNS_NS 0 < 4294967296) ∧
    (∃ (s : State), s.anyRun = true) :=
  ⟨⟨sTime, 5, 7, [], by decide +kernel⟩,
    ⟨base [], by decide +kernel⟩,
    ⟨base [], .vf 3, by decide +kernel⟩,
    ⟨sRoot, by decide +kernel⟩,
    ⟨sBeats, by decide +kernel⟩⟩

theorem wit_TimeExchangesSteerServo :
    (∃ (s : State) (k : Nat), s.time.parent = some k ∧ s.flag F.TBS_STAT_ROOT 0 = false ∧ s.portState k = 2) ∧
    (∃ (s : State) (p : Fin 12), s.portState p.val = 2) ∧
    (∃ (s : State) (t1 k : Nat), s.time.exT1 = some t1 ∧ s.time.parent = some k ∧ s.portState k < 3 ∧ s.time.lostRow + 1 < 8) ∧
    (∃ (s : State) (t1 k : Nat), s.time.exT1 = some t1 ∧ s.time.parent = some k ∧ s.portState k < 3 ∧ s.time.lostRow = 7 ∧
      s.getF F.TBS_STAT_STATE 0 = 2) ∧
    (∃ (s : State) (p : Fin 12) (t1 t2 t3 t4 : Nat), s.time.exT1 = some t1 ∧ s.time.parent = some p.val ∧
      s.getF F.TBS_STAT_STATE 0 = 2 ∧
      (theta2 t1 t2 t3 t4 (s.getF F.TBS_ASYM_ASYM p.val)).natAbs ≤ 2 * s.getF F.TBS_OFFLIM_OFFLIM 0 * 34359738368) :=
  ⟨⟨sTime, 3, by decide +kernel⟩,
    ⟨sTime, 3, by decide +kernel⟩,
    ⟨sLost, 17, 3, by decide +kernel⟩,
    ⟨sTime, 17, 3, by decide +kernel⟩,
    ⟨sTime, 3, 17, 20, 21, 24, by decide +kernel⟩⟩

theorem wit_TimedRequestArmsOrFallsLate :
    (∃ (s u : State) (isl : Nat) (r : TimedReq), s.reqArrive r = some u ∧ u.localNow isl + Time.ofNs 16 ≤ reqTarget r) ∧
    (∃ (s : State) (r : TimedReq), s.reqArrive r = none) ∧
    (∃ (s : State) (isl : Nat) (tm : Time), s.localNow isl + Time.ofNs 16 ≤ tm) ∧
    (∃ (s : State) (isl : Nat) (o : Fin 8) (trg flash : Nat) (tm : Time), (s.octSt o.val).wave.sent = [(trg, flash,
      some tm)] ∧ (s.octSt o.val).wave.asked = [] ∧ trg + flash ≠ 0 ∧ tm < s.localNow isl + Time.ofNs 16) ∧
    (∃ (s : State) (isl : Nat) (o : Fin 8) (trg flash x : Nat) (tm : Time) (rest : List (Nat × TimedReq)),
      firstArmed isl s.time.armed = some (.segStart o trg flash tm, rest) ∧ s.octOwner o.val = some x ∧ flash % 16 = 0) ∧
    (∃ (s : State) (isl : Nat) (c : Fin 64) (tm : Time) (rest : List (Nat × TimedReq)),
      firstArmed isl s.time.armed = some (.acqTrig c tm, rest) ∧ s.getF F.ACQ_CFG_TSRC c.val = 3 ∧
      ((s.chanOf c.val).acq.taken tm).isEmpty = true) :=
  ⟨⟨sSent 1016, sSentGone, 0, .segStart 0 1 0 (Time.ofNs 1016), by decide +kernel⟩,
    ⟨base [], .segStart 0 1 16 (Time.ofNs 2000), by decide +kernel⟩,
    ⟨sArmed, 1, Time.ofNs 1016, by decide +kernel⟩,
    ⟨sSent 1015, 0, 0, 1, 0, Time.ofNs 1015, by decide +kernel⟩,
    ⟨sArmed, 0, 0, 1, 16, 3, Time.ofNs 2000, [(1, .acqTrig 5 (Time.ofNs 2000))], by decide +kernel⟩,
    ⟨sArmed, 1, 5, Time.ofNs 2000, [(0, .segStart 0 1 16 (Time.ofNs 2000))], by decide +kernel⟩⟩

theorem wit_CompletionLoadsVaAndCounters :
    (∃ (s t : State) (e w pc n : Nat) (hret : Bool), e < 16 ∧ t = s.internal e w pc n hret ∧ mVAOP w = 1) ∧
    (∃ (s t : State) (e w pc n : Nat) (hret : Bool), e < 16 ∧ t = s.internal e w pc n hret ∧ mVAOP w = 2) ∧
    (∃ (s t : State) (e w pc n : Nat) (hret : Bool), e < 16 ∧ t = s.internal e w pc n hret ∧ mVAOP w = 3) ∧
    (∃ (s t : State) (e w pc n : Nat) (hret : Bool), ∃ k, e < 16 ∧ t = s.internal e w pc n hret ∧ mVAOP w = 0 ∧ (mVOP w = 0 ∨
      mVOP w = 1 ∨ mVOP w = 4 ∨ mVOP w = 7) ∧ k < 16) ∧
    (∃ (s t : State) (e w pc n : Nat) (hret : Bool), e < 16 ∧ t = s.internal e w pc n hret ∧ mVAOP w = 0 ∧ (mVOP w = 2 ∨
      mVOP w = 5) ∧ hasBit (s.va e (mVSRC w)) 22 = false) ∧
    (∃ (s t : State) (e w pc n : Nat) (hret : Bool), e < 16 ∧ t = s.internal e w pc n hret ∧ mVAOP w = 0 ∧ (mVOP w = 3 ∨
      mVOP w = 6) ∧ hasBit (s.va e (mVSRC w)) 22 = false ∧ n < 2 ^ 22) ∧
    (∃ (s t : State) (e w pc n : Nat) (hret : Bool), ∃ k, e < 16 ∧ t = s.internal e w pc n hret ∧ k < 4 ∧ mLOOP w k = 0) ∧
    (∃ (s t : State) (e w pc n : Nat) (hret : Bool), ∃ k, e < 16 ∧ t = s.internal e w pc n hret ∧ k < 4 ∧ mLOOP w k = 1 ∧
      mLSRC w = false) ∧
    (∃ (s t : State) (e w pc n : Nat) (hret : Bool), ∃ k, e < 16 ∧ t = s.internal e w pc n hret ∧ k < 4 ∧ mLOOP w k = 1 ∧
      mLSRC w = true) ∧
    (∃ (s t : State) (e w pc n : Nat) (hret : Bool), ∃ k, e < 16 ∧ t = s.internal e w pc n hret ∧ k < 4 ∧ 2 ≤ mLOOP w k) :=
  ⟨⟨base [], (base []).internal 0 (2 ^ 122) 7 4 false, 0, 2 ^ 122, 7, 4, false, by decide +kernel⟩,
    ⟨base [], (base []).internal 0 (2 * 2 ^ 122) 7 4 false, 0, 2 * 2 ^ 122, 7, 4, false, by decide +kernel⟩,
    ⟨base [], (base []).internal 0 (3 * 2 ^ 122) 7 4 false, 0, 3 * 2 ^ 122, 7, 4, false, by decide +kernel⟩,
    ⟨base [], (base []).internal 0 (4 * 2 ^ 32) 7 4 false, 0, 4 * 2 ^ 32, 7, 4, false, 15, by decide +kernel⟩,
    ⟨base [], (base []).internal 0 (5 * 2 ^ 32) 7 4 false, 0, 5 * 2 ^ 32, 7, 4, false, by decide +kernel⟩,
    ⟨base [], (base []).internal 0 (3 * 2 ^ 32) 7 4194303 false, 0, 3 * 2 ^ 32, 7, 4194303, false, by decide +kernel⟩,
    ⟨base [], (base []).internal 0 0 7 4 false, 0, 0, 7, 4, false, 3, by decide +kernel⟩,
    ⟨base [], (base []).internal 0 (2 ^ 46) 7 4 false, 0, 2 ^ 46, 7, 4, false, 3, by decide +kernel⟩,
    ⟨base [], (base []).internal 0 (2 ^ 46 + 2 ^ 144) 7 4 false, 0, 2 ^ 46 + 2 ^ 144, 7, 4, false, 3, by decide +kernel⟩,
    ⟨base [], (base []).internal 0 (3 * 2 ^ 46) 7 4 false, 0, 3 * 2 ^ 46, 7, 4, false, 3, by decide +kernel⟩⟩

theorem wit_WordIssueFetchesNextWord :
    (∃ (e : Fin 16) (s : State), s.boot.pass = none ∧ (s.engOf e.val).atBoundary = true ∧ (s.engOf e.val).stopReq = false ∧
      s.asyncPend e.val = false ∧ parityBad (s.store e.val (s.engOf e.val).nextPc) = false) ∧
    (∃ (e : Fin 16) (s : State), s.boot.pass = none ∧ (s.engOf e.val).atBoundary = true ∧ (s.engOf e.val).stopReq = false ∧
      s.asyncPend e.val = false ∧ parityBad (s.store e.val (s.engOf e.val).nextPc) = true) ∧
    (∃ (e : Fin 16) (s : State), s.boot.pass = none ∧ (s.engOf e.val).atBoundary = true ∧ (s.engOf e.val).stopReq = false ∧
      s.asyncPend e.val = true ∧ (s.engOf e.val).inExc = false ∧ (s.engOf e.val).guarded = false) ∧
    (∃ (s : State) (r : TrainRun), s.boot.pass = some r ∧ r.word = none ∧
      trainTrap (s.trainWord r.pc) r.delay.isSome (s.sp 15) = none) ∧
    (∃ (s : State) (r : TrainRun) (cause n : Nat), s.boot.pass = some r ∧ r.word = none ∧
      trainTrap (s.trainWord r.pc) r.delay.isSome (s.sp 15) = some (cause, n)) :=
  ⟨⟨0, sIssue, by decide +kernel⟩,
    ⟨0, sParity, by decide +kernel⟩,
    ⟨0, sSafe, by decide +kernel⟩,
    ⟨sPass, {}, by decide +kernel⟩,
    ⟨{ sPass with tstore := [(0, 8 * 2 ^ 96)] }, {}, 1, 0, by decide +kernel⟩⟩

theorem wit_WordResolveGoesOnOrRepeats :
    (∃ (e : Fin 16) (s : State) (c : Issued) (i : Item), s.boot.pass = none ∧ (s.engOf e.val).cur = some c ∧
      (s.engOf e.val).item = some i ∧ (s.engOf e.val).post = none ∧ (s.engOf e.val).suspending = false ∧
      (s.engOf e.val).ufl = none ∧ mRepeats c.word = false ∧ mXFER c.word ≠ 4 ∧ mXFER c.word ≠ 5) ∧
    (∃ (e : Fin 16) (s : State) (c : Issued) (i : Item), s.boot.pass = none ∧ (s.engOf e.val).cur = some c ∧
      (s.engOf e.val).item = some i ∧ (s.engOf e.val).post = none ∧ (s.engOf e.val).suspending = false ∧
      (s.engOf e.val).ufl = none ∧ mRepeats c.word = false ∧ mBRK c.word = 0 ∧ c.delay = none) ∧
    (∃ (e : Fin 16) (s : State) (c : Issued) (i : Item), s.boot.pass = none ∧ (s.engOf e.val).cur = some c ∧
      (s.engOf e.val).item = some i ∧ (s.engOf e.val).post = none ∧ (s.engOf e.val).suspending = false ∧
      (s.engOf e.val).ufl = none ∧ mRepeats c.word = false ∧ (mXFER c.word = 4 ∨ mXFER c.word = 5) ∧
      s.entryFree i.site = false ∧ i.site < 16 ∧ s.flag F.DSP_SCTL_STOP i.site = false) ∧
    (∃ (e : Fin 16) (s : State) (c : Issued) (i : Item), s.boot.pass = none ∧ (s.engOf e.val).cur = some c ∧
      (s.engOf e.val).item = some i ∧ (s.engOf e.val).post = none ∧ (s.engOf e.val).suspending = false ∧
      (s.engOf e.val).ufl = none ∧ mRepeats c.word = true ∧ s.repCond e.val c = false ∧ s.timedOut i.site c = false) ∧
    (∃ (e : Fin 16) (s : State) (c : Issued) (i : Item), s.boot.pass = none ∧ (s.engOf e.val).cur = some c ∧
      (s.engOf e.val).item = some i ∧ (s.engOf e.val).post = none ∧ (s.engOf e.val).suspending = false ∧
      (s.engOf e.val).ufl = none ∧ mRepeats c.word = true ∧ s.repCond e.val c = false ∧ s.timedOut i.site c = true ∧
      (mBRK c.word = 6 → mCMASK c.word ≠ 0)) ∧
    (∃ (e : Fin 16) (s : State) (c : Issued) (i : Item), s.boot.pass = none ∧ (s.engOf e.val).cur = some c ∧
      (s.engOf e.val).item = some i ∧ (s.engOf e.val).post = none ∧ (s.engOf e.val).suspending = false ∧
      (s.engOf e.val).ufl = none ∧ mRepeats c.word = true ∧ s.repCond e.val c = false ∧ s.timedOut i.site c = true ∧
      mBRK c.word = 6 ∧ mCMASK c.word = 0 ∧ mXFER c.word < 4) :=
  ⟨⟨0, sPlain, issued 0, item3, by decide +kernel⟩,
    ⟨0, sPlain, issued 0, item3, by decide +kernel⟩,
    ⟨0, sPosting, issued wPost, item3, by decide +kernel⟩,
    ⟨0, sWait, issued (6 * 2 ^ 13), item3, by decide +kernel⟩,
    ⟨0, sHold, issued (3 * 2 ^ 60 + 2 ^ 151), item3, by decide +kernel⟩,
    ⟨0, sWaitOver, issued wWaitAlways, item3, by decide +kernel⟩⟩

theorem wit_ExceptionEntersHandler :
    ∃ (s : State) (e : Nat) (w : Issued) (code cause : Nat), e < 16 ∧ code < 8 ∧ cause < 8 ∧ (s.engOf e).inExc = false ∧
      w.delay = none :=
  ⟨sHold, 0, issued 0, 1, 0, by decide +kernel⟩

theorem wit_AsyncOrderAndUnderrunReport :
    (∃ (e : Fin 16) (s : State), (s.engOf e.val).atBoundary = true ∧ (s.engOf e.val).guarded = false ∧
      (s.engOf e.val).inExc = false ∧ (s.engOf e.val).stopReq = false ∧ s.flag F.SE_EXCB_PSAFE e.val = true) ∧
    (∃ (e : Fin 16) (s : State), (s.engOf e.val).atBoundary = true ∧ (s.engOf e.val).guarded = false ∧
      (s.engOf e.val).inExc = false ∧ (s.engOf e.val).stopReq = false ∧ s.flag F.SE_EXCB_PSAFE e.val = false ∧
      s.flag F.SE_EXCB_PFAB e.val = true) ∧
    (∃ (e : Fin 16) (s : State), (s.engOf e.val).atBoundary = true ∧ (s.engOf e.val).guarded = false ∧
      (s.engOf e.val).inExc = false ∧ (s.engOf e.val).stopReq = false ∧ s.flag F.SE_EXCB_PSAFE e.val = false ∧
      s.flag F.SE_EXCB_PFAB e.val = false ∧ s.flag F.SE_EXCB_PPRE e.val = true) ∧
    (∃ (e : Fin 16) (s : State) (wid vidx : Nat) (sv : Time), (s.engOf e.val).ufl = some (wid, vidx, sv) ∧
      ((s.engOf e.val).cur.toList ++ (s.engOf e.val).hist).find? (fun q => q.wid == wid) = none) ∧
    (∃ (e : Fin 16) (s : State) (wid vidx : Nat) (sv : Time) (c : Issued) (i : Item), (s.engOf e.val).ufl = some (wid, vidx,
      sv) ∧ ((s.engOf e.val).cur.toList ++ (s.engOf e.val).hist).find? (fun q => q.wid == wid) = some c ∧
      (s.engOf e.val).item = some i ∧ c.inExc = false) :=
  ⟨⟨0, sSafe, by decide +kernel⟩,
    ⟨0, sFab, by decide +kernel⟩,
    ⟨0, sPre, by decide +kernel⟩,
    ⟨0, sUflGone, 9, 2, Time.ofNs 2002, by decide +kernel⟩,
    ⟨0, sUfl, 1, 2, Time.ofNs 2002, issued 0, item3, by decide +kernel⟩⟩

theorem wit_RetryAndPostComplete :
    (∃ (e : Fin 16) (s : State) (t0 : Time), (s.engOf e.val).parity = some t0 ∧
      s.mirrorGone e.val (s.engOf e.val).nextPc = false ∧
      parityBad (withParity (s.mirrorWord e.val (s.engOf e.val).nextPc)) = false) ∧
    (∃ (x : Fin 16) (e : Nat) (s : State) (p : Post) (c : Issued), e < 16 ∧ (∀ k, k < 16 → k ≠ e → (s.engOf k).post = none) ∧
      (s.engOf e).post = some p ∧ p.site = x.val ∧ (s.engOf e).cur = some c ∧ s.entryFree x.val = true) :=
  ⟨⟨0, sRetry, Time.ofNs 2000, by decide +kernel⟩,
    ⟨3, 0, sPost, ⟨1, 3, List.replicate 12 0⟩, issued 0, by decide +kernel⟩⟩

theorem wit_SuspendAndRestore :
    (∃ (e : Fin 16) (s : State) (i : Item), (s.engOf e.val).item = some i ∧ (s.engOf e.val).suspending = true ∧
      (s.engOf e.val).stopReq = false ∧ (s.engOf e.val).saved = none) ∧
    (∃ (e : Fin 16) (s : State) (i : Item), (s.engOf e.val).item = some i ∧ (s.engOf e.val).suspending = true ∧
      (s.engOf e.val).stopReq = true) ∧
    (∃ (e : Fin 16) (s : State) (v : Saved), (s.engOf e.val).saved = some v ∧ (s.engOf e.val).item = none ∧
      (s.engOf e.val).restoring = true ∧ s.engState e.val ≠ 4) :=
  ⟨⟨0, sSusp, item3, by decide +kernel⟩,
    ⟨0, sSuspStop, item3, by decide +kernel⟩,
    ⟨0, sRest, savedOf sRest, by decide +kernel⟩⟩

theorem wit_PinTimeActions :
    (∃ (e : Fin 16) (s s1 : State) (a : PinAct) (m : Nat),
      s.takeAct e.val (fun a => match a with | .trigo _ => true | _ => false) = some (a, s1) ∧ a.act = .trigo m) ∧
    (∃ (e : Fin 16) (s s1 : State) (a : PinAct) (c : Nat),
      s.takeAct e.val (fun a => match a with | .fsig _ => true | _ => false) = some (a, s1) ∧ a.act = .fsig c) ∧
    (∃ (e : Fin 16) (s s1 : State) (a : PinAct) (n : Nat),
      s.takeAct e.val (fun a => match a with | .evt _ => true | _ => false) = some (a, s1) ∧ a.act = .evt n ∧ n + 3 < 16) ∧
    (∃ (e : Fin 16) (s s1 : State) (a : PinAct),
      s.takeAct e.val (fun a => match a with | .arm _ => true | _ => false) = some (a, s1) ∧ a.act = .arm false ∧ (∃ i,
      (s.engOf e.val).item = some i ∧ i.serial = a.ser)) ∧
    (∃ (e : Fin 16) (s s1 : State) (a : PinAct),
      s.takeAct e.val (fun a => match a with | .arm _ => true | _ => false) = some (a, s1) ∧ a.act = .arm true ∧ (∃ i,
      (s.engOf e.val).item = some i ∧ i.serial = a.ser)) ∧
    (∃ (e : Fin 16) (s s1 : State) (a : PinAct),
      s.takeAct e.val (fun a => match a with | .arm _ => true | _ => false) = some (a, s1) ∧ a.act = .arm false ∧ (∀ i,
      (s.engOf e.val).item = some i → i.serial ≠ a.ser) ∧ (s.engOf e.val).saved = none) ∧
    (∃ (e : Fin 16) (s s1 : State) (a : PinAct) (code m o : Nat),
      s.takeAct e.val (fun a => match a with | .mode _ _ => true | _ => false) = some (a, s1) ∧ a.act = .mode code m ∧
      maskOcts m = [o] ∧ s1.ownsOct a.site o = true) ∧
    (∃ (e : Fin 16) (s s1 : State) (a : PinAct) (code m o : Nat),
      s.takeAct e.val (fun a => match a with | .mode _ _ => true | _ => false) = some (a, s1) ∧ a.act = .mode code m ∧
      maskOcts m = [o] ∧ s1.ownsOct a.site o = false) :=
  ⟨⟨0, sAct (.trigo 1), sActed, ⟨1, 3, Time.ofNs 2004, .trigo 1, item3.serial⟩, 1, by decide +kernel⟩,
    ⟨0, sAct (.fsig 2), sActed, ⟨1, 3, Time.ofNs 2004, .fsig 2, item3.serial⟩, 2, by decide +kernel⟩,
    ⟨0, sAct (.evt 12), sActed, ⟨1, 3, Time.ofNs 2004, .evt 12, item3.serial⟩, 12, by decide +kernel⟩,
    ⟨0, sAct (.arm false), sActed, ⟨1, 3, Time.ofNs 2004, .arm false, item3.serial⟩, by decide +kernel⟩,
    ⟨0, sAct (.arm true), sActed, ⟨1, 3, Time.ofNs 2004, .arm true, item3.serial⟩, by decide +kernel⟩,
    ⟨0, sActOther, sActed, ⟨1, 3, Time.ofNs 2004, .arm false, 99⟩, by decide +kernel, by decide +kernel,
      forallSome (by decide +kernel), by decide +kernel⟩,
    ⟨0, sAct (.mode 2 1), sActed, ⟨1, 3, Time.ofNs 2004, .mode 2 1, item3.serial⟩, 2, 1, 0, by decide +kernel⟩,
    ⟨0, sAct (.mode 2 (2 ^ 32)), sActed, ⟨1, 3, Time.ofNs 2004, .mode 2 (2 ^ 32), item3.serial⟩, 2, 2 ^ 32, 4,
      by decide +kernel⟩⟩

theorem wit_SegmentsAndChains :
    (∃ (o : Fin 8) (s : State) (p : SegEnt), s.pers o.val = 1 ∧ s.wopToRead o.val = none ∧
      (s.octSt o.val).wave.play = some p ∧ (s.octSt o.val).wave.left = 0 ∧ (s.octSt o.val).wave.next = none ∧ p.fin = false) ∧
    (∃ (o : Fin 8) (s : State) (e key obj : Nat) (u : Option Time) (n : SegEnt), s.persAhead o.val = 1 ∧
      s.wopToRead o.val = some (e, key, obj, u) ∧ n = { s.segEnt o.val obj with asker := some (e, key) }) ∧
    (∃ (o : Fin 8) (s : State) (p : SegEnt), (s.octSt o.val).wave.play = some p ∧ (s.octSt o.val).wave.stopAt = none ∧
      (s.octSt o.val).wave.goto = [] ∧ 0 < (s.octSt o.val).wave.left) ∧
    (∃ (o : Fin 8) (s : State) (p : SegEnt), (s.octSt o.val).wave.play = some p ∧ (s.octSt o.val).wave.stopAt = none ∧
      (s.octSt o.val).wave.goto = [] ∧ (s.octSt o.val).wave.left = 0 ∧ p.fin = true) ∧
    (∃ (e : Fin 16) (s s1 : State) (a : PinAct) (obj m key : Nat),
      s.takeAct e.val (fun a => match a with | .wop 1 _ _ _ => true | _ => false) = some (a, s1) ∧ a.act = .wop 1 obj m key ∧
      s1.wopOcts a.site m = [0] ∧ (s1.wopEntry 0 e.val key obj none).1.2 = true) ∧
    (∃ (e : Fin 16) (s s1 : State) (a : PinAct) (obj m key : Nat),
      s.takeAct e.val (fun a => match a with | .wop 2 _ _ _ => true | _ => false) = some (a, s1) ∧ a.act = .wop 2 obj m key ∧
      s1.wopOcts a.site m = [0] ∧ (s1.octSt 0).wave.play.isSome = true) ∧
    (∃ (e : Fin 16) (s s1 : State) (a : PinAct) (obj m key : Nat),
      s.takeAct e.val (fun a => match a with | .wop 3 _ _ _ => true | _ => false) = some (a, s1) ∧ a.act = .wop 3 obj m key ∧
      s1.wopOcts a.site m = [0] ∧ (s1.octSt 0).wave.play.isSome = true) :=
  ⟨⟨0, sSegRead, seg false, by decide +kernel⟩,
    ⟨0, sWop 1 id, 0, 1, 1, some (Time.ofNs 2004), { (sWop 1 id).segEnt 0 1 with asker := some (0, 1) }, by decide +kernel⟩,
    ⟨0, sSegRepeat, seg false, by decide +kernel⟩,
    ⟨0, sSegEnd, seg true, by decide +kernel⟩,
    ⟨0, sWop 1 id, sWopTaken id, ⟨1, 3, Time.ofNs 2004, .wop 1 1 1 1, item3.serial⟩, 1, 1, 1, by decide +kernel⟩,
    ⟨0, sWop 2 (fun w => { w with play := some (seg false) }), sWopTaken (fun w => { w with play := some (seg false) }), ⟨1,
      3, Time.ofNs 2004, .wop 2 1 1 1, item3.serial⟩, 1, 1, 1, by decide +kernel⟩,
    ⟨0, sWop 3 (fun w => { w with play := some (seg false) }), sWopTaken (fun w => { w with play := some (seg false) }), ⟨1,
      3, Time.ofNs 2004, .wop 3 1 1 1, item3.serial⟩, 1, 1, 1, by decide +kernel⟩⟩

theorem wit_WaveformRing :
    (∃ (o : Fin 8) (s : State) (sel : Bool), s.getF F.OCT_WFRING_RSIZE o.val ≠ 0 ∧ s.pers o.val = 1 ∧
      s.slotFor o.val = some sel) ∧
    (∃ (o : Fin 8) (s : State) (data : List Byte), s.getF F.OCT_WFRING_RSIZE o.val ≠ 0 ∧ 0 ≤ s.ringAhead o.val ∧
      s.ringAhead o.val < s.getF F.OCT_WFRING_RSIZE o.val ∧ data.length = 2048 ∧ (∀ x, s.octOwner o.val = some x →
      s.flag F.SITE_SSTAT_SCRUB x = false)) ∧
    (∃ (o : Fin 8) (s : State), s.getF F.OCT_WFRING_RSIZE o.val ≠ 0 ∧ s.ringAhead o.val < 0 ∧ (∀ x,
      s.octOwner o.val = some x → s.flag F.SITE_SSTAT_SCRUB x = false)) ∧
    (∃ (o : Fin 8) (s : State) (x : Nat), s.octOwner o.val = some x ∧ s.flag F.SITE_SSTAT_SCRUB x = true) ∧
    (∃ (o : Fin 8) (n : Fin 16) (s : State) (b sz : Nat), s.hostFree n ∧ s.octOwner o.val = some n.val ∧
      s.flag F.OCT_WFSTAT_RUN o.val = false ∧ 8 ≤ sz ∧ b + sz ≤ 6144 ∧ s.blocksIn o.val b sz = true) ∧
    (∃ (o : Fin 8) (n : Fin 16) (s : State), s.hostFree n ∧ s.octOwner o.val = some n.val ∧
      s.flag F.OCT_WFSTAT_RUN o.val = true) :=
  ⟨⟨0, sRingPlay, false, by decide +kernel⟩,
    ⟨0, sRing, List.replicate 2048 7, by decide +kernel, by decide +kernel, by decide +kernel, by decide +kernel,
      forallSome (by decide +kernel)⟩,
    ⟨0, sRingLate, by decide +kernel, by decide +kernel, forallSome (by decide +kernel)⟩,
    ⟨0, sRing.setF F.SITE_SSTAT_SCRUB 3 1, 3, by decide +kernel⟩,
    ⟨0, 3, sRing, 0, 8, by decide +kernel⟩,
    ⟨0, 3, sRingRun, by decide +kernel⟩⟩

theorem wit_BeatBufferWindowRespectsOwners :
    (∃ (n : Fin 16) (o : Fin 8) (off size data r c : Nat) (s t : State), c < 8 ∧
      exec (.bbWindowWrite (.vf n) o off size data) s = .next t ∧ s.ownsNibble n.val o.val r c = false) ∧
    (∃ (n : Fin 16) (o : Fin 8) (off : Nat) (s : State), s.vfLive (.vf n) = true ∧ off < 262144 ∧
      s.getF F.OCT_BBPAGE_PAGE (o.val * 17 + n.val) < 48 ∧ s.flag F.SITE_SSTAT_SCRUB n.val = false ∧ (∀ h, h < 2 →
      s.ownsNibble n.val o.val ((s.getF F.OCT_BBPAGE_PAGE (o.val * 17 + n.val) * 262144 + off) / 4) (off % 4 * 2 + h) = true)) ∧
    (∃ (n : Fin 16) (off size : Nat) (s : State), (s.flag F.SITE_SSTAT_SCRUB n.val = true ∨ winSize off size = false ∨
      262144 < off + size)) :=
  ⟨⟨3, 4, 2, 1, 90, 0, 7, base [], after (.bbWindowWrite (.vf 3) 4 2 1 90) (base []), by decide +kernel, rfl,
      by decide +kernel⟩,
    ⟨3, 4, 0, base [], by decide +kernel⟩,
    ⟨0, 0, 1, State.reset, by decide +kernel⟩⟩

theorem wit_VectorsAndEdges :
    (∃ (o : Fin 8) (e : Fin 16) (s : State) (f : Fetch), ∃ T, (s.engOf e.val).nextFetch o.val = some f ∧ f.oct = o.val ∧
      s.holdMask e.val &&& 255 * 256 ^ o.val = 0 ∧ T = (s.sched (s.vecSite e.val f.pos o.val)).fit f.s (s.paceOf f) ∧
      f.slot = none) ∧
    (∃ (o : Fin 8) (e : Fin 16) (s : State) (f : Fetch), ∃ T sl b, (s.engOf e.val).nextFetch o.val = some f ∧ f.oct = o.val ∧
      s.holdMask e.val &&& 255 * 256 ^ o.val = 0 ∧ T = (s.sched (s.vecSite e.val f.pos o.val)).fit f.s (s.paceOf f) ∧
      f.slot = some sl ∧ f.dead = false ∧ f.base = some b ∧ s.getF F.MEM_VSSTAT_STATE sl = 2 ∧ (s.engOf e.val).ending = none ∧
      b + f.k < (s.streamOf sl).filled) ∧
    (∃ (o : Fin 8) (e : Fin 16) (s : State) (f : Fetch), ∃ T sl b w, (s.engOf e.val).nextFetch o.val = some f ∧
      f.oct = o.val ∧ s.holdMask e.val &&& 255 * 256 ^ o.val = 0 ∧
      T = (s.sched (s.vecSite e.val f.pos o.val)).fit f.s (s.paceOf f) ∧ f.slot = some sl ∧ f.dead = false ∧ f.base = some b ∧
      s.getF F.MEM_VSSTAT_STATE sl = 1 ∧ (s.engOf e.val).cur = some w ∧ w.wid = f.wid ∧ (s.engOf e.val).ending = none) ∧
    (∃ (c : Fin 64) (s : State) (d e : Edge) (rest : List Edge),
      best (fun (a b : Edge) => decide (a.t < b.t)) (s.chanOf c.val).edges = some d ∧
      takeFirst (fun q => q == d) (s.chanOf c.val).edges = some (e, rest) ∧ s.pers (octOf c.val) = 0 ∧
      s.inPersIdle (octOf c.val) d.vs = false ∧ (∀ u, (s.chanOf c.val).lastEdge = some u → u + Time.ofQ 125 ≤ d.t)) ∧
    (∃ (c : Fin 64) (s : State) (d e : Edge) (rest : List Edge), ∃ u,
      best (fun (a b : Edge) => decide (a.t < b.t)) (s.chanOf c.val).edges = some d ∧
      takeFirst (fun q => q == d) (s.chanOf c.val).edges = some (e, rest) ∧ s.pers (octOf c.val) = 0 ∧
      s.inPersIdle (octOf c.val) d.vs = false ∧ (s.chanOf c.val).lastEdge = some u ∧ d.t < u + Time.ofQ 125) ∧
    (∃ (c : Fin 64) (s : State) (d e : Edge) (rest : List Edge),
      best (fun (a b : Edge) => decide (a.t < b.t)) (s.chanOf c.val).edges = some d ∧
      takeFirst (fun q => q == d) (s.chanOf c.val).edges = some (e, rest) ∧ (s.pers (octOf c.val) ≠ 0 ∨
      s.inPersIdle (octOf c.val) d.vs = true)) :=
  ⟨⟨0, 0, sFetch, fetch0, (sFetch.sched (sFetch.vecSite 0 1 0)).fit fetch0.s (sFetch.paceOf fetch0), by decide +kernel⟩,
    ⟨0, 0, sFetch1 2, fetch1, ((sFetch1 2).sched ((sFetch1 2).vecSite 0 1 0)).fit fetch1.s ((sFetch1 2).paceOf fetch1), 0, 0,
      by decide +kernel⟩,
    ⟨0, 0, sFetch1 1, fetch1, ((sFetch1 1).sched ((sFetch1 1).vecSite 0 1 0)).fit fetch1.s ((sFetch1 1).paceOf fetch1), 0, 0,
      issued 0, by decide +kernel⟩,
    ⟨0, sEdge none, edge0, edge0, [], by decide +kernel, by decide +kernel, by decide +kernel, by decide +kernel,
      forallSome (by decide +kernel)⟩,
    ⟨0, sEdge (some (Time.ofNs 2000 - Time.ofQ 124)), edge0, edge0, [], Time.ofNs 2000 - Time.ofQ 124, by decide +kernel⟩,
    ⟨0, sEdgeIdle, edge0, edge0, [], by decide +kernel⟩⟩

theorem wit_CompareRule :
    (∃ (v : Vect), v.smode = false ∧ v.expect = 0) ∧
    (∃ (v : Vect), v.smode = false ∧ v.expect = 1) ∧
    (∃ (v : Vect), v.smode = false ∧ v.expect = 2) ∧
    (∃ (v : Vect), v.smode = false ∧ v.expect = 3) ∧
    (∃ (v : Vect), v.smode = true ∧ v.expect = 0) ∧
    (∃ (v : Vect), v.smode = true ∧ v.expect = 1) ∧
    (∃ (v : Vect), v.smode = true ∧ v.expect = 2) ∧
    (∃ (v : Vect), v.smode = true ∧ v.expect = 3) :=
  ⟨⟨{ vect0 with expect := 0 }, by decide +kernel⟩,
    ⟨{ vect1 with expect := 1 }, by decide +kernel⟩,
    ⟨vect1, by decide +kernel⟩,
    ⟨{ vect1 with expect := 3 }, by decide +kernel⟩,
    ⟨{ vect1 with smode := true, expect := 0 }, by decide +kernel⟩,
    ⟨{ vect1 with smode := true, expect := 1 }, by decide +kernel⟩,
    ⟨{ vect1 with smode := true }, by decide +kernel⟩,
    ⟨{ vect1 with smode := true, expect := 3 }, by decide +kernel⟩⟩

theorem wit_StrobeCompareArrive :
    (∃ (c : Fin 64) (s : State) (v : Vect) (rest : List Vect) (u : Time), (s.chanOf c.val).vects = v :: rest ∧
      v.done = false ∧ nextStrobe (v :: rest) = some (u, 0, true) ∧ v.saOk = true ∧ (v.sbDone = false ∨ v.expect ≠ 0)) ∧
    (∃ (c : Fin 64) (s : State) (v : Vect) (rest : List Vect) (u : Time), (s.chanOf c.val).vects = v :: rest ∧
      v.done = false ∧ nextStrobe (v :: rest) = some (u, 0, false) ∧ v.sbOk = true ∧ (v.saDone = false ∨ v.expect ≠ 0)) ∧
    (∃ (c : Fin 64) (s : State) (v : Vect) (rest : List Vect) (u : Time), (s.chanOf c.val).vects = v :: rest ∧
      v.done = false ∧ nextStrobe (v :: rest) = some (u, 0, true) ∧ v.saOk = false ∧ v.sbDone = false ∧ v.expect ≠ 0) ∧
    (∃ (c : Fin 64) (s : State) (v : Vect) (rest : List Vect), (s.chanOf c.val).vects = v :: rest ∧ v.saDone = true ∧
      v.sbDone = true ∧ v.done = false ∧ (∀ w, rest.head? = some w → w.done = false)) ∧
    (∃ (e : Fin 16) (s : State) (a : CmpArrive) (rest : List CmpArrive), (s.engOf e.val).arrivals = a :: rest) ∧
    (∃ (e : Fin 16) (s : State) (v : Saved) (a : CmpArrive) (rest : List CmpArrive), (s.engOf e.val).arrivals = [] ∧
      (s.engOf e.val).saved = some v ∧ v.arrivals = a :: rest) :=
  ⟨⟨0, sVect vect0, vect0, [], Time.ofNs 2001, by decide +kernel⟩,
    ⟨0, sVect vectB, vectB, [], Time.ofNs 2002, by decide +kernel⟩,
    ⟨0, sVect vectSkip, vectSkip, [], Time.ofNs 2001, by decide +kernel⟩,
    ⟨0, sVect vect1, vect1, [], by decide +kernel, by decide +kernel, by decide +kernel, by decide +kernel,
      forallSome (by decide +kernel)⟩,
    ⟨0, sArr, arr0, [], by decide +kernel⟩,
    ⟨0, sArrSaved, saved0, arr0, [], by decide +kernel⟩⟩

theorem wit_ReceiverEvents :
    (∃ (c : Fin 64) (s : State) (uv : Int) (tm : Time), s.rxOn = true ∧ (s.chanOf c.val).comp = false ∧
      (sext 11 (s.getL F.OCT_THR_THR (chIx c.val)) + s.getL F.OCT_THR_HYST (chIx c.val)) * 1000 * levelUnit ≤ s.rxLevel c.val uv tm) ∧
    (∃ (c : Fin 64) (s : State) (uv : Int) (tm : Time), s.rxOn = true ∧ (s.chanOf c.val).comp = true ∧
      s.rxLevel c.val uv tm ≤ (sext 11 (s.getL F.OCT_THR_THR (chIx c.val)) - s.getL F.OCT_THR_HYST (chIx c.val)) * 1000 * levelUnit) ∧
    (∃ (c : Fin 64) (s : State) (uv : Int) (tm : Time),
      (sext 11 (s.getL F.OCT_THR_THR (chIx c.val)) - s.getL F.OCT_THR_HYST (chIx c.val)) * 1000 * levelUnit < s.rxLevel c.val uv tm ∧
      s.rxLevel c.val uv tm < (sext 11 (s.getL F.OCT_THR_THR (chIx c.val)) + s.getL F.OCT_THR_HYST (chIx c.val)) * 1000 * levelUnit) ∧
    (∃ (c : Fin 64) (s : State), s.flagL F.OCT_LBCFG_NEAR (chIx c.val) = false) ∧
    (∃ (c : Fin 64) (s : State) (l : Int), s.flagL F.OCT_LBCFG_NEAR (chIx c.val) = true ∧ (s.chanOf c.val).level = some l) ∧
    (∃ (c : Fin 64) (s : State), s.rxOn = true ∧ s.flagL F.OCT_RXCFG_ADAPT (chIx c.val) = true) :=
  ⟨⟨0, base [], 400000, 0, by decide +kernel⟩,
    ⟨0, sComp, -400000, 0, by decide +kernel⟩,
    ⟨0, sAdapt, 1, 0, by decide +kernel⟩,
    ⟨0, base [], by decide +kernel⟩,
    ⟨0, sNear, 5, by decide +kernel⟩,
    ⟨0, sAdapt, by decide +kernel⟩⟩

theorem wit_StreamsAndMemoryController :
    (∃ (n : Fin 16) (k : Fin 4) (s u : State), s.hostFree n ∧ u = s.vsFor k.val n.val ∧ u.getF F.MEM_VSSTAT_STATE k.val = 0 ∧
      u.streamFits n.val k.val = true) ∧
    (∃ (n : Fin 16) (k : Fin 4) (s u : State), s.hostFree n ∧ u = s.vsFor k.val n.val ∧ u.getF F.MEM_VSSTAT_STATE k.val = 0 ∧
      u.streamFits n.val k.val = false) ∧
    (∃ (s : State) (k x : Nat), ((s.streamOf k).site.isSome = true ∨ (s.streamOf k).user = some x)) ∧
    (∃ (s : State) (k x : Nat), ∃ f, (s.streamOf k).site = none ∧ (s.streamOf k).user ≠ some x ∧ f ∈ vsFlds) ∧
    (∃ (n : Fin 16) (k : Fin 4) (s : State), s.hostFree n ∧ (s.streamOf k.val).site = some n.val) ∧
    (∃ (k : Fin 4) (s : State) (x : Nat), (s.streamOf k.val).site = some x ∧ (s.streamOf k.val).refill = false ∧
      ((s.streamOf k.val).filled - (s.streamOf k.val).taken) * 2 ≤ s.getF F.MEM_VSCFG_FDEPTH k.val * 4096 ∧
      (s.streamOf k.val).filled < min (s.getF F.MEM_VSLEN_LEN k.val) ((s.streamOf k.val).taken + s.getF F.MEM_VSCFG_FDEPTH k.val * 4096)) ∧
    (∃ (d : Fin 16) (s : State) (r : MemReq), s.selfRefresh = false ∧
      best s.reqFirst (s.reqs.filter (fun q => q.dc == d.val && s.admits q)) = some r ∧
      hasBit (s.getF F.MEM_CHRET_RET 0) d.val = false ∧ r.slot = none) ∧
    (∃ (d : Fin 16) (s : State) (r : MemReq), ∃ k n m, s.selfRefresh = false ∧
      best s.reqFirst (s.reqs.filter (fun q => q.dc == d.val && s.admits q)) = some r ∧
      hasBit (s.getF F.MEM_CHRET_RET 0) d.val = false ∧ r.slot = some (k, n, m) ∧ s.dramGone r.site = false) ∧
    (∃ (s : State), (s.flag F.CLK_CORESTAT_BYP 0 = true ∨ s.getF F.GLB_PWRSTAT_STATE 0 ≠ 0)) ∧
    (∃ (d : Fin 16) (s : State), s.reqs = [] ∧ (∀ k, k < 4 → s.getF F.MEM_VSSTAT_STATE k = 0) ∧
      s.flag F.MEM_PDCFG_PD1EN 0 = true ∧ bits (s.getF F.MEM_PDSTAT_LVL 0) (2 * d.val + 1) (2 * d.val) = 0) ∧
    (∃ (d : Fin 16) (s : State) (r : MemReq), r ∈ s.reqs ∧ r.dc = d.val) :=
  ⟨⟨3, 0, sStream, sStream, by decide +kernel⟩,
    ⟨3, 1, sStream, sStream.vsFor 1 3, by decide +kernel⟩,
    ⟨sStreaming, 0, 3, by decide +kernel⟩,
    ⟨sStream, 1, 3, F.MEM_VSLEN_LEN, by decide +kernel⟩,
    ⟨3, 0, sStreaming, by decide +kernel⟩,
    ⟨0, sStreaming, 3, by decide +kernel⟩,
    ⟨1, sReq, req0, by decide +kernel⟩,
    ⟨1, sReqFill, reqFill, 0, 0, 4, by decide +kernel⟩,
    ⟨sReq.setF F.CLK_CORESTAT_BYP 0 1, by decide +kernel⟩,
    ⟨5, sPd, by decide +kernel⟩,
    ⟨1, sReq, req0, by decide +kernel⟩⟩

theorem wit_LaunchRequests :
    (∃ (e : Fin 16) (s s1 : State) (a : PinAct) (obj imm m : Nat),
      s.takeAct e.val (fun a => match a with | .pop 1 _ _ _ => true | _ => false) = some (a, s1) ∧ a.act = .pop 1 obj imm m ∧
      s1.popChans m = [0] ∧ (s1.chanOf 0).lane.queue.length < 16 ∧ obj ≤ 1023 ∧
      s1.tplValid a.site (octOf 0) (s1.tplWords (octOf 0) obj) = true) ∧
    (∃ (e : Fin 16) (s s1 : State) (a : PinAct) (obj imm m : Nat),
      s.takeAct e.val (fun a => match a with | .pop 1 _ _ _ => true | _ => false) = some (a, s1) ∧ a.act = .pop 1 obj imm m ∧
      s1.popChans m = [0] ∧ (s1.chanOf 0).lane.queue.length < 16 ∧ 1023 < obj) ∧
    (∃ (e : Fin 16) (s s1 : State) (a : PinAct) (obj imm m : Nat) (u : Time) (d : Int),
      s.takeAct e.val (fun a => match a with | .pop 2 _ _ _ => true | _ => false) = some (a, s1) ∧ a.act = .pop 2 obj imm m ∧
      u = (s1.sched a.site).start ((s1.sched a.site).off a.t) + Time.ofNs imm ∧
      d = ((Time.toFix u : Int) - Time.toFix a.t) % 18446744073709551616) ∧
    (∃ (ch : Fin 64) (s : State) (r : Launch) (rest : List Launch) (st : Nat), (s.chanOf ch.val).lane.queue = r :: rest ∧
      (s.chanOf ch.val).lane.frame = none ∧ s.pers (octOf ch.val) = 2 ∧ ((r.timed = true ∧ r.armed = false ∧ st = 1) ∨
      ((r.timed = false ∨ r.armed = true) ∧ ((hasBit (s.getF F.OCT_PSTAT_RATEBLK (octOf ch.val)) (posOf ch.val) = true ∧
      st = 4) ∨ (hasBit (s.getF F.OCT_PSTAT_RATEBLK (octOf ch.val)) (posOf ch.val) = false ∧
      ((s.getL F.OCT_LCFG_TXSRC (lnIx ch.val) = 1 ∧ st = 2) ∨ (s.getL F.OCT_LCFG_TXSRC (lnIx ch.val) ≠ 1 ∧
      s.unclocked (octOf ch.val) = true ∧ st = 3))))))) ∧
    (∃ (ch : Fin 64) (tm : Time) (s : State) (r : Launch) (rest : List Launch) (a : Time) (k0 : Int) (n : Nat),
      (s.chanOf ch.val).lane.queue = r :: rest ∧ (s.chanOf ch.val).lane.frame = none ∧ s.pers (octOf ch.val) = 2 ∧
      (r.timed = false ∨ r.armed = true) ∧ hasBit (s.getF F.OCT_PSTAT_RATEBLK (octOf ch.val)) (posOf ch.val) = false ∧
      s.getL F.OCT_LCFG_TXSRC (lnIx ch.val) ≠ 1 ∧ s.unclocked (octOf ch.val) = false ∧
      n = tPRELEN r.tpl * 8 / bps (s.pam4 ch.val) ∧ (r.timed = true → a = Time.ofQ (Time.toQ r.target) ∧ k0 = -(n : Int)) ∧
      (r.timed = false → a = (s.chanOf ch.val).lane.anchor ∧
      k0 = s.symFrom ch.val a (max tm (max (r.ew + Time.ofNs 16) (s.chanOf ch.val).lane.ipgEnd))) ∧ (r.timed = true →
      (s.chanOf ch.val).lane.ipgEnd ≤ s.symAt ch.val a k0 ∧
      (s.chanOf ch.val).lane.headAt + Time.ofNs 16 ≤ s.symAt ch.val a k0) ∧
      (s.chanOf ch.val).lane.blank ≤ s.symAt ch.val a k0) ∧
    (∃ (ch : Fin 64) (tm : Time) (s : State) (r : Launch) (rest : List Launch) (a : Time) (k0 : Int) (n st : Nat),
      (s.chanOf ch.val).lane.queue = r :: rest ∧ (s.chanOf ch.val).lane.frame = none ∧ s.pers (octOf ch.val) = 2 ∧
      (r.timed = false ∨ r.armed = true) ∧ hasBit (s.getF F.OCT_PSTAT_RATEBLK (octOf ch.val)) (posOf ch.val) = false ∧
      s.getL F.OCT_LCFG_TXSRC (lnIx ch.val) ≠ 1 ∧ s.unclocked (octOf ch.val) = false ∧
      n = tPRELEN r.tpl * 8 / bps (s.pam4 ch.val) ∧ (r.timed = true → a = Time.ofQ (Time.toQ r.target) ∧ k0 = -(n : Int)) ∧
      (r.timed = false → a = (s.chanOf ch.val).lane.anchor ∧
      k0 = s.symFrom ch.val a (max tm (max (r.ew + Time.ofNs 16) (s.chanOf ch.val).lane.ipgEnd))) ∧ ((r.timed = true ∧
      s.symAt ch.val a k0 < (s.chanOf ch.val).lane.ipgEnd ∧ st = 2) ∨ ((r.timed = false ∨
      (s.chanOf ch.val).lane.ipgEnd ≤ s.symAt ch.val a k0) ∧ ((r.timed = true ∧
      s.symAt ch.val a k0 < (s.chanOf ch.val).lane.headAt + Time.ofNs 16 ∧ st = 1) ∨ ((r.timed = false ∨
      (s.chanOf ch.val).lane.headAt + Time.ofNs 16 ≤ s.symAt ch.val a k0) ∧
      s.symAt ch.val a k0 < (s.chanOf ch.val).lane.blank ∧ st = 2))))) :=
  ⟨⟨0, sPop 1 1, sPopTaken, ⟨1, 3, Time.ofNs 2004, .pop 1 1 40 1, item3.serial⟩, 1, 40, 1, by decide +kernel⟩,
    ⟨0, sPop 1 1024, sPopTaken, ⟨1, 3, Time.ofNs 2004, .pop 1 1024 40 1, item3.serial⟩, 1024, 40, 1, by decide +kernel⟩,
    ⟨0, sPop 2 1, sPopTaken, ⟨1, 3, Time.ofNs 2004, .pop 2 1 40 1, item3.serial⟩, 1, 40, 1,
      (sPopTaken.sched 3).start ((sPopTaken.sched 3).off (Time.ofNs 2004)) + Time.ofNs 40,
      ((Time.toFix ((sPopTaken.sched 3).start ((sPopTaken.sched 3).off (Time.ofNs 2004)) + Time.ofNs 40) : Int) - Time.toFix (Time.ofNs 2004)) % 18446744073709551616,
      by decide +kernel⟩,
    ⟨0, sHead true, launch true, [], 1, by decide +kernel⟩,
    ⟨0, Time.ofNs 2010, sHead false, launch false, [], 0, (sHead false).symFrom 0 0 (Time.ofNs 2020), 16, by decide +kernel⟩,
    ⟨0, Time.ofNs 2010, sHeadArmed (fun l => { l with ipgEnd := Time.ofNs 2500 }), launchArmed, [], Time.ofNs 2500, -16, 16,
      2, by decide +kernel⟩⟩

theorem wit_FramesAndTimestamps :
    (∃ (ch : Fin 64) (s : State) (f : TxFrame), (s.chanOf ch.val).lane.frame = some f ∧ f.sending = false ∧
      (s.chanOf ch.val).lane.blank ≤ f.pre) ∧
    (∃ (ch : Fin 64) (s : State) (f : TxFrame), (s.chanOf ch.val).lane.frame = some f ∧ f.sending = false ∧
      f.pre < (s.chanOf ch.val).lane.blank) ∧
    (∃ (ch : Fin 64) (s : State) (f : TxFrame), (s.chanOf ch.val).lane.frame = some f ∧ f.sending = true) ∧
    (∃ (ch : Fin 64) (s : State) (e : TsEnt) (rest : List TsEnt), (s.chanOf ch.val).lane.tsPend = e :: rest ∧
      (s.chanOf ch.val).lane.tsq.length < 8) ∧
    (∃ (ch : Fin 64) (s : State) (e : TsEnt) (rest : List TsEnt), (s.chanOf ch.val).lane.tsPend = e :: rest ∧
      8 ≤ (s.chanOf ch.val).lane.tsq.length) ∧
    (∃ (n : Fin 16) (ch : Fin 64) (s : State), s.octOwner (octOf ch.val) = some n.val ∧ s.vfLive (.vf n) = true) :=
  ⟨⟨0, sFrame false, frame0 false, by decide +kernel⟩,
    ⟨0, sFrameBlank, frame0 false, by decide +kernel⟩,
    ⟨0, sFrame true, frame0 true, by decide +kernel⟩,
    ⟨0, sTs 7, ent 1, [], by decide +kernel⟩,
    ⟨0, sTs 8, ent 1, [], by decide +kernel⟩,
    ⟨3, 0, sTs 2, by decide +kernel⟩⟩

theorem wit_LaneReceive :
    (∃ (ch : Fin 64) (s : State), s.rxOn = true ∧ s.pers (octOf ch.val) = 2 ∧ s.flag F.OCT_LSTAT_LOCK (lnIx ch.val) = false) ∧
    (∃ (ch : Fin 64) (s : State) (u : Time) (l : List Nat), s.rxOn = true ∧ s.pers (octOf ch.val) = 2 ∧
      s.flagL F.OCT_LCFG_RXFRM (lnIx ch.val) = true ∧ s.flag F.OCT_LSTAT_LOCK (lnIx ch.val) = true ∧
      hasBit (s.getF F.OCT_PSTAT_RATEBLK (octOf ch.val)) (posOf ch.val) = false ∧ (s.chanOf ch.val).lane.rxIng = none ∧
      s.sdHit ch.val = some (u, l)) ∧
    (∃ (ch : Fin 64) (s : State), s.rxOn = true ∧ s.pers (octOf ch.val) = 2 ∧ s.flagL F.OCT_LCFG_RXFRM (lnIx ch.val) = true ∧
      s.flag F.OCT_LSTAT_LOCK (lnIx ch.val) = true ∧
      hasBit (s.getF F.OCT_PSTAT_RATEBLK (octOf ch.val)) (posOf ch.val) = false ∧
      ((s.chanOf ch.val).lane.rxIng.isSome = true ∨ s.sdHit ch.val = none)) ∧
    (∃ (ch : Fin 64) (s : State) (ing fin : Time) (bs : List Nat) (rest : List (Time × List Nat × Time)) (data : List Byte) (len n : Nat),
      s.rxOn = true ∧ (s.chanOf ch.val).lane.rxFull = (ing, bs, fin) :: rest ∧ len = s.getL F.OCT_LRXFMT_RXLEN (lnIx ch.val) ∧
      data = bytesOf len bs ∧ n = len - crcLen (s.getL F.OCT_LRXFMT_RXCRC (lnIx ch.val))) ∧
    (∃ (ch : Fin 64) (s : State) (tm : Time) (sym beat : Nat) (rest : List (Time × Nat × Nat)),
      (s.chanOf ch.val).lane.errs = (tm, sym, beat) :: rest) ∧
    (∃ (n : Fin 16) (ch : Fin 64) (s : State), s.hostFree n ∧ s.ownsCh n.val ch.val = true) :=
  ⟨⟨0, sRx 0 none, by decide +kernel⟩,
    ⟨0, sRxSd, Time.ofNs 2000, [], by decide +kernel⟩,
    ⟨0, sRx 1 (some 5), by decide +kernel⟩,
    ⟨0, sRxFull, Time.ofNs 2000, Time.ofNs 2010, List.replicate 64 1, [], List.replicate 8 255, 8, 4, by decide +kernel⟩,
    ⟨0, sRxErr, Time.ofNs 2000, 3, 7, [], by decide +kernel⟩,
    ⟨3, 0, base [], by decide +kernel⟩⟩

theorem wit_CaptureSpansAndWindow :
    (∃ (e : Fin 16) (s s1 : State) (a : PinAct) (q : Nat) (u : Time),
      s.takeAct e.val (fun a => match a with | .capt 1 _ _ => true | _ => false) = some (a, s1) ∧ a.act = .capt 1 q u) ∧
    (∃ (e : Fin 16) (s s1 : State) (a : PinAct) (q : Nat) (u : Time),
      s.takeAct e.val (fun a => match a with | .capt 2 _ _ => true | _ => false) = some (a, s1) ∧ a.act = .capt 2 q u) ∧
    (∃ (e : Fin 16) (s s1 : State) (a : PinAct) (q : Nat) (u : Time),
      s.takeAct e.val (fun a => match a with | .capt 3 _ _ => true | _ => false) = some (a, s1) ∧ a.act = .capt 3 q u) ∧
    (∃ (x : Fin 16) (s u : State),
      u = ((((s.modCap x.val (fun k => { k with winStart := max k.winStart (boundary s.memNow - Time.ofNs 1024) })).chargeAhead x.val (boundary s.memNow)).capDrain x.val).capDue x.val (boundary s.memNow)) ∧
      u.dec x.val < 8 ∧ u.cwin x.val < (u.capOf x.val).kept ∧ (u.capOf x.val).overrun = none ∧
      u.flag F.SITE_CAPSTAT_STOPPED x.val = false) ∧
    (∃ (x : Fin 16) (s u : State),
      u = ((((s.modCap x.val (fun k => { k with winStart := max k.winStart (boundary s.memNow - Time.ofNs 1024) })).chargeAhead x.val (boundary s.memNow)).capDrain x.val).capDue x.val (boundary s.memNow)) ∧
      u.dec x.val = 8 ∧ u.getF F.SITE_CBKOCC_BKOCC x.val < u.bksz x.val ∧ (u.capOf x.val).ovrWin = false ∧
      u.cwin x.val < (u.capOf x.val).kept ∧ (u.capOf x.val).overrun = none ∧ u.flag F.SITE_CAPSTAT_STOPPED x.val = false) ∧
    (∃ (x : Fin 16) (s u : State),
      u = ((((s.modCap x.val (fun k => { k with winStart := max k.winStart (boundary s.memNow - Time.ofNs 1024) })).chargeAhead x.val (boundary s.memNow)).capDrain x.val).capDue x.val (boundary s.memNow)) ∧
      u.dec x.val = 8 ∧ u.bksz x.val ≤ u.getF F.SITE_CBKOCC_BKOCC x.val ∧ u.flag F.SITE_CAPSTAT_STOPPED x.val = false) ∧
    (∃ (x : Fin 16) (s u : State),
      u = ((((s.modCap x.val (fun k => { k with winStart := max k.winStart (boundary s.memNow - Time.ofNs 1024) })).chargeAhead x.val (boundary s.memNow)).capDrain x.val).capDue x.val (boundary s.memNow)) ∧
      u.dec x.val = 8 ∧ (u.capOf x.val).ovrWin = true ∧ u.flag F.SITE_CAPSTAT_STOPPED x.val = false) ∧
    (∃ (x : Fin 16) (s u : State),
      u = ((((s.modCap x.val (fun k => { k with winStart := max k.winStart (boundary s.memNow - Time.ofNs 1024) })).chargeAhead x.val (boundary s.memNow)).capDrain x.val).capDue x.val (boundary s.memNow)) ∧
      (u.capOf x.val).kept ≤ u.cwin x.val ∧ u.dec x.val = 1 ∧ u.getF F.SITE_CBKOCC_BKOCC x.val * 2 < u.bksz x.val ∧
      (u.capOf x.val).overrun = none ∧ (u.capOf x.val).admitted 0 ≤ u.cwin x.val ∧
      u.flag F.SITE_CAPSTAT_STOPPED x.val = false) ∧
    (∃ (x : Fin 16) (s u : State),
      u = ((((s.modCap x.val (fun k => { k with winStart := max k.winStart (boundary s.memNow - Time.ofNs 1024) })).chargeAhead x.val (boundary s.memNow)).capDrain x.val).capDue x.val (boundary s.memNow)) ∧
      (u.capOf x.val).kept ≤ u.cwin x.val ∧ u.dec x.val = 0 ∧ (u.capOf x.val).overrun = none ∧
      u.flag F.SITE_CAPSTAT_STOPPED x.val = false) ∧
    (∃ (x : Fin 16) (s u : State),
      u = ((((s.modCap x.val (fun k => { k with winStart := max k.winStart (boundary s.memNow - Time.ofNs 1024) })).chargeAhead x.val (boundary s.memNow)).capDrain x.val).capDue x.val (boundary s.memNow)) ∧
      u.flag F.SITE_CAPSTAT_STOPPED x.val = true ∧ u.getF F.SITE_CBKOCC_BKOCC x.val * 2 < u.bksz x.val ∧
      u.stageRoom x.val (u.capOf x.val).staged.length = true) ∧
    (∃ (x : Fin 16) (s u : State),
      u = ((((s.modCap x.val (fun k => { k with winStart := max k.winStart (boundary s.memNow - Time.ofNs 1024) })).chargeAhead x.val (boundary s.memNow)).capDrain x.val).capDue x.val (boundary s.memNow)) ∧
      u.flag F.SITE_CAPSTAT_STOPPED x.val = true ∧ u.bksz x.val ≤ u.getF F.SITE_CBKOCC_BKOCC x.val * 2) :=
  ⟨⟨0, sCapt 1 id, sCaptTaken id, ⟨1, 3, Time.ofNs 2004, .capt 1 2 (Time.ofNs 2000), item3.serial⟩, 2, Time.ofNs 2000,
      by decide +kernel⟩,
    ⟨0, sCapt 2 (fun k => { k with spans := [(2, 7, none)] }), sCaptTaken (fun k => { k with spans := [(2, 7, none)] }), ⟨1,
      3, Time.ofNs 2004, .capt 2 2 (Time.ofNs 2000), item3.serial⟩, 2, Time.ofNs 2000, by decide +kernel⟩,
    ⟨0, sCapt 3 id, sCaptTaken id, ⟨1, 3, Time.ofNs 2004, .capt 3 2 (Time.ofNs 2000), item3.serial⟩, 2, Time.ofNs 2000,
      by decide +kernel⟩,
    ⟨3, sWinAt 0 0 600 0 false, winU (sWinAt 0 0 600 0 false), by decide +kernel⟩,
    ⟨3, sWinAt 8 0 600 0 false, winU (sWinAt 8 0 600 0 false), by decide +kernel⟩,
    ⟨3, sWinAt 8 16 100 0 false, winU (sWinAt 8 16 100 0 false), by decide +kernel⟩,
    ⟨3, sWinAt 8 0 100 0 true, winU (sWinAt 8 0 100 0 true), by decide +kernel⟩,
    ⟨3, sWinAt 1 7 100 0 false, winU (sWinAt 1 7 100 0 false), by decide +kernel⟩,
    ⟨3, sWinAt 0 0 100 0 false, winU (sWinAt 0 0 100 0 false), by decide +kernel⟩,
    ⟨3, sWinAt 8 7 100 1 false, winU (sWinAt 8 7 100 1 false), by decide +kernel⟩,
    ⟨3, sWinAt 8 8 100 1 false, winU (sWinAt 8 8 100 1 false), by decide +kernel⟩⟩

theorem wit_CapturePages :
    (∃ (x : Fin 16) (s : State) (c : Cand) (rest : List Cand), (s.capOf x.val).cands = c :: rest ∧
      (∀ u ∈ (s.capOf x.val).closeAt, c.charge < u.1)) ∧
    (∃ (x : Fin 16) (s : State), s.getF F.SITE_CFLTO_FLTO x.val ≠ 0) ∧
    (∃ (x : Fin 16) (s : State), s.getF F.SITE_CFLTO_FLTO x.val = 0) ∧
    (∃ (x : Fin 16) (s : State), s.hostFree x) ∧
    (∃ (x : Fin 16) (s : State) (p : Page), (s.capOf x.val).page = some p ∧ (s.capOf x.val).cands = [] ∧
      (∀ u ∈ (s.capOf x.val).closeAt, s.memNow < u.1) ∧ (p.tailT ≠ s.memNow ∨ p.tail = [])) ∧
    (∃ (x : Fin 16) (s : State) (p : Page) (rest : List Page), (s.capOf x.val).staged = p :: rest ∧
      (∀ u ∈ (s.capOf x.val).closeAt, s.memNow < u.1) ∧ s.getF F.SITE_CBKOCC_BKOCC x.val < s.bksz x.val ∧
      s.waiting 1 x.val = false) ∧
    (∃ (x : Fin 16) (s : State) (p : Page) (rest : List Page), (s.capOf x.val).staged = p :: rest ∧
      (∀ u ∈ (s.capOf x.val).closeAt, s.memNow < u.1) ∧ (s.bksz x.val ≤ s.getF F.SITE_CBKOCC_BKOCC x.val ∨
      s.waiting 1 x.val = true)) ∧
    (∃ (x : Fin 16) (s : State) (p : Page) (rest : List Page) (a : Nat), (s.capOf x.val).backlog = p :: rest ∧
      s.freeSlot x.val 2 4096 = some a ∧ (∀ r ∈ s.reqs, ∀ q, r.site = x.val → r.page = some q → q.1 ≠ p.seq)) ∧
    (∃ (x : Fin 16) (s : State) (p : Page) (rest : List Page) (a : Nat), ∃ r q, (s.capOf x.val).backlog = p :: rest ∧
      s.freeSlot x.val 2 4096 = some a ∧ r ∈ s.reqs ∧ r.site = x.val ∧ r.page = some q ∧ q.1 = p.seq) :=
  ⟨⟨3, sCand, cand0, [], by decide +kernel⟩,
    ⟨3, sOpen 8, by decide +kernel⟩,
    ⟨3, sOpen 0, by decide +kernel⟩,
    ⟨3, sOpen 8, by decide +kernel⟩,
    ⟨3, sOpen 8, {}, by decide +kernel⟩,
    ⟨3, sStaged 15, {}, [], by decide +kernel⟩,
    ⟨3, sStaged 16, {}, [], by decide +kernel⟩,
    ⟨3, sBack, {}, [], 65536, by decide +kernel, by decide +kernel,
      by intro r hr; rw [(by decide +kernel : sBack.reqs = [])] at hr; cases hr⟩,
    ⟨3, { sBack with reqs := [{ req0 with page := some (0, 0) }] }, {}, [], 65536, { req0 with page := some (0, 0) }, (0, 0),
      by decide +kernel⟩⟩

theorem wit_AcquisitionCodesAndCounts :
    (∃ (s : State) (c : Nat) (v fs : Int), fs = s.fullScale c * (1000 * levelUnit) ∧ 0 < s.adcCode c v ∧ s.adcCode c v < 255) ∧
    (∃ (ch : Fin 64) (uv : Int) (tm : Time) (s : State) (start u ui : Time) (beat code : Nat), s.rxOn = true ∧
      s.adcUi ch.val tm = some (start, u, ui, beat) ∧ code = s.adcCode ch.val (s.adcInput ch.val uv u) ∧
      s.acqFunc ch.val = 2 ∧ s.getF F.ACQ_CFG_GATE ch.val = 0 ∧ s.flag F.ACQ_CFG_VSRC ch.val = false ∧ (∀ q,
      (s.chanOf ch.val).acq.uis.head? = some q → s.crosses ch.val q.code code = false)) ∧
    (∃ (ch : Fin 64) (uv : Int) (s : State) (p code : Nat), s.rxOn = true ∧ p = s.rovPhase ch.val ∧
      code = s.adcCode ch.val (s.adcInput ch.val uv (s.rovAt ch.val p)) ∧ p < 64) ∧
    (∃ (ch : Fin 64) (uv : Int) (s : State) (p code : Nat) (q : AcqUi) (rest : List AcqUi), s.rxOn = true ∧
      p = s.rovPhase ch.val ∧ code = s.adcCode ch.val (s.adcInput ch.val uv (s.rovAt ch.val p)) ∧ 64 ≤ p ∧
      (s.chanOf ch.val).acq.uis = q :: rest ∧ q.counted = false) ∧
    (∃ (ch : Fin 64) (uv : Int) (s : State) (p code : Nat) (q : AcqUi) (rest : List AcqUi), ∃ b, s.rxOn = true ∧
      p = s.rovPhase ch.val ∧ code = s.adcCode ch.val (s.adcInput ch.val uv (s.rovAt ch.val p)) ∧ 64 ≤ p ∧
      (s.chanOf ch.val).acq.uis = q :: rest ∧ q.counted = true ∧ s.acqFunc ch.val = 1 ∧
      s.flag F.ACQ_ROV_SWEEP ch.val = false ∧ b = (p * 256 + code) * 4 ∧ s.bin ch.val b < 4294967295) ∧
    (∃ (s : State), s.rxOn = false) ∧
    (∃ (ch : Fin 64) (s : State), s.flag F.ACQ_ROV_SWEEP ch.val = true ∧ (s.chanOf ch.val).acq.settle = 0 ∧
      2 ^ s.getF F.ACQ_ROV_DWELL ch.val ≤ (s.chanOf ch.val).acq.dwell) :=
  ⟨⟨base [], 0, 0, (base []).fullScale 0 * (1000 * levelUnit), by decide +kernel⟩,
    ⟨0, 1000, Time.ofNs 2001, sHistV, Time.ofNs 2000, Time.ofNs 2001, 8000, 0,
      sHistV.adcCode 0 (sHistV.adcInput 0 1000 (Time.ofNs 2001)), by decide +kernel, by decide +kernel, by decide +kernel,
      by decide +kernel, by decide +kernel, by decide +kernel, forallSome (by decide +kernel)⟩,
    ⟨0, 1000, sRov, 5, sRov.adcCode 0 (sRov.adcInput 0 1000 (sRov.localNow (octOf 0))), by decide +kernel⟩,
    ⟨0, 1000, sRov64 false, 64, (sRov64 false).adcCode 0 ((sRov64 false).adcInput 0 1000 ((sRov64 false).localNow (octOf 0))),
      ui0 false, [], by decide +kernel⟩,
    ⟨0, 1000, sRov64 true, 64, (sRov64 true).adcCode 0 ((sRov64 true).adcInput 0 1000 ((sRov64 true).localNow (octOf 0))),
      ui0 true, [],
      (64 * 256 + (sRov64 true).adcCode 0 ((sRov64 true).adcInput 0 1000 ((sRov64 true).localNow (octOf 0)))) * 4,
      by decide +kernel⟩,
    ⟨sOffAir, by decide +kernel⟩,
    ⟨0, sRovStep, by decide +kernel⟩⟩

theorem wit_AcquisitionRuns :
    (∃ (ch : Fin 64) (s : State), s.flag F.ACQ_CTL_RUN ch.val = true ∧ (s.chanOf ch.val).acq.run = false) ∧
    (∃ (ch : Fin 64) (s : State), s.flag F.ACQ_CTL_RUN ch.val = false ∧ (s.chanOf ch.val).acq.run = true) ∧
    (∃ (n : Fin 16) (ch : Fin 64) (s : State), s.hostFree n ∧ s.ownsCh n.val ch.val = true ∧ s.acqFunc ch.val = 3 ∧
      s.flag F.ACQ_CTL_RUN ch.val = true) ∧
    (∃ (ch : Fin 64) (s : State), s.flag F.ACQ_STAT_ARMED ch.val = true ∧ (s.chanOf ch.val).acq.refSeen = true ∧
      (s.chanOf ch.val).acq.left = 0) ∧
    (∃ (n : Fin 16) (ch : Fin 64) (s : State) (u : Time) (l : List AcqUi), s.hostFree n ∧ s.ownsCh n.val ch.val = true ∧
      u = Time.ofNs (Time.toNs (s.localNow (octOf ch.val))) ∧ l = (s.chanOf ch.val).acq.taken u ∧ l = []) ∧
    (∃ (n : Fin 16) (ch : Fin 64) (s : State) (u : Time) (l : List AcqUi) (r : AcqUi) (off : Nat), s.hostFree n ∧
      s.ownsCh n.val ch.val = true ∧ u = Time.ofNs (Time.toNs (s.localNow (octOf ch.val))) ∧
      l = (s.chanOf ch.val).acq.taken u ∧ l.getLast? = some r ∧ r.off = some off ∧
      s.acqFires ch.val u r ((l.filter (fun q => decide (u < q.t) && q.off.isSome)).length) = true ∧
      s.getF F.ACQ_CFG_GATE ch.val ≠ 3) ∧
    (∃ (n : Fin 16) (ch : Fin 64) (ns d : Nat) (s : State), s.hostFree n ∧ s.ownsCh n.val ch.val = true ∧
      d = ((ns % 4294967296 * 4294967296 + s.getF F.ACQ_TTRIG_LO_FRAC ch.val + 18446744073709551616 - s.copyFix (octOf ch.val) % 18446744073709551616) % 18446744073709551616) ∧
      d < 16 * 4294967296) :=
  ⟨⟨0, sRun 1 false, by decide +kernel⟩,
    ⟨0, sRun 0 true, by decide +kernel⟩,
    ⟨3, 0, sSnap, by decide +kernel⟩,
    ⟨0, sSnapDone, by decide +kernel⟩,
    ⟨3, 0, sSnap, Time.ofNs 1000, [], by decide +kernel⟩,
    ⟨3, 0, sSnapUi 11, Time.ofNs 1000, [ui1], ui1, 0, by decide +kernel⟩,
    ⟨3, 0, 1015, 15 * 4294967296, sSnap, by decide +kernel⟩⟩

theorem wit_AcquisitionClears :
    (∃ (n : Fin 16) (ch : Fin 64) (s : State), s.hostFree n ∧ s.ownsCh n.val ch.val = true ∧
      (s.chanOf ch.val).acq.clearing = false ∧ s.flag F.ACQ_CTL_RUN ch.val = false) ∧
    (∃ (n : Fin 16) (ch : Fin 64) (s : State), s.hostFree n ∧ s.ownsCh n.val ch.val = true ∧
      (s.chanOf ch.val).acq.clearing = false ∧ s.flag F.ACQ_CTL_RUN ch.val = true) ∧
    (∃ (n : Fin 16) (ch : Fin 64) (s : State), s.hostFree n ∧ s.ownsCh n.val ch.val = true ∧
      (s.chanOf ch.val).acq.clearing = true) ∧
    (∃ (n : Fin 16) (ch : Fin 64) (s : State), s.hostFree n ∧ s.ownsCh n.val ch.val = true ∧
      (s.chanOf ch.val).acq.eye = false ∧ s.flag F.ACQ_CTL_RUN ch.val = false ∧ s.flag F.ACQ_STAT_ACTIVE ch.val = false ∧
      s.acqFunc ch.val = 1) ∧
    (∃ (n : Fin 16) (ch : Fin 64) (s : State), s.hostFree n ∧ s.ownsCh n.val ch.val = true ∧
      (s.chanOf ch.val).acq.eye = false ∧ (s.flag F.ACQ_CTL_RUN ch.val = true ∨ s.flag F.ACQ_STAT_ACTIVE ch.val = true ∨
      s.acqFunc ch.val ≠ 1)) ∧
    (∃ (ch : Fin 64) (s : State), (s.chanOf ch.val).acq.eye = true) :=
  ⟨⟨3, 0, sEye 0 false false, by decide +kernel⟩,
    ⟨3, 0, sEye 1 false false, by decide +kernel⟩,
    ⟨3, 0, sEye 1 true false, by decide +kernel⟩,
    ⟨3, 0, sEye 0 false false, by decide +kernel⟩,
    ⟨3, 0, sEye 1 false false, by decide +kernel⟩,
    ⟨0, sEye 0 false true, by decide +kernel⟩⟩

theorem wit_TdcMeasures :
    (∃ (ch : Fin 64) (fine st : Nat) (tm : Time) (w : Bool) (rest : List (Time × Bool)) (s : State), ∃ l,
      (s.chanOf ch.val).tdc.edges = (tm, w) :: rest ∧ st = stampOf tm fine ∧ s.meas ch.val ≠ 3 ∧
      (s.chanOf ch.val).tdc.last = some l ∧ st < l + 4096 ∧ ((s.chanOf ch.val).tdc.takes st = true ∨ ∃ d ∈ s.stopsFor ch.val,
      (s.chanOf d).tdc.takes st = true)) ∧
    (∃ (ch : Fin 64) (fine st : Nat) (tm : Time) (w : Bool) (rest : List (Time × Bool)) (s : State),
      (s.chanOf ch.val).tdc.edges = (tm, w) :: rest ∧ st = stampOf tm fine ∧ (s.chanOf ch.val).tdc.takes st = false ∧
      (∀ d ∈ s.stopsFor ch.val, (s.chanOf d).tdc.takes st = false)) ∧
    (∃ (ch : Fin 64) (fine st : Nat) (tm : Time) (w : Bool) (rest : List (Time × Bool)) (s : State) (p : Nat) (v : Bool),
      (s.chanOf ch.val).tdc.edges = (tm, w) :: rest ∧ st = stampOf tm fine ∧ (∀ l, (s.chanOf ch.val).tdc.last = some l →
      l + 4096 ≤ st) ∧ (s.chanOf ch.val).tdc.takes st = true ∧ s.stopsFor ch.val = [] ∧ s.meas ch.val = 2 ∧
      (s.chanOf ch.val).tdc.start = some (p, v) ∧ st - p ≤ 68719476735) ∧
    (∃ (ch : Fin 64) (fine st : Nat) (tm : Time) (w : Bool) (rest : List (Time × Bool)) (s : State) (p : Nat) (v : Bool),
      (s.chanOf ch.val).tdc.edges = (tm, w) :: rest ∧ st = stampOf tm fine ∧ (∀ l, (s.chanOf ch.val).tdc.last = some l →
      l + 4096 ≤ st) ∧ (s.chanOf ch.val).tdc.takes st = true ∧ s.stopsFor ch.val = [] ∧ s.meas ch.val = 2 ∧
      (s.chanOf ch.val).tdc.start = some (p, v) ∧ 68719476735 < st - p) ∧
    (∃ (ch : Fin 64) (fine st : Nat) (tm : Time) (w : Bool) (rest : List (Time × Bool)) (s : State),
      (s.chanOf ch.val).tdc.edges = (tm, w) :: rest ∧ st = stampOf tm fine ∧ (∀ l, (s.chanOf ch.val).tdc.last = some l →
      l + 4096 ≤ st) ∧ (s.chanOf ch.val).tdc.takes st = true ∧ s.stopsFor ch.val = [] ∧ (s.meas ch.val = 1 ∨
      s.meas ch.val = 2) ∧ (s.chanOf ch.val).tdc.start = none) ∧
    (∃ (ch : Fin 64) (fine st : Nat) (tm : Time) (w : Bool) (rest : List (Time × Bool)) (s : State), ∃ f,
      (s.chanOf ch.val).tdc.edges = (tm, w) :: rest ∧ st = stampOf tm fine ∧ (∀ l, (s.chanOf ch.val).tdc.last = some l →
      l + 4096 ≤ st) ∧ (s.chanOf ch.val).tdc.takes st = true ∧ s.stopsFor ch.val = [] ∧ s.meas ch.val = 3 ∧
      st < s.gateEnd ch.val ∧ (s.chanOf ch.val).tdc.gFirst = some f) ∧
    (∃ (ch : Fin 64) (fine st : Nat) (tm : Time) (w : Bool) (rest : List (Time × Bool)) (s : State) (d p : Nat) (v : Bool),
      (s.chanOf ch.val).tdc.edges = (tm, w) :: rest ∧ st = stampOf tm fine ∧ (∀ l, (s.chanOf ch.val).tdc.last = some l →
      l + 4096 ≤ st) ∧ s.stopsFor ch.val = [d] ∧ d ≠ ch.val ∧ (s.chanOf ch.val).tdc.run = false ∧
      (s.chanOf d).tdc.start = some (p, v) ∧ p < st ∧ (s.chanOf d).tdc.takes st = true ∧ st - p ≤ 68719476735) ∧
    (∃ (ch : Fin 64) (s : State), (s.chanOf ch.val).tdc.run = true ∧ s.meas ch.val = 3 ∧
      (s.chanOf ch.val).tdc.before (s.gateEnd ch.val) = true ∧ s.gateEnd ch.val ≤ s.stampNow ch.val ∧
      (s.chanOf ch.val).tdc.edges.all (fun p => decide (s.gateEnd ch.val ≤ p.1 / 8388608000)) = true ∧
      (s.chanOf ch.val).tdc.gDead = true) ∧
    (∃ (ch : Fin 64) (s : State), ∃ f, (s.chanOf ch.val).tdc.run = true ∧ s.meas ch.val = 3 ∧
      (s.chanOf ch.val).tdc.before (s.gateEnd ch.val) = true ∧ s.gateEnd ch.val ≤ s.stampNow ch.val ∧
      (s.chanOf ch.val).tdc.edges.all (fun p => decide (s.gateEnd ch.val ≤ p.1 / 8388608000)) = true ∧
      (s.chanOf ch.val).tdc.gDead = false ∧ (s.chanOf ch.val).tdc.gFirst = some f ∧ 2 ≤ (s.chanOf ch.val).tdc.gStamps) ∧
    (∃ (ch : Fin 64) (s : State), (s.chanOf ch.val).tdc.run = true ∧ s.meas ch.val = 3 ∧
      (s.chanOf ch.val).tdc.before (s.gateEnd ch.val) = true ∧ s.gateEnd ch.val ≤ s.stampNow ch.val ∧
      (s.chanOf ch.val).tdc.edges.all (fun p => decide (s.gateEnd ch.val ≤ p.1 / 8388608000)) = true ∧
      (s.chanOf ch.val).tdc.gDead = false ∧ ((s.chanOf ch.val).tdc.gFirst = none ∨ (s.chanOf ch.val).tdc.gStamps < 2)) ∧
    (∃ (ch : Fin 64) (p : Nat) (w : Bool) (s : State), (s.chanOf ch.val).tdc.start = some (p, w) ∧ s.meas ch.val = 1 ∧
      p + 68719476735 < s.stampNow ch.val ∧
      (s.chanOf (s.tdcCfg ch.val).2.1).tdc.edges.all (fun q => decide (p + 68719476735 < q.1 / 8388608000)) = true) :=
  ⟨⟨0, 0, 8192000, Time.ofNs 2000, false, [], sEdgeAt 2 2000 (fun t => { t with last := some 8187905 }), 8187905,
      by decide +kernel⟩,
    ⟨0, 0, 8192000, Time.ofNs 2000, false, [], sEdgeAt 2 2000 (fun t => { t with t0 := 2001 }), by decide +kernel⟩,
    ⟨0, 0, 8192000, Time.ofNs 2000, false, [],
      sEdgeAt 2 2000 (fun t => { t with last := some 8187904, start := some (8187904, true) }), 8187904, true,
      by decide +kernel, by decide +kernel, forallSome (by decide +kernel), by decide +kernel, by decide +kernel,
      by decide +kernel, by decide +kernel, by decide +kernel⟩,
    ⟨0, 0, 81920000000, Time.ofNs 20000000, false, [],
      sEdgeAt 2 20000000 (fun t => { t with start := some (13200523264, true) }), 13200523264, true, by decide +kernel,
      by decide +kernel, forallSome (by decide +kernel), by decide +kernel, by decide +kernel, by decide +kernel,
      by decide +kernel, by decide +kernel⟩,
    ⟨0, 0, 8192000, Time.ofNs 2000, false, [], sEdgeAt 2 2000 id, by decide +kernel, by decide +kernel,
      forallSome (by decide +kernel), by decide +kernel, by decide +kernel, by decide +kernel, by decide +kernel⟩,
    ⟨0, 0, 8192000, Time.ofNs 2000, false, [], sEdgeAt 3 2000 (fun t => { t with gFirst := some 1000 }), 1000,
      by decide +kernel, by decide +kernel, forallSome (by decide +kernel), by decide +kernel, by decide +kernel,
      by decide +kernel, by decide +kernel, by decide +kernel⟩,
    ⟨0, 0, 8192000, Time.ofNs 2000, false, [], sStops, 1, 8191999, false, by decide +kernel, by decide +kernel,
      forallSome (by decide +kernel), by decide +kernel, by decide +kernel, by decide +kernel, by decide +kernel,
      by decide +kernel, by decide +kernel, by decide +kernel⟩,
    ⟨0, sGateEndAt 1 (fun t => { t with gDead := true }), by decide +kernel⟩,
    ⟨0, sGateEnd 2, 1000, by decide +kernel⟩,
    ⟨0, sGateEnd 1, by decide +kernel⟩,
    ⟨0, 1000, false, sTimeout, by decide +kernel⟩⟩

theorem wit_TdcControls :
    (∃ (n : Fin 16) (ch : Fin 64) (s : State), s.hostFree n ∧ s.ownsCh n.val ch.val = true ∧
      s.flag F.OCT_TDCCTL_RUN (chIx ch.val) = false) ∧
    (∃ (n : Fin 16) (ch : Fin 64) (s : State), s.hostFree n ∧ s.ownsCh n.val ch.val = true ∧
      s.flag F.OCT_TDCCTL_RUN (chIx ch.val) = true) ∧
    (∃ (ch : Fin 64) (n : Nat) (s : State), (s.chanOf ch.val).tdc.stopT = some n ∧ n ≤ Time.toNs (s.localNow (octOf ch.val)) ∧
      (s.chanOf ch.val).tdc.edges.all (fun p => decide (Time.ofNs n ≤ p.1)) = true) ∧
    (∃ (ch : Fin 64) (n : Nat) (s : State), (s.chanOf ch.val).tdc.stopT = some n ∧ Time.toNs (s.localNow (octOf ch.val)) < n) ∧
    (∃ (ch : Fin 64) (s : State), (s.chanOf ch.val).tdc.stopT = none ∧ (s.chanOf ch.val).tdc.run = false) ∧
    (∃ (ch : Fin 64) (s : State), s.flag F.OCT_TDCSTAT_DLLLOCK (chIx ch.val) = true) :=
  ⟨⟨3, 0, sTdc 1 0 id, by decide +kernel⟩,
    ⟨3, 0, sStart, by decide +kernel⟩,
    ⟨0, 1000, sStopAt 1000, by decide +kernel⟩,
    ⟨0, 1001, sStopAt 1001, by decide +kernel⟩,
    ⟨0, sTdc 1 0 id, by decide +kernel⟩,
    ⟨0, sStart, by decide +kernel⟩⟩

theorem wit_BeatsCommitAndJudge :
    (∃ (x : Fin 16) (s : State), s.hostFree x ∧ s.flag F.SITE_BCTL_COMMIT x.val = false) ∧
    (∃ (x : Fin 16) (s : State), s.hostFree x ∧ s.flag F.SITE_BCTL_COMMIT x.val = true) ∧
    (∃ (x : Fin 16) (s : State), s.flag F.SITE_BCTL_COMMIT x.val = true ∧ s.beatsRun x.val = true ∧
      (s.siteOf x.val).frozen = none) ∧
    (∃ (x : Fin 16) (s : State) (f : Nat), s.beatsRun x.val = true ∧ f = ((s.sched x.val).f0 + 1) % 4294967296) ∧
    (∃ (x : Fin 16) (s : State), s.beatsRun x.val = false ∧ (s.safOf x.val).startX x.val = none) ∧
    (∃ (x : Fin 16) (s : State), ∃ f, s.beatsRun x.val = false ∧ (s.safOf x.val).startX x.val = some f) ∧
    (∃ (ch : Fin 64) (s : State) (p : Nat × Nat × Nat × Time),
      best (fun (a b : Nat × Nat × Nat × Time) => decide (a.2.2.2 < b.2.2.2)) (s.chanOf ch.val).pinDue = some p) ∧
    (∃ (ch : Fin 64) (s : State), (s.chanOf ch.val).pinDue = []) ∧
    (∃ (x : Fin 16) (u : Fin 8) (s : State), (∀ r ∈ (s.siteOf x.val).sgRun, r.2.1 ≠ u.val)) ∧
    (∃ (x : Fin 16) (u : Fin 8) (s : State) (r : Nat × Nat × List Nat) (rest : List (Nat × Nat × List Nat)),
      takeFirst (fun (p : Nat × Nat × List Nat) => p.2.1 == u.val) (s.siteOf x.val).sgRun = some (r, rest)) :=
  ⟨⟨3, sBeat [] id, by decide +kernel⟩,
    ⟨3, sCommit, by decide +kernel⟩,
    ⟨3, sCommit, by decide +kernel⟩,
    ⟨3, sFrozen, 8, by decide +kernel⟩,
    ⟨3, base [], by decide +kernel⟩,
    ⟨3, sStarts, 5, by decide +kernel⟩,
    ⟨0, sPin, (7, 0, 1, Time.ofNs 2000), by decide +kernel⟩,
    ⟨0, base [], by decide +kernel⟩,
    ⟨3, 0, base [], by decide +kernel⟩,
    ⟨3, 0, sigOk, (6, 0, sgWords sig0.2), [], by decide +kernel⟩⟩

theorem wit_ItemsThroughDispatcher :
    (∃ (x : Fin 16) (src : Fin 3) (chip : Sender) (desc : List Nat) (s : State) (i : Item), s.present x.val = true ∧
      (src.val = 1 → chip.epoch = s.epochNow x.val) ∧ s.entryFree x.val = true ∧ s.postWaits x.val = false ∧ (src.val ≠ 0 →
      (s.siteOf x.val).fabItems = []) ∧ i = s.newItem x.val src.val (descWords desc) ∧ s.rejectReason i = 0 ∧
      s.flag F.DSP_SCTL_STOP x.val = false) ∧
    (∃ (x : Fin 16) (src : Fin 3) (chip : Sender) (desc : List Nat) (s : State) (i : Item), s.present x.val = true ∧
      (src.val = 1 → chip.epoch = s.epochNow x.val) ∧ s.entryFree x.val = true ∧ s.postWaits x.val = false ∧ (src.val ≠ 0 →
      (s.siteOf x.val).fabItems = []) ∧ i = s.newItem x.val src.val (descWords desc) ∧ s.rejectReason i = 0 ∧
      s.flag F.DSP_SCTL_STOP x.val = true) ∧
    (∃ (x : Fin 16) (src : Fin 3) (chip : Sender) (desc : List Nat) (s : State) (i : Item), s.present x.val = true ∧
      (src.val = 1 → chip.epoch = s.epochNow x.val) ∧ s.entryFree x.val = true ∧ s.postWaits x.val = false ∧ (src.val ≠ 0 →
      (s.siteOf x.val).fabItems = []) ∧ i = s.newItem x.val src.val (descWords desc) ∧ s.rejectReason i ≠ 0) ∧
    (∃ (x : Fin 16) (chip : Sender) (s : State), s.present x.val = true ∧ chip.epoch ≠ s.epochNow x.val) ∧
    (∃ (x : Fin 16) (chip : Sender) (s : State), s.present x.val = true ∧ (s.entryFree x.val = false ∨
      s.postWaits x.val = true) ∧ chip.epoch = s.epochNow x.val) ∧
    (∃ (e : Fin 16) (s : State), ∃ i,
      best (if (s.quotaSite e.val).isSome then earlier else earlierLent) (s.ready.filter (fun i => s.candidate e.val i)) = some i) ∧
    (∃ (e : Fin 16) (s : State),
      best (if (s.quotaSite e.val).isSome then earlier else earlierLent) (s.ready.filter (fun i => s.candidate e.val i)) = none) ∧
    (∃ (e : Fin 16) (s : State) (i : Item), s.ready.find? (fun j => j.bound == some e.val) = some i ∧
      (s.engOf e.val).item = none ∧ (s.engOf e.val).suspending = false ∧ (s.engOf e.val).restoring = false ∧
      (s.engOf e.val).training = false ∧ s.engState e.val = 0 ∧ s.siteReady i.site = true) ∧
    (∃ (x : Fin 16) (s : State) (r : Rec) (rest : List Rec), s.ringRoom x.val = true ∧ (s.siteOf x.val).nextRec = some (r,
      rest)) ∧
    (∃ (x : Fin 16) (s : State), (s.ringRoom x.val = false ∨ (s.siteOf x.val).nextRec = none)) ∧
    (∃ (x : Fin 16) (fn : Fn) (s : State), s.noOrders x.val ∧ (fn = .pf0 ∨ fn = .vf x ∧ s.vfLive fn = true)) ∧
    (∃ (x : Fin 16) (s : State) (o : Order), (s.siteOf x.val).orders = [o] ∧ o.ns = s.nowNs ∧ o.rank = 0 ∧ o.src = 2 ∧
      o.addr ≠ R.DSP_SCTL.addr x.val) ∧
    (∃ (x : Fin 16) (s : State), s.hostFree x) :=
  ⟨⟨3, 0, ⟨0, 0⟩, desc0, sDsp [] [], item0, by decide +kernel⟩,
    ⟨3, 0, ⟨0, 0⟩, desc0, sDsp [(F.DSP_SCTL_STOP, 3, 1)] [], item0, by decide +kernel⟩,
    ⟨3, 0, ⟨0, 0⟩, List.replicate 12 0, sDsp [] [], (sDsp [] []).newItem 3 0 (List.replicate 12 0), by decide +kernel⟩,
    ⟨3, ⟨5, 1⟩, sDsp [] [], by decide +kernel⟩,
    ⟨3, ⟨5, 0⟩, sDsp [(F.DSP_SQ_QUSED, 3, 8)] [], by decide +kernel⟩,
    ⟨0, sDsp [] [item0], item0, by decide +kernel⟩,
    ⟨0, sDsp [] [], by decide +kernel⟩,
    ⟨0, sDsp [] [{ item0 with bound := some 0 }], { item0 with bound := some 0 }, by decide +kernel⟩,
    ⟨3, sRec 1, rec0, [], by decide +kernel⟩,
    ⟨3, sRec 0, by decide +kernel⟩,
    ⟨3, .vf 3, base [], by decide +kernel⟩,
    ⟨3, sOrder, order0, by decide +kernel⟩,
    ⟨3, base [], by decide +kernel⟩⟩

theorem wit_SaffronHost :
    (∃ (x : Fin 16) (s : State), s.hostFree x ∧ s.isLeader x.val = true ∧ (s.safOf x.val).opn = none) ∧
    (∃ (x : Fin 16) (s : State), s.hostFree x ∧ s.isLeader x.val = false) ∧
    (∃ (x : Fin 16) (s : State), s.hostFree x ∧ s.isLeader x.val = true ∧ (s.safOf x.val).opn.isSome = true) ∧
    (∃ (x : Fin 16) (s : State), ∃ b, s.hostFree x ∧ (s.safOf x.val).opn = some b ∧
      s.stageable x.val (s.getF F.SAF_STGA_ADDR x.val) = true ∧ b.writes.length < 1024) ∧
    (∃ (x : Fin 16) (s : State), s.hostFree x ∧ ((s.safOf x.val).opn = none ∨
      s.stageable x.val (s.getF F.SAF_STGA_ADDR x.val) = false ∨ (∀ b, (s.safOf x.val).opn = some b →
      1024 ≤ b.writes.length))) ∧
    (∃ (x : Fin 16) (s : State), s.hostFree x ∧ (s.isLeader x.val = false ∨ (s.safOf x.val).opn = none)) ∧
    (∃ (x : Fin 16) (s : State) (b : SafBuf), ∃ f, s.hostFree x ∧ s.isLeader x.val = true ∧ (s.safOf x.val).opn = some b ∧
      (∀ n old, (s.safOf x.val).openRej = some (n, old) → n ≠ s.nowNs) ∧ (s.safOf x.val).run = none ∧
      s.safLapsing x.val = false ∧ s.voteOn x.val (s.leaveOpen x.val b) = 0 ∧
      s.safTarget x.val (s.getF F.SAF_TGT_F x.val) (s.leaveOpen x.val b) = some f ∧ s.lOver x.val f b = true ∧
      s.lOver x.val ((f + 1) % 4294967296) b = false ∧ (∀ c ∈ s.peersOf x.val, (s.peer c).isSome = true) ∧
      (∀ c ∈ s.members x.val, c = s.chipNo)) ∧
    (∃ (x : Fin 16) (s : State) (b : SafBuf), ∃ f, s.hostFree x ∧ s.isLeader x.val = true ∧ (s.safOf x.val).opn = some b ∧
      (∀ n old, (s.safOf x.val).openRej = some (n, old) → n ≠ s.nowNs) ∧ (s.safOf x.val).run = none ∧
      s.safLapsing x.val = false ∧ s.voteOn x.val (s.leaveOpen x.val b) = 0 ∧
      s.safTarget x.val (s.getF F.SAF_TGT_F x.val) (s.leaveOpen x.val b) = some f ∧ s.lOver x.val f b = false ∧
      (∀ c ∈ s.peersOf x.val, (s.peer c).isSome = true)) ∧
    (∃ (x : Fin 16) (s : State) (b : SafBuf), s.hostFree x ∧ s.isLeader x.val = true ∧ (s.safOf x.val).opn = some b ∧
      (∀ n old, (s.safOf x.val).openRej = some (n, old) → n ≠ s.nowNs) ∧ (s.safOf x.val).run = none ∧
      s.safLapsing x.val = false ∧ s.safTarget x.val (s.getF F.SAF_TGT_F x.val) (s.leaveOpen x.val b) = none) ∧
    (∃ (x : Fin 16) (s : State) (b : SafBuf), s.hostFree x ∧ s.isLeader x.val = true ∧ (s.safOf x.val).opn = some b ∧
      (∀ n old, (s.safOf x.val).openRej = some (n, old) → n ≠ s.nowNs) ∧ ((s.safOf x.val).run.isSome = true ∨
      s.safLapsing x.val = true) ∧ (s.safOf x.val).que = none) ∧
    (∃ (x : Fin 16) (s : State) (b : SafBuf), ∃ q, s.hostFree x ∧ s.isLeader x.val = true ∧ (s.safOf x.val).opn = some b ∧
      (∀ n old, (s.safOf x.val).openRej = some (n, old) → n ≠ s.nowNs) ∧ ((s.safOf x.val).run.isSome = true ∨
      s.safLapsing x.val = true) ∧ (s.safOf x.val).que = some q) ∧
    (∃ (x : Fin 16) (txid : Nat) (s : State) (b : SafBuf), s.hostFree x ∧
      (s.safOf x.val).dbt.find? (fun q => q.txid == txid % 65536) = some b ∧ b.resolved = false) :=
  ⟨⟨3, base [], by decide +kernel⟩,
    ⟨4, base [], by decide +kernel⟩,
    ⟨3, sStage 1, by decide +kernel⟩,
    ⟨3, sStage 0x282300, buf 9, by decide +kernel⟩,
    ⟨3, sStage 1, by decide +kernel, .inr (.inl (by decide +kernel))⟩,
    ⟨4, base [], by decide +kernel⟩,
    ⟨5, sPrepAt 1010, buf 9, 4, by decide +kernel, by decide +kernel, by decide +kernel, forallSome2 (by decide +kernel),
      by decide +kernel, by decide +kernel, by decide +kernel, by decide +kernel, by decide +kernel, by decide +kernel,
      by decide +kernel, by decide +kernel⟩,
    ⟨5, sPrepAt 20000, buf 9, 4, by decide +kernel, by decide +kernel, by decide +kernel, forallSome2 (by decide +kernel),
      by decide +kernel, by decide +kernel, by decide +kernel, by decide +kernel, by decide +kernel, by decide +kernel⟩,
    ⟨5, sPrepLate, buf 9, by decide +kernel, by decide +kernel, by decide +kernel, forallSome2 (by decide +kernel),
      by decide +kernel, by decide +kernel, by decide +kernel⟩,
    ⟨5, sQueue, buf 9, by decide +kernel, by decide +kernel, by decide +kernel, forallSome2 (by decide +kernel),
      by decide +kernel, by decide +kernel⟩,
    ⟨5, sQueue2, buf 9, buf 7, by decide +kernel, by decide +kernel, by decide +kernel, forallSome2 (by decide +kernel),
      by decide +kernel, by decide +kernel⟩,
    ⟨3, 9, sDoubt 3, buf 9, by decide +kernel⟩⟩

theorem wit_SaffronMember :
    (∃ (x : Fin 16) (epoch : Nat) (s : State), s.memberOf x epoch ∧ (s.safOf x.val).opn = none) ∧
    (∃ (x : Fin 16) (epoch : Nat) (s : State), ∃ b, s.memberOf x epoch ∧ (s.safOf x.val).opn = some b) ∧
    (∃ (x : Fin 16) (epoch txid : Nat) (s : State), s.memberOf x epoch ∧ s.prepBuf x.val txid = none) ∧
    (∃ (x : Fin 16) (epoch txid : Nat) (s : State), ∃ b, s.memberOf x epoch ∧ s.prepBuf x.val txid = some b ∧
      (s.safOf x.val).run = none) ∧
    (∃ (x : Fin 16) (epoch txid : Nat) (s : State), ∃ b r, s.memberOf x epoch ∧ s.prepBuf x.val txid = some b ∧
      (s.safOf x.val).run = some r ∧ r.prepared = true) ∧
    (∃ (x : Fin 16) (epoch txid : Nat) (s : State), ∃ b r, s.memberOf x epoch ∧ s.prepBuf x.val txid = some b ∧
      (s.safOf x.val).run = some r ∧ r.prepared = false) ∧
    (∃ (x : Fin 16) (epoch txid : Nat) (s : State) (b : SafBuf), s.memberOf x epoch ∧ (s.safOf x.val).begunOf txid = some b ∧
      b.prepared = true ∧ b.held = false) ∧
    (∃ (x : Fin 16) (epoch txid : Nat) (s : State) (b : SafBuf), s.memberOf x epoch ∧ (s.safOf x.val).begunOf txid = some b ∧
      (b.prepared = false ∨ b.held = true)) ∧
    (∃ (x : Fin 16) (epoch txid : Nat) (s : State) (b : SafBuf), s.memberOf x epoch ∧ (∀ q ∈ (s.safOf x.val).dbt,
      q.txid ≠ txid) ∧ (s.safOf x.val).buf txid = some b ∧ b.held = false) ∧
    (∃ (x : Fin 16) (epoch txid : Nat) (s : State) (b : SafBuf), s.memberOf x epoch ∧ (∀ q ∈ (s.safOf x.val).dbt,
      q.txid ≠ txid) ∧ (s.safOf x.val).buf txid = some b ∧ b.held = true) ∧
    (∃ (x : Fin 16) (s : State), ∃ b, s.isLeader x.val = false ∧
      (s.safOf x.val).begun.find? (fun b => s.expired x.val b) = some b ∧ b.prepared = true) ∧
    (∃ (x : Fin 16) (s : State), ∃ b, s.isLeader x.val = false ∧
      (s.safOf x.val).begun.find? (fun b => s.expired x.val b) = some b ∧ b.prepared = false) ∧
    (∃ (x : Fin 16) (s : State), ∃ b, s.isLeader x.val = false ∧ (s.safOf x.val).begun = [] ∧ ((s.safOf x.val).que = some b ∨
      (s.safOf x.val).que = none ∧ (s.safOf x.val).opn = some b)) ∧
    (∃ (x : Fin 16) (s : State), (s.isLeader x.val = true ∨ (s.safOf x.val).begun ≠ [] ∧ (∀ b ∈ (s.safOf x.val).begun,
      b.held = true ∨ (∃ n, s.deadline x.val b = some n ∧ (s.nowNs : Int) < n) ∨ s.settledNow x.val b = true))) ∧
    (∃ (x : Fin 16) (s : State), (s.peer (s.leader x.val)).isSome = true) ∧
    (∃ (x : Fin 16) (s : State), s.peer (s.leader x.val) = none) ∧
    (∃ (x : Fin 16) (epoch txid : Nat) (s : State), ∃ b, s.memberOf x epoch ∧
      (s.safOf x.val).dbt.find? (fun q => q.txid == txid) = some b ∧ b.resolved = false) :=
  ⟨⟨4, 6, sMemRun true, by decide +kernel⟩,
    ⟨4, 6, sMemOpen, buf 9, by decide +kernel⟩,
    ⟨4, 6, 10, sMemOpen, by decide +kernel⟩,
    ⟨4, 6, 9, sMemOpen, buf 9, by decide +kernel⟩,
    ⟨4, 6, 9, sMemBoth, buf 9, { buf 8 with prepared := true }, by decide +kernel⟩,
    ⟨4, 6, 9, sMemUnprep, buf 9, buf 8, by decide +kernel⟩,
    ⟨4, 6, 9, sMemRun true, { buf 9 with prepared := true }, by decide +kernel⟩,
    ⟨4, 6, 9, sMemRun false, { buf 9 with prepared := false }, by decide +kernel⟩,
    ⟨4, 6, 9, sMemOpen, buf 9, by decide +kernel⟩,
    ⟨4, 6, 9, sMemHeld, { buf 9 with prepared := true, held := true }, by decide +kernel⟩,
    ⟨4, sMemRun true, { buf 9 with prepared := true }, by decide +kernel⟩,
    ⟨4, sMemRun false, { buf 9 with prepared := false }, by decide +kernel⟩,
    ⟨4, sMemOpen, buf 9, by decide +kernel⟩,
    ⟨4, sMemHeld, .inr ⟨by decide +kernel, fun b hb => .inl ((by decide +kernel : ∀ b ∈ (sMemHeld.safOf 4).begun,
      b.held = true) b hb)⟩⟩,
    ⟨4, sMemDbt, by decide +kernel⟩,
    ⟨4, base [], by decide +kernel⟩,
    ⟨4, 6, 9, sMemDbt, buf 9, by decide +kernel⟩⟩

theorem wit_SaffronLeader :
    (∃ (x : Fin 16) (epoch txid chip reason : Nat) (s : State) (l : SafLead), s.leaderOf x epoch chip ∧
      (s.safOf x.val).lead = some l ∧ l.decided = false ∧ l.txid = txid ∧ (s.safOf x.val).leadQue = none ∧
      s.lPast x.val l = false ∧ reason % 8 ≠ 0) ∧
    (∃ (x : Fin 16) (epoch txid chip reason : Nat) (s : State) (l : SafLead), ∃ b, s.leaderOf x epoch chip ∧
      (s.safOf x.val).lead = some l ∧ l.decided = false ∧ l.txid = txid ∧ (s.safOf x.val).leadQue = none ∧
      s.lPast x.val l = false ∧ reason % 8 = 0 ∧ (s.safOf x.val).run = some b ∧ (∀ c ∈ s.members x.val, c = chip ∨
      c ∈ l.yes) ∧ (l.deferred = false ∨ l.ns ≠ s.nowNs ∨ s.lOver x.val (beatBack l.beat) b = true)) ∧
    (∃ (x : Fin 16) (epoch txid chip reason : Nat) (s : State) (l : SafLead), ∃ b, s.leaderOf x epoch chip ∧
      (s.safOf x.val).lead = some l ∧ l.decided = false ∧ l.txid = txid ∧ (s.safOf x.val).leadQue = none ∧
      s.lPast x.val l = false ∧ reason % 8 = 0 ∧ (s.safOf x.val).run = some b ∧ (∀ c ∈ s.members x.val, c = chip ∨
      c ∈ l.yes) ∧ l.deferred = true ∧ l.ns = s.nowNs ∧ s.lOver x.val (beatBack l.beat) b = false) ∧
    (∃ (x : Fin 16) (epoch txid chip reason : Nat) (s : State) (l : SafLead), ∃ b, s.leaderOf x epoch chip ∧
      (s.safOf x.val).lead = some l ∧ l.decided = false ∧ l.txid = txid ∧ (s.safOf x.val).leadQue = none ∧
      s.lPast x.val l = false ∧ reason % 8 = 0 ∧ (s.safOf x.val).run = some b ∧ (∃ c ∈ s.members x.val, c ≠ chip ∧ c ∉ l.yes)) ∧
    (∃ (x : Fin 16) (epoch txid chip : Nat) (s : State) (l : SafLead) (b : SafBuf), s.leaderOf x epoch chip ∧
      (s.safOf x.val).lead = some l ∧ l.decided = false ∧ l.txid = txid ∧ (s.safOf x.val).run = some b ∧
      s.lOver x.val l.beat b = true ∧ l.deferred = true ∧ (s.safOf x.val).leadQue = none) ∧
    (∃ (x : Fin 16) (epoch txid chip reason : Nat) (s : State) (l : SafLead) (b : SafBuf), s.leaderOf x epoch chip ∧
      (s.safOf x.val).lead = some l ∧ l.decided = false ∧ l.txid = txid ∧ (s.safOf x.val).run = some b ∧
      s.lOver x.val l.beat b = true ∧ l.deferred = false ∧ s.lOver x.val ((l.beat + 1) % 4294967296) b = false ∧
      reason % 8 = 0 ∧ l.beat < 4294967296 ∧ (∀ c ∈ s.members x.val, c = chip ∨ c ∈ l.yes)) ∧
    (∃ (x : Fin 16) (s : State) (l : SafLead), (s.safOf x.val).lead = some l ∧ l.decided = true) ∧
    (∃ (x : Fin 16) (s : State) (l : SafLead), ∃ b n, (s.safOf x.val).lead = some l ∧ (s.safOf x.val).run = some b ∧
      s.lNs x.val l.beat b = some n ∧ (s.nowNs : Int) < n) ∧
    (∃ (x : Fin 16) (s : State) (l : SafLead), (s.safOf x.val).lead = some l ∧ (∀ b n, (s.safOf x.val).run = some b →
      s.lNs x.val l.beat b = some n → n ≤ (s.nowNs : Int)) ∧ l.decided = false ∧ l.deferred = false) ∧
    (∃ (x : Fin 16) (s : State) (l : SafLead), (s.safOf x.val).lead = some l ∧ (∀ b n, (s.safOf x.val).run = some b →
      s.lNs x.val l.beat b = some n → n ≤ (s.nowNs : Int)) ∧ l.decided = false ∧ l.deferred = true) ∧
    (∃ (x : Fin 16) (epoch txid chip : Nat) (s : State), s.leaderOf x epoch chip ∧
      (s.safOf x.val).last.find? (fun p => p.1 == txid) = none) ∧
    (∃ (x : Fin 16) (epoch txid chip : Nat) (s : State), ∃ p, s.leaderOf x epoch chip ∧
      (s.safOf x.val).last.find? (fun p => p.1 == txid) = some p) ∧
    (∃ (x : Fin 16) (txid : Nat) (prep : Bool) (s : State), ((s.safOf x.val).lead = none ∨ prep = false ∨ (∀ l,
      (s.safOf x.val).lead = some l → l.txid ≠ txid))) ∧
    (∃ (x : Fin 16) (txid : Nat) (s : State), ∃ l, (s.safOf x.val).lead = some l ∧ l.txid = txid ∧ l.decided = false ∧
      (s.safOf x.val).leadQue = none ∧ s.lPast x.val l = false) ∧
    (∃ (x : Fin 16) (epoch : Nat) (s : State), s.present x.val = true ∧ epoch ≠ s.getF F.FAB_SEPOCH_EPOCH x.val) :=
  ⟨⟨3, 6, 9, 5, 1, sLead false, lead0, by decide +kernel⟩,
    ⟨3, 6, 9, 5, 0, sLead false, lead0, { buf 9 with prepared := true }, by decide +kernel⟩,
    ⟨3, 6, 9, 5, 0, sLeadIs { lead0 with deferred := true, ns := 1000 }, { lead0 with deferred := true, ns := 1000 },
      { buf 9 with prepared := true }, by decide +kernel⟩,
    ⟨3, 6, 9, 5, 0, sLeadIs { lead0 with yes := [] }, { lead0 with yes := [] }, { buf 9 with prepared := true },
      by decide +kernel⟩,
    ⟨3, 6, 9, 5, sLeadAt 1010 { lead0 with deferred := true }, { lead0 with deferred := true },
      { buf 9 with prepared := true }, by decide +kernel⟩,
    ⟨3, 6, 9, 5, 0, sLeadAt 1010 lead0, lead0, { buf 9 with prepared := true }, by decide +kernel⟩,
    ⟨3, sLeadIs { lead0 with decided := true }, { lead0 with decided := true }, by decide +kernel⟩,
    ⟨3, sLeadAt 20000 lead0, lead0, { buf 9 with prepared := true },
      (((sLeadAt 20000 lead0).lNs 3 20 { buf 9 with prepared := true }).getD 0), by decide +kernel⟩,
    ⟨3, sLeadAt 1010 lead0, lead0, by decide +kernel, forallChain (by decide +kernel), by decide +kernel, by decide +kernel⟩,
    ⟨3, sLeadAt 1010 { lead0 with deferred := true }, { lead0 with deferred := true }, by decide +kernel,
      forallChain (by decide +kernel), by decide +kernel, by decide +kernel⟩,
    ⟨3, 6, 8, 5, sOutc, by decide +kernel⟩,
    ⟨3, 6, 9, 5, sOutc, (9, true, 20), by decide +kernel⟩,
    ⟨3, 9, true, sOutc, .inl (by decide +kernel)⟩,
    ⟨3, 9, sLead false, lead0, by decide +kernel⟩,
    ⟨4, 5, sMemOpen, by decide +kernel⟩⟩

theorem wit_FlashWords :
    (∃ (p : Fin 12) (c : Copies) (s a : State) (w v x : Nat), s.portState p.val = 2 ∧ s.blockLost p.val = false ∧
      copiesVote c = some w ∧ v = w % 4294967296 ∧ a = s.forwardCopies p.val c ∧ a.siteBySsn (bits v 15 3) = some x ∧
      a.epochNow x % 16 = bits v 26 23 ∧ bits v 2 0 = 0) ∧
    (∃ (p : Fin 12) (c : Copies) (s a : State) (w v x : Nat), s.portState p.val = 2 ∧ s.blockLost p.val = false ∧
      copiesVote c = some w ∧ v = w % 4294967296 ∧ a = s.forwardCopies p.val c ∧ a.siteBySsn (bits v 15 3) = some x ∧
      a.epochNow x % 16 = bits v 26 23 ∧ bits v 2 0 = 1) ∧
    (∃ (p : Fin 12) (c : Copies) (s a : State) (w v x : Nat), s.portState p.val = 2 ∧ s.blockLost p.val = false ∧
      copiesVote c = some w ∧ v = w % 4294967296 ∧ a = s.forwardCopies p.val c ∧ a.siteBySsn (bits v 15 3) = some x ∧
      a.epochNow x % 16 = bits v 26 23 ∧ bits v 2 0 = 2) ∧
    (∃ (p : Fin 12) (c : Copies) (s a : State) (w v x : Nat), s.portState p.val = 2 ∧ s.blockLost p.val = false ∧
      copiesVote c = some w ∧ v = w % 4294967296 ∧ a = s.forwardCopies p.val c ∧ a.siteBySsn (bits v 15 3) = some x ∧
      a.epochNow x % 16 = bits v 26 23 ∧ bits v 2 0 = 3) ∧
    (∃ (p : Fin 12) (c : Copies) (s a : State) (w v x : Nat), s.portState p.val = 2 ∧ s.blockLost p.val = false ∧
      copiesVote c = some w ∧ v = w % 4294967296 ∧ a = s.forwardCopies p.val c ∧ a.siteBySsn (bits v 15 3) = some x ∧
      a.epochNow x % 16 ≠ bits v 26 23 ∧ bits v 2 0 = 0) ∧
    (∃ (p : Fin 12) (c : Copies) (s a : State) (w v x : Nat), s.portState p.val = 2 ∧ s.blockLost p.val = false ∧
      copiesVote c = some w ∧ v = w % 4294967296 ∧ a = s.forwardCopies p.val c ∧ a.siteBySsn (bits v 15 3) = some x ∧
      a.epochNow x % 16 ≠ bits v 26 23 ∧ bits v 2 0 = 1) ∧
    (∃ (p : Fin 12) (c : Copies) (s a : State) (w v x : Nat), s.portState p.val = 2 ∧ s.blockLost p.val = false ∧
      copiesVote c = some w ∧ v = w % 4294967296 ∧ a = s.forwardCopies p.val c ∧ a.siteBySsn (bits v 15 3) = some x ∧
      a.epochNow x % 16 ≠ bits v 26 23 ∧ bits v 2 0 = 2) ∧
    (∃ (p : Fin 12) (c : Copies) (s a : State) (w v x : Nat), s.portState p.val = 2 ∧ s.blockLost p.val = false ∧
      copiesVote c = some w ∧ v = w % 4294967296 ∧ a = s.forwardCopies p.val c ∧ a.siteBySsn (bits v 15 3) = some x ∧
      a.epochNow x % 16 ≠ bits v 26 23 ∧ bits v 2 0 = 3) ∧
    (∃ (p : Fin 12) (c : Copies) (s a : State), s.portState p.val = 2 ∧ s.blockLost p.val = false ∧ copiesVote c = none ∧
      a = (s.forwardCopies p.val c).incF F.FAB_PFLERR_CNT p.val) ∧
    (∃ (p : Fin 12) (s : State), (s.portState p.val ≠ 2 ∨ s.blockLost p.val = true)) ∧
    (∃ (p : Fin 12) (c : Copies) (s a : State) (w v : Nat), s.portState p.val = 2 ∧ s.blockLost p.val = false ∧
      copiesVote c = some w ∧ v = w % 4294967296 ∧ a = s.forwardCopies p.val c ∧ bits v 2 0 = 4 ∧ bits v 19 16 ≠ 15) ∧
    (∃ (p : Fin 12) (c : Copies) (s a : State) (w v : Nat), s.portState p.val = 2 ∧ s.blockLost p.val = false ∧
      copiesVote c = some w ∧ v = w % 4294967296 ∧ a = s.forwardCopies p.val c ∧ bits v 2 0 = 4 ∧ bits v 19 16 = 15 ∧
      a.getF F.FAB_SLPSTAT_STATE 0 = 1) ∧
    (∃ (p : Fin 12) (c : Copies) (s a : State) (w v : Nat), s.portState p.val = 2 ∧ s.blockLost p.val = false ∧
      copiesVote c = some w ∧ v = w % 4294967296 ∧ a = s.forwardCopies p.val c ∧ 5 ≤ bits v 2 0) ∧
    (∃ (code c : Nat) (s : State), c = code % 16 ∧ 1 ≤ c ∧ c < 15 ∧ s.treeAsleep = false) ∧
    (∃ (code c : Nat), c = code % 16 ∧ (c = 0 ∨ c = 15)) :=
  ⟨⟨1, copies (flashWord 0 35 7 0 0), sPort [] id, fwd (flashWord 0 35 7 0 0), flashWord 0 35 7 0 0, flashWord 0 35 7 0 0, 3,
      by decide +kernel⟩,
    ⟨1, copies (flashWord 1 35 0 5 0), sPort [] id, fwd (flashWord 1 35 0 5 0), flashWord 1 35 0 5 0, flashWord 1 35 0 5 0, 3,
      by decide +kernel⟩,
    ⟨1, copies (flashWord 2 35 0 0 0), sPort [] id, fwd (flashWord 2 35 0 0 0), flashWord 2 35 0 0 0, flashWord 2 35 0 0 0, 3,
      by decide +kernel⟩,
    ⟨1, copies (flashWord 3 35 0 0 0), sPort [] id, fwd (flashWord 3 35 0 0 0), flashWord 3 35 0 0 0, flashWord 3 35 0 0 0, 3,
      by decide +kernel⟩,
    ⟨1, copies (flashWord 0 35 7 0 1), sPort [] id, fwd (flashWord 0 35 7 0 1), flashWord 0 35 7 0 1, flashWord 0 35 7 0 1, 3,
      by decide +kernel⟩,
    ⟨1, copies (flashWord 1 35 0 5 1), sPort [] id, fwd (flashWord 1 35 0 5 1), flashWord 1 35 0 5 1, flashWord 1 35 0 5 1, 3,
      by decide +kernel⟩,
    ⟨1, copies (flashWord 2 35 0 0 1), sPort [] id, fwd (flashWord 2 35 0 0 1), flashWord 2 35 0 0 1, flashWord 2 35 0 0 1, 3,
      by decide +kernel⟩,
    ⟨1, copies (flashWord 3 35 0 0 1), sPort [] id, fwd (flashWord 3 35 0 0 1), flashWord 3 35 0 0 1, flashWord 3 35 0 0 1, 3,
      by decide +kernel⟩,
    ⟨1, ⟨some 1, none, some 2⟩, sPort [] id, ((sPort [] id).forwardCopies 1 ⟨some 1, none, some 2⟩).incF F.FAB_PFLERR_CNT 1,
      by decide +kernel⟩,
    ⟨1, base [], by decide +kernel⟩,
    ⟨1, copies (flashWord 4 0 3 0 0), sPort [] id, fwd (flashWord 4 0 3 0 0), flashWord 4 0 3 0 0, flashWord 4 0 3 0 0,
      by decide +kernel⟩,
    ⟨1, copies (flashWord 4 0 15 0 0), sSlp, sSlp.forwardCopies 1 (copies (flashWord 4 0 15 0 0)), flashWord 4 0 15 0 0,
      flashWord 4 0 15 0 0, by decide +kernel⟩,
    ⟨1, copies (flashWord 5 0 0 0 0), sPort [] id, fwd (flashWord 5 0 0 0 0), flashWord 5 0 0 0 0, flashWord 5 0 0 0 0,
      by decide +kernel⟩,
    ⟨14, 14, sPort [] id, by decide +kernel⟩,
    ⟨15, 15, by decide +kernel⟩⟩

theorem wit_CellsAndLinks :
    (∃ (p : Fin 12) (w : List Nat) (s : State), s.portState p.val = 2 ∧ s.blockLost p.val = false ∧ cellOk w = true ∧
      bits (w.getD 2 0) 11 0 = (s.portOf p.val).rxSeq ∧ bits (w.getD 0 0) 16 8 = s.chipNo ∧ bits (w.getD 0 0) 1 0 = 2) ∧
    (∃ (p : Fin 12) (w : List Nat) (s : State), s.portState p.val = 2 ∧ s.blockLost p.val = false ∧ cellOk w = true ∧
      bits (w.getD 2 0) 11 0 = (s.portOf p.val).rxSeq ∧ bits (w.getD 0 0) 16 8 = s.chipNo ∧ bits (w.getD 0 0) 1 0 = 0 ∧
      s.ahead w = some 0 ∧ s.fab.early = []) ∧
    (∃ (p : Fin 12) (w : List Nat) (s : State), ∃ x, s.portState p.val = 2 ∧ s.blockLost p.val = false ∧ cellOk w = true ∧
      bits (w.getD 2 0) 11 0 = (s.portOf p.val).rxSeq ∧ bits (w.getD 0 0) 16 8 = s.chipNo ∧ bits (w.getD 0 0) 1 0 = 1 ∧
      s.siteBySsn (bits (w.getD 1 0) 12 0) = some x ∧ s.ahead w = some 0 ∧ s.fab.early = [] ∧
      s.epochNow x = bits (w.getD 1 0) 31 16) ∧
    (∃ (p : Fin 12) (w : List Nat) (s : State), ∃ x, s.portState p.val = 2 ∧ s.blockLost p.val = false ∧ cellOk w = true ∧
      bits (w.getD 2 0) 11 0 = (s.portOf p.val).rxSeq ∧ bits (w.getD 0 0) 16 8 = s.chipNo ∧ bits (w.getD 0 0) 1 0 = 1 ∧
      s.siteBySsn (bits (w.getD 1 0) 12 0) = some x ∧ s.ahead w = some 0 ∧ s.fab.early = [] ∧
      s.epochNow x ≠ bits (w.getD 1 0) 31 16) ∧
    (∃ (p : Fin 12) (w : List Nat) (s : State), s.portState p.val = 2 ∧ s.blockLost p.val = false ∧ cellOk w = true ∧
      bits (w.getD 2 0) 11 0 = (s.portOf p.val).rxSeq ∧ bits (w.getD 0 0) 16 8 ≠ s.chipNo ∧ bits (w.getD 0 0) 29 26 = 0) ∧
    (∃ (p : Fin 12) (w : List Nat) (s : State), s.portState p.val = 2 ∧ (s.blockLost p.val = true ∨ cellOk w = false ∨
      bits (w.getD 2 0) 11 0 ≠ (s.portOf p.val).rxSeq) ∧ (s.portOf p.val).nacking = false) ∧
    (∃ (p : Fin 12) (w : List Nat) (s : State), s.portState p.val = 2 ∧ (s.blockLost p.val = true ∨ cellOk w = false ∨
      bits (w.getD 2 0) 11 0 ≠ (s.portOf p.val).rxSeq) ∧ (s.portOf p.val).nacking = true) ∧
    (∃ (p : Fin 12) (lseq : Nat) (s : State), ∃ i, (s.portOf p.val).retry.findIdx? (fun r => r.1 == lseq) = some i) ∧
    (∃ (p : Fin 12) (lseq : Nat) (s : State), (s.portOf p.val).retry.findIdx? (fun r => r.1 == lseq) = none) ∧
    (∃ (p : Fin 12) (s : State) (n j : Nat) (c : Cell) (rest : List (Nat × Nat × Cell)), s.portState p.val = 2 ∧
      (s.portOf p.val).retry = (n, j, c) :: rest ∧ j < 4) ∧
    (∃ (p : Fin 12) (s : State) (n j : Nat) (c : Cell) (rest : List (Nat × Nat × Cell)), s.portState p.val = 2 ∧
      (s.portOf p.val).retry = (n, j, c) :: rest ∧ 4 ≤ j) ∧
    (∃ (p : Fin 12) (s : State), s.portState p.val = 2 ∧ (s.portOf p.val).retry = []) ∧
    (∃ (x : Fin 16) (s : State), s.present x.val = false) ∧
    (∃ (x : Fin 16) (chip : Sender) (s : State), s.present x.val = true ∧ chip.epoch ≠ s.epochNow x.val) ∧
    (∃ (x : Fin 16) (chip : Sender) (s : State), s.present x.val = true ∧ chip.epoch = s.epochNow x.val) ∧
    (∃ (ws : List (Nat × Nat)), ws.length ≤ 128 ∧ (∀ w ∈ ws, w.1 < 3 ∧ w.2 < 4294967296)) :=
  ⟨⟨1, cellOf 7, sPort [] (fun q => { q with rxSeq := 7 }), by decide +kernel⟩,
    ⟨1, cellWith (2 * 256) 0 7, sPort [] (fun q => { q with rxSeq := 7 }), by decide +kernel⟩,
    ⟨1, cellWith (2 * 256 + 1) 35 7, sPort [] (fun q => { q with rxSeq := 7 }), 3, by decide +kernel⟩,
    ⟨1, cellWith (2 * 256 + 1) (35 + 5 * 65536) 7, sPort [] (fun q => { q with rxSeq := 7 }), 3, by decide +kernel⟩,
    ⟨1, cellWith (5 * 256) 0 7, sPort [] (fun q => { q with rxSeq := 7 }), by decide +kernel⟩,
    ⟨1, cellOf 7, sPort [] id, by decide +kernel⟩,
    ⟨1, cellOf 7, sPort [] (fun q => { q with nacking := true }), by decide +kernel⟩,
    ⟨1, 4, sRetryBuf, 0, by decide +kernel⟩,
    ⟨1, 6, sRetryBuf, by decide +kernel⟩,
    ⟨1, sRetryBuf, 4, 1, cell0, [(5, 0, cell0)], by decide +kernel⟩,
    ⟨1, sResent, 4, 4, cell0, [], by decide +kernel⟩,
    ⟨1, sPort [] id, by decide +kernel⟩,
    ⟨9, base [], by decide +kernel⟩,
    ⟨3, ⟨5, 1⟩, base [], by decide +kernel⟩,
    ⟨3, ⟨5, 0⟩, base [], by decide +kernel⟩,
    ⟨[(1, 4294967295), (0, 0), (2, 7)], by decide +kernel⟩⟩

theorem wit_PortsTrainAndDiscover :
    (∃ (p : Fin 12) (s : State), s.flag F.FAB_PCTL_EN p.val = true ∧ s.portState p.val ≠ 1 ∧ s.portState p.val ≠ 5) ∧
    (∃ (p : Fin 12) (s : State), (s.flag F.FAB_PCTL_EN p.val = false ∨ s.portState p.val = 1 ∨ s.portState p.val = 5)) ∧
    (∃ (p : Fin 12) (s : State), s.portState p.val = 1 ∧ (s.portOf p.val).fails < 2) ∧
    (∃ (p : Fin 12) (s : State), s.portState p.val = 1 ∧ 2 ≤ (s.portOf p.val).fails) ∧
    (∃ (p : Fin 12) (chip : Nat) (s : State), s.portState p.val = 2 ∧ chip = s.chipNo) ∧
    (∃ (p : Fin 12) (chip digest : Nat) (s : State), s.portState p.val = 2 ∧ chip ≠ s.chipNo ∧ (s.peer chip = none ∨
      (∀ e ∈ s.fab.links, e.a = chip → e.up = true → e.digest = digest) ∧ s.rivals p.val chip digest = [])) ∧
    (∃ (p : Fin 12) (chip digest : Nat) (s : State), s.portState p.val = 2 ∧ (s.peer chip).isSome = true ∧
      ((∃ e ∈ s.fab.links, e.a = chip ∧ e.up = true ∧ e.digest ≠ digest) ∨ s.rivals p.val chip digest ≠ [])) ∧
    (∃ (l : LinkState) (s : State), l.a ≠ s.chipNo ∧ s.fab.links.contains l = false) ∧
    (∃ (l : LinkState) (s : State), (l.a = s.chipNo ∨ s.fab.links.contains l = true)) ∧
    (∃ (p : Fin 12) (s : State), s.portState p.val ≠ 2) ∧
    (∃ (line : List Bool), (readBlock line).2 = true) ∧
    (∃ (line : List Bool), (readBlock line).2 = false) :=
  ⟨⟨1, sTrain 0 0, by decide +kernel⟩,
    ⟨1, sTrain 1 0, by decide +kernel⟩,
    ⟨1, sTrain 1 1, by decide +kernel⟩,
    ⟨1, sTrain 1 2, by decide +kernel⟩,
    ⟨1, 2, sPort [] id, by decide +kernel⟩,
    ⟨1, 9, 0, sPort [] id, by decide +kernel⟩,
    ⟨1, 9, 0, sTwice, by decide +kernel⟩,
    ⟨link0, base [], by decide +kernel⟩,
    ⟨{ link0 with a := 2 }, base [], by decide +kernel⟩,
    ⟨1, base [], by decide +kernel⟩,
    ⟨List.replicate 16 true, by decide +kernel⟩,
    ⟨stuff 0 false (scrambleFrom 0 ((List.replicate 128 (0, 0)).flatMap laneWord)), by decide +kernel⟩⟩

theorem wit_SleepAndWake :
    (∃ (s : State), (s.anyRun = true ∨ s.startsNow = true)) ∧
    (∃ (s : State), s.anyRun = false ∧ s.startsNow = false ∧ s.getF F.FAB_SLPSTAT_STATE 0 = 0 ∧ s.shelfRoot ≠ s.chipNo) ∧
    (∃ (s : State), s.anyRun = false ∧ s.startsNow = false ∧ s.getF F.FAB_SLPSTAT_STATE 0 = 0 ∧ s.shelfRoot = s.chipNo ∧
      s.chipNo ∉ s.fab.votes ∧ (∃ c ∈ s.shelfChips, c ≠ s.chipNo ∧ c ∉ s.fab.votes)) ∧
    (∃ (s : State), s.anyRun = false ∧ s.startsNow = false ∧ s.getF F.FAB_SLPSTAT_STATE 0 ≠ 0) ∧
    (∃ (chip : Nat) (s : State), s.shelfRoot = s.chipNo ∧ s.shelfChips.contains chip = true ∧ chip ∉ s.fab.votes ∧
      (∃ c ∈ s.shelfChips, c ≠ chip ∧ c ∉ s.fab.votes)) ∧
    (∃ (chip : Nat) (s : State), s.shelfRoot = s.chipNo ∧ s.shelfChips.contains chip = true ∧ chip ∉ s.fab.votes ∧
      (∀ c ∈ s.shelfChips, c = chip ∨ c ∈ s.fab.votes) ∧ s.getF F.FAB_SLPLEAD_US 0 ≠ 0 ∧ s.fab.wake = none ∧ (∀ k, k < 12 →
      s.portState k ≠ 3)) ∧
    (∃ (tm n : Nat) (s : State), s.getF F.FAB_SLPSTAT_STATE 0 ≠ 3 ∧ n = ((s.nowNs : Int) + halfWindow s.now tm).toNat ∧
      s.nowNs < n ∧ s.fab.wake = none) ∧
    (∃ (s : State), s.getF F.FAB_SLPSTAT_STATE 0 = 3) ∧
    (∃ (n w : Nat) (s : State), s.fab.sleepAt = some n ∧ s.fab.wake = some w ∧ s.getF F.FAB_SLPSTAT_STATE 0 = 2 ∧ w + 48 < n) ∧
    (∃ (n w : Nat) (s : State), s.fab.sleepAt = some n ∧ s.fab.wake = some w ∧ s.getF F.FAB_SLPSTAT_STATE 0 = 2 ∧ n ≤ w + 48) ∧
    (∃ (s : State), (s.fab.sleepAt = none ∨ s.fab.wake = none)) ∧
    (∃ (s : State), s.getF F.FAB_SLPSTAT_STATE 0 ≠ 2) ∧
    (∃ (s : State), s.getF F.FAB_SLPSTAT_STATE 0 = 1 ∧ s.fab.wake = none) ∧
    (∃ (s : State), ∃ n, s.getF F.FAB_SLPSTAT_STATE 0 = 2 ∧ s.fab.sleepAt = some n ∧ s.nowNs + 48 < n) ∧
    (∃ (s : State), ∃ n, s.getF F.FAB_SLPSTAT_STATE 0 = 2 ∧ s.fab.sleepAt = some n ∧ n ≤ s.nowNs + 48 ∧ s.fab.wake = none) ∧
    (∃ (p : Fin 12) (s : State), s.portState p.val = 3) ∧
    (∃ (p : Fin 12) (s : State), s.portState p.val ≠ 3) ∧
    (∃ (p : Fin 12) (s : State), s.portState p.val = 4) ∧
    (∃ (p : Fin 12) (s : State), s.portState p.val ≠ 4) :=
  ⟨⟨base [(F.SITE_BSTAT_RUN, 3, 1)], by decide +kernel⟩,
    ⟨sShelf [] 1 id, by decide +kernel⟩,
    ⟨sShelf [] 3 id, by decide +kernel⟩,
    ⟨sAsleep, by decide +kernel⟩,
    ⟨3, sShelf [] 3 id, by decide +kernel⟩,
    ⟨3, sLastVote, by decide +kernel⟩,
    ⟨2000, 2000, sShelf [] 3 id, by decide +kernel⟩,
    ⟨sAsleep, by decide +kernel⟩,
    ⟨2000, 1951, sSched 1951, by decide +kernel⟩,
    ⟨2000, 1952, sSched 1952, by decide +kernel⟩,
    ⟨base [], by decide +kernel⟩,
    ⟨base [], by decide +kernel⟩,
    ⟨base [(F.FAB_SLPSTAT_STATE, 0, 1)], by decide +kernel⟩,
    ⟨sSleepAt 2000, 2000, by decide +kernel⟩,
    ⟨sSleepAt 1040, 1040, by decide +kernel⟩,
    ⟨1, sAsleep, by decide +kernel⟩,
    ⟨1, base [], by decide +kernel⟩,
    ⟨1, base [(F.FAB_PSTAT_STATE, 1, 4)], by decide +kernel⟩,
    ⟨1, base [], by decide +kernel⟩⟩

theorem wit_SiteResetAndScrub :
    (∃ (fn : Fn) (x : Fin 16) (s : State), (s.siteOf x.val).orders = [] ∧ s.present x.val = true ∧ (fn = .pf0 ∨
      s.fnSite fn x.val = true) ∧ s.flag F.SITE_SSTAT_RESETTING x.val = false) ∧
    (∃ (fn : Fn) (x : Fin 16) (s : State), (s.siteOf x.val).orders = [] ∧ s.present x.val = true ∧ (fn = .pf0 ∨
      s.fnSite fn x.val = true) ∧ s.flag F.SITE_SSTAT_RESETTING x.val = true) ∧
    (∃ (x : Fin 16) (s : State), (s.siteOf x.val).resetting = 1 ∧ s.burstsOver x.val = true) ∧
    (∃ (x : Fin 16) (s : State), ((s.siteOf x.val).resetting ≠ 1 ∨ s.burstsOver x.val = false)) ∧
    (∃ (x : Fin 16) (s : State), (s.siteOf x.val).resetting = 2) ∧
    (∃ (x : Fin 16) (s : State), (s.siteOf x.val).resetting ≠ 2) ∧
    (∃ (x : Fin 16) (s : State), s.flag F.SITE_SSTAT_SCRUB x.val = true ∧ (s.siteOf x.val).resetting = 0 ∧
      (s.siteOf x.val).regionsLeft ≠ [] ∧ (∀ y, y < x.val → s.flag F.SITE_SSTAT_SCRUB y = false ∨ (s.siteOf y).resetting ≠ 0 ∨
      (s.siteOf y).regionsLeft = [])) ∧
    (∃ (x : Fin 16) (s : State), (s.flag F.SITE_SSTAT_SCRUB x.val = false ∨ (s.siteOf x.val).resetting ≠ 0 ∨
      (s.siteOf x.val).regionsLeft = [] ∨ (∃ y, y < x.val ∧ s.flag F.SITE_SSTAT_SCRUB y = true ∧ (s.siteOf y).resetting = 0 ∧
      (s.siteOf y).regionsLeft ≠ []))) ∧
    (∃ (s : State), s.engState 15 ≠ 5 ∧ (∀ d, s.boot.trainDue = some d → d ≤ s.nowNs) ∧ (∀ i ∈ s.ready, i.bound ≠ some 15) ∧
      s.selfRefresh = false ∧ (s.engOf 15).item = none ∧ (s.engOf 15).saved = none ∧ (s.engOf 15).suspending = false ∧
      (s.engOf 15).restoring = false ∧ (s.engOf 15).training = false ∧ s.engState 15 = 0) ∧
    (∃ (s : State), s.engState 15 ≠ 5 ∧ ((∃ d, s.boot.trainDue = some d ∧ s.nowNs < d) ∨ (∃ i ∈ s.ready, i.bound = some 15) ∨
      (s.engOf 15).item.isSome = true ∨ (s.engOf 15).saved.isSome = true ∨ (s.engOf 15).training = true ∨ s.engState 15 ≠ 0 ∨
      s.selfRefresh = true)) ∧
    (∃ (s : State), s.engState 15 = 5) ∧
    (∃ (d : Fin 16) (s : State), d.val ∈ s.boot.train ∧ s.stepWaits = true ∧ s.flag F.MEM_CHTR_INSVC d.val = true) ∧
    (∃ (d : Fin 16) (s : State), (d.val ∉ s.boot.train ∨ s.stepWaits = false)) :=
  ⟨⟨.vf 3, 3, base [], by decide +kernel⟩,
    ⟨.vf 3, 3, base [(F.SITE_SSTAT_RESETTING, 3, 1)], by decide +kernel⟩,
    ⟨3, sScrub 1, by decide +kernel⟩,
    ⟨3, base [], by decide +kernel⟩,
    ⟨3, sScrub 2, by decide +kernel⟩,
    ⟨3, base [], by decide +kernel⟩,
    ⟨3, sScrub 0, by decide +kernel⟩,
    ⟨3, base [], by decide +kernel⟩,
    ⟨base [], by decide +kernel, forallSome (by decide +kernel), by decide +kernel, by decide +kernel, by decide +kernel,
      by decide +kernel, by decide +kernel, by decide +kernel, by decide +kernel, by decide +kernel⟩,
    ⟨sTrStep, by decide +kernel⟩,
    ⟨base [(F.SE_STATE_STATE, 15, 5)], by decide +kernel⟩,
    ⟨2, sTrStep, by decide +kernel⟩,
    ⟨3, sTrStep, by decide +kernel⟩⟩

theorem wit_ClocksLoseAndRelock :
    (∃ (s : State), s.flag F.CLK_REF_REFOK 0 = false) ∧
    (∃ (p : Pll) (s : State), s.flag (pllFlds p).1.2.2.1 (pllFlds p).2 = false ∧ s.pllOff p = false) ∧
    (∃ (p : Pll) (s : State), (s.flag (pllFlds p).1.2.2.1 (pllFlds p).2 = true ∨ s.pllOff p = true)) ∧
    (∃ (p : Pll) (s : State), s.flag F.CLK_REF_REFOK 0 = true ∧ s.flag (pllFlds p).1.1 (pllFlds p).2 = false ∧
      s.pllOff p = false) ∧
    (∃ (p : Pll) (s : State), (s.flag F.CLK_REF_REFOK 0 = false ∨ s.flag (pllFlds p).1.1 (pllFlds p).2 = true ∨
      s.pllOff p = true)) ∧
    (∃ (v : Fin 16) (n : Fin 4) (s : State), s.hostFree v ∧ s.ownsLp v.val n.val = true ∧ (s.beatsRun v.val = true ∨
      s.startsBeats v.val = true)) ∧
    (∃ (v : Fin 16) (n : Fin 4) (s : State), s.hostFree v ∧ s.ownsLp v.val n.val = true ∧ s.beatsRun v.val = false ∧
      s.startsBeats v.val = false ∧ s.lpPendOk n.val = false) ∧
    (∃ (v : Fin 16) (n : Fin 4) (s : State), s.hostFree v ∧ s.ownsLp v.val n.val = true ∧ s.beatsRun v.val = false ∧
      s.startsBeats v.val = false ∧ s.lpPendOk n.val = true) ∧
    (∃ (v : Fin 16) (n : Fin 4) (s : State), (s.ownsLp v.val n.val = false ∨ s.vfLive (.vf v) = false)) :=
  ⟨⟨base [(F.CLK_REF_REFOK, 0, 0)], by decide +kernel⟩,
    ⟨.line 1, sRef [(F.CLK_LPSTAT_BYP, 1, 0)], by decide +kernel⟩,
    ⟨.line 1, sRef [(F.CLK_LPSTAT_BYP, 1, 1)], by decide +kernel⟩,
    ⟨.line 1, sRef [(F.CLK_LPSTAT_LOCK, 1, 0)], by decide +kernel⟩,
    ⟨.line 1, sRef [(F.CLK_LPSTAT_LOCK, 1, 1)], by decide +kernel⟩,
    ⟨3, 1, sLp 1 2, by decide +kernel⟩,
    ⟨3, 1, sLp 0 9, by decide +kernel⟩,
    ⟨3, 1, sLp 0 2, by decide +kernel⟩,
    ⟨5, 1, sLp 0 2, by decide +kernel⟩⟩

theorem wit_CloveServesSlices :
    (∃ (o p : Fin 8) (s : State), (s.clvSt o.val = 0 ∨ s.clvSt o.val = 1 ∧ (s.octSt o.val).clvPos = p.val) ∧
      hasBit (s.octSt o.val).failed p.val = false ∧ s.flag F.OCT_FESTAT_RETIRED (chIx (o.val * 8 + p.val)) = false ∧ (∀ x,
      s.owner (o.val * 8 + p.val) = some x → s.beatsRun x = false)) ∧
    (∃ (o p : Fin 8) (s : State), ∃ x, (s.clvSt o.val = 0 ∨ s.clvSt o.val = 1 ∧ (s.octSt o.val).clvPos = p.val) ∧
      hasBit (s.octSt o.val).failed p.val = false ∧ s.flag F.OCT_FESTAT_RETIRED (chIx (o.val * 8 + p.val)) = false ∧
      s.owner (o.val * 8 + p.val) = some x ∧ s.beatsRun x = true) ∧
    (∃ (o p : Fin 8) (s : State), (hasBit (s.octSt o.val).failed p.val = true ∨
      s.flag F.OCT_FESTAT_RETIRED (chIx (o.val * 8 + p.val)) = true)) ∧
    (∃ (o : Fin 8) (s : State), hasBit (s.octSt o.val).failed 8 = false ∧ s.clvSt o.val ≠ 5) ∧
    (∃ (o : Fin 8) (s : State), (hasBit (s.octSt o.val).failed 8 = true ∨ s.clvSt o.val = 5)) ∧
    (∃ (c : Fin 64) (s : State), s.flag F.OCT_FESTAT_RETIRED (chIx c.val) = false) ∧
    (∃ (n : Fin 16) (o p : Fin 8) (s : State), s.hostFree n ∧ s.owner (o.val * 8 + p.val) = some n.val ∧ s.clvSt o.val = 0 ∧
      s.flag F.OCT_FESTAT_RETIRED (chIx (o.val * 8 + p.val)) = false ∧ s.clvLower o.val p.val = false ∧
      s.beatsRun n.val = false ∧ (s.octSt o.val).saving ≠ some p.val) ∧
    (∃ (n : Fin 16) (o p : Fin 8) (s : State), s.hostFree n ∧ s.owner (o.val * 8 + p.val) = some n.val ∧ s.clvSt o.val = 0 ∧
      s.flag F.OCT_FESTAT_RETIRED (chIx (o.val * 8 + p.val)) = false ∧ s.clvLower o.val p.val = false ∧
      s.beatsRun n.val = true) ∧
    (∃ (n : Fin 16) (o p : Fin 8) (s : State), s.hostFree n ∧ s.owner (o.val * 8 + p.val) = some n.val ∧
      (s.octSt o.val).saving = none ∧ s.ownCarries o.val p.val = true ∧ (s.octSt o.val).trimReq ≠ some (p.val, s.nowNs) ∧
      s.flag F.OCT_QSRC_UNSAVED (qIx o.val p.val) = true) ∧
    (∃ (n : Fin 16) (o p : Fin 8) (s : State), s.hostFree n ∧ s.owner (o.val * 8 + p.val) = some n.val ∧
      (s.octSt o.val).saving = none ∧ (s.ownCarries o.val p.val = false ∨ (s.octSt o.val).trimReq = some (p.val, s.nowNs) ∨
      s.flag F.OCT_QSRC_UNSAVED (qIx o.val p.val) = false)) ∧
    (∃ (n : Fin 16) (o p : Fin 8) (s : State), s.hostFree n ∧ s.owner (o.val * 8 + p.val) = some n.val ∧
      (s.octSt o.val).saving.isSome = true) ∧
    (∃ (n : Fin 16) (o p : Fin 8) (s : State), s.hostFree n ∧ s.owner (o.val * 8 + p.val) = some n.val ∧ s.clvSt o.val = 2 ∧
      (s.octSt o.val).clvPos = p.val ∧ (s.octSt o.val).retReq = false) ∧
    (∃ (n : Fin 16) (o p : Fin 8) (s : State), s.hostFree n ∧ s.owner (o.val * 8 + p.val) = some n.val ∧
      s.clvHas o.val p.val = false) ∧
    (∃ (n : Fin 16) (o p : Fin 8) (s : State), s.hostFree n ∧ s.owner (o.val * 8 + p.val) = some n.val ∧ s.clvSt o.val = 2 ∧
      (s.octSt o.val).clvPos = p.val ∧ (s.octSt o.val).clvKind = 1 ∧ (s.octSt o.val).saving ≠ some p.val) ∧
    (∃ (o : Fin 8) (s : State), s.clvSt o.val = 3 ∧ (s.octSt o.val).retReq = false) ∧
    (∃ (o : Fin 8) (s : State), (s.clvSt o.val ≠ 3 ∨ (s.octSt o.val).retReq = true)) ∧
    (∃ (o : Fin 8) (s : State), ∃ p, (s.octSt o.val).saving = some p) :=
  ⟨⟨6, 2, sOct [] id, by decide +kernel, by decide +kernel, by decide +kernel, forallSome (by decide +kernel)⟩,
    ⟨6, 2, sOctRun id, 5, by decide +kernel⟩,
    ⟨6, 2, sOct [] (fun q => { q with failed := 4 }), by decide +kernel⟩,
    ⟨6, sOct [] id, by decide +kernel⟩,
    ⟨6, sOct [(F.OCT_CLVSTAT_STATE, 6, 5)] id, by decide +kernel⟩,
    ⟨5, base [], by decide +kernel⟩,
    ⟨5, 6, 2, sOct [] id, by decide +kernel⟩,
    ⟨5, 6, 2, sOctRun id, by decide +kernel⟩,
    ⟨5, 6, 2, sOct [(F.OCT_QSRC_UNSAVED, qIx 6 2, 1)] id, by decide +kernel⟩,
    ⟨5, 6, 2, sOct [] id, by decide +kernel⟩,
    ⟨5, 6, 2, sOct [] (fun q => { q with saving := some 1 }), by decide +kernel⟩,
    ⟨5, 6, 2, sOn 2 id, by decide +kernel⟩,
    ⟨5, 6, 2, sOct [] id, by decide +kernel⟩,
    ⟨5, 6, 2, sOn 2 (fun q => { q with clvKind := 1 }), by decide +kernel⟩,
    ⟨6, sOn 3 id, by decide +kernel⟩,
    ⟨6, sOct [] id, by decide +kernel⟩,
    ⟨6, sOct [] (fun q => { q with saving := some 2 }), 2, by decide +kernel⟩⟩

theorem wit_FaultSourcesAndInputs :
    (∃ (x : Fin 16) (b : Fin 13) (s : State), s.wired x.val b.val = false ∧ s.srcClears x.val b.val = true ∧
      hasBit (s.getF F.FLT_SSRC_SRC x.val) b.val = true) ∧
    (∃ (x : Fin 16) (b : Fin 13) (s : State), s.wired x.val b.val = false ∧ s.srcClears x.val b.val = false) ∧
    (∃ (x : Fin 16) (b : Fin 13) (s : State), s.wired x.val b.val = true) ∧
    (∃ (b : Fin 7) (s : State), s.wired 16 b.val = false ∧ s.srcClears 16 b.val = true ∧
      hasBit (s.getF F.FLT_STAT_CSRC 0) b.val = true) ∧
    (∃ (b : Fin 7) (s : State), s.wired 16 b.val = true ∧ b.val ≠ 6) ∧
    (∃ (b : Fin 7) (s : State), s.wired 16 b.val = true ∧ b.val = 6) ∧
    (∃ (k : Fin 17) (s : State) (used : Nat),
      used = (s.getF F.FLT_RCNT_RCNT k.val + 4294967296 - (if hasBit s.sumac.clearing k.val = true then Tbl.get (fun _ => 0) s.sumac.newBase k.val else s.getF F.FLT_RBASE_RBASE k.val)) % 4294967296 ∧
      s.flag F.FLT_SSRC_QUIETING k.val = true ∧ s.flag F.FLT_SSRC_LATCHED k.val = false ∧ used < s.getF F.FLT_RLIM_RLIM 0) ∧
    (∃ (k : Fin 17) (s : State) (used : Nat),
      used = (s.getF F.FLT_RCNT_RCNT k.val + 4294967296 - (if hasBit s.sumac.clearing k.val = true then Tbl.get (fun _ => 0) s.sumac.newBase k.val else s.getF F.FLT_RBASE_RBASE k.val)) % 4294967296 ∧
      s.flag F.FLT_SSRC_QUIETING k.val = true ∧ s.flag F.FLT_SSRC_LATCHED k.val = false ∧ s.getF F.FLT_RLIM_RLIM 0 ≤ used) ∧
    (∃ (k : Fin 17) (s : State) (used : Nat),
      used = (s.getF F.FLT_RCNT_RCNT k.val + 4294967296 - (if hasBit s.sumac.clearing k.val = true then Tbl.get (fun _ => 0) s.sumac.newBase k.val else s.getF F.FLT_RBASE_RBASE k.val)) % 4294967296 ∧
      s.flag F.FLT_SSRC_QUIETING k.val = true ∧ s.flag F.FLT_SSRC_LATCHED k.val = true) ∧
    (∃ (k : Fin 17) (s : State) (used : Nat),
      used = (s.getF F.FLT_RCNT_RCNT k.val + 4294967296 - (if hasBit s.sumac.clearing k.val = true then Tbl.get (fun _ => 0) s.sumac.newBase k.val else s.getF F.FLT_RBASE_RBASE k.val)) % 4294967296 ∧
      s.flag F.FLT_SSRC_QUIETING k.val = false ∧ s.resetCut k.val = true ∧ s.flag F.FLT_SSRC_LATCHED k.val = false ∧
      s.getF F.FLT_RLIM_RLIM 0 ≤ used) ∧
    (∃ (k : Fin 17) (s : State) (used : Nat),
      used = (s.getF F.FLT_RCNT_RCNT k.val + 4294967296 - (if hasBit s.sumac.clearing k.val = true then Tbl.get (fun _ => 0) s.sumac.newBase k.val else s.getF F.FLT_RBASE_RBASE k.val)) % 4294967296 ∧
      s.flag F.FLT_SSRC_QUIETING k.val = false ∧ (s.resetCut k.val = false ∨ s.flag F.FLT_SSRC_LATCHED k.val = true ∨
      used < s.getF F.FLT_RLIM_RLIM 0)) ∧
    (∃ (k : Fin 17) (s : State), hasBit s.sumac.storing k.val = true) ∧
    (∃ (k : Fin 17) (s : State), hasBit s.sumac.storing k.val = false ∧ hasBit s.sumac.clearing k.val = true) ∧
    (∃ (k : Fin 17) (s : State), hasBit s.sumac.storing k.val = false ∧ hasBit s.sumac.clearing k.val = false) ∧
    (∃ (fn : Fn) (k : Fin 17) (s : State), (fn = .pf0 ∧ k.val = 16 ∨ (∃ n : Fin 16, fn = .vf n ∧ k.val = n.val ∧
      s.vfLive fn = true)) ∧ hasBit s.sumac.clearing k.val = false) ∧
    (∃ (fn : Fn) (k : Fin 17), fn = .pf0 ∧ k.val ≠ 16) ∧
    (∃ (fn : Fn) (k : Fin 17) (n : Fin 16), fn = .vf n ∧ k.val ≠ n.val) ∧
    (∃ (x : Fin 16) (s : State), s.wired x.val 8 = false ∧ hasBit (s.getF F.FLT_SSRC_SRC x.val) 8 = true) ∧
    (∃ (x : Fin 16) (s : State), s.wired x.val 8 = false ∧ hasBit (s.getF F.FLT_SSRC_SRC x.val) 8 = false) ∧
    (∃ (b : Bool) (s : State), (if b then s.sumac.openB else s.sumac.openA) = false) ∧
    (∃ (b : Bool) (s : State), (if b then s.sumac.openB else s.sumac.openA) = true) ∧
    (∃ (s : State), s.flag F.FLT_ILK_ACL 0 ≠ s.flag F.FLT_ILK_BCL 0 ∧ (s.flag F.FLT_ILK_DISCREP 0 = false ∨
      s.sumac.bothOpen = true)) ∧
    (∃ (s : State), (s.flag F.FLT_ILK_ACL 0 = s.flag F.FLT_ILK_BCL 0 ∨ s.flag F.FLT_ILK_DISCREP 0 = true ∧
      s.sumac.bothOpen = false)) :=
  ⟨⟨3, 0, base [(F.FLT_SSRC_SRC, 3, 1)], by decide +kernel⟩,
    ⟨3, 4, base [(F.FLT_SSRC_SRC, 3, 16)], by decide +kernel⟩,
    ⟨3, 0, sSum [] (fun q => { q with wires := [(3, 0, true)] }), by decide +kernel⟩,
    ⟨4, base [(F.FLT_STAT_CSRC, 0, 16)], by decide +kernel⟩,
    ⟨2, sSum [] (fun q => { q with wires := [(16, 2, false)] }), by decide +kernel⟩,
    ⟨6, sSum [] (fun q => { q with wires := [(16, 6, false)] }), by decide +kernel⟩,
    ⟨3, sQuiet 5, 2, by decide +kernel⟩,
    ⟨3, sQuiet 2, 2, by decide +kernel⟩,
    ⟨3, (sQuiet 5).setF F.FLT_SSRC_LATCHED 3 1, 2, by decide +kernel⟩,
    ⟨3, sSum [(F.FLT_SSRC_SRC, 3, 128), (F.FLT_RLIM_RLIM, 0,
      0)] (fun q => { q with cutNs := [(3, 1001)], lastOn := [(3, 1001)] }), 0, by decide +kernel⟩,
    ⟨3, base [], 0, by decide +kernel⟩,
    ⟨3, sSum [] (fun q => { q with storing := 8, exiting := 8 }), by decide +kernel⟩,
    ⟨3, sSum [] (fun q => { q with clearing := 8 }), by decide +kernel⟩,
    ⟨3, base [], by decide +kernel⟩,
    ⟨.pf0, 16, base [(F.FLT_SSRC_LATCHED, 16, 1), (F.FLT_RCNT_RCNT, 16, 4)], .inl ⟨rfl, rfl⟩, by decide +kernel⟩,
    ⟨.pf0, 3, by decide +kernel⟩,
    ⟨.vf 2, 3, 2, by decide +kernel⟩,
    ⟨3, base [(F.FLT_SSRC_SRC, 3, 256)], by decide +kernel⟩,
    ⟨3, base [], by decide +kernel⟩,
    ⟨true, base [], by decide +kernel⟩,
    ⟨true, sSum [] (fun q => { q with openB := true }), by decide +kernel⟩,
    ⟨base [(F.FLT_ILK_ACL, 0, 0), (F.FLT_ILK_BCL, 0, 1)], by decide +kernel⟩,
    ⟨base [(F.FLT_ILK_ACL, 0, 1), (F.FLT_ILK_BCL, 0, 1)], by decide +kernel⟩⟩

theorem wit_MonitorCountSaturates :
    (∃ (raw : Int) (s : State), s.sumac.vio = true ∧ 0 ≤ raw ∧ raw ≤ 65535 ∧ s.getF F.MON_STAT_DLEFT 0 = 0 ∧
      (s.monOf s.mon0).cnt < 4294967295) ∧
    (∃ (raw : Int) (s : State), s.sumac.vio = true ∧ 0 ≤ raw ∧ raw ≤ 65535 ∧ s.getF F.MON_STAT_DLEFT 0 = 0 ∧
      4294967295 ≤ (s.monOf s.mon0).cnt) :=
  ⟨⟨5, sMon 3 0, by decide +kernel⟩,
    ⟨65535, sMon 4294967295 0, by decide +kernel⟩⟩

theorem wit_MonitorConversions :
    (∃ (s : State), s.sumac.vio = true) ∧
    (∃ (s : State), s.sumac.vio = false) :=
  ⟨⟨sMon 3 0, by decide +kernel⟩,
    ⟨base [], by decide +kernel⟩⟩

theorem wit_PowerAndBoot :
    (∃ (s : State), s.nutmeg.pgood = false) ∧
    (∃ (s : State), s.sumac.vio = false) ∧
    (∃ (s : State), s.sumac.vio = true) ∧
    (∃ (fn : Fn) (s : State), fn = .pf0 ∧ s.nutmeg.pgood = true) ∧
    (∃ (fn : Fn) (s : State), (fn ≠ .pf0 ∨ s.nutmeg.pgood = false)) ∧
    (∃ (l : List Nat) (s : State), l = (List.range 16).filter (fun d => s.flag F.MEM_CHTR_INSVC d) ∧ s.phase = 4 ∧ l ≠ [] ∧
      s.image.find 5 = [] ∧ s.image.find 1 = []) ∧
    (∃ (l : List Nat) (s : State), l = (List.range 16).filter (fun d => s.flag F.MEM_CHTR_INSVC d) ∧ s.phase = 4 ∧ l = [] ∧
      s.image.find 4 = []) ∧
    (∃ (l : List Nat) (s : State), l = (List.range 16).filter (fun d => s.flag F.MEM_CHTR_INSVC d) ∧ s.phase ≠ 4) ∧
    (∃ (s : State), s.phase = 7 ∧ s.image.find 6 = []) ∧
    (∃ (s : State), s.phase ≠ 7) :=
  ⟨⟨State.reset, by decide +kernel⟩,
    ⟨base [], by decide +kernel⟩,
    ⟨sMon 3 0, by decide +kernel⟩,
    ⟨.pf0, sNut [] (fun q => { q with pgood := true }), by decide +kernel⟩,
    ⟨.vf 3, sNut [] (fun q => { q with pgood := true }), by decide +kernel⟩,
    ⟨[0], sBoot [(F.GLB_BOOTSTAT_PHASE, 0, 4), (F.MEM_CHTR_INSVC, 0, 1)] id, by decide +kernel⟩,
    ⟨[], sBoot [(F.GLB_BOOTSTAT_PHASE, 0, 4)] id, by decide +kernel⟩,
    ⟨[], base [], by decide +kernel⟩,
    ⟨sBoot [(F.GLB_BOOTSTAT_PHASE, 0, 7)] id, by decide +kernel⟩,
    ⟨base [(F.GLB_BOOTSTAT_PHASE, 0, 8)], by decide +kernel⟩⟩

theorem wit_ReloadAndPowerStates :
    (∃ (e : Fin 16) (s : State), s.engState e.val = 0 ∧ (∀ k, k < 16 → s.engState k ≠ 4)) ∧
    (∃ (e : Fin 16) (s : State), (s.engState e.val ≠ 0 ∨ (∃ k, k < 16 ∧ s.engState k = 4))) ∧
    (∃ (e : Fin 16) (sec : Nat) (copy : Bool) (s : State), (s.engOf e.val).reload = some (sec, copy) ∧
      s.reloadSec e.val sec copy = none) ∧
    (∃ (e : Fin 16) (s : State), (s.engOf e.val).reload = none) ∧
    (∃ (s : State), s.flag F.GLB_PWRSTAT_BUSY 0 = false ∧ s.pwr = 0 ∧ s.idleOk = true) ∧
    (∃ (s : State), s.flag F.GLB_PWRSTAT_BUSY 0 = false ∧ s.pwr = 1 ∧ s.anyRun = false) ∧
    (∃ (s : State), s.flag F.GLB_PWRSTAT_BUSY 0 = false ∧ (s.pwr = 1 ∨ s.pwr = 2) ∧ s.nvmBusy = false ∧
      s.nutmeg.standby = false) ∧
    (∃ (s : State), s.flag F.GLB_PWRSTAT_BUSY 0 = false ∧ (s.pwr = 1 ∨ s.pwr = 2) ∧ s.nvmBusy = true) ∧
    (∃ (s : State), (s.flag F.GLB_PWRSTAT_BUSY 0 = true ∨ s.pwr ≠ 1)) ∧
    (∃ (s : State), (s.flag F.GLB_PWRSTAT_BUSY 0 = true ∨ s.pwr ≠ 0 ∨ s.idleOk = false)) ∧
    (∃ (s : State), (s.flag F.GLB_PWRSTAT_BUSY 0 = true ∨ s.pwr ≠ 1 ∨ s.anyRun = true)) ∧
    (∃ (s : State), (s.flag F.GLB_PWRSTAT_BUSY 0 = true ∨ s.pwr ≠ 1 ∧ s.pwr ≠ 2)) ∧
    (∃ (s : State), s.boot.power = some 0) ∧
    (∃ (s : State), s.boot.power = some 1) ∧
    (∃ (s : State), s.boot.power = some 2 ∧ s.getF F.FAB_SLPSTAT_STATE 0 = 3) ∧
    (∃ (s : State), s.boot.power = some 2 ∧ s.getF F.FAB_SLPSTAT_STATE 0 = 0) ∧
    (∃ (s : State), s.boot.power = some 3 ∧ s.nvmBusy = false ∧ s.nutmeg.standby = false) ∧
    (∃ (s : State), s.boot.power = none ∧ s.pwr = 2 ∧ s.getF F.FAB_SLPSTAT_STATE 0 = 0) ∧
    (∃ (s : State), s.boot.power = none ∧ (s.pwr ≠ 2 ∨ s.getF F.FAB_SLPSTAT_STATE 0 ≠ 0)) ∧
    (∃ (s : State), s.boot.power = some 2 ∧ (s.getF F.FAB_SLPSTAT_STATE 0 = 1 ∨ s.getF F.FAB_SLPSTAT_STATE 0 = 2)) ∧
    (∃ (s : State), s.boot.power = some 3 ∧ (s.nvmBusy = true ∨ s.nutmeg.standby = true)) ∧
    (∃ (s : State), s.nutmeg.standby = false ∧ s.boot.power ≠ some 3 ∧ s.getF F.FAB_SLPSTAT_STATE 0 = 0) ∧
    (∃ (s : State), s.nutmeg.standby = true ∧ s.nutmeg.wakeHeld = true ∧ s.nutmeg.pwrEn = false) ∧
    (∃ (s : State), (s.nutmeg.standby = false ∨ s.nutmeg.wakeHeld = false ∨ s.nutmeg.pwrEn = true)) :=
  ⟨⟨2, base [], by decide +kernel⟩,
    ⟨2, sRel, .inl (by decide +kernel)⟩,
    ⟨2, 0, false, sRel, by decide +kernel⟩,
    ⟨2, base [], by decide +kernel⟩,
    ⟨base [], by decide +kernel⟩,
    ⟨base [(F.GLB_PWRSTAT_STATE, 0, 1)], by decide +kernel⟩,
    ⟨base [(F.GLB_PWRSTAT_STATE, 0, 1)], by decide +kernel⟩,
    ⟨sBoot [(F.GLB_PWRSTAT_STATE, 0, 1)] (fun b => { b with cmd := some (2, 1) }), by decide +kernel⟩,
    ⟨base [], by decide +kernel⟩,
    ⟨base [(F.GLB_PWRSTAT_STATE, 0, 1)], by decide +kernel⟩,
    ⟨base [], by decide +kernel⟩,
    ⟨base [], by decide +kernel⟩,
    ⟨sBoot [] (fun b => { b with power := some 0 }), by decide +kernel⟩,
    ⟨sBoot [] (fun b => { b with power := some 1 }), by decide +kernel⟩,
    ⟨sBoot [(F.FAB_SLPSTAT_STATE, 0, 3)] (fun b => { b with power := some 2 }), by decide +kernel⟩,
    ⟨sBoot [(F.GLB_PWRSTAT_STATE, 0, 1)] (fun b => { b with power := some 2 }), by decide +kernel⟩,
    ⟨sBoot [(F.GLB_PWRSTAT_STATE, 0, 1)] (fun b => { b with power := some 3 }), by decide +kernel⟩,
    ⟨base [(F.GLB_PWRSTAT_STATE, 0, 2)], by decide +kernel⟩,
    ⟨base [], by decide +kernel⟩,
    ⟨sBoot [(F.FAB_SLPSTAT_STATE, 0, 1)] (fun b => { b with power := some 2 }), by decide +kernel⟩,
    ⟨sBoot [] (fun b => { b with power := some 3, cmd := some (1, 0) }), by decide +kernel⟩,
    ⟨base [], by decide +kernel⟩,
    ⟨sNut [] (fun q => { q with standby := true, wakeHeld := true }), by decide +kernel⟩,
    ⟨base [], by decide +kernel⟩⟩

theorem wit_NvmCommands :
    (∃ (d : Nat), d % 4294967296 = 0x53544F52) ∧
    (∃ (d : Nat) (s : State), d % 4294967296 = 0xACABB0AD ∧ s.boot.keySeq = 1) ∧
    (∃ (d : Nat) (s : State), d % 4294967296 ≠ 0x53544F52 ∧ (d % 4294967296 ≠ 0xACABB0AD ∨ s.boot.keySeq ≠ 1)) ∧
    (∃ (s : State), s.boot.keyNs + 10000 ≤ s.time.ticks) ∧
    (∃ (s : State) (n : Fin 2), s.flag F.NVM_STAT_KEYARM 0 = true ∧ s.time.ticks < s.boot.keyNs + 10000 ∧
      s.flag F.NVM_STAT_BUSY 0 = false ∧ s.keyState n.val = 0 ∧ (s.psBytes 48).any (fun b => b != 0) = true ∧
      (s.psBytes 48).any (fun b => b != 255) = true) ∧
    (∃ (s : State) (n : Fin 2), s.flag F.NVM_STAT_KEYARM 0 = true ∧ s.time.ticks < s.boot.keyNs + 10000 ∧
      s.flag F.NVM_STAT_BUSY 0 = false ∧ s.keyState n.val = 1 ∧ s.keyState (1 - n.val) = 1) ∧
    (∃ (s : State), (s.flag F.NVM_STAT_KEYARM 0 = false ∨ s.boot.keyNs + 10000 ≤ s.time.ticks ∨
      s.flag F.NVM_STAT_BUSY 0 = true)) ∧
    (∃ (n : Fin 2) (s : State), s.keyState n.val ≠ 0) ∧
    (∃ (n : Fin 2) (s : State), (s.keyState n.val ≠ 1 ∨ s.keyState (1 - n.val) ≠ 1)) ∧
    (∃ (c n : Nat) (s : State), s.boot.cmd = some (c, n) ∧ (c ≠ 1 ∨ s.storeWaits = false)) ∧
    (∃ (s : State), (s.boot.cmd = none ∨ (∃ n, s.boot.cmd = some (1, n)) ∧ s.storeWaits = true)) :=
  ⟨⟨0x53544F52, by decide +kernel⟩,
    ⟨0xACABB0AD, sBoot [] (fun b => { b with keySeq := 1 }), by decide +kernel⟩,
    ⟨5, sBoot [] (fun b => { b with keySeq := 1 }), by decide +kernel⟩,
    ⟨{ sNvm [] id with time := { ({} : TimeSt) with ticks := 20000 } }, by decide +kernel⟩,
    ⟨{ sNvm [] id with psbuf := [(3, 5#8)] }, 0, by decide +kernel⟩,
    ⟨sNvm [(F.NVM_KSTAT_K0, 0, 1), (F.NVM_KSTAT_K1, 0, 1)] id, 1, by decide +kernel⟩,
    ⟨base [], by decide +kernel⟩,
    ⟨0, sNvm [(F.NVM_KSTAT_K0, 0, 1)] id, by decide +kernel⟩,
    ⟨0, sNvm [] id, by decide +kernel⟩,
    ⟨2, 1, sNvm [] (fun b => { b with cmd := some (2, 1) }), by decide +kernel⟩,
    ⟨base [], .inl (by decide +kernel)⟩⟩

theorem wit_EventVectors :
    (∃ (s : State) (f k : Nat), hasBit (s.getF F.HST_EVT_EVT f) k = true) ∧
    (∃ (s : State) (f : Fin 17) (k : Nat), k < 16 ∧ hasBit (s.getF F.HST_EVT_EVT f.val) k = false ∧
      hasBit (s.getF F.HST_EVMSK_MSK f.val) k = true) ∧
    (∃ (s : State) (f : Fin 17) (k : Nat), k < 16 ∧ hasBit (s.getF F.HST_EVT_EVT f.val) k = false ∧
      hasBit (s.getF F.HST_EVMSK_MSK f.val) k = false ∧ hasBit s.msixEn f.val = true ∧
      s.getF F.MSIX_CTRL_MASK (k * 17 + f.val) = 0) ∧
    (∃ (s : State) (f : Fin 17) (k : Nat), k < 16 ∧ hasBit (s.getF F.HST_EVT_EVT f.val) k = false ∧
      hasBit (s.getF F.HST_EVMSK_MSK f.val) k = false ∧ (hasBit s.msixEn f.val = false ∨
      s.getF F.MSIX_CTRL_MASK (k * 17 + f.val) ≠ 0)) ∧
    (∃ (fn : Fn) (m v : Nat) (s : State), (fn = .pf0 ∨ s.vfLive fn = true) ∧ v = m % (if fn = .pf0 then 256 else 65536)) ∧
    (∃ (fn : Fn) (s : State), fn ≠ .pf0 ∧ s.vfLive fn = false) :=
  ⟨⟨sEvt 0 16, 3, 4, by decide +kernel⟩,
    ⟨sEvt 16 0, 3, 4, by decide +kernel⟩,
    ⟨sEvt 0 0, 3, 4, by decide +kernel⟩,
    ⟨sEvt 0 0, 3, 5, by decide +kernel⟩,
    ⟨.vf 3, 0, 0, sEvt 16 16, by decide +kernel⟩,
    ⟨.vf 9, base [], by decide +kernel⟩⟩

theorem wit_RegistersAndRings :
    (∃ (a : Nat) (h : RegHit) (s : State), a < 0x4000000 ∧ (a < 0x40000 ∨ 0x80000 ≤ a) ∧ a % 4 = 0 ∧
      findRegFor .pf0 a = some h ∧ h.live = false ∧ s.mayWrite .pf0 h.desc h.ix = true) ∧
    (∃ (a : Nat) (h : RegHit) (s : State), a < 0x4000000 ∧ (a < 0x40000 ∨ 0x80000 ≤ a) ∧ a % 4 = 0 ∧
      findRegFor .pf0 a = some h ∧ (h.live = true ∨ s.mayWrite .pf0 h.desc h.ix = false)) ∧
    (∃ (n : Fin 16) (addr a : Nat) (h : RegHit) (s : State), s.vfLive (.vf n) = true ∧ s.busAddr (.vf n) addr = some a ∧
      (a < 0x40400 ∨ 0x40800 ≤ a) ∧ a % 4 = 0 ∧ findRegFor (.vf n) a = some h ∧ h.live = false ∧
      s.mayWrite (.vf n) h.desc h.ix = true ∧ isControl h.desc = false ∧ h.desc.wr ≠ .vs) ∧
    (∃ (n : Fin 16) (addr a : Nat) (h : RegHit) (s : State), s.vfLive (.vf n) = true ∧ s.busAddr (.vf n) addr = some a ∧
      (a < 0x40400 ∨ 0x40800 ≤ a) ∧ a % 4 = 0 ∧ findRegFor (.vf n) a = some h ∧ (h.live = true ∨
      s.mayWrite (.vf n) h.desc h.ix = false)) ∧
    (∃ (a : Nat), a < 0x4000000 ∧ (a < 0x40400 ∨ 0x40800 ≤ a) ∧ a % 8 = 0) ∧
    (∃ (off size : Nat), winSize off size = true ∧ off + size ≤ 0x400) ∧
    (∃ (a : Nat), a < 0x4000000 ∧ (a < 0x40000 ∨ 0x80000 ≤ a) ∧ a % 4 = 0 ∧ findRegFor .pf0 a = none) ∧
    (∃ (fn : Fn) (addr a size : Nat) (s : State), (fn = .pf0 ∨ s.vfLive fn = true) ∧ s.busAddr fn addr = some a ∧
      (a < 0x40400 ∨ 0x40800 ≤ a) ∧ (¬(size = 4 ∧ a % 4 = 0)) ∧ (¬(size = 8 ∧ a % 8 = 0)) ∧
      (findRegFor fn (a / 4 * 4)).isSome = true) ∧
    (∃ (n : Fin 16) (r : Fin 4) (l : Nat) (s : State), s.vfLive (.vf n) = true ∧
      s.flag F.HST_RCFG_EN (ringIx n.val r.val) = false ∧ 3 ≤ l % 32 ∧ l % 32 ≤ (if r.val = 2 then 12 else 16)) ∧
    (∃ (n : Fin 16) (r : Fin 4) (l : Nat) (s : State), s.vfLive (.vf n) = true ∧
      s.flag F.HST_RCFG_EN (ringIx n.val r.val) = false ∧ (l % 32 < 3 ∨ (if r.val = 2 then 12 else 16) < l % 32)) ∧
    (∃ (n : Fin 16) (r : Fin 4) (s : State), (s.vfLive (.vf n) = false ∨ s.flag F.HST_RCFG_EN (ringIx n.val r.val) = true)) ∧
    (∃ (n : Fin 16) (s : State), s.vfLive (.vf n) = false) ∧
    (∃ (n : Fin 16) (prod p : Nat) (s : State), ∃ i, s.vfLive (.vf n) = true ∧ p = prod % 4294967296 ∧ i = ringIx n.val 0 ∧
      s.flag F.HST_RCFG_EN i = true ∧ ringFill p (s.getF F.HST_RPROD_PROD i) < 2147483648 ∧
      ringFill p (s.getF F.HST_RCONS_CONS i) ≤ 2 ^ s.getF F.HST_RCFG_LOG2N i) ∧
    (∃ (n : Fin 16) (prod p : Nat) (s : State), ∃ i, s.vfLive (.vf n) = true ∧ p = prod % 4294967296 ∧ i = ringIx n.val 0 ∧
      s.flag F.HST_RCFG_EN i = true ∧ (2147483648 ≤ ringFill p (s.getF F.HST_RPROD_PROD i) ∨
      2 ^ s.getF F.HST_RCFG_LOG2N i < ringFill p (s.getF F.HST_RCONS_CONS i))) ∧
    (∃ (n : Fin 16) (prod p : Nat) (s : State), ∃ i, s.vfLive (.vf n) = true ∧ p = prod % 4294967296 ∧ i = ringIx n.val 3 ∧
      s.flag F.HST_RCFG_EN i = true ∧ ringFill p (s.getF F.HST_RPROD_PROD i) < 2147483648 ∧
      ringFill p (s.getF F.HST_RCONS_CONS i) ≤ 2 ^ s.getF F.HST_RCFG_LOG2N i) ∧
    (∃ (n : Fin 16) (prod p : Nat) (s : State), ∃ i, s.vfLive (.vf n) = true ∧ p = prod % 4294967296 ∧ i = ringIx n.val 3 ∧
      s.flag F.HST_RCFG_EN i = true ∧ (2147483648 ≤ ringFill p (s.getF F.HST_RPROD_PROD i) ∨
      2 ^ s.getF F.HST_RCFG_LOG2N i < ringFill p (s.getF F.HST_RCONS_CONS i))) ∧
    (∃ (n : Fin 16) (prod p : Nat) (s : State) (r : Fin 4) (i : Nat), s.vfLive (.vf n) = true ∧ p = prod % 4294967296 ∧
      (r.val = 1 ∨ r.val = 2) ∧ i = ringIx n.val r.val ∧ s.flag F.HST_RCFG_EN i = true ∧
      ringFill p (s.getF F.HST_RCONS_CONS i) < 2147483648 ∧
      ringFill (s.getF F.HST_RPROD_PROD i) p ≤ 2 ^ s.getF F.HST_RCFG_LOG2N i) ∧
    (∃ (n : Fin 16) (prod p : Nat) (s : State) (r : Fin 4) (i : Nat), s.vfLive (.vf n) = true ∧ p = prod % 4294967296 ∧
      (r.val = 1 ∨ r.val = 2) ∧ i = ringIx n.val r.val ∧ s.flag F.HST_RCFG_EN i = true ∧
      (2147483648 ≤ ringFill p (s.getF F.HST_RCONS_CONS i) ∨
      2 ^ s.getF F.HST_RCFG_LOG2N i < ringFill (s.getF F.HST_RPROD_PROD i) p)) ∧
    (∃ (n : Fin 16) (prod p : Nat) (s : State), s.vfLive (.vf n) = true ∧ p = prod % 4294967296 ∧
      s.flag F.HST_RCFG_EN (ringIx n.val 0) = false) ∧
    (∃ (n : Fin 16) (prod p : Nat) (s : State), s.vfLive (.vf n) = true ∧ p = prod % 4294967296 ∧
      s.flag F.HST_RCFG_EN (ringIx n.val 3) = false) ∧
    (∃ (n : Fin 16) (prod p : Nat) (s : State) (r : Fin 4), s.vfLive (.vf n) = true ∧ p = prod % 4294967296 ∧ (r.val = 0 ∨
      r.val = 3 ∨ s.flag F.HST_RCFG_EN (ringIx n.val r.val) = false)) ∧
    (∃ (n : Fin 16) (s : State), n.val < s.numVfs) ∧
    (∃ (n : Fin 16) (s : State), s.numVfs ≤ n.val) :=
  ⟨⟨R.MON_SEL.base, hitSel, base [], by decide +kernel⟩,
    ⟨R.FAB_ID.base, (findRegFor .pf0 R.FAB_ID.base).getD hitSel, base [], by decide +kernel⟩,
    ⟨3, 0, 0x2C3000, ⟨R.HST_RBASE_LO, 12, false⟩, base [], by decide +kernel⟩,
    ⟨3, 52, 0x2C3034, ⟨R.HST_CQSEQ, 3, false⟩, base [], by decide +kernel⟩,
    ⟨0x40008, by decide +kernel⟩,
    ⟨3, 1, by decide +kernel⟩,
    ⟨0x3FFFFFC, by decide +kernel⟩,
    ⟨.pf0, 0x40002, 0x40002, 4, base [], by decide +kernel⟩,
    ⟨3, 2, 12, base [], by decide +kernel⟩,
    ⟨3, 2, 13, base [], by decide +kernel⟩,
    ⟨3, 0, hRing 0 4 2, by decide +kernel⟩,
    ⟨9, base [], by decide +kernel⟩,
    ⟨3, 18, 18, hRing 0 4 2, 12, by decide +kernel⟩,
    ⟨3, 19, 19, hRing 0 4 2, 12, by decide +kernel⟩,
    ⟨3, 18, 18, hRing 3 4 2, 15, by decide +kernel⟩,
    ⟨3, 19, 19, hRing 3 4 2, 15, by decide +kernel⟩,
    ⟨3, 4, 4, hRing 1 4 2, 1, 13, by decide +kernel⟩,
    ⟨3, 5, 5, hRing 1 4 2, 1, 13, by decide +kernel⟩,
    ⟨3, 5, 5, base [], by decide +kernel⟩,
    ⟨3, 5, 5, base [], by decide +kernel⟩,
    ⟨3, 5, 5, base [], 1, by decide +kernel⟩,
    ⟨3, base [], by decide +kernel⟩,
    ⟨15, { base [] with numVfs := 4 }, by decide +kernel⟩⟩

theorem wit_SlotsAndTriggers :
    (∃ (n : Fin 16) (slot : List Nat) (s : State), s.slotWaits n.val 0 = true ∧ s.vfTurn n.val = true ∧ (∀ k ∈ [12, 13, 14,
      15], slot.getD k 0 % 4294967296 = 0)) ∧
    (∃ (n : Fin 16) (s : State), (s.slotWaits n.val 0 = false ∨ s.vfTurn n.val = false)) ∧
    (∃ (n : Fin 16) (s : State) (r : List Nat) (rest : List (List Nat)) (a : Nat), (s.siteOf n.val).released = r :: rest ∧
      s.freeSlot n.val 1 32 = some a) ∧
    (∃ (n : Fin 16) (s : State), ((s.siteOf n.val).released = [] ∨ s.freeSlot n.val 1 32 = none)) ∧
    (∃ (n : Fin 16) (desc : List Nat) (s : State), ∃ r, s.slotWaits n.val 3 = true ∧ (s.siteOf n.val).siTaken = 0 ∧
      r = s.streamInCheck n.val desc ∧ r ≠ 0) ∧
    (∃ (n : Fin 16) (desc : List Nat) (s : State), s.slotWaits n.val 3 = true ∧ (s.siteOf n.val).siTaken = 0 ∧
      s.streamInCheck n.val desc = 0 ∧ bits (desc.getD 0 0) 1 0 = 1 ∧ s.waiting 2 n.val = true) ∧
    (∃ (n : Fin 16) (desc : List Nat) (data : List Byte) (s : State), s.slotWaits n.val 3 = true ∧
      (s.siteOf n.val).siTaken = 0 ∧ s.streamInCheck n.val desc = 0 ∧ (bits (desc.getD 0 0) 1 0 = 1 →
      s.waiting 2 n.val = false) ∧ s.ringFull desc 0 = false ∧ data.length = desc.getD 1 0 % 4294967296) ∧
    (∃ (n : Fin 16) (desc : List Nat) (s : State), s.slotWaits n.val 3 = true ∧ (s.siteOf n.val).siTaken = 0 ∧
      s.streamInCheck n.val desc = 0 ∧ (bits (desc.getD 0 0) 1 0 = 1 → s.waiting 2 n.val = false) ∧ s.ringFull desc 0 = true) ∧
    (∃ (n : Fin 16) (desc : List Nat) (s : State), s.vfLive (.vf n) = true ∧ (s.siteOf n.val).siTaken ≠ 0 ∧
      bits (desc.getD 0 0) 1 0 = 2 ∧ s.ringFull desc (s.siteOf n.val).siTaken = false) ∧
    (∃ (n : Fin 16) (desc : List Nat) (s : State), s.vfLive (.vf n) = true ∧ (s.siteOf n.val).siTaken ≠ 0 ∧
      bits (desc.getD 0 0) 1 0 = 2 ∧ s.ringFull desc (s.siteOf n.val).siTaken = true) ∧
    (∃ (n : Fin 16) (s : State), s.slotWaits n.val 3 = false ∧ ((s.siteOf n.val).siTaken = 0 ∨ s.vfLive (.vf n) = false)) ∧
    (∃ (b : Fin 16) (level : Bool) (s : State), hasBit s.trgIn b.val ≠ level) ∧
    (∃ (b : Fin 16) (level : Bool) (s : State), hasBit s.trgIn b.val = level) :=
  ⟨⟨3, desc0 ++ [0, 0, 0, 0], hRing 0 4 2, by decide +kernel⟩,
    ⟨3, base [], by decide +kernel⟩,
    ⟨3, sRel1, [1, 2, 3, 4, 5], [], 128, by decide +kernel⟩,
    ⟨3, base [], by decide +kernel⟩,
    ⟨3, [0, 0, 0, 0, 0, 0, 0, 0], hRing 3 4 2, 2, by decide +kernel⟩,
    ⟨3, [1, 64, 0, 0, 0, 0, 0, 0], { (hRing 3 4 2).setF F.MEM_STAT_NCH 0 8 with reqs := [req0] }, by decide +kernel⟩,
    ⟨3, [0, 8, 0, 0, 0, 0, 0, 0], [1, 2, 3, 4, 5, 6, 7, 8], hRing 3 4 2, by decide +kernel⟩,
    ⟨3, [2, 4096, 0, 0, 0, 0, 0, 0], (hRing 3 4 2).setF F.OCT_WFRING_RSIZE 0 1, by decide +kernel⟩,
    ⟨3, [2, 4096, 0, 0, 0, 0, 0, 0],
      ((hRing 3 4 2).setF F.OCT_WFRING_RSIZE 0 8).setSite 3 { ({} : SiteSt) with siTaken := 1 }, by decide +kernel⟩,
    ⟨3, [2, 40960, 0, 0, 0, 0, 0, 0],
      ((hRing 3 4 2).setF F.OCT_WFRING_RSIZE 0 1).setSite 3 { ({} : SiteSt) with siTaken := 1 }, by decide +kernel⟩,
    ⟨3, base [], by decide +kernel⟩,
    ⟨2, true, base [], by decide +kernel⟩,
    ⟨2, false, base [], by decide +kernel⟩⟩

end Sys2Proof.Tests
end

section
/-! SUPPORT. The canonical form of a sparse table as a property of its list of entries, and the bulk operations that keep it. -/

namespace Sys2Proof.Tbl

variable {α β : Type} {d : Nat → α} {m : Tbl α}

theorem rising_iff {o : Option Nat} :
    rising o m = true ↔ (∀ b, o = some b → ∀ p ∈ m, b < p.1) ∧ m.Pairwise (fun p q => p.1 < q.1) := by
  induction m generalizing o with
  | nil => simp [rising]
  | cons p t ih =>
    simp only [rising, Bool.and_eq_true, ih, List.pairwise_cons, List.mem_cons, forall_eq_or_imp, Option.some.injEq,
      forall_eq']
    cases o with
    | none => simp
    | some b =>
      simp only [decide_eq_true_eq, Option.some.injEq, forall_eq']
      exact ⟨fun ⟨hb, hp, ht⟩ => ⟨⟨hb, fun q hq => hb.trans (hp q hq)⟩, hp, ht⟩, fun ⟨⟨hb, _⟩, hp, ht⟩ => ⟨hb, hp, ht⟩⟩

theorem lean_iff [DecidableEq α] : lean d m = true ↔ ∀ p ∈ m, p.2 ≠ d p.1 := by
  induction m with
  | nil => simp [lean]
  | cons p t ih => simp [lean, ih]

/-- A table is canonical when its keys rise and no entry holds what an unlisted key reads as. -/
theorem wf_iff [DecidableEq α] :
    wf d m = true ↔ m.Pairwise (fun p q => p.1 < q.1) ∧ ∀ p ∈ m, p.2 ≠ d p.1 := by
  simp [wf, rising_iff, lean_iff]

/-- A run of writes keeps the canonical form. -/
theorem wf_foldl_set [DecidableEq α] (l : List β) {k : β → Nat} {v : β → α} (h : wf d m = true) :
    wf d (l.foldl (fun t x => set d t (k x) (v x)) m) = true := by
  induction l generalizing m with
  | nil => exact h
  | cons x l ih => exact ih (wf_set _ _ h)

/-- Entries that stay at their keys, without the value of an unlisted key, keep the canonical form. -/
theorem wf_filterMap [DecidableEq α] {f : Nat × α → Option (Nat × α)} (hk : ∀ p q, f p = some q → q.1 = p.1)
    (hv : ∀ p q, f p = some q → q.2 ≠ d q.1) (h : wf d m = true) : wf d (m.filterMap f) = true := by
  rw [wf_iff] at h ⊢
  constructor
  · refine List.pairwise_filterMap.2 (h.1.imp ?_)
    intro p q hpq p' hp q' hq
    rw [hk p p' hp, hk q q' hq]
    exact hpq
  · intro q hq
    obtain ⟨p, -, hp⟩ := List.mem_filterMap.1 hq
    exact hv p q hp

/-- A list of words laid out from address `b`, as far as they are listed. -/
theorem wf_zipIdx_filterMap [DecidableEq α] {l : List β} {f : β × Nat → Option (Nat × α)} (b : Nat)
    (hf : ∀ p q, f p = some q → q.1 = b + p.2 ∧ q.2 ≠ d q.1) : wf d (l.zipIdx.filterMap f) = true := by
  have hl : l.zipIdx.Pairwise (fun p q => p.2 < q.2) := by
    have h : (l.zipIdx.map Prod.snd).Pairwise (· < ·) := by
      rw [List.zipIdx_map_snd]
      exact List.pairwise_lt_range'
    exact List.pairwise_map.1 h
  rw [wf_iff]
  constructor
  · refine List.pairwise_filterMap.2 (hl.imp ?_)
    intro p q hpq p' hp q' hq
    rw [(hf p p' hp).1, (hf q q' hq).1]
    omega
  · intro q hq
    obtain ⟨p, -, hp⟩ := List.mem_filterMap.1 hq
    exact (hf p q hp).2

/-- Canonical tables one after the other, each with its keys below those of the next. -/
theorem wf_append [DecidableEq α] {n : Tbl α} (hm : wf d m = true) (hn : wf d n = true)
    (h : ∀ p ∈ m, ∀ q ∈ n, p.1 < q.1) : wf d (m ++ n) = true := by
  rw [wf_iff] at hm hn ⊢
  refine ⟨List.pairwise_append.2 ⟨hm.1, hn.1, h⟩, ?_⟩
  intro p hp
  rcases List.mem_append.1 hp with hp | hp
  · exact hm.2 p hp
  · exact hn.2 p hp

end Sys2Proof.Tbl
end

section
/-! SUPPORT. The relation "what was canonical stays so" between two states. It holds over each elementary update of the state;
the sections below carry it, operation by operation in the order of the model, to every command. A lemma takes what is known
up to the state it starts from, so the updates of an operation follow each other with dots as they do in its definition. -/

namespace Sys2Proof.Machine

/-! ### The relation -/

/-- From `s` to `t` every table that was canonical is so still, and the same commands wait. -/
structure Keeps (s t : State) : Prop where
  regs : s.regsWf = true → t.regsWf = true
  mems : s.memsWf = true → t.memsWf = true
  stores : s.storesWf = true → t.storesWf = true
  units : s.unitsWf = true → t.unitsWf = true
  pending : t.pending = s.pending

/-- The command ends in a state to which `s` leads so. -/
def Ends (s : State) (r : Res) : Prop := ∃ t, r = .next t ∧ Keeps s t

variable {s₀ s t : State}

theorem Keeps.refl (s : State) : Keeps s s :=
  ⟨id, id, id, id, rfl⟩

/-- What is no table may change. -/
theorem Keeps.frame (h : Keeps s₀ s) {time : TimeSt} {fab : FabSt} {ready : List Item} {serial mon0 : Nat} {reqs : List MemReq}
    {openRow : Tbl (Option (Nat × Nat))} {sumac : SumacSt} {nutmeg : NutmegSt} {boot : BootSt} {numVfs msixEn : Nat}
    {evAt : Tbl (Option (Time × Bool))} {winAt prodAt : Tbl (Nat × Nat)} {trgIn : Nat} {warm : Bool} {tap : JtagIns} {free : Nat}
    {out : List Out} :
    Keeps s₀ { s with
      time := time, fab := fab, ready := ready, serial := serial, mon0 := mon0, reqs := reqs, openRow := openRow,
      sumac := sumac, nutmeg := nutmeg, boot := boot, numVfs := numVfs, msixEn := msixEn, evAt := evAt, winAt := winAt,
      prodAt := prodAt, trgIn := trgIn, warm := warm, tap := tap, free := free, out := out } :=
  ⟨h.regs, h.mems, h.stores, h.units, h.pending⟩

theorem Keeps.ok (h : Keeps s₀ s) : Ends s₀ (ok s) := ⟨s, rfl, h⟩

theorem Keeps.ite {c : Prop} [Decidable c] (hs : Keeps s₀ s) (ht : Keeps s₀ t) : Keeps s₀ (if c then s else t) := by
  split
  · exact hs
  · exact ht

theorem Ends.ite {c : Prop} [Decidable c] {q r : Res} (hq : Ends s₀ q) (hr : Ends s₀ r) : Ends s₀ (if c then q else r) := by
  split
  · exact hq
  · exact hr

/-- What each element keeps, the whole list keeps. -/
theorem Keeps.foldl {α : Type} {l : List α} {f : State → α → State} (h : Keeps s₀ s)
    (hf : ∀ {a x}, Keeps s₀ a → Keeps s₀ (f a x)) : Keeps s₀ (l.foldl f s) := by
  induction l generalizing s with
  | nil => exact h
  | cons x l ih => exact ih (hf h)

/-! ### The elementary updates -/

theorem Keeps.putRegs (h : Keeps s₀ s) {reg live init initLive : FMap}
    (hw : s.regsWf = true → ({ s with reg := reg, live := live, init := init, initLive := initLive } : State).regsWf = true) :
    Keeps s₀ { s with reg := reg, live := live, init := init, initLive := initLive } :=
  { h with regs := hw ∘ h.regs }

theorem Keeps.putMems (h : Keeps s₀ s) {bb acqMem dram nvm psbuf : Tbl Byte} {wear : Tbl Nat}
    (hw : s.memsWf = true →
      ({ s with bb := bb, acqMem := acqMem, dram := dram, nvm := nvm, psbuf := psbuf, wear := wear } : State).memsWf = true) :
    Keeps s₀ { s with bb := bb, acqMem := acqMem, dram := dram, nvm := nvm, psbuf := psbuf, wear := wear } :=
  { h with mems := hw ∘ h.mems }

theorem Keeps.putStores (h : Keeps s₀ s) {cstore mirror tstore : Tbl Nat}
    (hw : s.storesWf = true → ({ s with cstore := cstore, mirror := mirror, tstore := tstore } : State).storesWf = true) :
    Keeps s₀ { s with cstore := cstore, mirror := mirror, tstore := tstore } :=
  { h with stores := hw ∘ h.stores }

theorem Keeps.putUnits
    (h : Keeps s₀ s) {eng : Tbl EngSt} {chan : Tbl ChanSt} {oct : Tbl OctSt} {site : Tbl SiteSt} {port : Tbl PortSt}
    {mon : Tbl MonSt} {stream : Tbl StreamSt}
    (hw : s.unitsWf = true → ({ s with
      eng := eng, chan := chan, oct := oct, site := site, port := port, mon := mon, stream := stream } : State).unitsWf = true) :
    Keeps s₀ { s with eng := eng, chan := chan, oct := oct, site := site, port := port, mon := mon, stream := stream } :=
  { h with units := hw ∘ h.units }

theorem Keeps.setF (h : Keeps s₀ s) {f : Fld} {i v : Nat} : Keeps s₀ (s.setF f i v) :=
  h.putRegs fun w => by simp_all [State.regsWf, FMap.set, Tbl.wf_set]

theorem Keeps.setL (h : Keeps s₀ s) {f : Fld} {i v : Nat} : Keeps s₀ (s.setL f i v) :=
  h.putRegs fun w => by simp_all [State.regsWf, FMap.set, Tbl.wf_set]

theorem Keeps.setEng (h : Keeps s₀ s) {e : Nat} {v : EngSt} : Keeps s₀ (s.setEng e v) :=
  h.putUnits fun w => by simp_all [State.unitsWf, Tbl.wf_set]

theorem Keeps.setChan (h : Keeps s₀ s) {c : Nat} {v : ChanSt} : Keeps s₀ (s.setChan c v) :=
  h.putUnits fun w => by simp_all [State.unitsWf, Tbl.wf_set]

theorem Keeps.setOct (h : Keeps s₀ s) {o : Nat} {v : OctSt} : Keeps s₀ (s.setOct o v) :=
  h.putUnits fun w => by simp_all [State.unitsWf, Tbl.wf_set]

theorem Keeps.setSite (h : Keeps s₀ s) {x : Nat} {v : SiteSt} : Keeps s₀ (s.setSite x v) :=
  h.putUnits fun w => by simp_all [State.unitsWf, Tbl.wf_set]

theorem Keeps.setPort (h : Keeps s₀ s) {k : Nat} {v : PortSt} : Keeps s₀ (s.setPort k v) :=
  h.putUnits fun w => by simp_all [State.unitsWf, Tbl.wf_set]

theorem Keeps.setMon (h : Keeps s₀ s) {k : Nat} {v : MonSt} : Keeps s₀ (s.setMon k v) :=
  h.putUnits fun w => by simp_all [State.unitsWf, Tbl.wf_set]

theorem Keeps.setStream (h : Keeps s₀ s) {k : Nat} {v : StreamSt} : Keeps s₀ (s.setStream k v) :=
  h.putUnits fun w => by simp_all [State.unitsWf, Tbl.wf_set]

end Sys2Proof.Machine
end

section
/-! SUPPORT. Every operation keeps the canonical form: the operations that the chapters share. -/

namespace Sys2Proof.Machine

variable {s₀ s t : State}

/-! ### Sys2Proof/Machine/Ops.lean -/

theorem Keeps.addF (h : Keeps s₀ s) {f : Fld} {i n : Nat} : Keeps s₀ (s.addF f i n) :=
  h.setF

theorem Keeps.incF (h : Keeps s₀ s) {f : Fld} {i : Nat} : Keeps s₀ (s.incF f i) :=
  h.addF

theorem Keeps.satF (h : Keeps s₀ s) {f : Fld} {i n : Nat} : Keeps s₀ (s.satF f i n) :=
  h.setF

theorem Keeps.setFs (h : Keeps s₀ s) {i : Nat} {l : List (Fld × Nat)} : Keeps s₀ (s.setFs i l) :=
  h.foldl (·.setF)

theorem Keeps.setAll (h : Keeps s₀ s) {f : Fld} {l : List Nat} {v : Nat} : Keeps s₀ (s.setAll f l v) :=
  h.foldl (·.setF)

theorem Keeps.modEng (h : Keeps s₀ s) {e : Nat} {f : EngSt → EngSt} : Keeps s₀ (s.modEng e f) :=
  h.setEng

theorem Keeps.modChan (h : Keeps s₀ s) {c : Nat} {f : ChanSt → ChanSt} : Keeps s₀ (s.modChan c f) :=
  h.setChan

theorem Keeps.modOct (h : Keeps s₀ s) {o : Nat} {f : OctSt → OctSt} : Keeps s₀ (s.modOct o f) :=
  h.setOct

theorem Keeps.modSite (h : Keeps s₀ s) {x : Nat} {f : SiteSt → SiteSt} : Keeps s₀ (s.modSite x f) :=
  h.setSite

theorem Keeps.modPort (h : Keeps s₀ s) {k : Nat} {f : PortSt → PortSt} : Keeps s₀ (s.modPort k f) :=
  h.setPort

theorem Keeps.modLane (h : Keeps s₀ s) {c : Nat} {f : LaneSt → LaneSt} : Keeps s₀ (s.modLane c f) :=
  h.modChan

theorem Keeps.modTdc (h : Keeps s₀ s) {c : Nat} {f : TdcSt → TdcSt} : Keeps s₀ (s.modTdc c f) :=
  h.modChan

theorem Keeps.modAcq (h : Keeps s₀ s) {c : Nat} {f : AcqSt → AcqSt} : Keeps s₀ (s.modAcq c f) :=
  h.modChan

theorem Keeps.modWave (h : Keeps s₀ s) {o : Nat} {f : WaveSt → WaveSt} : Keeps s₀ (s.modWave o f) :=
  h.modOct

theorem Keeps.modCap (h : Keeps s₀ s) {x : Nat} {f : CapSt → CapSt} : Keeps s₀ (s.modCap x f) :=
  h.modSite

theorem Keeps.modSaf (h : Keeps s₀ s) {x : Nat} {f : SafSt → SafSt} : Keeps s₀ (s.modSaf x f) :=
  h.modSite

theorem Keeps.log (h : Keeps s₀ s) {o : Out} : Keeps s₀ (s.log o) :=
  h.frame

theorem Keeps.logs (h : Keeps s₀ s) {l : List Out} : Keeps s₀ (s.logs l) :=
  h.frame

theorem Keeps.drawn (h : Keeps s₀ s) : Keeps s₀ s.drawn :=
  h.frame

theorem Keeps.setNow (h : Keeps s₀ s) {v : Nat} : Keeps s₀ (s.setNow v) :=
  h.setF.setF.setF

theorem Keeps.msix (h : Keeps s₀ s) {f k : Nat} : Keeps s₀ (s.msix f k) :=
  h.log.ite h.setF

theorem Keeps.noteEv (h : Keeps s₀ s) {f k : Nat} : Keeps s₀ (s.noteEv f k) :=
  h.frame

theorem Keeps.raise (h : Keeps s₀ s) {f k : Nat} : Keeps s₀ (s.raise f k) := by
  unfold State.raise
  extract_lets _ s1
  have h1 : Keeps s₀ s1 := h.noteEv.setF
  exact h.noteEv.ite (h1.ite h1.msix)

theorem Keeps.raiseVf (h : Keeps s₀ s) {x k : Nat} : Keeps s₀ (s.raiseVf x k) :=
  h.raise

theorem Keeps.raisePf (h : Keeps s₀ s) {k : Nat} : Keeps s₀ (s.raisePf k) :=
  h.raise

theorem Keeps.hstErr (h : Keeps s₀ s) {f : Nat} {b : Fld} : Keeps s₀ (s.hstErr f b) := by
  unfold State.hstErr
  extract_lets s1
  have h1 : Keeps s₀ s1 := h.setF
  exact h1.raise.ite h1

theorem Keeps.conflict (h : Keeps s₀ s) {x lsrc wsrc addr : Nat} : Keeps s₀ (s.conflict x lsrc wsrc addr) :=
  h.setFs.incF

theorem Keeps.order (h : Keeps s₀ s) {x : Nat} {o : Order} {act lose : State → Res}
    (ha : ∀ {a}, Keeps s₀ a → Ends s₀ (act a)) (hl : ∀ {a}, Keeps s₀ a → Ends s₀ (lose a)) :
    Ends s₀ (s.order x o act lose) := by
  unfold State.order
  extract_lets
  split
  · exact hl h.conflict
  · exact ha (h.foldl (·.conflict)).modSite

theorem Keeps.hostOrder (h : Keeps s₀ s) {fn : Fn} {own : Bool} {d : RegDesc} {ix val : Nat} {act : State → Res}
    (ha : ∀ {a}, Keeps s₀ a → Ends s₀ (act a)) : Ends s₀ (s.hostOrder fn own d ix val act) := by
  unfold State.hostOrder
  split
  · exact ha h
  · exact (h.order ha (·.ok)).ite (ha h)

/-! ### Sys2Proof/Machine/NvmOps.lean -/

theorem Keeps.nvmPut (h : Keeps s₀ s) {a : Nat} {l : List Byte} : Keeps s₀ (s.nvmPut a l) := by
  unfold State.nvmPut
  extract_lets pg n m s1
  have h1 : Keeps s₀ s1 := h.putMems fun w => by simp_all [State.memsWf, m, Tbl.wf_set, Tbl.wf_foldl_set]
  exact h1.setF.ite h1

theorem Keeps.nvmRecord (h : Keeps s₀ s) {kind a n : Nat} {l : List Nat} : Keeps s₀ (s.nvmRecord kind a n l) :=
  h.nvmPut

theorem Keeps.nvmCut (h : Keeps s₀ s) {a : Nat} : Keeps s₀ (s.nvmCut a) :=
  h.frame.nvmPut

theorem Keeps.putIntent (h : Keeps s₀ s) {i : RecIntent} : Keeps s₀ (s.putIntent i) :=
  h.frame.nvmRecord

theorem Keeps.intentCut (h : Keeps s₀ s) {q : Nat} : Keeps s₀ (s.intentCut q) :=
  h.frame.nvmCut

theorem Keeps.putSnap (h : Keeps s₀ s) {p : RecSnap} : Keeps s₀ (s.putSnap p) :=
  h.frame.nvmRecord

theorem Keeps.snapCut (h : Keeps s₀ s) {q : Nat} : Keeps s₀ (s.snapCut q) :=
  h.frame.nvmCut

theorem Keeps.recSet (h : Keeps s₀ s) {i : RecIntent} : Keeps s₀ (s.recSet i) :=
  h.setF

theorem Keeps.recChange (h : Keeps s₀ s) {k : Nat} {base : Bool} {val : Nat} : Keeps s₀ (s.recChange k base val) :=
  h.putIntent.recSet.putSnap

theorem Keeps.faultLog (h : Keeps s₀ s) {typ unit : Nat} : Keeps s₀ (s.faultLog typ unit) :=
  h.incF.ite h.frame.nvmPut.setF.incF

/-! ### Sys2Proof/Machine/LaneCode.lean -/

theorem Keeps.sendLine (h : Keeps s₀ s) {k tag : Nat} {ws : List Nat} : Keeps s₀ (s.sendLine k tag ws) :=
  h.modPort.log

theorem Keeps.sendFlash (h : Keeps s₀ s) {copy : Bool} {k w : Nat} : Keeps s₀ (s.sendFlash copy k w) :=
  h.log.sendLine.ite h.log.sendLine

theorem Keeps.sendLink (h : Keeps s₀ s) {k : Nat} {ack : Bool} {n : Nat} : Keeps s₀ (s.sendLink k ack n) :=
  h.log.sendLine

theorem Keeps.sendCell (h : Keeps s₀ s) {k n : Nat} {c : Cell} : Keeps s₀ (s.sendCell k n c) :=
  h.log.sendLine

/-! ### Sys2Proof/Machine/FabOps.lean -/

theorem Keeps.flashPass (h : Keeps s₀ s) {inp p w : Nat} : Keeps s₀ (s.flashPass inp p w) :=
  (h.foldl (·.frame.modPort)).modPort.foldl (·.modPort.sendFlash)

theorem Keeps.flashOn (h : Keeps s₀ s) {src : Option Nat} {k w : Nat} : Keeps s₀ (s.flashOn src k w) := by
  unfold State.flashOn
  split
  · refine .ite ?_ h
    split
    · exact h.flashPass
    · exact h.sendFlash
  · exact h

theorem Keeps.flashTree (h : Keeps s₀ s) {src : Option Nat} {w : Nat} : Keeps s₀ (s.flashTree src w) :=
  h.foldl (·.flashOn)

theorem Keeps.flashSystem (h : Keeps s₀ s) {w : Nat} : Keeps s₀ (s.flashSystem w) :=
  (h.foldl (·.flashOn)).flashTree

theorem Keeps.flashForward (h : Keeps s₀ s) {port w : Nat} : Keeps s₀ (s.flashForward port w) :=
  ((h.foldl (fun ha => ha.flashOn.ite ha)).flashTree).ite (h.foldl (fun ha => ha.flashOn.ite ha))

theorem Keeps.awakeCheck (h : Keeps s₀ s) : Keeps s₀ s.awakeCheck :=
  h.setF.ite h

theorem Keeps.wakeTones (h : Keeps s₀ s) : Keeps s₀ s.wakeTones :=
  (h.foldl (fun ha => ha.log.setF.ite ha)).awakeCheck

theorem Keeps.giveUpSleep (h : Keeps s₀ s) : Keeps s₀ s.giveUpSleep :=
  h.setF.setF.frame

theorem Keeps.cancelSleep (h : Keeps s₀ s) : Keeps s₀ s.cancelSleep :=
  h.flashTree.giveUpSleep

theorem Keeps.holdWake (h : Keeps s₀ s) : Keeps s₀ s.holdWake :=
  h.ite h.frame

theorem Keeps.wakeRequest (h : Keeps s₀ s) : Keeps s₀ s.wakeRequest := by
  unfold State.wakeRequest
  extract_lets
  refine h.wakeTones.ite ?_
  refine .ite ?_ (h.holdWake.ite h)
  split
  · exact h.cancelSleep.ite h.holdWake
  · exact h

theorem Keeps.flashSend (h : Keeps s₀ s) {w : Nat} : Keeps s₀ (s.flashSend w) := by
  unfold State.flashSend
  extract_lets s1
  have h1 : Keeps s₀ s1 := h.flashTree
  exact h1.wakeRequest.ite h1

theorem Keeps.siteFlash (h : Keeps s₀ s) {x ftype code tag : Nat} : Keeps s₀ (s.siteFlash x ftype code tag) :=
  h.modSite.flashSend.ite h.modSite.incF

theorem Keeps.faultWord (h : Keeps s₀ s) {x : Nat} : Keeps s₀ (s.faultWord x) :=
  h.ite h.flashSend

theorem Keeps.cellOn (h : Keeps s₀ s) {k : Nat} {c : Cell} : Keeps s₀ (s.cellOn k c) :=
  h.modPort.sendCell

theorem Keeps.portCell (h : Keeps s₀ s) {k : Nat} {c : Cell} : Keeps s₀ (s.portCell k c) :=
  h.cellOn.ite h.modPort

theorem Keeps.route (h : Keeps s₀ s) {c : Cell} : Keeps s₀ (s.route c) := by
  unfold State.route
  split
  · exact h.frame
  · extract_lets _ s1
    have h1 : Keeps s₀ s1 := h.modPort
    exact h.portCell.ite (h1.wakeRequest.ite h1)

theorem Keeps.cellMade (h : Keeps s₀ s) {cls dst : Nat} : Keeps s₀ (s.cellMade cls dst) :=
  h.drawn.frame

theorem Keeps.send (h : Keeps s₀ s) {cls dst : Nat} {m : Msg} : Keeps s₀ (s.send cls dst m) :=
  h.cellMade.route

theorem Keeps.sendSite (h : Keeps s₀ s) {x dst : Nat} {m : Msg} : Keeps s₀ (s.sendSite x dst m) := by
  unfold State.sendSite
  extract_lets _ s1
  have h1 : Keeps s₀ s1 := h.cellMade
  exact h1.modSite.route.ite h1.modSite.incF

theorem Keeps.sendMembers (h : Keeps s₀ s) {x : Nat} {m : Msg} : Keeps s₀ (s.sendMembers x m) :=
  h.foldl (·.sendSite)

/-! ### Sys2Proof/Machine/FaultOps.lean -/

theorem Keeps.setSrcs (h : Keeps s₀ s) {k v : Nat} : Keeps s₀ (s.setSrcs k v) := by
  unfold State.setSrcs
  extract_lets s1
  have h1 : Keeps s₀ s1 := h.setF
  exact h1.setF.ite h1

theorem Keeps.pendSafe (h : Keeps s₀ s) {x : Nat} : Keeps s₀ (s.pendSafe x) := by
  unfold State.pendSafe
  refine h.foldl fun ha => ?_
  split
  · exact ha.setF.ite ha
  · exact ha

theorem Keeps.safeIval (h : Keeps s₀ s) {x : Nat} {enter : Bool} : Keeps s₀ (s.safeIval x enter) :=
  h.frame

theorem Keeps.siteSafeBit (h : Keeps s₀ s) {x : Nat} {v : Bool} : Keeps s₀ (s.siteSafeBit x v) := by
  unfold State.siteSafeBit
  extract_lets _ s1 s2
  have h1 : Keeps s₀ s1 := h.setF
  have h2 : Keeps s₀ s2 := h1.setF.pendSafe.safeIval
  exact (h2.raiseVf.ite h2).ite (h1.setF.safeIval.ite h1)

theorem Keeps.sumacShow (h : Keeps s₀ s) : Keeps s₀ s.sumacShow := by
  unfold State.sumacShow
  extract_lets _ _ s1 _ s3 _ s4
  have h1 : Keeps s₀ s1 := h.setF.setF.setF
  have h3 : Keeps s₀ s3 := (h1.raisePf.ite h1).foldl (·.siteSafeBit)
  have h4 : Keeps s₀ s4 := h3.setF
  exact h3.ite (h4.log.ite h4)

theorem Keeps.faultWords (h : Keeps s₀ s) {k b : Nat} : Keeps s₀ (s.faultWords k b) := by
  unfold State.faultWords
  extract_lets s1
  have h1 : Keeps s₀ s1 := h.wakeRequest
  exact (h1.foldl (·.faultWord)).ite (h1.ite h1.faultWord)

theorem Keeps.stick (h : Keeps s₀ s) {k b : Nat} : Keeps s₀ (s.stick k b) :=
  h.setF

theorem Keeps.stopQuiet (h : Keeps s₀ s) {k : Nat} : Keeps s₀ (s.stopQuiet k) :=
  h.setF.frame

theorem Keeps.wireUnder (h : Keeps s₀ s) {k b : Nat} {v : Bool} : Keeps s₀ (s.wireUnder k b v) :=
  h.frame

theorem Keeps.sourceOn (h : Keeps s₀ s) {k b : Nat} : Keeps s₀ (s.sourceOn k b) :=
  h.wireUnder.ite h.setSrcs.stick.stopQuiet.faultWords.sumacShow

theorem Keeps.sourceOff (h : Keeps s₀ s) {k b : Nat} : Keeps s₀ (s.sourceOff k b) := by
  unfold State.sourceOff
  refine h.wireUnder.ite ?_
  refine .ite ?_ h
  extract_lets s1
  have h1 : Keeps s₀ s1 := h.setSrcs
  exact (h1.setF.ite h1).sumacShow

theorem Keeps.bootOver (h : Keeps s₀ s) : Keeps s₀ s.bootOver :=
  h.wireUnder.ite h.setSrcs.sumacShow

theorem Keeps.sourcePulse (h : Keeps s₀ s) {k b : Nat} : Keeps s₀ (s.sourcePulse k b) := by
  unfold State.sourcePulse
  extract_lets s1 s2
  have h1 : Keeps s₀ s1 := h.stick.stopQuiet
  have h2 : Keeps s₀ s2 := h1.ite h1.faultWords
  exact (h2.setF.ite h2).sumacShow

theorem Keeps.siteFault (h : Keeps s₀ s) {x b : Nat} : Keeps s₀ (s.siteFault x b) :=
  h.sourcePulse.ite h.sourceOn

/-! ### Sys2Proof/Machine/BeatOps.lean -/

theorem Keeps.vstat (h : Keeps s₀ s) {ch : Nat} {f : Nat → State → State}
    (hf : ∀ {k a}, Keeps s₀ a → Keeps s₀ (f k a)) : Keeps s₀ (s.vstat ch f) := by
  unfold State.vstat
  extract_lets
  split
  · exact hf (hf h)
  · exact hf h

/-! ### Sys2Proof/Machine/DispOps.lean -/

theorem Keeps.arise (h : Keeps s₀ s) {i : Item} {status code eng reason reln : Nat} {dbl final frees : Bool} :
    Keeps s₀ (s.arise i status code eng reason reln dbl final frees) := by
  unfold State.arise
  exact h.modSite

theorem Keeps.setUsed (h : Keeps s₀ s) {x n : Nat} : Keeps s₀ (s.setUsed x n) :=
  h.setF.setF

theorem Keeps.depth (h : Keeps s₀ s) {x p : Nat} {up : Bool} : Keeps s₀ (s.depth x p up) :=
  h.setF

theorem Keeps.stopCheck (h : Keeps s₀ s) {x : Nat} : Keeps s₀ (s.stopCheck x) :=
  h.setF.ite h

theorem Keeps.idleRefused (h : Keeps s₀ s) : Keeps s₀ s.idleRefused :=
  h.frame.setF.setF.ite h

theorem Keeps.bindTo (h : Keeps s₀ s) {i : Item} {e : Nat} : Keeps s₀ (s.bindTo i e) :=
  h.frame.depth.satF.idleRefused

theorem Keeps.preempt (h : Keeps s₀ s) : Keeps s₀ s.preempt := by
  unfold State.preempt
  refine h.foldl fun ha => ?_
  refine .ite ?_ ha
  split
  · exact ha.bindTo.setF
  · exact ha

theorem Keeps.yieldBind (h : Keeps s₀ s) {e : Nat} : Keeps s₀ (s.yieldBind e) := by
  unfold State.yieldBind
  refine h.ite ?_
  split
  · exact h.bindTo
  · exact h

theorem Keeps.yieldUndo (h : Keeps s₀ s) {e : Nat} : Keeps s₀ (s.yieldUndo e) :=
  h.frame.foldl (·.depth)

theorem Keeps.numbered (h : Keeps s₀ s) : Keeps s₀ s.numbered :=
  h.frame

theorem Keeps.enter (h : Keeps s₀ s) {i : Item} : Keeps s₀ (s.enter i) := by
  unfold State.enter
  extract_lets _ s1
  have h1 : Keeps s₀ s1 := h.numbered.setUsed.modSite
  exact h1.arise.ite h1.frame.depth.preempt

theorem Keeps.reject (h : Keeps s₀ s) {i : Item} {reason : Nat} : Keeps s₀ (s.reject i reason) :=
  h.numbered.setF.incF.arise

theorem Keeps.takeItem (h : Keeps s₀ s) {i : Item} : Keeps s₀ (s.takeItem i) := by
  unfold State.takeItem
  split
  · exact h.enter
  · exact h.reject

theorem Keeps.creditBack (h : Keeps s₀ s) {x chip : Nat} : Keeps s₀ (s.creditBack x chip) :=
  h.sendSite

theorem Keeps.autoNext (h : Keeps s₀ s) {x : Nat} : Keeps s₀ (s.autoNext x) := by
  unfold State.autoNext
  split
  · exact h
  · exact h.frame.takeItem

theorem Keeps.serve (h : Keeps s₀ s) {x n : Nat} : Keeps s₀ (State.serve x n s) := by
  induction n generalizing s with
  | zero => exact h
  | succ n ih =>
    unfold State.serve
    refine .ite (ih ?_) h
    split
    · exact h.autoNext
    · exact h.modSite.takeItem.creditBack

theorem Keeps.fabricNext (h : Keeps s₀ s) {x : Nat} : Keeps s₀ (s.fabricNext x) :=
  h.serve

theorem Keeps.release (h : Keeps s₀ s) {x : Nat} : Keeps s₀ (s.release x) := by
  unfold State.release
  refine .ite ?_ h
  split
  · exact h
  · extract_lets s1
    have h1 : Keeps s₀ s1 := h.modSite
    exact h1.setUsed.fabricNext.ite h1

theorem Keeps.countDown (h : Keeps s₀ s) {f : Fld} {x : Nat} : Keeps s₀ (s.countDown f x) :=
  h.setF

theorem Keeps.setQuota (h : Keeps s₀ s) {x m : Nat} : Keeps s₀ (s.setQuota x m) :=
  h.setF.foldl (fun ha => ha.setFs.ite ha.setFs)

theorem Keeps.joinNow (h : Keeps s₀ s) {e : Nat} : Keeps s₀ (s.joinNow e) := by
  unfold State.joinNow
  extract_lets
  split
  · exact h.ite h.setQuota.modEng
  · exact h

theorem Keeps.dropBurst (h : Keeps s₀ s) {e : Nat} : Keeps s₀ (s.dropBurst e) := by
  unfold State.dropBurst
  extract_lets _ _ _ s2
  have h2 : Keeps s₀ s2 := h.setEng.setFs
  exact (h2.ite h2.setF).joinNow

theorem Keeps.endBurst (h : Keeps s₀ s) {e status code : Nat} {dbl : Bool} : Keeps s₀ (s.endBurst e status code dbl) := by
  unfold State.endBurst
  extract_lets
  split
  · exact h
  · extract_lets s1
    have h1 : Keeps s₀ s1 := h.arise
    exact (h1.countDown.ite h1).dropBurst.stopCheck.preempt

/-! ### Sys2Proof/Machine/MemOps.lean -/

theorem Keeps.setDram (h : Keeps s₀ s) {a : Nat} {v : Byte} : Keeps s₀ (s.setDram a v) :=
  h.putMems fun w => by simp_all [State.memsWf, Tbl.wf_set]

theorem Keeps.mirrorLose (h : Keeps s₀ s) {d : Nat} : Keeps s₀ (s.mirrorLose d) :=
  h.frame

theorem Keeps.mirrorUe (h : Keeps s₀ s) {e a : Nat} : Keeps s₀ (s.mirrorUe e a) :=
  h.ite h.drawn.addF.setFs

theorem Keeps.vsFor (h : Keeps s₀ s) {k x : Nat} : Keeps s₀ (s.vsFor k x) :=
  h.setFs.setStream.ite h

theorem Keeps.dcWake (h : Keeps s₀ s) {dc : Nat} : Keeps s₀ (s.dcWake dc) :=
  h.setF

theorem Keeps.enqueue (h : Keeps s₀ s) {r : MemReq} : Keeps s₀ (s.enqueue r) :=
  h.frame.dcWake

theorem Keeps.requestAt (h : Keeps s₀ s) {dc : Nat} : Keeps s₀ (s.requestAt dc) :=
  h.enqueue

theorem Keeps.request (h : Keeps s₀ s) {cls x a : Nat} {slot : Option (Nat × Nat × Nat)} {page : Option (Nat × Nat)} :
    Keeps s₀ (s.request cls x a slot page) :=
  h.enqueue

theorem Keeps.traffic (h : Keeps s₀ s) {cls x a n : Nat} : Keeps s₀ (s.traffic cls x a n) :=
  h.foldl (·.request)

theorem Keeps.zeroTraffic (h : Keeps s₀ s) {x : Nat} {l : List Nat} : Keeps s₀ (s.zeroTraffic x l) :=
  h.foldl (·.traffic)

theorem Keeps.rowTouch (h : Keeps s₀ s) {cls : Nat} {p : DramPos} : Keeps s₀ (s.rowTouch cls p) :=
  h.frame

theorem Keeps.memServe (h : Keeps s₀ s) {r : MemReq} : Keeps s₀ (s.memServe r) := by
  unfold State.memServe
  exact (h.ite h.rowTouch).modSite

/-! ### Sys2Proof/Machine/SeqOps.lean -/

theorem Keeps.setStore (h : Keeps s₀ s) {e a v : Nat} : Keeps s₀ (s.setStore e a v) :=
  h.putStores fun w => by simp_all [State.storesWf, Tbl.wf_set]

theorem Keeps.setVa (h : Keeps s₀ s) {e k v : Nat} : Keeps s₀ (s.setVa e k v) :=
  h.setFs

theorem Keeps.restoreUndo (h : Keeps s₀ s) {e : Nat} {u : Undo} : Keeps s₀ (s.restoreUndo e u) :=
  (((h.foldl (·.setF)).foldl (·.setVa)).foldl (·.setF)).setF

theorem Keeps.showRun (h : Keeps s₀ s) {e : Nat} {rep : Bool} : Keeps s₀ (s.showRun e rep) :=
  h.setF

theorem Keeps.dropWordSpan (h : Keeps s₀ s) {x e : Nat} {t : Time} : Keeps s₀ (s.dropWordSpan x e t) :=
  h.modCap

theorem Keeps.takeExc (h : Keeps s₀ s) {e code cause trapn epc : Nat} {ds ms : Bool} {btgt : Nat} {hs : Time} {vidx : Nat} :
    Keeps s₀ (s.takeExc e code cause trapn epc ds ms btgt hs vidx) :=
  h.setFs.satF

theorem Keeps.enterHandler (h : Keeps s₀ s) {e code : Nat} {hs : Time} : Keeps s₀ (s.enterHandler e code hs) :=
  h.modEng.showRun

theorem Keeps.raiseSync (h : Keeps s₀ s) {e : Nat} {w : Issued} {code cause trapn : Nat} {t : Time} {vidx : Nat} :
    Keeps s₀ (s.raiseSync e w code cause trapn t vidx) := by
  unfold State.raiseSync
  extract_lets _ s1
  have h1 : Keeps s₀ s1 := h.restoreUndo.dropWordSpan
  exact h1.setF.endBurst.ite h1.takeExc.enterHandler

theorem Keeps.vaStep (h : Keeps s₀ s) {e w n : Nat} : Keeps s₀ (s.vaStep e w n) := by
  unfold State.vaStep
  extract_lets _ _ _ _ s1
  have h1 : Keeps s₀ s1 := h.setF.ite h
  split
  · exact h1.setVa
  · exact h1.setVa
  · exact h1.setVa
  · exact h1

theorem Keeps.loopStep (h : Keeps s₀ s) {e w : Nat} : Keeps s₀ (s.loopStep e w) := by
  unfold State.loopStep
  refine h.foldl fun ha => ?_
  split
  · exact ha
  · exact ha.setF
  · exact ha.setF

theorem Keeps.stackStep (h : Keeps s₀ s) {e w pc : Nat} {hret : Bool} : Keeps s₀ (s.stackStep e w pc hret) :=
  h.setF.setF.ite (h.setF.setF.ite h)

theorem Keeps.internal (h : Keeps s₀ s) {e w pc n : Nat} {hret : Bool} : Keeps s₀ (s.internal e w pc n hret) :=
  h.loopStep.vaStep.stackStep

/-! ### Sys2Proof/Machine/FrontOps.lean -/

theorem Keeps.tdcEdge (h : Keeps s₀ s) {c : Nat} {rising : Bool} {tm : Time} : Keeps s₀ (s.tdcEdge c rising tm) :=
  h.modTdc.ite h

theorem Keeps.compInput (h : Keeps s₀ s) {c : Nat} {l : Int} {tm : Time} : Keeps s₀ (s.compInput c l tm) :=
  h.ite h.setChan.tdcEdge

theorem Keeps.compNear (h : Keeps s₀ s) {c : Nat} {t : Time} : Keeps s₀ (s.compNear c t) := by
  unfold State.compNear
  split
  · exact h.compInput
  · exact h

theorem Keeps.pinTo (h : Keeps s₀ s) {c : Nat} {p : Pin} {t : Time} : Keeps s₀ (s.pinTo c p t) := by
  unfold State.pinTo
  extract_lets s1
  have h1 : Keeps s₀ s1 := h.setF
  exact (h1.ite h1.modChan.log).compNear

theorem Keeps.pinShow (h : Keeps s₀ s) {c : Nat} {t : Time} : Keeps s₀ (s.pinShow c t) :=
  h.pinTo

theorem Keeps.drive (h : Keeps s₀ s) {c : Nat} {p : Pin} {t : Time} : Keeps s₀ (s.drive c p t) :=
  h.modChan.pinShow

theorem Keeps.pinsShow (h : Keeps s₀ s) {l : List Nat} {t : Time} : Keeps s₀ (s.pinsShow l t) :=
  h.foldl (·.pinShow)

theorem Keeps.coefRestart (h : Keeps s₀ s) {c : Nat} : Keeps s₀ (s.coefRestart c) :=
  h.foldl (·.setL)

theorem Keeps.waveHalt (h : Keeps s₀ s) {o : Nat} : Keeps s₀ (s.waveHalt o) :=
  h.modWave.setF

theorem Keeps.waveStop (h : Keeps s₀ s) {o : Nat} {t : Time} : Keeps s₀ (s.waveStop o t) := by
  unfold State.waveStop
  extract_lets s1
  have h1 : Keeps s₀ s1 := h.waveHalt
  exact (h1.foldl (·.drive)).ite h1

theorem Keeps.emitSyms (h : Keeps s₀ s) {c n : Nat} {bs : List Nat} {t : Time} : Keeps s₀ (s.emitSyms c n bs t).1 :=
  h.ite (h.modLane.ite h.modLane.log)

theorem Keeps.laneShow (h : Keeps s₀ s) {c : Nat} : Keeps s₀ (s.laneShow c) := by
  unfold State.laneShow
  extract_lets
  split <;> exact h.setF.setF.setFs

theorem Keeps.laneDone (h : Keeps s₀ s) {c id status : Nat} {t : Time} : Keeps s₀ (s.laneDone c id status t) := by
  unfold State.laneDone
  extract_lets s1
  have h1 : Keeps s₀ s1 := h.modLane
  exact h1.ite h1.incF

theorem Keeps.laneNext (h : Keeps s₀ s) {c : Nat} {t : Time} : Keeps s₀ (s.laneNext c t) :=
  h.modLane.laneShow

theorem Keeps.fillTo (h : Keeps s₀ s) {c n : Nat} : Keeps s₀ (s.fillTo c n) := by
  unfold State.fillTo
  extract_lets
  split
  · exact h
  · exact h.emitSyms.modLane

theorem Keeps.fillRender (h : Keeps s₀ s) {c : Nat} {t : Time} : Keeps s₀ (s.fillRender c t) := by
  unfold State.fillRender
  extract_lets
  split
  · exact h.fillTo
  · exact h

theorem Keeps.laneRender (h : Keeps s₀ s) {c : Nat} {t : Time} : Keeps s₀ (s.laneRender c t) := by
  unfold State.laneRender
  extract_lets _ s1
  have h1 : Keeps s₀ s1 := h.fillRender
  split
  · exact h1.emitSyms.modLane.ite h1
  · exact h1

theorem Keeps.laneCut (h : Keeps s₀ s) {c status : Nat} {t : Time} : Keeps s₀ (s.laneCut c status t) := by
  unfold State.laneCut
  extract_lets s0
  have h0 : Keeps s₀ s0 := h.laneRender
  split
  · exact h0.laneDone.modLane.laneNext.ite h0.modLane
  · exact h0

theorem Keeps.rxRestart (h : Keeps s₀ s) {c : Nat} : Keeps s₀ (s.rxRestart c) :=
  h.modLane

theorem Keeps.laneRestart (h : Keeps s₀ s) {c : Nat} {t : Time} : Keeps s₀ (s.laneRestart c t) :=
  h.modLane.rxRestart.modChan.setF

theorem Keeps.lanePrbsOn (h : Keeps s₀ s) {c : Nat} {t : Time} : Keeps s₀ (s.lanePrbsOn c t) :=
  h.modLane.drive

theorem Keeps.laneFlush (h : Keeps s₀ s) {c : Nat} {t : Time} : Keeps s₀ (s.laneFlush c t) :=
  (h.laneCut.foldl (·.laneDone)).rxRestart.modLane.setF.laneShow

theorem Keeps.rateCheck (h : Keeps s₀ s) {c : Nat} {gap : Bool} {t : Time} : Keeps s₀ (s.rateCheck c gap t) :=
  h.ite (h.laneCut.rxRestart.setF.modLane.pinShow.ite (h.setF.coefRestart.laneRestart.pinShow.ite h))

theorem Keeps.clvAbort (h : Keeps s₀ s) {o rsn : Nat} : Keeps s₀ (s.clvAbort o rsn) :=
  h.drawn.setFs.modOct.ite h

theorem Keeps.acqPstop (h : Keeps s₀ s) {c : Nat} : Keeps s₀ (s.acqPstop c) :=
  h.setF.setF.ite h

theorem Keeps.setPers (h : Keeps s₀ s) {o p : Nat} {t : Time} : Keeps s₀ (s.setPers o p t) := by
  unfold State.setPers
  extract_lets _ s' s1 _ _ _ s4
  have hs' : Keeps s₀ s' := h.clvAbort
  have h1 : Keeps s₀ s1 := (hs'.foldl (·.laneFlush)).ite hs'
  have h4 : Keeps s₀ s4 := by
    unfold s4
    refine ((h1.waveHalt.ite h1).foldl (·.acqPstop)).setL.modOct.foldl fun ha => ?_
    extract_lets a1
    have ha1 : Keeps s₀ a1 := ha.modChan.coefRestart
    exact (ha1.modLane.laneRestart.ite ha1).pinShow
  exact h.ite ((h4.foldl (·.rateCheck)).ite h4)

theorem Keeps.putVector (h : Keeps s₀ s) {c tset e wid beat idx : Nat} {t : Time} {drive expect : Nat} :
    Keeps s₀ (s.putVector c tset e wid beat idx t drive expect) := by
  unfold State.putVector
  exact h.modChan

theorem Keeps.putHold (h : Keeps s₀ s) {c e beat idx : Nat} {t per : Time} : Keeps s₀ (s.putHold c e beat idx t per) :=
  h.putVector.modChan

theorem Keeps.holdGo (h : Keeps s₀ s) {x c e : Nat} {lim : Time} {n : Nat} : Keeps s₀ (s.holdGo x c e lim n) := by
  induction n generalizing s with
  | zero => exact h
  | succ n ih => exact (ih h.putHold).ite h

theorem Keeps.holdTo (h : Keeps s₀ s) {x c e : Nat} {lim : Time} : Keeps s₀ (s.holdTo x c e lim) :=
  h.ite h.holdGo

theorem Keeps.holdAll (h : Keeps s₀ s) {x e m : Nat} {lim : Time} : Keeps s₀ (s.holdAll x e m lim) :=
  h.foldl (·.holdTo)

/-! ### Sys2Proof/Machine/CapOps.lean -/

theorem Keeps.capShow (h : Keeps s₀ s) {x : Nat} : Keeps s₀ (s.capShow x) :=
  h.setF

theorem Keeps.holdSuspects (h : Keeps s₀ s) {x : Nat} {l : List (List Byte)} : Keeps s₀ (s.holdSuspects x l) :=
  h.modCap

theorem Keeps.closePage (h : Keeps s₀ s) {x : Nat} {early stop : Bool} {t : Time} : Keeps s₀ (s.closePage x early stop t) := by
  unfold State.closePage
  split
  · exact h
  · extract_lets _ _ _ s1
    have h1 : Keeps s₀ s1 := h.modCap.incF
    exact h.modCap.ite (((h1.modCap.ite h1.holdSuspects).ite h1).capShow)

theorem Keeps.capDue (h : Keeps s₀ s) {x : Nat} {t : Time} : Keeps s₀ (s.capDue x t) := by
  unfold State.capDue
  split
  · exact h
  · exact h.closePage.modCap

theorem Keeps.setDec (h : Keeps s₀ s) {x d : Nat} {t : Time} : Keeps s₀ (s.setDec x d t) := by
  unfold State.setDec
  refine h.ite ?_
  extract_lets s1
  have h1 : Keeps s₀ s1 := h.setF.closePage.modCap
  exact h1.setF.raiseVf.ite h1

theorem Keeps.overrunAt (h : Keeps s₀ s) {x : Nat} {t : Time} : Keeps s₀ (s.overrunAt x t) :=
  h.setF.raiseVf.modCap.setDec

theorem Keeps.openRec (h : Keeps s₀ s) {x beat : Nat} {r : List Byte} {gap susp sus : Bool} {t : Time} :
    Keeps s₀ (s.openRec x beat r gap susp sus t).1 := by
  unfold State.openRec
  split <;> split <;> dsimp only
  · exact h.modCap
  · exact h.overrunAt
  · exact h.modCap.capShow
  · exact h.overrunAt

theorem Keeps.enterRec (h : Keeps s₀ s) {x beat : Nat} {r : List Byte} {gap susp sus : Bool} {t : Time} :
    Keeps s₀ (s.enterRec x beat r gap susp sus t).1 := by
  unfold State.enterRec
  split
  · exact (h.ite h.closePage).openRec
  · exact h.openRec

theorem Keeps.lose (h : Keeps s₀ s) {x typ : Nat} {u : Time} : Keeps s₀ (s.lose x typ u) :=
  h.modCap

theorem Keeps.enterCand (h : Keeps s₀ s) {x : Nat} {c : Cand} : Keeps s₀ (s.enterCand x c) := by
  unfold State.enterCand
  extract_lets s0
  have h0 : Keeps s₀ s0 := h.capDue
  exact h0.lose.ite (h0.enterRec.ite h0.enterRec.lose)

theorem Keeps.capDrain (h : Keeps s₀ s) {x : Nat} : Keeps s₀ (s.capDrain x) :=
  h.modCap.foldl (·.enterCand)

theorem Keeps.chargeCand (h : Keeps s₀ s) {x : Nat} {c : Cand} : Keeps s₀ (s.chargeCand x c) :=
  h.ite (h.modCap.ite (h.lose.ite h.modCap))

theorem Keeps.chargeAhead (h : Keeps s₀ s) {x : Nat} {t : Time} : Keeps s₀ (s.chargeAhead x t) :=
  h.modCap.foldl (·.chargeCand)

theorem Keeps.offerCand (h : Keeps s₀ s) {x : Nat} {u t : Time} {c : Cand} : Keeps s₀ (s.offerCand x u t c) := by
  unfold State.offerCand
  extract_lets
  refine h.chargeCand.ite ?_
  split
  · exact h.chargeCand
  · exact h.modCap.ite h

theorem Keeps.candCount (h : Keeps s₀ s) {x q c : Nat} : Keeps s₀ (s.candCount x q c) :=
  h.modCap

theorem Keeps.suspect (h : Keeps s₀ s) {x ch beat : Nat} {t : Time} : Keeps s₀ (s.suspect x ch beat t) := by
  unfold State.suspect
  extract_lets _ s1
  have h1 : Keeps s₀ s1 := h.capDrain.capDue.modCap
  exact h1.holdSuspects.ite (h1.enterRec.setF.ite h1.enterRec.holdSuspects)

theorem Keeps.countFail (h : Keeps s₀ s) {c : Nat} {f : FailInfo} : Keeps s₀ (s.countFail c f) := by
  unfold State.countFail
  extract_lets _ s1
  have h1 : Keeps s₀ s1 := h.satF
  exact h1.ite h1.setFs

theorem Keeps.failAt (h : Keeps s₀ s) {c : Nat} {t : Time} {f : FailInfo} : Keeps s₀ (s.failAt c t f) := by
  unfold State.failAt
  extract_lets s1
  have h1 : Keeps s₀ s1 := h.countFail.modChan
  split
  · exact h1
  · refine h1.foldl fun ha => ?_
    refine .ite ?_ ha
    extract_lets _ _ a1
    have ha1 : Keeps s₀ a1 := ha.candCount
    exact ha1.offerCand.ite ha1

theorem Keeps.unitTo (h : Keeps s₀ s) {c src : Nat} {u : UnitSt} {t : Time} {only : List Bool} :
    Keeps s₀ (s.unitTo c src u t only) := by
  unfold State.unitTo
  split
  · exact h
  · exact h.foldl (fun ha => ha.offerCand.ite ha)

theorem Keeps.unitDone (h : Keeps s₀ s) {c src : Nat} {u : UnitSt} {t : Time} : Keeps s₀ (s.unitDone c src u t) := by
  unfold State.unitDone
  extract_lets _ s1
  have h1 : Keeps s₀ s1 := h.unitTo
  exact h.unitTo.ite (h1.modChan.ite h1)

theorem Keeps.lateUnits (h : Keeps s₀ s) {c : Nat} : Keeps s₀ (s.lateUnits c) :=
  h.modChan.foldl (fun ha => ha.unitTo.ite ha)

theorem Keeps.frameUnits (h : Keeps s₀ s) {c : Nat} {bad : Bool} {st fin : Time} : Keeps s₀ (s.frameUnits c bad st fin) :=
  h.modChan.lateUnits

theorem Keeps.lostRest (h : Keeps s₀ s) {x : Nat} {t : Time} : Keeps s₀ (s.lostRest x t) := by
  unfold State.lostRest
  exact h.modCap

end Sys2Proof.Machine
end

section
/-! SUPPORT. Every operation keeps the canonical form: pins, vectors, streams, waves and lanes. -/

namespace Sys2Proof.Machine

variable {s₀ s t : State}

/-! ### Sys2Proof/Machine/Act.lean -/

/-- What is left once an action of a word has been taken. -/
theorem Keeps.takeAct (h : Keeps s₀ s) {e : Nat} {p : Act → Bool} {a : PinAct} (ht : s.takeAct e p = some (a, t)) :
    Keeps s₀ t := by
  unfold State.takeAct at ht
  split at ht
  · cases ht
    exact h.modEng
  · cases ht

theorem Keeps.flashShow (h : Keeps s₀ s) {x code : Nat} : Keeps s₀ (s.flashShow x code) := by
  unfold State.flashShow
  refine h.foldl fun ha => ?_
  split
  · exact ha.modEng.ite ha
  · exact ha

theorem Keeps.codeFlash (h : Keeps s₀ s) {x code : Nat} : Keeps s₀ (s.codeFlash x code) := by
  unfold State.codeFlash
  extract_lets s1
  have h1 : Keeps s₀ s1 := h.siteFlash
  exact h1.flashShow.ite h1

theorem Keeps.pulses (h : Keeps s₀ s) {x mask : Nat} {t : Time} : Keeps s₀ (s.pulses x mask t) := by
  unfold State.pulses
  refine h.foldl fun ha => ?_
  refine .ite ?_ ha
  split
  · exact ha.log
  · exact ha

theorem execTrigoPulse_ends (h : Keeps s₀ s) {e : Fin 16} : Ends s₀ (execTrigoPulse e s) := by
  unfold execTrigoPulse
  split
  next hs =>
    split
    · exact ((h.takeAct hs).pulses).ok
    · exact h.ok
  · exact h.ok

theorem execFsigSend_ends (h : Keeps s₀ s) {e : Fin 16} : Ends s₀ (execFsigSend e s) := by
  unfold execFsigSend
  split
  next hs =>
    split
    · exact ((h.takeAct hs).codeFlash).ok
    · exact h.ok
  · exact h.ok

theorem execEvtHostEvent_ends (h : Keeps s₀ s) {e : Fin 16} : Ends s₀ (execEvtHostEvent e s) := by
  unfold execEvtHostEvent
  split
  next hs =>
    split
    · exact ((h.takeAct hs).raiseVf).ok
    · exact h.ok
  · exact h.ok

theorem execModeChangeEffect_ends (h : Keeps s₀ s) {e : Fin 16} : Ends s₀ (execModeChangeEffect e s) := by
  unfold execModeChangeEffect
  split
  next hs =>
    split
    · exact ((h.takeAct hs).foldl (fun hb => hb.setPers.ite hb.setF)).ok
    · exact h.ok
  · exact h.ok

theorem execMatchArm_ends (h : Keeps s₀ s) {e : Fin 16} : Ends s₀ (execMatchArm e s) := by
  unfold execMatchArm
  split
  next hs =>
    split
    · extract_lets s2
      have h2 : Keeps s₀ s2 := (h.takeAct hs).modEng
      exact h2.modSite.siteFlash.ok.ite h2.ok
    · exact h.ok
  · exact h.ok

/-! ### Sys2Proof/Machine/Vec.lean -/

theorem Keeps.setBb (h : Keeps s₀ s) {o b : Nat} {v : Byte} : Keeps s₀ (s.setBb o b v) :=
  h.putMems fun w => by simp_all [State.memsWf, Tbl.wf_set]

theorem Keeps.setNibble (h : Keeps s₀ s) {o r c v : Nat} : Keeps s₀ (s.setNibble o r c v) :=
  h.setBb

theorem Keeps.bbWriteByte (h : Keeps s₀ s) {x o b v : Nat} : Keeps s₀ (s.bbWriteByte x o b v) :=
  h.foldl (fun ha => ha.setNibble.ite ha)

theorem execBbWindowWrite_ends (h : Keeps s₀ s) {fn : Fn} {oct : Fin 8} {off size data : Nat} :
    Ends s₀ (execBbWindowWrite fn oct off size data s) := by
  unfold execBbWindowWrite
  split
  · exact h.ok
  · exact ((h.foldl (·.bbWriteByte)).ok).ite h.ok

theorem Keeps.passFlash (h : Keeps s₀ s) {x : Nat} {arms : Bool} {l : List CmpArrive} : Keeps s₀ (s.passFlash x arms l) := by
  unfold State.passFlash
  refine .ite ?_ h
  refine h.foldl fun ha => ?_
  split
  · exact ha.siteFlash
  · exact ha

theorem Keeps.cmpDone (h : Keeps s₀ s) {e wid : Nat} {vec : Bool} {r : Option Bool} {t : Time} :
    Keeps s₀ (s.cmpDone e wid vec r t) := by
  unfold State.cmpDone
  extract_lets
  split
  · exact h.setEng.passFlash
  · split
    · split
      · exact h.setEng.passFlash
      · exact h
    · exact h

theorem Keeps.ownResult (h : Keeps s₀ s) {x : Nat} {m : MatchSt} {a : CmpArrive} : Keeps s₀ (s.ownResult x m a) := by
  unfold State.ownResult
  split
  · exact h.modSite.ite h
  · exact h

theorem execConditionArrive_ends (h : Keeps s₀ s) {e : Fin 16} : Ends s₀ (execConditionArrive e s) := by
  unfold execConditionArrive
  extract_lets
  split
  · exact h.setEng.ownResult.ok
  · split
    · split
      · exact h.setEng.ownResult.ok
      · exact h.ok
    · exact h.ok

theorem Keeps.underrun (h : Keeps s₀ s) {e slot : Nat} {f : Fetch} {idx : Nat} {t : Time} :
    Keeps s₀ (s.underrun e slot f idx t) := by
  unfold State.underrun
  exact h.setF.incF.modEng

theorem Keeps.fixBase (h : Keeps s₀ s) {e : Nat} {f : Fetch} {slot : Nat} : Keeps s₀ (s.fixBase e f slot).1 := by
  unfold State.fixBase
  split
  · exact h
  · dsimp only
    exact h.modEng

theorem Keeps.takeRec (h : Keeps s₀ s) {slot n : Nat} : Keeps s₀ (s.takeRec slot n) := by
  unfold State.takeRec
  extract_lets _ _ s1
  have h1 : Keeps s₀ s1 := h.setStream
  exact h1.setF.ite h1

theorem Keeps.readVector (h : Keeps s₀ s) {e x : Nat} {f0 : Fetch} {row : Option Nat} {t : Time} {idx sramUe : Nat} :
    Keeps s₀ (s.readVector e x f0 row t idx sramUe) := by
  unfold State.readVector
  extract_lets _ _ _ _ _ _ _ _ _ s1
  have h1 : Keeps s₀ s1 := (h.ite h.setF).foldl (·.putVector.modChan)
  exact (h1.ite h1.addF.siteFault).modEng.foldl (·.cmpDone)

theorem Keeps.endCheck (h : Keeps s₀ s) {e : Nat} : Keeps s₀ (s.endCheck e) := by
  unfold State.endCheck
  extract_lets
  split
  · exact h.endBurst.ite h
  · exact h

theorem execVectorRead_ends (h : Keeps s₀ s) {oct : Fin 8} {e : Fin 16} {sramUe sramCe : Nat} :
    Ends s₀ (execVectorRead oct e sramUe sramCe s) := by
  unfold execVectorRead
  extract_lets _ _ _ s
  have h' : Keeps s₀ s := h.addF.holdAll
  split
  · exact h'.ok
  · extract_lets
    split
    · exact h'.readVector.ok
    · refine h'.readVector.endCheck.ok.ite ?_
      extract_lets _ _ _ _ s1
      have h1 : Keeps s₀ s1 := h'.fixBase.setF.ite h'.fixBase
      exact h1.takeRec.readVector.endCheck.ok.ite h1.underrun.readVector.endCheck.ok

theorem execDriveEdge_ends (h : Keeps s₀ s) {ch : Fin 64} : Ends s₀ (execDriveEdge ch s) := by
  unfold execDriveEdge
  extract_lets
  split
  · exact h.ok
  · split
    · exact h.ok
    · extract_lets s1
      have h1 : Keeps s₀ s1 := h.setChan
      exact h1.ok.ite (((h1.vstat (·.setF.incF)).ok).ite h1.modChan.drive.ok)

theorem Keeps.retireVects (h : Keeps s₀ s) {c n : Nat} : Keeps s₀ (s.retireVects c n) := by
  induction n generalizing s with
  | zero => exact h
  | succ n ih =>
    unfold State.retireVects
    split
    · refine .ite (ih ?_) h
      split
      · exact h.modChan.unitDone
      · exact h.modChan
    · exact h

theorem Keeps.retireAll (h : Keeps s₀ s) {c : Nat} : Keeps s₀ (s.retireAll c) :=
  h.retireVects.lateUnits

theorem execStrobe_ends (h : Keeps s₀ s) {ch : Fin 64} : Ends s₀ (execStrobe ch s) := by
  unfold execStrobe
  extract_lets
  split
  · exact h.ok
  · split
    · exact h.ok
    · extract_lets _ _ _ _ _ s1
      have h1 : Keeps s₀ s1 := h.setChan
      exact ((h1.cmpDone.vstat (·.setF.incF)).ite h1).retireAll.ok

theorem execCompareComplete_ends (h : Keeps s₀ s) {ch : Fin 64} : Ends s₀ (execCompareComplete ch s) := by
  unfold execCompareComplete
  extract_lets
  split
  · exact h.ok
  · split
    · exact h.ok
    · extract_lets _ _ s1
      have h1 : Keeps s₀ s1 := h.setChan
      exact (h1.failAt.ite h1).cmpDone.retireAll.ok

theorem execComparatorEdge_ends (h : Keeps s₀ s) {ch : Fin 64} {uv : Int} {tm : Time} : Ends s₀ (execComparatorEdge ch uv tm s) :=
  h.compInput.ok

theorem execSigdetChange_ends (h : Keeps s₀ s) {ch : Fin 64} {above : Bool} : Ends s₀ (execSigdetChange ch above s) :=
  (((h.ite h.modLane).setF).ite h).ok

theorem execRxAdaptUpdate_ends (h : Keeps s₀ s) {ch : Fin 64} : Ends s₀ (execRxAdaptUpdate ch s) :=
  ((h.drawn.foldl (·.setL)).ok).ite h.ok

theorem execSafeReachOctet_ends (h : Keeps s₀ s) {oct : Fin 8} : Ends s₀ (execSafeReachOctet oct s) :=
  ((h.clvAbort.ite h).foldl (fun ha => ((ha.laneRender.ite ha).modChan.pinShow).ite ha)).ok

theorem execPersIdleEnd_ends (h : Keeps s₀ s) {oct : Fin 8} : Ends s₀ (execPersIdleEnd oct s) :=
  (h.modOct.foldl (·.pinShow)).ok

/-! ### Sys2Proof/Machine/Stream.lean -/

theorem Keeps.refillFrom (h : Keeps s₀ s) {x k n m : Nat} : Keeps s₀ (s.refillFrom x k n m) :=
  (h.foldl (·.request)).setStream

theorem Keeps.refill (h : Keeps s₀ s) {x k : Nat} : Keeps s₀ (s.refill x k) :=
  h.refillFrom.ite h

theorem Keeps.ltolWake (h : Keeps s₀ s) {k : Nat} : Keeps s₀ (s.ltolWake k) :=
  h.foldl (fun ha => ha.dcWake.ite ha)

theorem execStreamStart_ends (h : Keeps s₀ s) {fn : Fn} {slot : Fin 4} : Ends s₀ (execStreamStart fn slot s) := by
  unfold execStreamStart
  refine h.hostOrder fun ha => ?_
  extract_lets
  split
  · exact ha.ok
  · extract_lets _ s'
    have hs' : Keeps s₀ s' := ha.vsFor.ite ha
    exact (hs'.setFs.setStream.ltolWake.refill.ok.ite hs'.setF.ok).ite hs'.ok

theorem Keeps.streamEnd (h : Keeps s₀ s) {k : Nat} : Keeps s₀ (s.streamEnd k) :=
  h.frame.setStream.setF

theorem execStreamStop_ends (h : Keeps s₀ s) {fn : Fn} {slot : Fin 4} : Ends s₀ (execStreamStop fn slot s) := by
  unfold execStreamStop
  refine h.hostOrder fun ha => ?_
  split
  · exact ha.streamEnd.ok.ite ha.ok
  · exact ha.ok

theorem Keeps.restream (h : Keeps s₀ s) {x : Nat} : Keeps s₀ (s.restream x) :=
  h.foldl (fun ha => ha.frame.setStream.refill.ite ha)

theorem execStreamRefill_ends (h : Keeps s₀ s) {slot : Fin 4} : Ends s₀ (execStreamRefill slot s) := by
  unfold execStreamRefill
  extract_lets
  split
  · exact h.refill.ok.ite h.ok
  · exact h.ok

theorem Keeps.fillRows (h : Keeps s₀ s) {x k n m blk : Nat} {byte : Nat → Nat} : Keeps s₀ (s.fillRows x k n m blk byte) :=
  h.foldl (fun ha => (ha.foldl (·.bbWriteByte)).ite ha)

theorem Keeps.blockIn (h : Keeps s₀ s) {k m : Nat} : Keeps s₀ (s.blockIn k m) := by
  unfold State.blockIn
  extract_lets _ _ _ s1
  have h1 : Keeps s₀ s1 := h.setStream
  exact h1.setF.ite h1

theorem Keeps.dramUe (h : Keeps s₀ s) {x a dc : Nat} : Keeps s₀ (s.dramUe x a dc) :=
  h.incF.setFs.siteFault

theorem Keeps.blotPage (h : Keeps s₀ s) {x q b : Nat} : Keeps s₀ (s.blotPage x q b) :=
  h.modCap

theorem execDramRequestComplete_ends (h : Keeps s₀ s) {dc : Fin 16} {err : MemErr} :
    Ends s₀ (execDramRequestComplete dc err s) := by
  unfold execDramRequestComplete
  extract_lets _ e
  split
  · exact h.ok
  · extract_lets s1 _ s2
    have h1 : Keeps s₀ s1 := h.frame.memServe
    have h2 : Keeps s₀ s2 := by
      unfold s2
      clear_value e
      split
      · exact h1
      · exact h1.incF.incF
      · exact h1.ite (((h1.foldl (·.setDram)).dramUe).ite h1.dramUe)
    split
    · exact (h2.drawn.ite h2).fillRows.blockIn.ok
    · exact (h2.blotPage.ite h2).ok
    · exact h2.ok

theorem execDramPdEnter_ends (h : Keeps s₀ s) {dc : Fin 16} {lvl : Fin 3} : Ends s₀ (execDramPdEnter dc lvl s) :=
  h.setF.ok.ite h.ok

/-! ### Sys2Proof/Machine/Wave.lean -/

theorem Keeps.segErr (h : Keeps s₀ s) {o : Nat} {e : SegEnt} {v : Bool} : Keeps s₀ (s.segErr o e v) :=
  h.ite h.setF.setF

theorem Keeps.driveOct (h : Keeps s₀ s) {o : Nat} {p : Pin} {t : Time} : Keeps s₀ (s.driveOct o p t) :=
  h.foldl (·.drive)

theorem Keeps.slotPlay (h : Keeps s₀ s) {o k : Nat} {b : Option (List Byte)} : Keeps s₀ (s.slotPlay o k b) := by
  unfold State.slotPlay
  extract_lets _ _ s1
  have h1 : Keeps s₀ s1 := h.modWave.log
  split
  · exact h1.driveOct
  · exact h1.modWave.driveOct

theorem Keeps.passStart (h : Keeps s₀ s) {o j left : Nat} {e : SegEnt} {fresh sel : Bool} :
    Keeps s₀ (s.passStart o j left e fresh sel) := by
  unfold State.passStart
  extract_lets _ _ _ s2
  have h2 : Keeps s₀ s2 := h.modWave.setFs
  exact (h2.foldl (·.slotPlay)).ite h2.modWave.log.driveOct

theorem Keeps.relevel (h : Keeps s₀ s) {o : Nat} {t : Time} : Keeps s₀ (s.relevel o t) := by
  unfold State.relevel
  extract_lets
  refine h.foldl fun ha => ?_
  extract_lets fin b
  have hb : Keeps s₀ b := ha.foldl (·.drive.drive)
  clear_value fin
  split
  · exact hb
  · exact hb.drive
  · exact hb

theorem Keeps.segRequest (h : Keeps s₀ s) {o : Nat} {e : SegEnt} {v : Bool} {t : Option Time} : Keeps s₀ (s.segRequest o e v t) :=
  h.modWave.ite h

theorem Keeps.wopAsk (h : Keeps s₀ s) {o e key : Nat} {n : SegEnt} {v : Bool} {t : Option Time} :
    Keeps s₀ (s.wopAsk o e key n v t) := by
  unfold State.wopAsk
  split
  · exact h.segRequest
  · exact h.modWave.ite h

theorem Keeps.nextRead (h : Keeps s₀ s) {o : Nat} {p : SegEnt} : Keeps s₀ (s.nextRead o p) :=
  h.segErr.modWave.segRequest

theorem execSegmentEntryRead_ends (h : Keeps s₀ s) {oct : Fin 8} : Ends s₀ (execSegmentEntryRead oct s) := by
  unfold execSegmentEntryRead
  extract_lets
  split
  · exact h.segErr.modWave.wopAsk.ok
  · split
    · exact (h.nextRead.ite h).ok
    · exact h.ok

theorem Keeps.askResolve (h : Keeps s₀ s) {o : Nat} : Keeps s₀ (s.askResolve o) := by
  unfold State.askResolve
  exact h.modWave

theorem Keeps.askAt (h : Keeps s₀ s) {o e key : Nat} {t : Time} : Keeps s₀ (s.askAt o e key t) :=
  h.modWave

theorem Keeps.segArrive (h : Keeps s₀ s) {o trg flash : Nat} {w : Time} (ht : s.segArrive o trg flash w = some t) :
    Keeps s₀ t := by
  unfold State.segArrive at ht
  extract_lets s1 at ht
  split at ht
  · cases ht
    exact h.askResolve.modWave
  · cases ht

theorem Keeps.wopEntry (h : Keeps s₀ s) {o e key obj : Nat} {w : Option Time} : Keeps s₀ (s.wopEntry o e key obj w).2 := by
  unfold State.wopEntry
  extract_lets rest
  have hrest : Keeps s₀ rest := h.modWave
  split
  · exact hrest
  · exact hrest.segErr.wopAsk

theorem Keeps.wopStart (h : Keeps s₀ s) {o e key obj : Nat} {t : Time} : Keeps s₀ (s.wopStart o e key obj t) :=
  h.askAt.wopEntry.modWave.passStart.ite h.askAt.wopEntry.waveStop

theorem execWopStartChain_ends (h : Keeps s₀ s) {e : Fin 16} : Ends s₀ (execWopStartChain e s) := by
  unfold execWopStartChain
  split
  next hs =>
    split
    · exact ((h.takeAct hs).foldl (·.wopStart)).ok
    · exact h.ok
  · exact h.ok

theorem execWopStopChain_ends (h : Keeps s₀ s) {e : Fin 16} : Ends s₀ (execWopStopChain e s) := by
  unfold execWopStopChain
  split
  next hs =>
    split
    · exact ((h.takeAct hs).foldl (·.modWave)).ok
    · exact h.ok
  · exact h.ok

theorem execWopContinue_ends (h : Keeps s₀ s) {e : Fin 16} : Ends s₀ (execWopContinue e s) := by
  unfold execWopContinue
  split
  next hs =>
    split
    · exact ((h.takeAct hs).foldl (·.wopEntry.modWave)).ok
    · exact h.ok
  · exact h.ok

theorem Keeps.segFollow (h : Keeps s₀ s) {o : Nat} {e : SegEnt} {valid : Bool} {t : Time} : Keeps s₀ (s.segFollow o e valid t) :=
  h.passStart.ite h.waveStop

theorem execSegmentPassStart_ends (h : Keeps s₀ s) {oct : Fin 8} : Ends s₀ (execSegmentPassStart oct s) := by
  unfold execSegmentPassStart
  extract_lets _ _ _ g _ s1
  have h1 : Keeps s₀ s1 := h.askResolve.modWave
  split
  · exact h.ok
  · refine h.waveStop.ok.ite ?_
    clear_value g
    split
    · exact h1.segFollow.ok
    · refine h1.passStart.ok.ite ?_
      refine h1.waveStop.ok.ite ?_
      split
      · exact h1.segFollow.ok
      · exact h1.nextRead.segFollow.ok

theorem execRingSlotRead_ends (h : Keeps s₀ s) {oct : Fin 8} : Ends s₀ (execRingSlotRead oct s) := by
  unfold execRingSlotRead
  extract_lets _ _ _ _ _ _ s1 s2
  have h1 : Keeps s₀ s1 := h.incF.modWave
  have h2 : Keeps s₀ s2 := h1.ite h1.setF.incF
  refine h.ok.ite ?_
  split
  · exact h.ok
  · exact (h2.slotPlay.ite h2.modWave).ok

theorem Keeps.granule (h : Keeps s₀ s) {o : Nat} {data : List Byte} : Keeps s₀ (s.granule o data) := by
  unfold State.granule
  extract_lets _ _ s1
  have h1 : Keeps s₀ s1 := h.incF
  exact h.ite (h1.ite ((h1.foldl (·.setBb)).modWave))

theorem execGranuleArrive_ends (h : Keeps s₀ s) {oct : Fin 8} {data : List Byte} : Ends s₀ (execGranuleArrive oct data s) :=
  h.granule.ok

theorem execWfringWrite_ends (h : Keeps s₀ s) {fn : Fn} {oct : Fin 8} {data : Nat} : Ends s₀ (execWfringWrite fn oct data s) := by
  unfold execWfringWrite
  refine h.hostOrder fun ha => ?_
  extract_lets
  split
  · exact ha.ok
  · exact (ha.setFs.modWave.ok.ite ha.setF.ok).ite ha.ok

/-! ### Sys2Proof/Machine/Lane.lean -/

theorem Keeps.popRequest (h : Keeps s₀ s) {x c obj : Nat} {tgt : Option Time} {t : Time} :
    Keeps s₀ (s.popRequest x c obj tgt t) := by
  unfold State.popRequest
  extract_lets _ _ s1
  have h1 : Keeps s₀ s1 := h.incF
  exact h1.setF.laneDone.ite (h1.laneDone.ite h1.modLane.laneShow)

theorem execPopEarliest_ends (h : Keeps s₀ s) {e : Fin 16} : Ends s₀ (execPopEarliest e s) := by
  unfold execPopEarliest
  split
  next hs =>
    split
    · exact ((h.takeAct hs).foldl (·.popRequest)).ok
    · exact h.ok
  · exact h.ok

theorem execPopTimed_ends (h : Keeps s₀ s) {e : Fin 16} : Ends s₀ (execPopTimed e s) := by
  unfold execPopTimed
  split
  next hs =>
    split
    · exact ((h.takeAct hs).foldl (·.popRequest)).ok
    · exact h.ok
  · exact h.ok

theorem Keeps.headDone (h : Keeps s₀ s) {c : Nat} {r : Launch} {status : Nat} {tm : Time} : Keeps s₀ (s.headDone c r status tm) :=
  h.laneDone.laneNext

theorem execLaunchHead_ends (h : Keeps s₀ s) {ch : Fin 64} {tm : Time} : Ends s₀ (execLaunchHead ch tm s) := by
  unfold execLaunchHead
  extract_lets
  split
  · exact h.ok.ite (h.headDone.ok.ite (h.headDone.ok.ite (h.headDone.ok.ite (h.headDone.ok.ite (h.headDone.ok.ite (
      h.headDone.ok.ite (h.headDone.ok.ite h.modLane.ok)))))))
  · exact h.ok

theorem Keeps.fillUntil (h : Keeps s₀ s) {c : Nat} {pre : Time} : Keeps s₀ (s.fillUntil c pre) := by
  unfold State.fillUntil
  extract_lets
  split
  · exact h.fillTo
  · exact h

theorem execPreambleStart_ends (h : Keeps s₀ s) {ch : Fin 64} : Ends s₀ (execPreambleStart ch s) := by
  unfold execPreambleStart
  extract_lets
  split
  · exact h.ok
  · exact h.ok.ite (h.headDone.ok.ite h.fillUntil.modLane.drive.ok)

theorem execFrameTxEnd_ends (h : Keeps s₀ s) {ch : Fin 64} : Ends s₀ (execFrameTxEnd ch s) := by
  unfold execFrameTxEnd
  extract_lets
  split
  · exact h.ok
  · refine .ite ?_ h.ok
    extract_lets _ _ _ _ s2
    have h2 : Keeps s₀ s2 := h.laneRender.laneDone
    exact (h2.ite h2.log).modLane.drive.laneNext.ok

theorem execTimestampWrite_ends (h : Keeps s₀ s) {ch : Fin 64} : Ends s₀ (execTimestampWrite ch s) := by
  unfold execTimestampWrite
  extract_lets
  split
  · exact h.ok
  · extract_lets s1
    have h1 : Keeps s₀ s1 := h.modLane
    exact h1.incF.setF.ok.ite h1.modLane.laneShow.ok

theorem execTsqPop_ends (h : Keeps s₀ s) {fn : Fn} {ch : Fin 64} : Ends s₀ (execTsqPop fn ch s) := by
  unfold execTsqPop
  extract_lets
  split
  · exact h.modLane.laneShow.ok.ite h.ok
  · exact h.ok

theorem execRxLock_ends (h : Keeps s₀ s) {ch : Fin 64} : Ends s₀ (execRxLock ch s) :=
  h.rxRestart.setF.ok.ite h.ok

theorem Keeps.rxResult (h : Keeps s₀ s) {c : Nat} {tm : Time} {bad : Bool} : Keeps s₀ (s.rxResult c tm bad) := by
  unfold State.rxResult
  extract_lets
  split
  · exact h.cmpDone
  · exact h

theorem execRxLockLoss_ends (h : Keeps s₀ s) {ch : Fin 64} : Ends s₀ (execRxLockLoss ch s) := by
  unfold execRxLockLoss
  extract_lets _ _ s1
  have h1 : Keeps s₀ s1 := h.rxRestart.setF.setF
  exact (h1.incF.incF.lateUnits.ok.ite h1.lateUnits.ok).ite h.ok

theorem execSdMatch_ends (h : Keeps s₀ s) {ch : Fin 64} {ingress : Known} : Ends s₀ (execSdMatch ch ingress s) := by
  unfold execSdMatch
  extract_lets
  refine .ite ?_ h.ok
  split
  · exact h.modLane.ok
  · exact h.ok

theorem Keeps.rxFrameBit (h : Keeps s₀ s) {c b : Nat} {fin : Time} : Keeps s₀ (s.rxFrameBit c b fin) := by
  unfold State.rxFrameBit
  extract_lets
  split
  · exact h
  · exact h.modLane

theorem Keeps.checkBit (h : Keeps s₀ s) {c b : Nat} {t : Time} {sym beat : Nat} : Keeps s₀ (s.checkBit c b t sym beat) :=
  h.modLane.ite h.setFs.modLane

theorem Keeps.rxBit (h : Keeps s₀ s) {c b : Nat} {t fin : Time} {sym beat : Nat} : Keeps s₀ (s.rxBit c b t fin sym beat) := by
  unfold State.rxBit
  exact (h.checkBit.ite h).rxFrameBit.modLane

theorem Keeps.offerFrame (h : Keeps s₀ s) {c id : Nat} {idv bad : Bool} {len : Nat} {data : List Byte} {ing tm : Time} :
    Keeps s₀ (s.offerFrame c id idv bad len data ing tm) := by
  unfold State.offerFrame
  split
  · exact h
  · exact h.foldl (fun ha => ha.candCount.offerCand.ite ha)

theorem execRxFrameComplete_ends (h : Keeps s₀ s) {ch : Fin 64} {data tm : Known} :
    Ends s₀ (execRxFrameComplete ch data tm s) := by
  unfold execRxFrameComplete
  extract_lets
  split
  · exact h.ok
  · extract_lets _ _ _ _ _ s2 _ s4
    have h2 : Keeps s₀ s2 := h.setFs.incF.modLane
    have h4 : Keeps s₀ s4 := (h2.incF.ite h2).offerFrame.frameUnits
    exact (h4.failAt.ite h4).rxResult.ok

theorem execCheckerBitError_ends (h : Keeps s₀ s) {ch : Fin 64} {tm sym : Known} : Ends s₀ (execCheckerBitError ch tm sym s) := by
  unfold execCheckerBitError
  extract_lets
  split
  · exact h.ok
  · exact h.modLane.incF.failAt.lateUnits.rxResult.ok

theorem execFailClear_ends (h : Keeps s₀ s) {fn : Fn} {ch : Fin 64} : Ends s₀ (execFailClear fn ch s) :=
  h.hostOrder (fun h' => h'.setFs.ok.ite h'.ok)

end Sys2Proof.Machine
end

section
/-! SUPPORT. Every operation keeps the canonical form: capture, acquisition and time measurement. -/

namespace Sys2Proof.Machine

variable {s₀ s t : State}

/-! ### Sys2Proof/Machine/Capture.lean -/

theorem execCaptStart_ends (h : Keeps s₀ s) {e : Fin 16} : Ends s₀ (execCaptStart e s) := by
  unfold execCaptStart
  split
  next hs =>
    split
    · exact ((h.takeAct hs).modCap).ok
    · exact h.ok
  · exact h.ok

theorem execCaptStop_ends (h : Keeps s₀ s) {e : Fin 16} : Ends s₀ (execCaptStop e s) := by
  unfold execCaptStop
  split
  next hs =>
    split
    · exact ((h.takeAct hs).modCap).ok
    · exact h.ok
  · exact h.ok

theorem execCaptWord_ends (h : Keeps s₀ s) {e : Fin 16} : Ends s₀ (execCaptWord e s) := by
  unfold execCaptWord
  split
  next hs =>
    split
    · exact (((h.takeAct hs).modCap).foldl (·.chargeCand)).ok
    · exact h.ok
  · exact h.ok

theorem execRecordEnter_ends (h : Keeps s₀ s) {site : Fin 16} : Ends s₀ (execRecordEnter site s) := by
  unfold execRecordEnter
  extract_lets
  split
  · exact h.ok
  · exact h.modCap.enterCand.ok

theorem Keeps.flushPage (h : Keeps s₀ s) {x : Nat} : Keeps s₀ (s.flushPage x) :=
  h.capDrain.capDue.closePage

theorem execPageFlushTimeout_ends (h : Keeps s₀ s) {site : Fin 16} : Ends s₀ (execPageFlushTimeout site s) :=
  h.ok.ite h.flushPage.ok

theorem execCaptureFlush_ends (h : Keeps s₀ s) {fn : Fn} {site : Fin 16} : Ends s₀ (execCaptureFlush fn site s) :=
  h.hostOrder (fun h' => h'.flushPage.ok.ite h'.ok)

theorem Keeps.putGap (h : Keeps s₀ s) {x reason : Nat} {a b : Time} {lost : List Nat} {t : Time} :
    Keeps s₀ (s.putGap x reason a b lost t) :=
  h.enterRec.addF.incF

theorem Keeps.putSuspects (h : Keeps s₀ s) {x : Nat} {t : Time} : Keeps s₀ (s.putSuspects x t) :=
  h.modCap.foldl (·.enterRec.setF)

theorem Keeps.capStop (h : Keeps s₀ s) {x : Nat} {t : Time} : Keeps s₀ (s.capStop x t) := by
  unfold State.capStop
  extract_lets s0 s1
  have h0 : Keeps s₀ s0 := h.closePage
  have h1 : Keeps s₀ s1 := by
    unfold s1
    split
    · exact h0.modCap.holdSuspects.capShow
    · exact h0
  exact h1.setFs.raiseVf.modCap

theorem Keeps.capRestart (h : Keeps s₀ s) {x : Nat} {t : Time} : Keeps s₀ (s.capRestart x t) :=
  (h.lostRest.modCap.setF.foldl (·.putGap)).putSuspects

theorem Keeps.capResume (h : Keeps s₀ s) {x : Nat} {u t : Time} : Keeps s₀ (s.capResume x u t) :=
  h.lostRest.modCap.putGap.putSuspects

theorem Keeps.windowRules (h : Keeps s₀ s) {x : Nat} {t : Time} : Keeps s₀ (s.windowRules x t) := by
  unfold State.windowRules
  extract_lets _ _ _ _ _ s1
  have h1 : Keeps s₀ s1 := (h.setF.raiseVf.ite h.setDec).ite (h.setDec.ite h)
  refine (h.capRestart.ite h).ite ?_
  refine h.capStop.ite ?_
  split
  · exact h1.capResume.ite h1
  · exact h1

theorem Keeps.releaseHeld (h : Keeps s₀ s) {x : Nat} : Keeps s₀ (s.releaseHeld x) :=
  (h.modSite.foldl (fun ha => ha.flashSend.flashShow.ite ha.flashSend)).foldl (·.route)

theorem execCaptureWindowEnd_ends (h : Keeps s₀ s) {site : Fin 16} : Ends s₀ (execCaptureWindowEnd site s) :=
  h.modCap.chargeAhead.capDrain.capDue.windowRules.modCap.chargeAhead.releaseHeld.ok

theorem Keeps.pageTraffic (h : Keeps s₀ s) {x q : Nat} : Keeps s₀ (s.pageTraffic x q) :=
  h.drawn.traffic.foldl (·.request)

theorem execPageMove_ends (h : Keeps s₀ s) {site : Fin 16} {sramUe sramCe : Nat} :
    Ends s₀ (execPageMove site sramUe sramCe s) := by
  unfold execPageMove
  extract_lets _ s0
  have h0 : Keeps s₀ s0 := h.capDue
  split
  · exact h0.ok
  · refine .ite ?_ h0.ok
    extract_lets _ _ s2
    have h2 : Keeps s₀ s2 := h0.modCap.incF.capShow.addF.pageTraffic
    exact (h2.ite h2.addF.siteFault).ok

theorem execPageDeliver_ends (h : Keeps s₀ s) {site : Fin 16} {known : Known} : Ends s₀ (execPageDeliver site known s) := by
  unfold execPageDeliver
  extract_lets
  split
  · exact h.ok.ite h.log.log.modCap.setF.incF.incF.raiseVf.ok
  · exact h.ok

/-! ### Sys2Proof/Machine/Acq.lean -/

theorem Keeps.setAcq (h : Keeps s₀ s) {c b : Nat} {v : Byte} : Keeps s₀ (s.setAcq c b v) :=
  h.putMems fun w => by simp_all [State.memsWf, Tbl.wf_set]

theorem Keeps.incBin (h : Keeps s₀ s) {c b : Nat} : Keeps s₀ (s.incBin c b) :=
  h.setF.ite (h.foldl (·.setAcq))

theorem Keeps.zeroSlot (h : Keeps s₀ s) {c : Nat} : Keeps s₀ (s.zeroSlot c) :=
  h.putMems fun w => by simp_all [State.memsWf, Tbl.wf_filter]

theorem Keeps.acqLost (h : Keeps s₀ s) {c b : Nat} : Keeps s₀ (s.acqLost c b) := by
  unfold State.acqLost
  extract_lets s1
  have h1 : Keeps s₀ s1 := (h.foldl (·.setAcq)).addF
  split
  · exact h1.siteFault
  · exact h1

theorem Keeps.decBin (h : Keeps s₀ s) {c b : Nat} : Keeps s₀ (s.decBin c b) :=
  h.ite (h.foldl (·.setAcq))

theorem Keeps.rovCount (h : Keeps s₀ s) {c p code : Nat} : Keeps s₀ (s.rovCount c p code) := by
  unfold State.rovCount
  split
  · exact h.incBin
  · exact h

theorem Keeps.rovTake (h : Keeps s₀ s) {c p code : Nat} : Keeps s₀ (s.rovTake c p code) :=
  h.rovCount.ite (h.modAcq.ite (h.rovCount.modAcq.ite h))

theorem Keeps.acqTake (h : Keeps s₀ s) {c : Nat} {q : AcqUi} : Keeps s₀ (s.acqTake c q) := by
  unfold State.acqTake
  extract_lets s1 s2
  have h1 : Keeps s₀ s1 := h.incBin.ite h
  have h2 : Keeps s₀ s2 := by
    unfold s2
    split
    · exact h1.incBin.ite h1
    · exact h1
  split
  · exact h2.rovTake
  · exact h2

theorem Keeps.acqUntake (h : Keeps s₀ s) {c : Nat} {q : AcqUi} : Keeps s₀ (s.acqUntake c q) := by
  unfold State.acqUntake
  extract_lets s1 s2
  have h1 : Keeps s₀ s1 := h.decBin.ite h
  have h2 : Keeps s₀ s2 := by
    unfold s2
    split
    · exact h1.decBin.ite h1
    · exact h1
  split
  · exact h2.decBin.modAcq
  · exact h2

theorem Keeps.acqRef (h : Keeps s₀ s) {c : Nat} {u : Time} {r : AcqUi} {k : Nat} : Keeps s₀ (s.acqRef c u r k) := by
  unfold State.acqRef
  exact h.setFs.modAcq

theorem Keeps.acqWindow (h : Keeps s₀ s) {c : Nat} {u : Time} {r : AcqUi} {l : List AcqUi} : Keeps s₀ (s.acqWindow c u r l) := by
  unfold State.acqWindow
  extract_lets _ _ s1
  have h1 : Keeps s₀ s1 := h.modAcq
  exact (h1.ite (h1.foldl (fun hb => hb.acqTake.ite (hb.acqUntake.ite hb))).modAcq).ite h

theorem Keeps.acqJudge (h : Keeps s₀ s) {c : Nat} {u : Time} : Keeps s₀ (s.acqJudge c u) := by
  unfold State.acqJudge
  extract_lets
  split
  · exact h
  · exact (h.acqRef.ite h).acqWindow

theorem Keeps.acqTrigger (h : Keeps s₀ s) {c : Nat} {u : Time} : Keeps s₀ (s.acqTrigger c u) :=
  h.modAcq.ite h.acqJudge

theorem Keeps.acqEvents (h : Keeps s₀ s) {c : Nat} {u : Time} {n : Nat} : Keeps s₀ (s.acqEvents c u n) := by
  induction n generalizing s with
  | zero => exact h
  | succ n ih =>
    unfold State.acqEvents
    split
    · exact (ih h.modAcq.acqJudge).ite h
    · exact h

theorem Keeps.acqCrossing (h : Keeps s₀ s) {c : Nat} {u : Time} : Keeps s₀ (s.acqCrossing c u) := by
  unfold State.acqCrossing
  split
  · exact h
  · exact h.foldl (fun ha => ha.acqTrigger.ite ha)

theorem Keeps.acqTrigIn (h : Keeps s₀ s) {x slot : Nat} {u : Time} : Keeps s₀ (s.acqTrigIn x slot u) :=
  h.foldl (fun ha => ha.acqTrigger.ite ha)

theorem Keeps.rearm (h : Keeps s₀ s) {c a b : Nat} : Keeps s₀ (s.rearm c a b) := by
  unfold State.rearm
  exact h.modAcq

theorem Keeps.acqStep (h : Keeps s₀ s) {c code : Nat} : Keeps s₀ (s.acqStep c code) := by
  unfold State.acqStep
  extract_lets
  split
  · exact h.rearm
  · refine .ite ?_ h.rearm
    extract_lets _ _ s1
    have h1 : Keeps s₀ s1 := h.incF.ite h
    exact (h1.incBin.ite h1).rearm.modAcq.acqCrossing

theorem Keeps.acqWrite (h : Keeps s₀ s) {c code : Nat} : Keeps s₀ (s.acqWrite c code) :=
  h.setAcq.modAcq.ite h

theorem Keeps.acqUi (h : Keeps s₀ s) {c : Nat} {start t ui : Time} {code : Nat} : Keeps s₀ (s.acqUi c start t ui code) := by
  unfold State.acqUi
  extract_lets _ _ _ _ _ s1
  have h1 : Keeps s₀ s1 := h.acqWrite.modAcq
  exact (h1.acqTake.ite h1).acqEvents

theorem Keeps.sampleEntry (h : Keeps s₀ s) {c code : Nat} {start t : Time} {beat num : Nat} :
    Keeps s₀ (s.sampleEntry c code start t beat num) := by
  unfold State.sampleEntry
  extract_lets _ s1
  have h1 : Keeps s₀ s1 := h.modChan
  split
  · exact h1.unitDone
  · exact h1

theorem Keeps.symbolDecide (h : Keeps s₀ s) {c : Nat} {t ui : Time} : Keeps s₀ (s.symbolDecide c t ui) := by
  unfold State.symbolDecide
  extract_lets _ _ _ _ _ _ _ _ _ _ s2
  have h2 : Keeps s₀ s2 := h.modChan.modLane.foldl (·.rxBit)
  refine Keeps.lateUnits ?_
  split
  · exact h2.unitDone
  · exact h2

theorem Keeps.symbolCode (h : Keeps s₀ s) {c code : Nat} {t ui : Time} : Keeps s₀ (s.symbolCode c code t ui) := by
  unfold State.symbolCode
  refine h.ite ?_
  extract_lets s1
  have h1 : Keeps s₀ s1 := h.modLane
  split
  · exact h1.symbolDecide
  · exact h1

theorem execAdcSample_ends (h : Keeps s₀ s) {ch : Fin 64} {uv : Int} {tm : Time} {sram : SramErr} :
    Ends s₀ (execAdcSample ch uv tm sram s) := by
  unfold execAdcSample
  extract_lets _ _ v s1
  have h1 : Keeps s₀ s1 := by
    unfold s1
    refine Keeps.addF ?_
    refine Keeps.drawn ?_
    clear_value v
    split
    · exact h.setChan
    · exact h
  split
  · exact h.ok
  · extract_lets _ _ _ s2
    have h2 : Keeps s₀ s2 := by
      unfold s2
      split
      · exact h1.acqLost
      · exact h1
    exact h2.sampleEntry.symbolCode.acqStep.acqUi.ok

theorem execAcqRecordDone_ends (h : Keeps s₀ s) {ch : Fin 64} : Ends s₀ (execAcqRecordDone ch s) :=
  h.setFs.modAcq.ok.ite h.ok

theorem execAcqArm_ends (h : Keeps s₀ s) {fn : Fn} {ch : Fin 64} : Ends s₀ (execAcqArm fn ch s) :=
  h.hostOrder (fun h' => h'.drawn.setFs.modAcq.ok.ite h'.ok)

theorem execAcqForce_ends (h : Keeps s₀ s) {fn : Fn} {ch : Fin 64} : Ends s₀ (execAcqForce fn ch s) :=
  h.hostOrder (fun h' => h'.acqTrigger.ok.ite h'.ok)

theorem execAcqTtrigSubmit_ends (h : Keeps s₀ s) {fn : Fn} {ch : Fin 64} {ns : Nat} :
    Ends s₀ (execAcqTtrigSubmit fn ch ns s) := by
  unfold execAcqTtrigSubmit
  refine h.hostOrder fun ha => ?_
  extract_lets _ _ s1
  have h1 : Keeps s₀ s1 := ha.setF
  exact (h1.frame.ok.ite h1.frame.setF.ok).ite ha.ok

theorem execRovingSample_ends (h : Keeps s₀ s) {ch : Fin 64} {r : Roving} : Ends s₀ (execRovingSample ch r s) := by
  unfold execRovingSample
  extract_lets _ _ s0 _ s1 s2
  have h0 : Keeps s₀ s0 := h.setF
  have h1 : Keeps s₀ s1 := h0.drawn.addF
  have h2 : Keeps s₀ s2 := by
    unfold s2
    split
    · exact h1.acqLost.ite h1
    · exact h1
  refine h0.ok.ite ?_
  refine h2.modAcq.ok.ite ?_
  split
  · extract_lets s3
    have h3 : Keeps s₀ s3 := h2.modAcq
    exact (h3.rovTake.ite h3).ok
  · exact h2.ok

theorem execRovingStep_ends (h : Keeps s₀ s) {ch : Fin 64} : Ends s₀ (execRovingStep ch s) := by
  unfold execRovingStep
  extract_lets _ _ _ s1
  have h1 : Keeps s₀ s1 := h.modAcq.setF
  exact ((h1.satF.ite h1).ok).ite h.ok

theorem execAcqRunStart_ends (h : Keeps s₀ s) {ch : Fin 64} {tm : Time} : Ends s₀ (execAcqRunStart ch tm s) :=
  h.setFs.modAcq.ok.ite h.ok

theorem execAcqRunStop_ends (h : Keeps s₀ s) {ch : Fin 64} {tm : Time} : Ends s₀ (execAcqRunStop ch tm s) :=
  h.setF.modAcq.ok.ite h.ok

theorem execAcqStopDone_ends (h : Keeps s₀ s) {ch : Fin 64} : Ends s₀ (execAcqStopDone ch s) :=
  h.ok.ite h.setF.ok

theorem execAcqClr_ends (h : Keeps s₀ s) {fn : Fn} {ch : Fin 64} : Ends s₀ (execAcqClr fn ch s) :=
  h.hostOrder (fun h' => (h'.setF.ok.ite h'.setF.modAcq.ok).ite h'.ok)

theorem execAcqClrDone_ends (h : Keeps s₀ s) {ch : Fin 64} : Ends s₀ (execAcqClrDone ch s) :=
  h.zeroSlot.setFs.modAcq.ok.ite h.ok

theorem execAcqEye_ends (h : Keeps s₀ s) {fn : Fn} {ch : Fin 64} : Ends s₀ (execAcqEye fn ch s) :=
  h.hostOrder (fun h' => (h'.setF.modAcq.ok.ite h'.setF.ok).ite h'.ok)

theorem execAcqEyeDone_ends (h : Keeps s₀ s) {ch : Fin 64} : Ends s₀ (execAcqEyeDone ch s) := by
  unfold execAcqEyeDone
  extract_lets _ s1
  have h1 : Keeps s₀ s1 := h.modAcq
  exact (h1.setFs.ok.ite h1.setFs.ok).ite h.ok

/-! ### Sys2Proof/Machine/Tdc.lean -/

theorem Keeps.tdcDisc (h : Keeps s₀ s) {c : Nat} : Keeps s₀ (s.tdcDisc c) :=
  h.incF

theorem Keeps.tdcValue (h : Keeps s₀ s) {c v : Nat} {warm : Bool} : Keeps s₀ (s.tdcValue c v warm) := by
  unfold State.tdcValue
  extract_lets _ _ _ s1
  have h1 : Keeps s₀ s1 := h.modTdc
  exact h1.setF.ite h1

theorem Keeps.tdcSpan (h : Keeps s₀ s) {c a b : Nat} {warm : Bool} : Keeps s₀ (s.tdcSpan c a b warm) :=
  h.tdcValue.ite h.tdcDisc

theorem Keeps.tdcStops (h : Keeps s₀ s) {c st : Nat} {w : Bool} : Keeps s₀ (s.tdcStops c st w) := by
  unfold State.tdcStops
  refine h.foldl fun ha => ?_
  split
  · exact ha.modTdc.tdcSpan.ite ha
  · exact ha

theorem Keeps.gateClose (h : Keeps s₀ s) {c : Nat} : Keeps s₀ (s.gateClose c) := by
  unfold State.gateClose
  extract_lets _ s1
  have h1 : Keeps s₀ s1 := h.modTdc
  refine h1.ite ?_
  split
  · exact h1.modTdc.ite h1.tdcDisc
  · exact h1.tdcDisc

theorem Keeps.gatesTo (h : Keeps s₀ s) {c st : Nat} : Keeps s₀ (s.gatesTo c st) :=
  h.ite h.gateClose.modTdc.addF

theorem Keeps.tdcOwn (h : Keeps s₀ s) {c st : Nat} {w stopped : Bool} : Keeps s₀ (s.tdcOwn c st w stopped) := by
  unfold State.tdcOwn
  extract_lets _ s1
  have h1 : Keeps s₀ s1 := h.modTdc
  refine h.ite ?_
  split
  · exact h.modTdc.ite h
  · split
    · exact h1.tdcSpan
    · exact h1
  · exact h.modTdc
  · exact h

theorem execTdcStamp_ends (h : Keeps s₀ s) {ch : Fin 64} {fine : Nat} : Ends s₀ (execTdcStamp ch fine s) := by
  unfold execTdcStamp
  extract_lets
  split
  · exact h.ok
  · extract_lets _ s0 _ s1
    have h0 : Keeps s₀ s0 := h.modTdc
    have h1 : Keeps s₀ s1 := h0.gatesTo.ite h0
    exact h0.ok.ite (h1.incF.modTdc.ok.ite h1.modTdc.tdcStops.tdcOwn.ok)

theorem execTdcGateEnd_ends (h : Keeps s₀ s) {ch : Fin 64} : Ends s₀ (execTdcGateEnd ch s) :=
  h.gateClose.ok.ite h.ok

theorem execTdcStartTimeout_ends (h : Keeps s₀ s) {ch : Fin 64} : Ends s₀ (execTdcStartTimeout ch s) := by
  unfold execTdcStartTimeout
  extract_lets
  split
  · exact h.modTdc.tdcDisc.ok.ite h.ok
  · exact h.ok

theorem Keeps.tdcDrop (h : Keeps s₀ s) {c : Nat} : Keeps s₀ (s.tdcDrop c) := by
  unfold State.tdcDrop
  extract_lets s1
  have h1 : Keeps s₀ s1 := h.modTdc
  exact h1.tdcDisc.ite h1

theorem Keeps.tdcOver (h : Keeps s₀ s) {c : Nat} : Keeps s₀ (s.tdcOver c) := by
  unfold State.tdcOver
  split
  · exact (h.gatesTo.ite h).tdcDrop.modTdc
  · exact h

theorem Keeps.stopDiv (h : Keeps s₀ s) {c : Nat} : Keeps s₀ (s.stopDiv c) :=
  h.modTdc.ite h

theorem execTdcRunStart_ends (h : Keeps s₀ s) {fn : Fn} {ch : Fin 64} : Ends s₀ (execTdcRunStart fn ch s) :=
  h.hostOrder (fun h' => h'.tdcOver.setFs.modTdc.stopDiv.ok.ite h'.ok)

theorem execTdcRunStop_ends (h : Keeps s₀ s) {fn : Fn} {ch : Fin 64} : Ends s₀ (execTdcRunStop fn ch s) :=
  h.hostOrder (fun h' => h'.setF.modTdc.ok.ite h'.ok)

theorem execTdcStopDone_ends (h : Keeps s₀ s) {ch : Fin 64} : Ends s₀ (execTdcStopDone ch s) := by
  unfold execTdcStopDone
  extract_lets
  split
  · exact h.tdcOver.setF.ok.ite h.ok
  · exact h.ok.ite h.setF.ok

theorem execTdcSnap_ends (h : Keeps s₀ s) {fn : Fn} {ch : Fin 64} : Ends s₀ (execTdcSnap fn ch s) :=
  h.hostOrder (fun h' => h'.setFs.ok.ite h'.ok)

theorem execTdcClr_ends (h : Keeps s₀ s) {fn : Fn} {ch : Fin 64} : Ends s₀ (execTdcClr fn ch s) :=
  h.hostOrder (fun h' => (h'.setF.ok.ite h'.setFs.modTdc.ok).ite h'.ok)

theorem execDllLock_ends (h : Keeps s₀ s) {ch : Fin 64} : Ends s₀ (execDllLock ch s) :=
  h.setF.ok

theorem execDllUnlock_ends (h : Keeps s₀ s) {ch : Fin 64} : Ends s₀ (execDllUnlock ch s) :=
  h.setFs.tdcDrop.modTdc.ok.ite h.ok

theorem Keeps.warmShow (h : Keeps s₀ s) : Keeps s₀ s.warmShow :=
  h.foldl (·.setF)

theorem execOcxoWarmChange_ends (h : Keeps s₀ s) {level : Bool} : Ends s₀ (execOcxoWarmChange level s) :=
  h.frame.warmShow.ok

end Sys2Proof.Machine
end

section
/-! SUPPORT. Every operation keeps the canonical form: clocks, commits, transactions and front ends. -/

namespace Sys2Proof.Machine

variable {s₀ s t : State}

/-! ### Sys2Proof/Machine/ClkOps.lean -/

theorem Keeps.octRates (h : Keeps s₀ s) {o : Nat} {t : Time} : Keeps s₀ (s.octRates o t) :=
  h.setF.ite (h.foldl (·.rateCheck))

theorem Keeps.sscShow (h : Keeps s₀ s) {n : Nat} : Keeps s₀ (s.sscShow n) :=
  h.setF

theorem Keeps.clockShow (h : Keeps s₀ s) {t : Time} : Keeps s₀ (s.clockShow t) :=
  (((h.foldl (·.sscShow)).drawn.foldl (·.setF.setF)).foldl (fun ha => ha.sourceOn.ite ha.sourceOff)).foldl (·.octRates)

theorem Keeps.lanesAgain (h : Keeps s₀ s) {o : Nat} {t : Time} : Keeps s₀ (s.lanesAgain o t) :=
  (h.foldl (·.laneCut.laneRestart.pinShow)).ite h

theorem Keeps.octIdle (h : Keeps s₀ s) {o : Nat} {t : Time} : Keeps s₀ (s.octIdle o t) :=
  h.modOct.foldl (·.modChan.coefRestart.pinShow)

theorem Keeps.waveAnchor (h : Keeps s₀ s) {o : Nat} {t : Time} : Keeps s₀ (s.waveAnchor o t) :=
  h.modWave.ite h

theorem Keeps.keepAmp (h : Keeps s₀ s) {o : Nat} {t : Time} : Keeps s₀ (s.keepAmp o t) :=
  h.modWave.ite h

theorem Keeps.lanesCut (h : Keeps s₀ s) {new : State} {o : Nat} {t : Time} : Keeps s₀ (s.lanesCut new o t) :=
  (h.foldl (·.laneCut)).ite h

theorem Keeps.octClockOld (h : Keeps s₀ s) {new : State} {o : Nat} {t : Time} : Keeps s₀ (s.octClockOld new o t) :=
  h.waveAnchor.lanesCut

theorem Keeps.octClockNew (h : Keeps s₀ s) {o : Nat} {t : Time} : Keeps s₀ (s.octClockNew o t) :=
  h.octIdle.lanesAgain

theorem Keeps.lpLoad (h : Keeps s₀ s) {frz : FMap} {n : Nat} : Keeps s₀ (s.lpLoad frz n) :=
  h.foldl (·.setFs)

/-! ### Sys2Proof/Machine/CommitOps.lean -/

theorem Keeps.load (h : Keeps s₀ s) {m : FMap} {i : Nat} {l : List Fld} : Keeps s₀ (s.load m i l) :=
  h.foldl (·.setL)

theorem Keeps.coefLoad (hs : Keeps s₀ s) {m : FMap} {h : Carries} {c : Nat} : Keeps s₀ (s.coefLoad m h c) := by
  unfold State.coefLoad
  exact (hs.foldl (fun ha => ha.setL.ite ha)).modChan

theorem Keeps.commitFront (hs : Keeps s₀ s) {m : FMap} {h : Carries} {c : Nat} : Keeps s₀ (s.commitFront m h c) := by
  unfold State.commitFront
  extract_lets _ _ a s1 s2 a' s3 s4 _ a'' b s5
  have ha : Keeps s₀ a := hs.setL
  have h1 : Keeps s₀ s1 := (ha.setF.ite ha).ite hs
  have h2 : Keeps s₀ s2 := (h1.load.ite h1.setF).ite h1
  have ha' : Keeps s₀ a' := h2.load
  have h3 : Keeps s₀ s3 := (ha'.coefRestart.ite ha').ite h2
  have h4 : Keeps s₀ s4 := (h3.coefLoad.ite h3.setF).ite h3
  have ha'' : Keeps s₀ a'' := h4.setL.setL
  have hb : Keeps s₀ b := ha''.setF.ite ha''
  have h5 : Keeps s₀ s5 := (hb.setF.ite hb.setL).ite h4
  exact h5.load.ite h5

theorem Keeps.commitTs (hs : Keeps s₀ s) {m : FMap} {h : Carries} {win c : Nat} : Keeps s₀ (s.commitTs m h win c) :=
  hs.foldl (fun ha => (ha.load.ite (ha.vstat (·.setFs))).ite ha)

theorem Keeps.laneRecfg (h : Keeps s₀ s) {old : State} {c : Nat} {t : Time} : Keeps s₀ (s.laneRecfg old c t) := by
  unfold State.laneRecfg
  extract_lets _ _ s1
  have h1 : Keeps s₀ s1 := h.ite h.modLane
  exact h1.ite (h1.laneCut.lanePrbsOn.ite h1.laneRender.modLane.drive)

theorem Keeps.commitLane (hs : Keeps s₀ s) {m : FMap} {h : Carries} {c : Nat} {t : Time} : Keeps s₀ (s.commitLane m h c t) := by
  unfold State.commitLane
  extract_lets _ _ s1 s2 s3 s4
  have h1 : Keeps s₀ s1 := (hs.load.laneRecfg.ite hs.setF).ite hs
  have h2 : Keeps s₀ s2 := h1.load.ite h1
  have h3 : Keeps s₀ s3 := h2.load.ite h2
  have h4 : Keeps s₀ s4 := (h3.load.ite h3.setF).ite h3
  exact h4.load.ite h4

theorem Keeps.idleShow (h : Keeps s₀ s) {o : Nat} {t : Time} : Keeps s₀ (s.idleShow o t) :=
  h.relevel.ite h.driveOct

theorem Keeps.commitClock (hs : Keeps s₀ s) {x : Nat} {m : FMap} {h : Carries} {lps : Bool} {t : Time} :
    Keeps s₀ (s.commitClock x m h lps t) :=
  (((((hs.foldl (·.setF)).foldl (·.setF)).foldl (·.octClockOld)).foldl (·.lpLoad)).foldl (·.load)).foldl (·.octClockNew)

theorem Keeps.commitOct (hs : Keeps s₀ s) {x : Nat} {m : FMap} {h : Carries} {o : Nat} {t : Time} :
    Keeps s₀ (s.commitOct x m h o t) := by
  unfold State.commitOct
  extract_lets _ _ s2 s3 s4 _ s5
  have h2 : Keeps s₀ s2 := (hs.setF.ite ((hs.lanesCut.load.octIdle.lanesAgain.ite hs.load).ite hs)).ite hs
  have h3 : Keeps s₀ s3 := (h2.setF.ite (h2.load.ite h2)).ite h2
  have h4 : Keeps s₀ s4 := ((h3.vstat (·.setF)).ite (h3.load.ite h3)).ite h3
  have h5 : Keeps s₀ s5 := (h4.setF.ite (h4.setPers.ite h4)).ite h4
  exact h5.idleShow.ite h5

theorem Keeps.commitSite (hs : Keeps s₀ s) {x : Nat} {m : FMap} {h : Carries} : Keeps s₀ (s.commitSite x m h) :=
  (hs.foldl (fun ha => (ha.load.ite ha.setF).ite ha)).foldl (fun ha => (ha.load.ite ha.setF).ite ha)

theorem Keeps.commitAll (hs : Keeps s₀ s) {x : Nat} {m : FMap} {h : Carries} {lps : Bool} {win : Nat} {t : Time} :
    Keeps s₀ (s.commitAll x m h lps win t) :=
  ((((hs.foldl (fun ha => ha.keepAmp.ite ha)).commitClock.foldl (·.commitFront.commitTs)).foldl (·.commitOct)).foldl
    (·.commitLane)).commitSite

theorem Keeps.compBack (h : Keeps s₀ s) {s0 : State} {c : Nat} : Keeps s₀ (s.compBack s0 c) := by
  unfold State.compBack
  exact h.modChan

theorem Keeps.gapShow (h : Keeps s₀ s) {s0 : State} {x : Nat} {t : Time} : Keeps s₀ (s.gapShow s0 x t) :=
  ((h.foldl (·.compBack)).foldl (·.pinShow)).frame

/-! ### Sys2Proof/Machine/SafOps.lean -/

theorem Keeps.safShow (h : Keeps s₀ s) {x : Nat} : Keeps s₀ (s.safShow x) := by
  unfold State.safShow
  extract_lets _ run s1 s2 s3
  have h1 : Keeps s₀ s1 := by
    unfold s1
    split <;> exact h.setFs
  have h2 : Keeps s₀ s2 := by
    unfold s2
    split <;> exact h1.setFs
  have h3 : Keeps s₀ s3 := by
    unfold s3
    clear_value run
    split <;> exact h2.setFs
  exact h3.setF

theorem Keeps.safLast (h : Keeps s₀ s) {x txid code chip reason : Nat} : Keeps s₀ (s.safLast x txid code chip reason) := by
  unfold State.safLast
  extract_lets s1
  have h1 : Keeps s₀ s1 := h.setFs
  exact (h1.setF.ite (h1.setF.ite h1)).raiseVf

theorem Keeps.safNote (h : Keeps s₀ s) {x txid : Nat} {committed : Bool} {beat : Nat} :
    Keeps s₀ (s.safNote x txid committed beat) :=
  h.modSaf

theorem Keeps.safEnd (h : Keeps s₀ s) {x txid code chip reason : Nat} : Keeps s₀ (s.safEnd x txid code chip reason) :=
  h.sendMembers.safNote.safLast

theorem Keeps.safAbortRun (h : Keeps s₀ s) {x code chip reason : Nat} : Keeps s₀ (s.safAbortRun x code chip reason) := by
  unfold State.safAbortRun
  split
  · exact h.modSaf.safEnd
  · exact h

theorem Keeps.reword (h : Keeps s₀ s) {x : Nat} {old new : Msg} : Keeps s₀ (s.reword x old new) :=
  h.frame.modSite.foldl (·.modPort)

theorem Keeps.safDecide (h : Keeps s₀ s) {x : Nat} {l : SafLead} {b : Option SafBuf} : Keeps s₀ (s.safDecide x l b) :=
  h.modSaf.safNote

theorem Keeps.safCommit (h : Keeps s₀ s) {x : Nat} {l : SafLead} : Keeps s₀ (s.safCommit x l) :=
  h.reword.safDecide.ite h.sendMembers.safDecide

theorem Keeps.safBack (h : Keeps s₀ s) {x : Nat} {l : List Nat} : Keeps s₀ (s.safBack x l) :=
  h.setFs

theorem Keeps.safRevive (h : Keeps s₀ s) {x txid chip reason : Nat} : Keeps s₀ (s.safRevive x txid chip reason) := by
  unfold State.safRevive
  split
  · exact (h.reword.safDecide.modSaf.safBack.ite h.modSaf).ite h
  · exact h

theorem Keeps.safLapse (h : Keeps s₀ s) {x : Nat} : Keeps s₀ (s.safLapse x) :=
  h.modSaf.safAbortRun

theorem Keeps.safRecall (h : Keeps s₀ s) {x : Nat} {l : SafLead} : Keeps s₀ (s.safRecall x l) :=
  h.reword.modSaf.safNote.safLast

theorem Keeps.safDefer (h : Keeps s₀ s) {x : Nat} {l : SafLead} : Keeps s₀ (s.safDefer x l) := by
  unfold State.safDefer
  exact h.sendMembers.modSaf

theorem Keeps.safClock (h : Keeps s₀ s) {x : Nat} : Keeps s₀ (s.safClock x) := by
  unfold State.safClock
  extract_lets go
  have hgo {a : State} (ha : Keeps s₀ a) : Keeps s₀ (go a) := by
    unfold go
    split
    · exact ha.ite (ha.safAbortRun.ite ha.safDefer)
    · exact ha
  exact hgo (hgo h)

theorem Keeps.safVote (h : Keeps s₀ s) {x chip reason : Nat} : Keeps s₀ (s.safVote x chip reason) := by
  unfold State.safVote
  extract_lets s
  have h' : Keeps s₀ s := h.safClock
  split
  · refine h'.ite ?_
    refine h'.safAbortRun.ite ?_
    extract_lets _ s1
    have h1 : Keeps s₀ s1 := h'.modSaf
    exact h1.safCommit.ite h1
  · exact h'

theorem Keeps.safBegin (h : Keeps s₀ s) {x tgt : Nat} {b : SafBuf} : Keeps s₀ (s.safBegin x tgt b) := by
  unfold State.safBegin
  split
  · exact h.safEnd
  · extract_lets _ _ _ _ s3
    have h3 : Keeps s₀ s3 := h.modSaf.setF.foldl (·.sendSite)
    split
    · exact h3.safVote.ite h3.safVote
    · exact h3.safVote

theorem Keeps.safNext (h : Keeps s₀ s) {x : Nat} : Keeps s₀ (s.safNext x) := by
  unfold State.safNext
  split
  · exact h.ite h.modSaf.safBegin
  · exact h

theorem Keeps.safCycle (h : Keeps s₀ s) {x : Nat} : Keeps s₀ (s.safCycle x) := by
  unfold State.safCycle
  split
  · extract_lets s1
    have h1 : Keeps s₀ s1 := h.modSaf
    exact h1.safNext.safShow.ite h1
  · exact h

theorem Keeps.safDrop (h : Keeps s₀ s) {x txid code : Nat} : Keeps s₀ (s.safDrop x txid code) :=
  h.modSaf.safLast

theorem Keeps.safDoubt (h : Keeps s₀ s) {x : Nat} : Keeps s₀ (s.safDoubt x) :=
  h.sourceOff.ite h.sourceOn

theorem Keeps.safResolve (h : Keeps s₀ s) {x txid : Nat} {commit : Bool} : Keeps s₀ (s.safResolve x txid commit) := by
  unfold State.safResolve
  split
  · exact h
  · exact h.ite (h.modSaf.safShow.ite h.safDrop.safDoubt.safShow)

/-! ### Sys2Proof/Machine/CloveOps.lean -/

theorem Keeps.clvTake (h : Keeps s₀ s) {o : Nat} : Keeps s₀ (s.clvTake o) := by
  unfold State.clvTake
  exact h.setFs.setF.incF.tdcDrop.modChan.modOct

theorem Keeps.clvFree (h : Keeps s₀ s) {o st : Nat} : Keeps s₀ (s.clvFree o st) := by
  unfold State.clvFree
  exact h.setFs.setF.modOct

theorem Keeps.markSuspect (h : Keeps s₀ s) {c : Nat} : Keeps s₀ (s.markSuspect c) := by
  unfold State.markSuspect
  split
  · exact h.suspect.ite h
  · exact h

theorem Keeps.retireChan (h : Keeps s₀ s) {c b : Nat} : Keeps s₀ (s.retireChan c b) := by
  unfold State.retireChan
  refine h.ite ?_
  extract_lets s1 s2
  have h1 : Keeps s₀ s1 := h.setF.raisePf.faultLog
  have h2 : Keeps s₀ s2 := by
    unfold s2
    split
    · exact h1.siteFault
    · exact h1
  exact h2.pinShow

theorem Keeps.clvAsk (h : Keeps s₀ s) {o pos kind : Nat} : Keeps s₀ (s.clvAsk o pos kind) := by
  unfold State.clvAsk
  extract_lets _ s1
  have h1 : Keeps s₀ s1 := h.setF
  split
  · extract_lets _ s2
    have h2 : Keeps s₀ s2 := h1.modOct
    exact h2.ite h2.clvTake
  · exact h1.modOct.clvTake

theorem Keeps.clvNext (h : Keeps s₀ s) {o x : Nat} : Keeps s₀ (s.clvNext o x) := by
  unfold State.clvNext
  extract_lets _ s1
  have h1 : Keeps s₀ s1 := h.modOct
  split
  · exact h
  · exact ((h1.foldl (·.retireChan)).setF.modOct.clvTake).ite (h1.foldl (·.retireChan))

theorem Keeps.clvWatch (h : Keeps s₀ s) {o : Nat} : Keeps s₀ (s.clvWatch o) :=
  h.ite (h.clvAbort.ite (h.drawn.ite h.clvAbort))

theorem Keeps.clvSwitch (h : Keeps s₀ s) {o : Nat} : Keeps s₀ (s.clvSwitch o) := by
  unfold State.clvSwitch
  extract_lets a
  have ha : Keeps s₀ a := h.clvWatch
  exact ha.clvFree.ite ha

theorem Keeps.clvLoad (h : Keeps s₀ s) {o x f : Nat} : Keeps s₀ (s.clvLoad o x f) := by
  unfold State.clvLoad
  extract_lets s1
  have h1 : Keeps s₀ s1 := h.setFs.modOct
  exact h1.clvAbort.ite (h1.clvAbort.ite h1)

theorem Keeps.clvGap (h : Keeps s₀ s) {x f : Nat} : Keeps s₀ (s.clvGap x f) :=
  h.foldl (fun ha => (ha.ite (ha.clvTake.ite (ha.clvLoad.ite (ha.clvSwitch.ite (ha.clvFree.ite ha))))).clvNext)

theorem Keeps.clvStop (h : Keeps s₀ s) {x : Nat} : Keeps s₀ (s.clvStop x) :=
  h.foldl (fun ha => (ha.ite (ha.clvAbort.ite (ha.clvTake.ite (ha.clvFree.ite ha.modOct)))).clvNext)

end Sys2Proof.Machine
end

section
/-! SUPPORT. Every operation keeps the canonical form: engines, beats, the dispatcher and the sites. -/

namespace Sys2Proof.Machine

variable {s₀ s t : State}

/-! ### Sys2Proof/Machine/Seq.lean -/

theorem Keeps.gridTo (h : Keeps s₀ s) {m : Nat} {t : Time} {i : Nat} {w : Option Nat} : Keeps s₀ (s.gridTo m t i w) :=
  h.foldl (·.modChan)

theorem Keeps.gridBack (h : Keeps s₀ s) {l : List (Nat × Time × Nat × Nat)} : Keeps s₀ (s.gridBack l) :=
  h.foldl (·.modChan)

theorem Keeps.pushActs (h : Keeps s₀ s) {e wid : Nat} {t : Time} {l : List Act} : Keeps s₀ (s.pushActs e wid t l) :=
  h.modEng

theorem Keeps.modeAt (h : Keeps s₀ s) {e wid : Nat} {t : Time} {md : Nat × Nat} : Keeps s₀ (s.modeAt e wid t md) :=
  h.pushActs.modEng

theorem Keeps.issueGood (h : Keeps s₀ s) {e x w m n p : Nat} {t : Time} {shadow hret : Bool} :
    Keeps s₀ (s.issueGood e x w m n p t shadow hret) := by
  unfold State.issueGood
  extract_lets _ _ _ _ _ _ _ s1 s2 _ _ s5 s6 s7
  have h1 : Keeps s₀ s1 := h.ite h.setF
  have h2 : Keeps s₀ s2 := h1.setF.ite h1
  have h5 : Keeps s₀ s5 := (h2.setF.ite h2).modEng.gridTo
  have h6 : Keeps s₀ s6 := h5.pushActs.ite h5
  have h7 : Keeps s₀ s7 := h6.modCap.ite h6
  exact (h7.ite h7.pushActs).showRun

theorem Keeps.issueWord (h : Keeps s₀ s) {e raw : Nat} {t0 : Time} : Keeps s₀ (s.issueWord e raw t0) := by
  unfold State.issueWord
  extract_lets _ _ _ _ _ _ _ _ _ _ left _ _ s0 s1 _ _ _ s2
  have h0 : Keeps s₀ s0 := h.holdAll
  have h1 : Keeps s₀ s1 := by
    unfold s1
    clear_value left
    split
    · exact h0.modeAt
    · exact h0
  have h2 : Keeps s₀ s2 := by
    unfold s2
    split
    · exact h1.modeAt.ite h1
    · exact h1
  split
  · exact h1.issueGood
  · exact h2.raiseSync

theorem Keeps.burstIssue (h : Keeps s₀ s) {e : Fin 16} {upset : Nat} : Ends s₀ (s.burstIssue e upset) := by
  unfold State.burstIssue
  extract_lets _ _ _ s1
  have h1 : Keeps s₀ s1 := (h.ite h.setStore).setF
  exact h.ok.ite (h.dropWordSpan.endBurst.ok.ite (h.ok.ite (h1.modEng.setF.ok.ite h1.issueWord.ok)))

theorem Keeps.requeue (h : Keeps s₀ s) {i : Item} {e : Nat} : Keeps s₀ (s.requeue i e) := by
  unfold State.requeue
  extract_lets _ s1
  have h1 : Keeps s₀ s1 := h.numbered.modSite
  exact h1.arise.ite h1.frame.depth

theorem Keeps.failItem (h : Keeps s₀ s) {e : Nat} {i : Item} {reln : Nat} : Keeps s₀ (s.failItem e i reln) :=
  h.arise.requeue.ite h.arise

theorem Keeps.cancelPost (h : Keeps s₀ s) {e : Nat} : Keeps s₀ (s.cancelPost e) := by
  unfold State.cancelPost
  split
  · exact h
  · exact h.numbered.modSite.arise.modEng.setF.fabricNext

theorem Keeps.quotaFind (h : Keeps s₀ s) {x gone : Nat} : Keeps s₀ (s.quotaFind x gone) := by
  unfold State.quotaFind
  split
  · exact h.modEng.ite h.setQuota
  · exact h.setQuota.setF

theorem Keeps.quotaLoss (h : Keeps s₀ s) {e : Nat} {join : Option (Nat × Nat)} : Keeps s₀ (s.quotaLoss e join) := by
  unfold State.quotaLoss
  split
  · exact h.quotaFind
  · exact h.quotaFind
  · exact h

theorem Keeps.retireEngine (h : Keeps s₀ s) {e : Nat} : Keeps s₀ (s.retireEngine e) := by
  unfold State.retireEngine
  extract_lets _ s1 s2 s3 _ _ _ s7 s8
  have h1 : Keeps s₀ s1 := h.cancelPost
  have h2 : Keeps s₀ s2 := by
    unfold s2
    split
    · extract_lets a
      have ha : Keeps s₀ a := h1.failItem
      exact ha.countDown.ite ha
    · exact h1
  have h3 : Keeps s₀ s3 := by
    unfold s3
    split
    · exact h2.failItem.countDown
    · exact h2
  have h7 : Keeps s₀ s7 := (h3.foldl (fun ha => ha.depth.ite ha)).frame.modEng.setFs.dropBurst.quotaLoss.raisePf.faultLog
  have h8 : Keeps s₀ s8 := by
    unfold s8
    split
    · exact h7.stopCheck
    · exact h7
  exact (h8.setF.ite h8).preempt

theorem execMchkRewriteDone_ends (h : Keeps s₀ s) {e : Fin 16} {mirrorBad : Bool} {upset : Nat} :
    Ends s₀ (execMchkRewriteDone e mirrorBad upset s) := by
  unfold execMchkRewriteDone
  extract_lets _ _ _ _ _ sr _ s2 _ _ s3 s4
  have hsr : Keeps s₀ sr := h.requestAt
  have h2 : Keeps s₀ s2 := (hsr.mirrorUe.ite hsr.setStore).modEng.setF
  have h3 : Keeps s₀ s3 := h2.setF
  have h4 : Keeps s₀ s4 := by
    unfold s4
    split
    · exact h3.restoreUndo
    · exact h3
  split
  · exact h.ok
  · exact h4.takeExc.dropWordSpan.retireEngine.ok.ite h2.satF.setF.setF.issueWord.ok

theorem Keeps.disarm (h : Keeps s₀ s) {e : Nat} {c : Issued} : Keeps s₀ (s.disarm e c) :=
  h.modEng

theorem Keeps.haltBurst (h : Keeps s₀ s) {k status code : Nat} : Keeps s₀ (s.haltBurst k status code) :=
  h.modEng.ite h.endBurst

theorem Keeps.handlerReturn (h : Keeps s₀ s) {e : Nat} {y : Bool} : Keeps s₀ (s.handlerReturn e y) := by
  unfold State.handlerReturn
  extract_lets _ _ _ _ _ s2
  have h2 : Keeps s₀ s2 := (h.setF.ite h).modEng
  exact h2.internal.modEng.ite h2

theorem Keeps.completeWord (h : Keeps s₀ s) {k : Nat} {c : Issued} : Keeps s₀ (s.completeWord k c) := by
  unfold State.completeWord
  extract_lets g w s1 s2 _ _ fin
  split
  · exact h
  extract_lets s3 after _ s4 s5
  have h1 : Keeps s₀ s1 := h.disarm.ite h
  have h2 : Keeps s₀ s2 := h1.pushActs.ite h1
  have h3 : Keeps s₀ s3 := h2.modEng.arise.modCap.ite h2
  have h5 : Keeps s₀ s5 := h3.internal.modEng.setF
  have hfin {a : State} {y : Bool} (ha : Keeps s₀ a) : Keeps s₀ (fin a y) := ha.modEng.yieldBind.ite ha
  refine (h5.haltBurst.ite h5.haltBurst).ite ?_
  split
  · exact (hfin h5.handlerReturn).ite (hfin h5.modEng)
  · exact h5.modEng.ite (hfin h5.modEng)

theorem Keeps.burstResolve (h : Keeps s₀ s) {e : Fin 16} : Ends s₀ (s.burstResolve e) := by
  unfold State.burstResolve
  extract_lets
  split
  · refine h.ok.ite ?_
    extract_lets _ _ s1
    have h1 : Keeps s₀ s1 := h.numbered.modEng.setF
    exact h.modEng.ok.ite (h.modEng.raiseSync.ok.ite (
      ((h1.cancelPost.completeWord.ok.ite h1.ok).ite h.takeItem.completeWord.ok).ite h.completeWord.ok))
  · exact h.ok

theorem execPostEntryFreed_ends (h : Keeps s₀ s) {site : Fin 16} : Ends s₀ (execPostEntryFreed site s) := by
  unfold execPostEntryFreed
  extract_lets
  split
  · exact h.ok
  · split
    · refine .ite ?_ h.ok
      extract_lets _ _ _ s3
      have h3 : Keeps s₀ s3 := h.modEng.takeItem.setF.completeWord
      exact (h3.modEng.ite h3).fabricNext.ok
    · exact h.ok

theorem execAsyncExceptionTake_ends (h : Keeps s₀ s) {e : Fin 16} : Ends s₀ (execAsyncExceptionTake e s) :=
  h.setF.dropWordSpan.takeExc.enterHandler.ok.ite h.ok

theorem Keeps.cancelAfter (h : Keeps s₀ s) {k : Nat} {c : Issued} : Keeps s₀ (s.cancelAfter k c) := by
  unfold State.cancelAfter
  extract_lets _ _ _ s2 s3
  have h2 : Keeps s₀ s2 := (h.foldl (·.gridBack)).foldl (·.setF)
  have h3 : Keeps s₀ s3 := by
    unfold s3
    refine .ite ?_ h2
    split
    · exact h2.setF
    · exact h2.setF
    · exact h2.setF
    · exact h2
  exact (h3.yieldUndo.ite h3).modSite.modEng

theorem execUflReport_ends (h : Keeps s₀ s) {e : Fin 16} {arrival : Time} : Ends s₀ (execUflReport e arrival s) := by
  unfold execUflReport
  extract_lets _ _ s0
  have h0 : Keeps s₀ s0 := h.modEng
  split
  · exact h.ok
  · split
    · extract_lets s1 _ _ _ s2 s3
      have h1 : Keeps s₀ s1 := h0.cancelAfter
      have h2 : Keeps s₀ s2 := by
        unfold s2
        split
        · exact h1.modeAt
        · exact h1
      have h3 : Keeps s₀ s3 := h2.raiseSync
      exact (h3.setF.fabricNext.ite h3).ok
    · exact h0.ok

theorem execBurstSuspend_ends (h : Keeps s₀ s) {e : Fin 16} : Ends s₀ (execBurstSuspend e s) := by
  unfold execBurstSuspend
  extract_lets _ _ top bound
  split
  · exact h.ok
  · refine h.endBurst.ok.ite ?_
    refine .ite ?_ h.ok
    extract_lets _ _ _ s3
    have h3 : Keeps s₀ s3 := h.modEng.dropBurst.modEng.setF.countDown.incF
    refine Keeps.ok ?_
    clear_value bound top
    split
    · exact h3.bindTo
    · exact h3.modEng
    · exact h3

theorem execBurstRestore_ends (h : Keeps s₀ s) {e : Fin 16} {tm : Time} : Ends s₀ (execBurstRestore e tm s) := by
  unfold execBurstRestore
  extract_lets
  split
  · exact h.ok
  · exact (((h.modEng.restoreUndo.foldl (·.setF)).foldl (·.setF)).setFs.countDown.incF.showRun.preempt.ok).ite h.ok

/-! ### Sys2Proof/Machine/Beat.lean -/

theorem execCommit_ends (h : Keeps s₀ s) {fn : Fn} {site : Fin 16} : Ends s₀ (execCommit fn site s) := by
  unfold execCommit
  refine h.hostOrder fun ha => ?_
  extract_lets _ s1
  have h1 : Keeps s₀ s1 := ha.setF
  exact ((h1.setF.ite h1).ok).ite ha.ok

theorem execCommitFreeze_ends (h : Keeps s₀ s) {site : Fin 16} : Ends s₀ (execCommitFreeze site s) :=
  h.modSite.ok.ite h.ok

theorem Keeps.siteRender (h : Keeps s₀ s) {x : Nat} {t : Time} : Keeps s₀ (s.siteRender x t) :=
  h.foldl (·.laneRender)

theorem Keeps.classFAt (h : Keeps s₀ s) {x f win : Nat} {m : FMap} {t : Time} : Keeps s₀ (s.classFAt x f win m t) := by
  unfold State.classFAt
  exact h.commitAll.clockShow.setFs.incF.modSite

theorem Keeps.carryOver (h : Keeps s₀ s) {x e : Nat} {c : Sched} : Keeps s₀ (s.carryOver x e c) :=
  h.modEng.ite h

theorem Keeps.windowEnd (h : Keeps s₀ s) {x : Nat} {c : Sched} : Keeps s₀ (s.windowEnd x c) :=
  ((h.foldl (fun ha => ha.foldl (·.holdTo))).foldl (·.modChan)).foldl (·.carryOver)

theorem Keeps.repace (h : Keeps s₀ s) {x e : Nat} {b1 : Time} : Keeps s₀ (s.repace x e b1) := by
  unfold State.repace
  extract_lets
  split
  · exact h.modEng.ite h
  · exact h

theorem Keeps.reend (h : Keeps s₀ s) {x e : Nat} : Keeps s₀ (s.reend x e) := by
  unfold State.reend
  extract_lets
  split
  · exact h.modEng.gridTo.ite h
  · exact h

theorem Keeps.reassign (h : Keeps s₀ s) {x f : Nat} {t : Time} : Keeps s₀ (s.reassign x f t) :=
  h.setF.ite h

theorem Keeps.classXBeat (h : Keeps s₀ s) {x f : Nat} {b : SafBuf} {t : Time} : Keeps s₀ (s.classXBeat x f b t) := by
  unfold State.classXBeat
  extract_lets _ _ s1
  have h1 : Keeps s₀ s1 := h.setFs
  refine (h1.reassign.ite h).ite ?_
  split
  · exact h1.setFs.modSite.reassign
  · exact h1

theorem Keeps.classXAt (h : Keeps s₀ s) {x f : Nat} {b : SafBuf} {resolved afterF : Bool} {win : Nat} {t : Time} :
    Keeps s₀ (s.classXAt x f b resolved afterF win t) := by
  unfold State.classXAt
  extract_lets _ _ _ _ _ s3 s4 _ _ _ s8
  have h3 : Keeps s₀ s3 := h.classXBeat.setF.restream.commitAll.clockShow
  have h4 : Keeps s₀ s4 := h3.setF.ite h3
  have h8 : Keeps s₀ s8 := (h4.setF.ite h4).setFs.incF.modSaf.safLast
  exact ((h8.safDoubt.ite h8).safNext).safShow

theorem Keeps.gapEnd (h : Keeps s₀ s) {s0 : State} {x f : Nat} {t : Time} : Keeps s₀ (s.gapEnd s0 x f t) :=
  (h.foldl (fun ha => (ha.ite ha.modChan).rateCheck)).gapShow.clvGap

theorem execGapApply_ends (h : Keeps s₀ s) {site : Fin 16} : Ends s₀ (execGapApply site s) := by
  unfold execGapApply
  extract_lets _ _ _ _ s0 _ _ _ fr s1
  have h0 : Keeps s₀ s0 := h.siteRender.windowEnd
  have h1 : Keeps s₀ s1 := by
    unfold s1
    clear_value fr
    split
    · exact h0.classFAt
    · exact h0
  refine ((h1.foldl (·.classXAt)).foldl (·.repace.reend)).gapEnd.ok.ite ?_
  split
  · exact ((h.siteRender.foldl (·.classXAt)).gapEnd).ok
  · exact h.ok

theorem execBeatStart_ends (h : Keeps s₀ s) {site : Fin 16} : Ends s₀ (execBeatStart site s) :=
  (((h.foldl (·.carryOver)).setFs.modSite.frame.foldl (·.modChan)).ok).ite h.ok

theorem execPinSample_ends (h : Keeps s₀ s) {ch : Fin 64} {uv : Int} : Ends s₀ (execPinSample ch uv s) := by
  unfold execPinSample
  extract_lets
  split
  · exact h.ok
  · exact h.drawn.modChan.ok

theorem execSignatureResult_ends (h : Keeps s₀ s) {site : Fin 16} {u : Fin 8} : Ends s₀ (execSignatureResult site u s) := by
  unfold execSignatureResult
  extract_lets
  split
  · exact h.ok
  · extract_lets _ s1 s2
    have h1 : Keeps s₀ s1 := h.modSite.setFs
    have h2 : Keeps s₀ s2 := h1.setF.setF.incF
    exact ((h2.raiseVf.ite (h2.siteFault.ite h2)).ok).ite h1.ok

/-! ### Sys2Proof/Machine/Disp.lean -/

theorem execItemArrive_ends (h : Keeps s₀ s) {site : Fin 16} {src : Fin 3} {chip : Sender} {desc : List Nat} :
    Ends s₀ (execItemArrive site src chip desc s) :=
  h.ok.ite ((h.sendSite.ok.ite (h.takeItem.creditBack.ok.ite h.modSite.ok)).ite (h.takeItem.ok.ite h.ok))

theorem execEngineBind_ends (h : Keeps s₀ s) {e : Fin 16} : Ends s₀ (execEngineBind e s) := by
  unfold execEngineBind
  extract_lets
  split
  · exact h.bindTo.preempt.ok
  · exact h.ok

theorem Keeps.clearEngine (h : Keeps s₀ s) {e : Nat} : Keeps s₀ (s.clearEngine e) :=
  (h.setFs.setAll.foldl (·.setVa)).setAll

theorem Keeps.tagReset (h : Keeps s₀ s) {x : Nat} : Keeps s₀ (s.tagReset x) :=
  h.modSite.ite h

theorem Keeps.startBurst (h : Keeps s₀ s) {e : Nat} {i : Item} {tm : Time} : Keeps s₀ (s.startBurst e i tm) :=
  (h.tagReset.setEng.frame.clearEngine.foldl (·.setF)).setFs.incF.incF.preempt

theorem execBurstStart_ends (h : Keeps s₀ s) {e : Fin 16} {tm : Time} : Ends s₀ (execBurstStart e tm s) := by
  unfold execBurstStart
  extract_lets
  split
  · exact h.startBurst.ok.ite h.ok
  · exact h.ok

theorem execRecordRelease_ends (h : Keeps s₀ s) {site : Fin 16} : Ends s₀ (execRecordRelease site s) :=
  h.release.ok

theorem Keeps.cancelItem (h : Keeps s₀ s) {i : Item} : Keeps s₀ (s.cancelItem i) := by
  unfold State.cancelItem
  extract_lets s1
  have h1 : Keeps s₀ s1 := h.frame
  exact (h1.depth.ite h1).arise

theorem Keeps.stopEngine (h : Keeps s₀ s) {x e : Nat} : Keeps s₀ (s.stopEngine x e) := by
  unfold State.stopEngine
  extract_lets s1 s2
  have h1 : Keeps s₀ s1 := by
    unfold s1
    split
    · refine .ite ?_ h
      extract_lets a
      have ha : Keeps s₀ a := h.cancelPost.completeWord
      exact ha.modEng.ite ha
    · exact h
  have h2 : Keeps s₀ s2 := by
    unfold s2
    split
    · exact h1.arise.countDown.modEng.setF.joinNow.ite h1
    · exact h1
  split
  · exact h2.modEng.ite h2
  · exact h2

theorem Keeps.stopSite (h : Keeps s₀ s) {x : Nat} : Keeps s₀ (s.stopSite x) :=
  (((h.setFs.foldl (·.cancelItem)).foldl (·.joinNow)).foldl (·.stopEngine)).siteFlash.stopCheck.preempt

theorem execDspStop_ends (h : Keeps s₀ s) {fn : Fn} {site : Fin 16} : Ends s₀ (execDspStop fn site s) :=
  (h.order (·.stopSite.ok) (·.ok)).ite h.ok

theorem execDspUnstop_ends (h : Keeps s₀ s) {fn : Fn} {site : Fin 16} : Ends s₀ (execDspUnstop fn site s) :=
  (h.order (·.setF.ok) (·.ok)).ite h.ok

theorem execWhistClear_ends (h : Keeps s₀ s) {fn : Fn} {site : Fin 16} : Ends s₀ (execWhistClear fn site s) :=
  h.hostOrder (fun h' => (h'.setAll.ite h').ok)

/-! ### Sys2Proof/Machine/SiteOps.lean -/

theorem Keeps.resvCheck (h : Keeps s₀ s) : Keeps s₀ s.resvCheck :=
  h.setF

theorem Keeps.nchShow (h : Keeps s₀ s) {n : Nat} : Keeps s₀ (s.nchShow n) :=
  h.setFs.resvCheck

theorem wf_mergeKeys {p : Nat → Bool} {now init : FMap} (h : Tbl.wf (fun _ => 0) now = true) :
    Tbl.wf (fun _ => 0) (mergeKeys p now init) = true :=
  Tbl.wf_foldl_set _ (Tbl.wf_filter _ h)

theorem Keeps.regsBack (h : Keeps s₀ s) {x : Nat} : Keeps s₀ (s.regsBack x) := by
  unfold State.regsBack
  exact (h.putRegs fun w => by simp_all [State.regsWf, wf_mergeKeys]).warmShow

/-- A byte that keeps something is not 0. -/
theorem nibbles_ne_zero {v : Byte} {c d : Bool} {lo hi : Nat} (hl : lo = if c then 0 else v.toNat % 16)
    (hh : hi = if d then 0 else v.toNat / 16) (h : lo + hi * 16 ≠ 0) : BitVec.ofNat 8 (lo + hi * 16) ≠ 0 := by
  have hv := v.isLt
  have hlt : lo + hi * 16 < 256 := by
    subst hl hh
    split <;> split <;> omega
  intro e
  have hnat := congrArg BitVec.toNat e
  simp only [BitVec.toNat_ofNat, Nat.mod_eq_of_lt hlt] at hnat
  exact h hnat

theorem Keeps.bbZero (h : Keeps s₀ s) {x : Nat} : Keeps s₀ (s.bbZero x) := by
  refine h.putMems fun w => ?_
  simp only [State.memsWf, Bool.and_eq_true, and_assoc] at w ⊢
  obtain ⟨hbb, hrest⟩ := w
  refine ⟨Tbl.wf_filterMap ?_ ?_ hbb, hrest⟩
  all_goals
    intro p q e
    simp only [Option.ite_none_left_eq_some, Option.some.injEq] at e
    obtain ⟨hne, rfl⟩ := e
  · rfl
  · exact nibbles_ne_zero rfl rfl hne

theorem Keeps.acqZero (h : Keeps s₀ s) {x : Nat} : Keeps s₀ (s.acqZero x) :=
  h.putMems fun w => by simp_all [State.memsWf, Tbl.wf_filter]

theorem Keeps.dramZero (h : Keeps s₀ s) {x : Nat} {l : List Nat} : Keeps s₀ (s.dramZero x l) :=
  h.putMems fun w => by simp_all [State.memsWf, Tbl.wf_filter]

theorem Keeps.loseRegions (h : Keeps s₀ s) {x : Nat} {l : List Nat} : Keeps s₀ (s.loseRegions x l) :=
  h.ite h.setF.modSite.sourceOn

/-! ### Sys2Proof/Machine/Site.lean -/

theorem Keeps.resetSite (h : Keeps s₀ s) {x : Nat} : Keeps s₀ (s.resetSite x) :=
  h.setFs.sourceOn.stopSite.modSaf.safDoubt.safShow.setUsed.modSite.frame.setFs.capShow

theorem Keeps.nackLosers (h : Keeps s₀ t) {s : State} {x : Nat} : Keeps s₀ (State.nackLosers s x t) :=
  h.foldl (·.sendSite)

theorem execSiteReset_ends (h : Keeps s₀ s) {fn : Fn} {site : Fin 16} : Ends s₀ (execSiteReset fn site s) :=
  (h.order (·.nackLosers.resetSite.ok) (·.ok)).ite h.ok

theorem Keeps.chanBack (h : Keeps s₀ s) {c : Nat} {t : Time} : Keeps s₀ (s.chanBack c t) := by
  unfold State.chanBack
  extract_lets _ s1
  have h1 : Keeps s₀ s1 := h.setChan
  exact (h1.laneRestart.ite h1.modChan).pinShow

theorem Keeps.dropWords (h : Keeps s₀ s) {x : Nat} : Keeps s₀ (s.dropWords x) :=
  h.foldl (·.modEng)

theorem Keeps.resetZero (h : Keeps s₀ s) {x : Nat} : Keeps s₀ (s.resetZero x) := by
  unfold State.resetZero
  exact (((((h.clvStop.dropWords.foldl (·.setPers)).regsBack.foldl (·.streamEnd)).setF.incF.bbZero.acqZero.dramZero.foldl
    (·.modOct)).setSite.frame.foldl (·.chanBack)).zeroTraffic).clockShow

theorem execSiteResetBurstsEnded_ends (h : Keeps s₀ s) {site : Fin 16} : Ends s₀ (execSiteResetBurstsEnded site s) := by
  unfold execSiteResetBurstsEnded
  exact (h.resetZero.ite h).ok

theorem execSiteResetDone_ends (h : Keeps s₀ s) {site : Fin 16} : Ends s₀ (execSiteResetDone site s) :=
  h.modSite.setFs.sourceOff.sourceOff.ok.ite h.ok

theorem execScrubDone_ends (h : Keeps s₀ s) {site : Fin 16} : Ends s₀ (execScrubDone site s) :=
  h.modSite.setF.ok.ite h.ok

theorem execRetrainPassStart_ends (h : Keeps s₀ s) : Ends s₀ (execRetrainPassStart s) :=
  h.setF.ok.ite (h.ok.ite (((h.setF.ite h).modEng.setFs.setF.clearEngine.frame.preempt.ok).ite h.ok))

theorem Keeps.dcFail (h : Keeps s₀ s) {d : Nat} : Keeps s₀ (s.dcFail d) :=
  (h.setF.setFs.drawn.setFs.resvCheck.mirrorLose.foldl (·.loseRegions)).raisePf.faultLog

theorem Keeps.trainEnd (h : Keeps s₀ s) : Keeps s₀ s.trainEnd :=
  h.modEng.setF.setFs.frame.ite h

theorem execRetrainStep_ends (h : Keeps s₀ s) {dc : Fin 16} {res : TrainRes} : Ends s₀ (execRetrainStep dc res s) := by
  unfold execRetrainStep
  extract_lets _ s1
  have h1 : Keeps s₀ s1 := by
    unfold s1
    split
    · extract_lets a
      have ha : Keeps s₀ a := h.setFs
      exact ha.incF.ite ha
    · exact h.dcFail.ite h
  exact h1.frame.requestAt.trainEnd.ok.ite h.ok

theorem execMirrorRewriteDone_ends (h : Keeps s₀ s) : Ends s₀ (execMirrorRewriteDone s) :=
  h.frame.drawn.requestAt.setF.ok

end Sys2Proof.Machine
end

section
/-! SUPPORT. Every operation keeps the canonical form: the timebase, the fabric and the faults. -/

namespace Sys2Proof.Machine

variable {s₀ s t : State}

/-! ### Sys2Proof/Machine/Timebase.lean -/

theorem Keeps.loadCopy (h : Keeps s₀ s) {isl v : Nat} : Keeps s₀ (s.loadCopy isl v) :=
  h.frame

theorem Keeps.runLoads (h : Keeps s₀ s) : Keeps s₀ s.runLoads :=
  h.frame.foldl (·.loadCopy)

theorem Keeps.microsecond (h : Keeps s₀ s) : Keeps s₀ s.microsecond :=
  (h.foldl (fun ha => ha.incF.ite ha)).foldl (fun ha => ha.incF.ite ha)

theorem Keeps.runIncs (h : Keeps s₀ s) : Keeps s₀ s.runIncs := by
  unfold State.runIncs
  extract_lets
  split
  · exact h
  · exact h.frame.setF.setF

theorem execBeaconSend_ends (h : Keeps s₀ s) : Ends s₀ (execBeaconSend s) :=
  h.drawn.frame.ok

theorem Keeps.timeSlip (h : Keeps s₀ s) {isl : Nat} : Keeps s₀ (s.timeSlip isl) :=
  h.setF.setF.satF.raisePf.foldl (·.siteFault)

theorem Keeps.loadAt (h : Keeps s₀ s) {isl t v : Nat} : Keeps s₀ (s.loadAt isl t v) :=
  h.frame.ite h.loadCopy

theorem execBeaconArrive_ends (h : Keeps s₀ s) {isl : Nat} : Ends s₀ (execBeaconArrive isl s) := by
  unfold execBeaconArrive
  split
  · exact h.ok
  · extract_lets _ s1
    have h1 : Keeps s₀ s1 := h.frame
    exact h1.loadAt.ok.ite (h1.ok.ite h1.loadAt.timeSlip.ok)

theorem execIncApply_ends (h : Keeps s₀ s) : Ends s₀ (execIncApply s) :=
  h.runIncs.ok

theorem execTbsSnap_ends (h : Keeps s₀ s) {fn : Fn} : Ends s₀ (execTbsSnap fn s) :=
  h.setFs.ok.ite h.ok

theorem Keeps.stepTime (h : Keeps s₀ s) {v : Nat} : Keeps s₀ (s.stepTime v) := by
  unfold State.stepTime
  extract_lets s0
  have h0 : Keeps s₀ s0 := h.setNow.setF
  exact (h0.setF.ite h0).frame

theorem execTbsSet_ends (h : Keeps s₀ s) {fn : Fn} : Ends s₀ (execTbsSet fn s) :=
  h.stepTime.ok.ite h.ok

theorem execTimeExchangeStart_ends (h : Keeps s₀ s) : Ends s₀ (execTimeExchangeStart s) := by
  unfold execTimeExchangeStart
  split
  · refine h.ok.ite ?_
    extract_lets _ s1
    have h1 : Keeps s₀ s1 := h.frame
    exact (h1.send.ite h1).ok
  · exact h.ok

theorem execTimeRequestReceive_ends (h : Keeps s₀ s) {port : Fin 12} {child t1 : Nat} :
    Ends s₀ (execTimeRequestReceive port child t1 s) :=
  h.drawn.send.send.ok.ite h.ok

theorem Keeps.enterAcq (h : Keeps s₀ s) : Keeps s₀ s.enterAcq :=
  h.setF.frame

theorem Keeps.parentLost (h : Keeps s₀ s) : Keeps s₀ s.parentLost := by
  unfold State.parentLost
  extract_lets _ _ _ s2
  have h2 : Keeps s₀ s2 := h.setF.setF.raisePf.frame
  exact h2.frame.setF.ite h2

theorem Keeps.offsetExcess (h : Keeps s₀ s) : Keeps s₀ s.offsetExcess :=
  h.setF.enterAcq.raisePf.foldl (·.siteFault)

theorem execExchangeComplete_ends (h : Keeps s₀ s) {port : Fin 12} {t2 t3 t4 : Nat} :
    Ends s₀ (execExchangeComplete port t2 t3 t4 s) := by
  unfold execExchangeComplete
  split
  · refine .ite ?_ h.ok
    extract_lets _ _ _ _ _ _ s2 _ _ s4 _ _ _ _ _ _ _ _ s5 _ _ s6
    have h2 : Keeps s₀ s2 := h.setF.setF.incF.frame
    have h4 : Keeps s₀ s4 := (h2.enterAcq.ite h2).setF.setF
    have h5 : Keeps s₀ s5 := h4.frame
    have h6 : Keeps s₀ s6 := h5.frame
    exact h4.frame.stepTime.ok.ite ((h5.offsetExcess.ok.ite h5.ok).ite (((h6.setF.ite h6).ok).ite h5.frame.ok))
  · exact h.ok

theorem execExchangeLost_ends (h : Keeps s₀ s) : Ends s₀ (execExchangeLost s) := by
  unfold execExchangeLost
  split
  · refine h.frame.ok.ite ?_
    extract_lets _ _ s2
    have h2 : Keeps s₀ s2 := h.incF.frame
    exact (h2.parentLost.ite h2).ok
  · exact h.ok

/-! ### Sys2Proof/Machine/Clock.lean -/

theorem Keeps.pllFault (h : Keeps s₀ s) {p : Pll} {on : Bool} : Keeps s₀ (s.pllFault p on) := by
  unfold State.pllFault
  split
  · exact h.clockShow
  · exact h.sourceOn.ite h.sourceOff
  · exact h.sourceOn.ite h.sourceOff

theorem Keeps.pllLose (h : Keeps s₀ s) {p : Pll} : Keeps s₀ (s.pllLose p) :=
  h.ite h.setFs.satF.pllFault

theorem Keeps.pllLock (h : Keeps s₀ s) {p : Pll} : Keeps s₀ (s.pllLock p) := by
  unfold State.pllLock
  extract_lets _ _ s1
  have h1 : Keeps s₀ s1 := h.setFs.pllFault
  exact (h1.enterAcq.ite h1).ite h

theorem execRefLoss_ends (h : Keeps s₀ s) : Ends s₀ (execRefLoss s) :=
  ((h.setFs.satF.foldl (·.pllLose)).ok).ite h.ok

theorem execRefPresent_ends (h : Keeps s₀ s) : Ends s₀ (execRefPresent s) :=
  h.setF.ok

theorem execPllLossOfLock_ends (h : Keeps s₀ s) {pll : Pll} : Ends s₀ (execPllLossOfLock pll s) :=
  h.pllLose.ok

theorem execPllRelock_ends (h : Keeps s₀ s) {pll : Pll} : Ends s₀ (execPllRelock pll s) :=
  h.pllLock.ok

theorem execUpdnow_ends (h : Keeps s₀ s) {fn : Fn} {lp : Fin 4} : Ends s₀ (execUpdnow fn lp s) := by
  unfold execUpdnow
  extract_lets
  split
  · exact h.setF.ok
  · exact h.hostOrder (fun h' => (h'.setF.ok.ite ((((((h'.foldl (·.octClockOld)).lpLoad).foldl
      (·.octClockNew)).clockShow).ok).ite h'.setF.ok)).ite h'.ok)

/-! ### Sys2Proof/Machine/Clove.lean -/

theorem Keeps.clvRej (h : Keeps s₀ s) {o : Nat} : Keeps s₀ (s.clvRej o) :=
  h.setF

theorem Keeps.sliceClove (h : Keeps s₀ s) {o p : Nat} : Keeps s₀ (s.sliceClove o p) :=
  h.clvAsk.ite (h.clvRej.clvAsk.ite (h.retireChan.clvAsk.ite (h.clvAbort.modOct.ite (h.setF.modOct.ite (
    h.modOct.ite h.retireChan)))))

theorem Keeps.sliceFails (h : Keeps s₀ s) {o p : Nat} : Keeps s₀ (s.sliceFails o p) := by
  unfold State.sliceFails
  extract_lets _ s1
  have h1 : Keeps s₀ s1 := h.modOct
  exact h1.ite h1.markSuspect.sliceClove

theorem Keeps.cloveFails (h : Keeps s₀ s) {o : Nat} : Keeps s₀ (s.cloveFails o) := by
  unfold State.cloveFails
  extract_lets _ _ _ s1 s2
  have h1 : Keeps s₀ s1 := h.modOct.setF
  have h2 : Keeps s₀ s2 := by
    unfold s2
    split
    · exact h1.modOct.setF
    · exact h1.modOct
  refine h.ite ?_
  refine h1.ite ?_
  refine h1.setF.setF.markSuspect.retireChan.ite ?_
  split
  · exact h2.markSuspect.ite h2.clvFree
  · exact h2.clvFree

theorem execSliceFail_ends (h : Keeps s₀ s) {oct : Fin 8} {slice : Fin 9} : Ends s₀ (execSliceFail oct slice s) :=
  (h.cloveFails.ite h.sliceFails).ok

theorem execFrontEndFail_ends (h : Keeps s₀ s) {ch : Fin 64} : Ends s₀ (execFrontEndFail ch s) :=
  h.modChan.retireChan.ok

theorem Keeps.clvReq (h : Keeps s₀ s) {fn : Fn} {o p val : Nat} {act : State → State}
    (hact : ∀ {a}, Keeps s₀ a → Keeps s₀ (act a)) : Ends s₀ (s.clvReq fn o p val act) :=
  h.hostOrder fun ha => ((hact (ha.setF.ite ha)).ite (ha.setF.ite ha)).ok

theorem Keeps.clvClaim (h : Keeps s₀ s) {o p kind : Nat} : Keeps s₀ (s.clvClaim o p kind) :=
  h.clvAsk.ite h.clvRej

theorem execClvTake_ends (h : Keeps s₀ s) {fn : Fn} {oct pos : Fin 8} : Ends s₀ (execClvTake fn oct pos s) :=
  h.clvReq (fun h' => h'.ite h'.clvClaim)

theorem execClvRetrim_ends (h : Keeps s₀ s) {fn : Fn} {oct pos : Fin 8} : Ends s₀ (execClvRetrim fn oct pos s) := by
  unfold execClvRetrim
  extract_lets
  refine h.clvReq fun ha => ?_
  extract_lets _ s1 s0
  have h1 : Keeps s₀ s1 := ha.modOct
  have h0 : Keeps s₀ s0 := h1.clvRej.modOct.ite h1
  exact (h0.ite (h0.clvRej.ite (h0.modOct.ite h0.setF.modOct))).ite h0.clvClaim

theorem Keeps.askReturn (h : Keeps s₀ s) {o : Nat} : Keeps s₀ (s.askReturn o) := by
  unfold State.askReturn
  exact h.modOct

theorem execClvReturn_ends (h : Keeps s₀ s) {fn : Fn} {oct pos : Fin 8} : Ends s₀ (execClvReturn fn oct pos s) := by
  unfold execClvReturn
  exact h.clvReq (fun h' => (h'.ite h'.askReturn).ite (h'.ite h'.clvRej))

theorem execClvSave_ends (h : Keeps s₀ s) {fn : Fn} {oct pos : Fin 8} : Ends s₀ (execClvSave fn oct pos s) := by
  unfold execClvSave
  exact h.clvReq (fun h' => h'.ite (h'.clvRej.ite h'.modOct))

theorem Keeps.showFigures (h : Keeps s₀ s) {o p : Nat} {g : Figures} : Keeps s₀ (s.showFigures o p g) :=
  h.setFs

theorem execRetrimDone_ends (h : Keeps s₀ s) {oct : Fin 8} {pass : Density} : Ends s₀ (execRetrimDone oct pass s) :=
  h.showFigures.setF.satF.modOct.askReturn.ok.ite h.ok

theorem Keeps.setsCut (h : Keeps s₀ s) {toB : Bool} {grp : Nat} : Keeps s₀ (s.setsCut toB grp) :=
  h.foldl (·.modOct)

theorem execSaveDone_ends (h : Keeps s₀ s) {oct : Fin 8} {okd : Bool} : Ends s₀ (execSaveDone oct okd s) := by
  unfold execSaveDone
  extract_lets _ _ s1
  have h1 : Keeps s₀ s1 := h.modOct
  split
  · exact h.ok
  · exact h1.nvmRecord.modOct.setFs.setF.ok.ite h1.nvmCut.setsCut.setF.faultLog.ok

/-! ### Sys2Proof/Machine/FabTab.lean -/

theorem Keeps.findParent (h : Keeps s₀ s) : Keeps s₀ s.findParent := by
  unfold State.findParent
  refine h.ite ?_
  split
  · exact h.ite h.frame
  · exact h

theorem Keeps.retryWaiting (h : Keeps s₀ s) : Keeps s₀ s.retryWaiting :=
  h.frame.foldl (·.route)

theorem Keeps.timeAsleep (h : Keeps s₀ s) : Keeps s₀ s.timeAsleep := by
  unfold State.timeAsleep
  split
  · exact h.frame.ite h
  · exact h

theorem Keeps.enterSleep (h : Keeps s₀ s) : Keeps s₀ s.enterSleep := by
  unfold State.enterSleep
  extract_lets _ _ _ _ s2
  have h2 : Keeps s₀ s2 := (h.timeAsleep.foldl (fun ha => ha.setF.ite ha)).setF.frame
  exact h2.wakeTones.ite h2

theorem Keeps.scheduleSleep (h : Keeps s₀ s) {t : Nat} : Keeps s₀ (s.scheduleSleep t) := by
  unfold State.scheduleSleep
  extract_lets s1 _ _ s2
  have h1 : Keeps s₀ s1 := h.setF
  have h2 : Keeps s₀ s2 := h1.setF.frame
  refine h1.enterSleep.ite ?_
  split
  · exact h2.cancelSleep.ite h2
  · exact h2

theorem Keeps.tallyVotes (h : Keeps s₀ s) : Keeps s₀ s.tallyVotes :=
  ((h.frame.foldl (·.send)).scheduleSleep).ite h

theorem Keeps.topology (h : Keeps s₀ s) : Keeps s₀ s.topology := by
  unfold State.topology
  extract_lets _ _ _ _ _ _ _ _ _ s1 _ s2 _ a
  have h1 : Keeps s₀ s1 := h.frame
  have h2 : Keeps s₀ s2 := h1.ite h1.addF.raisePf
  have ha : Keeps s₀ a := h2.frame
  exact ((h2.ite (ha.setF.ite ha)).setF.findParent.foldl (fun ha => ha.siteFault.ite ha)).retryWaiting.tallyVotes

theorem Keeps.putLink (h : Keeps s₀ s) {l : LinkState} : Keeps s₀ (s.putLink l) :=
  h.frame

theorem Keeps.flood (h : Keeps s₀ s) {l : LinkState} : Keeps s₀ (s.flood l) :=
  h.foldl (·.cellMade.portCell)

theorem Keeps.linkDown (h : Keeps s₀ s) {k : Nat} : Keeps s₀ (s.linkDown k) := by
  unfold State.linkDown
  extract_lets _ _ s1
  have h1 : Keeps s₀ s1 := h.modPort
  exact (h1.putLink.flood.ite h1).setF.topology.foldl (·.route)

theorem Keeps.drainHeld (h : Keeps s₀ s) {k : Nat} : Keeps s₀ (s.drainHeld k) :=
  (h.modPort.foldl (·.portCell)).ite h

theorem Keeps.startTraining (h : Keeps s₀ s) {k : Nat} : Keeps s₀ (s.startTraining k) := by
  unfold State.startTraining
  extract_lets _ s1 s2
  have h1 : Keeps s₀ s1 := h.setF
  have h2 : Keeps s₀ s2 := h1.linkDown.ite h1
  exact (h2.ite h2.incF).modPort

theorem Keeps.resend (h : Keeps s₀ s) {k : Nat} : Keeps s₀ (s.resend k) := by
  unfold State.resend
  extract_lets
  split
  · exact h
  · exact h.startTraining.ite (h.modPort.foldl (·.sendCell))

/-! ### Sys2Proof/Machine/Saffron.lean -/

theorem Keeps.ctlRej (h : Keeps s₀ s) {x : Nat} : Keeps s₀ (s.ctlRej x) :=
  h.setF

theorem Keeps.safRule (h : Keeps s₀ s) {x txid : Nat} {commit fabric : Bool} : Keeps s₀ (s.safRule x txid commit fabric) := by
  unfold State.safRule
  split
  · exact h.safResolve.modSaf
  · exact (h.safBack.modSaf.safDoubt.safResolve.ctlRej.ite h.ctlRej).ite h
  · exact h

theorem Keeps.safOpenNew (h : Keeps s₀ s) {x : Nat} : Keeps s₀ (s.safOpenNew x) :=
  h.modSaf.setF.sendMembers.safShow

theorem execSafOpen_ends (h : Keeps s₀ s) {fn : Fn} {site : Fin 16} : Ends s₀ (execSafOpen fn site s) :=
  h.hostOrder (fun h' => h'.ok.ite (h'.ctlRej.ok.ite (h'.modSaf.ctlRej.ok.ite h'.safOpenNew.ok)))

theorem execSafStage_ends (h : Keeps s₀ s) {fn : Fn} {site : Fin 16} {data : Nat} : Ends s₀ (execSafStage fn site data s) := by
  unfold execSafStage
  refine h.hostOrder fun ha => ?_
  extract_lets _ _ s1
  have h1 : Keeps s₀ s1 := ha.setF
  refine ha.ok.ite ?_
  split
  · exact h1.modSaf.safShow.ok.ite h1.setF.ok
  · exact h1.setF.ok

theorem Keeps.openAfter (h : Keeps s₀ s) {x : Nat} : Keeps s₀ (s.openAfter x) := by
  unfold State.openAfter
  split
  · exact h.modSaf.setF.safOpenNew.ite h
  · exact h

theorem execSafPrepare_ends (h : Keeps s₀ s) {fn : Fn} {site : Fin 16} : Ends s₀ (execSafPrepare fn site s) := by
  unfold execSafPrepare
  refine h.hostOrder fun ha => ?_
  extract_lets _ _ s1 s2
  have h1 : Keeps s₀ s1 := ha.modSaf
  have h2 : Keeps s₀ s2 := by
    unfold s2
    split
    · exact h1.modSaf.safEnd
    · exact h1
  refine ha.ok.ite ?_
  split
  · exact h1.safBegin.safShow.openAfter.ok.ite h2.modSaf.safShow.openAfter.ok
  · exact ha.ctlRej.ok

theorem execSafAbort_ends (h : Keeps s₀ s) {fn : Fn} {site : Fin 16} : Ends s₀ (execSafAbort fn site s) := by
  unfold execSafAbort
  refine h.hostOrder fun ha => ?_
  extract_lets _ s1 s2 s3
  have h1 : Keeps s₀ s1 := by
    unfold s1
    split
    · exact ha.modSaf.safEnd
    · exact ha
  have h2 : Keeps s₀ s2 := by
    unfold s2
    split
    · exact h1.modSaf.safEnd
    · exact h1
  have h3 : Keeps s₀ s3 := by
    unfold s3
    split
    · exact h2.safAbortRun.ite (h2.safRecall.ite h2)
    · exact h2
  exact ha.ok.ite (ha.ctlRej.ok.ite h3.safShow.ok)

theorem execSafResolveCommit_ends (h : Keeps s₀ s) {fn : Fn} {site : Fin 16} {txid : Nat} :
    Ends s₀ (execSafResolveCommit fn site txid s) :=
  h.hostOrder (fun h' => h'.setF.safRule.ok.ite h'.ok)

theorem execSafResolveAbort_ends (h : Keeps s₀ s) {fn : Fn} {site : Fin 16} {txid : Nat} :
    Ends s₀ (execSafResolveAbort fn site txid s) :=
  h.hostOrder (fun h' => h'.setF.safRule.ok.ite h'.ok)

theorem Keeps.safMsg (h : Keeps s₀ s) {x epoch frm txid : Nat} {prep : Bool} {act : State → State}
    (hact : ∀ {a}, Keeps s₀ a → Keeps s₀ (act a)) : Ends s₀ (s.safMsg x epoch frm txid prep act) :=
  h.ok.ite ((h.order (fun ha => (hact ha).ok) (·.sendSite.ok)).ite h.sendSite.ok)

theorem execOpenReceive_ends (h : Keeps s₀ s) {site : Fin 16} {epoch txid : Nat} :
    Ends s₀ (execOpenReceive site epoch txid s) := by
  unfold execOpenReceive
  extract_lets
  refine h.safMsg fun ha => ?_
  refine ha.ite ?_
  extract_lets s1 s2
  have h1 : Keeps s₀ s1 := by
    unfold s1
    split
    · exact ha.safDrop
    · exact ha
  have h2 : Keeps s₀ s2 := by
    unfold s2
    split
    · exact h1.modSaf
    · exact ha
  exact h2.modSaf.setF.safShow

theorem execPrepareReceive_ends (h : Keeps s₀ s) {site : Fin 16} {epoch txid beat : Nat} :
    Ends s₀ (execPrepareReceive site epoch txid beat s) := by
  unfold execPrepareReceive
  refine h.safMsg fun ha => ha.ite ?_
  split
  · exact ha.sendSite
  extract_lets _ go
  have hgo {a : State} (ha : Keeps s₀ a) : Keeps s₀ (go a) := ha.modSaf.sendSite.safShow
  split
  · exact hgo ha
  · exact (hgo ha.modSaf).ite (hgo ha.safDrop)

theorem execVoteReceive_ends (h : Keeps s₀ s) {site : Fin 16} {epoch txid chip reason : Nat} :
    Ends s₀ (execVoteReceive site epoch txid chip reason s) := by
  unfold execVoteReceive
  extract_lets
  refine h.safMsg fun ha => ?_
  split
  · exact ha.safVote.safNext.safShow.ite ha
  · exact ha.safRevive.safShow.ite ha

theorem execDecisionDeadline_ends (h : Keeps s₀ s) {site : Fin 16} : Ends s₀ (execDecisionDeadline site s) := by
  unfold execDecisionDeadline
  extract_lets
  split
  · exact h.ok.ite (h.safLapse.safShow.ok.ite h.safDefer.safShow.ok)
  · exact h.ok

theorem execDeferReceive_ends (h : Keeps s₀ s) {site : Fin 16} {epoch txid beat : Nat} :
    Ends s₀ (execDeferReceive site epoch txid beat s) := by
  unfold execDeferReceive
  extract_lets
  refine h.safMsg fun ha => ?_
  split
  · exact ha.modSaf.safShow.ite ha
  · exact ha

theorem execCommitReceive_ends (h : Keeps s₀ s) {site : Fin 16} {epoch txid beat : Nat} :
    Ends s₀ (execCommitReceive site epoch txid beat s) := by
  unfold execCommitReceive
  extract_lets
  refine h.safMsg fun ha => ?_
  refine ha.ite ?_
  split
  · exact ha.modSaf.safShow.ite ha
  · exact ha.safRule

theorem execAbortReceive_ends (h : Keeps s₀ s) {site : Fin 16} {epoch txid outcome : Nat} :
    Ends s₀ (execAbortReceive site epoch txid outcome s) := by
  unfold execAbortReceive
  extract_lets
  refine h.safMsg fun ha => ?_
  refine ha.ite ?_
  refine ha.safRule.ite ?_
  split
  · exact ha.ite ha.safDrop.safShow
  · exact ha

theorem execParticipantDeadline_ends (h : Keeps s₀ s) {site : Fin 16} : Ends s₀ (execParticipantDeadline site s) := by
  unfold execParticipantDeadline
  extract_lets
  refine h.ok.ite ?_
  split
  · exact h.modSaf.safDoubt.raiseVf.safShow.ok.ite h.safDrop.safShow.ok
  · split
    · exact h.safDrop.safShow.ok
    · exact h.safDrop.safShow.ok
    · exact h.ok

theorem execQuerySend_ends (h : Keeps s₀ s) {site : Fin 16} : Ends s₀ (execQuerySend site s) :=
  ((h.foldl (·.sendSite)).ok).ite h.ok

theorem execQueryReceive_ends (h : Keeps s₀ s) {site : Fin 16} {epoch txid chip : Nat} :
    Ends s₀ (execQueryReceive site epoch txid chip s) := by
  unfold execQueryReceive
  extract_lets
  refine h.safMsg fun ha => ?_
  refine .ite ?_ ha
  split <;> exact ha.sendSite

theorem execOutcomeReceive_ends (h : Keeps s₀ s) {site : Fin 16} {epoch txid : Nat} {verdict : Verdict} {beat : Nat} :
    Ends s₀ (execOutcomeReceive site epoch txid verdict beat s) := by
  unfold execOutcomeReceive
  extract_lets
  refine h.safMsg fun ha => ?_
  split
  · exact ha.safRule
  · exact ha.safRule
  · exact ha

theorem execNackStaleReceive_ends (h : Keeps s₀ s) {site : Fin 16} {chip txid : Nat} {ofPrepare : Bool} :
    Ends s₀ (execNackStaleReceive site chip txid ofPrepare s) := by
  unfold execNackStaleReceive
  extract_lets _ s1
  have h1 : Keeps s₀ s1 := h.incF
  split
  · exact h1.safVote.safNext.safShow.ok.ite h1.ok
  · exact h1.ok

/-! ### Sys2Proof/Machine/Fabric.lean -/

theorem Keeps.forwardCopies (h : Keeps s₀ s) {port : Nat} {c : Copies} : Keeps s₀ (s.forwardCopies port c) := by
  unfold State.forwardCopies
  extract_lets _ s1
  have h1 : Keeps s₀ s1 := h.foldl (·.flashForward)
  exact h1.wakeRequest.ite h1

theorem Keeps.flashArrive (h : Keeps s₀ s) {port : Nat} {c : Copies} {ftype : Nat → Bool} {act : State → Nat → State}
    (hact : ∀ {a w}, Keeps s₀ a → Keeps s₀ (act a w)) : Keeps s₀ (s.flashArrive port c ftype act) := by
  unfold State.flashArrive
  extract_lets
  refine h.ite ?_
  split
  · exact h.forwardCopies.incF
  · exact (hact h.forwardCopies).ite h.forwardCopies

theorem Keeps.flashSite (h : Keeps s₀ s) {w : Nat} {act : State → Nat → State}
    (hact : ∀ {a x}, Keeps s₀ a → Keeps s₀ (act a x)) : Keeps s₀ (s.flashSite w act) := by
  unfold State.flashSite
  split
  · exact (hact h).ite h.incF
  · exact h

theorem execFlashCode_ends (h : Keeps s₀ s) {port : Fin 12} {copies : Copies} : Ends s₀ (execFlashCode port copies s) :=
  (h.flashArrive (fun ha => ha.flashSite (·.flashShow))).ok

theorem execFlashMatch_ends (h : Keeps s₀ s) {port : Fin 12} {copies : Copies} {src : Nat} :
    Ends s₀ (execFlashMatch port copies src s) :=
  (h.flashArrive (fun ha => ha.flashSite (·.modSite))).ok

theorem execFlashAbort_ends (h : Keeps s₀ s) {port : Fin 12} {copies : Copies} : Ends s₀ (execFlashAbort port copies s) :=
  (h.flashArrive (fun ha => ha.flashSite (fun hb => hb.foldl (fun hc => hc.setF.ite hc)))).ok

theorem execFlashFault_ends (h : Keeps s₀ s) {port : Fin 12} {copies : Copies} : Ends s₀ (execFlashFault port copies s) :=
  (h.flashArrive (fun ha => ha.flashSite (·.sourceOn))).ok

theorem Keeps.cancelReceived (h : Keeps s₀ s) : Keeps s₀ s.cancelReceived := by
  unfold State.cancelReceived
  extract_lets _ drop
  have hdrop : Keeps s₀ drop := h.giveUpSleep
  refine hdrop.ite ?_
  refine .ite ?_ (h.wakeTones.ite h)
  split
  · exact hdrop.ite h.holdWake
  · exact hdrop

theorem execFlashSys_ends (h : Keeps s₀ s) {port : Fin 12} {copies : Copies} : Ends s₀ (execFlashSys port copies s) :=
  (h.flashArrive (fun ha => ha.cancelReceived.ite ha.setF.raisePf)).ok

theorem execFlashReservedFtype_ends (h : Keeps s₀ s) {port : Fin 12} {copies : Copies} :
    Ends s₀ (execFlashReservedFtype port copies s) :=
  (h.flashArrive (fun ha => ha)).ok

theorem execSysFlashSend_ends (h : Keeps s₀ s) {fn : Fn} {code : Nat} : Ends s₀ (execSysFlashSend fn code s) := by
  unfold execSysFlashSend
  refine .ite ?_ h.ok
  extract_lets _ s1 s2
  have h1 : Keeps s₀ s1 := h.setF
  have h2 : Keeps s₀ s2 := h1.flashSystem
  exact h1.ok.ite ((h2.wakeRequest.ite h2).ok)

theorem Keeps.inOrder (h : Keeps s₀ s) {w : List Nat} : Keeps s₀ (s.inOrder w) :=
  h.ite h.log

theorem Keeps.releaseEarly (h : Keeps s₀ s) {key f n : Nat} : Keeps s₀ (s.releaseEarly key f n) := by
  induction f generalizing s n with
  | zero => exact h.frame
  | succ f ih =>
    unfold State.releaseEarly
    split
    · exact ih (h.frame).inOrder
    · exact h.frame

theorem Keeps.deliver (h : Keeps s₀ s) {w : List Nat} : Keeps s₀ (s.deliver w) := by
  -- Unfolding under the arguments keeps the kernel from evaluating how far ahead the cell is.
  conv => arg 2; fun; fun; delta State.deliver
  split
  · exact h.inOrder.releaseEarly
  · exact h.frame
  · exact h

theorem Keeps.cellAccepted (h : Keeps s₀ s) {w : List Nat} : Keeps s₀ (s.cellAccepted w) := by
  unfold State.cellAccepted
  extract_lets
  refine (h.incF.ite h.route).ite ?_
  refine h.log.ite ?_
  refine .ite ?_ (h.deliver.ite h)
  split
  · exact h.deliver.ite (h.deliver.sendSite.ite h)
  · exact h.deliver

theorem execCellReceive_ends (h : Keeps s₀ s) {port : Fin 12} {words : List Nat} : Ends s₀ (execCellReceive port words s) :=
  h.ok.ite (h.modPort.sendLink.cellAccepted.ok.ite (h.ok.ite h.modPort.sendLink.ok))

theorem execLinkAck_ends (h : Keeps s₀ s) {port : Fin 12} {lseq : Nat} : Ends s₀ (execLinkAck port lseq s) := by
  unfold execLinkAck
  extract_lets
  split
  · exact h.modPort.addF.drainHeld.ok
  · exact h.ok

theorem execLinkNack_ends (h : Keeps s₀ s) {port : Fin 12} : Ends s₀ (execLinkNack port s) :=
  (h.resend.ite h).ok

theorem execRetryTimeout_ends (h : Keeps s₀ s) {port : Fin 12} : Ends s₀ (execRetryTimeout port s) :=
  (h.resend.ite h).ok

theorem execCreditReturn_ends (h : Keeps s₀ s) {site : Fin 16} {chip : Sender} : Ends s₀ (execCreditReturn site chip s) :=
  h.ok.ite (h.sendSite.ok.ite h.modSite.ok)

theorem execPortTrainStart_ends (h : Keeps s₀ s) {port : Fin 12} : Ends s₀ (execPortTrainStart port s) :=
  (h.startTraining.ite h).ok

theorem execRetrain_ends (h : Keeps s₀ s) {fn : Fn} {port : Fin 12} : Ends s₀ (execRetrain fn port s) :=
  (h.startTraining.ite h).ok

theorem Keeps.sendHello (h : Keeps s₀ s) {k : Nat} : Keeps s₀ (s.sendHello k) :=
  h.cellMade.cellOn.ite h.drawn.drawn.drawn.cellOn

theorem Keeps.dupPort (h : Keeps s₀ s) {k : Nat} : Keeps s₀ (s.dupPort k) :=
  h.setFs.linkDown

theorem Keeps.retirePort (h : Keeps s₀ s) {k : Nat} : Keeps s₀ (s.retirePort k) := by
  unfold State.retirePort
  extract_lets s1
  have h1 : Keeps s₀ s1 := h.setF.raisePf.faultLog
  exact (h1.parentLost.ite h1).topology

theorem execPortTrainDone_ends (h : Keeps s₀ s) {port : Fin 12} {ok : Bool} {flight : Nat} :
    Ends s₀ (execPortTrainDone port ok flight s) := by
  unfold execPortTrainDone
  extract_lets _ _ _ s1
  have h1 : Keeps s₀ s1 := h.modPort
  exact h.ok.ite (h.setFs.modPort.sendHello.ok.ite ((h1.retirePort.ite h1.startTraining).ok))

theorem execHelloReceive_ends (h : Keeps s₀ s) {port : Fin 12} {chip digest : Nat} {troot : Bool} :
    Ends s₀ (execHelloReceive port chip digest troot s) := by
  unfold execHelloReceive
  extract_lets _ s1
  have h1 : Keeps s₀ s1 := h.setFs.modPort
  exact h.ok.ite (((h.dupPort.foldl (·.dupPort)).ok).ite (h1.frame.ite h1).putLink.flood.topology.drainHeld.ok)

theorem execLinkStateReceive_ends (h : Keeps s₀ s) {link : LinkState} : Ends s₀ (execLinkStateReceive link s) :=
  h.ok.ite ((h.frame.ite h).putLink.flood.topology.ok)

theorem execPortDown_ends (h : Keeps s₀ s) {port : Fin 12} : Ends s₀ (execPortDown port s) := by
  unfold execPortDown
  extract_lets _ s1
  have h1 : Keeps s₀ s1 := h.setF.linkDown
  exact ((h1.log.ite h1).ite h).ok

theorem execCodeViolation_ends (h : Keeps s₀ s) {p : PortLine} : Ends s₀ (execCodeViolation p s) :=
  (h.incF.modPort.ite h).ok

theorem Keeps.countVote (h : Keeps s₀ s) {chip : Nat} : Keeps s₀ (s.countVote chip) :=
  h.frame.tallyVotes

theorem Keeps.castVote (h : Keeps s₀ s) : Keeps s₀ s.castVote := by
  unfold State.castVote
  extract_lets s1
  have h1 : Keeps s₀ s1 := h.setF
  exact h1.countVote.ite h1.send

theorem execSleepVote_ends (h : Keeps s₀ s) {fn : Fn} : Ends s₀ (execSleepVote fn s) :=
  (h.setF.ok.ite (h.castVote.ok.ite h.ok)).ite h.ok

theorem execSleepVoteReceive_ends (h : Keeps s₀ s) {chip : Nat} : Ends s₀ (execSleepVoteReceive chip s) :=
  (h.countVote.ite h).ok

theorem execSleepAtReceive_ends (h : Keeps s₀ s) {tm : Nat} : Ends s₀ (execSleepAtReceive tm s) :=
  h.ok.ite h.scheduleSleep.ok

theorem execSleepCancelInstant_ends (h : Keeps s₀ s) : Ends s₀ (execSleepCancelInstant s) := by
  unfold execSleepCancelInstant
  split
  · exact (h.cancelSleep.ite h).ok
  · exact h.ok

theorem execSleepEnter_ends (h : Keeps s₀ s) : Ends s₀ (execSleepEnter s) :=
  (h.enterSleep.ite h).ok

theorem execFabWake_ends (h : Keeps s₀ s) {fn : Fn} : Ends s₀ (execFabWake fn s) :=
  (h.wakeRequest.ite h).ok

theorem execWakeToneDetect_ends (h : Keeps s₀ s) {port : Fin 12} : Ends s₀ (execWakeToneDetect port s) :=
  (h.setF.wakeTones.ite h).ok

theorem execDeepStateExitDone_ends (h : Keeps s₀ s) {port : Fin 12} : Ends s₀ (execDeepStateExitDone port s) := by
  unfold execDeepStateExitDone
  extract_lets _ s1
  have h1 : Keeps s₀ s1 := h.setF.drainHeld
  exact (h1.enterAcq.ite h1).awakeCheck.ok.ite h.ok

/-! ### Sys2Proof/Machine/Fault.lean -/

theorem Keeps.selfFail (h : Keeps s₀ s) : Keeps s₀ s.selfFail :=
  h.sourceOn.frame

theorem execFaultSourceActive_ends (h : Keeps s₀ s) {src : FaultSrc} : Ends s₀ (execFaultSourceActive src s) := by
  unfold execFaultSourceActive
  split
  · exact h.siteFault.ok
  · exact (h.selfFail.ite h.sourceOn).ok

theorem execSelfFault_ends (h : Keeps s₀ s) : Ends s₀ (execSelfFault s) :=
  h.selfFail.ok

theorem execFaultSourceClear_ends (h : Keeps s₀ s) {src : FaultSrc} : Ends s₀ (execFaultSourceClear src s) := by
  unfold execFaultSourceClear
  extract_lets _ _ _ _ s1
  have h1 : Keeps s₀ s1 := h.frame
  exact ((h1.ite h1.sourceOff).ok).ite ((h.sourceOff.ite h).ok)

theorem execWireFault_ends (h : Keeps s₀ s) {src : FaultSrc} : Ends s₀ (execWireFault src s) := by
  unfold execWireFault
  extract_lets _ _ _ s1
  have h1 : Keeps s₀ s1 := h.setFs.satF
  exact h.ok.ite (h1.selfFail.ite h1.sourceOn).frame.ok

theorem Keeps.latch (h : Keeps s₀ s) {k : Nat} : Keeps s₀ (s.latch k) :=
  h.setF.sumacShow.faultLog

theorem execQuietEnd_ends (h : Keeps s₀ s) {k : Fin 17} : Ends s₀ (execQuietEnd k s) :=
  h.setF.sumacShow.ok.ite ((h.frame.setF.sumacShow.ok.ite h.setF.latch.ok).ite (h.latch.ok.ite h.ok))

theorem Keeps.recFail (h : Keeps s₀ s) {q : Nat} : Keeps s₀ (s.recFail q) :=
  h.intentCut.setF.faultLog.latch

theorem execRecoveryWriteDone_ends (h : Keeps s₀ s) {k : Fin 17} {okd : Bool} : Ends s₀ (execRecoveryWriteDone k okd s) := by
  unfold execRecoveryWriteDone
  extract_lets _ _ s1 s1'
  have h1 : Keeps s₀ s1 := h.frame
  have hs1' : Keeps s₀ s1' := h.frame
  exact ((h1.recChange.sumacShow.ite h1.recFail).ok).ite (((hs1'.recChange.ite hs1'.recFail).ok).ite h.ok)

theorem execFltClear_ends (h : Keeps s₀ s) {fn : Fn} {k : Fin 17} : Ends s₀ (execFltClear fn k s) := by
  unfold execFltClear
  extract_lets _ _ s1
  have h1 : Keeps s₀ s1 := h.frame
  exact (((((h1.setF.ite h1).setF).sumacShow).ite h1).ok).ite h.ok

theorem execFaultRepeat_ends (h : Keeps s₀ s) : Ends s₀ (execFaultRepeat s) :=
  (h.foldl (·.faultWord)).ok

theorem execRemoteExpire_ends (h : Keeps s₀ s) {site : Fin 16} : Ends s₀ (execRemoteExpire site s) :=
  h.sourceOff.ok

theorem Keeps.fltinShow (h : Keeps s₀ s) : Keeps s₀ s.fltinShow :=
  ((h.setF.ite h).sourceOn).ite h.sourceOff

theorem execFltinChange_ends (h : Keeps s₀ s) {p n : Bool} : Ends s₀ (execFltinChange p n s) :=
  h.frame.fltinShow.ok

theorem execIlkOpen_ends (h : Keeps s₀ s) {b : Bool} : Ends s₀ (execIlkOpen b s) :=
  h.ok.ite h.frame.setF.setF.satF.sourceOn.ok

theorem Keeps.discrepOver (h : Keeps s₀ s) : Keeps s₀ s.discrepOver :=
  h.frame.setF.ite h

theorem execIlkClose_ends (h : Keeps s₀ s) {b : Bool} : Ends s₀ (execIlkClose b s) := by
  unfold execIlkClose
  extract_lets _ _ s2 s3
  have h2 : Keeps s₀ s2 := h.frame.setF
  have h3 : Keeps s₀ s3 := h2.discrepOver
  exact ((h3.ite h3.sourceOff).ok).ite (h2.discrepOver.ok.ite h2.ok)

theorem execDiscrepancyLatch_ends (h : Keeps s₀ s) : Ends s₀ (execDiscrepancyLatch s) :=
  h.frame.setF.satF.sourceOn.ok.ite h.ok

end Sys2Proof.Machine
end

section
/-! SUPPORT. Every operation keeps the canonical form: boot, host and monitor. -/

namespace Sys2Proof.Machine

variable {s₀ s t : State}

/-! ### Sys2Proof/Machine/Train.lean -/

theorem Keeps.modTrain (h : Keeps s₀ s) {f : TrainRun → TrainRun} : Keeps s₀ (s.modTrain f) :=
  h.frame

theorem Keeps.helper (h : Keeps s₀ s) {w sel : Nat} : Keeps s₀ (s.helper w sel) := by
  unfold State.helper
  split
  · exact h.modTrain
  · exact h.frame
  · exact h.frame
  · exact h.drawn.modEng
  · exact h.drawn.setFs
  · refine h.ite ?_
    extract_lets t
    have ht : Keeps s₀ t := h.setF
    exact ht.nchShow.ite ht
  · exact (h.dcFail.ite h.setF).ite h
  · exact h

theorem Keeps.trainOver (h : Keeps s₀ s) : Keeps s₀ s.trainOver := by
  unfold State.trainOver
  extract_lets _ s1
  have h1 : Keeps s₀ s1 := h.frame.modEng.setF
  exact h1.frame.trainEnd.ite h1

theorem Keeps.trainExc (h : Keeps s₀ s) {r : TrainRun} {cause n : Nat} : Keeps s₀ (s.trainExc r cause n) :=
  h.drawn.takeExc.setF

theorem Keeps.trainIssue (h : Keeps s₀ s) {r : TrainRun} : Keeps s₀ (s.trainIssue r) := by
  unfold State.trainIssue
  refine h.ite ?_
  extract_lets _ s1
  have h1 : Keeps s₀ s1 := h.setF
  split
  · exact h1.trainExc.trainOver
  · exact h1.modTrain

theorem Keeps.trainResolve (h : Keeps s₀ s) {r : TrainRun} : Keeps s₀ (s.trainResolve r) := by
  unfold State.trainResolve
  split
  · exact h
  · refine h.modTrain.ite ?_
    extract_lets _ s2
    have h2 : Keeps s₀ s2 := h.helper.loopStep.stackStep
    exact h2.trainOver.ite h2.modTrain

theorem execWordIssue_ends (h : Keeps s₀ s) {e : Fin 16} {upset : Nat} : Ends s₀ (execWordIssue e upset s) := by
  unfold execWordIssue
  split
  · exact h.trainIssue.ok.ite h.burstIssue
  · exact h.burstIssue

theorem execWordResolve_ends (h : Keeps s₀ s) {e : Fin 16} : Ends s₀ (execWordResolve e s) := by
  unfold execWordResolve
  split
  · exact h.trainResolve.ok.ite h.burstResolve
  · exact h.burstResolve

/-! ### Sys2Proof/Machine/BootOps.lean -/

theorem Keeps.markSec (h : Keeps s₀ s) {c : Sec} : Keeps s₀ (s.markSec c) :=
  h.setF.setF.ite h

theorem Keeps.setPhase (h : Keeps s₀ s) {p : Nat} : Keeps s₀ (s.setPhase p) := by
  unfold State.setPhase
  extract_lets s1
  have h1 : Keeps s₀ s1 := h.setF
  exact h1.ite h1.frame

theorem Keeps.bootFail (h : Keeps s₀ s) {sec why : Nat} : Keeps s₀ (s.bootFail sec why) :=
  h.setPhase.setFs.raisePf.faultLog

theorem Keeps.applyIdent (h : Keeps s₀ s) {c : Sec} : Keeps s₀ (s.applyIdent c) :=
  h.markSec.setFs.frame.setF

theorem Keeps.mapWords (h : Keeps s₀ s) {c : Sec} : Keeps s₀ (s.mapWords c) :=
  h.foldl (·.setF)

theorem Keeps.applyRecord (h : Keeps s₀ s) {x : Nat} : Keeps s₀ (s.applyRecord x) :=
  h.modSite.setQuota.setFs.setF

theorem Keeps.applyMap (h : Keeps s₀ s) {c : Sec} : Keeps s₀ (s.applyMap c) :=
  (h.markSec.mapWords.setFs.foldl (·.applyRecord)).resvCheck

theorem Keeps.applyTrain (h : Keeps s₀ s) {c : Sec} : Keeps s₀ (s.applyTrain c) := by
  unfold State.applyTrain
  extract_lets s1
  have h1 : Keeps s₀ s1 := h.markSec.setFs
  refine ⟨h1.regs, h1.mems, fun w => ?_, h1.units, h1.pending⟩
  have w := h1.stores w
  simp only [State.storesWf, Bool.and_eq_true] at w ⊢
  refine ⟨w.1, Tbl.wf_zipIdx_filterMap 0 ?_⟩
  intro p q e
  simp only [Option.ite_none_left_eq_some, Option.some.injEq] at e
  obtain ⟨hne, rfl⟩ := e
  exact ⟨(Nat.zero_add _).symm, hne⟩

theorem Keeps.applyPair (h : Keeps s₀ s) {addr v : Nat} : Keeps s₀ (s.applyPair addr v) := by
  unfold State.applyPair
  split
  · extract_lets
    refine h.foldl fun ha => ?_
    refine .ite ?_ ha
    extract_lets a1
    have ha1 : Keeps s₀ a1 := ha.setF
    exact ha1.setL.ite ha1
  · exact h

theorem Keeps.applyPairs (h : Keeps s₀ s) {c : Sec} : Keeps s₀ (s.applyPairs c) :=
  h.foldl (·.applyPair)

theorem Keeps.afterInit (h : Keeps s₀ s) : Keeps s₀ s.afterInit := by
  unfold State.afterInit
  extract_lets s1
  have h1 : Keeps s₀ s1 := h.putRegs fun w => by simp_all [State.regsWf]
  exact ((h1.foldl (·.lpLoad)).setFs.foldl (·.chanBack)).clockShow.fltinShow.sumacShow

/-- The image of a store replaces what the table held of it. -/
theorem wf_putImage {m : Tbl Nat} {e : Nat} {ws : List Nat} (h : Tbl.wf (fun _ => haltWord) m = true) :
    Tbl.wf (fun _ => haltWord) (putImage m e ws) = true := by
  have himg : ∀ q ∈ (ws.take 8192).zipIdx.filterMap
      (fun p => if withParity p.1 = haltWord then none else some (e * 8192 + p.2, withParity p.1)), q.1 / 8192 = e := by
    intro q hq
    obtain ⟨p, hp, e⟩ := List.mem_filterMap.1 hq
    have hlt := List.snd_lt_of_mem_zipIdx hp
    have hlen := List.length_take_le 8192 ws
    simp only [Option.ite_none_left_eq_some, Option.some.injEq] at e
    obtain ⟨-, rfl⟩ := e
    omega
  refine Tbl.wf_append (Tbl.wf_append (Tbl.wf_filter _ h) (Tbl.wf_zipIdx_filterMap (e * 8192) ?_) ?_) (Tbl.wf_filter _ h) ?_
  · intro p q e
    simp only [Option.ite_none_left_eq_some, Option.some.injEq] at e
    obtain ⟨hne, rfl⟩ := e
    exact ⟨rfl, hne⟩
  · intro p hp q hq
    have hbelow := of_decide_eq_true (List.mem_filter.1 hp).2
    have hin := himg q hq
    omega
  · intro p hp q hq
    have habove := of_decide_eq_true (List.mem_filter.1 hq).2
    rcases List.mem_append.1 hp with hp | hp
    · have hbelow := of_decide_eq_true (List.mem_filter.1 hp).2
      omega
    · have hin := himg p hp
      omega

theorem Keeps.loadStore (h : Keeps s₀ s) {e : Nat} {c : Sec} {reloaded : Nat} : Keeps s₀ (s.loadStore e c reloaded) := by
  unfold State.loadStore
  exact h.setFs.putStores fun w => by simp_all [State.storesWf, wf_putImage]

theorem Keeps.applyStore (h : Keeps s₀ s) {c : Sec} : Keeps s₀ (s.applyStore c) :=
  h.markSec.foldl (·.loadStore)

theorem Keeps.slotCorrupt (h : Keeps s₀ s) {n : Nat} : Keeps s₀ (s.slotCorrupt n) :=
  h.setF.nvmCut

theorem Keeps.cmdCut (h : Keeps s₀ s) : Keeps s₀ s.cmdCut := by
  unfold State.cmdCut
  split
  · exact h.nvmCut
  · exact h.slotCorrupt
  · exact h

theorem Keeps.changesCut (h : Keeps s₀ s) {l : List (Nat × Bool × Nat)} : Keeps s₀ (s.changesCut l) := by
  induction l generalizing s with
  | nil => exact h
  | cons c l ih =>
    unfold State.changesCut
    split
    · exact ih h.drawn.recChange
    · exact h.drawn
    · exact h.drawn.intentCut
    · exact h.drawn.putIntent.snapCut

theorem Keeps.countCut (h : Keeps s₀ s) : Keeps s₀ s.countCut :=
  h.changesCut

theorem Keeps.bootCounts (h : Keeps s₀ s) : Keeps s₀ s.bootCounts := by
  unfold State.bootCounts
  extract_lets _ a
  have ha : Keeps s₀ a := h.foldl (·.setF.setF)
  split
  · exact ha.recSet.putSnap.ite ha
  · exact ha

theorem Keeps.savesCut (h : Keeps s₀ s) : Keeps s₀ s.savesCut := by
  unfold State.savesCut
  refine h.foldl fun ha => ?_
  split
  · exact ha.nvmCut.setsCut
  · exact ha

theorem Keeps.pinsOff (h : Keeps s₀ s) : Keeps s₀ s.pinsOff := by
  unfold State.pinsOff
  extract_lets s1
  have h1 : Keeps s₀ s1 := h.foldl (·.pinTo)
  exact h1.ite h1.log

/-- The field trim sets of the octets, all that a power reset leaves of them. -/
theorem wf_octsKept {m : Tbl OctSt} (h : Tbl.wf (fun _ => {}) m = true) :
    Tbl.wf (fun _ => {}) (m.filterMap (fun e =>
      if e.2.field = [] ∧ e.2.fieldOld = [] then none
      else some (e.1, ({ field := e.2.field, fieldOld := e.2.fieldOld } : OctSt)))) = true := by
  refine Tbl.wf_filterMap ?_ ?_ h
  all_goals
    intro p q e
    simp only [Option.ite_none_left_eq_some, Option.some.injEq] at e
    obtain ⟨hne, rfl⟩ := e
  · rfl
  · intro e
    exact hne ⟨congrArg OctSt.field e, congrArg OctSt.fieldOld e⟩

theorem Keeps.powerReset (h : Keeps s₀ s) : Keeps s₀ s.powerReset := by
  unfold State.powerReset
  extract_lets t r
  have ht : Keeps s₀ t := h.cmdCut.countCut.savesCut.pinsOff
  refine Keeps.warmShow ⟨fun w => ?_, fun w => ?_, fun _ => rfl, fun w => ?_, ht.pending⟩
  · have w := ht.regs w
    simp_all [State.regsWf, r, State.reset, Tbl.wf_nil, Tbl.wf_filter]
  · have w := ht.mems w
    simp_all [State.memsWf, r, State.reset, Tbl.wf_nil]
  · have w := ht.units w
    simp_all [State.unitsWf, r, State.reset, Tbl.wf_nil, wf_octsKept]

theorem Keeps.showSettings (h : Keeps s₀ s) : Keeps s₀ s.showSettings := by
  unfold State.showSettings
  split <;> exact h.setFs

theorem Keeps.bootPlls (h : Keeps s₀ s) {refOk : Bool} : Keeps s₀ (s.bootPlls refOk) := by
  unfold State.bootPlls
  refine h.setF.foldl fun ha => ?_
  extract_lets _ _ b
  have hb : Keeps s₀ b := ha.setF
  refine ha.setF.ite ?_
  split
  · exact hb.sourceOn
  · exact hb.sourceOn
  · exact hb

theorem Keeps.sliceTrims (h : Keeps s₀ s) {o p : Nat} : Keeps s₀ (s.sliceTrims o p) := by
  unfold State.sliceTrims
  exact h.showFigures.setFs.modOct

theorem Keeps.frontTrims (h : Keeps s₀ s) {c : Nat} : Keeps s₀ (s.frontTrims c) :=
  h.modChan.setFs

theorem Keeps.bootTrims (h : Keeps s₀ s) : Keeps s₀ s.bootTrims :=
  (h.foldl (fun ha => ha.foldl (·.sliceTrims))).foldl (·.frontTrims)

theorem Keeps.bootCause (h : Keeps s₀ s) : Keeps s₀ s.bootCause := by
  unfold State.bootCause
  extract_lets _ _ s1
  have h1 : Keeps s₀ s1 := h.setFs
  exact (h1.faultLog.ite h1).frame

theorem Keeps.portsTrain (h : Keeps s₀ s) : Keeps s₀ s.portsTrain :=
  h.foldl (·.startTraining)

theorem Keeps.bootSections (h : Keeps s₀ s) {im : Img} : Keeps s₀ (s.bootSections im) := by
  unfold State.bootSections
  split
  · exact h.bootFail
  · extract_lets s1
    have h1 : Keeps s₀ s1 := h.applyIdent
    split
    · exact h1.bootFail
    · extract_lets s2
      have h2 : Keeps s₀ s2 := h1.applyMap
      split
      · exact h2.bootFail
      · exact h2.applyTrain.setPhase.portsTrain

theorem Keeps.bootStart (h : Keeps s₀ s) {refOk : Bool} : Keeps s₀ (s.bootStart refOk) := by
  unfold State.bootStart
  extract_lets _ _ _ s2 _ _ _ _ s4
  have h2 : Keeps s₀ s2 := h.bootPlls.bootTrims.showSettings.bootCounts.bootCause.frame
  have h4 : Keeps s₀ s4 := h2.setFs.frame
  exact h2.bootFail.ite (h4.bootFail.ite h4.bootSections)

/-! ### Sys2Proof/Machine/Boot.lean -/

theorem execPgoodRise_ends (h : Keeps s₀ s) {board : Board} : Ends s₀ (execPgoodRise board s) :=
  h.ok.ite h.powerReset.frame.bootStart.ok

theorem execPgoodFall_ends (h : Keeps s₀ s) : Ends s₀ (execPgoodFall s) :=
  h.powerReset.frame.ok.ite h.ok

theorem execBrownOut_ends (h : Keeps s₀ s) : Ends s₀ (execBrownOut s) := by
  unfold execBrownOut
  extract_lets _ _ s2
  have h2 : Keeps s₀ s2 := h.powerReset.frame
  exact (h2.log.ite h2).ok

theorem execVauxRise_ends (h : Keeps s₀ s) : Ends s₀ (execVauxRise s) :=
  h.frame.log.ok

theorem execVioValid_ends (h : Keeps s₀ s) : Ends s₀ (execVioValid s) :=
  h.ok.ite h.frame.log.ok

theorem execReboot_ends (h : Keeps s₀ s) {fn : Fn} : Ends s₀ (execReboot fn s) :=
  h.powerReset.frame.bootStart.ok.ite h.ok

theorem Keeps.trainShow (h : Keeps s₀ s) {l : List Nat} : Keeps s₀ (s.trainShow l) :=
  h.trainOver.nchShow

theorem Keeps.bootStores (h : Keeps s₀ s) {im : Img} {l : List (Nat × Bool)} : Keeps s₀ (s.bootStores im l) := by
  induction l generalizing s with
  | nil => exact h.setPhase
  | cons p l ih =>
    unfold State.bootStores
    split
    · exact ih h.applyStore
    · exact h.bootFail

theorem Keeps.bootInit (h : Keeps s₀ s) {im : Img} : Keeps s₀ (s.bootInit im) := by
  unfold State.bootInit
  split
  · exact h.afterInit.bootStores
  · split
    · exact h.markSec.applyPairs.afterInit.bootStores
    · exact h.bootFail

theorem Keeps.trainAgain (h : Keeps s₀ s) {im : Img} : Keeps s₀ (s.trainAgain im) := by
  unfold State.trainAgain
  split
  · exact h.bootFail
  · extract_lets
    split
    · refine h.bootFail.ite ?_
      split
      · exact h.applyTrain
      · exact h.bootFail
    · exact h.bootFail

theorem execDramTrainingDone_ends (h : Keeps s₀ s) {inService : Known} : Ends s₀ (execDramTrainingDone inService s) :=
  (h.trainOver.trainAgain.ok.ite h.trainShow.bootInit.ok).ite h.ok

theorem Keeps.autoItem (h : Keeps s₀ s) {x : Nat} {d : List Nat} : Keeps s₀ (s.autoItem x d) :=
  (h.takeItem.ite h.frame).ite h

theorem Keeps.autorun (h : Keeps s₀ s) {c : Sec} : Keeps s₀ (s.autorun c) :=
  h.markSec.foldl (·.autoItem)

theorem Keeps.runSite (h : Keeps s₀ s) {x : Nat} : Keeps s₀ (s.runSite x) :=
  h.dramZero.modSite.loseRegions.zeroTraffic.ite h.setF

theorem Keeps.runNow (h : Keeps s₀ s) {us : Nat} : Keeps s₀ (s.runNow us) :=
  (h.setPhase.setF.foldl (·.runSite)).frame.bootOver

theorem execBootRun_ends (h : Keeps s₀ s) {us : Nat} : Ends s₀ (execBootRun us s) := by
  unfold execBootRun
  refine .ite ?_ h.ok
  extract_lets
  split
  · exact h.runNow.ok
  · split
    · exact h.autorun.runNow.ok
    · exact h.bootFail.ok

theorem execReload_ends (h : Keeps s₀ s) {fn : Fn} {e : Fin 16} {sec : Nat} {copy : Bool} :
    Ends s₀ (execReload fn e sec copy s) := by
  unfold execReload
  refine .ite ?_ h.ok
  extract_lets _ s1
  have h1 : Keeps s₀ s1 := h.setFs
  exact h1.setF.modEng.preempt.ok.ite h1.setF.ok

theorem execReloadDone_ends (h : Keeps s₀ s) {e : Fin 16} : Ends s₀ (execReloadDone e s) := by
  unfold execReloadDone
  -- Under a name of its own, the kernel does not evaluate the section that the reload finds.
  obtain ⟨find, hfind⟩ : ∃ find, @State.reloadSec = find := ⟨_, rfl⟩
  rw [hfind]
  extract_lets k
  split
  · exact h.ok
  extract_lets s0 s1
  have h1 : Keeps s₀ s1 := (h.frame : Keeps s₀ s0).modEng.setF
  split
  · exact h1.loadStore.setF.joinNow.ok
  · exact h1.setF.joinNow.ok

theorem Keeps.pwrEnd (h : Keeps s₀ s) : Keeps s₀ s.pwrEnd :=
  h.frame.setF.raisePf

theorem Keeps.pwrReq (h : Keeps s₀ s) {fn : Fn} {r : Nat} {cond : Bool} {go : State → State}
    (hgo : ∀ {a}, Keeps s₀ a → Keeps s₀ (go a)) : Ends s₀ (State.pwrReq fn r cond go s) :=
  ((hgo (h.setF.frame).setF).ok.ite h.setF.setF.ok).ite h.ok

theorem Keeps.standbyTry (h : Keeps s₀ s) : Keeps s₀ s.standbyTry :=
  h.frame.setF.log.ite h

theorem execPwrReqActive_ends (h : Keeps s₀ s) {fn : Fn} : Ends s₀ (execPwrReqActive fn s) :=
  h.pwrReq id

theorem execPwrReqIdle_ends (h : Keeps s₀ s) {fn : Fn} : Ends s₀ (execPwrReqIdle fn s) :=
  h.pwrReq id

theorem execPwrReqDormant_ends (h : Keeps s₀ s) {fn : Fn} : Ends s₀ (execPwrReqDormant fn s) :=
  h.pwrReq (fun ht => ht.castVote.ite ht)

theorem execPwrReqStandby_ends (h : Keeps s₀ s) {fn : Fn} : Ends s₀ (execPwrReqStandby fn s) :=
  h.pwrReq (·.standbyTry)

theorem Keeps.allPins (h : Keeps s₀ s) : Keeps s₀ s.allPins :=
  h.pinsShow

theorem Keeps.dormantIn (h : Keeps s₀ s) : Keeps s₀ s.dormantIn :=
  ((h.setF.foldl (·.setF)).clockShow).foldl (·.modSite)

theorem Keeps.dormantOut (h : Keeps s₀ s) : Keeps s₀ s.dormantOut :=
  (h.setF.foldl (·.pllLock)).setAll.foldl (·.dramZero.zeroTraffic)

theorem execPowerTransitionDone_ends (h : Keeps s₀ s) : Ends s₀ (execPowerTransitionDone s) := by
  unfold execPowerTransitionDone
  split
  · exact (h.setF.foldl (·.modChan)).allPins.pwrEnd.ok
  · exact h.setF.allPins.pwrEnd.ok
  · exact h.dormantIn.pwrEnd.ok.ite (h.setF.pwrEnd.ok.ite h.ok)
  · exact h.standbyTry.ok
  · exact h.dormantOut.ok.ite h.ok

theorem execWakePin_ends (h : Keeps s₀ s) : Ends s₀ (execWakePin s) := by
  unfold execWakePin
  refine h.frame.ok.ite ?_
  extract_lets _ s1
  have h1 : Keeps s₀ s1 := h.frame
  exact h1.setF.pwrEnd.ok.ite h1.wakeRequest.ok

theorem execStandbyHoldEnd_ends (h : Keeps s₀ s) : Ends s₀ (execStandbyHoldEnd s) :=
  h.frame.log.ok.ite h.ok

theorem Keeps.keyOff (h : Keeps s₀ s) : Keeps s₀ s.keyOff :=
  h.frame.setF

theorem execNvmKey_ends (h : Keeps s₀ s) {fn : Fn} {data : Nat} : Ends s₀ (execNvmKey fn data s) := by
  unfold execNvmKey
  refine .ite ?_ h.ok
  extract_lets s1
  have h1 : Keeps s₀ s1 := h.keyOff
  exact h1.frame.ok.ite (h1.frame.setF.ok.ite h1.ok)

theorem execKeyarmExpire_ends (h : Keeps s₀ s) : Ends s₀ (execKeyarmExpire s) :=
  (h.setF.ite h).ok

theorem Keeps.nvmGo (h : Keeps s₀ s) {cmd slot : Nat} {allowed : Bool} : Keeps s₀ (s.nvmGo cmd slot allowed) := by
  unfold State.nvmGo
  extract_lets s1
  have h1 : Keeps s₀ s1 := h.keyOff.setF
  exact h1.frame.setF.ite h1.setF

theorem execNvmStore_ends (h : Keeps s₀ s) {fn : Fn} : Ends s₀ (execNvmStore fn s) :=
  h.nvmGo.ok.ite h.ok

theorem execNvmProgram_ends (h : Keeps s₀ s) {fn : Fn} {slot : Fin 2} : Ends s₀ (execNvmProgram fn slot s) :=
  h.setF.nvmGo.ok.ite h.ok

theorem execNvmRevoke_ends (h : Keeps s₀ s) {fn : Fn} {slot : Fin 2} : Ends s₀ (execNvmRevoke fn slot s) :=
  h.setF.nvmGo.ok.ite h.ok

theorem Keeps.keyPage (h : Keeps s₀ s) {n st : Nat} : Keeps s₀ (s.keyPage n st) :=
  h.nvmRecord

theorem Keeps.nvmWritten (h : Keeps s₀ s) {cmd n : Nat} : Keeps s₀ (s.nvmWritten cmd n) := by
  unfold State.nvmWritten
  split
  · exact h.nvmPut.setFs
  · exact (h.foldl (·.setF)).keyPage.setF
  · exact h.keyPage.setF

theorem execNvmWriteDone_ends (h : Keeps s₀ s) {okd : Bool} : Ends s₀ (execNvmWriteDone okd s) := by
  unfold execNvmWriteDone
  split
  · exact h.ok
  · exact h.ok.ite (
      h.nvmWritten.setF.frame.setF.raisePf.standbyTry.ok.ite h.cmdCut.setF.faultLog.frame.setF.raisePf.standbyTry.ok)

theorem execJtagInstruction_ends (h : Keeps s₀ s) {ins : JtagIns} : Ends s₀ (execJtagInstruction ins s) :=
  h.frame.ok

/-! ### Sys2Proof/Machine/Host.lean -/

theorem Keeps.fldWrite (h : Keeps s₀ s) {f : Fld} {ix v : Nat} : Keeps s₀ (s.fldWrite f ix v) := by
  unfold State.fldWrite
  refine h.ite ?_
  split
  · exact h.setF
  · exact h.setF
  · exact h.ite h.setF
  · exact h.setF
  · exact h
  · exact h

theorem Keeps.wordWrite (h : Keeps s₀ s) {d : RegDesc} {ix data : Nat} : Keeps s₀ (s.wordWrite d ix data) :=
  h.foldl (·.fldWrite)

theorem Keeps.wordWriteBut (h : Keeps s₀ s) {d : RegDesc} {ix data : Nat} {bad : List Fld} :
    Keeps s₀ (s.wordWriteBut d ix data bad) :=
  h.foldl (fun ha => ha.ite ha.fldWrite)

theorem Keeps.refusing (h : Keeps s₀ s) {d : RegDesc} {ix data : Nat} {r : Option (List Fld)} {rej : Fld} :
    Keeps s₀ (s.refusing d ix data r rej) := by
  unfold State.refusing
  split
  · exact h.setF
  · exact h.wordWrite
  · exact h.wordWriteBut.setF

theorem Keeps.msixFree (h : Keeps s₀ s) {k f : Nat} : Keeps s₀ (s.msixFree k f) :=
  h.setF.msix.ite h

theorem Keeps.ringCfg (h : Keeps s₀ s) {ix data : Nat} : Keeps s₀ (s.ringCfg ix data) :=
  h.ite h.setF

theorem Keeps.evtClear (h : Keeps s₀ s) {f data : Nat} : Keeps s₀ (s.evtClear f data) := by
  unfold State.evtClear
  refine h.foldl fun ha => ?_
  extract_lets off
  have hoff : Keeps s₀ off := ha.setF
  split
  · exact hoff.ite (ha.msix.ite ha)
  · exact hoff

theorem Keeps.regAct (h : Keeps s₀ s) {d : RegDesc} {ix data : Nat} : Keeps s₀ (s.regAct d ix data) :=
  h.refusing.ite (h.refusing.ite (h.ite ((h.ite h.wordWrite).ite (h.evtClear.ite (h.ringCfg.ite (h.wordWrite.msixFree.ite
    ((h.ite h.wordWrite.fltinShow.sumacShow).ite (h.wordWriteBut.clockShow.ite (h.ite (h.wordWrite.setF.ite h.wordWrite))))))))))

theorem Keeps.regWrite (h : Keeps s₀ s) {fn : Fn} {a data : Nat} : Ends s₀ (s.regWrite fn a data) := by
  unfold State.regWrite
  extract_lets s0
  have h0 : Keeps s₀ s0 := h.keyOff.ite h
  split
  · exact h0.ok
  · refine h0.ok.ite ?_
    refine h0.hostOrder fun ha => ?_
    refine Keeps.ok ?_
    refine Keeps.regAct ?_
    split
    · exact ha.vsFor.ite ha
    · exact ha

theorem Keeps.psWrite (h : Keeps s₀ s) {off size data : Nat} : Keeps s₀ (s.psWrite off size data) := by
  unfold State.psWrite
  exact h.keyOff.putMems fun w => by simp_all [State.memsWf, Tbl.wf_foldl_set]

theorem Keeps.sizeErr (h : Keeps s₀ s) {fn : Fn} : Keeps s₀ (s.sizeErr fn) :=
  h.hstErr

theorem execRegisterWrite_ends (h : Keeps s₀ s) {fn : Fn} {addr size data : Nat} :
    Ends s₀ (execRegisterWrite fn addr size data s) := by
  unfold execRegisterWrite
  refine .ite ?_ h.ok
  split
  · exact h.ok
  refine (h.psWrite.ok.ite h.ok).ite (h.regWrite.ite (.ite ?_ (h.sizeErr.ok.ite h.ok)))
  obtain ⟨t, e, ht⟩ := h.regWrite
  rw [e]
  exact ht.regWrite

theorem execRingEnable_ends (h : Keeps s₀ s) {vf : Fin 16} {ring : Fin 4} {log2n : Nat} :
    Ends s₀ (execRingEnable vf ring log2n s) := by
  unfold execRingEnable
  extract_lets _ s1 s2
  have h1 : Keeps s₀ s1 := h.setF
  have h2 : Keeps s₀ s2 := h1.frame.setFs
  exact (((h2.modSite.ite h2).ok).ite h1.hstErr.ok).ite h.ok

theorem execRingDisable_ends (h : Keeps s₀ s) {vf : Fin 16} {ring : Fin 4} : Ends s₀ (execRingDisable vf ring s) :=
  (h.setF.ite h).ok

theorem Keeps.countWrite (h : Keeps s₀ s) {n r : Nat} {f : Fld} {new prod cons : Nat} :
    Keeps s₀ (s.countWrite n r f new prod cons) :=
  h.ite (h.hstErr.ite h.frame.setF)

theorem execSubmitProdWrite_ends (h : Keeps s₀ s) {vf : Fin 16} {prod : Nat} : Ends s₀ (execSubmitProdWrite vf prod s) :=
  (h.countWrite.ite h).ok

theorem execStreamInProdWrite_ends (h : Keeps s₀ s) {vf : Fin 16} {prod : Nat} : Ends s₀ (execStreamInProdWrite vf prod s) :=
  (h.countWrite.ite h).ok

theorem execConsWrite_ends (h : Keeps s₀ s) {vf : Fin 16} {ring : Fin 4} {cons : Nat} : Ends s₀ (execConsWrite vf ring cons s) :=
  (h.countWrite.ite h).ok

theorem execSubmitSlotRead_ends (h : Keeps s₀ s) {vf : Fin 16} {slot : List Nat} {ok : Bool} :
    Ends s₀ (execSubmitSlotRead vf slot ok s) :=
  (((h.reject.ite h.takeItem).incF.ok).ite h.hstErr.ok).ite h.ok

theorem execCompletionWrite_ends (h : Keeps s₀ s) {vf : Fin 16} : Ends s₀ (execCompletionWrite vf s) := by
  unfold execCompletionWrite
  extract_lets
  split
  · exact h.log.log.modSite.incF.incF.raiseVf.ok
  · exact h.ok

theorem Keeps.streamInPut (h : Keeps s₀ s) {x : Nat} {w : List Nat} {data : List Byte} : Keeps s₀ (s.streamInPut x w data) := by
  unfold State.streamInPut
  extract_lets
  refine h.ite ?_
  split
  · exact h.foldl (·.bbWriteByte)
  · exact (h.foldl (·.setDram)).traffic
  · exact h.foldl (·.granule)

theorem execStreamInDescriptor_ends (h : Keeps s₀ s) {vf : Fin 16} {desc : List Nat} {data : List Byte} {ok : Bool} :
    Ends s₀ (execStreamInDescriptor vf desc data ok s) := by
  unfold execStreamInDescriptor
  refine .ite ?_ h.ok
  extract_lets _ _ _ ends fail
  have hends {a : State} (ha : Keeps s₀ a) : Keeps s₀ (ends a) := ha.modSite.incF
  have hfail {a : State} {n : Nat} (ha : Keeps s₀ a) : Keeps s₀ (fail a n) := (hends ha.setFs).raiseVf
  exact (hfail h).ok.ite (h.ok.ite (h.streamInPut.modSite.ok.ite
    (((hends h.streamInPut).raiseVf.ite (hfail h.streamInPut)).ok)))

theorem execWindowBaseWrite_ends (h : Keeps s₀ s) {vf : Fin 16} {k : Fin 3} {base : Nat} :
    Ends s₀ (execWindowBaseWrite vf k base s) :=
  (h.frame.setF.ite h).ok

theorem execEvmskWrite_ends (h : Keeps s₀ s) {fn : Fn} {mask : Nat} : Ends s₀ (execEvmskWrite fn mask s) :=
  ((h.setF.foldl (fun ha => ha.msix.ite ha)).ok).ite h.ok

theorem Keeps.clearFs (h : Keeps s₀ s) {l : List (Fld × Nat)} : Keeps s₀ (s.clearFs l) :=
  h.foldl (·.setF)

theorem execVfFlr_ends (h : Keeps s₀ s) {vf : Fin 16} : Ends s₀ (execVfFlr vf s) :=
  (h.clearFs.ite h).ok

theorem execPerst_ends (h : Keeps s₀ s) : Ends s₀ (execPerst s) :=
  ((h.foldl (·.clearFs)).clearFs).ok

theorem Keeps.trigLevel (h : Keeps s₀ s) {b : Nat} {level : Bool} : Keeps s₀ (s.trigLevel b level) := by
  unfold State.trigLevel
  refine h.foldl fun ha => ?_
  refine ha.foldl fun hc => ?_
  extract_lets c1
  have hc1 : Keeps s₀ c1 := hc.modSite
  exact hc1.acqTrigIn.ite hc1

theorem execTrgInEdge_ends (h : Keeps s₀ s) {ball : Fin 16} {level : Bool} : Ends s₀ (execTrgInEdge ball level s) :=
  h.ok.ite h.frame.trigLevel.ok

/-! ### Sys2Proof/Machine/Mon.lean -/

theorem Keeps.monClean (h : Keeps s₀ s) {i c : Nat} : Keeps s₀ (s.monClean i c) :=
  h.setMon.ite h.setMon.setF

theorem execConversionEnd_ends (h : Keeps s₀ s) {raw : Int} : Ends s₀ (execConversionEnd raw s) := by
  unfold execConversionEnd
  refine .ite ?_ h.ok
  extract_lets _ _ s1
  have h1 : Keeps s₀ s1 := h.setF.incF
  exact (h1.setMon.setF.satF.setF.ite (h1.satF.setF.ite h1.monClean)).frame.ok

theorem execMonSelect_ends (h : Keeps s₀ s) {fn : Fn} {sel : Nat} : Ends s₀ (execMonSelect fn sel s) :=
  (h.setF.ite h).ok

theorem execMonSnap_ends (h : Keeps s₀ s) {fn : Fn} : Ends s₀ (execMonSnap fn s) :=
  ((h.foldl (·.setFs)).setF.ok).ite h.ok

theorem execMonClr_ends (h : Keeps s₀ s) {fn : Fn} : Ends s₀ (execMonClr fn s) :=
  ((h.foldl (·.setMon.setFs)).ok).ite h.ok

/-! ### Sys2Proof/Machine/Tick.lean -/

theorem Keeps.cycleEnd (h : Keeps s₀ s) : Keeps s₀ s.cycleEnd :=
  (h.foldl (·.safCycle)).foldl (·.clvWatch)

theorem execTimebaseTick_ends (h : Keeps s₀ s) : Ends s₀ (execTimebaseTick s) := by
  unfold execTimebaseTick
  extract_lets a v s1 s2 _ s3
  have h1 : Keeps s₀ s1 := h.cycleEnd.runIncs.setNow
  have h2 : Keeps s₀ s2 := h1.ite h1.setF
  have h3 : Keeps s₀ s3 := h2.frame.runLoads
  exact (h3.ite h3.microsecond).ok

/-! ### Sys2Proof/Machine/Timed.lean -/

theorem Keeps.armReq (h : Keeps s₀ s) {isl : Nat} {r : TimedReq} : Keeps s₀ (s.armReq isl r) :=
  h.frame

theorem Keeps.lateReq (h : Keeps s₀ s) {r : TimedReq} : Keeps s₀ (s.lateReq r) := by
  unfold State.lateReq
  split
  · exact h.setF.incF
  · exact h.modLane
  · split
    · exact h.modSite.setF
    · exact h
  · split
    · exact h.modSaf.safShow
    · exact h
  · exact h.setF

theorem Keeps.reqArrive (h : Keeps s₀ s) {req : TimedReq} (ht : s.reqArrive req = some t) : Keeps s₀ t := by
  unfold State.reqArrive at ht
  split at ht
  · exact h.segArrive ht
  all_goals
    cases ht
    exact h

theorem execTimedRequestArrive_ends (h : Keeps s₀ s) {isl : Nat} {req : TimedReq} :
    Ends s₀ (execTimedRequestArrive isl req s) := by
  unfold execTimedRequestArrive
  split
  next hs =>
    exact (((h.reqArrive hs).armReq).ite ((h.reqArrive hs).lateReq)).ok
  · exact h.ok

theorem Keeps.timedAct (h : Keeps s₀ s) {r : TimedReq} : Keeps s₀ (s.timedAct r) := by
  unfold State.timedAct
  split
  · split
    · extract_lets s1
      have h1 : Keeps s₀ s1 := h.pulses
      exact h1.ite h1.codeFlash
    · exact h
  · exact h
  · exact h
  · exact h
  · exact h.acqTrigger.ite h

theorem execTimedAction_ends (h : Keeps s₀ s) {isl : Nat} : Ends s₀ (execTimedAction isl s) := by
  unfold execTimedAction
  split
  · exact h.frame.timedAct.ok
  · exact h.ok

end Sys2Proof.Machine
end

section
/-! SUPPORT. Every command, and with it every step, keeps the canonical form; and what reset leaves. -/

namespace Sys2Proof.Machine

variable {s₀ s t : State}

/-! ### Every command, and the step -/

theorem exec_ends (h : Keeps s₀ s) : (c : Instr) → Ends s₀ (exec c s)
  | .timebaseTick => execTimebaseTick_ends h
  | .beaconSend => execBeaconSend_ends h
  | .beaconArrive .. => execBeaconArrive_ends h
  | .incApply => execIncApply_ends h
  | .timedRequestArrive .. => execTimedRequestArrive_ends h
  | .timedAction .. => execTimedAction_ends h
  | .wordIssue .. => execWordIssue_ends h
  | .mchkRewriteDone .. => execMchkRewriteDone_ends h
  | .wordResolve .. => execWordResolve_ends h
  | .postEntryFreed .. => execPostEntryFreed_ends h
  | .trigoPulse .. => execTrigoPulse_ends h
  | .fsigSend .. => execFsigSend_ends h
  | .evtHostEvent .. => execEvtHostEvent_ends h
  | .wopStartChain .. => execWopStartChain_ends h
  | .wopStopChain .. => execWopStopChain_ends h
  | .wopContinue .. => execWopContinue_ends h
  | .popEarliest .. => execPopEarliest_ends h
  | .popTimed .. => execPopTimed_ends h
  | .captStart .. => execCaptStart_ends h
  | .captStop .. => execCaptStop_ends h
  | .captWord .. => execCaptWord_ends h
  | .modeChangeEffect .. => execModeChangeEffect_ends h
  | .persIdleEnd .. => execPersIdleEnd_ends h
  | .matchArm .. => execMatchArm_ends h
  | .asyncExceptionTake .. => execAsyncExceptionTake_ends h
  | .uflReport .. => execUflReport_ends h
  | .burstSuspend .. => execBurstSuspend_ends h
  | .burstRestore .. => execBurstRestore_ends h
  | .reload .. => execReload_ends h
  | .reloadDone .. => execReloadDone_ends h
  | .vectorRead .. => execVectorRead_ends h
  | .driveEdge .. => execDriveEdge_ends h
  | .strobe .. => execStrobe_ends h
  | .compareComplete .. => execCompareComplete_ends h
  | .conditionArrive .. => execConditionArrive_ends h
  | .comparatorEdge .. => execComparatorEdge_ends h
  | .sigdetChange .. => execSigdetChange_ends h
  | .rxAdaptUpdate .. => execRxAdaptUpdate_ends h
  | .safeReachOctet .. => execSafeReachOctet_ends h
  | .bbWindowWrite .. => execBbWindowWrite_ends h
  | .streamStart .. => execStreamStart_ends h
  | .streamStop .. => execStreamStop_ends h
  | .streamRefill .. => execStreamRefill_ends h
  | .dramRequestComplete .. => execDramRequestComplete_ends h
  | .dramPdEnter .. => execDramPdEnter_ends h
  | .segmentEntryRead .. => execSegmentEntryRead_ends h
  | .segmentPassStart .. => execSegmentPassStart_ends h
  | .ringSlotRead .. => execRingSlotRead_ends h
  | .granuleArrive .. => execGranuleArrive_ends h
  | .wfringWrite .. => execWfringWrite_ends h
  | .launchHead .. => execLaunchHead_ends h
  | .preambleStart .. => execPreambleStart_ends h
  | .frameTxEnd .. => execFrameTxEnd_ends h
  | .timestampWrite .. => execTimestampWrite_ends h
  | .tsqPop .. => execTsqPop_ends h
  | .rxLock .. => execRxLock_ends h
  | .rxLockLoss .. => execRxLockLoss_ends h
  | .sdMatch _ x => execSdMatch_ends h (ingress := x)
  | .rxFrameComplete _ d x => execRxFrameComplete_ends h (data := d) (tm := x)
  | .checkerBitError _ x y => execCheckerBitError_ends h (tm := x) (sym := y)
  | .failClear .. => execFailClear_ends h
  | .recordEnter .. => execRecordEnter_ends h
  | .captureWindowEnd .. => execCaptureWindowEnd_ends h
  | .pageFlushTimeout .. => execPageFlushTimeout_ends h
  | .captureFlush .. => execCaptureFlush_ends h
  | .pageMove .. => execPageMove_ends h
  | .pageDeliver _ x => execPageDeliver_ends h (known := x)
  | .adcSample .. => execAdcSample_ends h
  | .acqRecordDone .. => execAcqRecordDone_ends h
  | .rovingSample .. => execRovingSample_ends h
  | .rovingStep .. => execRovingStep_ends h
  | .acqRunStart .. => execAcqRunStart_ends h
  | .acqRunStop .. => execAcqRunStop_ends h
  | .acqStopDone .. => execAcqStopDone_ends h
  | .acqArm .. => execAcqArm_ends h
  | .acqForce .. => execAcqForce_ends h
  | .acqClr .. => execAcqClr_ends h
  | .acqClrDone .. => execAcqClrDone_ends h
  | .acqEye .. => execAcqEye_ends h
  | .acqEyeDone .. => execAcqEyeDone_ends h
  | .acqTtrigSubmit .. => execAcqTtrigSubmit_ends h
  | .tdcStamp .. => execTdcStamp_ends h
  | .tdcGateEnd .. => execTdcGateEnd_ends h
  | .tdcStartTimeout .. => execTdcStartTimeout_ends h
  | .tdcRunStart .. => execTdcRunStart_ends h
  | .tdcRunStop .. => execTdcRunStop_ends h
  | .tdcSnap .. => execTdcSnap_ends h
  | .tdcClr .. => execTdcClr_ends h
  | .dllLock .. => execDllLock_ends h
  | .dllUnlock .. => execDllUnlock_ends h
  | .ocxoWarmChange .. => execOcxoWarmChange_ends h
  | .commit .. => execCommit_ends h
  | .commitFreeze .. => execCommitFreeze_ends h
  | .gapApply .. => execGapApply_ends h
  | .beatStart .. => execBeatStart_ends h
  | .pinSample .. => execPinSample_ends h
  | .signatureResult .. => execSignatureResult_ends h
  | .itemArrive .. => execItemArrive_ends h
  | .engineBind .. => execEngineBind_ends h
  | .burstStart .. => execBurstStart_ends h
  | .recordRelease .. => execRecordRelease_ends h
  | .dspStop .. => execDspStop_ends h
  | .dspUnstop .. => execDspUnstop_ends h
  | .whistClear .. => execWhistClear_ends h
  | .tbsSnap .. => execTbsSnap_ends h
  | .tbsSet .. => execTbsSet_ends h
  | .timeExchangeStart => execTimeExchangeStart_ends h
  | .timeRequestReceive _ _ x => execTimeRequestReceive_ends h (t1 := x)
  | .exchangeComplete .. => execExchangeComplete_ends h
  | .exchangeLost => execExchangeLost_ends h
  | .safOpen .. => execSafOpen_ends h
  | .safStage .. => execSafStage_ends h
  | .safPrepare .. => execSafPrepare_ends h
  | .safAbort .. => execSafAbort_ends h
  | .safResolveCommit .. => execSafResolveCommit_ends h
  | .safResolveAbort .. => execSafResolveAbort_ends h
  | .openReceive .. => execOpenReceive_ends h
  | .prepareReceive .. => execPrepareReceive_ends h
  | .voteReceive .. => execVoteReceive_ends h
  | .decisionDeadline .. => execDecisionDeadline_ends h
  | .deferReceive .. => execDeferReceive_ends h
  | .commitReceive .. => execCommitReceive_ends h
  | .abortReceive .. => execAbortReceive_ends h
  | .participantDeadline .. => execParticipantDeadline_ends h
  | .querySend .. => execQuerySend_ends h
  | .queryReceive .. => execQueryReceive_ends h
  | .outcomeReceive _ _ _ _ n => execOutcomeReceive_ends h (beat := n)
  | .nackStaleReceive .. => execNackStaleReceive_ends h
  | .flashCode .. => execFlashCode_ends h
  | .flashMatch .. => execFlashMatch_ends h
  | .flashAbort .. => execFlashAbort_ends h
  | .flashFault .. => execFlashFault_ends h
  | .flashSys .. => execFlashSys_ends h
  | .sysFlashSend .. => execSysFlashSend_ends h
  | .cellReceive .. => execCellReceive_ends h
  | .linkAck .. => execLinkAck_ends h
  | .linkNack .. => execLinkNack_ends h
  | .retryTimeout .. => execRetryTimeout_ends h
  | .creditReturn .. => execCreditReturn_ends h
  | .portTrainStart .. => execPortTrainStart_ends h
  | .retrain .. => execRetrain_ends h
  | .portTrainDone .. => execPortTrainDone_ends h
  | .helloReceive .. => execHelloReceive_ends h
  | .linkStateReceive .. => execLinkStateReceive_ends h
  | .portDown .. => execPortDown_ends h
  | .sleepVote .. => execSleepVote_ends h
  | .sleepVoteReceive .. => execSleepVoteReceive_ends h
  | .sleepAtReceive .. => execSleepAtReceive_ends h
  | .sleepCancelInstant => execSleepCancelInstant_ends h
  | .sleepEnter => execSleepEnter_ends h
  | .fabWake .. => execFabWake_ends h
  | .wakeToneDetect .. => execWakeToneDetect_ends h
  | .siteReset .. => execSiteReset_ends h
  | .siteResetBurstsEnded .. => execSiteResetBurstsEnded_ends h
  | .siteResetDone .. => execSiteResetDone_ends h
  | .scrubDone .. => execScrubDone_ends h
  | .retrainPassStart => execRetrainPassStart_ends h
  | .retrainStep .. => execRetrainStep_ends h
  | .mirrorRewriteDone => execMirrorRewriteDone_ends h
  | .refLoss => execRefLoss_ends h
  | .refPresent => execRefPresent_ends h
  | .pllLossOfLock .. => execPllLossOfLock_ends h
  | .pllRelock .. => execPllRelock_ends h
  | .updnow .. => execUpdnow_ends h
  | .sliceFail .. => execSliceFail_ends h
  | .frontEndFail .. => execFrontEndFail_ends h
  | .clvTake .. => execClvTake_ends h
  | .clvRetrim .. => execClvRetrim_ends h
  | .clvReturn .. => execClvReturn_ends h
  | .clvSave .. => execClvSave_ends h
  | .retrimDone .. => execRetrimDone_ends h
  | .saveDone .. => execSaveDone_ends h
  | .faultSourceActive .. => execFaultSourceActive_ends h
  | .faultSourceClear .. => execFaultSourceClear_ends h
  | .wireFault .. => execWireFault_ends h
  | .quietEnd .. => execQuietEnd_ends h
  | .recoveryWriteDone .. => execRecoveryWriteDone_ends h
  | .fltClear .. => execFltClear_ends h
  | .faultRepeat => execFaultRepeat_ends h
  | .remoteExpire .. => execRemoteExpire_ends h
  | .fltinChange .. => execFltinChange_ends h
  | .ilkOpen .. => execIlkOpen_ends h
  | .ilkClose .. => execIlkClose_ends h
  | .discrepancyLatch => execDiscrepancyLatch_ends h
  | .selfFault => execSelfFault_ends h
  | .conversionEnd .. => execConversionEnd_ends h
  | .monSelect .. => execMonSelect_ends h
  | .monSnap .. => execMonSnap_ends h
  | .monClr .. => execMonClr_ends h
  | .pgoodRise .. => execPgoodRise_ends h
  | .pgoodFall => execPgoodFall_ends h
  | .dramTrainingDone x => execDramTrainingDone_ends h (inService := x)
  | .bootRun .. => execBootRun_ends h
  | .brownOut => execBrownOut_ends h
  | .reboot .. => execReboot_ends h
  | .pwrReqActive .. => execPwrReqActive_ends h
  | .pwrReqIdle .. => execPwrReqIdle_ends h
  | .pwrReqDormant .. => execPwrReqDormant_ends h
  | .pwrReqStandby .. => execPwrReqStandby_ends h
  | .powerTransitionDone => execPowerTransitionDone_ends h
  | .wakePin => execWakePin_ends h
  | .standbyHoldEnd => execStandbyHoldEnd_ends h
  | .nvmKey .. => execNvmKey_ends h
  | .keyarmExpire => execKeyarmExpire_ends h
  | .nvmStore .. => execNvmStore_ends h
  | .nvmProgram .. => execNvmProgram_ends h
  | .nvmRevoke .. => execNvmRevoke_ends h
  | .nvmWriteDone .. => execNvmWriteDone_ends h
  | .registerWrite .. => execRegisterWrite_ends h
  | .ringEnable .. => execRingEnable_ends h
  | .ringDisable .. => execRingDisable_ends h
  | .submitProdWrite .. => execSubmitProdWrite_ends h
  | .submitSlotRead .. => execSubmitSlotRead_ends h
  | .consWrite .. => execConsWrite_ends h
  | .completionWrite .. => execCompletionWrite_ends h
  | .streamInProdWrite .. => execStreamInProdWrite_ends h
  | .streamInDescriptor .. => execStreamInDescriptor_ends h
  | .windowBaseWrite .. => execWindowBaseWrite_ends h
  | .evmskWrite .. => execEvmskWrite_ends h
  | .vfFlr .. => execVfFlr_ends h
  | .perst => execPerst_ends h
  | .trgInEdge .. => execTrgInEdge_ends h
  | .jtagInstruction .. => execJtagInstruction_ends h
  | .tdcStopDone .. => execTdcStopDone_ends h
  | .deepStateExitDone .. => execDeepStateExitDone_ends h
  | .codeViolation .. => execCodeViolation_ends h
  | .flashReservedFtype .. => execFlashReservedFtype_ends h
  | .vioValid => execVioValid_ends h
  | .vauxRise => execVauxRise_ends h

theorem step_of_pending_nil (h : s.pending = []) : step s = .next s := by
  simp only [step, h]

theorem step_of_pending_cons {c : Instr} {rest : List Instr} (h : s.pending = c :: rest) :
    step s = exec c { s with pending := rest } := by
  simp only [step, h]

/-- A step idles, or carries out the front command on the state with the rest of the queue. -/
theorem step_keeps (e : step s = .next t) :
    t = s ∨ ∃ c rest, s.pending = c :: rest ∧ Keeps { s with pending := rest } t := by
  cases hp : s.pending with
  | nil =>
    rw [step_of_pending_nil hp] at e
    cases e
    exact .inl rfl
  | cons c rest =>
    rw [step_of_pending_cons hp] at e
    obtain ⟨u, hu, hk⟩ := exec_ends (.refl { s with pending := rest }) c
    cases hu.symm.trans e
    exact .inr ⟨c, rest, rfl, hk⟩

/-- Settles O5: every command is made of updates that keep the register tables canonical, and an idle step changes nothing. -/
theorem stepKeepsRegistersCanonical : Obligations.StepKeepsRegistersCanonical := by
  intro s t hs e
  obtain rfl | ⟨c, rest, -, hk⟩ := step_keeps e
  · exact hs
  · exact hk.regs hs

/-! ### Reset -/

theorem FMap.get_nil {f : Fld} {i : Nat} : FMap.get [] f i = f.reset i :=
  Nat.zero_xor _

/-- Settles O3: at reset no table lists an entry, so each reads its default value. -/
theorem resetValues : Obligations.ResetValues :=
  ⟨fun _ _ => ⟨FMap.get_nil, FMap.get_nil⟩, fun _ _ => rfl, fun _ _ => rfl, fun _ => rfl, fun _ _ => rfl, rfl, rfl⟩

end Sys2Proof.Machine
end

section
/-! SUPPORT. The tables of units keep their canonical form with every step. -/

namespace Sys2Proof.Machine

/-- Settles O7: every command is made of updates that keep the tables of units canonical, and an idle step changes nothing. -/
theorem stepKeepsUnitsCanonical : Obligations.StepKeepsUnitsCanonical := by
  intro s t hs e
  obtain rfl | ⟨c, rest, -, hk⟩ := step_keeps e
  · exact hs
  · exact hk.units hs

end Sys2Proof.Machine
end

section
/-! SUPPORT. The parts of the timebase: what a host event changes, which updates change nothing but registers and the timebase's record,
the increment in force, the count, and the loads of the islands' copies. -/

namespace Sys2Proof.Machine

/-! ### Host events -/

/-- A message, or its pending bit: of the registers the bit alone, of the rest the log alone. -/
theorem State.msix_regs (s : State) (f k : Nat) : RegsBut [F.MSIX_PBA_PEND.key f] s (s.msix f k) := by
  obtain ⟨fn, h⟩ | h := s.msix_cases f k
  · exact h ▸ RegsBut.refl _ s
  · exact h ▸ (RegsBut.refl _ s).setF (by simp)

theorem State.msix_frame (s : State) (f k : Nat) : { s.msix f k with reg := s.reg, out := s.out } = s := by
  obtain ⟨fn, h⟩ | h := s.msix_cases f k <;> rw [h] <;> rfl

/-- An event writes its bit and, where the message waits, the pending bit (R446). -/
theorem State.raise_regs (s : State) (f k : Nat) :
    RegsBut [F.HST_EVT_EVT.key f, F.MSIX_PBA_PEND.key f] s (s.raise f k) := by
  have hn : RegsBut [F.HST_EVT_EVT.key f, F.MSIX_PBA_PEND.key f] s (s.noteEv f k) := RegsBut.refl _ s
  obtain ⟨-, h⟩ | ⟨-, h | h⟩ := s.raise_cases f k
  · exact h ▸ hn
  · exact h ▸ hn.setF (by simp)
  · rw [h]
    exact (hn.setF (by simp)).trans fun j hj => State.msix_regs _ f k j fun hm => hj (List.mem_cons_of_mem _ hm)

theorem State.raise_frame (s : State) (f k : Nat) :
    { s.raise f k with reg := s.reg, evAt := s.evAt, out := s.out } = s := by
  obtain ⟨-, h⟩ | ⟨-, h | h⟩ := s.raise_cases f k <;> rw [h]
  · rfl
  · rfl
  · have hm := State.msix_frame ((s.noteEv f k).setF F.HST_EVT_EVT f (setBit (s.getF F.HST_EVT_EVT f) k)) f k
    exact congrArg (fun u : State => { u with reg := s.reg, evAt := s.evAt, out := s.out }) hm

theorem State.raise_time (s : State) (f k : Nat) : (s.raise f k).time = s.time := by
  have h := congrArg State.time (s.raise_frame f k)
  exact h

/-! ### Nothing but time -/

/-- Between `s` and `t` nothing changes but the register fields whose keys are in `w` and the timebase's record. -/
def TimeOnly (w : List Nat) (s t : State) : Prop := { t with reg := s.reg, time := s.time } = s ∧ RegsBut w s t

variable {w : List Nat} {s t u : State}

theorem TimeOnly.refl (w : List Nat) (s : State) : TimeOnly w s s := ⟨rfl, RegsBut.refl w s⟩

theorem TimeOnly.setF (h : TimeOnly w s t) {f : Fld} {i v : Nat} (hk : f.key i ∈ w) : TimeOnly w s (t.setF f i v) :=
  ⟨h.1, h.2.setF hk⟩

theorem TimeOnly.setTime (h : TimeOnly w s t) {m : TimeSt} : TimeOnly w s { t with time := m } := h

theorem TimeOnly.ite {c : Prop} [Decidable c] (ht : TimeOnly w s t) (hu : TimeOnly w s u) :
    TimeOnly w s (if c then t else u) := by
  split
  · exact ht
  · exact hu

theorem RegsOnly.time (h : RegsOnly w s t) : t.time = s.time := by
  have ht := congrArg State.time h.1
  exact ht

/-- What writes registers alone keeps all but time. -/
theorem TimeOnly.regsOnly (h : TimeOnly w s t) {v : List Nat} (hu : RegsOnly v t u) (hv : v ⊆ w) : TimeOnly w s u :=
  ⟨(congrArg (fun a : State => { a with reg := s.reg, time := s.time }) hu.1).trans h.1,
    h.2.trans fun k hk => hu.2 k fun hm => hk (hv hm)⟩

/-! ### The increment in force (R16) -/

/-- Before the tick that a sent increment names nothing changes. -/
theorem State.runIncs_of_none_due (h : ∀ p ∈ s.time.incSent, s.time.ticks < p.1) : s.runIncs = s := by
  have hd : s.time.incSent.filter (fun p => decide (p.1 ≤ s.time.ticks)) = [] :=
    List.filter_eq_nil_iff.2 fun p hp => by simpa using h p hp
  simp [State.runIncs, hd]

/-- Of the increments sent, the first alone due: it is in force, and the others wait. -/
theorem State.runIncs_of_first_due {n i : Nat} {rest : List (Nat × Nat)} (h : s.time.incSent = (n, i) :: rest)
    (hn : n ≤ s.time.ticks) (hr : ∀ p ∈ rest, s.time.ticks < p.1) :
    s.runIncs = (({ s with time := { s.time with incSent := rest } } : State).setF F.TBS_INC_LO_FRAC 0 i).setF
      F.TBS_INC_HI_INT 0 (i / 4294967296) := by
  have hd : rest.filter (fun p => decide (p.1 ≤ s.time.ticks)) = [] :=
    List.filter_eq_nil_iff.2 fun p hp => by simpa using hr p hp
  have hk : rest.filter (fun p => decide (s.time.ticks < p.1)) = rest :=
    List.filter_eq_self.2 fun p hp => by simpa using hr p hp
  simp [State.runIncs, h, hn, hd, hk, Nat.not_lt.2 hn]

/-- Either no increment is due, or the last of those due is in force and the others wait. -/
theorem State.runIncs_cases (s : State) :
    s.runIncs = s ∨ ∃ (i : Nat) (l : List (Nat × Nat)),
      s.runIncs = (({ s with time := { s.time with incSent := l } } : State).setF F.TBS_INC_LO_FRAC 0 i).setF
        F.TBS_INC_HI_INT 0 (i / 4294967296) := by
  unfold State.runIncs
  extract_lets
  split
  · exact .inl rfl
  · exact .inr ⟨_, _, rfl⟩

theorem TimeOnly.runIncs (h : TimeOnly w s t) (hl : F.TBS_INC_LO_FRAC.key 0 ∈ w) (hh : F.TBS_INC_HI_INT.key 0 ∈ w) :
    TimeOnly w s t.runIncs := by
  obtain e | ⟨i, l, e⟩ := t.runIncs_cases <;> rw [e]
  · exact h
  · exact (h.setTime.setF hl).setF hh

@[simp] theorem State.runIncs_ticks (s : State) : s.runIncs.time.ticks = s.time.ticks := by
  obtain e | ⟨i, l, e⟩ := s.runIncs_cases <;> simp [e]

@[simp] theorem State.runIncs_loads (s : State) : s.runIncs.time.loads = s.time.loads := by
  obtain e | ⟨i, l, e⟩ := s.runIncs_cases <;> simp [e]

theorem State.runIncs_nowFix (s : State) : s.runIncs.nowFix = s.nowFix := by
  have h : TimeOnly [F.TBS_INC_LO_FRAC.key 0, F.TBS_INC_HI_INT.key 0] s s.runIncs :=
    (TimeOnly.refl _ s).runIncs (by simp) (by simp)
  simp only [State.nowFix, h.2.getF (f := F.TBS_WRAPCNT_WRAP) (i := 0) (by decide),
    h.2.getF (f := F.TBS_NS_NS) (i := 0) (by decide), h.2.getF (f := F.TBS_FRAC_FRAC) (i := 0) (by decide)]

/-! ### The count (R273) -/

@[simp] theorem State.getF_setNow_frac (s : State) (v : Nat) : (s.setNow v).getF F.TBS_FRAC_FRAC 0 = v % 4294967296 := by
  unfold State.setNow
  rw [State.getF_setF_other (by decide), State.getF_setF_other (by decide), State.getF_setF_same]
  norm_num [F.TBS_FRAC_FRAC]

@[simp] theorem State.getF_setNow_ns (s : State) (v : Nat) :
    (s.setNow v).getF F.TBS_NS_NS 0 = v / 4294967296 % 4294967296 := by
  unfold State.setNow
  rw [State.getF_setF_other (by decide), State.getF_setF_same]
  norm_num [F.TBS_NS_NS]

@[simp] theorem State.getF_setNow_wrap (s : State) (v : Nat) :
    (s.setNow v).getF F.TBS_WRAPCNT_WRAP 0 = v / 18446744073709551616 % 4294967296 := by
  unfold State.setNow
  rw [State.getF_setF_same]
  norm_num [F.TBS_WRAPCNT_WRAP]

@[simp] theorem State.setNow_time (s : State) (v : Nat) : (s.setNow v).time = s.time := rfl

theorem TimeOnly.setNow (h : TimeOnly w s t) {v : Nat} (hf : F.TBS_FRAC_FRAC.key 0 ∈ w) (hn : F.TBS_NS_NS.key 0 ∈ w)
    (hw : F.TBS_WRAPCNT_WRAP.key 0 ∈ w) : TimeOnly w s (t.setNow v) :=
  ((h.setF hf).setF hn).setF hw

/-! ### Loads of the islands' copies (R17) -/

theorem State.loadCopy_eq (s : State) (isl v : Nat) :
    ∃ m, s.loadCopy isl v = { s with time := { s.time with copyOff := m } } :=
  ⟨_, rfl⟩

theorem State.foldl_loadCopy_eq (l : List (Nat × Nat × Nat)) (s : State) :
    ∃ m, l.foldl (fun a p => a.loadCopy p.1 p.2.2) s = { s with time := { s.time with copyOff := m } } := by
  induction l generalizing s with
  | nil => exact ⟨_, rfl⟩
  | cons p l ih =>
    obtain ⟨c, hc⟩ := s.loadCopy_eq p.1 p.2.2
    obtain ⟨m, hm⟩ := ih { s with time := { s.time with copyOff := c } }
    exact ⟨m, by rw [List.foldl_cons, hc, hm]⟩

/-- Loads that are due move copies and leave the list; nothing else changes. -/
theorem State.runLoads_eq (s : State) :
    ∃ m l, s.runLoads = { s with time := { s.time with copyOff := m, loads := l } } := by
  obtain ⟨m, hm⟩ := State.foldl_loadCopy_eq (s.time.loads.filter (fun l => l.2.1 ≤ s.time.ticks))
    { s with time := { s.time with loads := s.time.loads.filter (fun l => s.time.ticks < l.2.1) } }
  exact ⟨m, _, hm⟩

theorem State.runLoads_of_none_due (h : ∀ l ∈ s.time.loads, s.time.ticks < l.2.1) : s.runLoads = s := by
  have hd : s.time.loads.filter (fun l => decide (l.2.1 ≤ s.time.ticks)) = [] :=
    List.filter_eq_nil_iff.2 fun l hl => by simpa using h l hl
  have hk : s.time.loads.filter (fun l => decide (s.time.ticks < l.2.1)) = s.time.loads :=
    List.filter_eq_self.2 fun l hl => by simpa using h l hl
  simp [State.runLoads, hd, hk]

end Sys2Proof.Machine
end

section
/-! SUPPORT. The tick of the timebase in its parts, and what it settles (R15, R16, R273). -/

namespace Sys2Proof.Machine

variable {w : List Nat} {s t u : State}

/-! ### The end of the cycle -/

/-- Where no transaction has lapsed and no returning slice is compared, the end of a cycle changes nothing (R290, R381). -/
theorem State.cycleEnd_eq_self (hl : ∀ x ∈ sites, (s.safOf x).lapsed = none)
    (hc : ∀ o < 8, s.getF F.OCT_CLVSTAT_STATE o ≠ 4) : s.cycleEnd = s := by
  have hsaf : sites.foldl (fun a x => a.safCycle x) s = s :=
    List.foldlRecOn (motive := (· = s)) sites _ rfl fun a ha x hx => by simp [ha, State.safCycle, hl x hx]
  have hclv : (List.range 8).foldl (fun a o => a.clvWatch o) s = s :=
    List.foldlRecOn (motive := (· = s)) (List.range 8) _ rfl fun a ha o ho => by
      simp [ha, State.clvWatch, hc o (List.mem_range.1 ho)]
  rw [State.cycleEnd, hsaf, hclv]

/-! ### The microsecond counters (R271) -/

/-- The keys of the dispatcher's microsecond counters. -/
def microKeys : List Nat := (List.range 16).map F.DSP_EBUSY_BUSY.key ++ sites.map F.DSP_SBPUS_US.key

theorem State.microsecond_regsOnly (s : State) : RegsOnly microKeys s s.microsecond := by
  unfold State.microsecond
  refine List.foldlRecOn (motive := RegsOnly microKeys s) _ _ ?_ fun a ha x hx => ?_
  · refine List.foldlRecOn (motive := RegsOnly microKeys s) _ _ (.refl _ s) fun a ha e he => ?_
    split
    · exact ha.setF (List.mem_append_left _ (List.mem_map_of_mem he))
    · exact ha
  · split
    · exact ha.setF (List.mem_append_right _ (List.mem_map_of_mem hx))
    · exact ha

/-! ### The tick -/

/-- The count moved on by one increment, and WRAPF where NS passes its end (R273, R275). -/
def State.counted (s : State) : State :=
  if (s.nowFix + s.inc) / 18446744073709551616 = s.nowFix / 18446744073709551616 then s.setNow (s.nowFix + s.inc)
  else (s.setNow (s.nowFix + s.inc)).setF F.TBS_STAT_WRAPF 0 1

/-- One more tick counted, with the loads that it brings (R17). -/
def State.ticked (s : State) : State := ({ s with time := { s.time with ticks := s.time.ticks + 1 } } : State).runLoads

/-- The state after a tick, its cycle settled and its increments in force: at a whole microsecond with the dispatcher's counters. -/
def State.afterTick (s : State) : State :=
  if (s.nowFix + s.inc) / 4294967296 / 1000 = s.nowFix / 4294967296 / 1000 then s.counted.ticked
  else s.counted.ticked.microsecond

theorem exec_timebaseTick (s : State) : exec .timebaseTick s = .next s.cycleEnd.runIncs.afterTick := rfl

/-- The counters of the dispatcher apart, a tick moves the count on and counts itself. -/
theorem State.afterTick_regsOnly (s : State) : RegsOnly microKeys s.counted.ticked s.afterTick := by
  unfold State.afterTick
  split
  · exact .refl _ _
  · exact State.microsecond_regsOnly _

/-! ### What each part of a tick writes -/

theorem State.counted_regsOnly (s : State) : RegsOnly [F.TBS_STAT_WRAPF.key 0] (s.setNow (s.nowFix + s.inc)) s.counted := by
  unfold State.counted
  split
  · exact .refl _ _
  · exact (RegsOnly.refl _ _).setF (by simp)

theorem State.getF_counted {f : Fld} {i : Nat} (h : f.key i ∉ [F.TBS_STAT_WRAPF.key 0]) :
    s.counted.getF f i = (s.setNow (s.nowFix + s.inc)).getF f i :=
  s.counted_regsOnly.2.getF h

/-- NS passing its end sets WRAPF (R275). -/
theorem State.getF_counted_wrapf
    (h : (s.nowFix + s.inc) / 18446744073709551616 ≠ s.nowFix / 18446744073709551616) :
    s.counted.getF F.TBS_STAT_WRAPF 0 = 1 := by
  rw [State.counted, if_neg h, State.getF_setF_same]
  rfl

@[simp] theorem State.counted_time (s : State) : s.counted.time = s.time := by
  rw [s.counted_regsOnly.time, State.setNow_time]

theorem TimeOnly.counted (h : TimeOnly w s t) (hf : F.TBS_FRAC_FRAC.key 0 ∈ w) (hn : F.TBS_NS_NS.key 0 ∈ w)
    (hw : F.TBS_WRAPCNT_WRAP.key 0 ∈ w) (ho : F.TBS_STAT_WRAPF.key 0 ∈ w) : TimeOnly w s t.counted :=
  (h.setNow hf hn hw).ite ((h.setNow hf hn hw).setF ho)

theorem State.ticked_eq (s : State) :
    ∃ m l, s.ticked = { s with time := { s.time with ticks := s.time.ticks + 1, copyOff := m, loads := l } } :=
  State.runLoads_eq { s with time := { s.time with ticks := s.time.ticks + 1 } }

theorem State.ticked_reg (s : State) : s.ticked.reg = s.reg := by
  obtain ⟨m, l, h⟩ := s.ticked_eq
  rw [h]

@[simp] theorem State.ticked_ticks (s : State) : s.ticked.time.ticks = s.time.ticks + 1 := by
  obtain ⟨m, l, h⟩ := s.ticked_eq
  rw [h]

@[simp] theorem State.ticked_incSent (s : State) : s.ticked.time.incSent = s.time.incSent := by
  obtain ⟨m, l, h⟩ := s.ticked_eq
  rw [h]

theorem State.ticked_of_none_due (h : ∀ l ∈ s.time.loads, s.time.ticks + 1 < l.2.1) :
    s.ticked = { s with time := { s.time with ticks := s.time.ticks + 1 } } :=
  State.runLoads_of_none_due h

theorem TimeOnly.ticked (h : TimeOnly w s t) : TimeOnly w s t.ticked := by
  obtain ⟨m, l, e⟩ := t.ticked_eq
  rw [e]
  exact h.setTime

theorem State.afterTick_time (s : State) : s.afterTick.time = s.counted.ticked.time :=
  s.afterTick_regsOnly.time

theorem State.getF_afterTick {f : Fld} {i : Nat} (h : f.key i ∉ microKeys) : s.afterTick.getF f i = s.counted.getF f i := by
  rw [s.afterTick_regsOnly.2.getF h, State.getF, State.ticked_reg, State.getF]

/-- The keys of all that a tick writes. -/
def tickKeys : List Nat :=
  [F.TBS_INC_LO_FRAC.key 0, F.TBS_INC_HI_INT.key 0, F.TBS_FRAC_FRAC.key 0, F.TBS_NS_NS.key 0,
    F.TBS_WRAPCNT_WRAP.key 0, F.TBS_STAT_WRAPF.key 0] ++
    (List.range 16).map F.DSP_EBUSY_BUSY.key ++ sites.map F.DSP_SBPUS_US.key

theorem microKeys_subset_tickKeys : microKeys ⊆ tickKeys := by
  unfold tickKeys
  rw [List.append_assoc]
  exact List.subset_append_right _ _

theorem TimeOnly.tick (c : State) : TimeOnly tickKeys c c.runIncs.afterTick :=
  (((TimeOnly.refl _ c).runIncs (by simp [tickKeys]) (by simp [tickKeys])).counted (by simp [tickKeys]) (by simp [tickKeys])
    (by simp [tickKeys]) (by simp [tickKeys])).ticked.regsOnly c.runIncs.afterTick_regsOnly microKeys_subset_tickKeys

/-- A load that is not due at the next tick is not due once the increments are in force. -/
theorem State.afterTick_time_of_none_due (c : State) (h : ∀ l ∈ c.time.loads, c.time.ticks + 1 < l.2.1) :
    c.runIncs.afterTick.time = { c.runIncs.time with ticks := c.time.ticks + 1 } := by
  rw [State.afterTick_time, State.ticked_of_none_due (by simpa using h), State.counted_time, State.runIncs_ticks]

/-- A sent increment of up to 40 bits that is alone due is the one in force (R16, R273). -/
theorem State.runIncs_inc_of_first_due {n i : Nat} {rest : List (Nat × Nat)} (h : s.time.incSent = (n, i) :: rest)
    (hn : n ≤ s.time.ticks) (hi : i < 2 ^ 40) (hr : ∀ p ∈ rest, s.time.ticks < p.1) : s.runIncs.inc = i := by
  rw [State.runIncs_of_first_due h hn hr, State.inc, State.getF_setF_same, State.getF_setF_other (by decide),
    State.getF_setF_same]
  simp only [F.TBS_INC_LO_FRAC, F.TBS_INC_HI_INT]
  omega

/-- Settles O9: a tick is the end of its cycle, the increments that are due, the count, and the counters of the dispatcher. -/
theorem tickAdvancesTime : Obligations.TickAdvancesTime := by
  refine ⟨?_, fun s => State.cycleEnd_eq_self, fun s => State.runIncs_of_none_due, fun s n i rest h hn hi hr =>
    ⟨State.runIncs_inc_of_first_due h hn hi hr, by rw [State.runIncs_of_first_due h hn hr]; rfl⟩⟩
  rintro s c rfl
  have ht := TimeOnly.tick s.cycleEnd
  have hnow := s.cycleEnd.runIncs_nowFix
  refine ⟨_, exec_timebaseTick s, ?_, ?_, ?_, fun hw => ?_, ?_, ?_, State.afterTick_time_of_none_due _, ht.1, ht.2⟩
  · rw [State.getF_afterTick (by decide), State.getF_counted (by decide), State.getF_setNow_frac, hnow]
  · rw [State.getF_afterTick (by decide), State.getF_counted (by decide), State.getF_setNow_ns, hnow]
  · rw [State.getF_afterTick (by decide), State.getF_counted (by decide), State.getF_setNow_wrap, hnow]
  · rw [State.getF_afterTick (by decide), State.getF_counted_wrapf (by rwa [hnow])]
  · rw [State.afterTick_time, State.ticked_ticks, State.counted_time, State.runIncs_ticks]
  · rw [State.afterTick_time, State.ticked_incSent, State.counted_time]

end Sys2Proof.Machine
end

section
/-! SUPPORT. Beacons (R15, R17) and the commands of the time registers (R16, R274, R275). -/

namespace Sys2Proof.Machine

variable {s : State}

/-! ### Beacons -/

/-- The tick that a beacon names is at least 128 ns ahead (R15). -/
theorem State.lead_covers (h : 0 < s.inc) : 128 * 4294967296 ≤ s.lead * s.inc := by
  have hq : 128 * 4294967296 < (128 * 4294967296 / s.inc + 1) * s.inc := Nat.lt_mul_of_div_lt (Nat.lt_succ_self _) h
  calc
    128 * 4294967296 ≤ (128 * 4294967296 / s.inc + 1) * s.inc := hq.le
    _ ≤ s.lead * s.inc := Nat.mul_le_mul_right _ (Nat.le_add_right _ _)

/-- With no increment on its way, time goes on by the one in force. -/
theorem State.projectFrom_of_none_sent (h : s.time.incSent = []) (v t₀ t : Nat) :
    s.projectFrom v t₀ t = v + (t - t₀) * s.inc := by
  simp [State.projectFrom, h]

theorem State.incFrom_of_none_sent (h : s.time.incSent = []) (t : Nat) : s.incFrom t = s.inc := by
  simp [State.incFrom, h]

/-- A beacon ahead of its tick is checked: it agrees and is off the way, or it is loaded and the island has slipped (R17). -/
theorem exec_beaconArrive_checked {isl : Nat} {b : Beacon} {rest : List Beacon}
    (h : takeFirst (fun b => b.isl == isl) s.time.beacons = some (b, rest)) (ht : s.time.ticks < b.tick) (hs : b.step = false) :
    exec (.beaconArrive isl) s =
      if s.copyAt isl b.tick = b.value then .next { s with time := { s.time with beacons := rest } }
      else .next ((({ s with time := { s.time with beacons := rest } } : State).loadAt isl b.tick b.value).timeSlip isl) := by
  change execBeaconArrive isl s = _
  simp [execBeaconArrive, h, hs, ht, ok]

/-- A STEP beacon is loaded unchecked (R279). -/
theorem exec_beaconArrive_step {isl : Nat} {b : Beacon} {rest : List Beacon}
    (h : takeFirst (fun b => b.isl == isl) s.time.beacons = some (b, rest)) (hs : b.step = true) :
    exec (.beaconArrive isl) s =
      .next (({ s with time := { s.time with beacons := rest } } : State).loadAt isl b.tick b.value) := by
  change execBeaconArrive isl s = _
  simp [execBeaconArrive, h, hs, ok]

/-- A slip of an island that no site uses: the registers name it, and the timebase's record stays. -/
theorem State.timeSlip_of_unused {isl : Nat} (h : sites.filter (fun x => s.usesIsland x isl) = []) (hi : isl < 32) :
    (s.timeSlip isl).getF F.TBS_STAT_TIME_SLIP 0 = 1 ∧ (s.timeSlip isl).getF F.TBS_SLIP_ISL 0 = isl ∧
      (s.timeSlip isl).time = s.time := by
  simp only [State.timeSlip, h, List.foldl_nil, State.raisePf]
  have hr {f : Fld} (hf : f.key 0 ∉ [F.HST_EVT_EVT.key 16, F.MSIX_PBA_PEND.key 16]) (t : State) :
      (t.raise 16 3).getF f 0 = t.getF f 0 := (t.raise_regs 16 3).getF hf
  refine ⟨?_, ?_, State.raise_time _ 16 3⟩
  · rw [hr (by decide), State.satF, State.getF_setF_other (by decide), State.getF_setF_other (by decide), State.getF_setF_same]
    rfl
  · rw [hr (by decide), State.satF, State.getF_setF_other (by decide), State.getF_setF_same]
    exact Nat.mod_eq_of_lt hi

theorem State.loadAt_of_ahead {isl t v : Nat} (h : s.time.ticks < t) :
    s.loadAt isl t v = { s with time := { s.time with loads := s.time.loads ++ [(isl, t, v)] } } :=
  if_pos h

/-- Settles O10: the lead covers 128 ns at the increment in force, and a slip of an island without sites writes its own registers and
PF0's event alone. -/
theorem beaconsLeadAndAreChecked : Obligations.BeaconsLeadAndAreChecked := by
  refine ⟨fun s hs => ⟨_, rfl, rfl, rfl, rfl, s.time.ticks + s.lead, _, _, ?_, rfl, ?_, ?_⟩, fun s isl b rest h =>
    ⟨exec_beaconArrive_step h, fun hs ht e => ?_, fun hs ht e hu hi => ?_⟩⟩
  · rw [Nat.add_sub_cancel_left]
    exact State.lead_covers hs
  · intro n hn
    simp [hn]
  · intro hn
    exact ⟨State.projectFrom_of_none_sent hn _ _ _, by rw [State.incFrom_of_none_sent hn]⟩
  · rw [exec_beaconArrive_checked h ht hs, if_pos e]
  · rw [exec_beaconArrive_checked h ht hs, if_neg e, State.loadAt_of_ahead (s := { s with time := { s.time with beacons := rest } }) ht]
    obtain ⟨hslip, hisl, htime⟩ := State.timeSlip_of_unused (s := { s with time := { s.time with
      beacons := rest, loads := s.time.loads ++ [(isl, b.tick, b.value)] } }) hu hi
    exact ⟨_, rfl, hslip, hisl, by rw [htime], by rw [htime]⟩

/-! ### The commands of the time registers -/

theorem exec_incApply (s : State) : exec .incApply s = .next s.runIncs := rfl

theorem exec_tbsSnap {fn : Fn} (h : fn = .pf0 ∨ s.vfLive fn = true) :
    exec (.tbsSnap fn) s = .next (s.setFs (fnIx fn) [(F.TBS_SNS_NS, s.getF F.TBS_NS_NS 0),
      (F.TBS_SFRAC_FRAC, s.getF F.TBS_FRAC_FRAC 0), (F.TBS_SWRAP_WRAP, s.getF F.TBS_WRAPCNT_WRAP 0)]) := by
  change execTbsSnap fn s = _
  simp [execTbsSnap, h, ok]

theorem exec_tbsSet_pf0 (s : State) :
    exec (.tbsSet .pf0) s = if s.flag F.TBS_STAT_ROOT 0 = true ∧ s.anyRun = false then
      .next (s.stepTime ((s.getF F.TBS_WRAPCNT_WRAP 0 * 4294967296 + s.getF F.TBS_SETNS_NS 0) * 4294967296)) else .next s := by
  change execTbsSet .pf0 s = _
  simp [execTbsSet, ok]

/-- A step of the time within the wraps counted so far writes the count and STEPPED, and marks the next beacon (R275, R279). -/
theorem State.stepTime_of_not_wrapped {v : Nat} (h : v / 18446744073709551616 ≤ s.nowFix / 18446744073709551616) :
    ∃ m, s.stepTime v = (({ s with time := { s.time with copyOff := m, stepPend := true } } : State).setNow v).setF
      F.TBS_STAT_STEPPED 0 1 := by
  simp only [State.stepTime, if_neg (Nat.not_lt.2 h)]
  exact ⟨_, rfl⟩

/-- Such a step changes nothing outside the timebase. -/
theorem State.stepTime_timeOnly {v : Nat} (h : v / 18446744073709551616 ≤ s.nowFix / 18446744073709551616) :
    TimeOnly (keysAt 0 [F.TBS_FRAC_FRAC, F.TBS_NS_NS, F.TBS_WRAPCNT_WRAP, F.TBS_STAT_STEPPED]) s (s.stepTime v) := by
  obtain ⟨m, hm⟩ := State.stepTime_of_not_wrapped h
  rw [hm]
  exact ((TimeOnly.refl _ s).setTime.setNow (by simp [keysAt]) (by simp [keysAt]) (by simp [keysAt])).setF (by simp [keysAt])

/-- SET takes its nanoseconds within the wraps counted (R275). -/
theorem State.setns_wraps (h : s.getF F.TBS_SETNS_NS 0 < 4294967296) :
    (s.getF F.TBS_WRAPCNT_WRAP 0 * 4294967296 + s.getF F.TBS_SETNS_NS 0) * 4294967296 / 18446744073709551616 ≤
      s.nowFix / 18446744073709551616 := by
  unfold State.nowFix
  omega

/-- Settles O11: INC_APPLY is the taking of due increments, SNAP three register writes, and SET a step within the wraps counted. -/
theorem timeRegisterCommands : Obligations.TimeRegisterCommands := by
  refine ⟨fun s n i rest h hn hr => ?_, fun s h => ?_, fun s fn h => ?_, fun s hroot hrun hns => ?_, fun s hrun => ?_⟩
  · have ht : TimeOnly (keysAt 0 [F.TBS_INC_LO_FRAC, F.TBS_INC_HI_INT]) s s.runIncs :=
      (TimeOnly.refl _ s).runIncs (by simp [keysAt]) (by simp [keysAt])
    have he := State.runIncs_of_first_due h hn hr
    refine ⟨_, exec_incApply s, ?_, ?_, ?_, ht.1, ht.2⟩
    · rw [he, State.getF_setF_other (by decide), State.getF_setF_same]
      norm_num [F.TBS_INC_LO_FRAC]
    · rw [he, State.getF_setF_same]
      norm_num [F.TBS_INC_HI_INT]
    · rw [he]
      rfl
  · rw [exec_incApply, State.runIncs_of_none_due h]
  · refine ⟨_, exec_tbsSnap h, ?_, ?_, ?_, (RegsOnly.refl _ s).setFs (by simp [keysAt])⟩ <;>
      simp only [State.setFs, List.foldl_cons, List.foldl_nil]
    · rw [State.getF_setF_other (Fld.key_ne_same (by decide)), State.getF_setF_other (Fld.key_ne_same (by decide)),
        State.getF_setF_same]
      norm_num [F.TBS_SNS_NS]
    · rw [State.getF_setF_other (Fld.key_ne_same (by decide)), State.getF_setF_same]
      norm_num [F.TBS_SFRAC_FRAC]
    · rw [State.getF_setF_same]
      norm_num [F.TBS_SWRAP_WRAP]
  · obtain ⟨m, hm⟩ := State.stepTime_of_not_wrapped (State.setns_wraps hns)
    have ht := State.stepTime_timeOnly (State.setns_wraps hns)
    refine ⟨_, (exec_tbsSet_pf0 s).trans (if_pos ⟨hroot, hrun⟩), ?_, ?_, ?_, ?_, ht.1, ht.2⟩ <;> rw [hm]
    · rw [State.getF_setF_other (by decide), State.getF_setNow_ns]
      omega
    · rw [State.getF_setF_other (by decide), State.getF_setNow_frac]
      omega
    · rw [State.getF_setF_same]
      rfl
    · simp
  · rw [exec_tbsSet_pf0, if_neg (by simp [hrun])]

end Sys2Proof.Machine
end

section
/-! SUPPORT. Timed requests and their late rules (R18, R156). -/

namespace Sys2Proof.Machine

variable {s t u : State}

/-- A request that is held 16 ns before its target is armed (R18). -/
theorem exec_timedRequestArrive_inTime {isl : Nat} {r : TimedReq} (h : s.reqArrive r = some u)
    (ht : u.localNow isl + Time.ofNs 16 ≤ reqTarget r) : exec (.timedRequestArrive isl r) s = .next (u.armReq isl r) := by
  change execTimedRequestArrive isl r s = _
  simp [execTimedRequestArrive, h, State.inTime, ht, ok]

/-- A later one follows the late rule of its function (R18). -/
theorem exec_timedRequestArrive_late {isl : Nat} {r : TimedReq} (h : s.reqArrive r = some u)
    (ht : reqTarget r < u.localNow isl + Time.ofNs 16) : exec (.timedRequestArrive isl r) s = .next (u.lateReq r) := by
  change execTimedRequestArrive isl r s = _
  simp [execTimedRequestArrive, h, State.inTime, Nat.not_le.2 ht, ok]

theorem exec_timedRequestArrive_none {isl : Nat} {r : TimedReq} (h : s.reqArrive r = none) :
    exec (.timedRequestArrive isl r) s = .next s := by
  change execTimedRequestArrive isl r s = _
  simp only [execTimedRequestArrive, h, ok]

/-- The earliest armed request leaves the list and acts. -/
theorem exec_timedAction {isl : Nat} {r : TimedReq} {rest : List (Nat × TimedReq)}
    (h : firstArmed isl s.time.armed = some (r, rest)) :
    exec (.timedAction isl) s = .next (({ s with time := { s.time with armed := rest } } : State).timedAct r) := by
  change execTimedAction isl s = _
  simp only [execTimedAction, h, ok]

/-! ### An octet alone -/

theorem OctOnly.refl (o : Nat) (w : List Nat) (s : State) : OctOnly o w s s := ⟨rfl, RegsBut.refl w s, fun _ _ => rfl⟩

theorem OctOnly.modWave {o : Nat} {w : List Nat} (h : OctOnly o w s t) {f : WaveSt → WaveSt} :
    OctOnly o w s (t.modWave o f) :=
  ⟨h.1, h.2.1, fun k hk => (State.octSt_modOct_other hk).trans (h.2.2 k hk)⟩

theorem OctOnly.setF {o : Nat} {w : List Nat} (h : OctOnly o w s t) {f : Fld} {i v : Nat} (hk : f.key i ∈ w) :
    OctOnly o w s (t.setF f i v) :=
  ⟨h.1, h.2.1.setF hk, h.2.2⟩

theorem State.octSt_modWave_wave (s : State) (o : Nat) (f : WaveSt → WaveSt) :
    ((s.modWave o f).octSt o).wave = f (s.octSt o).wave := by
  rw [State.modWave, State.octSt_modOct_same]

theorem State.chanOf_modAcq_acq (s : State) (c : Nat) (f : AcqSt → AcqSt) :
    ((s.modAcq c f).chanOf c).acq = f (s.chanOf c).acq := by
  rw [State.modAcq, State.chanOf_modChan_same]

/-! ### What armed requests do -/

/-- A segment start that sends no flash code pulses the trigger outputs of the octet's owner (R108, R156). -/
theorem State.timedAct_segStart {o : Fin 8} {trg flash x : Nat} {tm : Time} (ho : s.octOwner o.val = some x)
    (hf : flash % 16 = 0) : s.timedAct (.segStart o trg flash tm) = s.pulses x trg (Time.ofQ (Time.toQ tm)) := by
  simp only [State.timedAct, ho, hf, if_true]

theorem State.timedAct_acqTrig {c : Fin 64} {tm : Time} (h : s.getF F.ACQ_CFG_TSRC c.val = 3) :
    s.timedAct (.acqTrig c tm) = s.acqTrigger c.val tm :=
  if_pos h

/-- A trigger ahead of every sample taken waits for its reference (R215). -/
theorem State.acqTrigger_of_none_taken {c : Nat} {tm : Time} (h : ((s.chanOf c).acq.taken tm).isEmpty = true) :
    s.acqTrigger c tm = s.modAcq c (fun q => { q with events := q.events ++ [tm] }) :=
  if_pos h

/-! ### A segment start (R156) -/

theorem State.octSt_lateReq_segStart (s : State) (o : Fin 8) (trg flash k : Nat) (tm : Time) :
    (s.lateReq (.segStart o trg flash tm)).octSt k = s.octSt k := rfl

/-- With no request that waits for its segment to become known, the wave generator stays as it was. -/
theorem State.askResolve_wave {o : Nat} (h : (s.octSt o).wave.asked = []) :
    ((s.askResolve o).octSt o).wave = (s.octSt o).wave := by
  rw [State.askResolve, State.modWave, State.octSt_modOct_same]
  simp only [h, List.map_nil, List.filter_nil, List.append_nil]
  rw [← h]

/-- The one request that an octet has sent is no longer on its way when it arrives. -/
theorem State.segArrive_of_sent {o trg flash : Nat} {tm : Time} (hs : (s.octSt o).wave.sent = [(trg, flash, some tm)])
    (ha : (s.octSt o).wave.asked = []) (hn : trg + flash ≠ 0) :
    s.segArrive o trg flash tm = some ((s.askResolve o).modWave o (fun w => { w with sent := [] })) := by
  have h1 : sentOne trg flash tm (trg, flash, some tm) = true := by
    have h0 : trg ≠ 0 ∨ flash ≠ 0 := by omega
    simpa [sentOne] using h0
  simp [State.segArrive, State.askResolve_wave ha, hs, takeFirst, h1]

/-- Settles O13: a request that has left its sender is armed or late, and an armed one leaves the list as it acts. -/
theorem timedRequestArmsOrFallsLate : Obligations.TimedRequestArmsOrFallsLate := by
  refine ⟨fun s u isl r h ht => exec_timedRequestArrive_inTime h ht, fun s isl r h => exec_timedRequestArrive_none h,
    fun s isl c tm ht => exec_timedRequestArrive_inTime rfl ht,
    fun s isl c tm ht =>
      ⟨_, exec_timedRequestArrive_late rfl ht, State.getF_setF_same .., (RegsOnly.refl _ s).setF (by simp)⟩,
    fun s isl o trg flash tm hs ha hn ht => ?_, fun s isl o trg flash x tm rest h ho hf => ?_,
    fun s isl c tm rest h hc => ?_⟩
  · refine ⟨_, exec_timedRequestArrive_late (State.segArrive_of_sent hs ha hn) ht, ?_, ?_, ?_, ?_⟩
    · rw [State.lateReq, State.incF, State.addF, State.getF_setF_other (Fld.key_ne_same (by decide)), State.getF_setF_same]
      rfl
    · rw [State.lateReq, State.incF, State.addF, State.getF_setF_same, State.getF_setF_other (Fld.key_ne_same (by decide))]
      rfl
    · rw [State.octSt_lateReq_segStart, State.octSt_modWave_wave, State.askResolve_wave ha]
    · exact ((OctOnly.refl _ _ s).modWave.modWave.setF (by simp [keysAt])).setF (by simp [keysAt])
  · exact (exec_timedAction h).trans (congrArg Host.Outcome.next (State.timedAct_segStart ho hf))
  · have hact := (exec_timedAction h).trans (congrArg Host.Outcome.next (State.timedAct_acqTrig hc))
    refine ⟨fun he => ⟨_, hact.trans (congrArg Host.Outcome.next (State.acqTrigger_of_none_taken he)), ?_, rfl⟩, hact⟩
    exact State.chanOf_modAcq_acq _ _ _

end Sys2Proof.Machine
end

section
/-! SUPPORT. What the capture of a channel's units leaves alone (R187 to R197), and which updates touch no channel and no memory. -/

namespace Sys2Proof.Machine

variable {w : List Nat} {c : Nat} {s t u : State}

/-! ### Indexes of a channel -/

theorem chIx_eq (c : Nat) : chIx c = c := Nat.div_add_mod' c 8

theorem lnIx_eq (c : Nat) : lnIx c = c := Nat.div_add_mod' c 8

/-! ### The units of a channel and the capture of sites -/

/-- Between `s` and `t` nothing changes but the register fields whose keys are in `w`, the sites, and channel `c`, which keeps its vectors
and its acquisition. -/
structure CaptureOnly (w : List Nat) (c : Nat) (s t : State) : Prop where
  frame : { t with reg := s.reg, chan := s.chan, site := s.site } = s
  regs : RegsBut w s t
  chans : ∀ k, k ≠ c → t.chanOf k = s.chanOf k
  vects : (t.chanOf c).vects = (s.chanOf c).vects
  acq : (t.chanOf c).acq = (s.chanOf c).acq

theorem CaptureOnly.refl : CaptureOnly w c s s :=
  ⟨rfl, RegsBut.refl w s, fun _ _ => rfl, rfl, rfl⟩

theorem CaptureOnly.ite {p : Prop} [Decidable p] (ht : CaptureOnly w c s t) (hu : CaptureOnly w c s u) :
    CaptureOnly w c s (if p then t else u) := by
  split
  · exact ht
  · exact hu

theorem CaptureOnly.foldl {α : Type} {l : List α} {f : State → α → State} (h : CaptureOnly w c s t)
    (hf : ∀ {a x}, CaptureOnly w c s a → CaptureOnly w c s (f a x)) : CaptureOnly w c s (l.foldl f t) :=
  List.foldlRecOn (motive := CaptureOnly w c s) l f h fun _ ha _ _ => hf ha

theorem CaptureOnly.setF (h : CaptureOnly w c s t) {f : Fld} {i v : Nat} (hk : f.key i ∈ w) : CaptureOnly w c s (t.setF f i v) :=
  ⟨h.frame, h.regs.setF hk, h.chans, h.vects, h.acq⟩

theorem CaptureOnly.modSite (h : CaptureOnly w c s t) {x : Nat} {f : SiteSt → SiteSt} : CaptureOnly w c s (t.modSite x f) :=
  ⟨h.frame, h.regs, h.chans, h.vects, h.acq⟩

theorem CaptureOnly.modCap (h : CaptureOnly w c s t) {x : Nat} {f : CapSt → CapSt} : CaptureOnly w c s (t.modCap x f) :=
  h.modSite

/-- A change of the channel that keeps its vectors and its acquisition. -/
theorem CaptureOnly.modChan (h : CaptureOnly w c s t) {f : ChanSt → ChanSt}
    (hv : ∀ k, (f k).vects = k.vects := by intro; rfl) (ha : ∀ k, (f k).acq = k.acq := by intro; rfl) :
    CaptureOnly w c s (t.modChan c f) where
  frame := h.frame
  regs := h.regs
  chans k hk := (State.chanOf_modChan_other hk).trans (h.chans k hk)
  vects := by rw [State.chanOf_modChan_same, hv, h.vects]
  acq := by rw [State.chanOf_modChan_same, ha, h.acq]

theorem CaptureOnly.modLane (h : CaptureOnly w c s t) {f : LaneSt → LaneSt} : CaptureOnly w c s (t.modLane c f) :=
  h.modChan

theorem CaptureOnly.chargeCand (h : CaptureOnly w c s t) {x : Nat} {d : Cand} : CaptureOnly w c s (t.chargeCand x d) :=
  h.ite (h.modCap.ite (h.modCap.ite h.modCap))

theorem CaptureOnly.offerCand (h : CaptureOnly w c s t) {x : Nat} {a b : Time} {d : Cand} :
    CaptureOnly w c s (t.offerCand x a b d) := by
  unfold State.offerCand
  extract_lets
  refine h.chargeCand.ite ?_
  split
  · exact h.chargeCand
  · exact h.modCap.ite h

theorem CaptureOnly.unitTo (h : CaptureOnly w c s t) {d src : Nat} {k : UnitSt} {a : Time} {only : List Bool} :
    CaptureOnly w c s (t.unitTo d src k a only) := by
  unfold State.unitTo
  split
  · exact h
  · exact h.foldl (fun ha => ha.offerCand.ite ha)

theorem CaptureOnly.unitDone (h : CaptureOnly w c s t) {src : Nat} {k : UnitSt} {a : Time} :
    CaptureOnly w c s (t.unitDone c src k a) := by
  unfold State.unitDone
  extract_lets _ s1
  have h1 : CaptureOnly w c s s1 := h.unitTo
  exact h.unitTo.ite (h1.modChan.ite h1)

theorem CaptureOnly.lateUnits (h : CaptureOnly w c s t) : CaptureOnly w c s (t.lateUnits c) :=
  h.modChan.foldl (fun ha => ha.unitTo.ite ha)

/-- A fail that is counted offers its candidates (R187, R193). -/
theorem CaptureOnly.failAt {a : Time} {f : FailInfo} (h : CaptureOnly w c s (t.countFail c f)) :
    CaptureOnly w c s (t.failAt c a f) := by
  unfold State.failAt
  extract_lets s1
  have h1 : CaptureOnly w c s s1 := h.modChan
  split
  · exact h1
  · refine h1.foldl fun ha => .ite ?_ ha
    exact ha.modCap.offerCand.ite ha.modCap

theorem CaptureOnly.sameMems (h : CaptureOnly w c s t) : s.sameMems t := by
  have hm {α : Type} (g : State → α) : g { t with reg := s.reg, chan := s.chan, site := s.site } = g s := congrArg g h.frame
  exact ⟨hm State.bb, hm State.acqMem, hm State.dram, hm State.nvm, hm State.psbuf, hm State.cstore, hm State.mirror,
    hm State.tstore⟩

theorem CaptureOnly.engOf (h : CaptureOnly w c s t) (e : Nat) : t.engOf e = s.engOf e := by
  have he : { t with reg := s.reg, chan := s.chan, site := s.site }.eng = s.eng := congrArg State.eng h.frame
  exact congrArg (Tbl.get (fun _ => {}) · e) he

/-- With no unit that waits, looking at those that wait changes nothing outside the channels (R193). -/
theorem State.lateUnits_of_none_late (h : (s.chanOf c).late = []) : { s.lateUnits c with chan := s.chan } = s := by
  rw [State.lateUnits, h]
  rfl

/-! ### Channels and memories kept -/

/-- Every channel and every memory is the same in both states. -/
def ChansKept (s t : State) : Prop := t.chan = s.chan ∧ s.sameMems t

theorem State.sameMems.refl (s : State) : s.sameMems s := ⟨rfl, rfl, rfl, rfl, rfl, rfl, rfl, rfl⟩

theorem State.sameMems.trans (h : s.sameMems t) (g : t.sameMems u) : s.sameMems u := by
  obtain ⟨h1, h2, h3, h4, h5, h6, h7, h8⟩ := h
  obtain ⟨g1, g2, g3, g4, g5, g6, g7, g8⟩ := g
  exact ⟨g1.trans h1, g2.trans h2, g3.trans h3, g4.trans h4, g5.trans h5, g6.trans h6, g7.trans h7, g8.trans h8⟩

theorem ChansKept.refl (s : State) : ChansKept s s := ⟨rfl, .refl s⟩

theorem ChansKept.chanOf (h : ChansKept s t) (k : Nat) : t.chanOf k = s.chanOf k := by
  rw [State.chanOf, h.1, State.chanOf]

theorem ChansKept.ite {p : Prop} [Decidable p] (ht : ChansKept s t) (hu : ChansKept s u) : ChansKept s (if p then t else u) := by
  split
  · exact ht
  · exact hu

theorem ChansKept.foldl {α : Type} {l : List α} {f : State → α → State} (h : ChansKept s t)
    (hf : ∀ {a x}, ChansKept s a → ChansKept s (f a x)) : ChansKept s (l.foldl f t) :=
  List.foldlRecOn (motive := ChansKept s) l f h fun _ ha _ _ => hf ha

theorem ChansKept.setF (h : ChansKept s t) {f : Fld} {i v : Nat} : ChansKept s (t.setF f i v) := h

theorem ChansKept.setFs (h : ChansKept s t) {i : Nat} {l : List (Fld × Nat)} : ChansKept s (t.setFs i l) :=
  h.foldl (·.setF)

theorem ChansKept.putOut (h : ChansKept s t) {l : List Out} : ChansKept s { t with out := l } := h

theorem ChansKept.setEng (h : ChansKept s t) {e : Nat} {g : EngSt} : ChansKept s (t.setEng e g) := h

theorem ChansKept.modSite (h : ChansKept s t) {x : Nat} {f : SiteSt → SiteSt} : ChansKept s (t.modSite x f) := h

theorem ChansKept.modPort (h : ChansKept s t) {k : Nat} {f : PortSt → PortSt} : ChansKept s (t.modPort k f) := h

theorem ChansKept.sendFlash (h : ChansKept s t) {copy : Bool} {k v : Nat} : ChansKept s (t.sendFlash copy k v) :=
  ChansKept.ite (s := s) h h

theorem ChansKept.flashPass (h : ChansKept s t) {inp p v : Nat} : ChansKept s (t.flashPass inp p v) :=
  (h.foldl (·.putOut.modPort)).modPort.foldl (·.modPort.sendFlash)

theorem ChansKept.flashOn (h : ChansKept s t) {src : Option Nat} {k v : Nat} : ChansKept s (t.flashOn src k v) := by
  unfold State.flashOn
  split
  · refine .ite ?_ h
    split
    · exact h.flashPass
    · exact h.sendFlash
  · exact h

theorem ChansKept.flashTree (h : ChansKept s t) {src : Option Nat} {v : Nat} : ChansKept s (t.flashTree src v) :=
  h.foldl (·.flashOn)

theorem ChansKept.awakeCheck (h : ChansKept s t) : ChansKept s t.awakeCheck :=
  h.setF.ite h

theorem ChansKept.wakeTones (h : ChansKept s t) : ChansKept s t.wakeTones :=
  (h.foldl fun ha => ha.putOut.setF.ite ha).awakeCheck

theorem ChansKept.holdWake (h : ChansKept s t) : ChansKept s t.holdWake := ChansKept.ite (s := s) h h

theorem ChansKept.cancelSleep (h : ChansKept s t) : ChansKept s t.cancelSleep :=
  h.flashTree (src := none)

theorem ChansKept.wakeRequest (h : ChansKept s t) : ChansKept s t.wakeRequest := by
  unfold State.wakeRequest
  refine h.wakeTones.ite (.ite ?_ (h.holdWake.ite h))
  split
  · exact h.cancelSleep.ite h.holdWake
  · exact h

theorem ChansKept.flashSend (h : ChansKept s t) {v : Nat} : ChansKept s (t.flashSend v) :=
  h.flashTree.wakeRequest.ite h.flashTree

theorem ChansKept.siteFlash (h : ChansKept s t) {x ftype code tag : Nat} : ChansKept s (t.siteFlash x ftype code tag) :=
  h.modSite.flashSend.ite h

theorem ChansKept.passFlash (h : ChansKept s t) {x : Nat} {arms : Bool} {l : List CmpArrive} :
    ChansKept s (t.passFlash x arms l) := by
  unfold State.passFlash
  refine .ite (h.foldl fun ha => ?_) h
  split
  · exact ha.siteFlash
  · exact ha

theorem ChansKept.cmpDone (h : ChansKept s t) {e wid : Nat} {vec : Bool} {r : Option Bool} {a : Time} :
    ChansKept s (t.cmpDone e wid vec r a) := by
  unfold State.cmpDone
  extract_lets
  split
  · exact h.setEng.passFlash
  · split
    · split
      · exact h.setEng.passFlash
      · exact h
    · exact h

theorem ChansKept.countFail (h : ChansKept s t) {f : FailInfo} : ChansKept s (t.countFail c f) :=
  ChansKept.ite h.setF h.setF.setFs

theorem ChansKept.vstat (h : ChansKept s t) {f : Nat → State → State} (hf : ∀ {j a}, ChansKept s a → ChansKept s (f j a)) :
    ChansKept s (t.vstat c f) := by
  unfold State.vstat
  extract_lets s1
  have h1 : ChansKept s s1 := hf h
  split
  · exact hf h1
  · exact h1

end Sys2Proof.Machine
end

section
/-! SUPPORT. Strobes, compares and the arrival of their results (R66 to R68, R94, R125, R126). -/

namespace Sys2Proof.Machine

variable {s : State} {c : Nat} {v : Vect} {rest : List Vect}

/-! ### The vectors of a channel -/

/-- The channel with other vectors. -/
def State.putVects (s : State) (c : Nat) (l : List Vect) : State := s.setChan c { s.chanOf c with vects := l }

theorem State.chanOf_putVects_same (s : State) (c : Nat) (l : List Vect) :
    (s.putVects c l).chanOf c = { s.chanOf c with vects := l } :=
  State.chanOf_setChan_same ..

theorem State.chanOf_putVects_other {k : Nat} (h : k ≠ c) (l : List Vect) : (s.putVects c l).chanOf k = s.chanOf k :=
  Tbl.get_set_other h

theorem State.retireVects_of_head_undone (h : ∀ v, (s.chanOf c).vects.head? = some v → v.done = false) (n : Nat) :
    s.retireVects c n = s := by
  cases n with
  | zero => rfl
  | succ n =>
    unfold State.retireVects
    cases hv : (s.chanOf c).vects with
    | nil => rfl
    | cons v rest => simp [h v (by rw [hv]; rfl)]

theorem State.retireAll_of_head_undone (h : ∀ v, (s.chanOf c).vects.head? = some v → v.done = false) :
    s.retireAll c = s.lateUnits c := by
  rw [State.retireAll, State.retireVects_of_head_undone h]

/-- A judged vector leaves the head, and those behind it stay when the next is not judged yet: the channel has the others, and its units
and their capture move on (R192). -/
theorem State.retireAll_of_head_done (hv : (s.chanOf c).vects = v :: rest) (hd : v.done = true)
    (hr : ∀ w, rest.head? = some w → w.done = false) :
    ∃ g : ChanSt → ChanSt, (∀ k, (g k).vects = rest) ∧ CaptureOnly [] c (s.modChan c g) (s.retireAll c) := by
  simp -zeta only [State.retireAll, hv, List.length_cons, State.retireVects, hd, if_true]
  extract_lets u s1 s2
  have h2 : CaptureOnly [] c s1 s2 := by
    unfold s2
    split
    · exact CaptureOnly.refl.unitDone
    · exact .refl
  have hv1 : (s1.chanOf c).vects = rest := by
    unfold s1
    rw [State.chanOf_modChan_same]
  rw [State.retireVects_of_head_undone (by rwa [h2.vects, hv1])]
  exact ⟨_, fun _ => rfl, h2.lateUnits⟩

/-! ### Strobes (R66) -/

/-- The vector with its SA (`a`) or SB strobe taken at level `l`. -/
def Vect.taken (v : Vect) (a l : Bool) : Vect :=
  if a then { v with saDone := true, saLvl := l } else { v with sbDone := true, sbLvl := l }

/-- A strobe that is taken while the judgement of its vector is still to come: of the channel only the units that wait move on. -/
theorem exec_strobe_taken {c : Fin 64} {u : Time} {a : Bool} (hv : (s.chanOf c.val).vects = v :: rest) (hd : v.done = false)
    (hn : nextStrobe (v :: rest) = some (u, 0, a)) (ho : (if a then v.saOk else v.sbOk) = true)
    (hx : (if a then v.sbDone else v.saDone) = false ∨ v.expect ≠ 0) :
    exec (.strobe c) s = .next ((s.putVects c.val (v.taken a (s.chanOf c.val).comp :: rest)).lateUnits c.val) := by
  have hj : ((if a then v.sbDone else v.saDone) && v.expect == 0) = false := by simpa [or_iff_not_imp_left] using hx
  rw [← State.retireAll_of_head_undone (by cases a <;> simp [State.chanOf_putVects_same, Vect.taken, hd])]
  change execStrobe c s = _
  cases a with
  | true =>
    simp only [if_true] at ho hj
    simp [execStrobe, Vect.taken, hv, hn, ho, hd, hj, ok, State.putVects]
  | false =>
    simp only [Bool.false_eq_true, if_false] at ho hj
    simp [execStrobe, Vect.taken, hv, hn, ho, hd, hj, ok, State.putVects]

/-- A copy of OCT_VSTAT shows a skipped strobe, and counts it (R84). -/
def State.noteSkip (j : Nat) (s : State) : State := (s.setF F.OCT_VSTAT_STRB_SKIP j 1).incF F.OCT_SSCNT_SSCNT j

theorem ChansKept.noteSkip {t : State} (h : ChansKept s t) {j : Nat} : ChansKept s (t.noteSkip j) := h

/-- A strobe of the head vector, which needs it, is skipped: the vector counts as X, for the engine and in OCT_VSTAT. -/
def State.skipped (s : State) (c : Nat) (v : Vect) (rest : List Vect) : State :=
  ((s.putVects c ({ v with saDone := true, saLvl := false, expect := 0 } :: rest)).cmpDone v.eng v.wid true none v.sb).vstat c
    State.noteSkip

theorem State.chanOf_skipped (s : State) (c : Nat) (v : Vect) (rest : List Vect) (k : Nat) :
    (s.skipped c v rest).chanOf k = (s.putVects c ({ v with saDone := true, saLvl := false, expect := 0 } :: rest)).chanOf k :=
  ((ChansKept.refl _).cmpDone.vstat (·.noteSkip)).chanOf k

theorem exec_strobe_skip {c : Fin 64} {u : Time} (hv : (s.chanOf c.val).vects = v :: rest) (hd : v.done = false)
    (hn : nextStrobe (v :: rest) = some (u, 0, true)) (ho : v.saOk = false) (hb : v.sbDone = false) (hx : v.expect ≠ 0) :
    exec (.strobe c) s = .next ((s.skipped c.val v rest).lateUnits c.val) := by
  rw [← State.retireAll_of_head_undone (by simp [State.chanOf_skipped, State.chanOf_putVects_same, hd])]
  change execStrobe c s = _
  simp [execStrobe, hv, hn, ho, hd, hb, hx, ok, Vect.needs, State.skipped, State.putVects]
  rfl

theorem State.getF_noteSkip_same (s : State) (j : Nat) : (s.noteSkip j).getF F.OCT_VSTAT_STRB_SKIP j = 1 := by
  rw [State.noteSkip, State.incF, State.addF, State.getF_setF_other (Fld.key_ne_same (by decide)), State.getF_setF_same]
  rfl

/-- What one copy shows stays when another copy is written. -/
theorem State.getF_noteSkip_of_eq_one {j k : Nat} (h : s.getF F.OCT_VSTAT_STRB_SKIP k = 1) (hj : j < 1048576)
    (hk : k < 1048576) : (s.noteSkip j).getF F.OCT_VSTAT_STRB_SKIP k = 1 := by
  by_cases e : k = j
  · exact e ▸ s.getF_noteSkip_same j
  · rw [State.noteSkip, State.incF, State.addF, State.getF_setF_other (Fld.key_ne (by decide) hk hj),
      State.getF_setF_other (Fld.key_ne_index e), h]

theorem State.owner_lt {x : Nat} (h : s.owner c = some x) : x < 16 :=
  List.mem_range.1 (List.mem_of_find?_eq_some h)

/-- PF0's copy shows the skip, whichever site owns the channel. -/
theorem State.getF_vstat_noteSkip (s : State) (hc : c < 64) :
    (s.vstat c State.noteSkip).getF F.OCT_VSTAT_STRB_SKIP (fnOct (octOf c) 16) = 1 := by
  have ho : octOf c < 8 := by
    unfold octOf
    omega
  have h16 := s.getF_noteSkip_same (fnOct (octOf c) 16)
  unfold State.vstat
  split
  next x hx =>
    have hx := State.owner_lt hx
    exact State.getF_noteSkip_of_eq_one h16 (by unfold fnOct; omega) (by unfold fnOct; omega)
  · exact h16

/-! ### The compare (R68, R187) -/

/-- Does the judgement of a vector count as X: in safe state, in another personality, or in the 24 ns of R31? -/
def State.countsX (s : State) (c : Nat) (v : Vect) : Bool :=
  s.chanSafe c || s.pers (octOf c) != 0 || s.inPersIdle (octOf c) v.start

/-- What the fail of a vector says (R196). -/
def Vect.failInfo (v : Vect) : FailInfo :=
  { kind := 0, idx := v.idx, beat := v.beat, w5 := v.expect * 4 + v.act * 16 + v.drive * 64 + b2n v.smode * 256 }

/-- The head vector of a channel is judged: it is done, and a fail is counted and offered. -/
def State.judged (s : State) (c : Nat) (v : Vect) (rest : List Vect) (bad : Bool) : State :=
  if bad then (s.putVects c ({ v with done := true, failed := bad } :: rest)).failAt c v.sb v.failInfo
  else s.putVects c ({ v with done := true, failed := bad } :: rest)

/-- Does the head vector of a channel fail (R67, R68)? -/
def State.headFails (s : State) (c : Nat) (v : Vect) : Bool := !s.countsX c v && v.fails

/-- The head vector of a channel is judged, for the channel and for the engine. -/
def State.compared (s : State) (c : Nat) (v : Vect) (rest : List Vect) : State :=
  (s.judged c v rest (s.headFails c v)).cmpDone v.eng v.wid true (if s.countsX c v then none else some (s.headFails c v)) v.sb

theorem exec_compareComplete_head {c : Fin 64} (hv : (s.chanOf c.val).vects = v :: rest) (ha : v.saDone = true)
    (hb : v.sbDone = true) (hd : v.done = false) :
    exec (.compareComplete c) s = .next ((s.compared c.val v rest).retireAll c.val) := by
  have hi : (v :: rest).findIdx? (fun v => v.saDone && v.sbDone && !v.done) = some 0 := by
    simp [List.findIdx?_cons, ha, hb, hd]
  change execCompareComplete c s = _
  simp only [execCompareComplete, hv, hi, List.getElem?_cons_zero, List.set_cons_zero]
  rfl

/-- From the counted fail on, a fail only offers candidates. -/
theorem State.judged_captureOnly (s : State) (c : Nat) (v : Vect) (rest : List Vect) :
    CaptureOnly [] c ((s.putVects c ({ v with done := true, failed := true } :: rest)).countFail c v.failInfo)
      (s.judged c v rest true) :=
  CaptureOnly.refl.failAt

theorem State.vects_judged (s : State) (c : Nat) (v : Vect) (rest : List Vect) (bad : Bool) :
    ((s.judged c v rest bad).chanOf c).vects = { v with done := true, failed := bad } :: rest := by
  cases bad with
  | false => simp [State.judged, State.chanOf_putVects_same]
  | true => rw [(s.judged_captureOnly c v rest).vects, (ChansKept.refl _).countFail.chanOf, State.chanOf_putVects_same]

theorem State.judged_sameMems (s : State) (c : Nat) (v : Vect) (rest : List Vect) (bad : Bool) :
    s.sameMems (s.judged c v rest bad) := by
  cases bad with
  | false => exact .refl s
  | true => exact (ChansKept.refl (s.putVects c _)).countFail.2.trans (s.judged_captureOnly c v rest).sameMems

theorem State.engOf_judged (s : State) (c : Nat) (v : Vect) (rest : List Vect) (e : Nat) :
    (s.judged c v rest true).engOf e = s.engOf e := by
  rw [(s.judged_captureOnly c v rest).engOf]
  unfold State.countFail
  extract_lets
  split <;> rfl

/-- Without an arming of ARMS and a suspended burst a judgement changes the engine alone. -/
theorem State.getF_cmpDone_of_unarmed {e wid : Nat} (hm : (s.engOf e).mat.arms = false) (hs : (s.engOf e).saved = none)
    (vec : Bool) (r : Option Bool) (a : Time) (f : Fld) (i : Nat) : (s.cmpDone e wid vec r a).getF f i = s.getF f i := by
  unfold State.cmpDone
  extract_lets g
  split
  · rw [State.passFlash, hm]
    rfl
  · rw [hs]

theorem State.getF_countFail_fcnt (s : State) (c : Nat) (f : FailInfo) :
    (s.countFail c f).getF F.OCT_FCNT_FCNT (chIx c) =
      satAt F.OCT_FCNT_FCNT.width (s.getF F.OCT_FCNT_FCNT (chIx c) + 1) % 2 ^ F.OCT_FCNT_FCNT.width := by
  have h1 : (s.satF F.OCT_FCNT_FCNT (chIx c) 1).getF F.OCT_FCNT_FCNT (chIx c) = _ := State.getF_setF_same ..
  unfold State.countFail
  extract_lets i s1
  split
  · exact h1
  · simp only [State.setFs, List.foldl_cons, List.foldl_nil]
    rw [State.getF_setF_other (Fld.key_ne_same (by decide)), State.getF_setF_other (Fld.key_ne_same (by decide)),
      State.getF_setF_other (Fld.key_ne_same (by decide)), State.getF_setF_other (Fld.key_ne_same (by decide))]
    exact h1

theorem State.getF_countFail_ffv_ne_zero (s : State) (c : Nat) (f : FailInfo) :
    (s.countFail c f).getF F.OCT_FCTL_FFV (chIx c) ≠ 0 := by
  unfold State.countFail
  extract_lets i s1
  split
  next hf =>
    have h1 : s1.getF F.OCT_FCTL_FFV i = s.getF F.OCT_FCTL_FFV i := State.getF_setF_other (Fld.key_ne_same (by decide))
    change s1.getF F.OCT_FCTL_FFV i ≠ 0
    rw [h1]
    simpa [State.flag] using hf
  · simp only [State.setFs, List.foldl_cons, List.foldl_nil]
    rw [State.getF_setF_other (Fld.key_ne_same (by decide)), State.getF_setF_same]
    decide

/-- A judged vector leaves its channel, and no memory changes. -/
theorem State.compared_retires (s : State) {c : Nat} (v : Vect) (hr : ∀ w, rest.head? = some w → w.done = false) :
    (((s.compared c v rest).retireAll c).chanOf c).vects = rest ∧ s.sameMems ((s.compared c v rest).retireAll c) ∧
      ∀ f i, ((s.compared c v rest).retireAll c).getF f i = (s.compared c v rest).getF f i := by
  have hk : ChansKept (s.judged c v rest (s.headFails c v)) (s.compared c v rest) := (ChansKept.refl _).cmpDone
  have hv : ((s.compared c v rest).chanOf c).vects = { v with done := true, failed := s.headFails c v } :: rest := by
    rw [hk.chanOf, State.vects_judged]
  obtain ⟨g, hg, hc⟩ := State.retireAll_of_head_done hv rfl hr
  refine ⟨?_, ((s.judged_sameMems ..).trans hk.2).trans hc.sameMems, fun f i => hc.regs.getF (by simp)⟩
  rw [hc.vects, State.chanOf_modChan_same, hg]

/-- Of a vector that fails, with no arming of ARMS and no suspended burst, the registers are those of the counted fail. -/
theorem State.getF_compared_of_fails (hx : s.countsX c v = false) (hf : v.fails = true)
    (harms : (s.engOf v.eng).mat.arms = false) (hsaved : (s.engOf v.eng).saved = none) (rest : List Vect) (f : Fld) (i : Nat) :
    (s.compared c v rest).getF f i =
      ((s.putVects c ({ v with done := true, failed := true } :: rest)).countFail c v.failInfo).getF f i := by
  have he := s.engOf_judged c v rest v.eng
  rw [State.compared, State.headFails, hx, hf]
  exact (State.getF_cmpDone_of_unarmed ((congrArg (·.mat.arms) he).trans harms) ((congrArg (·.saved) he).trans hsaved) ..).trans
    ((s.judged_captureOnly c v rest).regs.getF List.not_mem_nil)

/-! ### The arrival of a result (R94, R125, R126) -/

theorem CmpArrive.last_of_later {a : CmpArrive} {k fw : Nat} {f : Bool} (h : a.word = some (k, f)) (hw : fw ≤ k) (fl : Bool) :
    a.last fl fw = (f, k) := by
  simp [CmpArrive.last, h, hw]

theorem MatchSt.lmatch_arrive {m : MatchSt} {a : CmpArrive} {u : Time} {b : Bool} (h : a.window = some (m.window, u, b))
    (hu : m.formed ≤ u) : (m.arrive a).lmatch = b := by
  simp [MatchSt.arrive, h, hu]

/-- A result changes of the site's record nothing, or the chip's own latest result. -/
theorem State.ownResult_cases (s : State) (x : Nat) (m : MatchSt) (a : CmpArrive) :
    s.ownResult x m a = s ∨
      m.arms = true ∧ ∃ b, s.ownResult x m a = s.modSite x (fun q => { q with result := some b }) := by
  unfold State.ownResult
  split
  · split
    next h => exact .inr ⟨h.1, _, rfl⟩
    · exact .inl rfl
  · exact .inl rfl

theorem State.result_ownResult {x : Nat} {m : MatchSt} {a : CmpArrive} {u : Time} {b : Bool}
    (h : a.window = some (m.window, u, b)) (hu : m.formed ≤ u) (hm : m.arms = true) :
    ((s.ownResult x m a).siteOf x).result = some b := by
  simp [State.ownResult, h, hu, hm, State.siteOf_modSite_same]

theorem State.ownResult_frame (s : State) (x : Nat) (m : MatchSt) (a : CmpArrive) :
    { s.ownResult x m a with site := s.site } = s ∧ (∀ y, y ≠ x → (s.ownResult x m a).siteOf y = s.siteOf y) ∧
      (m.arms = false → (s.ownResult x m a).site = s.site) := by
  obtain h | ⟨hm, b, h⟩ := s.ownResult_cases x m a <;> rw [h]
  · exact ⟨rfl, fun _ _ => rfl, fun _ => rfl⟩
  · exact ⟨rfl, fun y hy => State.siteOf_modSite_other hy, fun e => by simp [hm] at e⟩

theorem State.engOf_ownResult (s : State) (x : Nat) (m : MatchSt) (a : CmpArrive) (e : Nat) :
    (s.ownResult x m a).engOf e = s.engOf e := by
  obtain h | ⟨-, b, h⟩ := s.ownResult_cases x m a
  · rw [h]
  · exact (congrArg (State.engOf · e) h).trans rfl

/-- The engine after the first result on its way. -/
def EngSt.arrive (g : EngSt) (a : CmpArrive) (rest : List CmpArrive) : EngSt :=
  { g with
    arrivals := rest, failAny := g.failAny || a.fail, failLast := (a.last g.failLast g.failWid).1,
    failWid := (a.last g.failLast g.failWid).2, mat := g.mat.arrive a }

/-- The context of a suspended burst after the first result on its way. -/
def Saved.arrive (v : Saved) (a : CmpArrive) (rest : List CmpArrive) : Saved :=
  { v with
    arrivals := rest, failAny := v.failAny || a.fail, failLast := (a.last v.failLast v.failWid).1,
    failWid := (a.last v.failLast v.failWid).2, mat := v.mat.arrive a }

theorem exec_conditionArrive_running {e : Fin 16} {a : CmpArrive} {rest : List CmpArrive}
    (h : (s.engOf e.val).arrivals = a :: rest) :
    exec (.conditionArrive e) s = .next ((s.setEng e.val ((s.engOf e.val).arrive a rest)).ownResult
      (s.engOf e.val).site (s.engOf e.val).mat a) := by
  change execConditionArrive e s = _
  simp only [execConditionArrive, h, ok, EngSt.arrive]

theorem exec_conditionArrive_suspended {e : Fin 16} {v : Saved} {a : CmpArrive} {rest : List CmpArrive}
    (h : (s.engOf e.val).arrivals = []) (hs : (s.engOf e.val).saved = some v) (hv : v.arrivals = a :: rest) :
    exec (.conditionArrive e) s = .next ((s.setEng e.val { s.engOf e.val with saved := some (v.arrive a rest) }).ownResult
      v.item.site v.mat a) := by
  change execConditionArrive e s = _
  simp only [execConditionArrive, h, hs, hv, ok, Saved.arrive]

/-- A result that reaches an engine's table leaves all but that engine and the site's record alone. -/
theorem State.setEng_ownResult_frame (s : State) (e : Nat) (g : EngSt) (x : Nat) (m : MatchSt) (a : CmpArrive) :
    ((s.setEng e g).ownResult x m a).engOf e = g ∧
      (m.arms = false → ((s.setEng e g).ownResult x m a).site = s.site) ∧
      (∀ y, y ≠ x → ((s.setEng e g).ownResult x m a).siteOf y = s.siteOf y) ∧
      { (s.setEng e g).ownResult x m a with eng := s.eng, site := s.site } = s ∧
      ∀ k, k ≠ e → ((s.setEng e g).ownResult x m a).engOf k = s.engOf k := by
  obtain ⟨hf, ho, hu⟩ := (s.setEng e g).ownResult_frame x m a
  refine ⟨?_, hu, ho, congrArg (fun u : State => { u with eng := s.eng }) hf, fun k hk => ?_⟩
  · rw [State.engOf_ownResult, State.engOf_setEng_same]
  · rw [State.engOf_ownResult]
    exact Tbl.get_set_other hk

/-- What a strobe of a channel's head vector leaves alone, with nothing but the units that wait to follow. -/
theorem State.putVects_lateUnits_frame (s : State) (c : Nat) (l : List Vect) :
    (((s.putVects c l).lateUnits c).chanOf c).vects = l ∧
      ((s.chanOf c).late = [] → { (s.putVects c l).lateUnits c with chan := s.chan } = s) ∧
      ∀ k, k ≠ c → ((s.putVects c l).lateUnits c).chanOf k = s.chanOf k := by
  have h : CaptureOnly [] c (s.putVects c l) _ := CaptureOnly.refl.lateUnits
  refine ⟨by rw [h.vects, State.chanOf_putVects_same], fun hl => ?_, fun k hk =>
    (h.chans k hk).trans (State.chanOf_putVects_other hk l)⟩
  have hn := State.lateUnits_of_none_late (s := s.putVects c l) (c := c) (by rw [State.chanOf_putVects_same]; exact hl)
  exact congrArg (fun u : State => { u with chan := s.chan }) hn

/-- Settles O27: a strobe rewrites the head vector, a compare counts its fail and retires it, and a result writes the engine and the
site's record alone. -/
theorem strobeCompareArrive : Obligations.StrobeCompareArrive := by
  refine ⟨fun c s v rest u hv hd => ⟨fun hn ho hx => ?_, fun hn ho hx => ?_, fun hn ho hb hx => ?_⟩,
    fun c s v rest hv ha hb hd hr => ?_, fun e s a rest h => ?_, fun e s v a rest h hs hv => ?_⟩
  · exact ⟨_, exec_strobe_taken hv hd hn ho hx, s.putVects_lateUnits_frame ..⟩
  · obtain ⟨hl, -, hk⟩ := s.putVects_lateUnits_frame c.val ({ v with sbDone := true, sbLvl := (s.chanOf c.val).comp } :: rest)
    exact ⟨_, exec_strobe_taken hv hd hn ho hx, hl, hk⟩
  · have hc : CaptureOnly [] c.val (s.skipped c.val v rest) _ := CaptureOnly.refl.lateUnits
    refine ⟨_, exec_strobe_skip hv hd hn ho hb hx, ?_, ?_, fun k hne => ?_⟩
    · rw [hc.vects, State.chanOf_skipped, State.chanOf_putVects_same]
    · rw [hc.regs.getF List.not_mem_nil]
      exact State.getF_vstat_noteSkip _ c.isLt
    · rw [hc.chans k hne, State.chanOf_skipped, State.chanOf_putVects_other hne]
  · obtain ⟨hl, hm, hg⟩ := s.compared_retires (c := c.val) v hr
    refine ⟨_, exec_compareComplete_head hv ha hb hd, hl, hm, fun hf hsafe hpers hidle harms hsaved => ?_⟩
    have hx : s.countsX c.val v = false := by simp [State.countsX, hsafe, hpers, hidle]
    rw [hg, hg, State.getF_compared_of_fails hx hf harms hsaved, State.getF_compared_of_fails hx hf harms hsaved]
    exact ⟨State.getF_countFail_fcnt .., State.getF_countFail_ffv_ne_zero _ _ _⟩
  · obtain ⟨hself, hunarmed, hsites, hframe, hothers⟩ :=
      s.setEng_ownResult_frame e.val ((s.engOf e.val).arrive a rest) (s.engOf e.val).site (s.engOf e.val).mat a
    refine ⟨_, exec_conditionArrive_running h, by rw [hself]; rfl, by rw [hself]; rfl, fun w f hw hle => ?_,
      fun u b hwin hu => ⟨?_, State.result_ownResult hwin hu⟩, hunarmed, hsites, hframe, hothers⟩
    · rw [hself]
      simp [EngSt.arrive, CmpArrive.last_of_later hw hle]
    · rw [hself]
      exact MatchSt.lmatch_arrive hwin hu
  · obtain ⟨hself, hunarmed, hsites, hframe, hothers⟩ :=
      s.setEng_ownResult_frame e.val { s.engOf e.val with saved := some (v.arrive a rest) } v.item.site v.mat a
    exact ⟨_, v.arrive a rest, exec_conditionArrive_suspended h hs hv, by rw [hself], rfl, rfl, rfl, hunarmed, hsites, hframe,
      hothers⟩

end Sys2Proof.Machine
end

section
/-! SUPPORT. The comparator, signal detect and the adaptation of a receiver (R41, R43, R46, R50). -/

namespace Sys2Proof.Machine

variable {s : State} {c : Nat}

/-! ### The comparator (R43) -/

/-- The comparator's output for an input at level `l`: from high it goes low at THR - H or below, from low high at THR + H or above. -/
def State.compNext (s : State) (c : Nat) (l : Int) : Bool :=
  if (s.chanOf c).comp then
    !decide (l ≤ (sext 11 (s.getL F.OCT_THR_THR (chIx c)) - s.getL F.OCT_THR_HYST (chIx c)) * (1000 * levelUnit))
  else decide ((sext 11 (s.getL F.OCT_THR_THR (chIx c)) + s.getL F.OCT_THR_HYST (chIx c)) * (1000 * levelUnit) ≤ l)

/-- An edge changes nothing, or the TDC of its channel. -/
theorem State.tdcEdge_cases (s : State) (c : Nat) (rising : Bool) (tm : Time) :
    s.tdcEdge c rising tm = s ∨ ∃ f, s.tdcEdge c rising tm = s.modTdc c f := by
  unfold State.tdcEdge
  extract_lets
  split
  · exact .inr ⟨_, rfl⟩
  · exact .inl rfl

theorem State.tdcEdge_frame (s : State) (c : Nat) (rising : Bool) (tm : Time) :
    { s.tdcEdge c rising tm with chan := s.chan } = s ∧ ((s.tdcEdge c rising tm).chanOf c).comp = (s.chanOf c).comp ∧
      ∀ k, k ≠ c → (s.tdcEdge c rising tm).chanOf k = s.chanOf k := by
  obtain h | ⟨f, h⟩ := s.tdcEdge_cases c rising tm <;> rw [h]
  · exact ⟨rfl, rfl, fun _ _ => rfl⟩
  · exact ⟨rfl, by rw [State.modTdc, State.chanOf_modChan_same], fun k hk => State.chanOf_modChan_other hk⟩

theorem exec_comparatorEdge_of_kept {c : Fin 64} {uv : Int} {tm : Time}
    (h : s.compNext c.val (s.rxLevel c.val uv tm) = (s.chanOf c.val).comp) : exec (.comparatorEdge c uv tm) s = .next s :=
  congrArg Host.Outcome.next (if_pos (.inl h))

theorem exec_comparatorEdge_of_changed {c : Fin 64} {uv : Int} {tm : Time} (hon : s.rxOn = true)
    (h : s.compNext c.val (s.rxLevel c.val uv tm) ≠ (s.chanOf c.val).comp) :
    ∃ t, exec (.comparatorEdge c uv tm) s = .next t ∧
      (t.chanOf c.val).comp = s.compNext c.val (s.rxLevel c.val uv tm) ∧ { t with chan := s.chan } = s ∧
      ∀ k, k ≠ c.val → t.chanOf k = s.chanOf k := by
  refine ⟨_, congrArg Host.Outcome.next (if_neg (not_or.2 ⟨h, by simp [hon]⟩)), ?_⟩
  obtain ⟨hf, hc, ho⟩ := State.tdcEdge_frame (s.setChan c.val { s.chanOf c.val with
    comp := s.compNext c.val (s.rxLevel c.val uv tm),
    vects := (s.chanOf c.val).vects.map (fun v => if v.sa < tm ∧ tm ≤ v.sb then { v with changed := true } else v) }) c.val
    (s.compNext c.val (s.rxLevel c.val uv tm)) tm
  rw [State.chanOf_setChan_same] at hc
  exact ⟨hc, congrArg (fun u : State => { u with chan := s.chan }) hf, fun k hk => (ho k hk).trans (Tbl.get_set_other hk)⟩

theorem State.compNext_of_high {l : Int} (hc : (s.chanOf c).comp = false)
    (h : (sext 11 (s.getL F.OCT_THR_THR (chIx c)) + s.getL F.OCT_THR_HYST (chIx c)) * 1000 * levelUnit ≤ l) :
    s.compNext c l = true := by
  simpa [State.compNext, hc, mul_assoc] using h

theorem State.compNext_of_low {l : Int} (hc : (s.chanOf c).comp = true)
    (h : l ≤ (sext 11 (s.getL F.OCT_THR_THR (chIx c)) - s.getL F.OCT_THR_HYST (chIx c)) * 1000 * levelUnit) :
    s.compNext c l = false := by
  simpa [State.compNext, hc, mul_assoc] using h

theorem State.compNext_of_between {l : Int}
    (hl : (sext 11 (s.getL F.OCT_THR_THR (chIx c)) - s.getL F.OCT_THR_HYST (chIx c)) * 1000 * levelUnit < l)
    (hh : l < (sext 11 (s.getL F.OCT_THR_THR (chIx c)) + s.getL F.OCT_THR_HYST (chIx c)) * 1000 * levelUnit) :
    s.compNext c l = (s.chanOf c).comp := by
  rw [mul_assoc] at hl hh
  cases hc : (s.chanOf c).comp with
  | true => simpa [State.compNext, hc] using hl
  | false => simpa [State.compNext, hc] using hh

/-! ### Signal detect (R46, R50) -/

/-- The receiver's precoder starts again where SIGDET changes (R171). -/
def State.sigdetLane (s : State) (c v : Nat) : State :=
  if s.getF F.OCT_FESTAT_SIGDET (chIx c) = v then s else s.modLane c (fun l => { l with rxPrev := 0 })

theorem exec_sigdetChange {c : Fin 64} (hon : s.rxOn = true) (b : Bool) :
    exec (.sigdetChange c b) s =
      .next ((s.sigdetLane c.val (b2n (s.sigAbove c.val b))).setF F.OCT_FESTAT_SIGDET (chIx c.val) (b2n (s.sigAbove c.val b))) := by
  change execSigdetChange c b s = _
  simp only [execSigdetChange, hon, ok, State.sigdetLane, if_true]

theorem State.sigdetLane_chanOnly (s : State) (c v : Nat) (w : List Nat) : ChanOnly c w s (s.sigdetLane c v) := by
  unfold State.sigdetLane
  split
  · exact ⟨rfl, .refl w s, fun _ _ => rfl⟩
  · exact ⟨rfl, .refl w s, fun k hk => State.chanOf_modChan_other hk⟩

theorem State.sigdetLane_of_eq {v : Nat} (h : v = s.getF F.OCT_FESTAT_SIGDET (chIx c)) : s.sigdetLane c v = s :=
  if_pos h.symm

theorem State.chanOf_sigdetLane_of_ne {v : Nat} (h : v ≠ s.getF F.OCT_FESTAT_SIGDET (chIx c)) :
    (s.sigdetLane c v).chanOf c = { s.chanOf c with lane := { (s.chanOf c).lane with rxPrev := 0 } } := by
  rw [State.sigdetLane, if_neg h.symm, State.modLane, State.chanOf_modChan_same]

theorem b2n_mod_two (b : Bool) : b2n b % 2 = b2n b := by
  cases b <;> rfl

/-! ### Adaptation (R41) -/

/-- The live values of several fields of one index. -/
def State.setLs (s : State) (i : Nat) (l : List (Fld × Nat)) (g : Nat → Nat) : State :=
  l.foldl (fun a p => a.setL p.1 i (g p.2)) s

theorem State.setLs_drawn_frame (s : State) (i : Nat) (l : List (Fld × Nat)) (g : Nat → Nat) :
    { s.drawn.setLs i l g with live := s.live, free := s.free } = s :=
  List.foldlRecOn (motive := fun a : State => { a with live := s.live, free := s.free } = s) l _ rfl fun _ ha _ _ => ha

theorem State.getL_setLs_other {f : Fld} {l : List (Fld × Nat)} (h : f.id ∉ l.map (fun p => p.1.id)) (i : Nat) (g : Nat → Nat) :
    (s.setLs i l g).getL f i = s.getL f i := by
  induction l generalizing s with
  | nil => rfl
  | cons p l ih =>
    obtain ⟨hp, hl⟩ := not_or.1 (mt List.mem_cons.2 h)
    exact (ih hl).trans (State.getL_setL_other (Fld.key_ne_same hp))

/-- Of fields with different numbers each reads the value given to it. -/
theorem State.getL_setLs_mem {p : Fld × Nat} {l : List (Fld × Nat)} (hp : p ∈ l) (h : (l.map (fun p => p.1.id)).Nodup) (i : Nat)
    (g : Nat → Nat) : (s.setLs i l g).getL p.1 i = g p.2 % 2 ^ p.1.width := by
  induction l generalizing s with
  | nil => cases hp
  | cons q l ih =>
    obtain ⟨hq, hl⟩ := List.nodup_cons.1 h
    obtain rfl | hp := List.mem_cons.1 hp
    · exact (State.getL_setLs_other hq i g).trans (State.getL_setL_same ..)
    · exact ih hp hl

/-- The coefficient of each tap is the draw `n` for it, brought into -64 to +64 as eight bits. -/
def lmsValue (free k : Nat) : Nat := Config.lmsCoef k free % 129 + 192

theorem exec_rxAdaptUpdate {c : Fin 64} (hon : s.rxOn = true) (ha : s.flagL F.OCT_RXCFG_ADAPT (chIx c.val) = true) :
    exec (.rxAdaptUpdate c) s = .next (s.drawn.setLs (chIx c.val) coefFlds.zipIdx (lmsValue s.free)) := by
  change execRxAdaptUpdate c s = _
  simp only [execRxAdaptUpdate, hon, ha, ok, Bool.and_self, if_true]
  rfl

theorem sext_lmsValue (free k : Nat) : -64 ≤ sext 8 (lmsValue free k % 2 ^ 8) ∧ sext 8 (lmsValue free k % 2 ^ 8) ≤ 64 := by
  have h : Config.lmsCoef k free % 129 < 129 := Nat.mod_lt _ (by decide)
  simp only [sext, lmsValue, Nat.reducePow, Nat.reduceSub]
  split_ifs <;> omega

/-- Settles O28: the comparator moves only where its input is past a threshold, SIGDET and its precoder move together, and an adaptation
draws each coefficient within its bounds. -/
theorem receiverEvents : Obligations.ReceiverEvents := by
  refine ⟨fun c s uv tm hon hc h => ?_, fun c s uv tm hon hc h => ?_, fun c s uv tm hl hh => ?_, fun c s uv tm hn => ?_,
    fun c s l uv tm hn hl => ?_, fun c s b hon => ?_, fun c s hon ha => ?_⟩
  · have hn := State.compNext_of_high hc h
    obtain ⟨t, he, ht, hf, ho⟩ := exec_comparatorEdge_of_changed (c := c) (uv := uv) (tm := tm) hon (by simp [hn, hc])
    exact ⟨t, he, ht.trans hn, hf, ho⟩
  · have hn := State.compNext_of_low hc h
    obtain ⟨t, he, ht, hf, ho⟩ := exec_comparatorEdge_of_changed (c := c) (uv := uv) (tm := tm) hon (by simp [hn, hc])
    exact ⟨t, he, ht.trans hn, hf, ho⟩
  · exact exec_comparatorEdge_of_kept (State.compNext_of_between hl hh)
  · simp [State.rxLevel, hn]
  · simp [State.rxLevel, State.txLevel, hn, hl]
  · obtain ⟨hframe, hregs, hchans⟩ := s.sigdetLane_chanOnly c.val (b2n (s.sigAbove c.val b)) [F.OCT_FESTAT_SIGDET.key (chIx c.val)]
    have hv : ((s.sigdetLane c.val (b2n (s.sigAbove c.val b))).setF F.OCT_FESTAT_SIGDET (chIx c.val)
        (b2n (s.sigAbove c.val b))).getF F.OCT_FESTAT_SIGDET (chIx c.val) = b2n (s.sigAbove c.val b) :=
      (State.getF_setF_same ..).trans (b2n_mod_two _)
    refine ⟨_, exec_sigdetChange hon b, hv, fun hn => by simp [State.sigAbove, hn], fun h => ?_, fun h => ?_, hframe,
      hregs.setF (by simp), hchans⟩
    · rw [State.setF_chan, State.sigdetLane_of_eq (hv.symm.trans h)]
    · exact State.chanOf_sigdetLane_of_ne (hv ▸ h)
  · refine ⟨_, exec_rxAdaptUpdate hon ha, fun f hf => ?_, ?_⟩
    · obtain ⟨k, hk⟩ := List.mem_iff_getElem?.1 hf
      have hw : ∀ f ∈ coefFlds, f.width = 8 := by decide
      rw [State.getL_setLs_mem (List.mk_mem_zipIdx_iff_getElem?.2 hk) (by decide), hw f hf]
      exact sext_lmsValue ..
    · exact s.setLs_drawn_frame (chIx c.val) coefFlds.zipIdx (lmsValue s.free)

end Sys2Proof.Machine
end

section
/-! SUPPORT. The codes of the ADC (R39) and the counts of an acquisition slot (R218, R219). -/

namespace Sys2Proof.Machine

variable {s t : State} {c b : Nat}

/-! ### Codes (R39) -/

theorem State.fullScale_pos (s : State) (c : Nat) : 0 < s.fullScale c := by
  unfold State.fullScale
  split <;> decide

/-- The rounded quotient of which the code is the clamped sum with 128. -/
theorem State.adcCode_eq {v fs : Int} (h : fs = s.fullScale c * (1000 * levelUnit)) :
    (s.adcCode c v : Int) = max 0 (min 255 (128 + (2 * v * 128 + fs) / (2 * fs))) := by
  rw [h]
  exact Int.toNat_of_nonneg (le_max_left ..)

/-- The code of an input is the nearest one within 0 to 255, halves upward. -/
theorem State.adcCode_spec {v fs : Int} (h : fs = s.fullScale c * (1000 * levelUnit)) :
    (s.adcCode c v = 0 ↔ 256 * v < -(255 * fs)) ∧ (s.adcCode c v = 255 ↔ 253 * fs ≤ 256 * v) ∧
    (0 < s.adcCode c v → s.adcCode c v < 255 →
      -fs ≤ 256 * v - 2 * ((s.adcCode c v : Int) - 128) * fs ∧ 256 * v - 2 * ((s.adcCode c v : Int) - 128) * fs < fs) := by
  have hfs : 0 < 2 * fs := by
    have hu : (0 : Int) < 1000 * levelUnit := by decide
    have := mul_pos (s.fullScale_pos c) hu
    omega
  have hc := State.adcCode_eq (v := v) h
  have hlow := Int.ediv_lt_iff_lt_mul (a := 2 * v * 128 + fs) (b := -127) hfs
  have hhigh := Int.le_ediv_iff_mul_le (a := 127) (b := 2 * v * 128 + fs) hfs
  have hle := Int.ediv_mul_le (2 * v * 128 + fs) hfs.ne'
  have hlt := Int.lt_ediv_add_one_mul_self (2 * v * 128 + fs) hfs
  generalize (2 * v * 128 + fs) / (2 * fs) = q at hc hlow hhigh hle hlt
  refine ⟨by omega, by omega, fun h0 h255 => ?_⟩
  have hq : (s.adcCode c v : Int) - 128 = q := by omega
  rw [hq]
  constructor <;> linarith

/-! ### Bytes and bins of a slot (R219) -/

theorem State.bin_congr (h : t.acqMem = s.acqMem) (c b : Nat) : t.bin c b = s.bin c b := by
  simp only [State.bin, State.acqByte, h]

/-- The acquisition SRAM with the four bytes of a bin of slot `c` at `n`. -/
def binMem (m : Tbl Byte) (c b n : Nat) : Tbl Byte :=
  (leBytes 4 n).zipIdx.foldl (fun a p => Tbl.set (fun _ => 0#8) a (c * 131072 + (b + p.2)) p.1) m

/-- The four bytes of a bin at a count. -/
def State.putBin (s : State) (c b n : Nat) : State := { s with acqMem := binMem s.acqMem c b n }

/-- Bytes written one after another are one change of the memory. -/
theorem State.foldl_setAcq (l : List (Byte × Nat)) (s : State) (c b : Nat) :
    l.foldl (fun a p => a.setAcq c (b + p.2) p.1) s =
      { s with acqMem := l.foldl (fun a p => Tbl.set (fun _ => 0#8) a (c * 131072 + (b + p.2)) p.1) s.acqMem } := by
  induction l generalizing s with
  | nil => rfl
  | cons p l ih => exact ih _

/-- A count writes its bin, or where the bin is full SAT. -/
theorem State.incBin_eq (s : State) (c b : Nat) :
    s.incBin c b = if s.bin c b = 4294967295 then s.setF F.ACQ_STAT_SAT c 1 else s.putBin c b (s.bin c b + 1) := by
  rw [State.incBin, State.foldl_setAcq]
  rfl

theorem State.incBin_of_lt (h : s.bin c b < 4294967295) : s.incBin c b = s.putBin c b (s.bin c b + 1) := by
  rw [State.incBin_eq, if_neg h.ne]

theorem State.bin_putBin {n : Nat} (h : n < 4294967296) : (s.putBin c b n).bin c b = n := by
  simp [State.bin, State.acqByte, State.putBin, binMem, leBytes, List.range_succ, leNat, Tbl.get_set_same, Tbl.get_set_other]
  omega

theorem State.get_putBin_other {a : Nat} (h : ∀ k, k < 4 → a ≠ c * 131072 + (b + k)) (n : Nat) :
    Tbl.get (fun _ => (0 : Byte)) (s.putBin c b n).acqMem a = Tbl.get (fun _ => 0) s.acqMem a :=
  calc
    _ = _ := Tbl.get_set_other (h 3 (by decide))
    _ = _ := Tbl.get_set_other (h 2 (by decide))
    _ = _ := Tbl.get_set_other (h 1 (by decide))
    _ = _ := Tbl.get_set_other (h 0 (by decide))

/-- A count changes the slot and SAT alone. -/
theorem State.incBin_frame (s : State) (c b : Nat) : { s.incBin c b with reg := s.reg, acqMem := s.acqMem } = s := by
  rw [State.incBin_eq]
  split <;> rfl

theorem State.getF_incBin {f : Fld} (hf : f.id ≠ F.ACQ_STAT_SAT.id) : (s.incBin c b).getF f c = s.getF f c := by
  rw [State.incBin_eq]
  split
  · exact State.getF_setF_other (Fld.key_ne_same hf)
  · rfl

/-- One count more in the bin, and no other byte of any slot changes. -/
theorem State.incBin_counts (h : s.bin c b < 4294967295) (ht : t.acqMem = (s.incBin c b).acqMem) :
    t.bin c b = s.bin c b + 1 ∧
      ∀ a, (∀ k, k < 4 → a ≠ c * 131072 + (b + k)) →
        Tbl.get (fun _ => (0 : Byte)) t.acqMem a = Tbl.get (fun _ => 0) s.acqMem a := by
  rw [State.incBin_of_lt h] at ht
  exact ⟨(State.bin_congr ht c b).trans (State.bin_putBin (by omega)), fun a ha => by rw [ht, State.get_putBin_other ha]⟩

/-! ### The roving sampler (R212, R219) -/

theorem State.rovTake_of_no_sweep {p code : Nat} (h : s.flag F.ACQ_ROV_SWEEP c = false) :
    s.rovTake c p code = s.rovCount c p code :=
  if_pos h

theorem State.rovCount_of_map {p code : Nat} (h : s.acqFunc c = 1) : s.rovCount c p code = s.incBin c ((p * 256 + code) * 4) := by
  simp [State.rovCount, State.rovBin, h]

/-- A voltage histogram of main samples takes no roving sample. -/
theorem State.rovCount_of_histogram {p code : Nat} (h : s.acqFunc c = 2) (hv : s.flag F.ACQ_CFG_VSRC c = false) :
    s.rovCount c p code = s := by
  simp [State.rovCount, State.rovBin, h, hv]

/-- The state in which a roving sample at phase `p` is counted: ROVPH shows the phase, and the error correction of its word counts. -/
def State.rovShown (s : State) (c p ce : Nat) : State := (s.setF F.ACQ_STAT_ROVPH c p).drawn.addF F.MEM_SCE_CNT 0 ce

theorem State.rovShown_regs (s : State) (c p ce : Nat) :
    RegsBut [F.ACQ_STAT_ROVPH.key c, F.MEM_SCE_CNT.key 0] s (s.rovShown c p ce) :=
  ((RegsBut.refl _ s).setF (by simp)).setF (by simp)

theorem State.getF_rovShown_rovph (s : State) {c : Nat} (hc : c < 64) (p ce : Nat) :
    (s.rovShown c p ce).getF F.ACQ_STAT_ROVPH c = p % 2 ^ F.ACQ_STAT_ROVPH.width := by
  rw [State.rovShown, State.addF, State.getF_setF_other (Fld.key_ne (by decide) (by omega) (by decide)), State.getF_drawn,
    State.getF_setF_same]

/-- Fields of a channel's acquisition other than ROVPH read as before. -/
theorem State.getF_rovShown_other {f : Fld} (hf : f.id ∉ [F.ACQ_STAT_ROVPH.id, F.MEM_SCE_CNT.id]) (hc : c < 64) (p ce : Nat) :
    (s.rovShown c p ce).getF f c = s.getF f c := by
  simp only [List.mem_cons, List.not_mem_nil, or_false, not_or] at hf
  refine (s.rovShown_regs c p ce).getF ?_
  simp only [List.mem_cons, List.not_mem_nil, or_false, not_or]
  exact ⟨Fld.key_ne_same hf.1, Fld.key_ne hf.2 (by omega) (by decide)⟩

/-- Before the main sample of its UI the roving sample waits for it. -/
theorem exec_rovingSample_early {ch : Fin 64} {uv : Int} {ce : Nat} (hon : s.rxOn = true) (hp : s.rovPhase ch.val < 64) :
    exec (.rovingSample ch ⟨uv, ⟨false, ce⟩⟩) s = .next ((s.rovShown ch.val (s.rovPhase ch.val) ce).modAcq ch.val (fun q =>
      { q with rov := some (s.rovPhase ch.val,
          s.adcCode ch.val (s.adcInput ch.val uv (s.rovAt ch.val (s.rovPhase ch.val)))) })) := by
  change execRovingSample ch ⟨uv, ⟨false, ce⟩⟩ s = _
  cases hb : s.rovBin ch.val (s.rovPhase ch.val) (s.adcCode ch.val (s.adcInput ch.val uv (s.rovAt ch.val (s.rovPhase ch.val)))) <;>
    simp [execRovingSample, hon, hp, hb, ok, State.rovShown]

/-- After it the roving sample joins its UI, and is counted where the UI is. -/
theorem exec_rovingSample_late {ch : Fin 64} {uv : Int} {ce : Nat} {q : AcqUi} {rest : List AcqUi} {p code : Nat}
    (hon : s.rxOn = true) (hp : p = s.rovPhase ch.val) (hcode : code = s.adcCode ch.val (s.adcInput ch.val uv (s.rovAt ch.val p)))
    (h64 : 64 ≤ p) (hq : (s.chanOf ch.val).acq.uis = q :: rest) :
    exec (.rovingSample ch ⟨uv, ⟨false, ce⟩⟩) s =
      .next (if q.counted then ((s.rovShown ch.val p ce).modAcq ch.val (fun z =>
          { z with uis := { q with rov := some (p, code) } :: rest })).rovTake ch.val p code
        else (s.rovShown ch.val p ce).modAcq ch.val (fun z => { z with uis := { q with rov := some (p, code) } :: rest })) := by
  change execRovingSample ch ⟨uv, ⟨false, ce⟩⟩ s = _
  subst hp hcode
  cases hb : s.rovBin ch.val (s.rovPhase ch.val) (s.adcCode ch.val (s.adcInput ch.val uv (s.rovAt ch.val (s.rovPhase ch.val)))) <;>
    simp [execRovingSample, hon, Nat.not_lt.2 h64, hb, hq, ok, State.rovShown]

/-- With the receiver off only the phase shows, and no sample is taken. -/
theorem exec_samples_of_rx_off {ch : Fin 64} {uv : Int} {tm : Time} {r : SramErr} (hoff : s.rxOn = false) :
    exec (.rovingSample ch ⟨uv, r⟩) s = .next (s.setF F.ACQ_STAT_ROVPH ch.val (s.rovPhase ch.val)) ∧
      exec (.adcSample ch uv tm r) s = .next s := by
  constructor
  · exact if_pos hoff
  · change execAdcSample ch uv tm r s = _
    simp [execAdcSample, hoff, ok]

/-- The state in which phase `p` begins to settle. -/
def State.toPhase (s : State) (c p : Nat) : State :=
  (s.setF F.ACQ_STAT_ROVPH c p).modAcq c (fun q => { q with phase := p, settle := 4, dwell := 0 })

theorem State.acq_toPhase (s : State) (c p : Nat) :
    ((s.toPhase c p).chanOf c).acq = { (s.chanOf c).acq with phase := p, settle := 4, dwell := 0 } :=
  State.chanOf_modAcq_acq ..

theorem State.getF_toPhase_rovph (s : State) (c p : Nat) :
    (s.toPhase c p).getF F.ACQ_STAT_ROVPH c = p % 2 ^ F.ACQ_STAT_ROVPH.width :=
  State.getF_setF_same ..

theorem State.getF_toPhase_pass (s : State) (c p : Nat) : (s.toPhase c p).getF F.ACQ_PASS_PASS c = s.getF F.ACQ_PASS_PASS c :=
  State.getF_setF_other (Fld.key_ne_same (by decide))

theorem State.toPhase_chanOnly (s : State) (c p : Nat) :
    ChanOnly c (keysAt c [F.ACQ_STAT_ROVPH, F.ACQ_PASS_PASS]) s (s.toPhase c p) :=
  ⟨rfl, (RegsBut.refl _ s).setF (by simp [keysAt]), fun _ hk => State.chanOf_modChan_other hk⟩

/-- A complete dwell: the next phase begins to settle, and after the last one more pass counts. -/
theorem exec_rovingStep {ch : Fin 64} {p : Nat} (hp : p = ((s.chanOf ch.val).acq.phase + 1) % 128)
    (hs : s.flag F.ACQ_ROV_SWEEP ch.val = true) (h0 : (s.chanOf ch.val).acq.settle = 0)
    (hd : 2 ^ s.getF F.ACQ_ROV_DWELL ch.val ≤ (s.chanOf ch.val).acq.dwell) :
    exec (.rovingStep ch) s =
      .next (if p = 0 then (s.toPhase ch.val p).satF F.ACQ_PASS_PASS ch.val 1 else s.toPhase ch.val p) := by
  rw [hp]
  exact if_pos ⟨hs, h0, hd⟩

theorem satAt_lt (w v : Nat) : satAt w v < 2 ^ w := by
  have := Nat.two_pow_pos w
  unfold satAt
  split <;> omega

theorem State.getF_satF_same (s : State) (f : Fld) (i n : Nat) : (s.satF f i n).getF f i = satAt f.width (s.getF f i + n) :=
  (State.getF_setF_same ..).trans (Nat.mod_eq_of_lt (satAt_lt ..))

/-- What a complete dwell writes. -/
theorem exec_rovingStep_writes {ch : Fin 64} (hs : s.flag F.ACQ_ROV_SWEEP ch.val = true)
    (h0 : (s.chanOf ch.val).acq.settle = 0) (hd : 2 ^ s.getF F.ACQ_ROV_DWELL ch.val ≤ (s.chanOf ch.val).acq.dwell) :
    ∃ t, exec (.rovingStep ch) s = .next t ∧
      (t.chanOf ch.val).acq = { (s.chanOf ch.val).acq with
        phase := ((s.chanOf ch.val).acq.phase + 1) % 128, settle := 4, dwell := 0 } ∧
      t.getF F.ACQ_STAT_ROVPH ch.val = ((s.chanOf ch.val).acq.phase + 1) % 128 % 2 ^ F.ACQ_STAT_ROVPH.width ∧
      t.getF F.ACQ_PASS_PASS ch.val = (if (s.chanOf ch.val).acq.phase % 128 = 127 then
        satAt F.ACQ_PASS_PASS.width (s.getF F.ACQ_PASS_PASS ch.val + 1) else s.getF F.ACQ_PASS_PASS ch.val) ∧
      ChanOnly ch.val (keysAt ch.val [F.ACQ_STAT_ROVPH, F.ACQ_PASS_PASS]) s t := by
  refine ⟨_, exec_rovingStep rfl hs h0 hd, ?_⟩
  have hlast : ((s.chanOf ch.val).acq.phase + 1) % 128 = 0 ↔ (s.chanOf ch.val).acq.phase % 128 = 127 := by omega
  generalize ((s.chanOf ch.val).acq.phase + 1) % 128 = p at hlast
  obtain ⟨hframe, hregs, hchans⟩ := s.toPhase_chanOnly ch.val p
  by_cases h : p = 0
  · rw [if_pos h, if_pos (hlast.1 h), State.getF_satF_same, State.getF_toPhase_pass, State.satF,
      State.getF_setF_other (Fld.key_ne_same (by decide)), State.getF_toPhase_rovph]
    exact ⟨s.acq_toPhase ch.val p, rfl, rfl, hframe, hregs.setF (by simp [keysAt]), hchans⟩
  · rw [if_neg h, if_neg (mt hlast.2 h)]
    exact ⟨s.acq_toPhase ch.val p, s.getF_toPhase_rovph ch.val p, s.getF_toPhase_pass ch.val p, hframe, hregs, hchans⟩

end Sys2Proof.Machine
end

section
/-! SUPPORT. The sample of one UI on its way into an acquisition slot (R211 to R218). -/

namespace Sys2Proof.Machine

variable {w : List Nat} {s t p : State} {c : Nat}

/-! ### The receive side of a lane (R173, R184, R192) -/

theorem CaptureOnly.rxFrameBit (h : CaptureOnly w c s t) {b : Nat} {fin : Time} : CaptureOnly w c s (t.rxFrameBit c b fin) := by
  unfold State.rxFrameBit
  extract_lets
  split
  · exact h
  · exact h.modLane

section checker

variable (hlo : F.OCT_LBITCNT_LO_CNT.key (lnIx c) ∈ w) (hhi : F.OCT_LBITCNT_HI_CNT.key (lnIx c) ∈ w)
include hlo hhi

/-- The checker writes its count of bits (R173). -/
theorem CaptureOnly.checkBit (h : CaptureOnly w c s t) {b : Nat} {a : Time} {sym beat : Nat} :
    CaptureOnly w c s (t.checkBit c b a sym beat) :=
  h.modLane.ite ((h.setF hlo).setF hhi).modLane

theorem CaptureOnly.rxBit (h : CaptureOnly w c s t) {b : Nat} {a fin : Time} {sym beat : Nat} :
    CaptureOnly w c s (t.rxBit c b a fin sym beat) := by
  unfold State.rxBit
  exact ((h.checkBit hlo hhi).ite h).rxFrameBit.modLane

theorem CaptureOnly.symbolDecide (h : CaptureOnly w c s t) {a ui : Time} : CaptureOnly w c s (t.symbolDecide c a ui) := by
  unfold State.symbolDecide
  extract_lets _ _ _ _ _ _ _ _ _ _ s2
  have h2 : CaptureOnly w c s s2 := h.modChan.modLane.foldl fun ha => ha.rxBit hlo hhi
  refine CaptureOnly.lateUnits ?_
  split
  · exact h2.unitDone
  · exact h2

theorem CaptureOnly.symbolCode (h : CaptureOnly w c s t) {code : Nat} {a ui : Time} :
    CaptureOnly w c s (t.symbolCode c code a ui) := by
  unfold State.symbolCode
  refine h.ite ?_
  extract_lets s1
  have h1 : CaptureOnly w c s s1 := h.modLane
  split
  · exact h1.symbolDecide hlo hhi
  · exact h1

end checker

theorem CaptureOnly.sampleEntry (h : CaptureOnly w c s t) {code : Nat} {start a : Time} {beat num : Nat} :
    CaptureOnly w c s (t.sampleEntry c code start a beat num) := by
  unfold State.sampleEntry
  extract_lets _ s1
  have h1 : CaptureOnly w c s s1 := h.modChan
  split
  · exact h1.unitDone
  · exact h1

/-! ### Up to the UI's place in the slot -/

/-- The keys of what a main sample counts outside its slot: corrected errors, and the bits of the checker. -/
def sampleKeys (c : Nat) : List Nat :=
  [F.MEM_SCE_CNT.key 0, F.OCT_LBITCNT_LO_CNT.key (lnIx c), F.OCT_LBITCNT_HI_CNT.key (lnIx c)]

/-- Between `s` and `t` no memory changes, no register field but those of `sampleKeys`, and nothing of the acquisition of channel `c`. -/
structure SampleOnly (c : Nat) (s t : State) : Prop where
  mems : s.sameMems t
  regs : RegsBut (sampleKeys c) s t
  acq : (t.chanOf c).acq = (s.chanOf c).acq

theorem SampleOnly.refl (c : Nat) (s : State) : SampleOnly c s s := ⟨.refl s, .refl _ s, rfl⟩

theorem SampleOnly.setChan (h : SampleOnly c s t) {k : ChanSt} (hk : k.acq = (s.chanOf c).acq) : SampleOnly c s (t.setChan c k) :=
  ⟨h.mems, h.regs, (congrArg ChanSt.acq (State.chanOf_setChan_same ..)).trans hk⟩

/-- The corrected errors of the sample's word count (R337). -/
theorem SampleOnly.drawn_addF_sce (h : SampleOnly c s t) {ce : Nat} : SampleOnly c s (t.drawn.addF F.MEM_SCE_CNT 0 ce) :=
  ⟨h.mems, h.regs.setF (f := F.MEM_SCE_CNT) (by simp [sampleKeys]), h.acq⟩

theorem SampleOnly.captureOnly {u : State} (h : SampleOnly c s t) (g : CaptureOnly (sampleKeys c) c t u) : SampleOnly c s u :=
  ⟨h.mems.trans g.sameMems, h.regs.trans g.regs, g.acq.trans h.acq⟩

/-- Fields of a channel's acquisition read as before. -/
theorem SampleOnly.getF (h : SampleOnly c s t) {f : Fld}
    (hf : f.id ∉ [F.MEM_SCE_CNT.id, F.OCT_LBITCNT_LO_CNT.id, F.OCT_LBITCNT_HI_CNT.id]) (hc : c < 64) : t.getF f c = s.getF f c := by
  simp only [List.mem_cons, List.not_mem_nil, or_false, not_or] at hf
  obtain ⟨hce, hlo, hhi⟩ := hf
  refine h.regs.getF ?_
  simp only [sampleKeys, lnIx_eq, List.mem_cons, List.not_mem_nil, or_false, not_or]
  exact ⟨Fld.key_ne hce (by omega) (by decide), Fld.key_ne_same hlo, Fld.key_ne_same hhi⟩

theorem SampleOnly.crosses (h : SampleOnly c s t) (hc : c < 64) (a b : Nat) : t.crosses c a b = s.crosses c a b := by
  simp only [State.crosses, h.acq, h.getF (f := F.ACQ_TLEV_LEV) (by decide) hc, h.getF (f := F.ACQ_CFG_TSLOPE) (by decide) hc]

/-- A step of the code without a crossing moves the re-arm flags alone (R213). -/
theorem State.acqStep_of_no_crossing {code : Nat}
    (h : ∀ q, (s.chanOf c).acq.uis.head? = some q → s.crosses c q.code code = false) :
    ∃ a, s.acqStep c code = s.rearm c a code := by
  unfold State.acqStep
  extract_lets a
  split
  · exact ⟨_, rfl⟩
  next q rest hq =>
    have hx : s.crosses c q.code code = false := h q (congrArg List.head? hq)
    exact ⟨_, if_neg (by simp [hx])⟩

theorem State.rearm_eq (s : State) (c a b : Nat) :
    ∃ f, s.rearm c a b = s.modAcq c f ∧ ∀ q, (f q).rov = q.rov ∧ ∀ u, (f q).inRun u = q.inRun u := by
  unfold State.rearm
  extract_lets
  exact ⟨_, rfl, fun _ => ⟨rfl, fun _ => rfl⟩⟩

/-- Of the vectors of the channel the sample marks one, and its word's corrected errors count. -/
theorem exec_adcSample {ch : Fin 64} {uv : Int} {tm : Time} {ce : Nat} {start u ui : Time} {beat : Nat} (hon : s.rxOn = true)
    (hui : s.adcUi ch.val tm = some (start, u, ui, beat)) :
    ∃ p, SampleOnly ch.val s p ∧ exec (.adcSample ch uv tm ⟨false, ce⟩) s =
      .next ((p.acqStep ch.val (s.adcCode ch.val (s.adcInput ch.val uv u))).acqUi ch.val start u ui
        (s.adcCode ch.val (s.adcInput ch.val uv u))) := by
  change ∃ p, _ ∧ execAdcSample ch uv tm ⟨false, ce⟩ s = _
  unfold execAdcSample
  extract_lets c h v s1
  have hc : s.adcUi c tm = some (start, u, ui, beat) := hui
  rw [if_pos hon, hc]
  have h1 : SampleOnly ch.val s s1 := by
    refine SampleOnly.drawn_addF_sce ?_
    clear_value v
    split
    · exact (SampleOnly.refl ch.val s).setChan rfl
    · exact .refl ch.val s
  exact ⟨_, h1.captureOnly (CaptureOnly.refl.sampleEntry.symbolCode (by simp [sampleKeys]) (by simp [sampleKeys])), rfl⟩

/-! ### The UI in the slot (R215, R217, R218) -/

/-- Between `s` and `t` only channels change, and channel `c` keeps its latest UI. -/
def SameUi (c : Nat) (s t : State) : Prop :=
  { t with chan := s.chan } = s ∧ (t.chanOf c).acq.uis.head? = (s.chanOf c).acq.uis.head?

theorem SameUi.refl (c : Nat) (s : State) : SameUi c s s := ⟨rfl, rfl⟩

theorem SameUi.trans {u : State} (h : SameUi c s t) (g : SameUi c t u) : SameUi c s u :=
  ⟨(congrArg (fun a : State => { a with chan := s.chan }) g.1).trans h.1, g.2.trans h.2⟩

theorem SameUi.getF (h : SameUi c s t) (f : Fld) (i : Nat) : t.getF f i = s.getF f i := by
  have hr : { t with chan := s.chan }.reg = s.reg := congrArg State.reg h.1
  exact congrArg (FMap.get · f i) hr

/-- A change of the channel's acquisition that keeps its UIs. -/
theorem State.modAcq_sameUi (s : State) (c : Nat) {f : AcqSt → AcqSt} (hf : ∀ q, (f q).uis = q.uis := by intro; rfl) :
    SameUi c s (s.modAcq c f) :=
  ⟨rfl, by rw [State.chanOf_modAcq_acq, hf]⟩

/-- Without a record and a trigger's window a trigger event does nothing (R215, R217). -/
theorem State.acqJudge_of_no_trigger (hf : s.acqFunc c ≠ 3) (hg : s.getF F.ACQ_CFG_GATE c ≠ 3) (u : Time) :
    s.acqJudge c u = s := by
  unfold State.acqJudge
  extract_lets
  split
  · rfl
  · simp [State.acqFires, hf, State.acqWindow, hg]

theorem State.acqEvents_sameUi (hf : s.acqFunc c ≠ 3) (hg : s.getF F.ACQ_CFG_GATE c ≠ 3) (u : Time) (n : Nat) :
    SameUi c s (s.acqEvents c u n) := by
  induction n generalizing s with
  | zero => exact .refl c s
  | succ n ih =>
    unfold State.acqEvents
    split
    · split
      · rw [State.acqJudge_of_no_trigger]
        · exact (s.modAcq_sameUi c).trans (ih hf hg)
        · exact hf
        · exact hg
      · exact .refl c s
    · exact .refl c s

/-- The roving sample that comes with a UI of a voltage histogram of main samples only moves the sweep. -/
theorem State.rovTake_sameUi {k code : Nat} (hf : s.acqFunc c = 2) (hv : s.flag F.ACQ_CFG_VSRC c = false) :
    SameUi c s (s.rovTake c k code) := by
  unfold State.rovTake
  rw [State.rovCount_of_histogram hf hv]
  extract_lets
  split
  · exact .refl c s
  · split
    · exact s.modAcq_sameUi c
    · split
      · exact s.modAcq_sameUi c
      · exact .refl c s

/-- A UI of a voltage histogram of main samples adds its code. -/
theorem State.acqTake_sameUi {q : AcqUi} (hf : s.acqFunc c = 2) (hv : s.flag F.ACQ_CFG_VSRC c = false) (hq : q.cross = none) :
    SameUi c (s.incBin c (q.code * 4)) (s.acqTake c q) := by
  have hf' : (s.incBin c (q.code * 4)).acqFunc c = 2 := (State.getF_incBin (by decide)).trans hf
  have hv' : (s.incBin c (q.code * 4)).flag F.ACQ_CFG_VSRC c = false := by
    rw [State.flag, State.getF_incBin (by decide)]
    exact hv
  unfold State.acqTake
  simp only [hf, hv, hq]
  split
  · exact State.rovTake_sameUi hf' hv'
  · exact .refl c _

/-- The UI as it joins the latest ones of a histogram with no gate: with the roving sample that waited for it, counted in the run. -/
def State.newUi (s : State) (c : Nat) (start u ui : Time) (code : Nat) : AcqUi :=
  { start := start, t := u, ui := ui, code := code, rov := (s.chanOf c).acq.rov, counted := (s.chanOf c).acq.inRun start }

/-- The UI is the latest of its channel. -/
def State.joinUi (s : State) (c : Nat) (q : AcqUi) : State :=
  s.modAcq c (fun z => { z with uis := (q :: z.uis).take 4096, rov := none })

theorem State.head_joinUi (s : State) (c : Nat) (q : AcqUi) : ((s.joinUi c q).chanOf c).acq.uis.head? = some q :=
  congrArg (fun a : AcqSt => a.uis.head?) (s.chanOf_modAcq_acq c _)

theorem State.acqUi_of_histogram {start u ui : Time} {code : Nat} (hf : s.acqFunc c = 2) (hg : s.getF F.ACQ_CFG_GATE c = 0) :
    s.acqUi c start u ui code =
      (if (s.chanOf c).acq.inRun start then (s.joinUi c (s.newUi c start u ui code)).acqTake c (s.newUi c start u ui code)
        else s.joinUi c (s.newUi c start u ui code)).acqEvents c u (s.chanOf c).acq.events.length := by
  have hw : s.acqWrite c code = s := by simp [State.acqWrite, hf]
  have hgate : s.acqGate c u = true := by simp [State.acqGate, hg]
  simp [State.acqUi, hw, hg, hgate, b2n, State.newUi, State.joinUi]

/-- Past the crossing, the sample of a UI leaves all but registers, channels and the slot as it was, its UI is the latest, and it adds its
code where it is counted. -/
theorem State.acqUi_sameUi {start u ui : Time} {code : Nat} (hf : s.acqFunc c = 2) (hg : s.getF F.ACQ_CFG_GATE c = 0)
    (hv : s.flag F.ACQ_CFG_VSRC c = false) :
    SameUi c (if (s.chanOf c).acq.inRun start then (s.joinUi c (s.newUi c start u ui code)).incBin c (code * 4)
      else s.joinUi c (s.newUi c start u ui code)) (s.acqUi c start u ui code) := by
  rw [State.acqUi_of_histogram hf hg]
  have hcode : (s.newUi c start u ui code).code = code := rfl
  have hcross : (s.newUi c start u ui code).cross = none := rfl
  generalize s.newUi c start u ui code = q at hcode hcross
  subst hcode
  generalize hj : s.joinUi c q = j
  have hfj : j.acqFunc c = 2 := by rw [← hj]; exact hf
  have hgj : j.getF F.ACQ_CFG_GATE c = 0 := by rw [← hj]; exact hg
  have hvj : j.flag F.ACQ_CFG_VSRC c = false := by rw [← hj]; exact hv
  split
  · have ht : SameUi c (j.incBin c (q.code * 4)) (j.acqTake c q) := State.acqTake_sameUi hfj hvj hcross
    have hreg (f : Fld) (hs : f.id ≠ F.ACQ_STAT_SAT.id) : (j.acqTake c q).getF f c = j.getF f c :=
      (ht.getF f c).trans (State.getF_incBin hs)
    refine ht.trans (State.acqEvents_sameUi ?_ ?_ _ _)
    · rw [State.acqFunc, hreg _ (by decide)]
      exact fun h => by simp [State.acqFunc, h] at hfj
    · rw [hreg _ (by decide), hgj]
      decide
  · exact State.acqEvents_sameUi (by rw [hfj]; decide) (by rw [hgj]; decide) _ _

end Sys2Proof.Machine
end

section
/-! SUPPORT. The counts of main and roving samples (R218, R219), and what they settle. -/

namespace Sys2Proof.Machine

variable {s t : State} {c b : Nat}

theorem SameUi.sameMems (h : SameUi c s t) : s.sameMems t := by
  have hm {α : Type} (g : State → α) : g { t with chan := s.chan } = g s := congrArg g h.1
  exact ⟨hm State.bb, hm State.acqMem, hm State.dram, hm State.nvm, hm State.psbuf, hm State.cstore, hm State.mirror,
    hm State.tstore⟩

/-! ### Main samples -/

/-- A main sample of a histogram that crosses nothing: its UI joins a state with the memories of before, and adds its code to its bin in
the run. -/
theorem exec_adcSample_of_histogram {ch : Fin 64} {uv : Int} {tm : Time} {ce : Nat} {start u ui : Time} {beat code : Nat}
    (hon : s.rxOn = true) (hui : s.adcUi ch.val tm = some (start, u, ui, beat))
    (hcode : code = s.adcCode ch.val (s.adcInput ch.val uv u)) (hf : s.acqFunc ch.val = 2)
    (hg : s.getF F.ACQ_CFG_GATE ch.val = 0) (hv : s.flag F.ACQ_CFG_VSRC ch.val = false)
    (hx : ∀ q, (s.chanOf ch.val).acq.uis.head? = some q → s.crosses ch.val q.code code = false) :
    ∃ j t, exec (.adcSample ch uv tm ⟨false, ce⟩) s = .next t ∧ s.sameMems j ∧
      (j.chanOf ch.val).acq.uis.head? = some (s.newUi ch.val start u ui code) ∧
      SameUi ch.val (if (s.chanOf ch.val).acq.inRun start then j.incBin ch.val (code * 4) else j) t := by
  obtain ⟨p, hp, he⟩ := exec_adcSample (uv := uv) (ce := ce) hon hui
  obtain ⟨a, ha⟩ := State.acqStep_of_no_crossing (s := p) (c := ch.val) (code := code)
    (by simpa only [hp.acq, hp.crosses ch.isLt] using hx)
  obtain ⟨f, hr, hk⟩ := p.rearm_eq ch.val a code
  rw [← hcode, ha, hr] at he
  have hreg (g : Fld) (hi : g.id ∉ [F.MEM_SCE_CNT.id, F.OCT_LBITCNT_LO_CNT.id, F.OCT_LBITCNT_HI_CNT.id]) :
      (p.modAcq ch.val f).getF g ch.val = s.getF g ch.val := hp.getF hi ch.isLt
  have hacq : ((p.modAcq ch.val f).chanOf ch.val).acq = f (s.chanOf ch.val).acq := by rw [State.chanOf_modAcq_acq, hp.acq]
  obtain ⟨hrov, hrun⟩ := hk (s.chanOf ch.val).acq
  have hnew : (p.modAcq ch.val f).newUi ch.val start u ui code = s.newUi ch.val start u ui code := by
    simp only [State.newUi, hacq, hrov, hrun]
  have hs := State.acqUi_sameUi (s := p.modAcq ch.val f) (c := ch.val) (start := start) (u := u) (ui := ui) (code := code)
    ((hreg _ (by decide)).trans hf) ((hreg _ (by decide)).trans hg) (by rw [State.flag, hreg _ (by decide)]; exact hv)
  rw [hacq, hrun, hnew] at hs
  exact ⟨(p.modAcq ch.val f).joinUi ch.val (s.newUi ch.val start u ui code), _, he, hp.mems, State.head_joinUi .., hs⟩

/-! ### Roving samples -/

/-- A roving sample is counted in the map at once where the main sample of its UI is. -/
theorem exec_rovingSample_counted {ch : Fin 64} {uv : Int} {ce : Nat} {q : AcqUi} {rest : List AcqUi} {p code b : Nat}
    (hon : s.rxOn = true) (hp : p = s.rovPhase ch.val) (hcode : code = s.adcCode ch.val (s.adcInput ch.val uv (s.rovAt ch.val p)))
    (h64 : 64 ≤ p) (hq : (s.chanOf ch.val).acq.uis = q :: rest) (hc : q.counted = true) (hf : s.acqFunc ch.val = 1)
    (hs : s.flag F.ACQ_ROV_SWEEP ch.val = false) (hb : b = (p * 256 + code) * 4) (hlt : s.bin ch.val b < 4294967295) :
    exec (.rovingSample ch ⟨uv, ⟨false, ce⟩⟩) s = .next (((s.rovShown ch.val p ce).modAcq ch.val (fun z =>
      { z with uis := { q with rov := some (p, code) } :: rest })).putBin ch.val b (s.bin ch.val b + 1)) := by
  rw [exec_rovingSample_late hon hp hcode h64 hq, if_pos hc, State.rovTake_of_no_sweep, State.rovCount_of_map, ← hb]
  · exact congrArg Host.Outcome.next (State.incBin_of_lt hlt)
  · exact (State.getF_rovShown_other (by decide) ch.isLt p ce).trans hf
  · change State.flag (s.rovShown ch.val p ce) F.ACQ_ROV_SWEEP ch.val = false
    rw [State.flag, State.getF_rovShown_other (by decide) ch.isLt]
    exact hs

/-- Settles O35: a code is a rounded quotient, a count rewrites the four bytes of its bin, and a complete dwell moves the phase. -/
theorem acquisitionCodesAndCounts : Obligations.AcquisitionCodesAndCounts := by
  refine ⟨fun s c v fs h => State.adcCode_spec h, ?_, ?_, fun ch uv tm ue ce s hoff => exec_samples_of_rx_off hoff,
    fun ch s hs h0 hd => exec_rovingStep_writes hs h0 hd⟩
  · intro ch uv tm ce s start u ui beat code hon hui hcode hf hg hv hx
    obtain ⟨j, t, he, hj, hq, hs⟩ := exec_adcSample_of_histogram (ce := ce) hon hui hcode hf hg hv hx
    obtain ⟨jbb, jacq, jdram, jnvm, -⟩ := hj
    obtain ⟨tbb, tacq, tdram, tnvm, -⟩ := hs.sameMems
    cases hi : (s.chanOf ch.val).acq.inRun start with
    | false =>
      simp only [hi] at hs tbb tacq tdram tnvm
      exact ⟨t, he, tbb.trans jbb, tdram.trans jdram, tnvm.trans jnvm, hs.2.trans (hq.trans (by rw [State.newUi, hi])),
        fun _ => tacq.trans jacq, fun h => by cases h⟩
    | true =>
      simp only [hi, if_true] at hs tbb tacq tdram tnvm
      have hframe {α : Type} (g : State → α) := congrArg g (j.incBin_frame ch.val (code * 4))
      refine ⟨t, he, tbb.trans ((hframe State.bb).trans jbb), tdram.trans ((hframe State.dram).trans jdram),
        tnvm.trans ((hframe State.nvm).trans jnvm), ?_, fun h => by (cases h), fun _ hlt => ?_⟩
      · rw [hs.2, State.chanOf, hframe State.chan]
        exact hq.trans (by rw [State.newUi, hi])
      · rw [← State.bin_congr jacq, ← jacq] at *
        exact State.incBin_counts hlt tacq
  · intro ch uv ce s p code hon hp hcode
    refine ⟨fun h => ?_, fun q rest h64 hq => ⟨fun hc => ?_, fun b hc hf hs hb hlt => ?_⟩⟩
    · subst hp hcode
      exact ⟨_, exec_rovingSample_early hon h, State.chanOf_modAcq_acq .., s.getF_rovShown_rovph ch.isLt .., rfl,
        s.rovShown_regs ch.val _ ce, fun k hk => State.chanOf_modChan_other hk⟩
    · refine ⟨_, (exec_rovingSample_late hon hp hcode h64 hq).trans (congrArg Host.Outcome.next (if_neg (by simp [hc]))), rfl, ?_⟩
      exact State.chanOf_modAcq_acq ..
    · exact ⟨_, exec_rovingSample_counted hon hp hcode h64 hq hc hf hs hb hlt, State.bin_putBin (by omega),
        fun a ha => State.get_putBin_other ha _, s.getF_rovShown_rovph ch.isLt .., rfl, s.rovShown_regs ch.val p ce⟩

end Sys2Proof.Machine
end

section
/-! SUPPORT. The memories and the stores keep their canonical form with every step. -/

namespace Sys2Proof.Machine

/-- Settles O6: every command is made of updates that keep the memories and the stores canonical, and an idle step changes nothing. -/
theorem stepKeepsMemoriesCanonical : Obligations.StepKeepsMemoriesCanonical := by
  intro s t hm hs e
  obtain rfl | ⟨c, rest, -, hk⟩ := step_keeps e
  · exact ⟨hm, hs⟩
  · exact ⟨hk.mems hm, hk.stores hs⟩

end Sys2Proof.Machine
end

section
/-! SUPPORT. The fail rule of a vector (R67), one equation for each of the expect codes X, L, H and T. -/

namespace Sys2Proof.Machine

variable {v : Vect}

theorem Vect.fails_of_expect_x (h : v.expect = 0) : v.fails = false := by
  simp [Vect.fails, h]

theorem Vect.fails_of_expect_low (h : v.expect = 1) : v.fails = (v.saLvl || (v.smode && v.changed)) := by
  simp [Vect.fails, h]

theorem Vect.fails_of_expect_high (h : v.expect = 2) : v.fails = (!v.saLvl || (v.smode && v.changed)) := by
  simp [Vect.fails, h]

theorem Vect.fails_of_expect_toggle (h : v.expect = 3) :
    v.fails = if v.smode then !v.changed else v.saLvl == v.sbLvl := by
  simp [Vect.fails, h]

/-- Settles O26: at either strobe mode the equation of each expect code is the rule of the table. -/
theorem compareRule : Obligations.CompareRule := by
  intro v
  refine ⟨fun hm => ?_, fun hm => ?_⟩ <;>
    exact ⟨Vect.fails_of_expect_x, fun h => by simp [Vect.fails_of_expect_low h, hm],
      fun h => by simp [Vect.fails_of_expect_high h, hm], fun h => by simp [Vect.fails_of_expect_toggle h, hm]⟩

end Sys2Proof.Machine
end

section
/-! SUPPORT. Bytes and nibbles of a beat buffer (R69), and the writes that only owned nibbles take (R71). -/

namespace Sys2Proof.Machine

variable {s t : State} {x o r c b : Nat}

/-! ### Bytes -/

theorem State.bbByte_setBb_same (s : State) (o b : Nat) (v : Byte) : (s.setBb o b v).bbByte o b = v :=
  Tbl.get_set_same ..

theorem State.bbByte_setBb_other {d : Nat} (h : d ≠ b) (v : Byte) : (s.setBb o b v).bbByte o d = s.bbByte o d :=
  Tbl.get_set_other (by omega)

/-! ### Nibbles -/

theorem putNibble_toNat_low (b : Byte) (v : Nat) : (putNibble b false v).toNat = b.toNat / 16 * 16 + v % 16 := by
  simp only [putNibble, Bool.false_eq_true, if_false, BitVec.toNat_ofNat]
  omega

theorem putNibble_toNat_high (b : Byte) (v : Nat) : (putNibble b true v).toNat = b.toNat % 16 + v % 16 * 16 := by
  simp only [putNibble, if_true, BitVec.toNat_ofNat]
  omega

/-- The nibble beside the one that is written stays. -/
theorem putNibble_other (b : Byte) (v : Nat) {c d : Nat} (h : d % 2 ≠ c % 2) :
    (putNibble b (c % 2 == 1) v).toNat / 16 ^ (d % 2) % 16 = b.toNat / 16 ^ (d % 2) % 16 := by
  obtain hc | hc := Nat.mod_two_eq_zero_or_one c
  · have hd : d % 2 = 1 := by omega
    rw [hc, hd, show ((0 : Nat) == 1) = false from rfl, putNibble_toNat_low]
    omega
  · have hd : d % 2 = 0 := by omega
    rw [hc, hd, show ((1 : Nat) == 1) = true from rfl, putNibble_toNat_high]
    omega

/-- Writing a nibble leaves every other nibble of the octet. -/
theorem State.nibble_setNibble_other {r' c' : Nat} (hc : c < 8) (hc' : c' < 8) (h : ¬ (r = r' ∧ c = c')) (v : Nat) :
    (s.setNibble o r' c' v).nibble o r c = s.nibble o r c := by
  simp only [State.nibble, State.setNibble]
  by_cases hb : r * 4 + c / 2 = r' * 4 + c' / 2
  · have hp : c % 2 ≠ c' % 2 := by omega
    rw [hb, State.bbByte_setBb_same, putNibble_other _ _ hp]
  · rw [State.bbByte_setBb_other hb]

/-! ### Writes for a site -/

/-- From `s` to `t` nothing changes but the beat buffers. -/
def BbOnly (s t : State) : Prop := { t with bb := s.bb } = s

theorem BbOnly.refl (s : State) : BbOnly s s := rfl

theorem BbOnly.ite {p : Prop} [Decidable p] {u : State} (ht : BbOnly s t) (hu : BbOnly s u) : BbOnly s (if p then t else u) := by
  split
  · exact ht
  · exact hu

theorem BbOnly.foldl {α : Type} {l : List α} {f : State → α → State} (h : BbOnly s t)
    (hf : ∀ {a x}, BbOnly s a → BbOnly s (f a x)) : BbOnly s (l.foldl f t) :=
  List.foldlRecOn (motive := BbOnly s) l f h fun _ ha _ _ => hf ha

theorem BbOnly.setNibble (h : BbOnly s t) {v : Nat} : BbOnly s (t.setNibble o r c v) := h

theorem BbOnly.bbWriteByte (h : BbOnly s t) {v : Nat} : BbOnly s (t.bbWriteByte x o b v) :=
  h.foldl fun ha => ha.setNibble.ite ha

theorem BbOnly.ownsNibble (h : BbOnly s t) (x o r c : Nat) : t.ownsNibble x o r c = s.ownsNibble x o r c := by
  have ht : ({ t with bb := s.bb } : State).ownsNibble x o r c = s.ownsNibble x o r c := by rw [h]
  exact ht

/-- From `s` to `t` nothing changes but nibbles of octet `o` that site `x` owns. -/
def OwnedOnly (x o : Nat) (s t : State) : Prop :=
  BbOnly s t ∧ ∀ r c, c < 8 → s.ownsNibble x o r c = false → t.nibble o r c = s.nibble o r c

theorem OwnedOnly.refl (x o : Nat) (s : State) : OwnedOnly x o s s := ⟨.refl s, fun _ _ _ _ => rfl⟩

theorem OwnedOnly.setNibble (h : OwnedOnly x o s t) (hc : c < 8) (hown : s.ownsNibble x o r c = true) (v : Nat) :
    OwnedOnly x o s (t.setNibble o r c v) := by
  refine ⟨h.1.setNibble, fun r' c' hc' hn => ?_⟩
  have hne : ¬ (r' = r ∧ c' = c) := by
    rintro ⟨rfl, rfl⟩
    exact Bool.false_ne_true (hn.symm.trans hown)
  rw [State.nibble_setNibble_other hc' hc hne, h.2 r' c' hc' hn]

theorem OwnedOnly.bbWriteByte (h : OwnedOnly x o s t) (b v : Nat) : OwnedOnly x o s (t.bbWriteByte x o b v) := by
  refine List.foldlRecOn (motive := OwnedOnly x o s) _ _ h fun a ha i hi => ?_
  have hi : i < 2 := by
    simp only [List.mem_cons, List.not_mem_nil, or_false] at hi
    omega
  dsimp only
  split
  next hown =>
    rw [h.1.ownsNibble] at hown
    exact ha.setNibble (by omega) hown _
  next => exact ha

/-- A byte whose two nibbles the site owns is written as the two nibbles. -/
theorem State.bbWriteByte_of_owned (h : ∀ i, i < 2 → s.ownsNibble x o (b / 4) (b % 4 * 2 + i) = true) (v : Nat) :
    s.bbWriteByte x o b v =
      (s.setBb o b (putNibble (s.bbByte o b) false v)).setBb o b
        (putNibble ((s.setBb o b (putNibble (s.bbByte o b) false v)).bbByte o b) true (v / 16)) := by
  have h0 := h 0 (by omega)
  have h1 := h 1 (by omega)
  have hb0 : b / 4 * 4 + (b % 4 * 2 + 0) / 2 = b := by omega
  have hb1 : b / 4 * 4 + (b % 4 * 2 + 1) / 2 = b := by omega
  have hp0 : ((b % 4 * 2 + 0) % 2 == 1) = false := by simp
  have hp1 : ((b % 4 * 2 + 1) % 2 == 1) = true := by simp [Nat.add_mod]
  simp only [State.bbWriteByte, List.foldl_cons, List.foldl_nil, h0, h1, if_true, State.setNibble, hb0, hb1, hp0, hp1,
    pow_zero, pow_one, Nat.div_one]

/-- Such a byte holds what was written. -/
theorem State.bbByte_bbWriteByte_of_owned (h : ∀ i, i < 2 → s.ownsNibble x o (b / 4) (b % 4 * 2 + i) = true) (v : Nat) :
    ((s.bbWriteByte x o b v).bbByte o b).toNat = v % 256 := by
  rw [State.bbWriteByte_of_owned h, State.bbByte_setBb_same, putNibble_toNat_high, State.bbByte_setBb_same,
    putNibble_toNat_low]
  omega

/-- A byte written for a site leaves every other byte of the beat buffers. -/
theorem State.get_bbWriteByte_other {a : Nat} (ha : a ≠ o * 12582912 + b) (v : Nat) :
    Tbl.get (fun _ => (0 : Byte)) (s.bbWriteByte x o b v).bb a = Tbl.get (fun _ => 0) s.bb a := by
  refine List.foldlRecOn (motive := fun t : State => Tbl.get _ t.bb a = Tbl.get _ s.bb a) _ _ rfl fun t ht i hi => ?_
  have hi : i < 2 := by
    simp only [List.mem_cons, List.not_mem_nil, or_false] at hi
    omega
  dsimp only
  split
  next => exact (Tbl.get_set_other (by omega)).trans ht
  next => exact ht

/-! ### The window (R71, R333) -/

/-- A write of a VF that the window serves writes its bytes for the VF's site, the lowest first. -/
theorem exec_bbWindowWrite_served {n : Fin 16} {oct : Fin 8} {off size data : Nat} (hl : s.vfLive (.vf n) = true)
    (hw : winSize off size = true) (hb : off + size ≤ 262144) (hp : s.getF F.OCT_BBPAGE_PAGE (oct.val * 17 + n.val) < 48)
    (hs : s.flag F.SITE_SSTAT_SCRUB n.val = false) :
    exec (.bbWindowWrite (.vf n) oct off size data) s = .next ((List.range size).foldl (fun a j => a.bbWriteByte n.val oct.val
      (s.getF F.OCT_BBPAGE_PAGE (oct.val * 17 + n.val) * 262144 + off + j) (data / 256 ^ j % 256)) s) := by
  refine if_pos ?_
  simp only [hl, hw, hb, hp, hs]
  rfl

/-- A write of a VF that SCRUB, its size or its bounds keep out changes nothing. -/
theorem exec_bbWindowWrite_refused {n : Fin 16} {oct : Fin 8} {off size data : Nat}
    (h : s.flag F.SITE_SSTAT_SCRUB n.val = true ∨ winSize off size = false ∨ 262144 < off + size) :
    exec (.bbWindowWrite (.vf n) oct off size data) s = .next s := by
  refine if_neg ?_
  simp only [Bool.and_eq_true, decide_eq_true_eq, Bool.not_eq_true']
  rintro ⟨⟨⟨⟨-, hw⟩, hb⟩, -⟩, hs⟩
  rcases h with h | h | h
  · simp [hs] at h
  · simp [hw] at h
  · omega

/-- A write of a VF, served or not, changes only nibbles that its site owns. -/
theorem exec_bbWindowWrite_ownedOnly {n : Fin 16} {oct : Fin 8} {off size data : Nat}
    (e : exec (.bbWindowWrite (.vf n) oct off size data) s = .next t) : OwnedOnly n.val oct.val s t := by
  change execBbWindowWrite (.vf n) oct off size data s = .next t at e
  simp only [execBbWindowWrite] at e
  split at e <;> cases e
  · exact List.foldlRecOn (motive := OwnedOnly n.val oct.val s) _ _ (.refl ..) fun _ ha _ _ => ha.bbWriteByte _ _
  · exact .refl ..

/-- Settles O24: the bytes of a served write are written nibble by nibble, each where the site owns it. -/
theorem beatBufferWindowRespectsOwners : Obligations.BeatBufferWindowRespectsOwners := by
  refine ⟨fun n o off size data r c s t hc e hn => (exec_bbWindowWrite_ownedOnly e).2 r c hc hn, ?_,
    fun n o off size data s h => exec_bbWindowWrite_refused h⟩
  intro n o off data s hl ho hp hs hown
  have hw : winSize off 1 = true := by simp [winSize, Nat.mod_one]
  have he := exec_bbWindowWrite_served (data := data) hl hw (by omega) hp hs
  simp only [List.range_one, List.foldl_cons, List.foldl_nil, Nat.add_zero, pow_zero, Nat.div_one] at he
  have hmod : ∀ p, (p * 262144 + off) % 4 = off % 4 := by omega
  refine ⟨_, he, ?_, (BbOnly.refl s).bbWriteByte, fun a ha => State.get_bbWriteByte_other ha _⟩
  rw [State.bbByte_bbWriteByte_of_owned (fun i hi => by rw [hmod]; exact hown i hi), Nat.mod_mod]

end Sys2Proof.Machine
end

section
/-! SUPPORT. The registers of a stream slot (R78, R328), and what a VF's order to its own site acts on (R334). -/

namespace Sys2Proof.Machine

variable {s : State} {k x y : Nat}

/-! ### Several fields of one index -/

theorem State.setFs_regsOnly (s : State) (i : Nat) (l : List (Fld × Nat)) :
    RegsOnly (l.map fun p => p.1.key i) s (s.setFs i l) :=
  (RegsOnly.refl _ s).setFs fun _ hp => List.mem_map_of_mem hp

theorem State.getF_setFs_other {f : Fld} {l : List (Fld × Nat)} {i j : Nat} (h : ∀ p ∈ l, f.key j ≠ p.1.key i) :
    (s.setFs i l).getF f j = s.getF f j :=
  (s.setFs_regsOnly i l).2.getF fun hm => by
    obtain ⟨p, hp, e⟩ := List.mem_map.1 hm
    exact h p hp e.symm

/-- Of fields with different numbers each reads the low bits of the value given to it. -/
theorem State.getF_setFs_mem {p : Fld × Nat} {l : List (Fld × Nat)} (hp : p ∈ l) (h : (l.map fun p => p.1.id).Nodup) (i : Nat) :
    (s.setFs i l).getF p.1 i = p.2 % 2 ^ p.1.width := by
  induction l generalizing s with
  | nil => cases hp
  | cons q l ih =>
    obtain ⟨hq, hl⟩ := List.nodup_cons.1 h
    obtain rfl | hp := List.mem_cons.1 hp
    · have hne : ∀ r ∈ l, p.1.key i ≠ r.1.key i := fun r hr =>
        Fld.key_ne_same fun e => hq (List.mem_map.2 ⟨r, hr, e.symm⟩)
      exact (State.getF_setFs_other hne).trans (State.getF_setF_same ..)
    · exact ih hp hl

theorem State.setFs_modSite (s : State) (i : Nat) (l : List (Fld × Nat)) (y : Nat) (f : SiteSt → SiteSt) :
    (s.modSite y f).setFs i l = (s.setFs i l).modSite y f := by
  induction l generalizing s with
  | nil => rfl
  | cons p l ih => exact ih (s.setF p.1 i p.2)

theorem State.setStream_modSite (s : State) (k : Nat) (v : StreamSt) (y : Nat) (f : SiteSt → SiteSt) :
    (s.modSite y f).setStream k v = (s.setStream k v).modSite y f := rfl

/-! ### The registers that a site finds (R328) -/

theorem State.vsFor_of_kept (h : (s.streamOf k).site.isSome = true ∨ (s.streamOf k).user = some x) : s.vsFor k x = s := by
  refine if_neg ?_
  rintro ⟨hn, hu⟩
  rcases h with h | h
  · simp [hn] at h
  · exact hu h

/-- A free slot of another site comes with its registers reset. -/
theorem State.vsFor_of_other (hn : (s.streamOf k).site = none) (hu : (s.streamOf k).user ≠ some x) :
    s.vsFor k x = (s.setFs k (vsFlds.map fun f => (f, f.reset k))).setStream k { user := some x } :=
  if_pos ⟨hn, hu⟩

theorem vsFlds_reset_lt {f : Fld} (hf : f ∈ vsFlds) (k : Nat) : f.reset k < 2 ^ f.width := by
  have h : ∀ f ∈ vsFlds, f.tab = [] ∧ f.rst < 2 ^ f.width := by decide
  obtain ⟨ht, hr⟩ := h f hf
  simpa [Fld.reset, ht] using hr

theorem vsFlds_ids_nodup : (vsFlds.map Fld.id).Nodup := by decide

theorem State.getF_vsFor_of_other (hn : (s.streamOf k).site = none) (hu : (s.streamOf k).user ≠ some x) {f : Fld}
    (hf : f ∈ vsFlds) : (s.vsFor k x).getF f k = f.reset k := by
  rw [State.vsFor_of_other hn hu, State.getF_setStream]
  refine (State.getF_setFs_mem (List.mem_map_of_mem hf) ?_ k).trans (Nat.mod_eq_of_lt (vsFlds_reset_lt hf k))
  rw [List.map_map]
  exact vsFlds_ids_nodup

/-- Taking a slot changes registers and the slot alone. -/
theorem State.vsFor_frame (s : State) (k x : Nat) : { s.vsFor k x with reg := s.reg, stream := s.stream } = s := by
  unfold State.vsFor
  split
  · exact congrArg (fun a : State => { a with stream := s.stream }) (s.setFs_regsOnly k _).1
  · rfl

/-- A field that no slot has reads as before. -/
theorem State.getF_vsFor_other {f : Fld} {i : Nat} (hf : f.id ∉ vsFlds.map Fld.id) (hi : i < 1048576) (hk : k < 1048576) :
    (s.vsFor k x).getF f i = s.getF f i := by
  unfold State.vsFor
  split
  · rw [State.getF_setStream]
    refine State.getF_setFs_other fun p hp => ?_
    obtain ⟨g, hg, rfl⟩ := List.mem_map.1 hp
    exact Fld.key_ne (fun e => hf (e ▸ List.mem_map_of_mem hg)) hi hk
  · rfl

theorem State.vsFor_modSite (s : State) (k x y : Nat) (f : SiteSt → SiteSt) :
    (s.modSite y f).vsFor k x = (s.vsFor k x).modSite y f := by
  by_cases h : (s.streamOf k).site = none ∧ (s.streamOf k).user ≠ some x
  · rw [State.vsFor_of_other h.1 h.2, State.vsFor_of_other (s := s.modSite y f) h.1 h.2, State.setFs_modSite,
      State.setStream_modSite]
  · exact (if_neg h).trans (congrArg (fun a : State => a.modSite y f) (if_neg h).symm)

/-- Taking a slot writes no memory. -/
theorem State.vsFor_sameMems (s : State) (k x : Nat) : s.sameMems (s.vsFor k x) := by
  have hm {α : Type} (g : State → α) : g { s.vsFor k x with reg := s.reg, stream := s.stream } = g s :=
    congrArg g (s.vsFor_frame k x)
  exact ⟨hm State.bb, hm State.acqMem, hm State.dram, hm State.nvm, hm State.psbuf, hm State.cstore, hm State.mirror,
    hm State.tstore⟩

theorem State.vfLive_vsFor (s : State) (hk : k < 1048576) (y : Nat) (n : Fin 16) :
    (s.vsFor k y).vfLive (.vf n) = s.vfLive (.vf n) := by
  have hn : { s.vsFor k y with reg := s.reg, stream := s.stream }.numVfs = s.numVfs := congrArg State.numVfs (s.vsFor_frame k y)
  have hp : (s.vsFor k y).getF F.SITE_MAP_WORD (n.val * 64 + 1) = s.getF F.SITE_MAP_WORD (n.val * 64 + 1) :=
    State.getF_vsFor_other (by decide) (by omega) hk
  simp only [State.vfLive, State.present, State.map, hp, show (s.vsFor k y).numVfs = s.numVfs from hn]

/-! ### A VF's order (R334) -/

/-- The site with one order on record. -/
def State.ordered (s : State) (y : Nat) (o : Order) : State := s.modSite y fun t => { t with orders := [o] }

@[simp] theorem State.getF_ordered (s : State) (y : Nat) (o : Order) (f : Fld) (i : Nat) : (s.ordered y o).getF f i = s.getF f i := rfl
@[simp] theorem State.streamOf_ordered (s : State) (y : Nat) (o : Order) (k : Nat) : (s.ordered y o).streamOf k = s.streamOf k := rfl
@[simp] theorem State.vfLive_ordered (s : State) (y : Nat) (o : Order) (fn : Fn) : (s.ordered y o).vfLive fn = s.vfLive fn := rfl

theorem State.vsFor_ordered (s : State) (y : Nat) (o : Order) (k x : Nat) :
    (s.ordered y o).vsFor k x = (s.vsFor k x).ordered y o := s.vsFor_modSite ..

/-- The order of a VF whose site has no other order on record acts, and is put on record. -/
theorem State.hostOrder_of_hostFree {n : Fin 16} (h : s.hostFree n) (d : RegDesc) (ix val : Nat) (act : State → Res) :
    s.hostOrder (.vf n) true d ix val act = act (s.ordered n.val ⟨s.nowNs, 2, 2, d.addr ix, val, 0⟩) := by
  obtain ⟨hl, ho, hr⟩ := h
  exact (if_pos (by rw [hl]; rfl)).trans (State.order_alone ho hr)

/-- An order on record leaves the regions that a site can use. -/
theorem State.regionsCover_ordered (s : State) (y : Nat) (o : Order) (x b n a : Nat) :
    (s.ordered y o).regionsCover x b n a = s.regionsCover x b n a := by
  have hg (z : Nat) : ((s.ordered y o).siteOf z).gone = (s.siteOf z).gone := by
    by_cases hz : z = y
    · rw [hz, State.ordered, State.siteOf_modSite_same]
    · rw [State.ordered, State.siteOf_modSite_other hz]
  have hr (a : Nat) : (s.ordered y o).regionAt x a = s.regionAt x a := by
    simp only [State.regionAt, State.regUsable, hg]
    rfl
  induction n generalizing a with
  | zero => rfl
  | succ n ih =>
    simp only [State.regionsCover, hr, ih]
    rfl

/-- An order on record leaves what R79 judges. -/
theorem State.streamFits_ordered (s : State) (y : Nat) (o : Order) (x k : Nat) :
    (s.ordered y o).streamFits x k = s.streamFits x k := by
  simp only [State.streamFits, State.regionsCover_ordered]
  rfl

end Sys2Proof.Machine
end

section
/-! SUPPORT. Requests of a stream (R80, R348), and its START, STOP and refill (R78 to R80). -/

namespace Sys2Proof.Machine

variable {s t : State} {k x : Nat}

/-! ### Requests that enter the controller (R348) -/

/-- From `s` to `t` requests enter the controller and channels wake; nothing else changes. -/
def Asked (s t : State) : Prop :=
  { t with reg := s.reg, reqs := s.reqs, serial := s.serial } = s ∧ RegsBut [F.MEM_PDSTAT_LVL.key 0] s t

theorem Asked.refl (s : State) : Asked s s := ⟨rfl, .refl _ s⟩

theorem Asked.ite {c : Prop} [Decidable c] {u : State} (ht : Asked s t) (hu : Asked s u) : Asked s (if c then t else u) := by
  split
  · exact ht
  · exact hu

theorem Asked.foldl {α : Type} {l : List α} {f : State → α → State} (h : Asked s t)
    (hf : ∀ {a x}, Asked s a → Asked s (f a x)) : Asked s (l.foldl f t) :=
  List.foldlRecOn (motive := Asked s) l f h fun _ ha _ _ => hf ha

theorem Asked.dcWake (h : Asked s t) {d : Nat} : Asked s (t.dcWake d) :=
  ⟨h.1, h.2.setF (List.mem_singleton_self _)⟩

theorem Asked.enqueue (h : Asked s t) {r : MemReq} : Asked s (t.enqueue r) :=
  Asked.dcWake (t := { t with reqs := _, serial := _ }) h

theorem Asked.ltolWake (h : Asked s t) {k : Nat} : Asked s (t.ltolWake k) :=
  h.foldl fun ha => ha.dcWake.ite ha

theorem Asked.streamOf (h : Asked s t) (k : Nat) : t.streamOf k = s.streamOf k := by
  have hs := congrArg State.stream h.1
  exact congrArg (Tbl.get (fun _ => {}) · k) hs

theorem Asked.getF (h : Asked s t) {f : Fld} {i : Nat} (hf : f.id ≠ F.MEM_PDSTAT_LVL.id) (hi : i < 1048576) :
    t.getF f i = s.getF f i :=
  h.2.getF fun hm => Fld.key_ne hf hi (by decide) (List.mem_singleton.1 hm)

theorem Asked.sameMems (h : Asked s t) : s.sameMems t := by
  have hm {α : Type} (g : State → α) : g { t with reg := s.reg, reqs := s.reqs, serial := s.serial } = g s := congrArg g h.1
  exact ⟨hm State.bb, hm State.acqMem, hm State.dram, hm State.nvm, hm State.psbuf, hm State.cstore, hm State.mirror,
    hm State.tstore⟩

/-! ### The refill (R80) -/

/-- A refill asks for its blocks and notes that it runs. -/
theorem State.refillFrom_asked (s : State) (x k n m : Nat) :
    ∃ w, Asked s w ∧ s.refillFrom x k n m = w.setStream k { s.streamOf k with refill := true } :=
  ⟨_, (Asked.refl s).foldl fun ha => ha.enqueue, rfl⟩

/-- Where records in DRAM fit in the FIFO a refill begins; else nothing changes. -/
theorem State.refill_cases (s : State) (x k : Nat) :
    s.refill x k = s ∨ ∃ w, Asked s w ∧ s.refill x k = w.setStream k { s.streamOf k with refill := true } := by
  simp only [State.refill]
  split
  · exact .inr (s.refillFrom_asked ..)
  · exact .inl rfl

/-- A refill writes no field but LVL, no memory, and of its slot only that it runs. -/
theorem State.refill_spec (s : State) (x k : Nat) :
    RegsBut [F.MEM_PDSTAT_LVL.key 0] s (s.refill x k) ∧ s.sameMems (s.refill x k) ∧
      ∃ b, (s.refill x k).streamOf k = { s.streamOf k with refill := b } := by
  obtain h | ⟨w, hw, h⟩ := s.refill_cases x k <;> rw [h]
  · exact ⟨.refl _ s, .refl s, _, rfl⟩
  · exact ⟨hw.2, hw.sameMems, true, State.streamOf_setStream_same ..⟩

/-- A stream half empty with records in DRAM that fit asks for them. -/
theorem exec_streamRefill_asks {k : Fin 4} (hx : (s.streamOf k.val).site = some x) (hr : (s.streamOf k.val).refill = false)
    (hh : ((s.streamOf k.val).filled - (s.streamOf k.val).taken) * 2 ≤ s.getF F.MEM_VSCFG_FDEPTH k.val * 4096)
    (hm : (s.streamOf k.val).filled <
      min (s.getF F.MEM_VSLEN_LEN k.val) ((s.streamOf k.val).taken + s.getF F.MEM_VSCFG_FDEPTH k.val * 4096)) :
    ∃ w, Asked s w ∧ exec (.streamRefill k) s = .next (w.setStream k.val { s.streamOf k.val with refill := true }) := by
  obtain ⟨w, hw, e⟩ := s.refillFrom_asked x k.val (s.streamOf k.val).filled
    (min (s.getF F.MEM_VSLEN_LEN k.val) ((s.streamOf k.val).taken + s.getF F.MEM_VSCFG_FDEPTH k.val * 4096))
  refine ⟨w, hw, ?_⟩
  have he : s.refill x k.val = w.setStream k.val { s.streamOf k.val with refill := true } := (if_pos hm).trans e
  change execStreamRefill k s = _
  simp only [execStreamRefill, hx, hr, hh, he]
  rfl

/-! ### START (R79) -/

/-- Slot `k` is held by site `x`, with LTOL by its depth and its least period. -/
def State.streamHeld (s : State) (x k : Nat) : State :=
  (s.setFs k [(F.MEM_VSSTAT_STATE, 1),
      (F.MEM_VSLTOL_LTOL, s.getF F.MEM_VSCFG_FDEPTH k * 2048 * s.getF F.MEM_VSRATE_MINPER k / 8000)]).setStream k
    { site := some x, user := some x, base := s.getF F.MEM_DBLFRONT_FRONT x, since := s.nowNs }

/-- The stream of slot `k` begins for site `x`. -/
def State.streamBegin (s : State) (x k : Nat) : State := ((s.streamHeld x k).ltolWake k).refill x k

/-- START of a slot that is free for the VF's site begins the stream or sets ADM_REJ. -/
theorem exec_streamStart {n : Fin 16} {k : Fin 4} (h : s.hostFree n)
    (h0 : (s.vsFor k.val n.val).getF F.MEM_VSSTAT_STATE k.val = 0) :
    ∃ o, exec (.streamStart (.vf n) k) s = .next (if (s.vsFor k.val n.val).streamFits n.val k.val
      then ((s.vsFor k.val n.val).ordered n.val o).streamBegin n.val k.val
      else ((s.vsFor k.val n.val).ordered n.val o).setF F.MEM_VSSTAT_ADM_REJ k.val 1) := by
  refine ⟨⟨s.nowNs, 2, 2, R.MEM_VSCTL.addr k.val, 1, 0⟩, ?_⟩
  have hl : s.vfLive (.vf n) = true := h.1
  have hv : (s.vsFor k.val n.val).vfLive (.vf n) = true := (s.vfLive_vsFor (by omega) n.val n).trans hl
  change execStreamStart (.vf n) k s = _
  rw [execStreamStart, State.hostOrder_of_hostFree h]
  simp only [State.vfLive_ordered, hl, if_true, State.vsFor_ordered, hv, State.getF_ordered, h0, beq_self_eq_true, Bool.and_self,
    State.streamFits_ordered]
  split <;> rfl

theorem State.getF_streamBegin {f : Fld} (hf : f.id ≠ F.MEM_PDSTAT_LVL.id) (hk : k < 1048576) :
    (s.streamBegin x k).getF f k = (s.streamHeld x k).getF f k := by
  have hne : f.key k ∉ [F.MEM_PDSTAT_LVL.key 0] := fun hm => Fld.key_ne hf hk (by decide) (List.mem_singleton.1 hm)
  exact ((State.refill_spec ..).1.getF hne).trans ((Asked.refl _).ltolWake.getF hf hk)

theorem State.getF_streamBegin_state (s : State) (x : Nat) (hk : k < 1048576) :
    (s.streamBegin x k).getF F.MEM_VSSTAT_STATE k = 1 := by
  have hne : F.MEM_VSSTAT_STATE.id ≠ F.MEM_VSLTOL_LTOL.id := by decide
  rw [State.getF_streamBegin (by decide) hk, State.streamHeld, State.getF_setStream, State.setFs, List.foldl_cons,
    List.foldl_cons, List.foldl_nil, State.getF_setF_other (Fld.key_ne_same hne), State.getF_setF_same]
  rfl

theorem State.getF_streamBegin_ltol (s : State) (x : Nat) (hk : k < 1048576) :
    (s.streamBegin x k).getF F.MEM_VSLTOL_LTOL k =
      s.getF F.MEM_VSCFG_FDEPTH k * 2048 * s.getF F.MEM_VSRATE_MINPER k / 8000 % 2 ^ F.MEM_VSLTOL_LTOL.width := by
  rw [State.getF_streamBegin (by decide) hk, State.streamHeld, State.getF_setStream, State.setFs, List.foldl_cons,
    List.foldl_cons, List.foldl_nil, State.getF_setF_same]

/-- The slot of a stream that begins, but for whether its fill runs. -/
theorem State.streamOf_streamBegin (s : State) (x k : Nat) :
    ∃ b, (s.streamBegin x k).streamOf k =
      { site := some x, user := some x, base := s.getF F.MEM_DBLFRONT_FRONT x, since := s.nowNs, refill := b } := by
  obtain ⟨-, -, b, hb⟩ := ((s.streamHeld x k).ltolWake k).refill_spec x k
  refine ⟨b, hb.trans ?_⟩
  rw [(Asked.refl _).ltolWake.streamOf, State.streamHeld, State.streamOf_setStream_same]

theorem State.streamBegin_sameMems (s : State) (x k : Nat) : s.sameMems (s.streamBegin x k) := by
  have hh : s.sameMems (s.streamHeld x k) := .refl s
  obtain ⟨-, hr, -⟩ := ((s.streamHeld x k).ltolWake k).refill_spec x k
  exact hh.trans ((Asked.refl _).ltolWake.sameMems.trans hr)

/-- A stream that meets R79 begins. -/
theorem streamStart_admits {n : Fin 16} {k : Fin 4} (h : s.hostFree n)
    (h0 : (s.vsFor k.val n.val).getF F.MEM_VSSTAT_STATE k.val = 0)
    (hfit : (s.vsFor k.val n.val).streamFits n.val k.val = true) : ∃ t, exec (.streamStart (.vf n) k) s = .next t ∧
      t.getF F.MEM_VSSTAT_STATE k.val = 1 ∧ (t.streamOf k.val).site = some n.val ∧ (t.streamOf k.val).taken = 0 ∧
      t.getF F.MEM_VSLTOL_LTOL k.val = (s.vsFor k.val n.val).getF F.MEM_VSCFG_FDEPTH k.val * 2048 *
        (s.vsFor k.val n.val).getF F.MEM_VSRATE_MINPER k.val / 8000 % 2 ^ F.MEM_VSLTOL_LTOL.width ∧ s.sameMems t := by
  obtain ⟨o, he⟩ := exec_streamStart h h0
  rw [if_pos hfit] at he
  obtain ⟨b, hb⟩ := (((s.vsFor k.val n.val).ordered n.val o).streamOf_streamBegin n.val k.val)
  have hk : k.val < 1048576 := by omega
  refine ⟨_, he, State.getF_streamBegin_state _ _ hk, by rw [hb], by rw [hb], State.getF_streamBegin_ltol _ _ hk, ?_⟩
  exact (s.vsFor_sameMems k.val n.val).trans (State.streamBegin_sameMems ((s.vsFor k.val n.val).ordered n.val o) ..)

/-- A stream that does not meet R79 is refused. -/
theorem streamStart_refuses {u : State} {n : Fin 16} {k : Fin 4} (h : s.hostFree n) (hu : u = s.vsFor k.val n.val)
    (h0 : u.getF F.MEM_VSSTAT_STATE k.val = 0) (hfit : u.streamFits n.val k.val = false) :
    ∃ t, exec (.streamStart (.vf n) k) s = .next t ∧ t.getF F.MEM_VSSTAT_ADM_REJ k.val = 1 ∧
      t.getF F.MEM_VSSTAT_STATE k.val = 0 ∧ { t with reg := u.reg, site := u.site } = u ∧
      RegsBut [F.MEM_VSSTAT_ADM_REJ.key k.val] u t := by
  subst hu
  obtain ⟨o, he⟩ := exec_streamStart h h0
  rw [if_neg (by rw [hfit]; exact Bool.false_ne_true)] at he
  have hne : F.MEM_VSSTAT_STATE.id ≠ F.MEM_VSSTAT_ADM_REJ.id := by decide
  refine ⟨_, he, (State.getF_setF_same ..).trans rfl, (State.getF_setF_other (Fld.key_ne_same hne)).trans h0, rfl, ?_⟩
  exact RegsBut.setF (t := (s.vsFor k.val n.val).ordered n.val o) (.refl _ _) (List.mem_singleton_self _)

/-! ### STOP (R78) -/

/-- STOP from the site that holds a slot ends its stream. -/
theorem exec_streamStop {n : Fin 16} {k : Fin 4} (h : s.hostFree n) (hx : (s.streamOf k.val).site = some n.val) :
    ∃ o, exec (.streamStop (.vf n) k) s = .next ((s.ordered n.val o).streamEnd k.val) := by
  refine ⟨⟨s.nowNs, 2, 2, R.MEM_VSCTL.addr k.val, 2, 0⟩, ?_⟩
  have hl : s.vfLive (.vf n) = true := h.1
  change execStreamStop (.vf n) k s = _
  rw [execStreamStop, State.hostOrder_of_hostFree h]
  simp only [State.streamOf_ordered, hx, State.fnSite, fnIsSite, State.vfLive_ordered, hl, beq_self_eq_true, Bool.and_self, if_true]
  rfl

/-- STOP frees the slot of its site. -/
theorem streamStop_frees {n : Fin 16} {k : Fin 4} (h : s.hostFree n)
    (hx : (s.streamOf k.val).site = some n.val) : ∃ t, exec (.streamStop (.vf n) k) s = .next t ∧
      t.getF F.MEM_VSSTAT_STATE k.val = 0 ∧ t.streamOf k.val = { user := (s.streamOf k.val).user } ∧
      (∀ j, j ≠ k.val → t.streamOf j = s.streamOf j) ∧
      { t with reg := s.reg, site := s.site, stream := s.stream, reqs := s.reqs } = s ∧
      RegsBut [F.MEM_VSSTAT_STATE.key k.val] s t := by
  obtain ⟨o, he⟩ := exec_streamStop h hx
  refine ⟨_, he, (State.getF_setF_same ..).trans (Nat.zero_mod _), State.streamOf_setStream_same ..,
    fun j hj => Tbl.get_set_other hj, rfl, ?_⟩
  exact RegsBut.setF (t := s) (.refl _ s) (List.mem_singleton_self _)

end Sys2Proof.Machine
end

section
/-! SUPPORT. The memory controller: the request served first, its row, and power levels (R326, R340, R345 to R348). -/

namespace Sys2Proof.Machine

variable {s t : State}

/-! ### The service of a request (R326, R347) -/

/-- Request `r` has left the controller, and its block counts on its account and touches its row. -/
def State.served (s : State) (r : MemReq) : State := ({ s with reqs := s.reqs.filter fun q => q.num != r.num } : State).memServe r

theorem State.served_reqs (s : State) (r : MemReq) : (s.served r).reqs = s.reqs.filter fun q => q.num != r.num := by
  unfold State.served State.memServe
  split <;> rfl

theorem State.served_frame (s : State) (r : MemReq) :
    { s.served r with reqs := s.reqs, site := s.site, openRow := s.openRow } = s := by
  unfold State.served State.memServe
  split <;> rfl

@[simp] theorem State.served_reg (s : State) (r : MemReq) : (s.served r).reg = s.reg := by
  unfold State.served State.memServe
  split <;> rfl

@[simp] theorem State.served_stream (s : State) (r : MemReq) : (s.served r).stream = s.stream := by
  unfold State.served State.memServe
  split <;> rfl

@[simp] theorem State.served_dram (s : State) (r : MemReq) : (s.served r).dram = s.dram := by
  unfold State.served State.memServe
  split <;> rfl

theorem State.getF_served (s : State) (r : MemReq) (f : Fld) (i : Nat) : (s.served r).getF f i = s.getF f i := by
  rw [State.getF, State.served_reg, State.getF]

theorem State.served_openRow (s : State) (r : MemReq) :
    (s.served r).openRow = (if 16 ≤ r.site then s else s.rowTouch r.cls (s.dramPos r.phys)).openRow := by
  unfold State.served State.memServe
  split <;> rfl

theorem State.memWin_served (s : State) (r : MemReq) : ((s.served r).siteOf r.account).memWin = s.memWindow := by
  unfold State.served State.memServe
  rw [State.siteOf_modSite_same]
  rfl

theorem State.siteOf_served_other {r : MemReq} {k : Nat} (h : k ≠ r.account) : (s.served r).siteOf k = s.siteOf k := by
  unfold State.served State.memServe
  rw [State.siteOf_modSite_other h]
  split <;> rfl

/-- The row of an access is open at once where the hint of its class says so. -/
theorem State.openRowOf_rowTouch (s : State) (cls : Nat) (p : DramPos) :
    (s.rowTouch cls p).openRowOf p.dc p.bank = if hasBit (s.getF F.MEM_PGHINT_OPEN 0) cls then some p.row else none := by
  have hn : (s.rowTouch cls p).nowNs = s.nowNs := rfl
  rw [State.openRowOf, hn, State.rowTouch, Tbl.get_set_same]
  cases hasBit (s.getF F.MEM_PGHINT_OPEN 0) cls
  · rfl
  · exact if_pos (Nat.le_add_right ..)

/-! ### A block that comes in (R80) -/

theorem BbOnly.stream (h : BbOnly s t) : t.stream = s.stream := by
  have hs := congrArg State.stream h
  exact hs

theorem BbOnly.reqs (h : BbOnly s t) : t.reqs = s.reqs := by
  have hs := congrArg State.reqs h
  exact hs

theorem BbOnly.dram (h : BbOnly s t) : t.dram = s.dram := by
  have hs := congrArg State.dram h
  exact hs

theorem BbOnly.fillRows (h : BbOnly s t) {x k n m blk : Nat} {byte : Nat → Nat} : BbOnly s (t.fillRows x k n m blk byte) :=
  h.foldl fun ha => (ha.foldl (·.bbWriteByte)).ite ha

theorem State.streamOf_setF (s : State) (f : Fld) (i v k : Nat) : (s.setF f i v).streamOf k = s.streamOf k := rfl

/-- A block that is in moves its slot on, and may make the stream ready. -/
theorem State.blockIn_cases (s : State) (k m : Nat) : ∃ v : StreamSt, v.filled = max (s.streamOf k).filled (s.filledTo k m) ∧
    (s.blockIn k m = s.setStream k v ∨ s.blockIn k m = (s.setStream k v).setF F.MEM_VSSTAT_STATE k 2) := by
  refine ⟨{ s.streamOf k with
    filled := max (s.streamOf k).filled (s.filledTo k m)
    refill := s.reqs.any fun r => match r.slot with | some q => q.1 == k | none => false }, rfl, ?_⟩
  unfold State.blockIn
  extract_lets
  split
  · exact .inr rfl
  · exact .inl rfl

/-- Records that count as filled stay so. -/
theorem State.filled_blockIn (s : State) (k m : Nat) : (s.streamOf k).filled ≤ ((s.blockIn k m).streamOf k).filled := by
  obtain ⟨v, hv, h⟩ := s.blockIn_cases k m
  have hle : (s.streamOf k).filled ≤ v.filled := hv ▸ Nat.le_max_left ..
  obtain h | h := h <;> rw [h]
  · rwa [State.streamOf_setStream_same]
  · rwa [State.streamOf_setF, State.streamOf_setStream_same]

@[simp] theorem State.blockIn_reqs (s : State) (k m : Nat) : (s.blockIn k m).reqs = s.reqs := by
  obtain ⟨v, -, h | h⟩ := s.blockIn_cases k m <;> rw [h] <;> rfl

@[simp] theorem State.blockIn_dram (s : State) (k m : Nat) : (s.blockIn k m).dram = s.dram := by
  obtain ⟨v, -, h | h⟩ := s.blockIn_cases k m <;> rw [h] <;> rfl

/-! ### The completion of a request (R340, R345) -/

/-- In self-refresh no request completes (R367, R429). -/
theorem exec_dramRequestComplete_of_selfRefresh (h : s.selfRefresh = true) (d : Fin 16) (e : MemErr) :
    exec (.dramRequestComplete d e) s = .next s := by
  change execDramRequestComplete d e s = _
  simp only [execDramRequestComplete, h, Bool.not_true, Bool.and_false, List.filter_false]
  rfl

section completion

variable {d : Fin 16} {r : MemReq} (hw : s.selfRefresh = false)
  (hb : best s.reqFirst (s.reqs.filter fun q => q.dc == d.val && s.admits q) = some r)
  (hc : hasBit (s.getF F.MEM_CHRET_RET 0) d.val = false)
include hw hb hc

/-- A request of no stream that completes clean is served. -/
theorem exec_dramRequestComplete_clean (hs : r.slot = none) : exec (.dramRequestComplete d .clean) s = .next (s.served r) := by
  change execDramRequestComplete d .clean s = _
  simp only [execDramRequestComplete, hw, Bool.not_false, Bool.and_true, hb, hc, hs]
  cases r.page <;> rfl

/-- One whose error was corrected is served and counted. -/
theorem exec_dramRequestComplete_corrected (hs : r.slot = none) : exec (.dramRequestComplete d .corrected) s =
    .next (((s.served r).incF F.MEM_CECNT_CNT 0).incF F.MEM_CHCE_CNT d.val) := by
  change execDramRequestComplete d .corrected s = _
  simp only [execDramRequestComplete, hw, Bool.not_false, Bool.and_true, hb, hc, hs]
  cases r.page <;> rfl

/-- One of a stream brings its block to the FIFO. -/
theorem exec_dramRequestComplete_stream {k n m : Nat} (hs : r.slot = some (k, n, m)) (hg : s.dramGone r.site = false) :
    ∃ byte, exec (.dramRequestComplete d .clean) s = .next (((s.served r).fillRows r.site k n m r.addr byte).blockIn k m) := by
  refine ⟨fun a => (s.dramByte (r.phys + a % 64)).toNat, ?_⟩
  change execDramRequestComplete d .clean s = _
  simp only [execDramRequestComplete, hw, Bool.not_false, Bool.and_true, hb, hc, hs, hg]
  rfl

/-- A corrected request leaves the controller and counts for the chip and its channel. -/
theorem dramRequestComplete_counts_corrected (hs : r.slot = none) : ∃ t, exec (.dramRequestComplete d .corrected) s = .next t ∧
    t.reqs = s.reqs.filter (fun q => q.num != r.num) ∧
    t.getF F.MEM_CHCE_CNT d.val = (s.getF F.MEM_CHCE_CNT d.val + 1) % 2 ^ F.MEM_CHCE_CNT.width ∧
    { t with reg := s.reg, reqs := s.reqs, site := s.site, openRow := s.openRow } = s ∧
    RegsBut [F.MEM_CECNT_CNT.key 0, F.MEM_CHCE_CNT.key d.val] s t := by
  have hreg : RegsBut [F.MEM_CECNT_CNT.key 0, F.MEM_CHCE_CNT.key d.val] s (s.served r) := fun _ _ => by rw [State.served_reg]
  have hid : F.MEM_CHCE_CNT.id ≠ F.MEM_CECNT_CNT.id := by decide
  refine ⟨_, exec_dramRequestComplete_corrected hw hb hc hs, s.served_reqs r, ?_, ?_, (hreg.setF (by simp)).setF (by simp)⟩
  · rw [State.incF, State.addF, State.getF_setF_same, State.incF, State.addF,
      State.getF_setF_other (Fld.key_ne hid (by omega) (by omega)), State.getF_served]
  · exact congrArg (fun a : State => { a with reg := s.reg }) (s.served_frame r)

/-- A request of a stream leaves the controller, and what counts as filled of the stream stays so. -/
theorem dramRequestComplete_fills_stream {k n m : Nat} (hs : r.slot = some (k, n, m)) (hg : s.dramGone r.site = false) :
    ∃ t, exec (.dramRequestComplete d .clean) s = .next t ∧ t.reqs = s.reqs.filter (fun q => q.num != r.num) ∧
      (s.streamOf k).filled ≤ (t.streamOf k).filled ∧ t.dram = s.dram := by
  obtain ⟨byte, he⟩ := exec_dramRequestComplete_stream hw hb hc hs hg
  have hf : BbOnly (s.served r) ((s.served r).fillRows r.site k n m r.addr byte) := (BbOnly.refl _).fillRows
  refine ⟨_, he, ?_, ?_, ?_⟩
  · rw [State.blockIn_reqs, hf.reqs, State.served_reqs]
  · refine le_trans (le_of_eq ?_) (State.filled_blockIn ..)
    rw [State.streamOf, State.streamOf, hf.stream, State.served_stream]
  · rw [State.blockIn_dram, hf.dram, State.served_dram]

end completion

/-! ### Power levels (R348) -/

/-- An idle channel at L0 enters L1 where the level is enabled and no stream runs. -/
theorem exec_dramPdEnter_one {d : Fin 16} (hr : s.reqs = []) (hv : ∀ k, k < 4 → s.getF F.MEM_VSSTAT_STATE k = 0)
    (he : s.flag F.MEM_PDCFG_PD1EN 0 = true) (ho : bits (s.getF F.MEM_PDSTAT_LVL 0) (2 * d.val + 1) (2 * d.val) = 0) :
    exec (.dramPdEnter d 1) s = .next (s.setF F.MEM_PDSTAT_LVL 0 (s.getF F.MEM_PDSTAT_LVL 0 + 4 ^ d.val)) := by
  change execDramPdEnter d 1 s = _
  have hall : [0, 1, 2, 3].all (fun k => s.getF F.MEM_VSSTAT_STATE k == 0 ||
      decide (2580 ≤ s.getF F.MEM_VSLTOL_LTOL k)) = true := by
    simp [hv]
  simp only [execDramPdEnter, ho, hr, he, Fin.val_one, if_true, List.all_nil, hall]
  simp [ok]

/-- A channel with a request stays at its level. -/
theorem exec_dramPdEnter_of_request {d : Fin 16} {r : MemReq} (hr : r ∈ s.reqs) (hd : r.dc = d.val) (lvl : Fin 3) :
    exec (.dramPdEnter d lvl) s = .next s := by
  refine if_neg ?_
  rintro ⟨-, -, hall, -⟩
  have h := List.all_eq_true.1 hall r hr
  simp [hd] at h

end Sys2Proof.Machine
end

section
/-! SUPPORT. What the parts of streams and of the controller settle. -/

namespace Sys2Proof.Machine

/-- Settles O29: START and STOP act on a slot as it is for the site, a refill asks for blocks, and the request that goes first leaves the
controller with its row and its count of errors. -/
theorem streamsAndMemoryController : Obligations.StreamsAndMemoryController := by
  refine ⟨⟨fun n k s u h hu => by subst hu; exact streamStart_admits h, fun n k s u => streamStart_refuses, fun s k x =>
      ⟨State.vsFor_of_kept, fun hn hu => ⟨fun f hf => State.getF_vsFor_of_other hn hu hf, s.vsFor_frame k x⟩⟩,
      fun n k s => streamStop_frees⟩, ?_, ?_, ?_, fun s cls p => s.openRowOf_rowTouch cls p, ?_,
    fun d lvl s r hr hd => exec_dramPdEnter_of_request hr hd lvl⟩
  · intro k s x hx hr hh hm
    obtain ⟨w, hw, he⟩ := exec_streamRefill_asks hx hr hh hm
    refine ⟨_, he, ?_, ?_, hw.sameMems⟩ <;> rw [State.streamOf_setStream_same]
  · intro d s r hw hb hc
    refine ⟨fun hs => ?_, fun hs => ?_, fun k n m hs hg => ?_⟩
    · exact ⟨_, exec_dramRequestComplete_clean hw hb hc hs, s.served_reqs r, s.memWin_served r, s.served_frame r,
        s.served_openRow r, fun k hk => State.siteOf_served_other hk⟩
    · exact dramRequestComplete_counts_corrected hw hb hc hs
    · exact dramRequestComplete_fills_stream hw hb hc hs hg
  · intro d e s h
    refine exec_dramRequestComplete_of_selfRefresh ?_ d e
    obtain h | h := h
    · rw [State.selfRefresh, h, Bool.true_or]
    · rw [State.selfRefresh, bne_iff_ne.2 h, Bool.or_true]
  · intro d s hr hv he ho
    refine ⟨_, exec_dramPdEnter_one hr hv he ho, State.getF_setF_same .., (RegsOnly.refl _ s).setF (List.mem_singleton_self _)⟩

end Sys2Proof.Machine
end

section
/-! SUPPORT. What the completion of a word loads: VA registers and loop counters (R100, R102 to R104). -/

namespace Sys2Proof.Machine

variable {s : State} {e w pc n k : Nat}

/-! ### Fields with smaller numbers stay where only later ones are written -/

/-- A key of a field with a smaller number is smaller, however large the index of the other: an engine's fields below the stack
outlast a push at any depth. -/
theorem Fld.key_ne_of_id_lt {f g : Fld} {i j : Nat} (h : f.id < g.id) (hi : i < 1048576) : f.key i ≠ g.key j := by
  unfold Fld.key
  omega

/-- The stack changes no field that stands before it. -/
theorem State.getF_stackStep {f : Fld} {i : Nat} {hret : Bool} (hf : f.id < F.SE_SP_SP.id) (hi : i < 1048576) :
    (s.stackStep e w pc hret).getF f i = s.getF f i := by
  have hp : f.id < F.SE_STK_ADDR.id := hf.trans (by decide)
  have h (d v p u : Nat) : ((s.setF F.SE_STK_ADDR d v).setF F.SE_SP_SP p u).getF f i = s.getF f i := by
    rw [State.getF_setF_other (Fld.key_ne_of_id_lt hf hi), State.getF_setF_other (Fld.key_ne_of_id_lt hp hi)]
  unfold State.stackStep
  split
  · exact h ..
  · split
    · exact h ..
    · rfl

theorem State.va_stackStep {hret : Bool} (he : e < 16) (hk : k < 16) : (s.stackStep e w pc hret).va e k = s.va e k := by
  simp only [State.va]
  rw [State.getF_stackStep (by decide) (by omega), State.getF_stackStep (by decide) (by omega),
    State.getF_stackStep (by decide) (by omega)]

/-! ### Loop counters (R104) -/

/-- What a word that changes counter `k` puts there. -/
def State.lcNext (s : State) (e w k : Nat) : Nat :=
  if mLOOP w k = 1 then (if mLSRC w then s.par e (mIMM16 w % 8) else mIMM32 w) else s.lc e k + (2 ^ 32 - 1)

/-- A field is set at the indexes of a list, but where `p` spares it. -/
def State.setSome (s : State) (f : Fld) (b : Nat) (p : Nat → Prop) [DecidablePred p] (v : Nat → Nat) (l : List Nat) : State :=
  l.foldl (fun a j => if p j then a else a.setF f (b + j) (v j)) s

theorem State.loopStep_eq (s : State) (e w : Nat) :
    s.loopStep e w = s.setSome F.SE_LC_LC (e * 4) (fun j => mLOOP w j = 0) (s.lcNext e w) [0, 1, 2, 3] := by
  have h (a : State) (j : Nat) : (match mLOOP w j with
      | 0 => a
      | 1 => a.setF F.SE_LC_LC (e * 4 + j) (if mLSRC w then s.par e (mIMM16 w % 8) else mIMM32 w)
      | _ => a.setF F.SE_LC_LC (e * 4 + j) (s.lc e j + 4294967295)) =
        if mLOOP w j = 0 then a else a.setF F.SE_LC_LC (e * 4 + j) (s.lcNext e w j) := by
    unfold State.lcNext
    split
    · next h0 => rw [if_pos h0]
    · next h1 => rw [h1]; rfl
    · next h0 h1 => rw [if_neg h0, if_neg h1]; rfl
  exact List.foldl_ext _ _ s fun a j _ => h a j

section setSome

variable {f g : Fld} {b i : Nat} {p : Nat → Prop} [DecidablePred p] {v : Nat → Nat} {l : List Nat}

theorem State.getF_setSome_other (h : ∀ j ∈ l, g.key i ≠ f.key (b + j)) : (s.setSome f b p v l).getF g i = s.getF g i := by
  refine List.foldlRecOn (motive := fun a => State.getF a g i = s.getF g i) l _ rfl fun a ha j hj => ?_
  split
  · exact ha
  · rw [State.getF_setF_other (h j hj), ha]

theorem State.getF_setSome_mem (hl : l.Nodup) (hk : k ∈ l) :
    (s.setSome f b p v l).getF f (b + k) = if p k then s.getF f (b + k) else v k % 2 ^ f.width := by
  induction l generalizing s with
  | nil => cases hk
  | cons j l ih =>
    obtain ⟨hj, hl⟩ := List.nodup_cons.1 hl
    change (State.setSome (if p j then s else s.setF f (b + j) (v j)) f b p v l).getF f (b + k) = _
    obtain rfl | hk := List.mem_cons.1 hk
    · rw [State.getF_setSome_other fun m hm => Fld.key_ne_index fun e => hj ((Nat.add_left_cancel e : k = m) ▸ hm)]
      split
      · rfl
      · exact State.getF_setF_same ..
    · have hne : k ≠ j := fun e => hj (e ▸ hk)
      rw [ih hl hk]
      split
      · rw [apply_ite (State.getF · f (b + k)), State.getF_setF_other (Fld.key_ne_index (by omega)), ite_self]
      · rfl

end setSome

theorem State.lc_loopStep (hk : k < 4) : (s.loopStep e w).lc e k = if mLOOP w k = 0 then s.lc e k else s.lcNext e w k % 2 ^ 32 := by
  rw [State.loopStep_eq]
  exact State.getF_setSome_mem (by decide) (List.mem_range (n := 4).2 hk)

/-- Counters alone change. -/
theorem State.getF_loopStep_other {f : Fld} {i : Nat} (hf : f.id ≠ F.SE_LC_LC.id) (hi : i < 1048576) (he : e < 16) :
    (s.loopStep e w).getF f i = s.getF f i := by
  rw [State.loopStep_eq]
  refine State.getF_setSome_other fun j hj => Fld.key_ne hf hi ?_
  simp only [List.mem_cons, List.not_mem_nil, or_false] at hj
  omega

theorem State.va_loopStep (he : e < 16) (hk : k < 16) : (s.loopStep e w).va e k = s.va e k := by
  simp only [State.va]
  rw [State.getF_loopStep_other (by decide) (by omega) he, State.getF_loopStep_other (by decide) (by omega) he,
    State.getF_loopStep_other (by decide) (by omega) he]

theorem State.par_loopStep (he : e < 16) (hk : k < 8) : (s.loopStep e w).par e k = s.par e k :=
  State.getF_loopStep_other (by decide) (by omega) he

/-! ### VA registers (R100, R102) -/

theorem mVSRC_lt (w : Nat) : mVSRC w < 16 := Nat.mod_lt _ (by decide)

theorem mVDST_lt (w : Nat) : mVDST w < 16 := Nat.mod_lt _ (by decide)

theorem mVIMM_lt (w : Nat) : mVIMM w < 2 ^ 22 := Nat.mod_lt _ (by decide)

theorem mIMM32_lt (w : Nat) : mIMM32 w < 2 ^ 32 := by
  have hh : bits w 143 128 < 2 ^ 16 := Nat.mod_lt _ (by decide)
  have hl : mIMM16 w < 2 ^ 16 := Nat.mod_lt _ (by decide)
  unfold mIMM32
  omega

/-- The post-update of R100. -/
def State.postUpdate (s : State) (e w n : Nat) : State :=
  let k := mVSRC w
  let va := s.va e k
  let up := mVOP w == 2 || mVOP w == 5
  let down := mVOP w == 3 || mVOP w == 6
  if (up || down) && !hasBit va 22 then
    s.setF F.SE_VA_ROW (e * 16 + k) (if up then va % 4194304 + n else va % 4194304 + 4194304 - n % 4194304) else s

theorem State.vaStep_of_load_vimm (h : mVAOP w = 1) : s.vaStep e w n = (s.postUpdate e w n).setVa e (mVDST w) (mVIMM w) := by
  simp only [State.vaStep, h]
  rfl

theorem State.vaStep_of_load_slot (h : mVAOP w = 2) :
    s.vaStep e w n = (s.postUpdate e w n).setVa e (mVDST w) (4194304 + mVIMM w % 4 * 8388608) := by
  simp only [State.vaStep, h]
  rfl

theorem State.vaStep_of_load_par (h : mVAOP w = 3) :
    s.vaStep e w n = (s.postUpdate e w n).setVa e (mVDST w) (s.par e (mVIMM w % 8) % 2 ^ 25) := by
  simp only [State.vaStep, h]
  rfl

theorem State.vaStep_of_no_load (h : mVAOP w = 0) : s.vaStep e w n = s.postUpdate e w n := by
  simp only [State.vaStep, h]
  rfl

/-- A word that moves no address updates nothing. -/
theorem State.postUpdate_of_still (h : mVOP w = 0 ∨ mVOP w = 1 ∨ mVOP w = 4 ∨ mVOP w = 7) : s.postUpdate e w n = s := by
  obtain h | h | h | h := h <;> simp [State.postUpdate, h]

theorem State.getF_postUpdate_up (h : mVOP w = 2 ∨ mVOP w = 5) (hb : hasBit (s.va e (mVSRC w)) 22 = false) :
    (s.postUpdate e w n).getF F.SE_VA_ROW (e * 16 + mVSRC w) = (s.va e (mVSRC w) % 2 ^ 22 + n) % 2 ^ 22 := by
  have hu : s.postUpdate e w n = s.setF F.SE_VA_ROW (e * 16 + mVSRC w) (s.va e (mVSRC w) % 4194304 + n) := by
    obtain h | h := h <;> simp [State.postUpdate, h, hb]
  rw [hu]
  exact State.getF_setF_same ..

theorem State.getF_postUpdate_down (h : mVOP w = 3 ∨ mVOP w = 6) (hb : hasBit (s.va e (mVSRC w)) 22 = false) (hn : n < 2 ^ 22) :
    (s.postUpdate e w n).getF F.SE_VA_ROW (e * 16 + mVSRC w) = (s.va e (mVSRC w) % 2 ^ 22 + 2 ^ 22 - n) % 2 ^ 22 := by
  have hu : s.postUpdate e w n = s.setF F.SE_VA_ROW (e * 16 + mVSRC w) (s.va e (mVSRC w) % 4194304 + 4194304 - n % 4194304) := by
    obtain h | h := h <;> simp [State.postUpdate, h, hb]
  rw [hu, Nat.mod_eq_of_lt (b := 4194304) hn]
  exact State.getF_setF_same ..

/-- A load puts 25 bits into a VA register, in its three fields (R100). -/
theorem State.getF_setVa_row (s : State) (e k v : Nat) : (s.setVa e k v).getF F.SE_VA_ROW (e * 16 + k) = v % 2 ^ 22 :=
  State.getF_setFs_mem (p := (F.SE_VA_ROW, v)) (by simp) (by simp [F.SE_VA_ROW, F.SE_VA_STR, F.SE_VA_SLOT]) _

theorem State.getF_setVa_str (s : State) (e k v : Nat) : (s.setVa e k v).getF F.SE_VA_STR (e * 16 + k) = v / 2 ^ 22 % 2 :=
  State.getF_setFs_mem (p := (F.SE_VA_STR, v / 4194304)) (by simp) (by simp [F.SE_VA_ROW, F.SE_VA_STR, F.SE_VA_SLOT]) _

theorem State.getF_setVa_slot (s : State) (e k v : Nat) : (s.setVa e k v).getF F.SE_VA_SLOT (e * 16 + k) = v / 2 ^ 23 % 4 :=
  State.getF_setFs_mem (p := (F.SE_VA_SLOT, v / 8388608)) (by simp) (by simp [F.SE_VA_ROW, F.SE_VA_STR, F.SE_VA_SLOT]) _

theorem State.va_setVa {v : Nat} (hv : v < 2 ^ 25) : (s.setVa e k v).va e k = v := by
  rw [State.va, State.getF_setVa_row, State.getF_setVa_str, State.getF_setVa_slot]
  omega

theorem State.setVa_regsOnly (s : State) (e k v : Nat) :
    RegsOnly (keysAt (e * 16 + k) [F.SE_VA_ROW, F.SE_VA_STR, F.SE_VA_SLOT]) s (s.setVa e k v) :=
  s.setFs_regsOnly ..

/-- VA registers alone change. -/
theorem State.lc_vaStep (he : e < 16) (hk : k < 4) : (s.vaStep e w n).lc e k = s.lc e k := by
  have hv := mVSRC_lt w
  have hd := mVDST_lt w
  have hp : (s.postUpdate e w n).lc e k = s.lc e k := by
    unfold State.postUpdate
    extract_lets
    split
    · exact State.getF_setF_other (Fld.key_ne (by decide) (by omega) (by omega))
    · rfl
  have hl (v : Nat) : ((s.postUpdate e w n).setVa e (mVDST w) v).lc e k = s.lc e k := by
    refine Eq.trans ((State.setVa_regsOnly ..).2.getF fun hm => ?_) hp
    obtain ⟨f, hf, hq⟩ := List.mem_map.1 hm
    refine Fld.key_ne ?_ (by omega) (by omega) hq
    simp only [List.mem_cons, List.not_mem_nil, or_false] at hf
    obtain rfl | rfl | rfl := hf <;> decide
  have hc : mVAOP w < 4 := Nat.mod_lt _ (by decide)
  obtain h | h | h | h : mVAOP w = 0 ∨ mVAOP w = 1 ∨ mVAOP w = 2 ∨ mVAOP w = 3 := by omega
  · rw [State.vaStep_of_no_load h, hp]
  · rw [State.vaStep_of_load_vimm h, hl]
  · rw [State.vaStep_of_load_slot h, hl]
  · rw [State.vaStep_of_load_par h, hl]

/-! ### The completion (R117) -/

theorem State.getF_internal_va {f : Fld} {hret : Bool} (hf : f.id < F.SE_SP_SP.id) (he : e < 16) (hk : k < 16) :
    (s.internal e w pc n hret).getF f (e * 16 + k) = ((s.loopStep e w).vaStep e w n).getF f (e * 16 + k) :=
  State.getF_stackStep hf (by omega)

theorem State.lc_internal {hret : Bool} (he : e < 16) (hk : k < 4) :
    (s.internal e w pc n hret).lc e k = if mLOOP w k = 0 then s.lc e k else s.lcNext e w k % 2 ^ 32 :=
  calc (s.internal e w pc n hret).lc e k = ((s.loopStep e w).vaStep e w n).lc e k := State.getF_stackStep (by decide) (by omega)
    _ = (s.loopStep e w).lc e k := State.lc_vaStep he hk
    _ = _ := State.lc_loopStep hk

/-- Settles O14: the load, the post-update and the counters, which the stack leaves. -/
theorem completionLoadsVaAndCounters : Obligations.CompletionLoadsVaAndCounters := by
  rintro s t e w pc n hret he rfl
  have hs := mVSRC_lt w
  have hd := mVDST_lt w
  have hi := mVIMM_lt w
  refine ⟨fun h => ⟨?_, ?_, ?_⟩, fun h => ⟨?_, ?_, ?_⟩, fun h => ?_, fun h hv k hk => ?_, fun h hv hb => ?_, fun h hv hb hn => ?_,
    fun k hk => ⟨fun h => ?_, fun h hl => ?_, fun h hl => ?_, fun h => ?_⟩⟩
  · rw [State.getF_internal_va (by decide) he hd, State.vaStep_of_load_vimm h, State.getF_setVa_row, Nat.mod_eq_of_lt hi]
  · rw [State.getF_internal_va (by decide) he hd, State.vaStep_of_load_vimm h, State.getF_setVa_str]
    omega
  · rw [State.getF_internal_va (by decide) he hd, State.vaStep_of_load_vimm h, State.getF_setVa_slot]
    omega
  · rw [State.getF_internal_va (by decide) he hd, State.vaStep_of_load_slot h, State.getF_setVa_str]
    omega
  · rw [State.getF_internal_va (by decide) he hd, State.vaStep_of_load_slot h, State.getF_setVa_slot]
    omega
  · rw [State.getF_internal_va (by decide) he hd, State.vaStep_of_load_slot h, State.getF_setVa_row]
    omega
  · rw [State.internal, State.va_stackStep he hd, State.vaStep_of_load_par h, State.va_setVa (Nat.mod_lt _ (by decide)),
      State.par_loopStep he (Nat.mod_lt _ (by decide))]
  · rw [State.internal, State.va_stackStep he hk, State.vaStep_of_no_load h, State.postUpdate_of_still hv, State.va_loopStep he hk]
  · rw [State.getF_internal_va (by decide) he hs, State.vaStep_of_no_load h, State.getF_postUpdate_up hv, State.va_loopStep he hs]
    rwa [State.va_loopStep he hs]
  · rw [State.getF_internal_va (by decide) he hs, State.vaStep_of_no_load h, State.getF_postUpdate_down hv _ hn,
      State.va_loopStep he hs]
    rwa [State.va_loopStep he hs]
  · rw [State.lc_internal he hk, if_pos h]
  · rw [State.lc_internal he hk, if_neg (by omega), State.lcNext, if_pos h, hl, if_neg Bool.false_ne_true,
      Nat.mod_eq_of_lt (mIMM32_lt w)]
  · rw [State.lc_internal he hk, if_neg (by omega), State.lcNext, if_pos h, if_pos hl]
  · rw [State.lc_internal he hk, if_neg (by omega), State.lcNext, if_neg (by omega)]

end Sys2Proof.Machine
end

section
/-! SUPPORT. The issue of a word at a boundary, of a burst and of a training pass (R109, R117, R141, R352). -/

namespace Sys2Proof.Machine

variable {s : State} {e : Fin 16}

/-! ### A burst (R117) -/

/-- A word whose parity disagrees goes to a retry, and its address is recorded (R141). -/
def State.parityRetry (s : State) (e : Nat) : State :=
  ((s.setF F.SE_STATE_PC e (s.engOf e).nextPc).modEng e (fun h => { h with parity := some (s.engOf e).nextS })).setF
    F.SE_MCREC_MCADDR e (s.engOf e).nextPc

theorem State.engOf_setF (s : State) (f : Fld) (i v n : Nat) : (s.setF f i v).engOf n = s.engOf n := rfl

theorem State.engOf_parityRetry_same (s : State) (e : Nat) :
    (s.parityRetry e).engOf e = { s.engOf e with parity := some (s.engOf e).nextS } := by
  rw [State.parityRetry, State.engOf_setF, State.engOf_modEng_same, State.engOf_setF]

theorem State.engOf_parityRetry_other {n k : Nat} (h : k ≠ n) : (s.parityRetry n).engOf k = s.engOf k := by
  rw [State.parityRetry, State.engOf_setF, State.engOf_modEng_other h, State.engOf_setF]

theorem State.parityRetry_regs (s : State) (e : Nat) :
    RegsBut (keysAt e [F.SE_STATE_PC, F.SE_MCREC_MCADDR]) s (s.parityRetry e) := by
  have h : RegsBut (keysAt e [F.SE_STATE_PC, F.SE_MCREC_MCADDR]) s (s.setF F.SE_STATE_PC e (s.engOf e).nextPc) :=
    (RegsBut.refl _ s).setF (by simp [keysAt])
  exact RegsBut.setF (t := (s.setF F.SE_STATE_PC e _).modEng e _) h (by simp [keysAt])

section boundary

variable (hp : s.boot.pass = none) (hb : (s.engOf e.val).atBoundary = true) (hs : (s.engOf e.val).stopReq = false)
include hp hb hs

/-- At a free boundary, with no exception waiting and store bits as they were written, the stored word is read. -/
theorem exec_wordIssue_reads (ha : s.asyncPend e.val = false) : exec (.wordIssue e 0) s =
    .next (if parityBad (s.store e.val (s.engOf e.val).nextPc) then
      s.parityRetry e.val
      else (s.setF F.SE_STATE_PC e.val (s.engOf e.val).nextPc).issueWord e.val (s.store e.val (s.engOf e.val).nextPc)
        (s.engOf e.val).nextS) := by
  change execWordIssue e 0 s = _
  simp only [execWordIssue, hp, State.burstIssue, hb, hs, ha, Bool.not_true, Bool.false_and, Nat.zero_mod, Nat.xor_zero, ok]
  cases parityBad (s.store e.val (s.engOf e.val).nextPc) <;> rfl

/-- A waiting exception is taken first (R132). -/
theorem exec_wordIssue_of_asyncPend (ha : s.asyncPend e.val = true) (hx : (s.engOf e.val).inExc = false)
    (hg : (s.engOf e.val).guarded = false) (upset : Nat) : exec (.wordIssue e upset) s = .next s := by
  change execWordIssue e upset s = _
  simp only [execWordIssue, hp, State.burstIssue, hb, hs, ha, hx, hg, ok]
  rfl

end boundary

/-! ### A training pass (R352) -/

theorem exec_wordIssue_training {r : TrainRun} {upset : Nat} (hp : s.boot.pass = some r) :
    exec (.wordIssue 15 upset) s = .next (s.trainIssue r) := by
  change execWordIssue 15 upset s = _
  simp only [execWordIssue, hp, ok]
  rfl

theorem State.trainIssue_of_no_trap {r : TrainRun} (hw : r.word = none)
    (ht : trainTrap (s.trainWord r.pc) r.delay.isSome (s.sp 15) = none) :
    s.trainIssue r = (s.setF F.SE_STATE_PC 15 r.pc).modTrain (fun q => { q with word := some (s.trainWord r.pc) }) := by
  simp only [State.trainIssue, hw, ht]
  rfl

theorem State.trainIssue_of_trap {r : TrainRun} {cause n : Nat} (hw : r.word = none)
    (ht : trainTrap (s.trainWord r.pc) r.delay.isSome (s.sp 15) = some (cause, n)) :
    s.trainIssue r = ((s.setF F.SE_STATE_PC 15 r.pc).trainExc r cause n).trainOver := by
  simp only [State.trainIssue, hw, ht]
  rfl

/-- A trap's cause and number fit their fields of SE_EXC. -/
theorem trainTrap_lt {w sp cause n : Nat} {ds : Bool} (h : trainTrap w ds sp = some (cause, n)) : cause < 16 ∧ n < 8 := by
  unfold trainTrap at h
  split at h
  · cases h; omega
  · split at h
    · cases h; omega
    · split at h
      · cases h; omega
      · split at h
        · cases h; omega
        · cases h

/-! ### The record of a trap (R140, R352) -/

/-- Of the record of an exception: its code, its cause and number, that it is valid, and where it was. -/
def excNamed (code cause trapn epc : Nat) : List (Fld × Nat) :=
  [(F.SE_EXC_CODE, code), (F.SE_EXC_CAUSE, cause), (F.SE_EXC_TRAPN, trapn), (F.SE_EXC_VALID, 1), (F.SE_EXC_EPC, epc)]

theorem excNamed_id {p : Fld × Nat} {code cause trapn epc : Nat} (hp : p ∈ excNamed code cause trapn epc) :
    p.1.id ∈ [F.SE_EXC_CODE.id, F.SE_EXC_CAUSE.id, F.SE_EXC_TRAPN.id, F.SE_EXC_VALID.id, F.SE_EXC_EPC.id] :=
  List.mem_map_of_mem (f := fun q : Fld × Nat => q.1.id) hp

theorem State.getF_takeExc {p : Fld × Nat} {e code cause trapn epc btgt vidx : Nat} {ds ms : Bool} {hs : Time} (s : State)
    (hp : p ∈ excNamed code cause trapn epc) :
    (s.takeExc e code cause trapn epc ds ms btgt hs vidx).getF p.1 e = p.2 % 2 ^ p.1.width := by
  have hid : p.1.id ≠ F.SE_EXCCNT_CNT.id := fun h => absurd (h ▸ excNamed_id hp) (by decide)
  rw [State.takeExc, State.satF, State.getF_setF_other (Fld.key_ne_same hid)]
  refine State.getF_setFs_mem ?_ (by simp only [List.map_cons, List.map_nil]; decide) e
  simp only [excNamed, List.mem_cons, List.not_mem_nil, or_false] at hp ⊢
  tauto

/-- Where a training word's record says the trap was: at the branch word before it, or at the word itself (R134). -/
def TrainRun.epc (r : TrainRun) : Nat :=
  match r.delay with
  | some _ => (r.pc + 8191) % 8192
  | none => r.pc

theorem State.getF_trainExc {p : Fld × Nat} {r : TrainRun} {cause n : Nat} (s : State) (hp : p ∈ excNamed 7 cause n r.epc) :
    (s.trainExc r cause n).getF p.1 15 = p.2 % 2 ^ p.1.width := by
  have hid : p.1.id ≠ F.SE_EXCF_BEAT.id := fun h => absurd (h ▸ excNamed_id hp) (by decide)
  rw [State.trainExc, State.getF_setF_other (Fld.key_ne_same hid)]
  exact State.getF_takeExc _ hp

/-! ### The end of a pass (R352, R353) -/

/-- Between `s` and `t` nothing changes but the show of a pass, the engines and the boot record. -/
def PassShown (s t : State) : Prop :=
  { t with reg := s.reg, eng := s.eng, boot := s.boot } = s ∧
    RegsBut [F.SE_STATE_STATE.key 15, F.MEM_STAT_TRBUSY.key 0, F.MEM_TRLAST_NS.key 0] s t

variable {t : State}

theorem PassShown.setF (h : PassShown s t) {f : Fld} {i v : Nat}
    (hk : f.key i ∈ [F.SE_STATE_STATE.key 15, F.MEM_STAT_TRBUSY.key 0, F.MEM_TRLAST_NS.key 0]) : PassShown s (t.setF f i v) :=
  ⟨h.1, h.2.setF hk⟩

theorem PassShown.modEng (h : PassShown s t) {n : Nat} {f : EngSt → EngSt} : PassShown s (t.modEng n f) := h

theorem PassShown.putBoot (h : PassShown s t) {b : BootSt} : PassShown s { t with boot := b } := h

theorem PassShown.trainEnd (h : PassShown s t) : PassShown s t.trainEnd := by
  unfold State.trainEnd
  split
  · extract_lets s1
    have h1 : PassShown s s1 := ((h.modEng.setF (by simp)).setF (by simp)).setF (by simp)
    exact h1.putBoot
  · exact h

theorem State.trainOver_passShown (s : State) : PassShown s s.trainOver := by
  have h : PassShown s s := ⟨rfl, .refl _ s⟩
  unfold State.trainOver
  extract_lets _ s1
  have h1 : PassShown s s1 := h.putBoot.modEng.setF (by simp)
  split
  · exact h1.putBoot.trainEnd
  · exact h1

theorem PassShown.sameMems (h : PassShown s t) : s.sameMems t := by
  have hm {α : Type} (g : State → α) : g { t with reg := s.reg, eng := s.eng, boot := s.boot } = g s := congrArg g h.1
  exact ⟨hm State.bb, hm State.acqMem, hm State.dram, hm State.nvm, hm State.psbuf, hm State.cstore, hm State.mirror,
    hm State.tstore⟩

theorem State.pass_trainOver (s : State) : s.trainOver.boot.pass = none := by
  unfold State.trainOver
  split <;> rfl

theorem State.getF_putBoot (s : State) (b : BootSt) (f : Fld) (i : Nat) : ({ s with boot := b } : State).getF f i = s.getF f i := rfl

/-- A retraining that ends leaves SE15 idle, if it was so. -/
theorem State.getF_trainEnd_state (h : s.getF F.SE_STATE_STATE 15 = 0) : s.trainEnd.getF F.SE_STATE_STATE 15 = 0 := by
  unfold State.trainEnd
  split
  · extract_lets s1
    have hk : ∀ q ∈ [(F.MEM_STAT_TRBUSY, 0), (F.MEM_TRLAST_NS, s.nowNs)], F.SE_STATE_STATE.key 15 ≠ q.1.key 0 := by
      simp only [List.mem_cons, List.not_mem_nil, or_false]
      rintro q (rfl | rfl)
      · exact Fld.key_ne (g := F.MEM_STAT_TRBUSY) (by decide) (by decide) (by decide)
      · exact Fld.key_ne (g := F.MEM_TRLAST_NS) (by decide) (by decide) (by decide)
    have h1 : s1.getF F.SE_STATE_STATE 15 = 0 := (State.getF_setFs_other hk).trans (State.getF_setF_same ..)
    exact (State.getF_putBoot ..).trans h1
  · exact h

theorem State.getF_trainOver_state (s : State) : s.trainOver.getF F.SE_STATE_STATE 15 = 0 := by
  unfold State.trainOver
  extract_lets _ s1
  have h1 : s1.getF F.SE_STATE_STATE 15 = 0 := State.getF_setF_same ..
  split
  · exact State.getF_trainEnd_state ((State.getF_putBoot ..).trans h1)
  · exact h1

/-- The record of a trap outlasts the pass. -/
theorem State.getF_trainOver_trainExc {p : Fld × Nat} {r : TrainRun} {cause n : Nat} (s : State)
    (hp : p ∈ excNamed 7 cause n r.epc) : (s.trainExc r cause n).trainOver.getF p.1 15 = p.2 % 2 ^ p.1.width := by
  rw [(State.trainOver_passShown _).2.getF, State.getF_trainExc s hp]
  have hid := excNamed_id hp
  intro hk
  simp only [List.mem_cons, List.not_mem_nil, or_false] at hk
  obtain hk | hk | hk := hk
  · exact Fld.key_ne_same (fun h => absurd (h ▸ hid) (by decide)) hk
  · exact Fld.key_ne (fun h => absurd (h ▸ hid) (by decide)) (by decide) (by decide) hk
  · exact Fld.key_ne (fun h => absurd (h ▸ hid) (by decide)) (by decide) (by decide) hk

theorem State.trainOver_trainExc_sameMems (s : State) (r : TrainRun) (cause n : Nat) :
    s.sameMems (s.trainExc r cause n).trainOver := by
  have hd : ChansKept s s.drawn := ⟨rfl, rfl, rfl, rfl, rfl, rfl, rfl, rfl, rfl⟩
  have h : ChansKept s (s.trainExc r cause n) := hd.setFs.setF.setF
  exact h.2.trans (State.trainOver_passShown _).sameMems

/-- Settles O15: what a boundary reads, what waits there, and what a training pass issues or traps. -/
theorem wordIssueFetchesNextWord : Obligations.WordIssueFetchesNextWord := by
  refine ⟨fun e s hp hb hs => ⟨fun ha hg => ?_, fun ha hg => ?_, fun ha hx hu => exec_wordIssue_of_asyncPend hp hb hs ha hx hu⟩,
    fun s r upset hp hw ht => ?_, fun s r upset cause n hp hw ht => ?_⟩
  · rw [exec_wordIssue_reads hp hb hs ha, hg]
    rfl
  · have hx := exec_wordIssue_reads hp hb hs ha
    rw [hg, if_pos rfl] at hx
    refine ⟨_, hx, s.engOf_parityRetry_same e, State.getF_setF_same .., ?_, rfl, fun k => State.engOf_parityRetry_other,
      s.parityRetry_regs e⟩
    exact (State.getF_setF_other (Fld.key_ne_same (by decide))).trans (State.getF_setF_same ..)
  · have hx := (exec_wordIssue_training (upset := upset) hp).trans (congrArg Host.Outcome.next (State.trainIssue_of_no_trap hw ht))
    refine ⟨_, hx, ?_, State.getF_setF_same .., rfl, (RegsBut.refl _ s).setF (List.mem_singleton_self _)⟩
    simp only [State.modTrain, State.setF, hp, Option.map_some]
  · have hx := (exec_wordIssue_training (upset := upset) hp).trans (congrArg Host.Outcome.next (State.trainIssue_of_trap hw ht))
    obtain ⟨hc, hn⟩ := trainTrap_lt ht
    have hr {p : Fld × Nat} (hp : p ∈ excNamed 7 cause n r.epc) := (s.setF F.SE_STATE_PC 15 r.pc).getF_trainOver_trainExc hp
    refine ⟨_, hx, hr (p := (F.SE_EXC_CODE, 7)) (by simp [excNamed]), ?_, ?_, hr (p := (F.SE_EXC_VALID, 1)) (by simp [excNamed]),
      fun hd => ?_, State.getF_trainOver_state _, State.pass_trainOver _,
      (ChansKept.refl s).setF.2.trans (State.trainOver_trainExc_sameMems ..)⟩
    · exact (hr (p := (F.SE_EXC_CAUSE, cause)) (by simp [excNamed])).trans (Nat.mod_eq_of_lt hc)
    · exact (hr (p := (F.SE_EXC_TRAPN, n)) (by simp [excNamed])).trans (Nat.mod_eq_of_lt hn)
    · exact hr (p := (F.SE_EXC_EPC, r.pc)) (by simp [excNamed, TrainRun.epc, hd])

end Sys2Proof.Machine
end

section
/-! SUPPORT. A word's pin-time actions, taken one by one from the engine's list (R106, R108, R123, R126). -/

namespace Sys2Proof.Machine

variable {s s1 : State} {e : Fin 16} {a : PinAct}

/-! ### Bits of a register (R446) -/

theorem hasBit_setBit (n k : Nat) : hasBit (setBit n k) k = true := by
  unfold setBit
  split
  · assumption
  · next h =>
    have hz : n / 2 ^ k % 2 = 0 := by simpa [hasBit] using h
    have hd : (n + 2 ^ k) / 2 ^ k = n / 2 ^ k + 1 := Nat.add_div_right n (Nat.two_pow_pos k)
    rw [hasBit, hd, beq_iff_eq]
    omega

/-- The low `w` bits of a word are its bits below `w`. -/
theorem hasBit_mod_two_pow {k w : Nat} (h : k < w) (n : Nat) : hasBit (n % 2 ^ w) k = hasBit n k := by
  have hb := Nat.testBit_mod_two_pow n w k
  rw [decide_eq_true h, Bool.true_and, Nat.testBit_eq_decide_div_mod_eq, Nat.testBit_eq_decide_div_mod_eq] at hb
  simpa only [hasBit, beq_eq_decide] using hb

/-- A raised event stands (R446). -/
theorem State.hasBit_getF_raise {k : Nat} (hk : k < 16) (s : State) (f : Nat) :
    hasBit ((s.raise f k).getF F.HST_EVT_EVT f) k = true := by
  have hset : hasBit (((s.noteEv f k).setF F.HST_EVT_EVT f (setBit (s.getF F.HST_EVT_EVT f) k)).getF F.HST_EVT_EVT f) k = true := by
    rw [State.getF_setF_same]
    exact (hasBit_mod_two_pow hk _).trans (hasBit_setBit _ k)
  obtain ⟨hb, h⟩ | ⟨-, h | h⟩ := s.raise_cases f k <;> rw [h]
  · exact hb
  · exact hset
  · rw [(State.msix_regs _ f k).getF (by simpa using Fld.key_ne_same (by decide))]
    exact hset

/-! ### Each action leaves the list and acts -/

/-- An action taken leaves the engine's list, and nothing else changes. -/
theorem State.takeAct_eq {n : Nat} {p : Act → Bool} (h : s.takeAct n p = some (a, s1)) :
    ∃ rest, s1 = s.modEng n (fun g => { g with acts := rest }) := by
  unfold State.takeAct at h
  split at h
  · next b rest _ =>
    cases h
    exact ⟨rest, rfl⟩
  · cases h

/-- What a command does with the action it takes. -/
theorem State.takeAct_then {n : Nat} {p : Act → Bool} (h : s.takeAct n p = some (a, s1)) (k : PinAct → State → Res) (r : Res) :
    (match s.takeAct n p with | some (a, s1) => k a s1 | none => r) = k a s1 := by
  rw [h]

theorem State.item_takeAct {n : Nat} {p : Act → Bool} (h : s.takeAct n p = some (a, s1)) :
    (s1.engOf n).item = (s.engOf n).item := by
  obtain ⟨rest, rfl⟩ := State.takeAct_eq h
  rw [State.engOf_modEng_same]

theorem State.mat_takeAct {n : Nat} {p : Act → Bool} (h : s.takeAct n p = some (a, s1)) :
    (s1.engOf n).mat = (s.engOf n).mat := by
  obtain ⟨rest, rfl⟩ := State.takeAct_eq h
  rw [State.engOf_modEng_same]

/-- A trigger pulse (R108). -/
def Act.isTrigo : Act → Bool
  | .trigo _ => true
  | _ => false

/-- A FLASH code (R108). -/
def Act.isFsig : Act → Bool
  | .fsig _ => true
  | _ => false

/-- A host event (R108). -/
def Act.isEvt : Act → Bool
  | .evt _ => true
  | _ => false

/-- The arming of a match (R126). -/
def Act.isArm : Act → Bool
  | .arm _ => true
  | _ => false

/-- A MODE change (R123). -/
def Act.isMode : Act → Bool
  | .mode _ _ => true
  | _ => false

theorem exec_trigoPulse {m : Nat} (h : s.takeAct e.val Act.isTrigo = some (a, s1)) (ha : a.act = .trigo m) :
    exec (.trigoPulse e) s = .next (s1.pulses a.site m a.t) := by
  change execTrigoPulse e s = _
  unfold execTrigoPulse
  refine (State.takeAct_then h _ _).trans ?_
  simp only [ha, ok]

theorem exec_fsigSend {c : Nat} (h : s.takeAct e.val Act.isFsig = some (a, s1)) (ha : a.act = .fsig c) :
    exec (.fsigSend e) s = .next (s1.codeFlash a.site c) := by
  change execFsigSend e s = _
  unfold execFsigSend
  refine (State.takeAct_then h _ _).trans ?_
  simp only [ha, ok]

theorem exec_evtHostEvent {n : Nat} (h : s.takeAct e.val Act.isEvt = some (a, s1)) (ha : a.act = .evt n) :
    exec (.evtHostEvent e) s = .next (s1.raiseVf a.site (n + 3)) := by
  change execEvtHostEvent e s = _
  unfold execEvtHostEvent
  refine (State.takeAct_then h _ _).trans ?_
  simp only [ha, ok]

/-- The state in which the burst that armed has its match armed (R126). -/
def State.armed (s : State) (e : Nat) (a : PinAct) (site : Bool) : State :=
  s.modEng e (fun g => g.arm a.ser { armed := true, arms := site, window := a.wid })

/-- The state in which the site counts a new TAG and forgets its result (R302). -/
def State.newTag (s : State) (x : Nat) : State :=
  s.modSite x (fun t => { t with matchTag := ((s.siteOf x).matchTag + 1) % 8, result := none })

/-- The burst arms; with ARMS the site counts a TAG too, and sends ARMED. -/
theorem exec_matchArm {site : Bool} (h : s.takeAct e.val Act.isArm = some (a, s1)) (ha : a.act = .arm site) :
    exec (.matchArm e) s = .next (if site then
      ((s1.armed e.val a true).newTag a.site).siteFlash a.site 1 0 (((s1.siteOf a.site).matchTag + 1) % 8)
      else s1.armed e.val a false) := by
  change execMatchArm e s = _
  unfold execMatchArm
  refine (State.takeAct_then h _ _).trans ?_
  simp only [ha]
  cases site <;> rfl

/-- An engine that runs the burst takes the match. -/
theorem EngSt.arm_of_running {g : EngSt} {ser : Nat} (h : ∃ i, g.item = some i ∧ i.serial = ser) (m : MatchSt) :
    g.arm ser m = { g with mat := m } := by
  obtain ⟨i, hi, rfl⟩ := h
  simp [EngSt.arm, hi]

/-- An engine that does not run it keeps its match (R85). -/
theorem EngSt.mat_arm_of_gone {g : EngSt} {ser : Nat} (h : ∀ i, g.item = some i → i.serial ≠ ser) (m : MatchSt) :
    (g.arm ser m).mat = g.mat := by
  unfold EngSt.arm
  split
  · next i hi => rw [if_neg fun hser => h i hi (beq_iff_eq.1 hser)]
  · rfl

theorem State.mat_armed_of_running {p : Act → Bool} (h : s.takeAct e.val p = some (a, s1))
    (hi : ∃ i, (s.engOf e.val).item = some i ∧ i.serial = a.ser) (site : Bool) :
    ((s1.armed e.val a site).engOf e.val).mat = { armed := true, arms := site, window := a.wid } := by
  rw [← State.item_takeAct h] at hi
  rw [State.armed, State.engOf_modEng_same, EngSt.arm_of_running hi]

theorem State.mat_armed_of_gone {p : Act → Bool} (h : s.takeAct e.val p = some (a, s1))
    (hi : ∀ i, (s.engOf e.val).item = some i → i.serial ≠ a.ser) (site : Bool) :
    ((s1.armed e.val a site).engOf e.val).mat = (s.engOf e.val).mat := by
  rw [← State.item_takeAct h] at hi
  rw [State.armed, State.engOf_modEng_same, EngSt.mat_arm_of_gone hi, State.mat_takeAct h]

/-- A MODE change of one octet: it takes effect where the site owns the octet whole, and is refused where it does not (R105). -/
theorem exec_modeChangeEffect_one {code m o : Nat} (h : s.takeAct e.val Act.isMode = some (a, s1)) (ha : a.act = .mode code m)
    (hm : maskOcts m = [o]) : exec (.modeChangeEffect e) s =
      .next (if s1.ownsOct a.site o then s1.setPers o (code - 1) a.t else s1.setF F.SE_STAT_MODE_REJ e.val 1) := by
  change execModeChangeEffect e s = _
  unfold execModeChangeEffect
  refine (State.takeAct_then h _ _).trans ?_
  simp only [ha, hm, ok, List.foldl_cons, List.foldl_nil]

/-- Settles O21: each action that is taken from the list acts as its rule says. -/
theorem pinTimeActions : Obligations.PinTimeActions := by
  refine ⟨fun e s s1 a m => exec_trigoPulse, fun e s s1 a c => exec_fsigSend, fun e s s1 a n h ha hn => ?_,
    fun e s s1 a h ha hi => ?_, fun e s s1 a h ha hi => ?_, fun e s s1 a h ha hi _ => ?_,
    fun e s s1 a code m o h ha hm => ⟨fun ho => ?_, fun ho => ?_⟩⟩
  · have hf := congrArg State.eng (s1.raise_frame a.site (n + 3))
    exact ⟨_, exec_evtHostEvent h ha, State.hasBit_getF_raise hn s1 a.site, hf⟩
  · have hm := State.mat_armed_of_running h hi false
    refine ⟨s1.armed e.val a false, exec_matchArm h ha, ?_, ?_, ?_, ?_, rfl⟩ <;> rw [hm]
  · have hm : (((s1.armed e.val a true).newTag a.site).engOf e.val).mat = _ := State.mat_armed_of_running h hi true
    refine ⟨(s1.armed e.val a true).newTag a.site, rfl, ?_, ?_, ?_, ?_, exec_matchArm h ha⟩
    · rw [hm]
    · rw [hm]
    · rw [State.newTag, State.siteOf_modSite_same]
      rfl
    · rw [State.newTag, State.siteOf_modSite_same]
  · exact ⟨_, exec_matchArm h ha, State.mat_armed_of_gone h hi false, rfl⟩
  · rw [exec_modeChangeEffect_one h ha hm, if_pos ho]
  · refine ⟨_, exec_modeChangeEffect_one h ha hm, ?_⟩
    rw [ho]
    exact ⟨State.getF_setF_same .., (RegsOnly.refl _ s1).setF (List.mem_singleton_self _)⟩

end Sys2Proof.Machine
end

section
/-! SUPPORT. The end of DORMANT (R351, R429) for a region number that the map has not: its map words stand where GLB_PWRSTAT does. -/

namespace Sys2Proof.Machine

variable {s : State}

/-! ### A chip that wakes without its reference -/

/-- Without a reference no PLL locks (R367). -/
theorem State.pllLock_of_no_reference (h : s.flag F.CLK_REF_REFOK 0 = false) (p : Pll) : s.pllLock p = s := by
  unfold State.pllLock
  rw [h]
  rfl

/-- The state back in IDLE, with the sites that are to be scrubbed shown. -/
def State.wakeShown (s : State) : State :=
  (s.setF F.GLB_PWRSTAT_STATE 0 1).setAll F.SITE_SSTAT_SCRUB (sites.filter fun x => !(s.siteOf x).regionsLeft.isEmpty) 1

/-- Zeroing one site's regions is asked for as traffic, and what the regions are is read from the registers as they then stand. -/
theorem State.dram_dormantOut_of_one {x : Nat} (hr : (s.setF F.GLB_PWRSTAT_STATE 0 1).flag F.CLK_REF_REFOK 0 = false)
    (hx : (sites.filter fun x => !(s.siteOf x).regionsLeft.isEmpty) = [x]) :
    s.dormantOut.dram = (s.wakeShown.dramZero x (s.siteOf x).regionsLeft).dram := by
  have hl : linePlls.foldl (fun a p => a.pllLock p) (s.setF F.GLB_PWRSTAT_STATE 0 1) = s.setF F.GLB_PWRSTAT_STATE 0 1 :=
    List.foldlRecOn (motive := fun a => a = s.setF F.GLB_PWRSTAT_STATE 0 1) linePlls _ rfl fun a ha p _ => by
      rw [ha, State.pllLock_of_no_reference hr]
  have hz (a : State) (l : List Nat) : Asked a (a.zeroTraffic x l) :=
    (Asked.refl a).foldl fun ha => ha.foldl fun hb => hb.enqueue
  obtain ⟨-, -, hd, -⟩ := (hz (s.wakeShown.dramZero x (s.siteOf x).regionsLeft) (s.siteOf x).regionsLeft).sameMems
  rw [← hd, State.dormantOut]
  simp only [hl, hx, List.foldl_cons, List.foldl_nil, State.wakeShown]

/-! ### The counterexample -/

/-- The region whose first map word is the entry of GLB_PWRSTAT.STATE, and whose second is the one after it. -/
def farRegion : Nat := 76021748

/-- DORMANT, with that region of site 0 to be zeroed: it lies at STATE = 2 MiB, where a byte is set. -/
def farState : State := { State.reset with
  reg := [(F.GLB_PWRSTAT_STATE.key 0, 2), (F.GLB_PWRSTAT_STATE.key 1, 1)]
  site := [(0, { regionsLeft := [farRegion] })]
  dram := [(2097152, 1#8)] }

theorem farState_region : farState.regLo 0 farRegion = 2097152 ∧ farState.regHi 0 farRegion = 3145728 := by decide

theorem exec_powerTransitionDone_farState : exec .powerTransitionDone farState = .next farState.dormantOut := by
  have h : farState.pwr = 2 ∧ farState.getF F.FAB_SLPSTAT_STATE 0 = 0 := by decide
  change (if farState.pwr = 2 ∧ farState.getF F.FAB_SLPSTAT_STATE 0 = 0 then ok farState.dormantOut else ok farState) = _
  rw [if_pos h, ok]

/-- The wake has moved the region to STATE = 1 MiB: the byte at 2 MiB stays. -/
theorem dramByte_dormantOut_farState : farState.dormantOut.dramByte 2097152 = 1#8 := by
  rw [State.dramByte, State.dram_dormantOut_of_one (x := 0) (by decide) (by decide)]
  decide

/-- Refutes O56: the statement bounds no number in `regionsLeft`, the regions that a wake zeroes. The map words of region 76,021,748 of
site 0 are the entries of GLB_PWRSTAT.STATE, so that the wake itself (STATE 2 to 1) moves that region before it is zeroed, and a byte of
where it lay stays. -/
theorem not_reloadAndPowerStates : ¬ Obligations.ReloadAndPowerStates := by
  intro h
  obtain ⟨-, -, -, hdone, -, -⟩ := h
  obtain ⟨-, -, -, -, -, hwake, -⟩ := hdone farState
  obtain ⟨t, ht, -, -, hzero, -⟩ := hwake rfl (by decide) (by decide)
  obtain rfl : farState.dormantOut = t := Host.Outcome.next.inj (exec_powerTransitionDone_farState.symm.trans ht)
  obtain ⟨hlo, hhi⟩ := farState_region
  have hb := hzero 0 farRegion 2097152 (by decide) (by decide) hlo.le (hhi ▸ by decide)
  rw [dramByte_dormantOut_farState] at hb
  exact absurd hb (by decide)

end Sys2Proof.Machine
end

section
/-! SUPPORT. Which updates leave every engine as it is, registers apart: those of the fabric, the dispatcher, the capture and the records
of an exception. -/

namespace Sys2Proof.Machine

variable {s t u : State}

/-- Every engine is the same in both states, beside its registers. -/
def EngsKept (s t : State) : Prop := t.eng = s.eng

theorem EngsKept.refl (s : State) : EngsKept s s := rfl

theorem EngsKept.engOf (h : EngsKept s t) (k : Nat) : t.engOf k = s.engOf k := congrArg (Tbl.get (fun _ => ({} : EngSt)) · k) h

theorem EngsKept.ite {p : Prop} [Decidable p] (ht : EngsKept s t) (hu : EngsKept s u) : EngsKept s (if p then t else u) := by
  split
  · exact ht
  · exact hu

theorem EngsKept.foldl {α : Type} {l : List α} {f : State → α → State} (h : EngsKept s t)
    (hf : ∀ {a x}, EngsKept s a → EngsKept s (f a x)) : EngsKept s (l.foldl f t) :=
  List.foldlRecOn (motive := EngsKept s) l f h fun _ ha _ _ => hf ha

/-! ### The elementary updates -/

theorem EngsKept.setF (h : EngsKept s t) {f : Fld} {i v : Nat} : EngsKept s (t.setF f i v) := h

theorem EngsKept.setFs (h : EngsKept s t) {i : Nat} {l : List (Fld × Nat)} : EngsKept s (t.setFs i l) := h.foldl (·.setF)

theorem EngsKept.modChan (h : EngsKept s t) {c : Nat} {f : ChanSt → ChanSt} : EngsKept s (t.modChan c f) := h

theorem EngsKept.modSite (h : EngsKept s t) {x : Nat} {f : SiteSt → SiteSt} : EngsKept s (t.modSite x f) := h

theorem EngsKept.modPort (h : EngsKept s t) {k : Nat} {f : PortSt → PortSt} : EngsKept s (t.modPort k f) := h

theorem EngsKept.putFab (h : EngsKept s t) {f : FabSt} : EngsKept s { t with fab := f } := h

theorem EngsKept.putReady (h : EngsKept s t) {l : List Item} : EngsKept s { t with ready := l } := h

theorem EngsKept.putBoot (h : EngsKept s t) {b : BootSt} : EngsKept s { t with boot := b } := h

theorem EngsKept.putOut (h : EngsKept s t) {l : List Out} : EngsKept s { t with out := l } := h

/-! ### The fabric (R299 to R316) -/

theorem EngsKept.sendFlash (h : EngsKept s t) {copy : Bool} {k w : Nat} : EngsKept s (t.sendFlash copy k w) :=
  EngsKept.ite (s := s) h h

theorem EngsKept.flashPass (h : EngsKept s t) {inp p w : Nat} : EngsKept s (t.flashPass inp p w) :=
  (h.foldl (·.putOut.modPort)).modPort.foldl (·.modPort.sendFlash)

theorem EngsKept.flashOn (h : EngsKept s t) {src : Option Nat} {k w : Nat} : EngsKept s (t.flashOn src k w) := by
  unfold State.flashOn
  split
  · refine .ite ?_ h
    split
    · exact h.flashPass
    · exact h.sendFlash
  · exact h

theorem EngsKept.flashTree (h : EngsKept s t) {src : Option Nat} {w : Nat} : EngsKept s (t.flashTree src w) := h.foldl (·.flashOn)

theorem EngsKept.cancelSleep (h : EngsKept s t) : EngsKept s t.cancelSleep := h.flashTree (src := none)

theorem EngsKept.awakeCheck (h : EngsKept s t) : EngsKept s t.awakeCheck := h.setF.ite h

theorem EngsKept.wakeTones (h : EngsKept s t) : EngsKept s t.wakeTones :=
  (h.foldl fun ha => ha.putOut.setF.ite ha).awakeCheck

theorem EngsKept.holdWake (h : EngsKept s t) : EngsKept s t.holdWake := h.ite h.putFab

theorem EngsKept.wakeRequest (h : EngsKept s t) : EngsKept s t.wakeRequest := by
  unfold State.wakeRequest
  refine h.wakeTones.ite (.ite ?_ (h.holdWake.ite h))
  split
  · exact h.cancelSleep.ite h.holdWake
  · exact h

theorem EngsKept.portCell (h : EngsKept s t) {k : Nat} {c : Cell} : EngsKept s (t.portCell k c) :=
  EngsKept.ite (s := s) h h.modPort

theorem EngsKept.route (h : EngsKept s t) {c : Cell} : EngsKept s (t.route c) := by
  unfold State.route
  split
  · exact h.putFab
  · exact h.portCell.ite (h.modPort.wakeRequest.ite h.modPort)

theorem EngsKept.creditBack (h : EngsKept s t) {x chip : Nat} : EngsKept s (t.creditBack x chip) := by
  unfold State.creditBack State.sendSite
  extract_lets _ s1
  have h1 : EngsKept s s1 := h
  exact h1.modSite.route.ite h1.modSite.setF

/-! ### The dispatcher (R257 to R268) -/

theorem EngsKept.idleRefused (h : EngsKept s t) : EngsKept s t.idleRefused := h.putBoot.setF.setF.ite h

theorem EngsKept.bindTo (h : EngsKept s t) {i : Item} {e : Nat} : EngsKept s (t.bindTo i e) := h.putReady.setF.setF.idleRefused

theorem EngsKept.preempt (h : EngsKept s t) : EngsKept s t.preempt := by
  unfold State.preempt
  refine h.foldl fun ha => .ite ?_ ha
  split
  · exact ha.bindTo.setF
  · exact ha

theorem EngsKept.yieldBind (h : EngsKept s t) {e : Nat} : EngsKept s (t.yieldBind e) := by
  unfold State.yieldBind
  refine h.ite ?_
  split
  · exact h.bindTo
  · exact h

theorem EngsKept.yieldUndo (h : EngsKept s t) {e : Nat} : EngsKept s (t.yieldUndo e) := h.putReady.foldl (·.setF)

theorem EngsKept.arise (h : EngsKept s t) {i : Item} {status code eng reason reln : Nat} {dbl final frees : Bool} :
    EngsKept s (t.arise i status code eng reason reln dbl final frees) := h

theorem EngsKept.enter (h : EngsKept s t) {i : Item} : EngsKept s (t.enter i) := by
  unfold State.enter
  extract_lets _ s1
  have h1 : EngsKept s s1 := h
  exact EngsKept.ite h1.arise h1.putReady.setF.preempt

theorem EngsKept.takeItem (h : EngsKept s t) {i : Item} : EngsKept s (t.takeItem i) := by
  unfold State.takeItem
  split
  · exact h.enter
  · exact h

theorem EngsKept.autoNext (h : EngsKept s t) {x : Nat} : EngsKept s (t.autoNext x) := by
  unfold State.autoNext
  split
  · exact h
  · exact h.putBoot.takeItem

theorem EngsKept.serve (h : EngsKept s t) {x n : Nat} : EngsKept s (State.serve x n t) := by
  induction n generalizing t with
  | zero => exact h
  | succ n ih =>
    unfold State.serve
    refine .ite (ih ?_) h
    split
    · exact h.autoNext
    · exact h.modSite.takeItem.creditBack

theorem EngsKept.fabricNext (h : EngsKept s t) {x : Nat} : EngsKept s (t.fabricNext x) := h.serve

/-! ### Undone words and exceptions (R131, R134, R140) -/

theorem EngsKept.gridBack (h : EngsKept s t) {l : List (Nat × Time × Nat × Nat)} : EngsKept s (t.gridBack l) := h.foldl (·.modChan)

theorem EngsKept.restoreUndo (h : EngsKept s t) {e : Nat} {v : Undo} : EngsKept s (t.restoreUndo e v) :=
  (((h.foldl (·.setF)).foldl (·.setFs)).foldl (·.setF)).setF

theorem EngsKept.dropWordSpan (h : EngsKept s t) {x e : Nat} {a : Time} : EngsKept s (t.dropWordSpan x e a) := h.modSite

theorem EngsKept.takeExc (h : EngsKept s t) {e code cause trapn epc btgt vidx : Nat} {ds ms : Bool} {hs : Time} :
    EngsKept s (t.takeExc e code cause trapn epc ds ms btgt hs vidx) := h.setFs.setF

end Sys2Proof.Machine
end

section
/-! SUPPORT. The resolve instant of a burst's word: completion, a waiting post, another repetition, or the time-out (R117, R127, R261). -/

namespace Sys2Proof.Machine

variable {s : State} {c : Issued} {i : Item}

/-! ### A word that goes on without a branch (R117) -/

/-- A completion ends at a yield point, at which `y` suspends the burst (R143, R144). -/
def State.yieldPoint (s : State) (k : Nat) (y : Bool) : State :=
  if y then (s.modEng k (fun h => { h with
    suspending := true, yielded := h.yielded || (h.inExc && h.excCode == 6) })).yieldBind k else s

/-- The word is past, and the engine stands at the next address at the end of the word. -/
def State.wentOn (s : State) (k : Nat) (c : Issued) : State :=
  ((s.modEng k (fun h => { h.past c with cur := none, s0 := none, nextS := c.e })).setF F.SE_STATE_PC k c.pc).modEng k
    (fun h => { h with nextPc := (c.pc + 1) % 8192 })

theorem State.completeWord_of_seq {k : Nat} (hi : (s.engOf k).item = some i) (hb : mBRK c.word = 0) (hd : c.delay = none) :
    ∃ u y, s.completeWord k c = (State.wentOn u k c).yieldPoint k y := by
  simp only [State.completeWord, hi, hb, hd, mBranch]
  exact ⟨_, _, rfl⟩

theorem State.engOf_yieldPoint (s : State) (k : Nat) (y : Bool) : ∃ b d,
    (s.yieldPoint k y).engOf k = { s.engOf k with suspending := b, yielded := d } := by
  unfold State.yieldPoint
  split
  · exact ⟨_, _, ((EngsKept.refl _).yieldBind.engOf k).trans (State.engOf_modEng_same ..)⟩
  · exact ⟨_, _, rfl⟩

theorem State.engOf_wentOn (s : State) (k : Nat) (c : Issued) : (s.wentOn k c).engOf k =
    { (s.engOf k).past c with cur := none, s0 := none, nextS := c.e, nextPc := (c.pc + 1) % 8192 } := by
  rw [State.wentOn, State.engOf_modEng_same, State.engOf_setF, State.engOf_modEng_same]

/-- A word without a branch leaves the engine free at the next address, at the end of the word. -/
theorem State.engOf_completeWord_of_seq {k : Nat} (hi : (s.engOf k).item = some i) (hb : mBRK c.word = 0) (hd : c.delay = none) :
    ((s.completeWord k c).engOf k).nextPc = (c.pc + 1) % 8192 ∧ ((s.completeWord k c).engOf k).cur = none ∧
      ((s.completeWord k c).engOf k).nextS = c.e := by
  obtain ⟨u, y, hu⟩ := State.completeWord_of_seq hi hb hd
  obtain ⟨b, d, hy⟩ := State.engOf_yieldPoint (u.wentOn k c) k y
  rw [hu, hy, State.engOf_wentOn]
  exact ⟨rfl, rfl, rfl⟩

/-! ### The resolve instant -/

/-- A word repeats once more, from its end on. -/
def State.repeated (s : State) (k : Nat) (c : Issued) : State :=
  s.modEng k (fun h => { h.past c with cur := none, nextPc := c.pc, nextS := c.e, s0 := some c.s0, evt0 := c.evt0 })

/-- The post of a word that meets no free entry. -/
def State.newPost (s : State) (k : Nat) (c : Issued) (i : Item) : Post :=
  { num := s.serial, site := i.site, desc := (s.newItem i.site 0 (s.postDesc k c.word i)).desc }

/-- A word waits with its post (R261). -/
def State.postKept (s : State) (k : Nat) (c : Issued) (i : Item) : State :=
  (s.numbered.modEng k (fun h => { h with post := some (s.newPost k c i) })).setF F.DSP_SSTAT_POSTWAIT i.site 1

section resolve

variable {e : Fin 16} (hp : s.boot.pass = none) (hc : (s.engOf e.val).cur = some c) (hi : (s.engOf e.val).item = some i)
  (ho : (s.engOf e.val).post = none) (hs : (s.engOf e.val).suspending = false) (hu : (s.engOf e.val).ufl = none)
include hp hc hi ho hs hu

/-- A word that does not repeat, or need not any longer, completes where it posts nothing. -/
theorem exec_wordResolve_completes (hr : mRepeats c.word = true → s.repCond e.val c = false →
      s.timedOut i.site c = true ∧ mBRK c.word = 6 ∧ mCMASK c.word = 0)
    (hx4 : mXFER c.word ≠ 4) (hx5 : mXFER c.word ≠ 5) : exec (.wordResolve e) s = .next (s.completeWord e.val c) := by
  change execWordResolve e s = _
  simp only [execWordResolve, hp, State.burstResolve, hc, hi, ho, hs, hu, ok]
  cases hm : mRepeats c.word
  · simp [hx4, hx5]
  · cases hq : s.repCond e.val c
    · obtain ⟨ht, hb, hk⟩ := hr hm hq
      simp [ht, hb, hk, hx4, hx5]
    · simp [hx4, hx5]

theorem exec_wordResolve_waits_with_post (hr : mRepeats c.word = false) (hx : mXFER c.word = 4 ∨ mXFER c.word = 5)
    (hf : s.entryFree i.site = false) (ht : s.flag F.DSP_SCTL_STOP i.site = false) :
    exec (.wordResolve e) s = .next (s.postKept e.val c i) := by
  change execWordResolve e s = _
  simp only [execWordResolve, hp, State.burstResolve, hc, hi, ho, hs, hu, hr, hf, ht, ok]
  simp [hx, State.postKept, State.newPost]

variable (hr : mRepeats c.word = true) (hq : s.repCond e.val c = false)
include hr hq

theorem exec_wordResolve_repeats (ht : s.timedOut i.site c = false) :
    exec (.wordResolve e) s = .next (s.repeated e.val c) := by
  change execWordResolve e s = _
  simp only [execWordResolve, hp, State.burstResolve, hc, hi, ho, hs, hu, hr, hq, ht, ok]
  rfl

theorem exec_wordResolve_times_out (ht : s.timedOut i.site c = true) (hb : mBRK c.word = 6 → mCMASK c.word ≠ 0) :
    exec (.wordResolve e) s = .next ((s.modEng e.val (fun h => h.past c)).raiseSync e.val c 1 0 0 c.e c.vidx) := by
  change execWordResolve e s = _
  simp only [execWordResolve, hp, State.burstResolve, hc, hi, ho, hs, hu, hr, hq, ht, ok]
  simpa using fun h h' => absurd h' (hb h)

end resolve

theorem State.engOf_postKept_same (s : State) (k : Nat) (c : Issued) (i : Item) :
    (s.postKept k c i).engOf k = { s.engOf k with post := some (s.newPost k c i) } := by
  rw [State.postKept, State.engOf_setF, State.engOf_modEng_same]
  rfl

theorem State.engOf_postKept_other {k n : Nat} (h : n ≠ k) (s : State) (c : Issued) (i : Item) :
    (s.postKept k c i).engOf n = s.engOf n := by
  rw [State.postKept, State.engOf_setF, State.engOf_modEng_other h]
  rfl

/-- Settles O16: the resolve instant of a word that completes, posts, repeats or times out. -/
theorem wordResolveGoesOnOrRepeats : Obligations.WordResolveGoesOnOrRepeats := by
  refine ⟨fun e s c i hp hc hi ho hs hu hr => ⟨fun hx4 hx5 => ?_, fun hb hd => State.engOf_completeWord_of_seq hi hb hd,
    fun hx hf _ ht => ?_⟩, fun e s c i hp hc hi ho hs hu hr hq => ⟨fun ht => ?_, fun ht hb => ?_, fun ht hb hm hx => ?_⟩⟩
  · exact exec_wordResolve_completes hp hc hi ho hs hu (fun h => absurd (hr.symm.trans h) Bool.false_ne_true) hx4 hx5
  · refine ⟨_, exec_wordResolve_waits_with_post hp hc hi ho hs hu hr hx hf ht, ?_, ?_, rfl, State.getF_setF_same ..,
      rfl, fun k hk => State.engOf_postKept_other hk .., ?_⟩
    · rw [State.engOf_postKept_same]
      rfl
    · rw [State.engOf_postKept_same, ← hc]
    · exact RegsBut.setF (t := s.numbered.modEng e _) (.refl _ s) (List.mem_singleton_self _)
  · refine ⟨_, exec_wordResolve_repeats hp hc hi ho hs hu hr hq ht, ?_⟩
    have hg : (s.repeated e c).engOf e = _ := State.engOf_modEng_same ..
    rw [hg]
    exact ⟨rfl, rfl, rfl, rfl, rfl, hi, rfl, fun k hk => State.engOf_modEng_other hk⟩
  · exact exec_wordResolve_times_out hp hc hi ho hs hu hr hq ht hb
  · exact exec_wordResolve_completes hp hc hi ho hs hu (fun _ _ => ⟨ht, hb, hm⟩) (by omega) (by omega)

end Sys2Proof.Machine
end

section
/-! SUPPORT. Exceptions that no word raises: SAFE, FAB and PRE at a boundary (R132), and the report of an underrun (R131, R135). -/

namespace Sys2Proof.Machine

variable {s : State} {e : Fin 16}

/-! ### The handler (R129, R140) -/

/-- An engine that goes on at the handler of `code` from `hs` on. -/
def EngSt.handling (g : EngSt) (code : Nat) (hs : Time) : EngSt :=
  { g with
    inExc := true, excCode := code, yielded := false, nextPc := code * 8, nextS := hs, delay := none, s0 := none, evt0 := false,
    cur := none, post := none }

theorem State.engOf_enterHandler (s : State) (k code : Nat) (hs : Time) :
    (s.enterHandler k code hs).engOf k = (s.engOf k).handling code hs := by
  rw [State.enterHandler, State.showRun, State.engOf_setF, State.engOf_modEng_same]
  rfl

theorem State.getF_enterHandler {f : Fld} {k code : Nat} {hs : Time} (hf : f.id ≠ F.SE_STATE_STATE.id) :
    (s.enterHandler k code hs).getF f k = s.getF f k :=
  State.getF_setF_other (Fld.key_ne_same hf)

/-- The pending bits are no part of the record. -/
theorem State.getF_takeExc_pending {f : Fld} {k code cause trapn epc btgt vidx : Nat} {ds ms : Bool} {hs : Time}
    (hf : f ∈ [F.SE_EXCB_PSAFE, F.SE_EXCB_PFAB, F.SE_EXCB_PPRE]) :
    (s.takeExc k code cause trapn epc ds ms btgt hs vidx).getF f k = s.getF f k := by
  have hid : f.id ∈ [F.SE_EXCB_PSAFE.id, F.SE_EXCB_PFAB.id, F.SE_EXCB_PPRE.id] := List.mem_map_of_mem (f := Fld.id) hf
  rw [State.takeExc, State.satF, State.getF_setF_other (Fld.key_ne_same fun h => absurd (h ▸ hid) (by decide))]
  refine State.getF_setFs_other fun p hp => Fld.key_ne_same ?_
  have hq := List.mem_map_of_mem (f := fun q : Fld × Nat => q.1.id) hp
  simp only [List.map_cons, List.map_nil] at hq
  have hne : ∀ a ∈ [F.SE_EXCB_PSAFE.id, F.SE_EXCB_PFAB.id, F.SE_EXCB_PPRE.id], ∀ b ∈ [F.SE_EXC_CODE.id, F.SE_EXC_CAUSE.id,
      F.SE_EXC_TRAPN.id, F.SE_EXC_DS.id, F.SE_EXC_MS.id, F.SE_EXC_VALID.id, F.SE_EXC_EPC.id, F.SE_EXCB_BTGT.id,
      F.SE_EXCB_ESP.id, F.SE_EXCT_TIME.id, F.SE_EXCF_BEAT.id, F.SE_EXCV_VIDX.id], a ≠ b := by decide
  exact hne _ hid _ hq

/-! ### SAFE, FAB and PRE (R132) -/

/-- The exception that is taken first of those that wait: its pending bit and its code. -/
def State.firstAsync (s : State) (k : Nat) : Fld × Nat :=
  if s.flag F.SE_EXCB_PSAFE k then (F.SE_EXCB_PSAFE, 5) else if s.flag F.SE_EXCB_PFAB k then (F.SE_EXCB_PFAB, 4) else (F.SE_EXCB_PPRE, 6)

/-- A waiting exception is taken before the word at the next address: its bit clears, WORD spans of site `x` from `a` on go, and the handler
starts at `hs`. -/
def State.asyncTaken (s : State) (k : Nat) (f : Fld) (code x : Nat) (a hs : Time) (vidx : Nat) : State :=
  (((s.setF f k 0).dropWordSpan x k a).takeExc k code 0 0 (s.engOf k).nextPc false false 0 hs vidx).enterHandler k code hs

theorem State.engOf_asyncTaken (s : State) (k : Nat) (f : Fld) (code x : Nat) (a hs : Time) (vidx : Nat) :
    (s.asyncTaken k f code x a hs vidx).engOf k = (s.engOf k).handling code hs := by
  rw [State.asyncTaken, State.engOf_enterHandler, ((EngsKept.refl s).setF.dropWordSpan.takeExc).engOf]

/-- What taking the exception of a pending bit leaves: the engine in the handler, the bit clear, and where the engine was in the record. -/
theorem State.asyncTaken_spec {f : Fld} (hf : f ∈ [F.SE_EXCB_PSAFE, F.SE_EXCB_PFAB, F.SE_EXCB_PPRE]) (s : State) (k code x : Nat)
    (a hs : Time) (vidx : Nat) : (s.asyncTaken k f code x a hs vidx).getF f k = 0 ∧
      (s.asyncTaken k f code x a hs vidx).getF F.SE_EXC_EPC k = (s.engOf k).nextPc % 8192 := by
  have hid : f.id ∈ [F.SE_EXCB_PSAFE.id, F.SE_EXCB_PFAB.id, F.SE_EXCB_PPRE.id] := List.mem_map_of_mem (f := Fld.id) hf
  constructor
  · rw [State.asyncTaken, State.getF_enterHandler fun h => absurd (h ▸ hid) (by decide), State.getF_takeExc_pending hf]
    exact (State.getF_setF_same ..).trans (Nat.zero_mod _)
  · rw [State.asyncTaken, State.getF_enterHandler (by decide)]
    exact State.getF_takeExc (p := (F.SE_EXC_EPC, (s.engOf k).nextPc)) _ (by simp [excNamed])

theorem exec_asyncExceptionTake (hb : (s.engOf e.val).atBoundary = true) (hg : (s.engOf e.val).guarded = false)
    (hx : (s.engOf e.val).inExc = false) (hs : (s.engOf e.val).stopReq = false) (hp : s.asyncPend e.val = true) : ∃ x a t v,
    exec (.asyncExceptionTake e) s = .next (s.asyncTaken e.val (s.firstAsync e.val).1 (s.firstAsync e.val).2 x a t v) := by
  change ∃ x a t v, execAsyncExceptionTake e s = _
  simp only [execAsyncExceptionTake, hb, hg, hx, hs, hp, ok]
  exact ⟨_, _, _, _, rfl⟩

/-- The exception that stands first is taken. -/
theorem asyncExceptionTake_takes_first {f : Fld} {code : Nat} (hb : (s.engOf e.val).atBoundary = true)
    (hg : (s.engOf e.val).guarded = false) (hx : (s.engOf e.val).inExc = false) (hs : (s.engOf e.val).stopReq = false)
    (hp : s.asyncPend e.val = true) (hf : s.firstAsync e.val = (f, code)) :
    ∃ t, exec (.asyncExceptionTake e) s = .next t ∧ (t.engOf e.val).excCode = code ∧ (t.engOf e.val).inExc = true ∧
      (t.engOf e.val).nextPc = code * 8 ∧ t.getF f e.val = 0 ∧ t.getF F.SE_EXC_EPC e.val = (s.engOf e.val).nextPc % 8192 := by
  have hm : f ∈ [F.SE_EXCB_PSAFE, F.SE_EXCB_PFAB, F.SE_EXCB_PPRE] := by
    have hm : (s.firstAsync e.val).1 ∈ [F.SE_EXCB_PSAFE, F.SE_EXCB_PFAB, F.SE_EXCB_PPRE] := by
      unfold State.firstAsync
      split
      · simp
      · split <;> simp
    rwa [hf] at hm
  obtain ⟨x, a, t, v, hex⟩ := exec_asyncExceptionTake hb hg hx hs hp
  rw [hf] at hex
  refine ⟨_, hex, ?_, ?_, ?_, State.asyncTaken_spec hm ..⟩ <;> rw [State.engOf_asyncTaken] <;> rfl

/-! ### The report of an underrun (R131, R135) -/

theorem State.engOf_raiseSync_of_free {k : Nat} (hx : (s.engOf k).inExc = false) (w : Issued) (code cause trapn : Nat) (t : Time)
    (vidx : Nat) : ∃ hs, (s.raiseSync k w code cause trapn t vidx).engOf k = (s.engOf k).handling code hs := by
  unfold State.raiseSync
  extract_lets x s1 _ _ _ hs
  have h1 : EngsKept s s1 := (EngsKept.refl s).restoreUndo.dropWordSpan
  rw [hx, if_neg Bool.false_ne_true]
  exact ⟨hs, by rw [State.engOf_enterHandler, h1.takeExc.engOf]⟩

/-- Words after `c` are undone: the engine keeps its burst and the report's place, and stands outside a handler where `c` did. -/
theorem State.engOf_cancelAfter (s : State) (k : Nat) (c : Issued) : ((s.cancelAfter k c).engOf k).item = (s.engOf k).item ∧
    ((s.cancelAfter k c).engOf k).ufl = (s.engOf k).ufl ∧ ((s.cancelAfter k c).engOf k).inExc = c.inExc := by
  unfold State.cancelAfter
  extract_lets g later s1 s2 s3 s4 _ s5
  have h2 : EngsKept s s2 := ((EngsKept.refl s).foldl (·.gridBack)).foldl (·.setF)
  have h3 : EngsKept s s3 := by
    unfold s3
    refine .ite ?_ h2
    split
    · exact h2.setF
    · exact h2.setF
    · exact h2.setF
    · exact h2
  have h5 : EngsKept s s5 := (h3.yieldUndo.ite h3).modSite
  rw [State.engOf_modEng_same, h5.engOf]
  exact ⟨rfl, rfl, rfl⟩

theorem State.engOf_modeAt (s : State) (k wid : Nat) (t : Time) (md : Nat × Nat) :
    ((s.modeAt k wid t md).engOf k).item = (s.engOf k).item ∧
    ((s.modeAt k wid t md).engOf k).ufl = (s.engOf k).ufl ∧ ((s.modeAt k wid t md).engOf k).inExc = (s.engOf k).inExc := by
  rw [State.modeAt, State.engOf_modEng_same, State.pushActs, State.engOf_modEng_same]
  exact ⟨rfl, rfl, rfl⟩

/-- The engine with the report served and the words after `c` undone; a MODE change that `c` brought stands, at its end. -/
def State.undoneTo (s : State) (k wid : Nat) (c : Issued) : State :=
  let s1 := (s.modEng k (fun h => { h with ufl := none })).cancelAfter k c
  match c.mode with
  | some md => s1.modeAt k wid c.e md
  | none => s1

theorem State.engOf_undoneTo (s : State) (k wid : Nat) (c : Issued) : ((s.undoneTo k wid c).engOf k).item = (s.engOf k).item ∧
    ((s.undoneTo k wid c).engOf k).ufl = none ∧ ((s.undoneTo k wid c).engOf k).inExc = c.inExc := by
  unfold State.undoneTo
  extract_lets s1
  have h1 : (s1.engOf k).item = (s.engOf k).item ∧ (s1.engOf k).ufl = none ∧ (s1.engOf k).inExc = c.inExc := by
    obtain ⟨hi, hu, hx⟩ := State.engOf_cancelAfter (s.modEng k (fun h => { h with ufl := none })) k c
    rw [State.engOf_modEng_same] at hi hu
    exact ⟨hi, hu, hx⟩
  split
  · next md _ =>
    obtain ⟨hi, hu, hx⟩ := s1.engOf_modeAt k wid c.e md
    rwa [hi, hu, hx]
  · exact h1

section report

variable {arrival sv : Time} {wid vidx : Nat} (hu : (s.engOf e.val).ufl = some (wid, vidx, sv))
include hu

theorem exec_uflReport_of_word_gone
    (hn : ((s.engOf e.val).cur.toList ++ (s.engOf e.val).hist).find? (fun q => q.wid == wid) = none) :
    exec (.uflReport e arrival) s = .next (s.modEng e.val (fun h => { h with ufl := none })) := by
  change execUflReport e arrival s = _
  simp only [execUflReport, hu, hn, ok]

variable {c : Issued} {i : Item}
  (hf : ((s.engOf e.val).cur.toList ++ (s.engOf e.val).hist).find? (fun q => q.wid == wid) = some c)
  (hi : (s.engOf e.val).item = some i)
include hf hi

/-- A word that the engine holds is undone with every later one and raises UFL; where a post goes with it, what waited behind
it may enter. -/
theorem exec_uflReport_of_word_held : ∃ w a b, exec (.uflReport e arrival) s =
    .next (if (s.engOf e.val).post.isSome then
        (((s.undoneTo e.val wid c).raiseSync e.val w 2 0 0 a vidx).setF F.DSP_SSTAT_POSTWAIT i.site b).fabricNext i.site
      else (s.undoneTo e.val wid c).raiseSync e.val w 2 0 0 a vidx) := by
  change ∃ w a b, execUflReport e arrival s = _
  simp only [execUflReport, hu, hf, hi, ok]
  exact ⟨_, _, _, rfl⟩

theorem uflReport_raises (hx : c.inExc = false) : ∃ t g hs, exec (.uflReport e arrival) s = .next t ∧
    t.engOf e.val = EngSt.handling g 2 hs ∧ g.ufl = none ∧ g.item = some i := by
  obtain ⟨w, a, b, hex⟩ := exec_uflReport_of_word_held (arrival := arrival) hu hf hi
  obtain ⟨hi', hu', hx'⟩ := s.engOf_undoneTo e.val wid c
  obtain ⟨hs, hr⟩ := State.engOf_raiseSync_of_free (hx'.trans hx) w 2 0 0 a vidx
  have hk := EngsKept.refl ((s.undoneTo e.val wid c).raiseSync e.val w 2 0 0 a vidx)
  exact ⟨_, _, hs, hex, ((hk.setF.fabricNext.ite hk).engOf e.val).trans hr, hu', hi'.trans hi⟩

end report

/-- Settles O18: the exception taken first at a boundary, and the two ends of an underrun report. -/
theorem asyncOrderAndUnderrunReport : Obligations.AsyncOrderAndUnderrunReport := by
  refine ⟨fun e s hb hg hx hs => ⟨fun hp => ?_, fun hp hf => ?_, fun hp hf hr => ?_⟩, fun e arrival s wid vidx sv hu =>
    ⟨exec_uflReport_of_word_gone hu, fun c i hf hi hx => ?_⟩⟩
  · exact asyncExceptionTake_takes_first hb hg hx hs (by simp [State.asyncPend, hp]) (by simp [State.firstAsync, hp])
  · obtain ⟨t, hex, hc, -, hn, h0, -⟩ := asyncExceptionTake_takes_first (f := F.SE_EXCB_PFAB) (code := 4) hb hg hx hs
      (by simp [State.asyncPend, hf]) (by simp [State.firstAsync, hp, hf])
    exact ⟨t, hex, hc, hn, h0⟩
  · obtain ⟨t, hex, hc, -, hn, h0, -⟩ := asyncExceptionTake_takes_first (f := F.SE_EXCB_PPRE) (code := 6) hb hg hx hs
      (by simp [State.asyncPend, hr]) (by simp [State.firstAsync, hp, hf])
    exact ⟨t, hex, hc, hn, h0⟩
  · obtain ⟨t, g, hs, hex, hg, hgu, hgi⟩ := uflReport_raises hu hf hi hx
    refine ⟨t, hex, ?_⟩
    rw [hg]
    exact ⟨rfl, rfl, hgu, rfl, rfl, rfl, hgi⟩

end Sys2Proof.Machine
end

section
/-! SUPPORT. A parity retry that succeeds (R141), and a waiting post that is admitted (R261). -/

namespace Sys2Proof.Machine

variable {s : State} {e : Fin 16}

/-! ### The retry (R141, R341) -/

/-- The word at the next address of engine `k` is read from its mirror and rewritten as `raw`; the retry counts, after a hold
interval of `slip` vectors. -/
def State.retried (s : State) (k raw slip : Nat) : State :=
  let s1 := (s.requestAt (mirrorDc k (s.engOf k).nextPc)).setStore k (s.engOf k).nextPc raw
  let s2 := (s1.modEng k (fun h => { h with parity := none })).setF F.SE_MCREC_MCADDR k (s.engOf k).nextPc
  ((s2.satF F.SE_PARCNT_CNT k 1).setF F.SE_MCREC_MCLAST k 0).setF F.SE_MCSLIP_SLIP k slip

theorem exec_mchkRewriteDone_good {t0 : Time} {raw : Nat} (hw : withParity (s.mirrorWord e.val (s.engOf e.val).nextPc) = raw)
    (hp : (s.engOf e.val).parity = some t0) (hg : s.mirrorGone e.val (s.engOf e.val).nextPc = false) (hb : parityBad raw = false) :
    ∃ slip, exec (.mchkRewriteDone e false 0) s = .next ((s.retried e.val raw slip).issueWord e.val raw
      (s.gridFrom (s.engOf e.val).site (s.groupOf (s.engOf e.val).site raw) (s.localNow 8 + Time.ofNs 64))) := by
  change ∃ slip, execMchkRewriteDone e false 0 s = _
  unfold execMchkRewriteDone
  extract_lets k g _ word bad
  have hword : word = raw := by rw [← hw, ← Nat.xor_zero (withParity _)]; exact congrArg _ (Nat.zero_mod _)
  have hbad : bad = false := hg
  clear_value word bad
  subst hword hbad
  split
  · next h => cases h.symm.trans hp
  · rw [if_neg (by rw [hb]; decide)]
    exact ⟨_, rfl⟩

theorem State.store_setStore (s : State) (k a v : Nat) : (s.setStore k a v).store k a = v := Tbl.get_set_same ..

theorem State.getF_requestAt {f : Fld} {i : Nat} (hf : f.id ≠ F.MEM_PDSTAT_LVL.id) (hi : i < 1048576) (dc : Nat) :
    (s.requestAt dc).getF f i = s.getF f i :=
  State.getF_setF_other (s := { s with reqs := _, serial := _ }) (Fld.key_ne hf hi (by decide))

section retried

variable (s) (k raw slip : Nat)

theorem State.store_retried : (s.retried k raw slip).store k (s.engOf k).nextPc = raw := State.store_setStore ..

theorem State.parity_retried : ((s.retried k raw slip).engOf k).parity = none := by
  simp only [State.retried, State.satF, State.engOf_setF, State.engOf_modEng_same]

theorem State.getF_retried_mclast : (s.retried k raw slip).getF F.SE_MCREC_MCLAST k = 0 :=
  (State.getF_setF_other (Fld.key_ne_same (by decide))).trans (State.getF_setF_same ..)

theorem State.getF_retried_parcnt {k : Nat} (hk : k < 1048576) :
    (s.retried k raw slip).getF F.SE_PARCNT_CNT k = satAt 16 (s.getF F.SE_PARCNT_CNT k + 1) % 65536 := by
  unfold State.retried
  extract_lets s1 s2
  have h2 : s2.getF F.SE_PARCNT_CNT k = s.getF F.SE_PARCNT_CNT k :=
    (State.getF_setF_other (Fld.key_ne_same (by decide))).trans (State.getF_requestAt (by decide) hk _)
  rw [State.getF_setF_other (Fld.key_ne_same (by decide)), State.getF_setF_other (Fld.key_ne_same (by decide)), State.satF,
    State.getF_setF_same, h2]
  rfl

theorem State.retried_frame :
    { s.retried k raw slip with reg := s.reg, eng := s.eng, cstore := s.cstore, reqs := s.reqs, serial := s.serial } = s := rfl

end retried

/-! ### The post (R261) -/

/-- Of the engines, one alone has what `p` asks for. -/
theorem filter_engines_of_one {p : Nat → Bool} {n : Nat} (hn : n < 16) (hp : p n = true)
    (ho : ∀ k, k < 16 → k ≠ n → p k = false) : engines.filter p = [n] := by
  have h : engines.filter p = engines.filter (· == n) := List.filter_congr fun k hk => by
    obtain rfl | hne := eq_or_ne k n
    · simp [hp]
    · simp [ho k (List.mem_range.1 hk) hne, hne]
  rw [h, List.filter_beq, engines, List.count_eq_one_of_mem List.nodup_range (List.mem_range.2 hn)]
  rfl

/-- The post of engine `n` enters, as POSTWAIT then shows. -/
def State.postEntered (s : State) (n x b : Nat) (d : List Nat) : State :=
  ((s.modEng n (fun g => { g with post := none })).takeItem (s.newItem x 0 d)).setF F.DSP_SSTAT_POSTWAIT x b

theorem exec_postEntryFreed_of_one {x : Fin 16} {n : Nat} {p : Post} {c : Issued} (hn : n < 16)
    (ho : ∀ k, k < 16 → k ≠ n → (s.engOf k).post = none) (hp : (s.engOf n).post = some p) (hx : p.site = x.val)
    (hc : (s.engOf n).cur = some c) (hf : s.entryFree x.val = true) : ∃ b, exec (.postEntryFreed x) s =
      .next ((if (((s.postEntered n x.val b p.desc).completeWord n c).engOf n).item.isSome then
          ((s.postEntered n x.val b p.desc).completeWord n c).modEng n (fun g => { g with
            nextS := s.gridFrom x.val c.mask (s.localNow 8 + Time.ofNs 64) })
        else (s.postEntered n x.val b p.desc).completeWord n c).fabricNext x.val) := by
  change ∃ b, execPostEntryFreed x s = _
  unfold execPostEntryFreed
  extract_lets y waits num
  have hw : waits = [n] := filter_engines_of_one hn (by simp [hp, hx, y]) fun k hk hne => by simp [ho k hk hne]
  have hb : best (fun a b => decide (num a < num b)) waits = some n := by rw [hw]; rfl
  rw [hb]
  simp only [hp, hc]
  rw [if_pos hf]
  exact ⟨_, rfl⟩

/-- Settles O19: a retry whose mirror word is good, and the one post that waits. -/
theorem retryAndPostComplete : Obligations.RetryAndPostComplete := by
  refine ⟨fun e s t0 hp hg hb => ?_, fun x n s p c hn ho hp hx hc hf => ?_⟩
  · obtain ⟨slip, hex⟩ := exec_mchkRewriteDone_good rfl hp hg hb
    exact ⟨_, _, hex, s.store_retried .., s.parity_retried .., s.getF_retried_mclast .., s.getF_retried_parcnt _ _ (by omega), rfl,
      s.retried_frame .., rfl⟩
  · obtain ⟨b, hex⟩ := exec_postEntryFreed_of_one hn ho hp hx hc hf
    refine ⟨_, b, rfl, fun hi => hex.trans ?_, fun hi => hex.trans ?_⟩
    · rw [if_neg (by rw [State.postEntered, hi]; decide)]
      rfl
    · rw [if_pos (by rwa [State.postEntered])]
      rfl

end Sys2Proof.Machine
end

section
/-! SUPPORT. The read of a stream vector (R77, R119) for a slot number that the chip has not: its FBASE stands where a counter does. -/

namespace Sys2Proof.Machine

/-- The slot whose FBASE is the entry of MEM_SCE.CNT. -/
def farSlot : Nat := 504365056

/-- A word of one vector on channel 0, which takes record 0 of that slot. -/
def farFetch : Fetch :=
  { oct := 0, s := 0, n := 1, k := 0, row := 0, slot := some farSlot, base := some 0, mirror := false, fixed := 0, pos := 1, cmpe := false,
    tsets := [], paceCh := 0, paceSet := 0, wid := 1, vidx := 0, dead := false }

/-- Engine 0 has that word to read, and record 0 is in the FIFO. MEM_SCE.CNT holds 2^32, one more than its 32 bits can; row 0 of octet 0
drives 1 on channel 0, and row 2^32 drives 0. -/
def farRead : State := { State.reset with
  reg := [(F.MEM_SCE_CNT.key 0, 4294967296), (F.MEM_VSSTAT_STATE.key farSlot, 2)]
  eng := [(0, { fetches := [farFetch] })]
  stream := [(farSlot, { filled := 1 })]
  bb := [(0, 1#8)] }

/-- The drive codes of the vectors that channel 0 has after a command. -/
def drivesAfter (r : Res) : List Nat :=
  match r with
  | .next t => (t.chanOf 0).vects.map Vect.drive
  | _ => []

/-- The count is written back in its 32 bits before the row is looked up, so that the vector takes the code of row 0. -/
theorem drivesAfter_vectorRead_farRead : drivesAfter (exec (.vectorRead 0 0 0 0) farRead) = [1] := by decide

theorem codeAt_farRead : farRead.codeAt farFetch (some (farRead.fifoRow farSlot 0)) 0
    (farFetch.ueMask (some (farRead.fifoRow farSlot 0))) % 4 = 0 := by decide

/-- Refutes O25: the statement bounds neither the number of a stream slot nor what a register's entry holds. FBASE of slot
504,365,056 is the entry of MEM_SCE.CNT; with 2^32 there, the read itself, which counts corrected words, puts the count back into
its 32 bits, and the record comes from row 0 and not from row 2^32. -/
theorem not_vectorsAndEdges : ¬ Obligations.VectorsAndEdges := by
  intro h
  obtain ⟨hread, -, -⟩ := h
  obtain ⟨-, hstream, -⟩ := hread 0 0 farRead farFetch (by decide) rfl (by decide) _ rfl
  obtain ⟨t, ht, -, hvects, -⟩ := hstream farSlot 0 rfl rfl rfl (by decide) (by decide) (by decide)
  obtain ⟨v, hv, hd⟩ := hvects 0 0 (by decide) (by decide) rfl
  have hone : (t.chanOf 0).vects.map Vect.drive = [1] := by
    have hx := drivesAfter_vectorRead_farRead
    rwa [ht] at hx
  have hzero : (t.chanOf 0).vects.map Vect.drive = [0] := by
    rw [hv]
    exact congrArg (fun n => [n]) (hd.trans codeAt_farRead)
  exact absurd (hone.symm.trans hzero) (by decide)

end Sys2Proof.Machine
end

section
/-! SUPPORT. What the pairs of an octet change as they follow their back ends (R31, R37, R43, R155), and with them a slot that plays. -/

namespace Sys2Proof.Machine

variable {w : List Nat} {s t u : State}

/-! ### Pairs that follow -/

/-- Between `s` and `t` nothing changes but the register fields whose keys are in `w`, channels, octets and the record of outputs. -/
structure PlayOnly (w : List Nat) (s t : State) : Prop where
  frame : { t with reg := s.reg, chan := s.chan, oct := s.oct, out := s.out } = s
  regs : RegsBut w s t

theorem PlayOnly.refl (w : List Nat) (s : State) : PlayOnly w s s := ⟨rfl, .refl w s⟩

theorem PlayOnly.ite {p : Prop} [Decidable p] (ht : PlayOnly w s t) (hu : PlayOnly w s u) : PlayOnly w s (if p then t else u) := by
  split
  · exact ht
  · exact hu

theorem PlayOnly.foldl_mem {α : Type} {l : List α} {f : State → α → State} (h : PlayOnly w s t)
    (hf : ∀ {a x}, x ∈ l → PlayOnly w s a → PlayOnly w s (f a x)) : PlayOnly w s (l.foldl f t) :=
  List.foldlRecOn (motive := PlayOnly w s) l f h fun _ ha _ hx => hf hx ha

theorem PlayOnly.setF (h : PlayOnly w s t) {f : Fld} {i v : Nat} (hk : f.key i ∈ w) : PlayOnly w s (t.setF f i v) :=
  ⟨h.frame, h.regs.setF hk⟩

theorem PlayOnly.log (h : PlayOnly w s t) {o : Out} : PlayOnly w s (t.log o) := ⟨h.frame, h.regs⟩

theorem PlayOnly.setChan (h : PlayOnly w s t) {c : Nat} {k : ChanSt} : PlayOnly w s (t.setChan c k) := ⟨h.frame, h.regs⟩

theorem PlayOnly.modChan (h : PlayOnly w s t) {c : Nat} {f : ChanSt → ChanSt} : PlayOnly w s (t.modChan c f) := h.setChan

theorem PlayOnly.modWave (h : PlayOnly w s t) {o : Nat} {f : WaveSt → WaveSt} : PlayOnly w s (t.modWave o f) :=
  ⟨h.frame, h.regs⟩

theorem PlayOnly.sameMems (h : PlayOnly w s t) : s.sameMems t := by
  have hm {α : Type} (g : State → α) : g { t with reg := s.reg, chan := s.chan, oct := s.oct, out := s.out } = g s :=
    congrArg g h.frame
  exact ⟨hm State.bb, hm State.acqMem, hm State.dram, hm State.nvm, hm State.psbuf, hm State.cstore, hm State.mirror,
    hm State.tstore⟩

theorem PlayOnly.tdcEdge (h : PlayOnly w s t) {c : Nat} {rising : Bool} {tm : Time} : PlayOnly w s (t.tdcEdge c rising tm) := by
  obtain he | ⟨f, he⟩ := t.tdcEdge_cases c rising tm <;> rw [he]
  · exact h
  · exact h.modChan

theorem PlayOnly.compInput (h : PlayOnly w s t) {c : Nat} {l : Int} {tm : Time} : PlayOnly w s (t.compInput c l tm) :=
  h.ite h.setChan.tdcEdge

theorem PlayOnly.compNear (h : PlayOnly w s t) {c : Nat} {tm : Time} : PlayOnly w s (t.compNear c tm) := by
  unfold State.compNear
  split
  · exact h.compInput
  · exact h

/-- A pair that follows writes its IDLE bit (R50). -/
theorem PlayOnly.drive (h : PlayOnly w s t) {c : Nat} {p : Pin} {tm : Time} (hk : F.OCT_FESTAT_IDLE.key c ∈ w) :
    PlayOnly w s (t.drive c p tm) := by
  unfold State.drive State.pinShow State.pinTo
  extract_lets s1
  have h1 : PlayOnly w s s1 := h.modChan.setF (by rwa [chIx_eq])
  exact (h1.ite h1.modChan.log).compNear

/-- The IDLE bits of the pairs of an octet. -/
def idleKeys (o : Nat) : List Nat := (chansOf o).map F.OCT_FESTAT_IDLE.key

/-- A field of the octet whose number is not that of IDLE is none of them. -/
theorem key_notMem_idleKeys {f : Fld} {o i : Nat} (hf : f.id ≠ F.OCT_FESTAT_IDLE.id) (ho : o < 8) (hi : i < 1048576) :
    f.key i ∉ idleKeys o := by
  intro hm
  obtain ⟨c, hc, he⟩ := List.mem_map.1 hm
  obtain ⟨p, hp, rfl⟩ := List.mem_map.1 hc
  have hp := List.mem_range.1 hp
  exact Fld.key_ne hf hi (by omega) he.symm

theorem PlayOnly.driveOct {o : Nat} (h : PlayOnly (idleKeys o) s t) {p : Pin} {tm : Time} :
    PlayOnly (idleKeys o) s (t.driveOct o p tm) :=
  h.foldl_mem fun hc ha => ha.drive (List.mem_map_of_mem hc)

theorem PlayOnly.slotPlay {o : Nat} (h : PlayOnly (idleKeys o) s t) {k : Nat} {b : Option (List Byte)} :
    PlayOnly (idleKeys o) s (t.slotPlay o k b) := by
  unfold State.slotPlay
  extract_lets _ _ s1
  have h1 : PlayOnly (idleKeys o) s s1 := h.modWave.log
  split
  · exact h1.driveOct
  · exact h1.modWave.driveOct

end Sys2Proof.Machine
end

section
/-! SUPPORT. The segment ring: its slots as they are read, the granules that come in, and its configuration (R158 to R162). -/

namespace Sys2Proof.Machine

variable {s t : State} {o : Fin 8}

/-! ### A slot is read (R158, R160) -/

/-- The slot at RPTR is spent, and an incomplete one counts. -/
def State.slotSpent (s : State) (o : Nat) : State :=
  let g := s.getF F.OCT_WFRPTR_RPTR o
  let s1 := (s.incF F.OCT_WFRPTR_RPTR o).modWave o (fun w => { w with granules := w.granules.filter (fun q => q != g) })
  if (s.octSt o).wave.granules.contains g then s1 else (s1.setF F.OCT_WFSTAT_UNDERRUN o 1).incF F.OCT_WFLOST_LOST o

/-- A slot that is to play plays now, or waits with those read ahead. -/
theorem exec_ringSlotRead {sel : Bool} (hn : s.getF F.OCT_WFRING_RSIZE o.val ≠ 0) (hp : s.pers o.val = 1)
    (hs : s.slotFor o.val = some sel) :
    ∃ t, exec (.ringSlotRead o) s = .next t ∧ PlayOnly (idleKeys o.val) (s.slotSpent o.val) t := by
  change ∃ t, execRingSlotRead o s = _ ∧ _
  simp only [execRingSlotRead, hn, hp, hs, ne_eq, not_true_eq_false, or_self, if_false, ok]
  exact ⟨_, rfl, (PlayOnly.refl _ (s.slotSpent o.val)).slotPlay.ite (PlayOnly.refl _ (s.slotSpent o.val)).modWave⟩

theorem State.slotSpent_sameMems (s : State) (o : Nat) : s.sameMems (s.slotSpent o) := by
  unfold State.slotSpent
  extract_lets
  split <;> exact .refl s

theorem State.getF_slotSpent_rptr (s : State) (o : Nat) : (s.slotSpent o).getF F.OCT_WFRPTR_RPTR o =
    (s.getF F.OCT_WFRPTR_RPTR o + 1) % 2 ^ F.OCT_WFRPTR_RPTR.width := by
  unfold State.slotSpent
  extract_lets g s1
  have h1 : s1.getF F.OCT_WFRPTR_RPTR o = (s.getF F.OCT_WFRPTR_RPTR o + 1) % 2 ^ F.OCT_WFRPTR_RPTR.width :=
    State.getF_setF_same ..
  split
  · exact h1
  · rw [State.incF, State.addF, State.getF_setF_other (Fld.key_ne_same (by decide)),
      State.getF_setF_other (Fld.key_ne_same (by decide)), h1]

/-- An incomplete slot sets UNDERRUN and counts in LOST. -/
theorem State.slotSpent_incomplete {o : Nat} (h : (s.octSt o).wave.granules.contains (s.getF F.OCT_WFRPTR_RPTR o) = false) :
    (s.slotSpent o).getF F.OCT_WFSTAT_UNDERRUN o = 1 ∧
      (s.slotSpent o).getF F.OCT_WFLOST_LOST o = (s.getF F.OCT_WFLOST_LOST o + 1) % 2 ^ F.OCT_WFLOST_LOST.width := by
  unfold State.slotSpent
  extract_lets g s1
  have h1 : s1.getF F.OCT_WFLOST_LOST o = s.getF F.OCT_WFLOST_LOST o := State.getF_setF_other (Fld.key_ne_same (by decide))
  rw [if_neg (by rw [h]; decide), State.incF, State.addF]
  constructor
  · rw [State.getF_setF_other (Fld.key_ne_same (by decide)), State.getF_setF_same]
    rfl
  · rw [State.getF_setF_same, State.getF_setF_other (Fld.key_ne_same (by decide)), h1]

/-! ### A granule comes in (R159, R333) -/

/-- Bytes into the beat buffer of an octet, from byte `a` on. -/
def State.putBytes (s : State) (o a : Nat) (l : List Byte) : State := l.zipIdx.foldl (fun b p => b.setBb o (a + p.2) p.1) s

theorem BbOnly.reg (h : BbOnly s t) : t.reg = s.reg := by
  have hr := congrArg State.reg h
  exact hr

theorem BbOnly.oct (h : BbOnly s t) : t.oct = s.oct := by
  have ho := congrArg State.oct h
  exact ho

theorem State.putBytes_bbOnly (s : State) (o a : Nat) (l : List Byte) : BbOnly s (s.putBytes o a l) :=
  (BbOnly.refl s).foldl fun h => h

/-- Bytes of the buffers that are not written stay. -/
theorem get_bb_foldl_setBb_other {o a d : Nat} {l : List Byte} {n : Nat} (h : ∀ k, k < l.length → d ≠ o * 12582912 + (a + (n + k))) :
    Tbl.get (fun _ => (0 : Byte)) ((l.zipIdx n).foldl (fun b p => b.setBb o (a + p.2) p.1) s).bb d =
      Tbl.get (fun _ => 0) s.bb d := by
  induction l generalizing s n with
  | nil => rfl
  | cons x l ih =>
    have hd : d ≠ o * 12582912 + (a + n) := h 0 (Nat.succ_pos _)
    have hl : ∀ k, k < l.length → d ≠ o * 12582912 + (a + (n + 1 + k)) := fun k hk => by
      have := h (k + 1) (Nat.succ_lt_succ hk)
      omega
    exact (ih (s := s.setBb o (a + n) x) hl).trans (Tbl.get_set_other hd)

/-- Each byte that is written reads back. -/
theorem bbByte_foldl_setBb {o a k : Nat} {l : List Byte} {n : Nat} (hk : k < l.length) :
    ((l.zipIdx n).foldl (fun b p => b.setBb o (a + p.2) p.1) s).bbByte o (a + (n + k)) = l.getD k 0 := by
  induction l generalizing s n k with
  | nil => cases hk
  | cons x l ih =>
    cases k with
    | zero => exact (get_bb_foldl_setBb_other (s := s.setBb o (a + n) x) fun j _ => by omega).trans (Tbl.get_set_same ..)
    | succ k =>
      have := ih (s := s.setBb o (a + n) x) (n := n + 1) (Nat.lt_of_succ_lt_succ hk)
      rwa [Nat.add_right_comm] at this

theorem State.bbByte_putBytes {o a k : Nat} {l : List Byte} (hk : k < l.length) :
    (s.putBytes o a l).bbByte o (a + k) = l.getD k 0 := by
  have h := bbByte_foldl_setBb (s := s) (o := o) (a := a) (n := 0) hk
  rwa [Nat.zero_add] at h

theorem State.get_bb_putBytes_other {o a d : Nat} {l : List Byte} (h : ∀ k, k < l.length → d ≠ o * 12582912 + (a + k)) :
    Tbl.get (fun _ => (0 : Byte)) (s.putBytes o a l).bb d = Tbl.get (fun _ => 0) s.bb d :=
  get_bb_foldl_setBb_other fun k hk => by simpa only [Nat.zero_add] using h k hk

/-- The block that the slot at WPTR stands for. -/
def State.slotBlock (s : State) (o : Nat) : Nat :=
  s.getF F.OCT_WFRING_RBASE o + s.getF F.OCT_WFWPTR_WPTR o % s.getF F.OCT_WFRING_RSIZE o

/-- A granule is stored in the block of the slot at WPTR, which advances. -/
def State.granuleStored (s : State) (o : Nat) (data : List Byte) : State :=
  ((s.incF F.OCT_WFWPTR_WPTR o).putBytes o (s.slotBlock o * 2048) data).modWave o (fun w =>
    { w with granules := w.granules ++ [s.getF F.OCT_WFWPTR_WPTR o] })

/-- A granule that the ring has a slot for, while nothing is scrubbed, is stored if its slot is still to be read; WPTR advances. -/
theorem State.granule_of_slot {o : Nat} {data : List Byte} (hn : s.getF F.OCT_WFRING_RSIZE o ≠ 0)
    (hl : s.ringAhead o < s.getF F.OCT_WFRING_RSIZE o) (hs : ∀ x, s.octOwner o = some x → s.flag F.SITE_SSTAT_SCRUB x = false) :
    s.granule o data =
      if s.ringAhead o < 0 then s.incF F.OCT_WFWPTR_WPTR o else s.granuleStored o (data.take 2048) := by
  unfold State.granule
  refine if_neg ?_
  rintro (h | h | h)
  · exact hn h
  · omega
  · split at h
    · next x hx => exact Bool.false_ne_true ((hs x hx).symm.trans h)
    · cases h

section stored

variable (s) (o : Nat) (data : List Byte)

/-- Of the registers WPTR alone changes. -/
theorem State.reg_granuleStored : (s.granuleStored o data).reg = (s.incF F.OCT_WFWPTR_WPTR o).reg :=
  ((s.incF F.OCT_WFWPTR_WPTR o).putBytes_bbOnly o (s.slotBlock o * 2048) data).reg

theorem State.getF_granuleStored_wptr : (s.granuleStored o data).getF F.OCT_WFWPTR_WPTR o =
    (s.getF F.OCT_WFWPTR_WPTR o + 1) % 2 ^ F.OCT_WFWPTR_WPTR.width := by
  rw [State.getF, State.reg_granuleStored]
  exact State.getF_setF_same ..

theorem State.granuleStored_regs : RegsBut [F.OCT_WFWPTR_WPTR.key o] s (s.granuleStored o data) := by
  have h : RegsBut [F.OCT_WFWPTR_WPTR.key o] s (s.incF F.OCT_WFWPTR_WPTR o) := (RegsBut.refl _ s).setF (List.mem_singleton_self _)
  intro k hk
  rw [State.reg_granuleStored, h k hk]

theorem State.granuleStored_frame : { s.granuleStored o data with reg := s.reg, oct := s.oct, bb := s.bb } = s :=
  congrArg (fun u : State => { u with reg := s.reg, oct := s.oct })
    ((s.incF F.OCT_WFWPTR_WPTR o).putBytes_bbOnly o (s.slotBlock o * 2048) data)

theorem State.granules_granuleStored :
    ((s.granuleStored o data).octSt o).wave.granules = (s.octSt o).wave.granules ++ [s.getF F.OCT_WFWPTR_WPTR o] := by
  have h : ((s.incF F.OCT_WFWPTR_WPTR o).putBytes o (s.slotBlock o * 2048) data).oct = s.oct :=
    ((s.incF F.OCT_WFWPTR_WPTR o).putBytes_bbOnly o (s.slotBlock o * 2048) data).oct
  rw [State.granuleStored, State.octSt_modWave_wave, State.octSt, h, State.octSt]

end stored

theorem exec_granuleArrive_scrubbed {data : List Byte} {x : Nat} (hx : s.octOwner o.val = some x)
    (hs : s.flag F.SITE_SSTAT_SCRUB x = true) : exec (.granuleArrive o data) s = .next s := by
  change ok (s.granule o.val data) = _
  simp only [State.granule, hx, hs, or_true, if_true, ok]

/-! ### The write of OCT_WFRING (R162) -/

@[simp] theorem State.octOwner_ordered (s : State) (y : Nat) (q : Order) (o : Nat) : (s.ordered y q).octOwner o = s.octOwner o := rfl
@[simp] theorem State.fnSite_ordered (s : State) (y : Nat) (q : Order) (fn : Fn) (x : Nat) :
    (s.ordered y q).fnSite fn x = s.fnSite fn x := rfl

/-- May the ring of an octet be `n` blocks from block `b`: no chain runs, and it is off or lies in the rows of the owner? -/
def State.ringFits (s : State) (o b n : Nat) : Bool :=
  !s.flag F.OCT_WFSTAT_RUN o && (n == 0 || (decide (8 ≤ n) && decide (n ≤ 6144) && decide (b + n ≤ 6144) && s.blocksIn o b n))

theorem State.ringFits_of_blocksIn {b n o : Nat} (hr : s.flag F.OCT_WFSTAT_RUN o = false) (hn : 8 ≤ n) (hb : b + n ≤ 6144)
    (hi : s.blocksIn o b n = true) : s.ringFits o b n = true := by
  have hle : n ≤ 6144 := by omega
  simp [State.ringFits, hr, hn, hle, hb, hi]

theorem State.ringFits_of_running {o : Nat} (hr : s.flag F.OCT_WFSTAT_RUN o = true) (b n : Nat) : s.ringFits o b n = false := by
  simp [State.ringFits, hr]

/-- What a write gives the ring's registers: its blocks, and both pointers 0. -/
def ringRegs (b n : Nat) : List (Fld × Nat) :=
  [(F.OCT_WFRING_RBASE, b), (F.OCT_WFRING_RSIZE, n), (F.OCT_WFRPTR_RPTR, 0), (F.OCT_WFWPTR_WPTR, 0)]

/-- The ring of an octet as it is configured anew, without granules and slots read. -/
def State.ringSet (s : State) (o b n : Nat) : State :=
  (s.setFs o (ringRegs b n)).modWave o (fun w => { w with granules := [], queue := [] })

theorem State.getF_ringSet (s : State) (o : Nat) {b n : Nat} (hb : b < 2 ^ 13) (hn : n < 2 ^ 13) :
    (s.ringSet o b n).getF F.OCT_WFRING_RBASE o = b ∧ (s.ringSet o b n).getF F.OCT_WFRING_RSIZE o = n ∧
      (s.ringSet o b n).getF F.OCT_WFRPTR_RPTR o = 0 ∧ (s.ringSet o b n).getF F.OCT_WFWPTR_WPTR o = 0 := by
  have hget {f : Fld} {v : Nat} (hp : (f, v) ∈ ringRegs b n) (hv : v < 2 ^ f.width) : (s.ringSet o b n).getF f o = v :=
    (State.getF_setFs_mem hp (by simp only [ringRegs, List.map_cons, List.map_nil]; decide) o).trans (Nat.mod_eq_of_lt hv)
  exact ⟨hget (by simp [ringRegs]) hb, hget (by simp [ringRegs]) hn, hget (by simp [ringRegs]) (by decide),
    hget (by simp [ringRegs]) (by decide)⟩

theorem State.ringSet_wave (s : State) (o b n : Nat) :
    ((s.ringSet o b n).octSt o).wave.granules = [] ∧ ((s.ringSet o b n).octSt o).wave.queue = [] := by
  rw [State.ringSet, State.octSt_modWave_wave]
  exact ⟨rfl, rfl⟩

theorem State.ringSet_regs (s : State) (o b n : Nat) : RegsBut ((ringRegs b n).map fun p => p.1.key o) s (s.ringSet o b n) :=
  (s.setFs_regsOnly o (ringRegs b n)).2

theorem State.ringSet_frame (s : State) (o b n : Nat) : { s.ringSet o b n with reg := s.reg, oct := s.oct } = s :=
  congrArg (fun u : State => { u with oct := s.oct }) (s.setFs_regsOnly o (ringRegs b n)).1

/-- The write of the VF that owns the octet configures the ring, or is rejected. -/
theorem exec_wfringWrite_of_owner {n : Fin 16} (h : s.hostFree n) (hx : s.octOwner o.val = some n.val) (data : Nat) :
    ∃ q, exec (.wfringWrite (.vf n) o data) s = .next (if s.ringFits o.val (bits data 12 0) (bits data 28 16) then
      (s.ordered n.val q).ringSet o.val (bits data 12 0) (bits data 28 16)
      else (s.ordered n.val q).setF F.OCT_WFSTAT_CFG_REJ o.val 1) := by
  change ∃ q, execWfringWrite (.vf n) o data s = _
  have hf : s.fnSite (.vf n) n.val = true := by simp [State.fnSite, fnIsSite, h.1]
  rw [execWfringWrite, State.hostOrder_of_hostFree h]
  simp only [State.octOwner_ordered, State.fnSite_ordered, hx, hf, if_true]
  exact ⟨_, (apply_ite Host.Outcome.next ..).symm⟩

/-- RBASE and RSIZE in a word of OCT_WFRING. -/
theorem bits_wfring {b n : Nat} (h : b + n ≤ 6144) : bits (b + n * 65536) 12 0 = b ∧ bits (b + n * 65536) 28 16 = n := by
  simp only [bits]
  omega

/-- Settles O23: a slot read spends the slot at RPTR, a granule in time is stored byte by byte, and the owner's write configures the ring
or is rejected. -/
theorem waveformRing : Obligations.WaveformRing := by
  refine ⟨fun o s sel hn hp hs => ?_, fun o s data hn hr hl hd hs => ?_, fun o s data hn hr hs => ?_,
    fun o s data x hx hs => exec_granuleArrive_scrubbed hx hs, fun o n s b sz h hx hr hz hb hi => ?_,
    fun o n s data h hx hr => ?_⟩
  · obtain ⟨t, ht, hplay⟩ := exec_ringSlotRead hn hp hs
    have hget {f : Fld} (hf : f.id ≠ F.OCT_FESTAT_IDLE.id) : t.getF f o.val = (s.slotSpent o.val).getF f o.val :=
      hplay.regs.getF (key_notMem_idleKeys hf o.isLt (by omega))
    refine ⟨t, ht, (hget (by decide)).trans (s.getF_slotSpent_rptr o.val), (s.slotSpent_sameMems o.val).trans hplay.sameMems,
      fun hg => ?_⟩
    obtain ⟨hunder, hlost⟩ := State.slotSpent_incomplete hg
    exact ⟨(hget (by decide)).trans hunder, (hget (by decide)).trans hlost⟩
  · have hgran := (s.granule_of_slot (data := data) hn hl hs).trans (if_neg hr.not_gt)
    rw [List.take_of_length_le hd.le] at hgran
    exact ⟨_, congrArg Host.Outcome.next hgran, s.getF_granuleStored_wptr .., fun k hk => State.bbByte_putBytes (hd ▸ hk),
      fun a ha => State.get_bb_putBytes_other (hd ▸ ha), s.granules_granuleStored .., s.granuleStored_frame ..,
      s.granuleStored_regs o.val data⟩
  · exact ⟨_, congrArg Host.Outcome.next ((s.granule_of_slot hn (by omega) hs).trans (if_pos hr)), State.getF_setF_same ..,
      (RegsOnly.refl _ s).setF (List.mem_singleton_self _)⟩
  · obtain ⟨q, hq⟩ := exec_wfringWrite_of_owner h hx (b + sz * 65536)
    obtain ⟨hbase, hsize⟩ := bits_wfring hb
    rw [hbase, hsize, if_pos (State.ringFits_of_blocksIn hr hz hb hi)] at hq
    obtain ⟨hrbase, hrsize, hrptr, hwptr⟩ := (s.ordered n.val q).getF_ringSet o.val (b := b) (n := sz) (by omega) (by omega)
    obtain ⟨hgranules, hqueue⟩ := (s.ordered n.val q).ringSet_wave o.val b sz
    exact ⟨_, hq, hrbase, hrsize, hrptr, hwptr, hgranules, hqueue,
      congrArg (fun u : State => { u with site := s.site }) ((s.ordered n.val q).ringSet_frame o.val b sz),
      (s.ordered n.val q).ringSet_regs o.val b sz⟩
  · obtain ⟨q, hq⟩ := exec_wfringWrite_of_owner h hx data
    rw [State.ringFits_of_running hr] at hq
    exact ⟨_, hq, State.getF_setF_same .., rfl, RegsBut.setF (t := s) (.refl _ s) (List.mem_singleton_self _)⟩

end Sys2Proof.Machine
end

section
/-! SUPPORT. The redirection of a chain by WOP 3 (R153) for an entry number that no octet has: its END stands where SEGERR of octet 0 does. -/

namespace Sys2Proof.Machine

/-- The entry whose END, in octet 1, is the entry of OCT_WFSTAT.SEGERR of octet 0: 13,627,392. -/
def farEntry : Nat := F.OCT_WFSTAT_SEGERR.key 0 - F.OCT_SEGCTL_END.key (segIx 1 0)

/-- A WOP 3 of site 0 that names that entry for octets 0 and 1. -/
def farRedirect : PinAct := { wid := 0, site := 0, t := 0, act := .wop 3 farEntry 65535 0 }

/-- The segment that octet 1 plays. -/
def farPlayed : SegEnt :=
  { ent := 0, blk := 0, ngr := 8, next := 0, fin := false, ring := false, trg := 0, flash := 0, rpt := 0 }

/-- Octets 0 and 1 are in waveform personality and belong to site 0, and octet 1 plays a chain. -/
def farTaken : State := { State.reset with
  reg := [(F.SITE_MAP_WORD.key 1, 1), (F.SITE_MAP_WORD.key 3, 65535)]
  live := [(F.OCT_PERS_PERS.key 0, 1), (F.OCT_PERS_PERS.key 1, 1)]
  oct := [(1, { wave := { play := some farPlayed } })] }

/-- There the WOP 3 is on its way from engine 0. -/
def farChain : State := { farTaken with eng := [(0, { acts := [farRedirect] })] }

/-- END of each entry at which the chain of octet 1 is to go on after a command. -/
def endsAfter (r : Res) : List Bool :=
  match r with
  | .next t => (t.octSt 1).wave.goto.map fun g => g.1.fin
  | _ => []

/-- Octet 0 comes first and finds the entry invalid; its SEGERR is what octet 1 then reads as END. -/
theorem endsAfter_wopContinue_farChain : endsAfter (exec (.wopContinue 0) farChain) = [true] := by decide

theorem wopEntry_farTaken_end : (farTaken.wopEntry 1 0 0 farEntry none).1.1.fin = false := by decide

/-- Refutes O22: the statement bounds no entry number that a WOP names. END of entry 13,627,392 of octet 1 is the entry of SEGERR of
octet 0. A WOP 3 to that entry for both octets finds it invalid in octet 0 and sets SEGERR there, so that octet 1 is sent on to an entry
with END; as the entry stood when the WOP acted, which is what the statement asks for, it had none. -/
theorem not_segmentsAndChains : ¬ Obligations.SegmentsAndChains := by
  intro h
  obtain ⟨-, -, -, hcontinue⟩ := h
  obtain ⟨t, ht, -, hgoto, -⟩ := hcontinue 0 farChain farTaken farRedirect farEntry 65535 0 rfl rfl
  have hset : (t.octSt 1).wave.goto.map (fun g => g.1.fin) = [false] := by
    rw [hgoto 1 (by decide) (by decide)]
    exact congrArg (fun b => [b]) wopEntry_farTaken_end
  have hdone : (t.octSt 1).wave.goto.map (fun g => g.1.fin) = [true] := by
    have hx := endsAfter_wopContinue_farChain
    rwa [ht] at hx
  exact absurd (hset.symm.trans hdone) (by decide)

end Sys2Proof.Machine
end

section
/-! SUPPORT. What the operations on a lane's queues change (R168, R177, R181, R182). -/

namespace Sys2Proof.Machine

variable {w v : List Nat} {c k : Nat} {s t u : State}

/-! ### A channel alone -/

theorem ChanOnly.refl (c : Nat) (w : List Nat) (s : State) : ChanOnly c w s s := ⟨rfl, .refl w s, fun _ _ => rfl⟩

theorem ChanOnly.setF (h : ChanOnly c w s t) {f : Fld} {i n : Nat} (hk : f.key i ∈ w) : ChanOnly c w s (t.setF f i n) :=
  ⟨h.1, h.2.1.setF hk, h.2.2⟩

theorem ChanOnly.incF (h : ChanOnly c w s t) {f : Fld} {i : Nat} (hk : f.key i ∈ w) : ChanOnly c w s (t.incF f i) := h.setF hk

theorem ChanOnly.setFs (h : ChanOnly c w s t) {i : Nat} {l : List (Fld × Nat)} (hk : ∀ p ∈ l, p.1.key i ∈ w) :
    ChanOnly c w s (t.setFs i l) :=
  List.foldlRecOn (motive := ChanOnly c w s) l _ h fun _ ha p hp => ha.setF (hk p hp)

theorem ChanOnly.modChan (h : ChanOnly c w s t) {f : ChanSt → ChanSt} : ChanOnly c w s (t.modChan c f) :=
  ⟨h.1, h.2.1, fun k hk => (State.chanOf_modChan_other hk).trans (h.2.2 k hk)⟩

theorem ChanOnly.modLane (h : ChanOnly c w s t) {f : LaneSt → LaneSt} : ChanOnly c w s (t.modLane c f) := h.modChan

theorem State.lane_modLane (s : State) (c : Nat) (f : LaneSt → LaneSt) :
    ((s.modLane c f).chanOf c).lane = f (s.chanOf c).lane := by
  rw [State.modLane, State.chanOf_modChan_same]

@[simp] theorem State.getF_modLane (s : State) (c : Nat) (f : LaneSt → LaneSt) (g : Fld) (i : Nat) :
    (s.modLane c f).getF g i = s.getF g i := rfl

@[simp] theorem State.chanOf_setF (s : State) (f : Fld) (i n k : Nat) : (s.setF f i n).chanOf k = s.chanOf k := rfl

@[simp] theorem State.chanOf_incF (s : State) (f : Fld) (i k : Nat) : (s.incF f i).chanOf k = s.chanOf k := rfl

theorem State.getF_incF_same (s : State) (f : Fld) (i : Nat) : (s.incF f i).getF f i = (s.getF f i + 1) % 2 ^ f.width :=
  State.getF_setF_same ..

@[simp] theorem State.chanOf_setFs (s : State) (i : Nat) (l : List (Fld × Nat)) (k : Nat) :
    (s.setFs i l).chanOf k = s.chanOf k := by
  have h : (s.setFs i l).chan = s.chan := (congrArg State.chan (s.setFs_regsOnly i l).1 :)
  rw [State.chanOf, h, State.chanOf]

/-! ### The registers that show a lane's queues (R168, R182) -/

/-- The head of the timestamp queue, or where it is empty an entry of zeros. -/
def LaneSt.tsHead (l : LaneSt) : TsEnt := l.tsq.head?.getD { id := 0, status := 0, t := 0 }

/-- What LQN, TSQN, TSQHEAD and TSQT show of a lane. -/
def LaneSt.shown (l : LaneSt) : List (Fld × Nat) :=
  [(F.OCT_LSTAT_LQN, l.queue.length), (F.OCT_LSTAT_TSQN, l.tsq.length), (F.OCT_TSQHEAD_ID, l.tsHead.id),
    (F.OCT_TSQHEAD_STATUS, l.tsHead.status), (F.OCT_TSQHEAD_VALID, b2n (!l.tsq.isEmpty)),
    (F.OCT_TSQT_LO_FRAC, Time.frac32 l.tsHead.t), (F.OCT_TSQT_HI_NS, Time.int32 l.tsHead.t)]

theorem State.laneShow_eq (s : State) (c : Nat) : s.laneShow c = s.setFs (lnIx c) (s.chanOf c).lane.shown := by
  have hf : Time.frac32 0 = 0 := by decide
  have hi : Time.int32 0 = 0 := by decide
  unfold State.laneShow LaneSt.shown LaneSt.tsHead
  cases h : (s.chanOf c).lane.tsq with
  | nil =>
    simp only [h, List.head?_nil, Option.getD_none, hf, hi]
    rfl
  | cons e l =>
    simp only [h, List.head?_cons, Option.getD_some]
    rfl

theorem LaneSt.shown_nodup (l : LaneSt) : (l.shown.map fun p => p.1.id).Nodup := by
  change List.Nodup [180, 179, 184, 185, 186, 187, 188]
  decide

theorem LaneSt.key_shown {l : LaneSt} {p : Fld × Nat} (hp : p ∈ l.shown) : p.1.key (lnIx c) ∈ laneKeys c :=
  (List.mem_map_of_mem (f := fun p => p.1.key (lnIx c)) hp :)

theorem ChanOnly.laneShow (h : ChanOnly c w s t) (hw : laneKeys c ⊆ w) : ChanOnly c w s (t.laneShow c) := by
  rw [State.laneShow_eq]
  exact h.setFs fun _ hp => hw (LaneSt.key_shown hp)

@[simp] theorem State.chanOf_laneShow (s : State) (c k : Nat) : (s.laneShow c).chanOf k = s.chanOf k := by
  rw [State.laneShow_eq, State.chanOf_setFs]

/-- Each register that shows the queues reads what it shows. -/
theorem State.getF_laneShow {p : Fld × Nat} (hp : p ∈ (s.chanOf c).lane.shown) :
    (s.laneShow c).getF p.1 (lnIx c) = p.2 % 2 ^ p.1.width := by
  rw [State.laneShow_eq]
  exact State.getF_setFs_mem hp (LaneSt.shown_nodup _) _

theorem State.getF_laneShow_other {f : Fld} {i : Nat} (h : f.key i ∉ laneKeys c) : (s.laneShow c).getF f i = s.getF f i :=
  ((ChanOnly.refl c (laneKeys c) s).laneShow (List.Subset.refl _)).2.1.getF h

/-- A field that no queue shows is none of them. -/
theorem key_notMem_laneKeys {f : Fld} {i : Nat} (hf : f.id ∉ [180, 179, 184, 185, 186, 187, 188]) (hc : c < 64) (hi : i < 1048576) :
    f.key i ∉ laneKeys c := by
  intro hm
  obtain ⟨g, hg, he⟩ := List.mem_map.1 hm
  have hne : f.id ≠ g.id := fun e => hf (e ▸ List.mem_map_of_mem (f := Fld.id) hg)
  have hj : lnIx c < 1048576 := by rw [lnIx_eq]; omega
  exact Fld.key_ne hne hi hj he.symm

/-! ### Completion, and the next entry (R177, R179, R181) -/

theorem State.lane_laneDone (s : State) (c id st : Nat) (tm : Time) : ((s.laneDone c id st tm).chanOf c).lane =
    { (s.chanOf c).lane with tsPend := (s.chanOf c).lane.tsPend ++ [{ id := id, status := st, t := tm }] } := by
  unfold State.laneDone
  extract_lets s1
  have h1 : (s1.chanOf c).lane = _ := s.lane_modLane c _
  split
  · exact h1
  · rw [State.chanOf_incF, h1]

theorem ChanOnly.laneDone (h : ChanOnly c w s t) (hw : F.OCT_LMISS_MISS.key (lnIx c) ∈ w) {id st : Nat} {tm : Time} :
    ChanOnly c w s (t.laneDone c id st tm) := by
  unfold State.laneDone
  extract_lets s1
  split
  · exact h.modLane
  · exact h.modLane.incF hw

theorem State.getF_laneDone_miss {st : Nat} (h : st ≠ 0) (s : State) (c id : Nat) (tm : Time) :
    (s.laneDone c id st tm).getF F.OCT_LMISS_MISS (lnIx c) =
      (s.getF F.OCT_LMISS_MISS (lnIx c) + 1) % 2 ^ F.OCT_LMISS_MISS.width := by
  rw [State.laneDone, if_neg h, State.getF_incF_same, State.getF_modLane]

theorem State.getF_laneDone_other {f : Fld} {i : Nat} (h : f.key i ≠ F.OCT_LMISS_MISS.key (lnIx c)) (id st : Nat) (tm : Time) :
    (s.laneDone c id st tm).getF f i = s.getF f i :=
  ((ChanOnly.refl c [F.OCT_LMISS_MISS.key (lnIx c)] s).laneDone (List.mem_singleton_self _)).2.1.getF (by simpa using h)

theorem State.lane_laneNext (s : State) (c : Nat) (tm : Time) : ((s.laneNext c tm).chanOf c).lane =
    { (s.chanOf c).lane with queue := (s.chanOf c).lane.queue.drop 1, frame := none, headAt := tm } := by
  rw [State.laneNext, State.chanOf_laneShow, State.lane_modLane]

theorem ChanOnly.laneNext (h : ChanOnly c w s t) (hw : laneKeys c ⊆ w) {tm : Time} : ChanOnly c w s (t.laneNext c tm) :=
  h.modLane.laneShow hw

theorem State.getF_laneNext_other {f : Fld} {i : Nat} (h : f.key i ∉ laneKeys c) (tm : Time) :
    (s.laneNext c tm).getF f i = s.getF f i :=
  State.getF_laneShow_other h

theorem miss_notMem_laneKeys (hc : c < 64) : F.OCT_LMISS_MISS.key (lnIx c) ∉ laneKeys c :=
  key_notMem_laneKeys (by decide) hc (by rw [lnIx_eq]; omega)

/-- The head leaves with a status other than SENT: its entry is due, and MISS counts it (R177, R179). -/
theorem State.headDone_spec {st : Nat} (h : st ≠ 0) (hc : c < 64) (s : State) (r : Launch) (tm : Time) :
    ((s.headDone c r st tm).chanOf c).lane = { (s.chanOf c).lane with
      queue := (s.chanOf c).lane.queue.drop 1, frame := none, headAt := tm,
      tsPend := (s.chanOf c).lane.tsPend ++ [{ id := r.id, status := st, t := if st = 4 then tm else r.when tm }] } ∧
    (s.headDone c r st tm).getF F.OCT_LMISS_MISS (lnIx c) =
      (s.getF F.OCT_LMISS_MISS (lnIx c) + 1) % 2 ^ F.OCT_LMISS_MISS.width ∧
    ChanOnly c (F.OCT_LMISS_MISS.key (lnIx c) :: laneKeys c) s (s.headDone c r st tm) := by
  refine ⟨?_, ?_, ?_⟩
  · rw [State.headDone, State.lane_laneNext, State.lane_laneDone]
  · rw [State.headDone, State.getF_laneNext_other (miss_notMem_laneKeys hc), State.getF_laneDone_miss h]
  · exact ((ChanOnly.refl c _ s).laneDone List.mem_cons_self).laneNext (List.subset_cons_self _ _)

end Sys2Proof.Machine
end

section
/-! SUPPORT. The requests of a POP (R176 to R178), and the head of a launch queue (R179). -/

namespace Sys2Proof.Machine

variable {s a : State} {x c obj : Nat} {tgt : Option Time} {tm : Time}

/-! ### One request -/

/-- The keys of the fields that a request on a lane can write. -/
def popKeys (c : Nat) : List Nat :=
  keysAt (lnIx c) [F.OCT_LSEQ_SEQ, F.OCT_LSTAT_LQ_FULL, F.OCT_LMISS_MISS] ++ laneKeys c

/-- The fields of those keys. -/
def popFlds : List Fld :=
  [F.OCT_LSEQ_SEQ, F.OCT_LSTAT_LQ_FULL, F.OCT_LMISS_MISS, F.OCT_LSTAT_LQN, F.OCT_LSTAT_TSQN, F.OCT_TSQHEAD_ID,
    F.OCT_TSQHEAD_STATUS, F.OCT_TSQHEAD_VALID, F.OCT_TSQT_LO_FRAC, F.OCT_TSQT_HI_NS]

theorem popKeys_eq (c : Nat) : popKeys c = keysAt (lnIx c) popFlds := rfl

theorem key_mem_popKeys {f : Fld} (h : f ∈ popFlds) (c : Nat) : f.key (lnIx c) ∈ popKeys c := by
  rw [popKeys_eq]
  exact List.mem_map_of_mem h

/-- A field that stands after those of the timestamp queue is none of them, at any index: the templates and the partition map. -/
theorem key_notMem_popKeys_of_later {f : Fld} (hf : 188 < f.id) (hc : c < 64) (i : Nat) : f.key i ∉ popKeys c := by
  intro hm
  rw [popKeys_eq] at hm
  obtain ⟨g, hg, he⟩ := List.mem_map.1 hm
  have hi : ∀ g ∈ popFlds, g.id ≤ 188 := by decide
  have hj : lnIx c < 1048576 := by rw [lnIx_eq]; omega
  exact Fld.key_ne_of_id_lt ((hi g hg).trans_lt hf) hj he

/-- No field of another lane is one of them. -/
theorem key_notMem_popKeys_of_ne {f : Fld} {k : Nat} (h : k ≠ c) (hc : c < 64) (hk : k < 64) : f.key (lnIx k) ∉ popKeys c := by
  intro hm
  rw [popKeys_eq] at hm
  obtain ⟨g, -, he⟩ := List.mem_map.1 hm
  rw [lnIx_eq, lnIx_eq, Fld.key, Fld.key] at he
  omega

/-- How far ahead of `tm` a target lies, in the 64 bits of the half-window form (R178). -/
def aheadOf (tgt : Option Time) (tm : Time) : Int :=
  match tgt with
  | some u => ((Time.toFix u : Int) - Time.toFix tm) % 18446744073709551616
  | none => 0

/-- A target 16 ns to 2^31 ns ahead is armed (R178). -/
def armsAt (tgt : Option Time) (tm : Time) : Bool :=
  tgt.isSome && decide (16 * 4294967296 ≤ aheadOf tgt tm) && decide (aheadOf tgt tm < 2147483648 * 4294967296)

/-- The entry that a request on channel `c` at `tm` puts into the launch queue (R177, R178). -/
def State.launchOf (s : State) (c obj : Nat) (tgt : Option Time) (tm : Time) : Launch :=
  { id := s.getF F.OCT_LSEQ_SEQ (lnIx c), tpl := s.tplWords (octOf c) obj, timed := tgt.isSome,
    target := match tgt with
      | some u => if armsAt tgt tm then tm + (aheadOf tgt tm).toNat * 8000 else u
      | none => tm,
    ew := tm, armed := armsAt tgt tm }

theorem State.popRequest_of_full (h : 16 ≤ (s.chanOf c).lane.queue.length) : s.popRequest x c obj tgt tm =
    ((s.incF F.OCT_LSEQ_SEQ (lnIx c)).setF F.OCT_LSTAT_LQ_FULL (lnIx c) 1).laneDone c (s.getF F.OCT_LSEQ_SEQ (lnIx c)) 5 tm :=
  if_pos h

theorem State.popRequest_of_invalid (h : (s.chanOf c).lane.queue.length < 16)
    (hv : 1023 < obj ∨ s.tplValid x (octOf c) (s.tplWords (octOf c) obj) = false) : s.popRequest x c obj tgt tm =
    (s.incF F.OCT_LSEQ_SEQ (lnIx c)).laneDone c (s.getF F.OCT_LSEQ_SEQ (lnIx c)) 7 tm :=
  (if_neg (by omega)).trans (if_pos hv)

theorem State.popRequest_of_valid (h : (s.chanOf c).lane.queue.length < 16) (ho : obj ≤ 1023)
    (hv : s.tplValid x (octOf c) (s.tplWords (octOf c) obj) = true) : s.popRequest x c obj tgt tm =
    ((s.incF F.OCT_LSEQ_SEQ (lnIx c)).modLane c (fun l => { l with
      queue := l.queue ++ [s.launchOf c obj tgt tm], headAt := if l.queue.isEmpty then tm else l.headAt })).laneShow c := by
  have hn : ¬(1023 < obj ∨ s.tplValid x (octOf c) (s.tplWords (octOf c) obj) = false) := by simp [ho, hv]
  exact (if_neg (by omega)).trans (if_neg hn)

/-- A request joins the queue, or completes LQFULL or TPL. -/
theorem State.popRequest_cases (s : State) (x c obj : Nat) :
    16 ≤ (s.chanOf c).lane.queue.length ∨
      (s.chanOf c).lane.queue.length < 16 ∧ (1023 < obj ∨ s.tplValid x (octOf c) (s.tplWords (octOf c) obj) = false) ∨
      (s.chanOf c).lane.queue.length < 16 ∧ obj ≤ 1023 ∧ s.tplValid x (octOf c) (s.tplWords (octOf c) obj) = true := by
  have ho := Nat.lt_or_ge 1023 obj
  have hq := Nat.lt_or_ge (s.chanOf c).lane.queue.length 16
  cases hv : s.tplValid x (octOf c) (s.tplWords (octOf c) obj) <;> simp <;> omega

theorem State.popRequest_chanOnly (s : State) (x c obj : Nat) (tgt : Option Time) (tm : Time) :
    ChanOnly c (popKeys c) s (s.popRequest x c obj tgt tm) := by
  have h1 : ChanOnly c (popKeys c) s (s.incF F.OCT_LSEQ_SEQ (lnIx c)) :=
    (ChanOnly.refl c _ s).incF (key_mem_popKeys (by decide) c)
  have hm : F.OCT_LMISS_MISS.key (lnIx c) ∈ popKeys c := key_mem_popKeys (by decide) c
  obtain h | ⟨h, hv⟩ | ⟨h, ho, hv⟩ := s.popRequest_cases x c obj
  · rw [State.popRequest_of_full h]
    exact (h1.setF (key_mem_popKeys (by decide) c)).laneDone hm
  · rw [State.popRequest_of_invalid h hv]
    exact h1.laneDone hm
  · rw [State.popRequest_of_valid h ho hv]
    exact h1.modLane.laneShow (List.subset_append_right _ _)

/-- Each request takes one identifier, whatever becomes of it (R176). -/
theorem State.getF_popRequest_seq (hc : c < 64) (s : State) (x obj : Nat) (tgt : Option Time) (tm : Time) :
    (s.popRequest x c obj tgt tm).getF F.OCT_LSEQ_SEQ (lnIx c) =
      (s.getF F.OCT_LSEQ_SEQ (lnIx c) + 1) % 2 ^ F.OCT_LSEQ_SEQ.width := by
  have hm : F.OCT_LSEQ_SEQ.key (lnIx c) ≠ F.OCT_LMISS_MISS.key (lnIx c) := Fld.key_ne_same (by decide)
  have hl : F.OCT_LSEQ_SEQ.key (lnIx c) ∉ laneKeys c := key_notMem_laneKeys (by decide) hc (by rw [lnIx_eq]; omega)
  obtain h | ⟨h, hv⟩ | ⟨h, ho, hv⟩ := s.popRequest_cases x c obj
  · rw [State.popRequest_of_full h, State.getF_laneDone_other hm, State.getF_setF_other (Fld.key_ne_same (by decide)),
      State.getF_incF_same]
  · rw [State.popRequest_of_invalid h hv, State.getF_laneDone_other hm, State.getF_incF_same]
  · rw [State.popRequest_of_valid h ho hv, State.getF_laneShow_other hl, State.getF_modLane, State.getF_incF_same]

theorem State.popRequest_full_spec (h : 16 ≤ (s.chanOf c).lane.queue.length) :
    (s.popRequest x c obj tgt tm).getF F.OCT_LSTAT_LQ_FULL (lnIx c) = 1 ∧
      ((s.popRequest x c obj tgt tm).chanOf c).lane = { (s.chanOf c).lane with
        tsPend := (s.chanOf c).lane.tsPend ++ [{ id := s.getF F.OCT_LSEQ_SEQ (lnIx c), status := 5, t := tm }] } := by
  rw [State.popRequest_of_full h]
  exact ⟨(State.getF_laneDone_other (Fld.key_ne_same (by decide)) ..).trans (State.getF_setF_same ..), State.lane_laneDone ..⟩

theorem State.popRequest_invalid_spec (h : (s.chanOf c).lane.queue.length < 16)
    (hv : 1023 < obj ∨ s.tplValid x (octOf c) (s.tplWords (octOf c) obj) = false) :
    ((s.popRequest x c obj tgt tm).chanOf c).lane = { (s.chanOf c).lane with
      tsPend := (s.chanOf c).lane.tsPend ++ [{ id := s.getF F.OCT_LSEQ_SEQ (lnIx c), status := 7, t := tm }] } := by
  rw [State.popRequest_of_invalid h hv]
  exact State.lane_laneDone ..

theorem State.popRequest_valid_spec (h : (s.chanOf c).lane.queue.length < 16) (ho : obj ≤ 1023)
    (hv : s.tplValid x (octOf c) (s.tplWords (octOf c) obj) = true) :
    ((s.popRequest x c obj tgt tm).chanOf c).lane = { (s.chanOf c).lane with
      queue := (s.chanOf c).lane.queue ++ [s.launchOf c obj tgt tm],
      headAt := if (s.chanOf c).lane.queue.isEmpty then tm else (s.chanOf c).lane.headAt } ∧
    (s.popRequest x c obj tgt tm).getF F.OCT_LSTAT_LQN (lnIx c) =
      ((s.chanOf c).lane.queue.length + 1) % 2 ^ F.OCT_LSTAT_LQN.width := by
  rw [State.popRequest_of_valid h ho hv]
  have hl := (s.incF F.OCT_LSEQ_SEQ (lnIx c)).lane_modLane c (fun l => { l with
    queue := l.queue ++ [s.launchOf c obj tgt tm], headAt := if l.queue.isEmpty then tm else l.headAt })
  refine ⟨by rw [State.chanOf_laneShow, hl, State.chanOf_incF], ?_⟩
  refine (State.getF_laneShow (p := (F.OCT_LSTAT_LQN, _)) List.mem_cons_self).trans ?_
  rw [hl]
  simp

/-! ### The requests of a mask -/

/-- What a request on channel `c` reads is in `a` as it is in `s`. -/
structure SameLane (c : Nat) (s a : State) : Prop where
  chan : a.chanOf c = s.chanOf c
  seq : a.getF F.OCT_LSEQ_SEQ (lnIx c) = s.getF F.OCT_LSEQ_SEQ (lnIx c)
  later : ∀ f : Fld, 188 < f.id → ∀ i, a.getF f i = s.getF f i

/-- The templates stand after the fields that a request writes. -/
theorem SameLane.tplWords (h : SameLane c s a) (o n : Nat) : a.tplWords o n = s.tplWords o n := by
  have hf : ∀ d ∈ [R.OCT_TPL0, R.OCT_TPL1, R.OCT_TPL2, R.OCT_TPL3, R.OCT_TPL4, R.OCT_TPL5, R.OCT_TPL6, R.OCT_TPL7, R.OCT_TPL8,
      R.OCT_TPL9, R.OCT_TPL10], ∀ f ∈ d.flds, 188 < f.id := by decide
  refine List.map_congr_left fun d hd => List.foldl_ext _ _ 0 fun n f hm => ?_
  exact congrArg (fun v => n + v * 2 ^ f.lo) (h.later f (hf d hd f hm) _)

/-- The partition map stands after them, for a site of any number. -/
theorem SameLane.tplValid (h : SameLane c s a) (x o : Nat) (l : List Nat) : a.tplValid x o l = s.tplValid x o l := by
  have hw (i : Nat) : a.getF F.SITE_MAP_WORD i = s.getF F.SITE_MAP_WORD i := h.later _ (by decide) i
  have hb : a.rowBase x o = s.rowBase x o := congrArg (fun n => bits n 9 0 * 4096) (hw _)
  have hn : a.rowCount x o = s.rowCount x o := congrArg (fun n => bits n 25 16 * 4096) (hw _)
  have hs (b n : Nat) : a.storedIn x o b n = s.storedIn x o b n := by rw [State.storedIn, hb, hn, State.storedIn]
  rw [State.tplValid, hs, hs, State.tplValid]

theorem SameLane.launchOf (h : SameLane c s a) (obj : Nat) (tgt : Option Time) (tm : Time) :
    a.launchOf c obj tgt tm = s.launchOf c obj tgt tm := by
  simp only [State.launchOf, h.seq, h.tplWords]

/-- The requests of a POP on the channels of a list. -/
def State.popAll (s : State) (x obj : Nat) (tgt : Option Time) (tm : Time) (l : List Nat) : State :=
  l.foldl (fun b c => b.popRequest x c obj tgt tm) s

theorem State.popAll_frame {l : List Nat} : { s.popAll x obj tgt tm l with reg := s.reg, chan := s.chan } = s ∧
    RegsBut (l.flatMap popKeys) s (s.popAll x obj tgt tm l) ∧ ∀ k, k ∉ l → (s.popAll x obj tgt tm l).chanOf k = s.chanOf k := by
  refine List.foldlRecOn (motive := fun b => { b with reg := s.reg, chan := s.chan } = s ∧ RegsBut (l.flatMap popKeys) s b ∧
    ∀ k, k ∉ l → b.chanOf k = s.chanOf k) l _ ⟨rfl, .refl _ s, fun _ _ => rfl⟩ fun b hb c hc => ?_
  obtain ⟨hf, hr, hk⟩ := hb
  obtain ⟨gf, gr, gk⟩ := b.popRequest_chanOnly x c obj tgt tm
  refine ⟨(congrArg (fun u : State => { u with reg := s.reg, chan := s.chan }) gf :).trans hf, hr.trans fun k hn => gr k fun hm => ?_,
    fun k hn => (gk k fun e => hn (e ▸ hc)).trans (hk k hn)⟩
  exact hn (List.mem_flatMap.2 ⟨c, hc, hm⟩)

theorem State.sameLane_popAll {l : List Nat} (hl : ∀ k ∈ l, k < 64) (hc : c < 64) (hn : c ∉ l) :
    SameLane c s (s.popAll x obj tgt tm l) := by
  obtain ⟨-, hr, hk⟩ := s.popAll_frame (x := x) (obj := obj) (tgt := tgt) (tm := tm) (l := l)
  refine ⟨hk c hn, hr.getF fun hm => ?_, fun f hf i => hr.getF fun hm => ?_⟩
  · obtain ⟨k, hkl, hm⟩ := List.mem_flatMap.1 hm
    have hne : c ≠ k := fun e => hn (e ▸ hkl)
    exact key_notMem_popKeys_of_ne hne (hl k hkl) hc hm
  · obtain ⟨k, hkl, hm⟩ := List.mem_flatMap.1 hm
    exact key_notMem_popKeys_of_later hf (hl k hkl) i hm

/-- Of a POP each channel sees its own request alone, on what it found (R176). -/
theorem State.popAll_channel {l : List Nat} (hl : ∀ k ∈ l, k < 64) (hd : l.Nodup) (hc : c ∈ l) : ∃ a, SameLane c s a ∧
    (s.popAll x obj tgt tm l).chanOf c = (a.popRequest x c obj tgt tm).chanOf c ∧
    ∀ f : Fld, (s.popAll x obj tgt tm l).getF f (lnIx c) = (a.popRequest x c obj tgt tm).getF f (lnIx c) := by
  obtain ⟨l₁, l₂, rfl⟩ := List.append_of_mem hc
  have hn : c ∉ l₁ ∧ c ∉ l₂ := by
    rw [List.nodup_middle, List.nodup_cons] at hd
    simpa using hd.1
  have hc64 : c < 64 := hl c hc
  have he : s.popAll x obj tgt tm (l₁ ++ c :: l₂) =
      ((s.popAll x obj tgt tm l₁).popRequest x c obj tgt tm).popAll x obj tgt tm l₂ := by
    simp only [State.popAll, List.foldl_append, List.foldl_cons]
  refine ⟨s.popAll x obj tgt tm l₁, State.sameLane_popAll (fun k hk => hl k (by simp [hk])) hc64 hn.1, ?_⟩
  rw [he]
  obtain ⟨-, hr, hk⟩ := ((s.popAll x obj tgt tm l₁).popRequest x c obj tgt tm).popAll_frame (x := x) (obj := obj) (tgt := tgt)
    (tm := tm) (l := l₂)
  refine ⟨hk c hn.2, fun f => hr.getF fun hm => ?_⟩
  obtain ⟨k, hkl, hm⟩ := List.mem_flatMap.1 hm
  have hne : c ≠ k := fun e => hn.2 (e ▸ hkl)
  exact key_notMem_popKeys_of_ne hne (hl k (by simp [hkl])) hc64 hm

theorem State.popChans_lt {m k : Nat} (h : k ∈ s.popChans m) : k < 64 :=
  List.mem_range.1 (List.mem_filter.1 (List.mem_filter.1 h).1).1

theorem State.popChans_nodup (s : State) (m : Nat) : (s.popChans m).Nodup :=
  (List.nodup_range.filter _).filter _

/-! ### POP 1 and POP 2 -/

/-- A POP at the earliest start (R176). -/
def Act.isPopEarliest : Act → Bool
  | .pop 1 _ _ _ => true
  | _ => false

/-- A POP at a target (R178). -/
def Act.isPopTimed : Act → Bool
  | .pop 2 _ _ _ => true
  | _ => false

theorem exec_popEarliest {e : Fin 16} {s₁ : State} {p : PinAct} {imm m : Nat}
    (h : s.takeAct e.val Act.isPopEarliest = some (p, s₁)) (ha : p.act = .pop 1 obj imm m) :
    exec (.popEarliest e) s = .next (s₁.popAll p.site obj none p.t (s₁.popChans m)) := by
  change execPopEarliest e s = _
  unfold execPopEarliest
  refine (State.takeAct_then h _ _).trans ?_
  simp only [ha, ok, State.popAll]

theorem exec_popTimed {e : Fin 16} {s₁ : State} {p : PinAct} {imm m : Nat}
    (h : s.takeAct e.val Act.isPopTimed = some (p, s₁)) (ha : p.act = .pop 2 obj imm m) :
    exec (.popTimed e) s = .next (s₁.popAll p.site obj
      (some ((s₁.sched p.site).start ((s₁.sched p.site).off p.t) + Time.ofNs imm)) p.t (s₁.popChans m)) := by
  change execPopTimed e s = _
  unfold execPopTimed
  refine (State.takeAct_then h _ _).trans ?_
  obtain ⟨rest, rfl⟩ := State.takeAct_eq h
  simp only [ha, ok, State.popAll]
  rfl

/-! ### The head of a launch queue (R165, R173, R177, R179) -/

/-- The instant at which the symbol grid of a request's frame is anchored (R164, R178). -/
def State.headAnchor (s : State) (c : Nat) (r : Launch) : Time :=
  if r.timed then Time.ofQ (Time.toQ r.target) else (s.chanOf c).lane.anchor

/-- The number on that grid of the first preamble symbol, for a head decided at `tm`. -/
def State.headSymbol (s : State) (c : Nat) (r : Launch) (tm : Time) : Int :=
  if r.timed then -((tPRELEN r.tpl * 8 / bps (s.pam4 c) : Nat) : Int)
  else s.symFrom c (s.headAnchor c r) (max tm (max (r.ew + Time.ofNs 16) (s.chanOf c).lane.ipgEnd))

/-- The frame of a request whose first preamble symbol is number `k0` of the grid at `u`. -/
def State.frameOf (s : State) (c : Nat) (r : Launch) (u : Time) (k0 : Int) : TxFrame :=
  { req := r, pre := s.symAt c u k0,
    sd := if r.timed then r.target else s.symAt c u (k0 + (tPRELEN r.tpl * 8 / bps (s.pam4 c) : Nat)), anchor := u, k0 := k0,
    bits := [], k := 0, sending := false, safe := false }

section head

variable {ch : Fin 64} {r : Launch} {rest : List Launch} (hq : (s.chanOf ch.val).lane.queue = r :: rest)
  (hf : (s.chanOf ch.val).lane.frame = none) (hp : s.pers (octOf ch.val) = 2)

include hq hf hp

/-- The head completes with a status that its timing does not decide. -/
theorem exec_launchHead_refused {st : Nat} (h : (r.timed = true ∧ r.armed = false ∧ st = 1) ∨
    ((r.timed = false ∨ r.armed = true) ∧ ((hasBit (s.getF F.OCT_PSTAT_RATEBLK (octOf ch.val)) (posOf ch.val) = true ∧ st = 4) ∨
     (hasBit (s.getF F.OCT_PSTAT_RATEBLK (octOf ch.val)) (posOf ch.val) = false ∧
      ((s.getL F.OCT_LCFG_TXSRC (lnIx ch.val) = 1 ∧ st = 2) ∨
       (s.getL F.OCT_LCFG_TXSRC (lnIx ch.val) ≠ 1 ∧ s.unclocked (octOf ch.val) = true ∧ st = 3)))))) :
    exec (.launchHead ch tm) s = .next (s.headDone ch.val r st tm) := by
  change execLaunchHead ch tm s = _
  unfold execLaunchHead
  simp only [hq, hf, hp, ne_eq, not_true_eq_false, if_false, ok]
  obtain ⟨ht, ha, rfl⟩ | ⟨hr, h⟩ := h
  · rw [if_pos ⟨ht, ha⟩]
  · have hn : ¬(r.timed = true ∧ r.armed = false) := by simpa [← Bool.not_eq_true, or_iff_not_imp_left] using hr
    rw [if_neg hn]
    obtain ⟨hb, rfl⟩ | ⟨hb, ⟨hx, rfl⟩ | ⟨hx, hu, rfl⟩⟩ := h
    · rw [if_pos hb]
    · rw [if_neg (by simp [hb]), if_pos hx]
    · rw [if_neg (by simp [hb]), if_neg hx, if_pos hu]

/-- The timing of a head that nothing else refuses decides its frame, or the status it completes with. -/
theorem exec_launchHead_of_sendable {u : Time} {k0 : Int} (hr : r.timed = false ∨ r.armed = true)
    (hb : hasBit (s.getF F.OCT_PSTAT_RATEBLK (octOf ch.val)) (posOf ch.val) = false)
    (hx : s.getL F.OCT_LCFG_TXSRC (lnIx ch.val) ≠ 1) (hc : s.unclocked (octOf ch.val) = false)
    (hu : u = s.headAnchor ch.val r) (hk : k0 = s.headSymbol ch.val r tm) :
    exec (.launchHead ch tm) s = .next (
      if r.timed = true ∧ s.symAt ch.val u k0 < (s.chanOf ch.val).lane.ipgEnd then s.headDone ch.val r 2 tm
      else if r.timed = true ∧ s.symAt ch.val u k0 < (s.chanOf ch.val).lane.headAt + Time.ofNs 16 then s.headDone ch.val r 1 tm
      else if s.symAt ch.val u k0 < (s.chanOf ch.val).lane.blank then s.headDone ch.val r 2 tm
      else s.modLane ch.val (fun q => { q with frame := some (s.frameOf ch.val r u k0) })) := by
  have hn : ¬(r.timed = true ∧ r.armed = false) := by simpa [← Bool.not_eq_true, or_iff_not_imp_left] using hr
  subst hu hk
  change execLaunchHead ch tm s = _
  unfold execLaunchHead
  simp only [hq, hf, hp, hb, hx, hc, ne_eq, not_true_eq_false, if_false, if_neg hn, Bool.false_eq_true, ok]
  simp only [apply_ite Host.Outcome.next]
  rfl

end head

end Sys2Proof.Machine
end

section
/-! SUPPORT. The statuses of a decided head and the target of a timed request, and what POP and the launch queue settle (R176 to R179). -/

namespace Sys2Proof.Machine

variable {s : State}

theorem State.launchOf_timed (s : State) (c obj : Nat) {u tm : Time} {d : Int}
    (hd : d = ((Time.toFix u : Int) - Time.toFix tm) % 18446744073709551616) :
    (16 * 4294967296 ≤ d ∧ d < 9223372036854775808 → (s.launchOf c obj (some u) tm).armed = true ∧
      (s.launchOf c obj (some u) tm).target = tm + d.toNat * 8000) ∧
    (d < 16 * 4294967296 ∨ 9223372036854775808 ≤ d → (s.launchOf c obj (some u) tm).armed = false ∧
      (s.launchOf c obj (some u) tm).target = u) := by
  have hA : aheadOf (some u) tm = d := hd.symm
  have hM : armsAt (some u) tm = decide (16 * 4294967296 ≤ d ∧ d < 9223372036854775808) := by
    simp [armsAt, hA]
  constructor
  · intro h
    simp only [State.launchOf, hM, hA, h, and_self, decide_true, if_true]
  · intro h
    have hn : ¬(16 * 4294967296 ≤ d ∧ d < 9223372036854775808) := by omega
    simp only [State.launchOf, hM, hn, decide_false, Bool.false_eq_true, if_false, and_self]

/-- A head that completes does so with the time that R177 records. -/
theorem Launch.when_eq (r : Launch) {st : Nat} (tm : Time) :
    (if st = 4 then tm else r.when tm) = if st = 4 ∨ r.timed = false then tm else r.target := by
  unfold Launch.when
  cases r.timed <;> simp

theorem Launch.not_timed_and_lt {r : Launch} {p q : Time} (h : r.timed = false ∨ p ≤ q) : ¬(r.timed = true ∧ q < p) := by
  rintro ⟨ht, hlt⟩
  obtain h | h := h
  · simp [ht] at h
  · exact h.not_gt hlt

theorem Launch.not_timed_or {r : Launch} {p : Prop} (h : r.timed = true → p) : r.timed = false ∨ p := by
  cases ht : r.timed with
  | true => exact .inr (h ht)
  | false => exact .inl rfl

/-- The head of a lane without a frame in hand completes with a status other than SENT. -/
theorem State.headDone_of_no_frame {ch : Fin 64} {r : Launch} {rest : List Launch} {st : Nat}
    (hq : (s.chanOf ch.val).lane.queue = r :: rest) (hf : (s.chanOf ch.val).lane.frame = none) (h : st ≠ 0) (tm : Time) :
    ((s.headDone ch.val r st tm).chanOf ch.val).lane = { (s.chanOf ch.val).lane with
      queue := rest, headAt := tm,
      tsPend := (s.chanOf ch.val).lane.tsPend ++
        [{ id := r.id, status := st, t := if st = 4 ∨ r.timed = false then tm else r.target }] } ∧
    (s.headDone ch.val r st tm).getF F.OCT_LMISS_MISS (lnIx ch.val) =
      (s.getF F.OCT_LMISS_MISS (lnIx ch.val) + 1) % 2 ^ F.OCT_LMISS_MISS.width ∧
    ChanOnly ch.val (F.OCT_LMISS_MISS.key (lnIx ch.val) :: laneKeys ch.val) s (s.headDone ch.val r st tm) := by
  obtain ⟨hd, hrest⟩ := State.headDone_spec h ch.isLt s r tm
  rw [hq, Launch.when_eq] at hd
  exact ⟨hd.trans (by simp only [hf, List.drop_one, List.tail_cons]), hrest⟩

/-- Settles O30: each lane of a POP sees its own request alone, and the head of its queue is decided by what refuses it, then by its
timing. -/
theorem launchRequests : Obligations.LaunchRequests := by
  unfold Obligations.LaunchRequests
  refine ⟨?_, ?_, ?_⟩
  · intro e s s1 p obj imm m h ha
    obtain ⟨hf, hr, hk⟩ := s1.popAll_frame (x := p.site) (obj := obj) (tgt := none) (tm := p.t) (l := s1.popChans m)
    refine ⟨_, exec_popEarliest h ha, hf, hr, hk, fun c hc => ?_⟩
    obtain ⟨a, hs, ht, hg⟩ := State.popAll_channel (s := s1) (x := p.site) (obj := obj) (tgt := none) (tm := p.t)
      (fun k => State.popChans_lt) (s1.popChans_nodup m) hc
    rw [hg, hg, hg, ht, State.getF_popRequest_seq (State.popChans_lt hc), hs.seq, ← hs.chan]
    refine ⟨rfl, fun hq => ?_, fun hq hv => ?_, fun hq ho hv => ?_⟩
    · rw [← hs.seq]
      exact State.popRequest_full_spec hq
    · rw [← hs.tplWords, ← hs.tplValid] at hv
      rw [← hs.seq]
      exact State.popRequest_invalid_spec hq hv
    · rw [← hs.tplWords, ← hs.tplValid] at hv
      rw [← hs.seq, ← hs.tplWords]
      exact State.popRequest_valid_spec hq ho hv
  · intro e s s1 p obj imm m h ha u d hu hd
    subst hu
    obtain ⟨hf, hr, hk⟩ := s1.popAll_frame (x := p.site) (obj := obj)
      (tgt := some ((s1.sched p.site).start ((s1.sched p.site).off p.t) + Time.ofNs imm)) (tm := p.t) (l := s1.popChans m)
    refine ⟨_, exec_popTimed h ha, hf, hr, hk, fun c hc => ?_⟩
    obtain ⟨a, hs, ht, hg⟩ := State.popAll_channel (s := s1) (x := p.site) (obj := obj)
      (tgt := some ((s1.sched p.site).start ((s1.sched p.site).off p.t) + Time.ofNs imm)) (tm := p.t)
      (fun k => State.popChans_lt) (s1.popChans_nodup m) hc
    rw [hg, ht, State.getF_popRequest_seq (State.popChans_lt hc), hs.seq, ← hs.chan]
    refine ⟨rfl, fun hq ho hv => ?_⟩
    rw [← hs.tplWords, ← hs.tplValid] at hv
    rw [(State.popRequest_valid_spec hq ho hv).1, hs.launchOf]
    exact ⟨_, rfl, rfl, rfl, rfl, rfl, State.launchOf_timed s1 c obj hd⟩
  · intro ch tm s r rest hq hf hp
    refine ⟨fun st h => ⟨_, exec_launchHead_refused hq hf hp h, State.headDone_of_no_frame hq hf (by omega) tm⟩, ?_⟩
    intro u k0 n hr hb hx hc hn ht hl
    have hu : u = s.headAnchor ch.val r := by
      rw [State.headAnchor]
      cases h : r.timed with
      | true => exact (ht h).1
      | false => exact (hl h).1
    have hk : k0 = s.headSymbol ch.val r tm := by
      rw [State.headSymbol, ← hu, ← hn]
      cases h : r.timed with
      | true => exact (ht h).2
      | false => exact (hl h).2
    have he := exec_launchHead_of_sendable hq hf hp hr hb hx hc hu hk
    refine ⟨fun hready hblank => ?_, fun st h => ?_⟩
    · have hipg := Launch.not_timed_or fun h => (hready h).1
      have hhead := Launch.not_timed_or fun h => (hready h).2
      rw [if_neg (Launch.not_timed_and_lt hipg), if_neg (Launch.not_timed_and_lt hhead), if_neg hblank.not_gt] at he
      exact ⟨_, s.frameOf ch.val r u k0, he, State.lane_modLane .., rfl, rfl, rfl, rfl, by rw [hn]; rfl, rfl,
        (ChanOnly.refl ..).modLane⟩
    · have hs : exec (.launchHead ch tm) s = .next (s.headDone ch.val r st tm) := by
        rw [he]
        obtain ⟨ht, hlt, rfl⟩ | ⟨hi, ⟨ht, hlt, rfl⟩ | ⟨hh, hlt, rfl⟩⟩ := h
        · rw [if_pos ⟨ht, hlt⟩]
        · rw [if_neg (Launch.not_timed_and_lt hi), if_pos ⟨ht, hlt⟩]
        · rw [if_neg (Launch.not_timed_and_lt hi), if_neg (Launch.not_timed_and_lt hh), if_pos hlt]
      have hw : (if st = 4 ∨ r.timed = false then tm else r.target) = if r.timed then r.target else tm := by
        have h4 : st ≠ 4 := by omega
        cases r.timed <;> simp [h4]
      obtain ⟨hlane, -, honly⟩ := State.headDone_of_no_frame hq hf (by omega : st ≠ 0) tm
      exact ⟨_, hs, hw ▸ hlane, honly⟩

end Sys2Proof.Machine
end

section
/-! SUPPORT. Symbols that leave a lane, and the pair that follows it (R31, R171, R174, R179, R240). -/

namespace Sys2Proof.Machine

variable {w v : List Nat} {c : Nat} {s t u : State}

/-! ### Symbols -/

/-- From `s` to `t` only symbols of channel `c` leave: its precoder, its level, its PRBS and its idle fill go on. -/
structure SymsOnly (c : Nat) (s t : State) : Prop where
  frame : { t with chan := s.chan, out := s.out } = s
  chans : ∀ k, k ≠ c → t.chanOf k = s.chanOf k
  lane : ∃ p l g f, t.chanOf c = { s.chanOf c with lane := { (s.chanOf c).lane with
    txPrev := p, lvl := l, lanePrbs := g, fill := f } }

theorem SymsOnly.refl (c : Nat) (s : State) : SymsOnly c s s := ⟨rfl, fun _ _ => rfl, _, _, _, _, rfl⟩

theorem SymsOnly.ite {p : Prop} [Decidable p] (ht : SymsOnly c s t) (hu : SymsOnly c s u) : SymsOnly c s (if p then t else u) := by
  split
  · exact ht
  · exact hu

theorem SymsOnly.log (h : SymsOnly c s t) {o : Out} : SymsOnly c s (t.log o) := ⟨h.frame, h.chans, h.lane⟩

theorem SymsOnly.modLane (h : SymsOnly c s t) {f : LaneSt → LaneSt}
    (hf : ∀ l, ∃ p e g i, f l = { l with txPrev := p, lvl := e, lanePrbs := g, fill := i } := by intro; exact ⟨_, _, _, _, rfl⟩) :
    SymsOnly c s (t.modLane c f) := by
  obtain ⟨p, l, g, i, hl⟩ := h.lane
  obtain ⟨p', l', g', i', hl'⟩ := hf (t.chanOf c).lane
  refine ⟨h.frame, fun k hk => (State.chanOf_modChan_other hk).trans (h.chans k hk), p', l', g', i', ?_⟩
  rw [State.modLane, State.chanOf_modChan_same, hl', hl]

theorem SymsOnly.emitSyms (h : SymsOnly c s t) {n : Nat} {bs : List Nat} {tm : Time} : SymsOnly c s (t.emitSyms c n bs tm).1 :=
  h.ite (h.modLane.ite h.modLane.log)

theorem SymsOnly.fillTo (h : SymsOnly c s t) {n : Nat} : SymsOnly c s (t.fillTo c n) := by
  unfold State.fillTo
  extract_lets l
  split
  · exact h
  · exact h.emitSyms.modLane

theorem SymsOnly.fillUntil (h : SymsOnly c s t) {pre : Time} : SymsOnly c s (t.fillUntil c pre) := by
  unfold State.fillUntil
  extract_lets l
  split
  · exact h.fillTo
  · exact h

theorem SymsOnly.fillRender (h : SymsOnly c s t) {tm : Time} : SymsOnly c s (t.fillRender c tm) := by
  unfold State.fillRender
  extract_lets l
  split
  · exact h.fillTo
  · exact h

theorem SymsOnly.reg (h : SymsOnly c s t) : t.reg = s.reg := (congrArg State.reg h.frame :)

theorem SymsOnly.getF (h : SymsOnly c s t) (f : Fld) (i : Nat) : t.getF f i = s.getF f i := by
  rw [State.getF, h.reg, State.getF]

/-! ### A lane whose outputs are recorded -/

/-- Between `s` and `t` nothing changes but the register fields whose keys are in `w`, channel `c` and the record of outputs. -/
structure LaneOnly (c : Nat) (w : List Nat) (s t : State) : Prop where
  frame : { t with reg := s.reg, chan := s.chan, out := s.out } = s
  regs : RegsBut w s t
  chans : ∀ k, k ≠ c → t.chanOf k = s.chanOf k

theorem LaneOnly.refl (c : Nat) (w : List Nat) (s : State) : LaneOnly c w s s := ⟨rfl, .refl w s, fun _ _ => rfl⟩

theorem LaneOnly.ite {p : Prop} [Decidable p] (ht : LaneOnly c w s t) (hu : LaneOnly c w s u) : LaneOnly c w s (if p then t else u) := by
  split
  · exact ht
  · exact hu

theorem LaneOnly.setF (h : LaneOnly c w s t) {f : Fld} {i n : Nat} (hk : f.key i ∈ w) : LaneOnly c w s (t.setF f i n) :=
  ⟨h.frame, h.regs.setF hk, h.chans⟩

theorem LaneOnly.log (h : LaneOnly c w s t) {o : Out} : LaneOnly c w s (t.log o) := ⟨h.frame, h.regs, h.chans⟩

theorem LaneOnly.setChan (h : LaneOnly c w s t) {x : ChanSt} : LaneOnly c w s (t.setChan c x) :=
  ⟨h.frame, h.regs, fun k hk => (Tbl.get_set_other hk).trans (h.chans k hk)⟩

theorem LaneOnly.modChan (h : LaneOnly c w s t) {f : ChanSt → ChanSt} : LaneOnly c w s (t.modChan c f) := h.setChan

theorem LaneOnly.modLane (h : LaneOnly c w s t) {f : LaneSt → LaneSt} : LaneOnly c w s (t.modLane c f) := h.modChan

theorem LaneOnly.chanOnly (h : LaneOnly c w s t) (g : ChanOnly c v t u) (hv : v ⊆ w) : LaneOnly c w s u := by
  obtain ⟨gf, gr, gk⟩ := g
  exact ⟨(congrArg (fun a : State => { a with reg := s.reg, chan := s.chan, out := s.out }) gf :).trans h.frame,
    h.regs.trans fun k hk => gr k fun hm => hk (hv hm), fun k hk => (gk k hk).trans (h.chans k hk)⟩

theorem LaneOnly.symsOnly (h : LaneOnly c w s t) (g : SymsOnly c t u) : LaneOnly c w s u :=
  ⟨(congrArg (fun a : State => { a with reg := s.reg, chan := s.chan, out := s.out }) g.frame :).trans h.frame,
    fun k hk => by rw [g.reg, h.regs k hk], fun k hk => (g.chans k hk).trans (h.chans k hk)⟩

theorem LaneOnly.sameMems (h : LaneOnly c w s t) : s.sameMems t := by
  have hm {α : Type} (g : State → α) : g { t with reg := s.reg, chan := s.chan, out := s.out } = g s := congrArg g h.frame
  exact ⟨hm State.bb, hm State.acqMem, hm State.dram, hm State.nvm, hm State.psbuf, hm State.cstore, hm State.mirror,
    hm State.tstore⟩

/-! ### The pair (R31, R46, R50) -/

theorem LaneOnly.compInput (h : LaneOnly c w s t) {l : Int} {tm : Time} : LaneOnly c w s (t.compInput c l tm) := by
  refine h.ite ?_
  obtain he | ⟨f, he⟩ := State.tdcEdge_cases _ c _ tm <;> rw [he]
  · exact h.setChan
  · exact h.setChan.modChan

theorem LaneOnly.compNear (h : LaneOnly c w s t) {tm : Time} : LaneOnly c w s (t.compNear c tm) := by
  unfold State.compNear
  split
  · exact h.compInput
  · exact h

/-- A pair that follows writes its IDLE bit. -/
theorem LaneOnly.drive (h : LaneOnly c w s t) {p : Pin} {tm : Time} (hk : F.OCT_FESTAT_IDLE.key (chIx c) ∈ w) :
    LaneOnly c w s (t.drive c p tm) := by
  unfold State.drive State.pinShow State.pinTo
  extract_lets s1
  have h1 : LaneOnly c w s s1 := h.modChan.setF hk
  exact (h1.ite h1.modChan.log).compNear

/-- From `s` to `t` the comparator of channel `c` has looked at its input: its output, the vectors that saw it change and its TDC. -/
structure Compared (c : Nat) (s t : State) : Prop where
  chan : ∃ o l d, t.chanOf c = { s.chanOf c with comp := o, vects := l, tdc := d }
  out : t.out = s.out

theorem State.compInput_compared (s : State) (c : Nat) (l : Int) (tm : Time) : Compared c s (s.compInput c l tm) := by
  unfold State.compInput
  extract_lets h thr hy now
  split
  · exact ⟨⟨_, _, _, rfl⟩, rfl⟩
  · obtain he | ⟨f, he⟩ := State.tdcEdge_cases (s.setChan c { h with
      comp := now, vects := h.vects.map fun v => if v.sa < tm ∧ tm ≤ v.sb then { v with changed := true } else v }) c now tm <;> rw [he]
    · exact ⟨⟨_, _, _, State.chanOf_setChan_same ..⟩, rfl⟩
    · exact ⟨⟨_, _, _, (State.chanOf_modChan_same ..).trans (by rw [State.chanOf_setChan_same])⟩, rfl⟩

theorem State.compNear_compared (s : State) (c : Nat) (tm : Time) : Compared c s (s.compNear c tm) := by
  unfold State.compNear
  split
  · exact State.compInput_compared ..
  · exact ⟨⟨_, _, _, rfl⟩, rfl⟩

theorem State.chanOf_log (s : State) (o : Out) (k : Nat) : (s.log o).chanOf k = s.chanOf k := rfl

/-- The state of a pair from an instant on (R50): the comparator looks at it last. -/
theorem State.pinTo_spec (s : State) (c : Nat) (p : Pin) (tm : Time) :
    ((s.pinTo c p tm).chanOf c).lane = (s.chanOf c).lane ∧ ((s.pinTo c p tm).chanOf c).want = (s.chanOf c).want ∧
      ((s.pinTo c p tm).chanOf c).pin = p ∧ s.out ⊆ (s.pinTo c p tm).out := by
  unfold State.pinTo
  extract_lets s1 h l d
  obtain ⟨⟨o, q, k, hc⟩, ho⟩ := State.compNear_compared
    (if h.pin = p ∧ h.level = l ∧ h.span = d then s1
      else (s1.modChan c (fun x => { x with pin := p, level := l, span := d })).log (.pin c p tm l d)) c tm
  rw [hc, ho]
  split
  · next hs => exact ⟨rfl, rfl, hs.1, List.Subset.refl _⟩
  · have hm : (s1.modChan c (fun x => { x with pin := p, level := l, span := d })).chanOf c =
        { s.chanOf c with pin := p, level := l, span := d } := State.chanOf_modChan_same ..
    rw [State.chanOf_log, hm]
    exact ⟨rfl, rfl, rfl, List.subset_cons_self _ _⟩

/-- A pair that its back end drives follows it unless something holds it in electrical idle (R31, R47). -/
theorem State.drive_spec (s : State) (c : Nat) (p : Pin) (tm : Time) :
    ((s.drive c p tm).chanOf c).lane = (s.chanOf c).lane ∧ ((s.drive c p tm).chanOf c).want = p ∧
      ((s.drive c p tm).chanOf c).pin = (if s.pinBlocked c || s.laneIdle c tm then .idle else p) ∧ s.out ⊆ (s.drive c p tm).out := by
  have hc : (s.modChan c (fun x => { x with want := p })).chanOf c = { s.chanOf c with want := p } := State.chanOf_modChan_same ..
  have hb : (s.modChan c (fun x => { x with want := p })).pinBlocked c = s.pinBlocked c := by
    unfold State.pinBlocked
    rw [hc]
    rfl
  have hi : (s.modChan c (fun x => { x with want := p })).laneIdle c tm = s.laneIdle c tm := by
    unfold State.laneIdle
    rw [hc]
    rfl
  have h := (s.modChan c (fun x => { x with want := p })).pinTo_spec c (if s.pinBlocked c || s.laneIdle c tm then .idle else p) tm
  rw [hc] at h
  rw [State.drive, State.pinShow, hb, hi, hc]
  exact h

end Sys2Proof.Machine
end

section
/-! SUPPORT. The start and the end of a frame in transmission (R174, R177, R179, R180), and the timestamp queue (R181, R182). -/

namespace Sys2Proof.Machine

variable {w : List Nat} {c : Nat} {s t u : State} {f : TxFrame}

/-! ### The start of a frame (R179) -/

/-- What holds a pair in electrical idle is no matter of its symbols. -/
theorem State.pinBlocked_of_frame (h : { t with chan := s.chan, out := s.out } = s) (hh : (t.chanOf c).held = (s.chanOf c).held) :
    t.pinBlocked c = s.pinBlocked c := by
  rw [← h]
  rw [State.pinBlocked, hh]
  rfl

/-- The lane of a frame whose transmission begins. -/
def LaneSt.begin (l : LaneSt) (f : TxFrame) (b : List Byte × List Nat) (safe : Bool) : LaneSt :=
  { l with fill := none, anchor := f.anchor, gens := b.2,
           frame := some { f with bits := b.1.flatMap byteBits, sending := true, safe := safe } }

/-- Transmission of a decided frame begins. -/
def State.frameBegun (s : State) (c : Nat) (f : TxFrame) : State :=
  ((s.fillUntil c f.pre).modLane c (·.begin f ((s.fillUntil c f.pre).frameBytes c f.req) (s.chanSafe c))).drive c .signal f.pre

theorem exec_preambleStart_begins {ch : Fin 64} (hf : (s.chanOf ch.val).lane.frame = some f) (hs : f.sending = false)
    (hb : (s.chanOf ch.val).lane.blank ≤ f.pre) : exec (.preambleStart ch) s = .next (s.frameBegun ch.val f) := by
  change execPreambleStart ch s = _
  unfold execPreambleStart
  simp only [hf, hs, Bool.false_eq_true, if_false, if_neg hb.not_gt, ok]
  rfl

theorem exec_preambleStart_blank {ch : Fin 64} (hf : (s.chanOf ch.val).lane.frame = some f) (hs : f.sending = false)
    (hb : f.pre < (s.chanOf ch.val).lane.blank) : exec (.preambleStart ch) s = .next (s.headDone ch.val f.req 2 f.pre) := by
  change execPreambleStart ch s = _
  unfold execPreambleStart
  simp only [hf, hs, Bool.false_eq_true, if_false, if_pos hb, ok]

theorem State.frameBegun_laneOnly (s : State) (c : Nat) (f : TxFrame) :
    LaneOnly c [F.OCT_FESTAT_IDLE.key (chIx c)] s (s.frameBegun c f) :=
  (((LaneOnly.refl c _ s).symsOnly (SymsOnly.refl c s).fillUntil).modLane).drive (List.mem_singleton_self _)

theorem State.frameBegun_spec (hb : (s.chanOf c).lane.blank ≤ f.pre) :
    ((s.frameBegun c f).chanOf c).lane =
      ((s.fillUntil c f.pre).chanOf c).lane.begin f ((s.fillUntil c f.pre).frameBytes c f.req) (s.chanSafe c) ∧
    ((s.frameBegun c f).chanOf c).want = .signal ∧
    ((s.frameBegun c f).chanOf c).pin = if s.pinBlocked c then .idle else .signal := by
  have hy : SymsOnly c s (s.fillUntil c f.pre) := (SymsOnly.refl c s).fillUntil
  obtain ⟨p, l, g, i, hc⟩ := hy.lane
  let m := (s.fillUntil c f.pre).modLane c (·.begin f ((s.fillUntil c f.pre).frameBytes c f.req) (s.chanSafe c))
  have hm : m.chanOf c = _ := State.chanOf_modChan_same ..
  obtain ⟨hl, hw, hp, -⟩ := m.drive_spec c .signal f.pre
  have hblock : m.pinBlocked c = s.pinBlocked c := State.pinBlocked_of_frame hy.frame (by rw [hm, hc])
  have hblank : (m.chanOf c).lane.blank ≤ f.pre := by
    rw [hm, hc]
    exact hb
  have hidle : m.laneIdle c f.pre = false := by
    rw [State.laneIdle, decide_eq_false hblank.not_gt, Bool.and_false]
  rw [hblock, hidle, Bool.or_false] at hp
  exact ⟨hl.trans (State.lane_modLane ..), hw, hp⟩

/-! ### The end of a frame (R174, R177, R180) -/

/-- What the symbols of a frame that leave can change of it: those that fall in safe state mark it (R177). -/
structure TxFrame.Marked (f q : TxFrame) (struck : Bool) : Prop where
  kept : f.safe = true → q.safe = true
  cause : q.safe = true → f.safe = true ∨ struck = true

/-- The state in which a lane has a frame in hand. -/
def State.withFrame (s : State) (c : Nat) (q : TxFrame) : State := s.modLane c (fun l => { l with frame := some q })

/-- Up to an instant the symbols of a frame in transmission leave. -/
theorem State.laneRender_of_sending (hf : (s.chanOf c).lane.frame = some f) (hs : f.sending = true) (tm : Time) :
    ∃ v q, SymsOnly c s v ∧ f.Marked q (s.chanSafe c || (s.chanOf c).held) ∧
      s.laneRender c tm = v.withFrame c q := by
  unfold State.laneRender
  simp only [hf, hs, if_true]
  refine ⟨_, _, (SymsOnly.refl c s).fillRender.emitSyms, ⟨fun h => ?_, fun h => ?_⟩, rfl⟩
  · simp only [h, Bool.true_or]
  · obtain h | h := (Bool.or_eq_true ..).mp h
    · exact .inl h
    · exact .inr ((Bool.and_eq_true ..).mp h).2

/-- The number on its grid of the symbol after the last of a frame. -/
def State.frameLast (s : State) (c : Nat) (f : TxFrame) : Int := f.k0 + (f.k + symsFor (s.pam4 c) f.bits.length : Nat)

/-- The lane after a frame: the IPG and the template's idle fill begin, from symbol `k` of its grid. -/
def LaneSt.afterFrame (l : LaneSt) (f : TxFrame) (ipg : Time) (k : Int) : LaneSt :=
  { l with
    ipgEnd := ipg, txPrev := if tIDLE f.req.tpl = 0 then 0 else l.txPrev,
    fill := if tIDLE f.req.tpl = 0 then none
      else some { kind := tIDLE f.req.tpl, byte := bits (tw f.req.tpl 9) 31 24, pos := 0, k := k } }

/-- The entry that a frame completes with at `fin`: SAFE where it is `bad`, else SENT with the instant of its start delimiter (R177). -/
def TxFrame.entry (f : TxFrame) (bad : Bool) (fin : Time) : TsEnt :=
  if bad then { id := f.req.id, status := 3, t := f.req.when fin } else { id := f.req.id, status := 0, t := f.sd }

/-- The frame completes; one that was sent is reported. -/
def State.frameDone (s : State) (c : Nat) (f : TxFrame) (bad : Bool) (fin : Time) : State :=
  if bad then s.laneDone c f.req.id 3 (f.req.when fin) else (s.laneDone c f.req.id 0 f.sd).log (.frame c f.req.id f.sd)

/-- The frame in transmission has left at `fin`. -/
def State.frameEnded (s : State) (c : Nat) (f : TxFrame) (bad : Bool) (fin ipg : Time) (k : Int) : State :=
  (((s.frameDone c f bad fin).modLane c (·.afterFrame f ipg k)).drive c (if tIDLE f.req.tpl = 0 then .idle else .signal) fin).laneNext
    c fin

theorem exec_frameTxEnd_sending {ch : Fin 64} (hf : (s.chanOf ch.val).lane.frame = some f) (hs : f.sending = true) :
    ∃ v q, SymsOnly ch.val s v ∧ f.Marked q (s.chanSafe ch.val || (s.chanOf ch.val).held) ∧ exec (.frameTxEnd ch) s = .next
      ((v.withFrame ch.val q).frameEnded ch.val f (q.safe || s.chanSafe ch.val)
        (s.symAt ch.val f.anchor (s.frameLast ch.val f)) (s.symAt ch.val f.anchor (s.frameLast ch.val f + (tIPG f.req.tpl : Nat)))
        (s.frameLast ch.val f)) := by
  obtain ⟨v, q, hv, hq, he⟩ := State.laneRender_of_sending hf hs (s.symAt ch.val f.anchor (s.frameLast ch.val f))
  refine ⟨v, q, hv, hq, ?_⟩
  change execFrameTxEnd ch s = _
  unfold execFrameTxEnd
  rw [State.frameLast] at he
  simp only [hf, hs, if_true, he, State.withFrame, State.lane_modLane, ok, State.frameEnded, State.frameDone]
  cases q.safe || s.chanSafe ch.val <;> rfl

/-- The keys of the fields that the end of a frame writes. -/
def frameKeys (c : Nat) : List Nat := F.OCT_FESTAT_IDLE.key (chIx c) :: F.OCT_LMISS_MISS.key (lnIx c) :: laneKeys c

theorem laneKeys_subset_frameKeys (c : Nat) : laneKeys c ⊆ frameKeys c := fun _ h => List.mem_cons_of_mem _ (List.mem_cons_of_mem _ h)

theorem State.lane_frameDone (s : State) (c : Nat) (f : TxFrame) (bad : Bool) (fin : Time) :
    ((s.frameDone c f bad fin).chanOf c).lane =
      { (s.chanOf c).lane with tsPend := (s.chanOf c).lane.tsPend ++ [f.entry bad fin] } := by
  cases bad
  · rw [State.frameDone, if_neg Bool.false_ne_true, State.chanOf_log, State.lane_laneDone]
    rfl
  · rw [State.frameDone, if_pos rfl, State.lane_laneDone]
    rfl

theorem LaneOnly.frameDone (h : LaneOnly c w s t) (hw : F.OCT_LMISS_MISS.key (lnIx c) ∈ w) {bad : Bool} {fin : Time} :
    LaneOnly c w s (t.frameDone c f bad fin) := by
  have hd (st : Nat) (tm : Time) : LaneOnly c w s (t.laneDone c f.req.id st tm) :=
    h.chanOnly ((ChanOnly.refl c w t).laneDone hw) (List.Subset.refl w)
  cases bad
  · exact (hd 0 f.sd).log
  · exact hd 3 _

theorem State.getF_frameDone_miss (s : State) (c : Nat) (f : TxFrame) (bad : Bool) (fin : Time) :
    (s.frameDone c f bad fin).getF F.OCT_LMISS_MISS (lnIx c) = if bad then
      (s.getF F.OCT_LMISS_MISS (lnIx c) + 1) % 2 ^ F.OCT_LMISS_MISS.width else s.getF F.OCT_LMISS_MISS (lnIx c) := by
  cases bad
  · rfl
  · exact State.getF_laneDone_miss (st := 3) (by decide) ..

theorem LaneOnly.frameEnded (h : LaneOnly c (frameKeys c) s t) {bad : Bool} {fin ipg : Time} {k : Int} :
    LaneOnly c (frameKeys c) s (t.frameEnded c f bad fin ipg k) :=
  ((h.frameDone (List.mem_cons_of_mem _ List.mem_cons_self)).modLane.drive List.mem_cons_self).chanOnly
    ((ChanOnly.refl c _ _).laneNext (List.Subset.refl _)) (laneKeys_subset_frameKeys c)

theorem State.lane_frameEnded (s : State) (c : Nat) (f : TxFrame) (bad : Bool) (fin ipg : Time) (k : Int) :
    ((s.frameEnded c f bad fin ipg k).chanOf c).lane = { (s.chanOf c).lane.afterFrame f ipg k with
      queue := (s.chanOf c).lane.queue.drop 1, frame := none, headAt := fin,
      tsPend := (s.chanOf c).lane.tsPend ++ [f.entry bad fin] } := by
  rw [State.frameEnded, State.lane_laneNext, (State.drive_spec ..).1, State.lane_modLane, State.lane_frameDone]
  rfl

theorem State.getF_frameEnded_miss (hc : c < 64) (s : State) (f : TxFrame) (bad : Bool) (fin ipg : Time) (k : Int) :
    (s.frameEnded c f bad fin ipg k).getF F.OCT_LMISS_MISS (lnIx c) =
      (s.frameDone c f bad fin).getF F.OCT_LMISS_MISS (lnIx c) := by
  have hk : F.OCT_LMISS_MISS.key (lnIx c) ∉ [F.OCT_FESTAT_IDLE.key (chIx c)] := by
    rw [chIx_eq, lnIx_eq, List.mem_singleton]
    exact Fld.key_ne_same (by decide)
  rw [State.frameEnded, State.getF_laneNext_other (miss_notMem_laneKeys hc),
    ((LaneOnly.refl c _ _).drive (List.mem_singleton_self _)).regs.getF hk, State.getF_modLane]

/-- The report of a frame sent stands among the outputs. -/
theorem State.frame_mem_out_frameEnded (s : State) (c : Nat) (f : TxFrame) (fin ipg : Time) (k : Int) :
    Out.frame c f.req.id f.sd ∈ (s.frameEnded c f false fin ipg k).out := by
  have ho (u : State) : (u.laneNext c fin).out = u.out :=
    (congrArg State.out ((ChanOnly.refl c _ u).laneNext (List.Subset.refl (laneKeys c)) (tm := fin)).1 :)
  rw [State.frameEnded, ho]
  exact (State.drive_spec ..).2.2.2 List.mem_cons_self

/-- What the end of a frame leaves of the lane that has sent its symbols. -/
theorem State.frameEnded_spec {v : State} (hv : SymsOnly c s v) (hc : c < 64) (f q : TxFrame) (bad : Bool) (fin ipg : Time) (k : Int) :
    let t := (v.withFrame c q).frameEnded c f bad fin ipg k
    LaneOnly c (frameKeys c) s t ∧ (t.chanOf c).lane.frame = none ∧
      (t.chanOf c).lane.queue = (s.chanOf c).lane.queue.drop 1 ∧ (t.chanOf c).lane.ipgEnd = ipg ∧
      (t.chanOf c).lane.fill.isSome = decide (tIDLE f.req.tpl ≠ 0) ∧
      (t.chanOf c).lane.tsPend = (s.chanOf c).lane.tsPend ++ [f.entry bad fin] ∧
      t.getF F.OCT_LMISS_MISS (lnIx c) = if bad then
        (s.getF F.OCT_LMISS_MISS (lnIx c) + 1) % 2 ^ F.OCT_LMISS_MISS.width else s.getF F.OCT_LMISS_MISS (lnIx c) := by
  intro t
  obtain ⟨p, l, g, i, hl⟩ := hv.lane
  have hm : ((v.withFrame c q).chanOf c).lane = { (v.chanOf c).lane with frame := some q } := State.lane_modLane ..
  have hlane : (t.chanOf c).lane = _ := State.lane_frameEnded ..
  rw [hm, hl] at hlane
  refine ⟨(((LaneOnly.refl c _ s).symsOnly hv).modLane).frameEnded, by rw [hlane], by rw [hlane], by rw [hlane]; rfl, ?_,
    by rw [hlane], ?_⟩
  · rw [hlane]
    by_cases hi : tIDLE f.req.tpl = 0 <;> simp [LaneSt.afterFrame, hi]
  · refine (State.getF_frameEnded_miss hc ..).trans ?_
    rw [State.getF_frameDone_miss, State.withFrame, State.getF_modLane, hv.getF]

/-! ### The timestamp queue (R181, R182) -/

theorem exec_timestampWrite_room {ch : Fin 64} {e : TsEnt} {rest : List TsEnt} (hp : (s.chanOf ch.val).lane.tsPend = e :: rest)
    (hq : (s.chanOf ch.val).lane.tsq.length < 8) : exec (.timestampWrite ch) s =
      .next (((s.modLane ch.val (fun q => { q with tsPend := rest })).modLane ch.val (fun q => { q with tsq := q.tsq ++ [e] })).laneShow
        ch.val) := by
  change execTimestampWrite ch s = _
  unfold execTimestampWrite
  simp only [hp, if_neg hq.not_ge, ok]

theorem exec_timestampWrite_full {ch : Fin 64} {e : TsEnt} {rest : List TsEnt} (hp : (s.chanOf ch.val).lane.tsPend = e :: rest)
    (hq : 8 ≤ (s.chanOf ch.val).lane.tsq.length) : exec (.timestampWrite ch) s =
      .next (((s.modLane ch.val (fun q => { q with tsPend := rest })).incF F.OCT_LTSQDROP_DROP (lnIx ch.val)).setF
        F.OCT_LSTAT_TSQ_OVF (lnIx ch.val) 1) := by
  change execTimestampWrite ch s = _
  unfold execTimestampWrite
  simp only [hp, if_pos hq, ok]

theorem exec_tsqPop_of_owner {n : Fin 16} {ch : Fin 64} (ho : s.octOwner (octOf ch.val) = some n.val) (hl : s.vfLive (.vf n) = true) :
    exec (.tsqPop (.vf n) ch) s = .next ((s.modLane ch.val (fun q => { q with tsq := q.tsq.drop 1 })).laneShow ch.val) := by
  have hs : s.fnSite (.vf n) n.val = true := by simp [State.fnSite, fnIsSite, hl]
  change execTsqPop (.vf n) ch s = _
  unfold execTsqPop
  simp only [ho, hs, if_true, ok]

/-- What the registers of the timestamp queue read of a lane (R182). -/
theorem State.getF_laneShow_tsq (s : State) (c : Nat) :
    (s.laneShow c).getF F.OCT_LSTAT_TSQN (lnIx c) = (s.chanOf c).lane.tsq.length % 2 ^ F.OCT_LSTAT_TSQN.width ∧
    (s.laneShow c).getF F.OCT_TSQHEAD_ID (lnIx c) = (s.chanOf c).lane.tsHead.id % 2 ^ F.OCT_TSQHEAD_ID.width ∧
    (s.laneShow c).getF F.OCT_TSQHEAD_STATUS (lnIx c) = (s.chanOf c).lane.tsHead.status % 2 ^ F.OCT_TSQHEAD_STATUS.width ∧
    (s.laneShow c).getF F.OCT_TSQHEAD_VALID (lnIx c) = b2n (!(s.chanOf c).lane.tsq.isEmpty) := by
  refine ⟨?_, ?_, ?_, ?_⟩
  · exact State.getF_laneShow (p := (F.OCT_LSTAT_TSQN, _)) (by simp [LaneSt.shown])
  · exact State.getF_laneShow (p := (F.OCT_TSQHEAD_ID, _)) (by simp [LaneSt.shown])
  · exact State.getF_laneShow (p := (F.OCT_TSQHEAD_STATUS, _)) (by simp [LaneSt.shown])
  · exact (State.getF_laneShow (p := (F.OCT_TSQHEAD_VALID, b2n (!(s.chanOf c).lane.tsq.isEmpty)))
      (by simp [LaneSt.shown])).trans (b2n_mod_two _)

end Sys2Proof.Machine
end

section
/-! SUPPORT. What frames and the timestamp queue settle (R174, R177, R180 to R182). -/

namespace Sys2Proof.Machine

/-- Settles O31: a frame begins with the bits built for it, completes SENT or SAFE by what struck its symbols, and its entry passes through
the timestamp queue in order. -/
theorem framesAndTimestamps : Obligations.FramesAndTimestamps := by
  unfold Obligations.FramesAndTimestamps
  refine ⟨?_, ?_, ?_, ?_⟩
  · intro ch s f hf hs
    refine ⟨fun hb => ?_, fun hb => ?_⟩
    · have hL := s.frameBegun_laneOnly ch.val f
      obtain ⟨hl, hw, hp⟩ := State.frameBegun_spec (f := f) hb
      exact ⟨_, exec_preambleStart_begins hf hs hb, by rw [hl]; rfl, by rw [hl]; rfl, by rw [hl]; rfl, hw, hp, hL.sameMems, hL.regs,
        hL.chans⟩
    · obtain ⟨hl, -, ho⟩ := State.headDone_spec (st := 2) (by decide) ch.isLt s f.req f.pre
      exact ⟨_, exec_preambleStart_blank hf hs hb, hl, ho⟩
  · intro ch s f hf hs
    obtain ⟨v, q, hv, hq, he⟩ := exec_frameTxEnd_sending hf hs
    obtain ⟨hL, hframe, hqueue, hipg, hfill, hpend, hmiss⟩ := State.frameEnded_spec hv ch.isLt f q (q.safe || s.chanSafe ch.val)
      (s.symAt ch.val f.anchor (s.frameLast ch.val f)) (s.symAt ch.val f.anchor (s.frameLast ch.val f + (tIPG f.req.tpl : Nat)))
      (s.frameLast ch.val f)
    refine ⟨_, he, hframe, hqueue, hipg, hfill, hL.sameMems, hL.chans, fun h1 h2 h3 => ?_, fun h => ?_⟩
    · have hqs : ¬q.safe = true := fun h => by
        obtain h | h := hq.cause h
        · simp [h1] at h
        · simp [h2, h3] at h
      have hb : (q.safe || s.chanSafe ch.val) = false := by simp [hqs, h2]
      rw [hb] at hpend hmiss ⊢
      exact ⟨hpend, State.frame_mem_out_frameEnded .., hmiss⟩
    · have hb : (q.safe || s.chanSafe ch.val) = true := (Bool.or_eq_true ..).mpr (h.imp_left hq.kept)
      rw [hb] at hpend hmiss ⊢
      exact ⟨⟨_, hpend⟩, hmiss⟩
  · intro ch s e rest hp
    refine ⟨fun hq => ?_, fun hq => ?_⟩
    · have hl : ((((s.modLane ch.val (fun q => { q with tsPend := rest })).modLane ch.val
          (fun q => { q with tsq := q.tsq ++ [e] }))).chanOf ch.val).lane =
          { (s.chanOf ch.val).lane with tsPend := rest, tsq := (s.chanOf ch.val).lane.tsq ++ [e] } := by
        rw [State.lane_modLane, State.lane_modLane]
      refine ⟨_, exec_timestampWrite_room hp hq, by rw [State.chanOf_laneShow, hl], ?_,
        (ChanOnly.refl ..).modLane.modLane.laneShow (List.Subset.refl _)⟩
      rw [(State.getF_laneShow_tsq ..).1, hl, List.length_append, List.length_singleton]
    · refine ⟨_, exec_timestampWrite_full hp hq,
        by rw [State.chanOf_setF, State.chanOf_incF, State.lane_modLane], State.getF_setF_same .., ?_,
        ((ChanOnly.refl ..).modLane.incF (by simp [keysAt])).setF (by simp [keysAt])⟩
      rw [State.getF_setF_other (Fld.key_ne_same (by decide)), State.getF_incF_same, State.getF_modLane]
  · intro n ch s ho hl
    have hm := s.lane_modLane ch.val (fun q => { q with tsq := q.tsq.drop 1 })
    obtain ⟨-, hid, hst, hv⟩ := (s.modLane ch.val (fun q => { q with tsq := q.tsq.drop 1 })).getF_laneShow_tsq ch.val
    rw [hm] at hid hst hv
    refine ⟨_, exec_tsqPop_of_owner ho hl, by rw [State.chanOf_laneShow, hm], fun e1 e2 rest hq => ?_, fun hq => ?_,
      (ChanOnly.refl ..).modLane.laneShow (List.Subset.refl _)⟩
    · rw [hid, hst, hv]
      simp [LaneSt.tsHead, hq, b2n]
    · rw [hv, List.drop_eq_nil_of_le hq]
      rfl

end Sys2Proof.Machine
end

section
/-! SUPPORT. The loss of lock between two frames (R184), for a frame counter that holds more than its 32 bits. -/

namespace Sys2Proof.Machine

variable {s : State}

/-- A loss of lock while no frame is being received leaves the count of frames as it is. -/
theorem exec_rxLockLoss_between_frames {ch : Fin 64} (hl : s.flag F.OCT_LSTAT_LOCK (lnIx ch.val) = true)
    (hi : (s.chanOf ch.val).lane.rxIng = none) : ∃ t, exec (.rxLockLoss ch) s = .next t ∧
      t.getF F.OCT_LRXFRM_FRM (lnIx ch.val) = s.getF F.OCT_LRXFRM_FRM (lnIx ch.val) := by
  let s1 := ((s.rxRestart ch.val).setF F.OCT_LSTAT_LOCK (lnIx ch.val) 0).setF F.OCT_LSTAT_LOCKLOST (lnIx ch.val) 1
  have he : exec (.rxLockLoss ch) s = .next (s1.lateUnits ch.val) := by
    change execRxLockLoss ch s = _
    unfold execRxLockLoss
    simp only [hl, hi, if_true, Option.isSome_none, Bool.false_eq_true, if_false, ok]
    rfl
  have hk : CaptureOnly [] ch.val s1 (s1.lateUnits ch.val) := CaptureOnly.refl.lateUnits
  refine ⟨_, he, ?_⟩
  rw [hk.regs.getF List.not_mem_nil, State.getF_setF_other (Fld.key_ne_same (by decide)),
    State.getF_setF_other (Fld.key_ne_same (by decide))]
  rfl

/-- Lane 0 in lock and between frames, with a frame counter that holds 2^32: every table of the state is canonical. -/
def wideCount : State :=
  { State.reset with reg := [(F.OCT_LSTAT_LOCK.key 0, 1), (F.OCT_LRXFRM_FRM.key 0, 4294967296)] }

theorem wideCount_canonical : wideCount.canonical = true := by decide

theorem getF_frm_wideCount : wideCount.getF F.OCT_LRXFRM_FRM 0 = 4294967296 := by decide

/-- Refutes O32: the clause on the loss of lock gives the frame counter modulo 2^32 also where no frame is discarded, and the statement does
not bound what the counter's entry holds. The loss then writes nothing to the counter: in `wideCount` it stays 2^32, which is not 0. -/
theorem not_laneReceive : ¬ Obligations.LaneReceive := by
  intro h
  obtain ⟨-, hloss, -⟩ := h
  have hl : wideCount.flag F.OCT_LSTAT_LOCK (lnIx (0 : Fin 64).val) = true := by decide
  obtain ⟨t, ht, -, -, -, -, -, hcount, -⟩ := hloss 0 wideCount hl
  obtain ⟨u, hu, hkept⟩ := exec_rxLockLoss_between_frames (ch := 0) hl rfl
  obtain rfl : t = u := Host.Outcome.next.inj (ht.symm.trans hu)
  have hzero : wideCount.getF F.OCT_LRXFRM_FRM 0 = (wideCount.getF F.OCT_LRXFRM_FRM 0 + 0) % 2 ^ F.OCT_LRXFRM_FRM.width :=
    hkept.symm.trans hcount
  rw [getF_frm_wideCount] at hzero
  exact absurd hzero (by decide)

end Sys2Proof.Machine
end

section
/-! SUPPORT. What a fault source leaves alone (R386 to R396): of the registers all but a few, and of the rest all but the ports, the fabric,
Sumac, the record of host events and the outputs. -/

namespace Sys2Proof.Machine

variable {s t u : State}

/-- The numbers of the fields that a fault source, with its FAULT words and the wake request, can write. -/
def faultIds : List Nat :=
  [F.FLT_SSRC_SRC, F.FLT_SSRC_STK, F.FLT_SSRC_QUIETING, F.FLT_SSRC_SAFE, F.FLT_STAT_CSRC, F.FLT_STAT_CSAFE, F.FLT_STAT_CLATCH,
    F.FLT_STAT_SSAFE, F.FLT_STAT_ERR, F.SE_EXCB_PSAFE, F.HST_EVT_EVT, F.MSIX_PBA_PEND, F.FAB_PSTAT_STATE, F.FAB_SLPSTAT_STATE,
    F.FAB_SLPSTAT_CANCELLED].map Fld.id

/-- Between `s` and `t` nothing changes but fields with numbers in `faultIds`, the ports, the fabric, Sumac, the record of host events and
the outputs. -/
structure FaultOnly (s t : State) : Prop where
  frame : { t with
    reg := s.reg, port := s.port, fab := s.fab, sumac := s.sumac, evAt := s.evAt, out := s.out } = s
  fields : ∀ (g : Fld) (j : Nat), g.id ∉ faultIds → j < 1048576 → t.getF g j = s.getF g j

theorem FaultOnly.refl (s : State) : FaultOnly s s := ⟨rfl, fun _ _ _ _ => rfl⟩

theorem FaultOnly.ite {c : Prop} [Decidable c] (ht : FaultOnly s t) (hu : FaultOnly s u) : FaultOnly s (if c then t else u) := by
  split
  · exact ht
  · exact hu

theorem FaultOnly.foldl_mem {α : Type} {l : List α} {f : State → α → State} (h : FaultOnly s t)
    (hf : ∀ {a x}, x ∈ l → FaultOnly s a → FaultOnly s (f a x)) : FaultOnly s (l.foldl f t) :=
  List.foldlRecOn (motive := FaultOnly s) l f h fun _ ha _ hx => hf hx ha

theorem FaultOnly.setF (h : FaultOnly s t) {f : Fld} {i v : Nat} (hf : f.id ∈ faultIds) (hi : i < 1048576) :
    FaultOnly s (t.setF f i v) := by
  refine ⟨h.frame, fun g j hg hj => ?_⟩
  have hne : g.id ≠ f.id := fun e => hg (e ▸ hf)
  rw [State.getF_setF_other (Fld.key_ne hne hj hi), h.fields g j hg hj]

/-- The ports, the fabric, Sumac, the record of host events and the outputs may change. -/
theorem FaultOnly.put (h : FaultOnly s t) {port : Tbl PortSt} {fab : FabSt} {sumac : SumacSt} {evAt : Tbl (Option (Time × Bool))}
    {out : List Out} : FaultOnly s { t with port := port, fab := fab, sumac := sumac, evAt := evAt, out := out } :=
  ⟨h.frame, h.fields⟩

theorem FaultOnly.log (h : FaultOnly s t) {o : Out} : FaultOnly s (t.log o) := h.put

theorem FaultOnly.modPort (h : FaultOnly s t) {k : Nat} {f : PortSt → PortSt} : FaultOnly s (t.modPort k f) := h.put

theorem FaultOnly.sameMems (h : FaultOnly s t) : s.sameMems t := by
  have hm {α : Type} (g : State → α) : g { t with
    reg := s.reg, port := s.port, fab := s.fab, sumac := s.sumac, evAt := s.evAt, out := s.out } = g s := congrArg g h.frame
  exact ⟨hm State.bb, hm State.acqMem, hm State.dram, hm State.nvm, hm State.psbuf, hm State.cstore, hm State.mirror,
    hm State.tstore⟩

theorem FaultOnly.site (h : FaultOnly s t) : t.site = s.site := (congrArg State.site h.frame :)

/-! ### Words and wake requests (R300, R316) -/

theorem FaultOnly.sendFlash (h : FaultOnly s t) {copy : Bool} {k w : Nat} : FaultOnly s (t.sendFlash copy k w) :=
  h.log.modPort.log.ite h.log.modPort.log

theorem FaultOnly.flashPass (h : FaultOnly s t) {inp p w : Nat} : FaultOnly s (t.flashPass inp p w) :=
  (h.foldl_mem fun _ ha => ha.put.modPort).modPort.foldl_mem fun _ ha => ha.modPort.sendFlash

theorem FaultOnly.flashOn (h : FaultOnly s t) {src : Option Nat} {k w : Nat} : FaultOnly s (t.flashOn src k w) := by
  unfold State.flashOn
  split
  · refine .ite ?_ h
    split
    · exact h.flashPass
    · exact h.sendFlash
  · exact h

theorem FaultOnly.flashTree (h : FaultOnly s t) {src : Option Nat} {w : Nat} : FaultOnly s (t.flashTree src w) :=
  h.foldl_mem fun _ ha => ha.flashOn

theorem FaultOnly.awakeCheck (h : FaultOnly s t) : FaultOnly s t.awakeCheck :=
  (h.setF (by decide) (by decide)).ite h

theorem sleepPorts_lt {k : Nat} (hk : k ∈ sleepPorts) : k < 1048576 :=
  (by decide : ∀ k ∈ sleepPorts, k < 1048576) k hk

theorem FaultOnly.wakeTones (h : FaultOnly s t) : FaultOnly s t.wakeTones :=
  (h.foldl_mem fun hk ha => (ha.log.setF (by decide) (sleepPorts_lt hk)).ite ha).awakeCheck

theorem FaultOnly.cancelSleep (h : FaultOnly s t) : FaultOnly s t.cancelSleep :=
  ((h.flashTree.setF (f := F.FAB_SLPSTAT_STATE) (by decide) (by decide)).setF (f := F.FAB_SLPSTAT_CANCELLED) (by decide)
    (by decide)).put

theorem FaultOnly.holdWake (h : FaultOnly s t) : FaultOnly s t.holdWake := h.ite h.put

theorem FaultOnly.wakeRequest (h : FaultOnly s t) : FaultOnly s t.wakeRequest := by
  unfold State.wakeRequest
  refine h.wakeTones.ite (.ite ?_ (h.holdWake.ite h))
  split
  · exact h.cancelSleep.ite h.holdWake
  · exact h

theorem FaultOnly.flashSend (h : FaultOnly s t) {w : Nat} : FaultOnly s (t.flashSend w) :=
  h.flashTree.wakeRequest.ite h.flashTree

theorem FaultOnly.faultWords (h : FaultOnly s t) {k b : Nat} : FaultOnly s (t.faultWords k b) := by
  unfold State.faultWords State.faultWord
  extract_lets s1
  have h1 : FaultOnly s s1 := h.wakeRequest
  exact (h1.foldl_mem fun _ ha => ha.ite ha.flashSend).ite (h1.ite (h1.ite h1.flashSend))

/-! ### Host events (R446) -/

theorem FaultOnly.msix (h : FaultOnly s t) {f k : Nat} (hf : f < 1048576) : FaultOnly s (t.msix f k) :=
  h.log.ite (h.setF (by decide) hf)

theorem FaultOnly.raise (h : FaultOnly s t) {f k : Nat} (hf : f < 1048576) : FaultOnly s (t.raise f k) := by
  have hn : FaultOnly s (t.noteEv f k) := h.put
  obtain ⟨-, he⟩ | ⟨-, he | he⟩ := t.raise_cases f k <;> rw [he]
  · exact hn
  · exact hn.setF (by decide) hf
  · exact (hn.setF (by decide) hf).msix hf

theorem FaultOnly.raiseVf (h : FaultOnly s t) {x k : Nat} (hx : x < 1048576) : FaultOnly s (t.raiseVf x k) := h.raise hx

/-! ### Sources and what follows from them (R387, R388, R392) -/

theorem FaultOnly.pendSafe (h : FaultOnly s t) {x : Nat} : FaultOnly s (t.pendSafe x) := by
  refine h.foldl_mem fun {a e} he ha => ?_
  have hl : e < 16 := List.mem_range.1 he
  split
  · exact (ha.setF (by decide) (by omega)).ite ha
  · exact ha

theorem FaultOnly.siteSafeBit (h : FaultOnly s t) {x : Nat} {v : Bool} (hx : x < 1048576) : FaultOnly s (t.siteSafeBit x v) := by
  unfold State.siteSafeBit
  extract_lets _ s1 s2
  have h1 : FaultOnly s s1 := h.setF (by decide) hx
  have h2 : FaultOnly s s2 := (h1.setF (f := F.FLT_STAT_SSAFE) (by decide) (by decide)).pendSafe.put
  exact ((h2.raiseVf hx).ite h2).ite (((h1.setF (f := F.FLT_STAT_SSAFE) (by decide) (by decide)).put).ite h1)

theorem FaultOnly.sumacShow (h : FaultOnly s t) : FaultOnly s t.sumacShow := by
  unfold State.sumacShow
  extract_lets _ _ s1 s2 s3 _ s4
  have h1 : FaultOnly s s1 :=
    ((h.setF (by decide) (by decide)).setF (by decide) (by decide)).setF (by decide) (by decide)
  have h2 : FaultOnly s s2 := (h1.raise (by decide)).ite h1
  have h3 : FaultOnly s s3 := h2.foldl_mem fun hx ha => ha.siteSafeBit (by have := List.mem_range.1 hx; omega)
  have h4 : FaultOnly s s4 := h3.setF (by decide) (by decide)
  exact h3.ite (h4.log.ite h4)

theorem FaultOnly.setSrcs (h : FaultOnly s t) {k v : Nat} (hk : k < 1048576) : FaultOnly s (t.setSrcs k v) := by
  unfold State.setSrcs
  extract_lets s1
  have h1 : FaultOnly s s1 := h.setF (by decide) hk
  exact (h1.setF (by decide) (by decide)).ite h1

theorem FaultOnly.stick (h : FaultOnly s t) {k b : Nat} (hk : k < 1048576) : FaultOnly s (t.stick k b) :=
  h.setF (by decide) hk

theorem FaultOnly.stopQuiet (h : FaultOnly s t) {k : Nat} (hk : k < 1048576) : FaultOnly s (t.stopQuiet k) :=
  (h.setF (f := F.FLT_SSRC_QUIETING) (by decide) hk).put

theorem FaultOnly.sourceOn (h : FaultOnly s t) {k b : Nat} (hk : k < 1048576) : FaultOnly s (t.sourceOn k b) :=
  FaultOnly.ite h.put (((h.setSrcs hk).stick hk).stopQuiet hk).faultWords.sumacShow

theorem FaultOnly.sourcePulse (h : FaultOnly s t) {k b : Nat} (hk : k < 1048576) : FaultOnly s (t.sourcePulse k b) := by
  unfold State.sourcePulse
  extract_lets s1 s2
  have h1 : FaultOnly s s1 := (h.stick hk).stopQuiet hk
  have h2 : FaultOnly s s2 := h1.ite h1.faultWords
  exact ((h2.setF (by decide) hk).ite h2).sumacShow

/-- A source of a site that becomes active, held or a pulse, leaves alone what `FaultOnly` says. -/
theorem FaultOnly.siteFault (h : FaultOnly s t) {x b : Nat} (hx : x < 1048576) : FaultOnly s (t.siteFault x b) :=
  (h.sourcePulse hx).ite (h.sourceOn hx)

end Sys2Proof.Machine
end

section
/-! SUPPORT. Records and pages: what they write of a site, and that no record's entry touches the records that wait (R201 to R209). -/

namespace Sys2Proof.Machine

variable {w : List Nat} {x : Nat} {s t : State} {tm : Time}

/-! ### A site alone -/

theorem SiteOnly.refl (x : Nat) (w : List Nat) (s : State) : SiteOnly x w s s := ⟨rfl, .refl w s, fun _ _ => rfl⟩

theorem SiteOnly.setF (h : SiteOnly x w s t) {f : Fld} {i n : Nat} (hk : f.key i ∈ w) : SiteOnly x w s (t.setF f i n) :=
  ⟨h.1, h.2.1.setF hk, h.2.2⟩

theorem SiteOnly.incF (h : SiteOnly x w s t) {f : Fld} {i : Nat} (hk : f.key i ∈ w) : SiteOnly x w s (t.incF f i) := h.setF hk

theorem SiteOnly.modSite (h : SiteOnly x w s t) {f : SiteSt → SiteSt} : SiteOnly x w s (t.modSite x f) :=
  ⟨h.1, h.2.1, fun k hk => (State.siteOf_modSite_other hk).trans (h.2.2 k hk)⟩

theorem SiteOnly.modCap (h : SiteOnly x w s t) {f : CapSt → CapSt} : SiteOnly x w s (t.modCap x f) := h.modSite

theorem SiteOnly.capShow (h : SiteOnly x w s t) (hk : F.SITE_CSTG_SUSED.key x ∈ w) : SiteOnly x w s (t.capShow x) := h.setF hk

theorem SiteOnly.regs (h : SiteOnly x w s t) : RegsBut w s t := h.2.1

theorem SiteOnly.sameMems (h : SiteOnly x w s t) : s.sameMems t := by
  have hm {α : Type} (g : State → α) : g { t with reg := s.reg, site := s.site } = g s := congrArg g h.1
  exact ⟨hm State.bb, hm State.acqMem, hm State.dram, hm State.nvm, hm State.psbuf, hm State.cstore, hm State.mirror,
    hm State.tstore⟩

/-! ### The capture of a site -/

@[simp] theorem State.capOf_modCap (s : State) (x : Nat) (f : CapSt → CapSt) : (s.modCap x f).capOf x = f (s.capOf x) := by
  rw [State.capOf, State.modCap, State.siteOf_modSite_same, State.capOf]

@[simp] theorem State.getF_modCap (s : State) (x : Nat) (f : CapSt → CapSt) (g : Fld) (i : Nat) :
    (s.modCap x f).getF g i = s.getF g i := rfl

@[simp] theorem State.capOf_setF (s : State) (f : Fld) (i n y : Nat) : (s.setF f i n).capOf y = s.capOf y := rfl
@[simp] theorem State.capOf_addF (s : State) (f : Fld) (i n y : Nat) : (s.addF f i n).capOf y = s.capOf y := rfl
@[simp] theorem State.capOf_incF (s : State) (f : Fld) (i y : Nat) : (s.incF f i).capOf y = s.capOf y := rfl
@[simp] theorem State.capOf_capShow (s : State) (x y : Nat) : (s.capShow x).capOf y = s.capOf y := rfl
@[simp] theorem State.capOf_log (s : State) (o : Out) (y : Nat) : (s.log o).capOf y = s.capOf y := rfl

theorem State.capOf_eq_of_site_eq (h : t.site = s.site) (y : Nat) : t.capOf y = s.capOf y := by
  rw [State.capOf, State.siteOf, h, State.capOf, State.siteOf]

/-- A host event leaves the sites and the memories alone (R446). -/
theorem State.capOf_raiseVf (s : State) (x k y : Nat) : (s.raiseVf x k).capOf y = s.capOf y :=
  State.capOf_eq_of_site_eq (t := s.raiseVf x k) (congrArg State.site (s.raise_frame x k) :) y

theorem State.sameMems_raiseVf (s : State) (x k : Nat) : s.sameMems (s.raiseVf x k) := by
  have hm {α : Type} (g : State → α) : g { s.raise x k with reg := s.reg, evAt := s.evAt, out := s.out } = g s :=
    congrArg g (s.raise_frame x k)
  exact ⟨hm State.bb, hm State.acqMem, hm State.dram, hm State.nvm, hm State.psbuf, hm State.cstore, hm State.mirror,
    hm State.tstore⟩

/-- The fields of a site other than SUSED read as before when SUSED follows the pages. -/
theorem State.getF_capShow {f : Fld} {i : Nat} (hf : f.id ≠ F.SITE_CSTG_SUSED.id) (hx : x < 1048576) (hi : i < 1048576) :
    (s.capShow x).getF f i = s.getF f i :=
  State.getF_setF_other (Fld.key_ne hf hi hx)

/-- Nothing is stored for a site exactly where nothing was, when its overrun stays. -/
theorem State.notStoring_modCap {f : CapSt → CapSt} (hf : (f (s.capOf x)).overrun = (s.capOf x).overrun) :
    (s.modCap x f).notStoring x = s.notStoring x := by
  rw [State.notStoring, State.capOf_modCap, hf]
  rfl

/-- With no close due at or before an instant, no page closes (R201). -/
theorem State.capDue_of_none_due (h : ∀ u ∈ (s.capOf x).closeAt, tm < u.1) : s.capDue x tm = s := by
  have hn : (s.capOf x).closeAt.filter (fun u => decide (u.1 ≤ tm)) = [] :=
    List.filter_eq_nil_iff.2 fun u hu => by simpa using h u hu
  rw [State.capDue, hn]

/-! ### The records that wait -/

/-- Every memory and the records of site `x` that wait are the same in both states. -/
structure CandsKept (x : Nat) (s t : State) : Prop where
  mems : s.sameMems t
  cands : (t.capOf x).cands = (s.capOf x).cands

theorem CandsKept.refl (x : Nat) (s : State) : CandsKept x s s := ⟨.refl s, rfl⟩

theorem CandsKept.ite {p : Prop} [Decidable p] {u : State} (ht : CandsKept x s t) (hu : CandsKept x s u) :
    CandsKept x s (if p then t else u) := by
  split
  · exact ht
  · exact hu

theorem CandsKept.foldl {α : Type} {l : List α} {f : State → α → State} (h : CandsKept x s t)
    (hf : ∀ {a c}, CandsKept x s a → CandsKept x s (f a c)) : CandsKept x s (l.foldl f t) :=
  List.foldlRecOn (motive := CandsKept x s) l f h fun _ ha _ _ => hf ha

theorem CandsKept.setF (h : CandsKept x s t) {f : Fld} {i n : Nat} : CandsKept x s (t.setF f i n) := ⟨h.mems, h.cands⟩

theorem CandsKept.capShow (h : CandsKept x s t) : CandsKept x s (t.capShow x) := h.setF

theorem CandsKept.modCap (h : CandsKept x s t) {f : CapSt → CapSt} (hf : ∀ k, (f k).cands = k.cands := by intro; rfl) :
    CandsKept x s (t.modCap x f) :=
  ⟨h.mems, by rw [State.capOf_modCap, hf, h.cands]⟩

theorem CandsKept.raiseVf (h : CandsKept x s t) {k : Nat} : CandsKept x s (t.raiseVf x k) :=
  ⟨h.mems.trans (t.sameMems_raiseVf x k), by rw [State.capOf_raiseVf, h.cands]⟩

theorem CandsKept.holdSuspects (h : CandsKept x s t) {l : List (List Byte)} : CandsKept x s (t.holdSuspects x l) := h.modCap

theorem CandsKept.closePage (h : CandsKept x s t) {early stop : Bool} : CandsKept x s (t.closePage x early stop tm) := by
  unfold State.closePage
  split
  · exact h
  · extract_lets _ _ _ s1
    have h1 : CandsKept x s s1 := h.modCap.setF
    exact h.modCap.ite ((h1.modCap.ite h1.holdSuspects).ite h1).capShow

theorem CandsKept.capDue (h : CandsKept x s t) : CandsKept x s (t.capDue x tm) := by
  unfold State.capDue
  split
  · exact h
  · exact h.closePage.modCap

theorem CandsKept.setDec (h : CandsKept x s t) {d : Nat} : CandsKept x s (t.setDec x d tm) := by
  unfold State.setDec
  extract_lets s1
  have h1 : CandsKept x s s1 := h.setF.closePage.modCap
  exact h.ite (h1.setF.raiseVf.ite h1)

theorem CandsKept.overrunAt (h : CandsKept x s t) : CandsKept x s (t.overrunAt x tm) := h.setF.raiseVf.modCap.setDec

section entry

variable {beat : Nat} {r : List Byte} {gap susp sus : Bool}

theorem CandsKept.openRec (h : CandsKept x s t) : CandsKept x s (t.openRec x beat r gap susp sus tm).1 := by
  unfold State.openRec
  split <;> split <;> dsimp only
  · exact h.modCap
  · exact h.overrunAt
  · exact h.modCap.capShow
  · exact h.overrunAt

theorem CandsKept.enterRec (h : CandsKept x s t) : CandsKept x s (t.enterRec x beat r gap susp sus tm).1 := by
  unfold State.enterRec
  split
  · exact (h.ite h.closePage).openRec
  · exact h.openRec

end entry

/-- A candidate that is lost changes counts alone. -/
theorem CapSt.lose_spec (k : CapSt) (typ : Nat) (u : Time) : (k.lose typ u).cands = k.cands ∧ (k.lose typ u).page = k.page := by
  unfold CapSt.lose
  split
  · split <;> exact ⟨rfl, rfl⟩
  · split <;> exact ⟨rfl, rfl⟩
  · exact ⟨rfl, rfl⟩

theorem CandsKept.lose (h : CandsKept x s t) {typ : Nat} {u : Time} : CandsKept x s (t.lose x typ u) :=
  h.modCap fun k => (k.lose_spec typ u).1

/-- A record that enters leaves the others that wait, and every memory. -/
theorem CandsKept.enterCand (h : CandsKept x s t) {c : Cand} : CandsKept x s (t.enterCand x c) := by
  unfold State.enterCand
  extract_lets s0
  have h0 : CandsKept x s s0 := h.capDue
  exact h0.lose.ite (h0.enterRec.ite h0.enterRec.lose)

end Sys2Proof.Machine
end

section
/-! SUPPORT. A record enters the open page, or a page that it opens (R195, R201, R208). -/

namespace Sys2Proof.Machine

variable {x : Nat} {s : State} {c : Cand} {rest : List Cand} {p : Page}

/-! ### Bytes and pages -/

/-- A record has 16 bytes before what follows word 3 (R195). -/
theorem length_recordBytes (typ q ch reason beat : Nat) (susp : Bool) (tm : Time) (body : List Byte) :
    (recordBytes typ q ch reason beat susp tm body).length = 16 + body.length := by
  simp only [recordBytes, wordsBytes, leBytes, List.flatMap_cons, List.flatMap_nil, List.length_append, List.length_map,
    List.length_range, List.length_nil]

/-- A record that does not stand apart follows those of a page where none stands apart. -/
theorem Page.add_of_tail_nil (h : p.tail = []) (beat : Nat) (r : List Byte) (gap susp : Bool) (tm : Time) :
    (p.add beat r gap susp false tm).recs = p.recs ++ r ∧ (p.add beat r gap susp false tm).tail = [] := by
  unfold Page.add
  by_cases ht : tm ≤ p.tailT
  · simp [ht, h]
  · simp [ht, Page.settle, h]

theorem Page.size_of_tail_nil (h : p.tail = []) : p.size = p.recs.length := by simp [Page.size, h]

/-- The record of a candidate with the mark that R208 gives it. -/
def CapSt.recordOf (k : CapSt) (c : Cand) : List Byte :=
  recordBytes c.typ c.q c.ch 0 c.beat (decide (c.typ ≤ 2) && k.suspChans.contains (c.ch, c.beat)) c.t c.body

theorem CapSt.length_recordOf (k : CapSt) (c : Cand) : (k.recordOf c).length = 16 + c.body.length := length_recordBytes ..

/-! ### The candidate -/

/-- The state in which `rest` are the records of site `x` that wait. -/
def State.candTaken (s : State) (x : Nat) (rest : List Cand) : State := s.modCap x fun k => { k with cands := rest }

theorem State.capOf_candTaken (s : State) (x : Nat) (rest : List Cand) :
    (s.candTaken x rest).capOf x = { s.capOf x with cands := rest } := State.capOf_modCap ..

theorem State.candTaken_siteOnly (s : State) (x : Nat) (w : List Nat) (rest : List Cand) : SiteOnly x w s (s.candTaken x rest) :=
  (SiteOnly.refl x w s).modCap

theorem State.notStoring_candTaken : (s.candTaken x rest).notStoring x = s.notStoring x := State.notStoring_modCap rfl

theorem exec_recordEnter {x : Fin 16} (h : (s.capOf x.val).cands = c :: rest) :
    exec (.recordEnter x) s = .next ((s.candTaken x.val rest).enterCand x.val c) := by
  change execRecordEnter x s = _
  simp only [execRecordEnter, h]
  rfl

section none_due

variable (hd : ∀ u ∈ (s.capOf x).closeAt, c.charge < u.1)
include hd

theorem State.enterCand_of_notStoring (hn : s.notStoring x = true) : s.enterCand x c = s.lose x c.typ c.u := by
  rw [State.enterCand, State.capDue_of_none_due hd]
  exact if_pos hn

/-- A record that fits joins the open page. -/
theorem State.enterCand_of_fits (hn : s.notStoring x = false) (hp : (s.capOf x).page = some p)
    (hl : p.size + (16 + c.body.length) ≤ 4056) : ∃ susp, s.enterCand x c =
      s.modCap x fun k => { k with page := some (p.add c.beat ((s.capOf x).recordOf c) false susp false c.charge) } := by
  refine ⟨decide (c.typ ≤ 2) && (s.capOf x).suspChans.contains (c.ch, c.beat), ?_⟩
  simp only [State.enterCand, State.capDue_of_none_due hd, hn, State.enterRec, State.openRec, hp, length_recordBytes, hl, if_true]
  rfl

/-- Where no page is open and staging has room, a record opens one. -/
theorem State.enterCand_of_opens (hn : s.notStoring x = false) (hp : (s.capOf x).page = none)
    (hr : s.stageRoom x (s.capOf x).staged.length = true) : ∃ susp, s.enterCand x c =
      (s.modCap x fun k => { k with page := some ((emptyPage (s.dec x) c.beat c.charge).add c.beat
        ((s.capOf x).recordOf c) false susp false c.charge) }).capShow x := by
  refine ⟨decide (c.typ ≤ 2) && (s.capOf x).suspChans.contains (c.ch, c.beat), ?_⟩
  simp only [State.enterCand, State.capDue_of_none_due hd, hn, State.enterRec, State.openRec, hp, hr, if_true]
  rfl

end none_due

/-! ### The command -/

/-- A record that enters leaves the others that wait, and every memory. -/
theorem State.enterCand_candTaken_spec (s : State) (x : Nat) (c : Cand) (rest : List Cand) :
    (((s.candTaken x rest).enterCand x c).capOf x).cands = rest ∧ s.sameMems ((s.candTaken x rest).enterCand x c) := by
  have hk : CandsKept x (s.candTaken x rest) ((s.candTaken x rest).enterCand x c) := (CandsKept.refl x _).enterCand
  exact ⟨by rw [hk.cands, State.capOf_candTaken], (s.candTaken_siteOnly x [] rest).sameMems.trans hk.mems⟩

section candTaken

variable (hd : ∀ u ∈ (s.capOf x).closeAt, c.charge < u.1)
include hd

theorem State.candTaken_none_due : ∀ u ∈ ((s.candTaken x rest).capOf x).closeAt, c.charge < u.1 := by
  rw [State.capOf_candTaken]
  exact hd

theorem State.enterCand_candTaken_of_notStoring (hn : s.notStoring x = true) :
    (((s.candTaken x rest).enterCand x c).capOf x).page = (s.capOf x).page ∧
      SiteOnly x [] s ((s.candTaken x rest).enterCand x c) := by
  rw [State.enterCand_of_notStoring (State.candTaken_none_due hd) (State.notStoring_candTaken.trans hn), State.lose,
    State.capOf_modCap, (CapSt.lose_spec ..).2, State.capOf_candTaken]
  exact ⟨rfl, (s.candTaken_siteOnly x [] rest).modCap⟩

theorem State.enterCand_candTaken_of_fits (hn : s.notStoring x = false) (hp : (s.capOf x).page = some p) (ht : p.tail = [])
    (hl : p.recs.length + (16 + c.body.length) ≤ 4056) :
    (((s.candTaken x rest).enterCand x c).capOf x).page.map (fun g => g.recs) = some (p.recs ++ (s.capOf x).recordOf c) ∧
      (((s.candTaken x rest).enterCand x c).capOf x).page.map (fun g => g.tail) = some [] ∧
      SiteOnly x [] s ((s.candTaken x rest).enterCand x c) := by
  have hk := s.capOf_candTaken x rest
  obtain ⟨susp, he⟩ := State.enterCand_of_fits (State.candTaken_none_due (rest := rest) hd) (State.notStoring_candTaken.trans hn)
    (by rw [hk]; exact hp) (by rwa [Page.size_of_tail_nil ht])
  obtain ⟨hrecs, htail⟩ := Page.add_of_tail_nil ht c.beat ((s.capOf x).recordOf c) false susp c.charge
  rw [he, State.capOf_modCap, hk]
  exact ⟨congrArg some hrecs, congrArg some htail, (s.candTaken_siteOnly x [] rest).modCap⟩

theorem State.enterCand_candTaken_of_opens (hn : s.notStoring x = false) (hp : (s.capOf x).page = none)
    (hr : s.stageRoom x (s.capOf x).staged.length = true) :
    (((s.candTaken x rest).enterCand x c).capOf x).page.map (fun g => g.recs) = some ((s.capOf x).recordOf c) ∧
      SiteOnly x [F.SITE_CSTG_SUSED.key x] s ((s.candTaken x rest).enterCand x c) := by
  have hk := s.capOf_candTaken x rest
  obtain ⟨susp, he⟩ := State.enterCand_of_opens (State.candTaken_none_due (rest := rest) hd) (State.notStoring_candTaken.trans hn)
    (by rw [hk]; exact hp) (by rw [hk]; exact hr)
  obtain ⟨hrecs, -⟩ := Page.add_of_tail_nil (p := emptyPage (s.dec x) c.beat c.charge) rfl c.beat ((s.capOf x).recordOf c) false
    susp c.charge
  rw [he, State.capOf_capShow, State.capOf_modCap, hk]
  exact ⟨congrArg some hrecs, (s.candTaken_siteOnly x _ rest).modCap.capShow (List.mem_singleton_self _)⟩

end candTaken

end Sys2Proof.Machine
end

section
/-! SUPPORT. A flush (R201, R207): what waits enters, and the open page closes with the next sequence number. -/

namespace Sys2Proof.Machine

variable {x : Nat} {s : State} {p : Page} {tm : Time}

theorem exec_captureFlush {x : Fin 16} (h : s.hostFree x) : exec (.captureFlush (.vf x) x) s =
    .next ((s.ordered x.val ⟨s.nowNs, 2, 2, R.SITE_CCTL.addr x, 1, 0⟩).flushPage x.val) := by
  have ho : fnIsSite (.vf x) x.val = true := by simp [fnIsSite]
  have hs (o : Order) : (s.ordered x.val o).fnSite (.vf x) x.val = true := by
    rw [State.fnSite, ho, State.vfLive_ordered, h.1]
    rfl
  change execCaptureFlush (.vf x) x s = _
  unfold execCaptureFlush
  rw [ho, State.hostOrder_of_hostFree h]
  exact if_pos (hs _)

theorem State.capDrain_of_nil (h : (s.capOf x).cands = []) : s.capDrain x = s.candTaken x [] := by
  rw [State.capDrain, h]
  rfl

theorem State.flushPage_cands (s : State) (x : Nat) : ((s.flushPage x).capOf x).cands = [] := by
  have hk : CandsKept x (s.candTaken x []) (s.flushPage x) :=
    ((CandsKept.refl x _).foldl fun ha => ha.enterCand).capDue.closePage
  rw [hk.cands, State.capOf_candTaken]

/-- A page as it closes at an instant (R200). -/
def State.pageClosed (s : State) (x : Nat) (p : Page) (early stop : Bool) (tm : Time) : Page :=
  { p.settle with seq := s.getF F.SITE_CSEQ_SEQ x, early := early, stop := stop, closeNs := Time.ns32 tm }

/-- A page none of whose records stands apart at the instant goes to staging. -/
theorem State.closePage_of_none_apart {early stop : Bool} (hp : (s.capOf x).page = some p) (h : p.tailT ≠ tm ∨ p.tail = []) :
    s.closePage x early stop tm = ((s.modCap x fun k =>
      { k with page := none, staged := k.staged ++ [s.pageClosed x p early stop tm] }).incF F.SITE_CSEQ_SEQ x).capShow x := by
  have ha : ¬(p.tailT = tm ∧ p.tail ≠ []) := fun hc => h.elim (· hc.1) hc.2
  have hb : ¬((p.tailT = tm ∧ p.tail ≠ []) ∧ p.recs = []) := fun hc => ha hc.1
  simp only [State.closePage, hp, if_neg ha, if_neg hb]
  rfl

theorem State.flushPage_of_page (hp : (s.capOf x).page = some p) (hc : (s.capOf x).cands = [])
    (hd : ∀ u ∈ (s.capOf x).closeAt, s.memNow < u.1) (h : p.tailT ≠ s.memNow ∨ p.tail = []) :
    s.flushPage x = (((s.candTaken x []).modCap x fun k =>
      { k with page := none, staged := k.staged ++ [s.pageClosed x p true false s.memNow] }).incF F.SITE_CSEQ_SEQ x).capShow x := by
  have hk := s.capOf_candTaken x []
  rw [State.flushPage, State.capDrain_of_nil hc, State.capDue_of_none_due (by rw [hk]; exact hd)]
  exact State.closePage_of_none_apart (by rw [hk]; exact hp) h

theorem State.flushPage_closes (hx : x < 16) (hp : (s.capOf x).page = some p) (hc : (s.capOf x).cands = [])
    (hd : ∀ u ∈ (s.capOf x).closeAt, s.memNow < u.1) (h : p.tailT ≠ s.memNow ∨ p.tail = []) :
    ((s.flushPage x).capOf x).page = none ∧
      ((s.flushPage x).capOf x).staged = (s.capOf x).staged ++ [s.pageClosed x p true false s.memNow] ∧
      (s.flushPage x).getF F.SITE_CSEQ_SEQ x = (s.getF F.SITE_CSEQ_SEQ x + 1) % 2 ^ F.SITE_CSEQ_SEQ.width ∧
      SiteOnly x (keysAt x [F.SITE_CSEQ_SEQ, F.SITE_CSTG_SUSED]) s (s.flushPage x) := by
  have hs := s.candTaken_siteOnly x (keysAt x [F.SITE_CSEQ_SEQ, F.SITE_CSTG_SUSED]) []
  rw [State.flushPage_of_page hp hc hd h, State.capOf_capShow, State.capOf_incF, State.capOf_modCap, State.capOf_candTaken,
    State.getF_capShow (by decide) (by omega) (by omega), State.getF_incF_same, State.getF_modCap]
  exact ⟨rfl, rfl, rfl, (hs.modCap.incF (by simp [keysAt])).capShow (by simp [keysAt])⟩

end Sys2Proof.Machine
end

section
/-! SUPPORT. A page moves to the backlog (R202, R326, R337). -/

namespace Sys2Proof.Machine

variable {x : Nat} {s t : State} {p : Page} {rest : List Page}

/-! ### Traffic of a page -/

theorem Asked.request (h : Asked s t) {cls x a : Nat} {slot : Option (Nat × Nat × Nat)} {page : Option (Nat × Nat)} :
    Asked s (t.request cls x a slot page) := h.enqueue

theorem Asked.site (h : Asked s t) : t.site = s.site := (congrArg State.site h.1 :)

theorem State.length_reqs_request (s : State) (cls x a : Nat) (slot : Option (Nat × Nat × Nat)) (page : Option (Nat × Nat)) :
    (s.request cls x a slot page).reqs.length = s.reqs.length + 1 := List.length_append

/-- Requests made one for each element of a list. -/
theorem State.length_reqs_foldl {α : Type} {f : State → α → State} (hf : ∀ a c, (f a c).reqs.length = a.reqs.length + 1)
    (l : List α) (s : State) : (l.foldl f s).reqs.length = s.reqs.length + l.length := by
  induction l generalizing s with
  | nil => rfl
  | cons c l ih => rw [List.foldl_cons, ih, hf, List.length_cons, Nat.add_assoc, Nat.add_comm 1]

/-- A page is written and read in 64 blocks each. -/
theorem State.length_reqs_pageTraffic (s : State) (x q : Nat) : (s.pageTraffic x q).reqs.length = s.reqs.length + 128 := by
  unfold State.pageTraffic State.traffic
  rw [State.length_reqs_foldl fun _ _ => State.length_reqs_request .., State.length_reqs_foldl fun _ _ => State.length_reqs_request ..,
    List.length_range, Nat.add_assoc]
  rfl

theorem State.pageTraffic_asked (s : State) (x q : Nat) : Asked s.drawn (s.pageTraffic x q) :=
  ((Asked.refl _).foldl fun ha => ha.request).foldl fun ha => ha.request

/-! ### The command -/

/-- The oldest staged page, with the words of `m` marked as lost, is in the backlog. -/
def State.pageStored (s : State) (x m ce : Nat) (p : Page) (rest : List Page) : State :=
  (((s.modCap x fun k => { k with staged := rest, backlog := k.backlog ++ [{ p with zero := p.zero ||| m }] }).incF
    F.SITE_CBKOCC_BKOCC x).capShow x).addF F.MEM_SCE_CNT 0 ce

/-- Words that staging could not correct count, and are a fault of the site (R337). -/
def State.stagingLost (s : State) (x m : Nat) : State :=
  if m = 0 then s else (s.addF F.MEM_SUE_CNT 0 (popcount 512 m)).siteFault x 2

section none_due

variable {x : Fin 16} {ue ce : Nat} (hs : (s.capOf x.val).staged = p :: rest)
  (hd : ∀ u ∈ (s.capOf x.val).closeAt, s.memNow < u.1)
include hs hd

theorem exec_pageMove_moves (ho : s.getF F.SITE_CBKOCC_BKOCC x.val < s.bksz x.val) (hw : s.waiting 1 x.val = false) :
    exec (.pageMove x ue ce) s =
      .next (((s.pageStored x.val (ue % 2 ^ 512) ce p rest).pageTraffic x.val p.seq).stagingLost x.val (ue % 2 ^ 512)) := by
  change execPageMove x ue ce s = _
  simp only [execPageMove, State.capDue_of_none_due hd, hs, if_pos (And.intro ho hw)]
  rfl

theorem exec_pageMove_waits (h : s.bksz x.val ≤ s.getF F.SITE_CBKOCC_BKOCC x.val ∨ s.waiting 1 x.val = true) :
    exec (.pageMove x ue ce) s = .next s := by
  have hn : ¬(s.getF F.SITE_CBKOCC_BKOCC x.val < s.bksz x.val ∧ s.waiting 1 x.val = false) := by
    rintro ⟨ho, hw⟩
    exact h.elim (Nat.not_le.2 ho) (by simp [hw])
  change execPageMove x ue ce s = _
  simp only [execPageMove, State.capDue_of_none_due hd, hs, if_neg hn]
  rfl

end none_due

theorem State.pageStored_spec (hx : x < 16) (s : State) (m ce : Nat) (p : Page) (rest : List Page) :
    (s.pageStored x m ce p rest).capOf x =
        { s.capOf x with staged := rest, backlog := (s.capOf x).backlog ++ [{ p with zero := p.zero ||| m }] } ∧
      (s.pageStored x m ce p rest).getF F.SITE_CBKOCC_BKOCC x =
        (s.getF F.SITE_CBKOCC_BKOCC x + 1) % 2 ^ F.SITE_CBKOCC_BKOCC.width ∧
      (s.pageStored x m ce p rest).getF F.MEM_SCE_CNT 0 = (s.getF F.MEM_SCE_CNT 0 + ce) % 2 ^ F.MEM_SCE_CNT.width ∧
      (s.pageStored x m ce p rest).getF F.MEM_SUE_CNT 0 = s.getF F.MEM_SUE_CNT 0 ∧ s.sameMems (s.pageStored x m ce p rest) := by
  have hx' : x < 1048576 := by omega
  have hkey {f g : Fld} (hf : f.id ≠ g.id) : f.key 0 ≠ g.key x := Fld.key_ne hf (by decide) hx'
  have hu : SiteOnly x [F.SITE_CBKOCC_BKOCC.key x, F.SITE_CSTG_SUSED.key x] s (((s.modCap x fun k =>
      { k with staged := rest, backlog := k.backlog ++ [{ p with zero := p.zero ||| m }] }).incF F.SITE_CBKOCC_BKOCC x).capShow x) :=
    ((SiteOnly.refl x _ s).modCap.incF (by simp)).capShow (by simp)
  have hzero {f : Fld} (hb : f.id ≠ F.SITE_CBKOCC_BKOCC.id) (hc : f.id ≠ F.SITE_CSTG_SUSED.id) :
      f.key 0 ∉ [F.SITE_CBKOCC_BKOCC.key x, F.SITE_CSTG_SUSED.key x] := by
    simp [hkey hb, hkey hc]
  refine ⟨?_, ?_, ?_, ?_, hu.sameMems⟩
  · rw [State.pageStored, State.capOf_addF, State.capOf_capShow, State.capOf_incF, State.capOf_modCap]
  · rw [State.pageStored, State.addF, State.getF_setF_other (hkey (by decide)).symm, State.getF_capShow (by decide) hx' hx',
      State.getF_incF_same, State.getF_modCap]
  · rw [State.pageStored, State.addF, State.getF_setF_same, hu.regs.getF (hzero (by decide) (by decide))]
  · rw [State.pageStored, State.addF, State.getF_setF_other (Fld.key_ne_same (by decide)), hu.regs.getF (hzero (by decide) (by decide))]

/-- The traffic of a page leaves the sites and every field but LVL alone. -/
theorem State.pageTraffic_spec (s : State) (x q : Nat) : (∀ y, (s.pageTraffic x q).capOf y = s.capOf y) ∧
    (∀ {f : Fld} {i : Nat}, f.id ≠ F.MEM_PDSTAT_LVL.id → i < 1048576 → (s.pageTraffic x q).getF f i = s.getF f i) ∧
    s.sameMems (s.pageTraffic x q) := by
  have ha := s.pageTraffic_asked x q
  exact ⟨State.capOf_eq_of_site_eq ha.site, ha.getF, ha.sameMems⟩

/-- Lost words leave the sites and every field alone but their count and those that a fault source can write. -/
theorem State.stagingLost_spec (hx : x < 16) (s : State) (m : Nat) : (∀ y, (s.stagingLost x m).capOf y = s.capOf y) ∧
    (∀ {f : Fld} {i : Nat}, f.id ∉ faultIds → f.id ≠ F.MEM_SUE_CNT.id → i < 1048576 →
      (s.stagingLost x m).getF f i = s.getF f i) ∧
    (m ≠ 0 → (s.stagingLost x m).getF F.MEM_SUE_CNT 0 =
      (s.getF F.MEM_SUE_CNT 0 + popcount 512 m) % 2 ^ F.MEM_SUE_CNT.width) ∧
    s.sameMems (s.stagingLost x m) := by
  by_cases hm : m = 0
  · have he : s.stagingLost x m = s := if_pos hm
    rw [he]
    exact ⟨fun _ => rfl, fun _ _ _ => rfl, fun h => absurd hm h, .refl s⟩
  · have he : s.stagingLost x m = (s.addF F.MEM_SUE_CNT 0 (popcount 512 m)).siteFault x 2 := if_neg hm
    have hf := (FaultOnly.refl (s.addF F.MEM_SUE_CNT 0 (popcount 512 m))).siteFault (x := x) (b := 2) (by omega)
    rw [he]
    refine ⟨fun y => State.capOf_eq_of_site_eq hf.site y, fun {f i} hn hs hi => ?_, fun _ => ?_, hf.sameMems⟩
    · rw [hf.fields f i hn hi, State.addF, State.getF_setF_other (Fld.key_ne hs hi (by decide))]
    · rw [hf.fields F.MEM_SUE_CNT 0 (by decide) (by decide), State.addF, State.getF_setF_same]

theorem State.pageMoved_spec (hx : x < 16) (s : State) (m ce : Nat) (p : Page) (rest : List Page) {t : State}
    (ht : t = ((s.pageStored x m ce p rest).pageTraffic x p.seq).stagingLost x m) :
    (t.capOf x).staged = rest ∧ (t.capOf x).backlog = (s.capOf x).backlog ++ [{ p with zero := p.zero ||| m }] ∧
      t.getF F.SITE_CBKOCC_BKOCC x = (s.getF F.SITE_CBKOCC_BKOCC x + 1) % 2 ^ F.SITE_CBKOCC_BKOCC.width ∧
      t.getF F.MEM_SCE_CNT 0 = (s.getF F.MEM_SCE_CNT 0 + ce) % 2 ^ F.MEM_SCE_CNT.width ∧
      (m ≠ 0 → t.getF F.MEM_SUE_CNT 0 = (s.getF F.MEM_SUE_CNT 0 + popcount 512 m) % 2 ^ F.MEM_SUE_CNT.width) ∧
      (m = 0 → t.reqs.length = s.reqs.length + 128) ∧ s.sameMems t := by
  obtain ⟨hcap, hocc, hsce, hsue, hmem⟩ := State.pageStored_spec hx s m ce p rest
  obtain ⟨hcap', hget, hmem'⟩ := (s.pageStored x m ce p rest).pageTraffic_spec x p.seq
  obtain ⟨hcap'', hget', hsue', hmem''⟩ := ((s.pageStored x m ce p rest).pageTraffic x p.seq).stagingLost_spec hx m
  have hk : t.capOf x = (s.pageStored x m ce p rest).capOf x := by rw [ht, hcap'', hcap']
  refine ⟨by rw [hk, hcap], by rw [hk, hcap], ?_, ?_, fun h => ?_, fun h => ?_, ht ▸ (hmem.trans hmem').trans hmem''⟩
  · rw [ht, hget' (by decide) (by decide) (by omega), hget (by decide) (by omega), hocc]
  · rw [ht, hget' (by decide) (by decide) (by decide), hget (by decide) (by decide), hsce]
  · rw [ht, hsue' h, hget (by decide) (by decide), hsue]
  · rw [ht, State.stagingLost, if_pos h, State.length_reqs_pageTraffic]
    rfl

end Sys2Proof.Machine
end

section
/-! SUPPORT. A page is delivered into a host slot (R198, R199, R202, R442). -/

namespace Sys2Proof.Machine

variable {x : Nat} {s : State} {p : Page} {rest : List Page} {a : Nat}

theorem vfFn_val (x : Fin 16) : vfFn x.val = .vf x := dif_pos x.isLt

/-- A host event leaves the outputs before it on record (R446). -/
theorem State.out_subset_raiseVf (s : State) (x k : Nat) : s.out ⊆ (s.raiseVf x k).out := by
  have hm (u : State) : u.out ⊆ (u.msix x k).out := by
    obtain ⟨fn, h⟩ | h := u.msix_cases x k <;> rw [h]
    · exact List.subset_cons_self _ _
    · exact List.Subset.refl _
  obtain ⟨-, h⟩ | ⟨-, h | h⟩ := s.raise_cases x k <;> rw [State.raiseVf, h]
  · exact List.Subset.refl _
  · exact List.Subset.refl _
  · exact (hm ((s.noteEv x k).setF F.HST_EVT_EVT x (setBit (s.getF F.HST_EVT_EVT x) k)) :)

/-- DONE of a page: the complement of its sequence number, or 0 where its word is lost (R199). -/
def Page.done (p : Page) : Nat := if hasBit p.zero 511 then 0 else 4294967295 - p.seq % 4294967296

/-- The page and then its DONE word have gone to the host, and the page has left the backlog. -/
def State.pageSent (s : State) (x : Nat) (p : Page) (rest : List Page) (a : Nat) : State :=
  ((((s.log (.dma (vfFn x) a (s.pageBytes x p))).log (.dma (vfFn x) (a + 4092) (leBytes 4 p.done))).modCap x
    fun k => { k with backlog := rest }).setF F.SITE_CBKOCC_BKOCC x (s.getF F.SITE_CBKOCC_BKOCC x - 1))

/-- A page delivered and the slot that it fills count. -/
def State.deliveryCounted (s : State) (x : Nat) : State := (s.incF F.SITE_CDLV_DLV x).incF F.HST_RPROD_PROD (x * 4 + 2)

/-- A page delivered counts, and the host has an event. -/
def State.delivered (s : State) (x : Nat) : State := (s.deliveryCounted x).raiseVf x 1

section slot

variable {x : Fin 16} {k : Known} (hb : (s.capOf x.val).backlog = p :: rest) (ha : s.freeSlot x.val 2 4096 = some a)
include hb ha

theorem exec_pageDeliver_sends (h : ∀ r ∈ s.reqs, ∀ q, r.site = x.val → r.page = some q → q.1 ≠ p.seq) :
    exec (.pageDeliver x k) s = .next ((s.pageSent x.val p rest a).delivered x.val) := by
  have hn : ¬s.reqs.any (fun r => r.site == x.val && r.page.map (fun q => q.1) == some p.seq) = true := by
    simp only [List.any_eq_true, Bool.and_eq_true, beq_iff_eq, Option.map_eq_some_iff]
    rintro ⟨r, hr, hs, q, hq, hp⟩
    exact h r hr q hs hq hp
  change execPageDeliver x k s = _
  simp only [execPageDeliver, hb, ha, if_neg hn]
  rfl

/-- A page some block of which has yet to be read stays in the backlog. -/
theorem exec_pageDeliver_waits {r : MemReq} {q : Nat × Nat} (hr : r ∈ s.reqs) (hs : r.site = x.val) (hq : r.page = some q)
    (hp : q.1 = p.seq) : exec (.pageDeliver x k) s = .next s := by
  have hy : s.reqs.any (fun r => r.site == x.val && r.page.map (fun q => q.1) == some p.seq) = true :=
    List.any_eq_true.2 ⟨r, hr, by simp [hs, hq, hp]⟩
  change execPageDeliver x k s = _
  simp only [execPageDeliver, hb, ha, if_pos hy]
  rfl

end slot

theorem State.delivered_spec (hx : x < 16) (s : State) : s.out ⊆ (s.delivered x).out ∧ (s.delivered x).capOf x = s.capOf x ∧
    (s.delivered x).getF F.SITE_CDLV_DLV x = (s.getF F.SITE_CDLV_DLV x + 1) % 2 ^ F.SITE_CDLV_DLV.width ∧
    (s.delivered x).getF F.HST_RPROD_PROD (x * 4 + 2) = (s.getF F.HST_RPROD_PROD (x * 4 + 2) + 1) % 4294967296 ∧
    s.sameMems (s.delivered x) := by
  have hx' : x < 1048576 := by omega
  have hr : RegsBut [F.HST_EVT_EVT.key x, F.MSIX_PBA_PEND.key x] (s.deliveryCounted x) (s.delivered x) :=
    (s.deliveryCounted x).raise_regs x 1
  have hkey {f : Fld} {i : Nat} (he : f.id ≠ F.HST_EVT_EVT.id) (hm : f.id ≠ F.MSIX_PBA_PEND.id) (hi : i < 1048576) :
      f.key i ∉ [F.HST_EVT_EVT.key x, F.MSIX_PBA_PEND.key x] := by
    simp [Fld.key_ne he hi hx', Fld.key_ne hm hi hx']
  refine ⟨(s.deliveryCounted x).out_subset_raiseVf x 1, (s.deliveryCounted x).capOf_raiseVf x 1 x, ?_, ?_,
    (s.deliveryCounted x).sameMems_raiseVf x 1⟩
  · rw [hr.getF (hkey (by decide) (by decide) hx'), State.deliveryCounted, State.incF, State.addF,
      State.getF_setF_other (Fld.key_ne (by decide) hx' (by omega)), State.getF_incF_same]
  · rw [hr.getF (hkey (by decide) (by decide) (by omega)), State.deliveryCounted, State.getF_incF_same, State.incF, State.addF,
      State.getF_setF_other (Fld.key_ne (by decide) (by omega) hx')]
    rfl

theorem State.pageSent_spec (hx : x < 16) (s : State) (p : Page) (rest : List Page) (a : Nat) :
    (s.pageSent x p rest a).out = .dma (vfFn x) (a + 4092) (leBytes 4 p.done) :: .dma (vfFn x) a (s.pageBytes x p) :: s.out ∧
    ((s.pageSent x p rest a).capOf x).backlog = rest ∧
    (∀ {f : Fld} {i : Nat}, f.id ≠ F.SITE_CBKOCC_BKOCC.id → i < 1048576 → (s.pageSent x p rest a).getF f i = s.getF f i) ∧
    s.sameMems (s.pageSent x p rest a) := by
  refine ⟨rfl, ?_, fun hf hi => State.getF_setF_other (Fld.key_ne hf hi (by omega)), .refl s⟩
  rw [State.pageSent, State.capOf_setF, State.capOf_modCap]

theorem State.pageDelivered_spec {x : Fin 16} (s : State) (p : Page) (rest : List Page) (a : Nat) {t : State}
    (ht : t = (s.pageSent x.val p rest a).delivered x.val) :
    Out.dma (.vf x) a (s.pageBytes x.val p) ∈ t.out ∧ Out.dma (.vf x) (a + 4092) (leBytes 4 p.done) ∈ t.out ∧
      (t.capOf x.val).backlog = rest ∧
      t.getF F.SITE_CDLV_DLV x.val = (s.getF F.SITE_CDLV_DLV x.val + 1) % 2 ^ F.SITE_CDLV_DLV.width ∧
      t.getF F.HST_RPROD_PROD (x.val * 4 + 2) = (s.getF F.HST_RPROD_PROD (x.val * 4 + 2) + 1) % 4294967296 ∧ s.sameMems t := by
  obtain ⟨hout, hback, hget, hmem⟩ := s.pageSent_spec x.isLt p rest a
  obtain ⟨hsub, hcap, hdlv, hprod, hmem'⟩ := (s.pageSent x.val p rest a).delivered_spec x.isLt
  rw [hout, vfFn_val] at hsub
  rw [ht]
  refine ⟨hsub (by simp), hsub (by simp), by rw [hcap, hback], ?_, ?_, hmem.trans hmem'⟩
  · rw [hdlv, hget (by decide) (by omega)]
  · rw [hprod, hget (by decide) (by omega)]

end Sys2Proof.Machine
end

section
/-! SUPPORT. The capture pages (R195, R198 to R202). -/

namespace Sys2Proof.Machine

/-- Settles O34: the oldest record enters the page or counts as lost, a flush closes the page, and a page moves to the backlog and from
there to the host as its conditions allow. -/
theorem capturePages : Obligations.CapturePages := by
  unfold Obligations.CapturePages
  refine ⟨?_, ?_, ?_, ?_, ?_⟩
  · intro x s c rest hc hd
    obtain ⟨hcands, hmem⟩ := s.enterCand_candTaken_spec x.val c rest
    refine ⟨_, exec_recordEnter hc, hcands, hmem, State.enterCand_candTaken_of_notStoring hd, ?_, State.enterCand_candTaken_of_opens hd⟩
    rintro p r hn hp ht rfl hl
    exact State.enterCand_candTaken_of_fits hd hn hp ht hl
  · intro x s
    exact ⟨fun h => if_neg h, fun h => if_pos h, exec_captureFlush⟩
  · intro x s
    exact ⟨s.flushPage_cands x.val, fun p hp hc hd h => State.flushPage_closes x.isLt hp hc hd h⟩
  · intro x ue ce s p rest hs hd
    exact ⟨fun ho hw => ⟨_, exec_pageMove_moves hs hd ho hw, State.pageMoved_spec x.isLt s _ ce p rest rfl⟩,
      exec_pageMove_waits hs hd⟩
  · intro x k s p rest a hb ha
    exact ⟨fun h => ⟨_, exec_pageDeliver_sends hb ha h, State.pageDelivered_spec s p rest a rfl⟩,
      fun r hr q hs hq hp => exec_pageDeliver_waits hb ha hr hs hq hp⟩

end Sys2Proof.Machine
end

section
/-! SUPPORT. The order of a VF to a channel of its site (R334), and the writes of registers and acquisition state of one channel. -/

namespace Sys2Proof.Machine

variable {w : List Nat} {c x : Nat} {s t u : State}

/-! ### An order to a channel (R334) -/

@[simp] theorem State.chanOf_ordered (s : State) (y : Nat) (o : Order) (k : Nat) : (s.ordered y o).chanOf k = s.chanOf k := rfl
@[simp] theorem State.flag_ordered (s : State) (y : Nat) (o : Order) (f : Fld) (i : Nat) : (s.ordered y o).flag f i = s.flag f i := rfl
@[simp] theorem State.acqFunc_ordered (s : State) (y : Nat) (o : Order) (k : Nat) : (s.ordered y o).acqFunc k = s.acqFunc k := rfl
@[simp] theorem State.fnOwns_ordered (s : State) (y : Nat) (o : Order) (fn : Fn) (k : Nat) :
    (s.ordered y o).fnOwns fn k = s.fnOwns fn k := rfl

theorem State.fnOwns_of_ownsCh {n : Fin 16} (h : s.hostFree n) (ho : s.ownsCh n.val c = true) : s.fnOwns (.vf n) c = true :=
  Bool.and_eq_true_iff.2 ⟨h.1, ho⟩

/-- The order of a VF to a channel of its site acts where the site has no other order, and is put on record. -/
theorem State.hostOrder_of_ownsCh {n : Fin 16} (h : s.hostFree n) (ho : s.ownsCh n.val c = true) (d : RegDesc) (val : Nat)
    (act : State → Res) :
    s.hostOrder (.vf n) (s.fnOwns (.vf n) c) d c val act = act (s.ordered n.val ⟨s.nowNs, 2, 2, d.addr c, val, 0⟩) := by
  rw [State.fnOwns_of_ownsCh h ho, State.hostOrder_of_hostFree h]

theorem State.ordered_siteOnly (s : State) (x : Nat) (o : Order) (w : List Nat) : SiteOnly x w s (s.ordered x o) :=
  (SiteOnly.refl x w s).modSite

theorem State.ordered_chanOrder (s : State) (c x : Nat) (o : Order) (w : List Nat) : ChanOrder c x w s (s.ordered x o) := by
  refine ⟨rfl, .refl w s, fun _ _ => rfl, fun k => ?_⟩
  by_cases hk : k = x
  · subst hk
    rw [State.ordered, State.siteOf_modSite_same]
    exact ⟨rfl, fun h => absurd rfl h⟩
  · rw [State.ordered, State.siteOf_modSite_other hk]
    exact ⟨rfl, fun _ => rfl⟩

/-- A change of the channel after its order. -/
theorem ChanOrder.chanOnly (h : ChanOrder c x w s t) (g : ChanOnly c w t u) : ChanOrder c x w s u := by
  obtain ⟨hframe, hregs, hchans, hsites⟩ := h
  obtain ⟨gframe, gregs, gchans⟩ := g
  have hsite : u.site = t.site := (congrArg State.site gframe :)
  refine ⟨(congrArg (fun a : State => { a with reg := s.reg, chan := s.chan, site := s.site }) gframe).trans hframe,
    hregs.trans gregs, fun k hk => (gchans k hk).trans (hchans k hk), fun k => ?_⟩
  simp only [State.siteOf, hsite] at hsites ⊢
  exact hsites k

/-! ### Registers and acquisition state of one channel -/

@[simp] theorem State.getF_modAcq (s : State) (c : Nat) (f : AcqSt → AcqSt) (g : Fld) (i : Nat) :
    (s.modAcq c f).getF g i = s.getF g i := rfl

theorem ChanOnly.modAcq (h : ChanOnly c w s t) {f : AcqSt → AcqSt} : ChanOnly c w s (t.modAcq c f) := h.modChan

/-- The fields of `l` written for a channel, and its acquisition state changed. -/
def State.acqWrites (s : State) (c : Nat) (l : List (Fld × Nat)) (f : AcqSt → AcqSt) : State := (s.setFs c l).modAcq c f

theorem State.acq_acqWrites (s : State) (c : Nat) (l : List (Fld × Nat)) (f : AcqSt → AcqSt) :
    ((s.acqWrites c l f).chanOf c).acq = f (s.chanOf c).acq := by
  rw [State.acqWrites, State.chanOf_modAcq_acq, State.chanOf_setFs]

/-- Of fields with different numbers each reads the low bits of what was written. -/
theorem State.getF_acqWrites {l : List (Fld × Nat)} {f : AcqSt → AcqSt} {g : Fld} {n : Nat} (hg : (g, n) ∈ l := by simp)
    (h : (l.map fun p => p.1.id).Nodup := by simp only [List.map_cons, List.map_nil]; decide) :
    (s.acqWrites c l f).getF g c = n % 2 ^ g.width :=
  State.getF_setFs_mem hg h c

theorem State.acqWrites_chanOnly (s : State) (c : Nat) (l : List (Fld × Nat)) (f : AcqSt → AcqSt) :
    ChanOnly c (l.map fun p => p.1.key c) s (s.acqWrites c l f) :=
  ((ChanOnly.refl c _ s).setFs fun _ hp => List.mem_map_of_mem hp).modAcq

end Sys2Proof.Machine
end

section
/-! SUPPORT. Running, arming, forcing and the end of a record (R214 to R216, R220). -/

namespace Sys2Proof.Machine

variable {s : State} {n : Fin 16} {ch : Fin 64} {tm u : Time}

/-! ### Runs (R220) -/

theorem exec_acqRunStart (hr : s.flag F.ACQ_CTL_RUN ch.val = true) (hn : (s.chanOf ch.val).acq.run = false) :
    exec (.acqRunStart ch tm) s = .next (s.acqWrites ch.val [(F.ACQ_STAT_ACTIVE, 1), (F.ACQ_RUNT0_NS, Time.ns32 tm)]
      fun q => { q with run := true, t0 := tm, gateLeft := 0, trigs := [] }) :=
  if_pos (by simp [hr, hn])

theorem exec_acqRunStop (hr : s.flag F.ACQ_CTL_RUN ch.val = false) (hn : (s.chanOf ch.val).acq.run = true) :
    exec (.acqRunStop ch tm) s = .next (s.acqWrites ch.val [(F.ACQ_RUNT1_NS, Time.ns32 tm)]
      fun q => { q with run := false, t1 := tm, trig := if q.refSeen then q.trig else none }) :=
  if_pos (by simp [hr, hn])

theorem exec_acqStopDone (hn : (s.chanOf ch.val).acq.run = false) :
    exec (.acqStopDone ch) s = .next (s.setF F.ACQ_STAT_ACTIVE ch.val 0) :=
  if_neg (by simp [hn])

/-! ### The record (R215) -/

/-- ARM by the VF of the owner, while the record runs: the registers and the record's state begin anew, at an offset drawn. -/
theorem exec_acqArm (h : s.hostFree n) (ho : s.ownsCh n.val ch.val = true) (hf : s.acqFunc ch.val = 3)
    (hr : s.flag F.ACQ_CTL_RUN ch.val = true) :
    ∃ q, exec (.acqArm (.vf n) ch) s = .next ((s.ordered n.val q).drawn.acqWrites ch.val [(F.ACQ_STAT_ARMED, 1), (F.ACQ_STAT_TRIGD, 0)]
      fun a => { a with armT := s.localNow (octOf ch.val), off := s.anyVal % 131072, since := 0, trig := none, refSeen := false,
                        left := 0 }) := by
  change ∃ q, execAcqArm (.vf n) ch s = _
  rw [execAcqArm, State.hostOrder_of_ownsCh h ho]
  exact ⟨_, if_pos (by simp [State.fnOwns_of_ownsCh h ho, hf, hr])⟩

theorem exec_acqRecordDone (ha : s.flag F.ACQ_STAT_ARMED ch.val = true) (hs : (s.chanOf ch.val).acq.refSeen = true)
    (hl : (s.chanOf ch.val).acq.left = 0) :
    exec (.acqRecordDone ch) s = .next (s.acqWrites ch.val [(F.ACQ_STAT_ARMED, 0), (F.ACQ_STAT_TRIGD, 1)]
      fun q => { q with trig := none, refSeen := false }) :=
  if_pos (by simp [ha, hs, hl])

/-! ### FORCE (R214) -/

theorem exec_acqForce (h : s.hostFree n) (ho : s.ownsCh n.val ch.val = true)
    (hu : u = Time.ofNs (Time.toNs (s.localNow (octOf ch.val)))) :
    ∃ q, exec (.acqForce (.vf n) ch) s = .next ((s.ordered n.val q).acqTrigger ch.val u) := by
  change ∃ q, execAcqForce (.vf n) ch s = _
  rw [execAcqForce, State.hostOrder_of_ownsCh h ho, hu]
  exact ⟨_, if_pos (State.fnOwns_of_ownsCh h ho)⟩

/-- A trigger whose reference has yet to come waits. -/
theorem State.acqTrigger_of_ahead {c : Nat} (h : (s.chanOf c).acq.taken u = []) :
    s.acqTrigger c u = s.acqWrites c [] fun a => { a with events := a.events ++ [u] } :=
  if_pos (List.isEmpty_iff.2 h)

theorem State.acqWindow_of_no_window {c : Nat} (h : s.getF F.ACQ_CFG_GATE c ≠ 3) (u : Time) (r : AcqUi) (l : List AcqUi) :
    s.acqWindow c u r l = s :=
  if_neg fun hw => h hw.1

/-- The registers of a record with reference offset `off`; `fr` and `beat` are TFRAC and BEAT. -/
def recordRegs (u : Time) (off fr beat : Nat) : List (Fld × Nat) :=
  [(F.ACQ_TRGT_LO_FRAC, Time.frac32 u), (F.ACQ_TRGT_HI_NS, Time.int32 u), (F.ACQ_TREC_TIDX, off), (F.ACQ_TREC_TFRAC, fr),
    (F.ACQ_TRBEAT_BEAT, beat)]

/-- The record fixed by a trigger at `u` with reference offset `off`. -/
def State.recorded (s : State) (c : Nat) (u : Time) (off fr beat : Nat) : State :=
  s.acqWrites c (recordRegs u off fr beat) fun a => { a with
    trig := some u, refSeen := true, left := s.acqPost c - 1 - ((s.chanOf c).acq.off + 131071 - off) % 131072 }

theorem State.acqRef_eq_recorded {c : Nat} {r : AcqUi} {off : Nat} (ho : r.off = some off) (k : Nat) :
    ∃ fr beat, s.acqRef c u r k = s.recorded c u off fr beat := by
  obtain rfl : off = r.off.getD (s.chanOf c).acq.off := by rw [ho, Option.getD_some]
  exact ⟨_, _, rfl⟩

theorem recordRegs_ids (u : Time) (off fr beat : Nat) : ((recordRegs u off fr beat).map fun p => p.1.id) =
    [F.ACQ_TRGT_LO_FRAC.id, F.ACQ_TRGT_HI_NS.id, F.ACQ_TREC_TIDX.id, F.ACQ_TREC_TFRAC.id, F.ACQ_TRBEAT_BEAT.id] := rfl

theorem State.getF_recorded_other {f : Fld} {c : Nat} {off fr beat : Nat} (hf : f.id ∉ (recordRegs u off fr beat).map fun p => p.1.id) :
    (s.recorded c u off fr beat).getF f c = s.getF f c := by
  rw [State.recorded, State.acqWrites, State.getF_modAcq]
  exact State.getF_setFs_other fun _ hp => Fld.key_ne_same fun e => hf (e ▸ List.mem_map_of_mem hp)

/-- A trigger that fires fixes the record, and with a gate other than the trigger's window does nothing else. -/
theorem State.acqTrigger_of_fires {c : Nat} {l : List AcqUi} {r : AcqUi} {off : Nat} (hl : l = (s.chanOf c).acq.taken u)
    (hr : l.getLast? = some r) (ho : r.off = some off)
    (hf : s.acqFires c u r ((l.filter fun q => decide (u < q.t) && q.off.isSome).length) = true)
    (hg : s.getF F.ACQ_CFG_GATE c ≠ 3) : ∃ fr beat, s.acqTrigger c u = s.recorded c u off fr beat := by
  subst hl
  have hne : ¬((s.chanOf c).acq.taken u).isEmpty = true := fun h => by simp [List.isEmpty_iff.1 h] at hr
  obtain ⟨fr, beat, he⟩ := State.acqRef_eq_recorded (s := s) (c := c) (u := u) ho (((s.chanOf c).acq.taken u).length - 1)
  refine ⟨fr, beat, ?_⟩
  rw [State.acqTrigger, if_neg hne, State.acqJudge]
  simp only [hr, hf, if_true, he]
  refine State.acqWindow_of_no_window ?_ ..
  rwa [State.getF_recorded_other (by rw [recordRegs_ids]; decide)]

theorem State.recorded_spec (s : State) (c : Nat) (u : Time) (off fr beat : Nat) :
    ((s.recorded c u off fr beat).chanOf c).acq = { (s.chanOf c).acq with
        trig := some u, refSeen := true, left := s.acqPost c - 1 - ((s.chanOf c).acq.off + 131071 - off) % 131072 } ∧
      (s.recorded c u off fr beat).getF F.ACQ_TREC_TIDX c = off % 2 ^ F.ACQ_TREC_TIDX.width ∧
      (s.recorded c u off fr beat).getF F.ACQ_TRGT_LO_FRAC c = Time.frac32 u % 4294967296 ∧
      (s.recorded c u off fr beat).getF F.ACQ_TRGT_HI_NS c = Time.int32 u % 4294967296 := by
  have hn : ((recordRegs u off fr beat).map fun p => p.1.id).Nodup := by
    rw [recordRegs_ids]
    decide
  exact ⟨State.acq_acqWrites .., State.getF_acqWrites (by simp [recordRegs]) hn, State.getF_acqWrites (by simp [recordRegs]) hn,
    State.getF_acqWrites (by simp [recordRegs]) hn⟩

/-! ### Time triggers (R216) -/

/-- How far the target of a time trigger with integer nanoseconds `ns` lies ahead of the octet's local time, modulo 2^64. -/
def State.trigAhead (s : State) (c ns : Nat) : Nat :=
  (ns % 4294967296 * 4294967296 + s.getF F.ACQ_TTRIG_LO_FRAC c + 18446744073709551616 -
    s.copyFix (octOf c) % 18446744073709551616) % 18446744073709551616

/-- The armed requests without the time trigger of a channel. -/
def State.armedBut (s : State) (ch : Fin 64) : List (Nat × TimedReq) :=
  s.time.armed.filter fun p => match p.2 with | .acqTrig k _ => k != ch | _ => true

theorem State.not_acqTrig_of_mem_armedBut {p : Nat × TimedReq} (h : p ∈ s.armedBut ch) (tm : Time) : p.2 ≠ .acqTrig ch tm := by
  intro he
  simpa [he] using (List.mem_filter.1 h).2

/-- The requests `l` armed, and the integer nanoseconds of a time trigger written. -/
def State.trigWritten (s : State) (ch : Fin 64) (ns : Nat) (l : List (Nat × TimedReq)) : State :=
  { s.setF F.ACQ_TTRIG_HI_NS ch.val ns with time := { s.time with armed := l } }

/-- A submit arms the time trigger `d` ahead, or where `d` is outside its limits sets TMISS; an earlier one is gone. -/
theorem exec_acqTtrigSubmit {ns d : Nat} (h : s.hostFree n) (ho : s.ownsCh n.val ch.val = true) (hd : d = s.trigAhead ch.val ns) :
    ∃ q, exec (.acqTtrigSubmit (.vf n) ch ns) s = .next
      (if 16 * 4294967296 ≤ d ∧ d < 2147483648 * 4294967296 then
        (s.ordered n.val q).trigWritten ch ns
          (s.armedBut ch ++ [(octOf ch.val, .acqTrig ch (Time.ofFix (s.copyFix (octOf ch.val) + d)))])
      else ((s.ordered n.val q).trigWritten ch ns (s.armedBut ch)).setF F.ACQ_STAT_TMISS ch.val 1) := by
  change ∃ q, execAcqTtrigSubmit (.vf n) ch ns s = _
  rw [execAcqTtrigSubmit, State.hostOrder_of_ownsCh h ho, hd]
  exact ⟨_, (if_pos (State.fnOwns_of_ownsCh h ho)).trans (apply_ite Host.Outcome.next ..).symm⟩

/-- What the submit of a time trigger `d` ahead leaves. -/
theorem acqTtrigSubmit_spec {ns d : Nat} (h : s.hostFree n) (ho : s.ownsCh n.val ch.val = true) (hd : d = s.trigAhead ch.val ns) :
    ∃ t, exec (.acqTtrigSubmit (.vf n) ch ns) s = .next t ∧ t.getF F.ACQ_TTRIG_HI_NS ch.val = ns % 4294967296 ∧
      (16 * 4294967296 ≤ d ∧ d < 2147483648 * 4294967296 →
        (octOf ch.val, TimedReq.acqTrig ch (Time.ofFix (s.copyFix (octOf ch.val) + d))) ∈ t.time.armed ∧
        t.getF F.ACQ_STAT_TMISS ch.val = s.getF F.ACQ_STAT_TMISS ch.val) ∧
      (d < 16 * 4294967296 ∨ 2147483648 * 4294967296 ≤ d → t.getF F.ACQ_STAT_TMISS ch.val = 1 ∧
        ∀ p ∈ t.time.armed, ∀ tm, p.2 ≠ .acqTrig ch tm) ∧
      { t with reg := s.reg, time := s.time, site := s.site } = s ∧
      RegsBut (keysAt ch.val [F.ACQ_TTRIG_HI_NS, F.ACQ_STAT_TMISS]) s t := by
  obtain ⟨q, hq⟩ := exec_acqTtrigSubmit h ho hd
  have hregs (l : List (Nat × TimedReq)) :
      RegsBut (keysAt ch.val [F.ACQ_TTRIG_HI_NS, F.ACQ_STAT_TMISS]) s ((s.ordered n.val q).trigWritten ch ns l) :=
    RegsBut.setF (t := s) (.refl _ s) (by simp [keysAt])
  by_cases hin : 16 * 4294967296 ≤ d ∧ d < 2147483648 * 4294967296
  · rw [if_pos hin] at hq
    exact ⟨_, hq, State.getF_setF_same .., fun _ => ⟨List.mem_append_right _ (List.mem_singleton_self _),
      State.getF_setF_other (Fld.key_ne_same (by decide))⟩, fun hout => by omega, rfl, hregs _⟩
  · rw [if_neg hin] at hq
    exact ⟨_, hq, (State.getF_setF_other (Fld.key_ne_same (by decide))).trans (State.getF_setF_same ..), fun h => absurd h hin,
      fun _ => ⟨State.getF_setF_same .., fun _ hp => State.not_acqTrig_of_mem_armedBut hp⟩, rfl,
      (hregs _).setF (by simp [keysAt])⟩

/-- Settles O36: each command of a run or a record is one change of the channel, and a FORCE either waits for its reference or fixes the
record with it. -/
theorem acquisitionRuns : Obligations.AcquisitionRuns := by
  unfold Obligations.AcquisitionRuns
  refine ⟨?_, ?_, ?_, ?_, ?_, ?_, fun n ch ns d s h ho hd => acqTtrigSubmit_spec h ho hd⟩
  · intro ch tm s hr hn
    exact ⟨_, exec_acqRunStart hr hn, State.acq_acqWrites .., State.getF_acqWrites (n := 1), State.getF_acqWrites,
      State.acqWrites_chanOnly ..⟩
  · intro ch tm s hr hn
    exact ⟨_, exec_acqRunStop hr hn, State.acq_acqWrites .., State.getF_acqWrites, State.acqWrites_chanOnly ..⟩
  · intro ch s hn
    exact ⟨_, exec_acqStopDone hn, State.getF_setF_same .., (RegsOnly.refl _ s).setF (List.mem_singleton_self _)⟩
  · intro n ch s h ho hf hr
    obtain ⟨q, hq⟩ := exec_acqArm h ho hf hr
    obtain ⟨hframe, hregs, hchans⟩ :=
      (s.ordered n.val q).drawn.acqWrites_chanOnly ch.val [(F.ACQ_STAT_ARMED, 1), (F.ACQ_STAT_TRIGD, 0)] _
    exact ⟨_, _, hq, Nat.mod_lt _ (by decide), State.getF_acqWrites (n := 1), State.getF_acqWrites (n := 0),
      State.acq_acqWrites .., congrArg (fun a : State => { a with site := s.site, free := s.free }) hframe, hregs, hchans⟩
  · intro ch s ha hs hl
    exact ⟨_, exec_acqRecordDone ha hs hl, State.getF_acqWrites (n := 0), State.getF_acqWrites (n := 1),
      State.acq_acqWrites .., State.acqWrites_chanOnly ..⟩
  · intro n ch s u l h ho hu hl
    obtain ⟨q, hq⟩ := exec_acqForce h ho hu
    constructor
    · intro hnil
      rw [State.acqTrigger_of_ahead (s := s.ordered n.val q) (hl.symm.trans hnil)] at hq
      exact ⟨_, hq, State.acq_acqWrites .., (s.ordered_chanOrder ..).chanOnly (State.acqWrites_chanOnly ..)⟩
    · intro r off hr hoff hf hg
      obtain ⟨fr, beat, he⟩ := State.acqTrigger_of_fires (s := s.ordered n.val q) hl hr hoff hf hg
      obtain ⟨hacq, hidx, hlo, hhi⟩ := (s.ordered n.val q).recorded_spec ch.val u off fr beat
      rw [he] at hq
      exact ⟨_, hq, hacq, hidx, hlo, hhi, (s.ordered_chanOrder ..).chanOnly (State.acqWrites_chanOnly ..)⟩

end Sys2Proof.Machine
end

section
/-! SUPPORT. The keys that dropping entries of a table leaves out. -/

namespace Sys2Proof.Tbl

variable {α : Type} {d : Nat → α} {p : Nat × α → Bool} {k : Nat}

/-- A key all entries of which are dropped reads as unlisted. -/
theorem get_filter_dropped (h : ∀ v, p (k, v) = false) (m : Tbl α) : get d (m.filter p) k = d k := by
  induction m with
  | nil => rfl
  | cons e m ih =>
    obtain ⟨j, v⟩ := e
    cases hp : p (j, v) with
    | false => rw [List.filter_cons_of_neg (by simp [hp]), ih]
    | true =>
      have hj : j ≠ k := by
        rintro rfl
        simp [h v] at hp
      rw [List.filter_cons_of_pos hp, get, if_neg hj, ih]

/-- A key no entry of which is dropped reads as before. -/
theorem get_filter_kept (h : ∀ v, p (k, v) = true) (m : Tbl α) : get d (m.filter p) k = get d m k := by
  induction m with
  | nil => rfl
  | cons e m ih =>
    obtain ⟨j, v⟩ := e
    by_cases hj : j = k
    · subst hj
      rw [List.filter_cons_of_pos (h v), get, get, if_pos rfl, if_pos rfl]
    · cases hp : p (j, v) with
      | false => rw [List.filter_cons_of_neg (by simp [hp]), get, if_neg hj, ih]
      | true => rw [List.filter_cons_of_pos hp, get, get, if_neg hj, if_neg hj, ih]

end Sys2Proof.Tbl
end

section
/-! SUPPORT. CLR and EYE of a stopped acquisition (R220, R222). -/

namespace Sys2Proof.Machine

variable {s : State} {n : Fin 16} {ch : Fin 64} {c : Nat}

/-! ### CLR (R220) -/

section order

variable (h : s.hostFree n) (ho : s.ownsCh n.val ch.val = true)
include h ho

theorem exec_acqClr_starts (hc : (s.chanOf ch.val).acq.clearing = false) (hr : s.flag F.ACQ_CTL_RUN ch.val = false) :
    ∃ q, exec (.acqClr (.vf n) ch) s = .next ((s.ordered n.val q).acqWrites ch.val [(F.ACQ_EYER_VALID, 0)]
      fun a => { a with clearing := true, eye := false }) := by
  change ∃ q, execAcqClr (.vf n) ch s = _
  rw [execAcqClr, State.hostOrder_of_ownsCh h ho]
  exact ⟨_, (if_pos (by simp [State.fnOwns_of_ownsCh h ho, hc])).trans (if_neg (by simp [hr]))⟩

theorem exec_acqClr_rejected (hc : (s.chanOf ch.val).acq.clearing = false) (hr : s.flag F.ACQ_CTL_RUN ch.val = true) :
    ∃ q, exec (.acqClr (.vf n) ch) s = .next ((s.ordered n.val q).setF F.ACQ_STAT_CFG_REJ ch.val 1) := by
  change ∃ q, execAcqClr (.vf n) ch s = _
  rw [execAcqClr, State.hostOrder_of_ownsCh h ho]
  exact ⟨_, (if_pos (by simp [State.fnOwns_of_ownsCh h ho, hc])).trans (if_pos hr)⟩

theorem exec_acqClr_of_clearing (hc : (s.chanOf ch.val).acq.clearing = true) :
    ∃ q, exec (.acqClr (.vf n) ch) s = .next (s.ordered n.val q) := by
  change ∃ q, execAcqClr (.vf n) ch s = _
  rw [execAcqClr, State.hostOrder_of_ownsCh h ho]
  exact ⟨_, if_neg (by simp [hc])⟩

/-! ### EYE (R222) -/

theorem exec_acqEye_starts (he : (s.chanOf ch.val).acq.eye = false) (hr : s.flag F.ACQ_CTL_RUN ch.val = false)
    (ha : s.flag F.ACQ_STAT_ACTIVE ch.val = false) (hf : s.acqFunc ch.val = 1) :
    ∃ q, exec (.acqEye (.vf n) ch) s = .next ((s.ordered n.val q).acqWrites ch.val [(F.ACQ_EYER_VALID, 0)]
      fun a => { a with eye := true }) := by
  change ∃ q, execAcqEye (.vf n) ch s = _
  rw [execAcqEye, State.hostOrder_of_ownsCh h ho]
  exact ⟨_, (if_pos (by simp [State.fnOwns_of_ownsCh h ho, he])).trans (if_pos (by simp [hr, ha, hf]))⟩

theorem exec_acqEye_rejected (he : (s.chanOf ch.val).acq.eye = false)
    (hr : s.flag F.ACQ_CTL_RUN ch.val = true ∨ s.flag F.ACQ_STAT_ACTIVE ch.val = true ∨ s.acqFunc ch.val ≠ 1) :
    ∃ q, exec (.acqEye (.vf n) ch) s = .next ((s.ordered n.val q).setF F.ACQ_STAT_CFG_REJ ch.val 1) := by
  change ∃ q, execAcqEye (.vf n) ch s = _
  rw [execAcqEye, State.hostOrder_of_ownsCh h ho]
  refine ⟨_, (if_pos (by simp [State.fnOwns_of_ownsCh h ho, he])).trans (if_neg ?_)⟩
  simp only [State.flag_ordered, State.acqFunc_ordered, Bool.and_eq_true, Bool.not_eq_true', beq_iff_eq]
  rintro ⟨⟨hrun, hact⟩, hfunc⟩
  simp [hrun, hact, hfunc] at hr

end order

/-! ### The end of CLR (R220) -/

theorem State.acqByte_zeroSlot {b : Nat} (hb : b < 131072) (s : State) (c : Nat) : (s.zeroSlot c).acqByte c b = 0 := by
  have hin : c * 131072 ≤ c * 131072 + b ∧ c * 131072 + b < (c + 1) * 131072 := by omega
  exact Tbl.get_filter_dropped (fun _ => by simp [hin]) _

theorem State.get_zeroSlot_other {a : Nat} (ha : a < c * 131072 ∨ (c + 1) * 131072 ≤ a) (s : State) :
    Tbl.get (fun _ => (0 : Byte)) (s.zeroSlot c).acqMem a = Tbl.get (fun _ => 0) s.acqMem a := by
  refine Tbl.get_filter_kept (fun _ => ?_) _
  simp only [Bool.not_eq_true', Bool.and_eq_false_iff, decide_eq_false_iff_not]
  omega

theorem exec_acqClrDone (hc : (s.chanOf ch.val).acq.clearing = true) :
    exec (.acqClrDone ch) s = .next ((s.zeroSlot ch.val).acqWrites ch.val [(F.ACQ_PASS_PASS, 0), (F.ACQ_STAT_ROVPH, 0)]
      fun a => { a with clearing := false, phase := 0, settle := 4, dwell := 0 }) :=
  if_pos hc

/-! ### The open columns (R222) -/

/-- A front of `k` elements that satisfy `p`, which ends the list or is followed by one that does not, is all that is counted. -/
theorem runLen_eq {p : Nat → Bool} {l : List Nat} {k : Nat} (hk : k ≤ l.length)
    (hin : ∀ i x, i < k → l[i]? = some x → p x = true) (hend : ∀ x, l[k]? = some x → p x = false) : runLen p l = k := by
  induction l generalizing k with
  | nil => exact (Nat.le_zero.1 hk).symm
  | cons y l ih =>
    cases k with
    | zero => simp [runLen, hend y rfl]
    | succ k =>
      have hrest : runLen p l = k :=
        ih (Nat.le_of_succ_le_succ hk) (fun i x hi hx => hin (i + 1) x (by omega) hx) fun x hx => hend x hx
      rw [runLen, if_pos (hin 0 y (by omega) rfl), hrest, Nat.add_comm]

/-- The first column of the run of open columns that holds column 64. -/
def State.eyeLeft (s : State) (c : Nat) : Nat := 64 - runLen (s.eyeOpen c) (List.range 64).reverse

/-- The last column of the run of open columns that holds column 64. -/
def State.eyeRight (s : State) (c : Nat) : Nat := 64 + runLen (s.eyeOpen c) ((List.range 63).map fun k => k + 65)

theorem getElem?_columnsBelow {i x : Nat} : (List.range 64).reverse[i]? = some x ↔ i < 64 ∧ x = 63 - i := by
  rw [List.getElem?_eq_some_iff]
  simp [eq_comm]

theorem getElem?_columnsAbove {i x : Nat} : ((List.range 63).map fun k => k + 65)[i]? = some x ↔ i < 63 ∧ x = i + 65 := by
  rw [List.getElem?_eq_some_iff]
  simp [eq_comm]

theorem State.eyeLeft_eq {l : Nat} (hl : l ≤ 64) (hin : ∀ p, l ≤ p → p ≤ 64 → s.eyeOpen c p = true)
    (hend : l = 0 ∨ s.eyeOpen c (l - 1) = false) : s.eyeLeft c = l := by
  have hlen : runLen (s.eyeOpen c) (List.range 64).reverse = 64 - l := by
    refine runLen_eq (by simp) (fun i x hi hx => ?_) fun x hx => ?_ <;> obtain ⟨hlt, rfl⟩ := getElem?_columnsBelow.1 hx
    · exact hin _ (by omega) (by omega)
    · rw [show 63 - (64 - l) = l - 1 by omega]
      exact hend.resolve_left (by omega)
  rw [State.eyeLeft, hlen]
  omega

theorem State.eyeRight_eq {r : Nat} (h64 : 64 ≤ r) (hr : r ≤ 127) (hin : ∀ p, 64 ≤ p → p ≤ r → s.eyeOpen c p = true)
    (hend : r = 127 ∨ s.eyeOpen c (r + 1) = false) : s.eyeRight c = r := by
  have hlen : runLen (s.eyeOpen c) ((List.range 63).map fun k => k + 65) = r - 64 := by
    refine runLen_eq (by simp; omega) (fun i x hi hx => ?_) fun x hx => ?_ <;> obtain ⟨hlt, rfl⟩ := getElem?_columnsAbove.1 hx
    · exact hin _ (by omega) (by omega)
    · rw [show r - 64 + 65 = r + 1 by omega]
      exact hend.resolve_left (by omega)
  rw [State.eyeRight, hlen]
  omega

/-! ### The end of EYE (R222) -/

/-- The registers of an eye from column `l` to column `r` that is `w` wide. -/
def eyeRegs (l r w : Nat) : List (Fld × Nat) :=
  [(F.ACQ_EYER_LEFT, l), (F.ACQ_EYER_RIGHT, r), (F.ACQ_EYER_WIDTH, w), (F.ACQ_EYER_VALID, 1)]

/-- EYE has ended, and the registers show its result. -/
def State.eyeShown (s : State) (c l r w : Nat) : State := (s.modAcq c fun q => { q with eye := false }).setFs c (eyeRegs l r w)

theorem State.eyeShown_chanOnly (s : State) (c l r w : Nat) :
    ChanOnly c (keysAt c [F.ACQ_EYER_LEFT, F.ACQ_EYER_RIGHT, F.ACQ_EYER_WIDTH, F.ACQ_EYER_VALID]) s (s.eyeShown c l r w) :=
  (ChanOnly.refl c _ s).modAcq.setFs (by simp [keysAt, eyeRegs])

theorem State.eyeShown_spec (s : State) (c l r w : Nat) :
    (s.eyeShown c l r w).getF F.ACQ_EYER_LEFT c = l % 128 ∧ (s.eyeShown c l r w).getF F.ACQ_EYER_RIGHT c = r % 128 ∧
      (s.eyeShown c l r w).getF F.ACQ_EYER_WIDTH c = w % 2 ^ F.ACQ_EYER_WIDTH.width ∧
      (s.eyeShown c l r w).getF F.ACQ_EYER_VALID c = 1 ∧
      ((s.eyeShown c l r w).chanOf c).acq = { (s.chanOf c).acq with eye := false } := by
  have hget {f : Fld} {k : Nat} (hp : (f, k) ∈ eyeRegs l r w) : (s.eyeShown c l r w).getF f c = k % 2 ^ f.width :=
    State.getF_setFs_mem hp (by simp only [eyeRegs, List.map_cons, List.map_nil]; decide) c
  refine ⟨hget (by simp [eyeRegs]), hget (by simp [eyeRegs]), hget (by simp [eyeRegs]), hget (k := 1) (by simp [eyeRegs]), ?_⟩
  rw [State.eyeShown, State.chanOf_setFs, State.chanOf_modAcq_acq]

theorem exec_acqEyeDone_open (he : (s.chanOf ch.val).acq.eye = true) (ho : s.eyeOpen ch.val 64 = true) :
    exec (.acqEyeDone ch) s = .next (s.eyeShown ch.val (s.eyeLeft ch.val) (s.eyeRight ch.val)
      (s.eyeRight ch.val - s.eyeLeft ch.val + 1)) :=
  (if_pos he).trans (if_pos ho)

theorem exec_acqEyeDone_closed (he : (s.chanOf ch.val).acq.eye = true) (ho : s.eyeOpen ch.val 64 = false) :
    exec (.acqEyeDone ch) s = .next (s.eyeShown ch.val 0 0 0) :=
  (if_pos he).trans (if_neg (by simp [ho]))

/-- What the end of EYE shows. -/
theorem acqEyeDone_spec (he : (s.chanOf ch.val).acq.eye = true) : ∃ t, exec (.acqEyeDone ch) s = .next t ∧
    t.getF F.ACQ_EYER_VALID ch.val = 1 ∧ (t.chanOf ch.val).acq = { (s.chanOf ch.val).acq with eye := false } ∧
    (s.eyeOpen ch.val 64 = false → t.getF F.ACQ_EYER_WIDTH ch.val = 0) ∧
    (∀ l r, l ≤ 64 → 64 ≤ r → r ≤ 127 → (∀ p, l ≤ p → p ≤ r → s.eyeOpen ch.val p = true) →
      (l = 0 ∨ s.eyeOpen ch.val (l - 1) = false) → (r = 127 ∨ s.eyeOpen ch.val (r + 1) = false) →
      t.getF F.ACQ_EYER_LEFT ch.val = l ∧ t.getF F.ACQ_EYER_RIGHT ch.val = r ∧
        t.getF F.ACQ_EYER_WIDTH ch.val = (r - l + 1) % 2 ^ F.ACQ_EYER_WIDTH.width) ∧
    ChanOnly ch.val (keysAt ch.val [F.ACQ_EYER_LEFT, F.ACQ_EYER_RIGHT, F.ACQ_EYER_WIDTH, F.ACQ_EYER_VALID]) s t := by
  cases ho : s.eyeOpen ch.val 64 with
  | false =>
    obtain ⟨-, -, hwidth, hvalid, hacq⟩ := s.eyeShown_spec ch.val 0 0 0
    refine ⟨_, exec_acqEyeDone_closed he ho, hvalid, hacq, fun _ => hwidth, fun l r hl hr _ hin => ?_, s.eyeShown_chanOnly ..⟩
    simp [hin 64 hl hr] at ho
  | true =>
    obtain ⟨hleft, hright, hwidth, hvalid, hacq⟩ := s.eyeShown_spec ch.val (s.eyeLeft ch.val) (s.eyeRight ch.val)
      (s.eyeRight ch.val - s.eyeLeft ch.val + 1)
    refine ⟨_, exec_acqEyeDone_open he ho, hvalid, hacq, fun h => by (cases h), fun l r hl h64 hr hin hlend hrend => ?_,
      s.eyeShown_chanOnly ..⟩
    have hel : s.eyeLeft ch.val = l := State.eyeLeft_eq hl (fun p hp hp' => hin p hp (by omega)) hlend
    have her : s.eyeRight ch.val = r := State.eyeRight_eq h64 hr (fun p hp hp' => hin p (by omega) hp') hrend
    rw [hleft, hright, hwidth, hel, her]
    exact ⟨Nat.mod_eq_of_lt (by omega), Nat.mod_eq_of_lt (by omega), rfl⟩

/-- Settles O37: CLR and EYE either start or are rejected, the end of CLR drops the slot's bytes, and the end of EYE counts the open
columns on each side of column 64. -/
theorem acquisitionClears : Obligations.AcquisitionClears := by
  unfold Obligations.AcquisitionClears
  refine ⟨fun n ch s h ho => ⟨?_, ?_, ?_, ?_, ?_⟩, ?_, fun ch s he => acqEyeDone_spec he⟩
  · intro hc hr
    obtain ⟨q, hq⟩ := exec_acqClr_starts h ho hc hr
    exact ⟨_, hq, State.acq_acqWrites .., State.getF_acqWrites (n := 0),
      (s.ordered_chanOrder ..).chanOnly (State.acqWrites_chanOnly ..)⟩
  · intro hc hr
    obtain ⟨q, hq⟩ := exec_acqClr_rejected h ho hc hr
    exact ⟨_, hq, State.getF_setF_same .., (s.ordered_siteOnly ..).setF (List.mem_singleton_self _)⟩
  · intro hc
    obtain ⟨q, hq⟩ := exec_acqClr_of_clearing h ho hc
    exact ⟨_, hq, s.ordered_siteOnly ..⟩
  · intro he hr ha hf
    obtain ⟨q, hq⟩ := exec_acqEye_starts h ho he hr ha hf
    exact ⟨_, hq, State.acq_acqWrites .., State.getF_acqWrites (n := 0),
      (s.ordered_chanOrder ..).chanOnly (State.acqWrites_chanOnly ..)⟩
  · intro he hr
    obtain ⟨q, hq⟩ := exec_acqEye_rejected h ho he hr
    exact ⟨_, hq, State.getF_setF_same .., (s.ordered_siteOnly ..).setF (List.mem_singleton_self _)⟩
  · intro ch s hc
    obtain ⟨hframe, hregs, -⟩ := (s.zeroSlot ch.val).acqWrites_chanOnly ch.val [(F.ACQ_PASS_PASS, 0), (F.ACQ_STAT_ROVPH, 0)]
      fun a => { a with clearing := false, phase := 0, settle := 4, dwell := 0 }
    exact ⟨_, exec_acqClrDone hc, fun b hb => s.acqByte_zeroSlot hb .., fun a ha => s.get_zeroSlot_other ha,
      State.acq_acqWrites .., State.getF_acqWrites (n := 0), State.getF_acqWrites (n := 0),
      congrArg (fun a : State => { a with acqMem := s.acqMem }) hframe, hregs⟩

end Sys2Proof.Machine
end

section
/-! SUPPORT. The TDC of one channel under the updates of the state, and the runs that an edge which leaves the list keeps (R228 to R232). -/

namespace Sys2Proof.Machine

variable {w : List Nat} {c d i n st : Nat} {s t : State} {f : TdcSt → TdcSt} {k : TdcSt}

/-! ### The TDC of one channel -/

@[simp] theorem State.getF_modTdc (s : State) (c : Nat) (f : TdcSt → TdcSt) (g : Fld) (i : Nat) :
    (s.modTdc c f).getF g i = s.getF g i := rfl

theorem State.tdc_modTdc_same (s : State) (c : Nat) (f : TdcSt → TdcSt) :
    ((s.modTdc c f).chanOf c).tdc = f (s.chanOf c).tdc := by
  rw [State.modTdc, State.chanOf_modChan_same]

theorem State.chanOf_modTdc_other (h : d ≠ c) : (s.modTdc c f).chanOf d = s.chanOf d :=
  State.chanOf_modChan_other h

theorem ChanOnly.modTdc (h : ChanOnly c w s t) : ChanOnly c w s (t.modTdc c f) := h.modChan

theorem State.getF_tdcDisc (h : t.getF F.OCT_TDCDISC_DISC (chIx c) = s.getF F.OCT_TDCDISC_DISC (chIx c)) :
    (t.tdcDisc c).getF F.OCT_TDCDISC_DISC (chIx c) = (s.getF F.OCT_TDCDISC_DISC (chIx c) + 1) % 2 ^ F.OCT_TDCDISC_DISC.width := by
  rw [State.tdcDisc, State.getF_incF_same, h]

/-- Between `s` and `t` nothing changes but the register fields whose keys are in `w` and channel `c`, whose TDC is then `k`. -/
def TdcBecomes (c : Nat) (w : List Nat) (s t : State) (k : TdcSt) : Prop := (t.chanOf c).tdc = k ∧ ChanOnly c w s t

theorem TdcBecomes.refl (c : Nat) (w : List Nat) (s : State) : TdcBecomes c w s s (s.chanOf c).tdc := ⟨rfl, .refl c w s⟩

theorem TdcBecomes.setF (h : TdcBecomes c w s t k) {g : Fld} (hk : g.key i ∈ w) : TdcBecomes c w s (t.setF g i n) k :=
  ⟨h.1, h.2.setF hk⟩

theorem TdcBecomes.setFs (h : TdcBecomes c w s t k) {l : List (Fld × Nat)} (hk : ∀ p ∈ l, p.1.key i ∈ w) :
    TdcBecomes c w s (t.setFs i l) k :=
  ⟨by rw [State.chanOf_setFs, h.1], h.2.setFs hk⟩

theorem TdcBecomes.tdcDisc (h : TdcBecomes c w s t k) (hk : F.OCT_TDCDISC_DISC.key (chIx c) ∈ w) :
    TdcBecomes c w s (t.tdcDisc c) k := h.setF hk

theorem TdcBecomes.modTdc (h : TdcBecomes c w s t k) : TdcBecomes c w s (t.modTdc c f) (f k) :=
  ⟨by rw [State.tdc_modTdc_same, h.1], h.2.modTdc⟩

/-! ### The runs (R229, R232) -/

/-- Registers are the same in both states, and so is the TDC of every channel, its list of edges and its latest stamp apart. -/
structure SameRuns (s t : State) : Prop where
  reg : t.reg = s.reg
  tdc : ∀ d, { (t.chanOf d).tdc with edges := [], last := none } = { (s.chanOf d).tdc with edges := [], last := none }

theorem SameRuns.refl (s : State) : SameRuns s s := ⟨rfl, fun _ => rfl⟩

theorem SameRuns.modTdc (h : SameRuns s t)
    (hf : ∀ k, { f k with edges := [], last := none } = { k with edges := [], last := none } := by intro; rfl) :
    SameRuns s (t.modTdc c f) where
  reg := h.reg
  tdc d := by
    by_cases hd : d = c
    · rw [hd, State.tdc_modTdc_same, hf, h.tdc]
    · rw [State.chanOf_modTdc_other hd, h.tdc]

/-- What does not depend on the list of edges and the latest stamp reads the same. -/
theorem SameRuns.read (h : SameRuns s t) {α : Type} (g : TdcSt → α) (d : Nat)
    (hg : ∀ k, g { k with edges := [], last := none } = g k := by intro; rfl) : g (t.chanOf d).tdc = g (s.chanOf d).tdc := by
  rw [← hg, h.tdc, hg]

theorem SameRuns.getF (h : SameRuns s t) (g : Fld) (i : Nat) : t.getF g i = s.getF g i := by
  rw [State.getF, h.reg, State.getF]

theorem SameRuns.tdcCfg (h : SameRuns s t) (d : Nat) : t.tdcCfg d = s.tdcCfg d := by
  simp only [State.tdcCfg, h.read TdcSt.cfg d, h.getF]

theorem SameRuns.meas (h : SameRuns s t) (d : Nat) : t.meas d = s.meas d := congrArg Prod.fst (h.tdcCfg d)

theorem SameRuns.takes (h : SameRuns s t) (d st : Nat) : (t.chanOf d).tdc.takes st = (s.chanOf d).tdc.takes st :=
  h.read (TdcSt.takes · st) d

theorem SameRuns.gateEnd (h : SameRuns s t) (d : Nat) : t.gateEnd d = s.gateEnd d := by
  simp only [State.gateEnd, State.gateLen, h.tdcCfg, h.read TdcSt.t0 d, h.read TdcSt.gate d]

theorem SameRuns.stopsFor (h : SameRuns s t) (d : Nat) : t.stopsFor d = s.stopsFor d := by
  have howns (x e : Nat) : t.ownsCh x e = s.ownsCh x e := by
    simp only [State.ownsCh, State.present, State.chm, State.map, h.getF]
  have howner : t.owner d = s.owner d := by simp only [State.owner, howns]
  have hread (e : Nat) : (t.chanOf e).tdc.run = (s.chanOf e).tdc.run := h.read TdcSt.run e
  simp only [State.stopsFor, State.siteChans, howner, howns, h.meas, h.tdcCfg, hread]

end Sys2Proof.Machine
end

section
/-! SUPPORT. A stamped edge: whether it is one for any run, and the intervals and the measurement that it serves (R228 to R231). -/

namespace Sys2Proof.Machine

variable {w : List Nat} {c d st p : Nat} {s t : State} {k : TdcSt} {wm v stopped : Bool} {rest : List (Time × Bool)}

/-! ### The edge (R229) -/

/-- The edges of a channel that wait are `rest`. -/
def State.edgesLeft (s : State) (c : Nat) (rest : List (Time × Bool)) : State := s.modTdc c fun k => { k with edges := rest }

/-- The first edge has left the list, stamped `st`. -/
def State.edgeStamped (s : State) (c : Nat) (rest : List (Time × Bool)) (st : Nat) : State :=
  (s.edgesLeft c rest).modTdc c fun k => { k with last := some st }

/-- The first edge has left the list, skipped under the dead time. -/
def State.edgeSkipped (s : State) (c : Nat) (rest : List (Time × Bool)) (wm : Bool) : State :=
  ((s.edgesLeft c rest).incF F.OCT_TDCSKIP_SKIP (chIx c)).modTdc c fun k =>
    { k with gSince := k.gSince + 1, gSWarm := k.gSWarm || wm }

theorem State.edgesLeft_sameRuns (s : State) (c : Nat) (rest : List (Time × Bool)) : SameRuns s (s.edgesLeft c rest) :=
  (SameRuns.refl s).modTdc

theorem State.edgeStamped_sameRuns (s : State) (c : Nat) (rest : List (Time × Bool)) (st : Nat) :
    SameRuns s (s.edgeStamped c rest st) :=
  (s.edgesLeft_sameRuns c rest).modTdc

/-- A stamp serves the channel's own run, or that of a channel whose interval the channel stops. -/
def State.edgeServes (s : State) (c st : Nat) : Prop :=
  (s.chanOf c).tdc.takes st = true ∨ ∃ d ∈ s.stopsFor c, (s.chanOf d).tdc.takes st = true

/-- Does a stamp lie in the dead time after the latest one (R229)? -/
def TdcSt.dead (k : TdcSt) (st : Nat) : Bool := k.last.any fun l => decide (st < l + 4096)

theorem TdcSt.dead_eq_false (h : ∀ l, k.last = some l → l + 4096 ≤ st) : k.dead st = false :=
  (Option.any_eq_false ..).2 fun l hl => by simpa using h l hl

section edge

variable {ch : Fin 64} {fine : Nat} {tm : Time} (he : (s.chanOf ch.val).tdc.edges = (tm, wm) :: rest) (hst : st = stampOf tm fine)
include he hst

/-- An edge whose stamp serves nothing leaves the list, and that is all. -/
theorem exec_tdcStamp_unserved (hn : ¬s.edgeServes ch.val st) :
    exec (.tdcStamp ch fine) s = .next (s.edgesLeft ch.val rest) := by
  have h0 := s.edgesLeft_sameRuns ch.val rest
  obtain ⟨hown, hstops⟩ := not_or.1 hn
  have hcond : (!((s.edgesLeft ch.val rest).chanOf ch.val).tdc.takes st && ((s.edgesLeft ch.val rest).stopsFor ch.val).all
      fun d => !((s.edgesLeft ch.val rest).chanOf d).tdc.takes st) = true := by
    simpa [h0.takes, h0.stopsFor, hown] using hstops
  subst hst
  change execTdcStamp ch fine s = _
  rw [execTdcStamp, he]
  exact if_pos hcond

/-- An edge that serves, with no gate that ends before it, is skipped in the dead time; outside it the edge is stamped, for the intervals
that it stops and for the channel's own measurement. -/
theorem exec_tdcStamp_served (hs : s.edgeServes ch.val st)
    (hg : (s.chanOf ch.val).tdc.takes st = true → s.meas ch.val = 3 → st < s.gateEnd ch.val) :
    exec (.tdcStamp ch fine) s = .next (if (s.chanOf ch.val).tdc.dead st then s.edgeSkipped ch.val rest wm
      else ((s.edgeStamped ch.val rest st).tdcStops ch.val st wm).tdcOwn ch.val st wm
        ((s.edgeStamped ch.val rest st).tdcOwnStop ch.val st)) := by
  have h0 := s.edgesLeft_sameRuns ch.val rest
  have hcond : ¬(!((s.edgesLeft ch.val rest).chanOf ch.val).tdc.takes st && ((s.edgesLeft ch.val rest).stopsFor ch.val).all
      fun d => !((s.edgesLeft ch.val rest).chanOf d).tdc.takes st) = true := by
    simpa [h0.takes, h0.stopsFor, State.edgeServes, or_iff_not_imp_left] using hs
  have hgate : (if ((s.edgesLeft ch.val rest).chanOf ch.val).tdc.takes st && (s.edgesLeft ch.val rest).meas ch.val == 3 then
      (s.edgesLeft ch.val rest).gatesTo ch.val st else s.edgesLeft ch.val rest) = s.edgesLeft ch.val rest := by
    refine ite_eq_right_iff.2 fun h => if_pos (.inr ?_)
    obtain ⟨ht, hm⟩ := Bool.and_eq_true_iff.1 h
    rw [h0.gateEnd]
    exact hg ((h0.takes _ _).symm.trans ht) ((h0.meas _).symm.trans (beq_iff_eq.1 hm))
  have hlast : ((s.edgesLeft ch.val rest).chanOf ch.val).tdc.last = (s.chanOf ch.val).tdc.last := by
    rw [State.edgesLeft, State.tdc_modTdc_same]
  subst hst
  change execTdcStamp ch fine s = _
  rw [execTdcStamp, he, apply_ite Host.Outcome.next, TdcSt.dead]
  unfold State.edgesLeft at hcond hgate hlast
  simp only [hgate, if_neg hcond, hlast]
  cases (s.chanOf ch.val).tdc.last <;> rfl

end edge

/-! ### Values (R230, R231) -/

/-- The accumulators of `k` with the value `n` taken, where `ref` is the reference of the squares (R231). -/
def tdcValued (k : TdcSt) (ref n : Nat) (wm : Bool) : TdcSt :=
  { k with
    cnt := satAt 32 (k.cnt + 1), sum := (k.sum + n) % 2 ^ 64, sq := satAt 64 (k.sq + ((n : Int) - ref).natAbs ^ 2),
    min := min k.min n, max := max k.max n, warm := k.warm || wm }

/-- A value that completes updates the accumulators, and SQSAT where the squares overflow. -/
theorem TdcBecomes.tdcValue (h : TdcBecomes c w s t k) (hw : F.OCT_TDCSTAT_SQSAT.key (chIx c) ∈ w)
    (href : t.getF F.OCT_TDCREF_REF (chIx c) = s.getF F.OCT_TDCREF_REF (chIx c)) (n : Nat) (wm : Bool) :
    TdcBecomes c w s (t.tdcValue c n wm) (tdcValued k (s.getF F.OCT_TDCREF_REF (chIx c)) n wm) := by
  obtain rfl := h.1
  have hmin : min (t.chanOf c).tdc.min n = if n < (t.chanOf c).tdc.min then n else (t.chanOf c).tdc.min := by split <;> omega
  have hmax : max (t.chanOf c).tdc.max n = if (t.chanOf c).tdc.max < n then n else (t.chanOf c).tdc.max := by split <;> omega
  rw [tdcValued, hmin, hmax, Nat.pow_two, ← href]
  unfold State.tdcValue
  extract_lets _ _ _ s1
  have h1 : TdcBecomes c w s s1 _ := h.modTdc
  split
  · exact h1.setF hw
  · exact h1

theorem State.tdcSpan_of_le (h : st - p ≤ 68719476735) : s.tdcSpan c p st wm = s.tdcValue c (st - p) wm := if_pos h

theorem State.tdcSpan_of_lt (h : 68719476735 < st - p) : s.tdcSpan c p st wm = s.tdcDisc c := if_neg (Nat.not_le.2 h)

/-! ### The intervals that an edge stops (R230) -/

theorem State.tdcStops_of_stopsFor_nil (h : s.stopsFor c = []) : s.tdcStops c st wm = s := by
  rw [State.tdcStops, h, List.foldl_nil]

/-- An edge stops the one interval that waits for its channel. -/
theorem State.tdcStops_of_stopsFor_singleton (h : s.stopsFor c = [d]) (hs : (s.chanOf d).tdc.start = some (p, v)) (hp : p < st)
    (hb : (s.chanOf d).tdc.before st = true) :
    s.tdcStops c st wm = (s.modTdc d fun k => { k with start := none }).tdcSpan d p st (v || wm) := by
  simp only [State.tdcStops, h, List.foldl_cons, List.foldl_nil, hs]
  exact if_pos ⟨hp, hb⟩

theorem State.tdcOwnStop_of_stopsFor_nil (h : s.stopsFor c = []) : s.tdcOwnStop c st = false := by
  rw [State.tdcOwnStop, h]
  rfl

/-! ### The channel's own measurement (R230) -/

theorem State.tdcOwn_of_not_takes (h : (s.chanOf c).tdc.takes st = false) : s.tdcOwn c st wm stopped = s := if_pos (by rw [h]; rfl)

section own

variable (h : (s.chanOf c).tdc.takes st = true)
include h

theorem State.tdcOwn_period (hm : s.meas c = 2) (hs : (s.chanOf c).tdc.start = some (p, v)) :
    s.tdcOwn c st wm stopped = (s.modTdc c fun k => { k with start := some (st, wm) }).tdcSpan c p st (v || wm) := by
  simp only [State.tdcOwn, h, hm, hs]
  rfl

theorem State.tdcOwn_first (hm : s.meas c = 1 ∨ s.meas c = 2) (hs : (s.chanOf c).tdc.start = none) :
    s.tdcOwn c st wm false = s.modTdc c fun k => { k with start := some (st, wm) } := by
  obtain hm | hm := hm <;> simp only [State.tdcOwn, h, hm, hs] <;> rfl

end own

/-- One more edge is stamped in an open gate. -/
def TdcSt.gateEdge (k : TdcSt) (st : Nat) (wm : Bool) : TdcSt :=
  { k with gLast := st, gStamps := k.gStamps + 1, gEdges := k.gEdges + k.gSince + 1, gSince := 0, gSWarm := false,
           gWarm := k.gWarm || k.gSWarm || wm }

theorem TdcBecomes.tdcOwn_gate (h : TdcBecomes c w s t k) (ht : k.takes st = true) (hm : t.meas c = 3) {n : Nat}
    (hf : k.gFirst = some n) : TdcBecomes c w s (t.tdcOwn c st wm stopped) (k.gateEdge st wm) := by
  obtain rfl := h.1
  simp only [State.tdcOwn, ht, hm, Bool.not_true, Bool.false_eq_true, if_false]
  refine ⟨?_, h.2.modTdc⟩
  rw [State.tdc_modTdc_same, hf, TdcSt.gateEdge, hf]

end Sys2Proof.Machine
end

section
/-! SUPPORT. The end of a gate, a start without a stop, and the edges of a measurement (R228 to R231). -/

namespace Sys2Proof.Machine

variable {ch : Fin 64} {s : State} {c d st p fine : Nat} {tm : Time} {wm v : Bool} {rest : List (Time × Bool)}

/-! ### The end of a gate (R230, R231) -/

/-- The next gate is open, without an edge. -/
def TdcSt.nextGate (k : TdcSt) : TdcSt := { k.noGate with gate := k.gate + 1 }

theorem State.gateClose_of_dead (h : (s.chanOf c).tdc.gDead = true) : s.gateClose c = s.modTdc c TdcSt.nextGate := if_pos h

theorem State.gateClose_of_few (hd : (s.chanOf c).tdc.gDead = false)
    (h : (s.chanOf c).tdc.gFirst = none ∨ (s.chanOf c).tdc.gStamps < 2) :
    s.gateClose c = (s.modTdc c TdcSt.nextGate).tdcDisc c := by
  cases hn : (s.chanOf c).tdc.gFirst with
  | none =>
    simp only [State.gateClose, hd, hn]
    rfl
  | some n =>
    have hlt : (s.chanOf c).tdc.gStamps < 2 := h.resolve_left (by simp [hn])
    simp only [State.gateClose, hd, hn, if_neg (Nat.not_le.2 hlt)]
    rfl

theorem State.gateClose_of_counted (hd : (s.chanOf c).tdc.gDead = false) {n : Nat} (hn : (s.chanOf c).tdc.gFirst = some n)
    (h : 2 ≤ (s.chanOf c).tdc.gStamps) :
    s.gateClose c = (s.modTdc c TdcSt.nextGate).modTdc c fun k => { k with
      cnt := satAt 32 (k.cnt + 1), sum := (k.sum + ((s.chanOf c).tdc.gLast - n)) % 2 ^ 64,
      ecnt := (k.ecnt + (s.chanOf c).tdc.gEdges) % 2 ^ 64, warm := k.warm || (s.chanOf c).tdc.gWarm } := by
  simp only [State.gateClose, hd, hn, if_pos h]
  rfl

theorem exec_tdcGateEnd (hr : (s.chanOf ch.val).tdc.run = true) (hm : s.meas ch.val = 3)
    (hb : (s.chanOf ch.val).tdc.before (s.gateEnd ch.val) = true) (hp : s.gateEnd ch.val ≤ s.stampNow ch.val)
    (he : (s.chanOf ch.val).tdc.edges.all (fun p => decide (s.gateEnd ch.val ≤ p.1 / 8388608000)) = true) :
    exec (.tdcGateEnd ch) s = .next (s.gateClose ch.val) :=
  if_pos (by rw [hr, hm, hb, he, decide_eq_true hp]; rfl)

/-! ### A start without a stop (R230) -/

theorem exec_tdcStartTimeout {p : Nat} (hs : (s.chanOf ch.val).tdc.start = some (p, wm)) (hm : s.meas ch.val = 1)
    (hp : p + 68719476735 < s.stampNow ch.val)
    (he : (s.chanOf (s.tdcCfg ch.val).2.1).tdc.edges.all (fun q => decide (p + 68719476735 < q.1 / 8388608000)) = true) :
    exec (.tdcStartTimeout ch) s = .next ((s.modTdc ch.val fun k => { k with start := none }).tdcDisc ch.val) := by
  change execTdcStartTimeout ch s = _
  rw [execTdcStartTimeout, hs]
  exact if_pos (by rw [hm, tdcMax, decide_eq_true hp, he]; rfl)

/-! ### A stamped edge of one measurement (R230) -/

theorem State.edgesLeft_becomes (s : State) (c : Nat) (rest : List (Time × Bool)) (w : List Nat) :
    TdcBecomes c w s (s.edgesLeft c rest) { (s.chanOf c).tdc with edges := rest } :=
  (TdcBecomes.refl c w s).modTdc

theorem State.edgeStamped_becomes (s : State) (c : Nat) (rest : List (Time × Bool)) (st : Nat) (w : List Nat) :
    TdcBecomes c w s (s.edgeStamped c rest st) { (s.chanOf c).tdc with edges := rest, last := some st } :=
  (s.edgesLeft_becomes c rest w).modTdc

/-- A stamped edge starts an interval or a period. -/
theorem State.edgeStarts_becomes (s : State) (c : Nat) (rest : List (Time × Bool)) (st : Nat) (wm : Bool) (w : List Nat) :
    TdcBecomes c w s ((s.edgeStamped c rest st).modTdc c fun k => { k with start := some (st, wm) })
      { (s.chanOf c).tdc with edges := rest, last := some st, start := some (st, wm) } :=
  (s.edgeStamped_becomes c rest st w).modTdc

theorem State.getF_edgeStarts (s : State) (c : Nat) (rest : List (Time × Bool)) (st : Nat) (f : TdcSt → TdcSt) (g : Fld) (i : Nat) :
    ((s.edgeStamped c rest st).modTdc c f).getF g i = s.getF g i := by
  rw [State.getF_modTdc, (s.edgeStamped_sameRuns c rest st).getF]

theorem State.edgeSkipped_becomes (s : State) (c : Nat) (rest : List (Time × Bool)) (wm : Bool) :
    TdcBecomes c [F.OCT_TDCSKIP_SKIP.key (chIx c)] s (s.edgeSkipped c rest wm) { (s.chanOf c).tdc with
      edges := rest, gSince := (s.chanOf c).tdc.gSince + 1, gSWarm := (s.chanOf c).tdc.gSWarm || wm } :=
  ((s.edgesLeft_becomes c rest _).setF (List.mem_singleton_self _)).modTdc

/-- The interval that waits for a stop takes its value, and nothing waits then. -/
theorem State.intervalStopped_becomes (s : State) (d n : Nat) (wm : Bool) :
    TdcBecomes d [F.OCT_TDCSTAT_SQSAT.key (chIx d)] s ((s.modTdc d fun k => { k with start := none }).tdcValue d n wm)
      (tdcValued { (s.chanOf d).tdc with start := none } (s.getF F.OCT_TDCREF_REF (chIx d)) n wm) :=
  (TdcBecomes.refl d _ s).modTdc.tdcValue (List.mem_singleton_self _) (State.getF_modTdc ..) n wm

theorem State.getF_edgeSkipped (s : State) (c : Nat) (rest : List (Time × Bool)) (wm : Bool) :
    (s.edgeSkipped c rest wm).getF F.OCT_TDCSKIP_SKIP (chIx c) =
      (s.getF F.OCT_TDCSKIP_SKIP (chIx c) + 1) % 2 ^ F.OCT_TDCSKIP_SKIP.width :=
  State.getF_incF_same ..

section own

variable (he : (s.chanOf ch.val).tdc.edges = (tm, wm) :: rest) (hst : st = stampOf tm fine)
  (hl : ∀ l, (s.chanOf ch.val).tdc.last = some l → l + 4096 ≤ st)
include he hst hl

/-- An edge of a channel that stops no interval is one of its own measurement alone. -/
theorem exec_tdcStamp_own (ht : (s.chanOf ch.val).tdc.takes st = true) (hn : s.stopsFor ch.val = [])
    (hg : s.meas ch.val = 3 → st < s.gateEnd ch.val) :
    exec (.tdcStamp ch fine) s = .next ((s.edgeStamped ch.val rest st).tdcOwn ch.val st wm false) := by
  have hn' : (s.edgeStamped ch.val rest st).stopsFor ch.val = [] := ((s.edgeStamped_sameRuns ch.val rest st).stopsFor _).trans hn
  rw [exec_tdcStamp_served he hst (.inl ht) (fun _ => hg), TdcSt.dead_eq_false hl, if_neg Bool.false_ne_true,
    State.tdcStops_of_stopsFor_nil hn', State.tdcOwnStop_of_stopsFor_nil hn']

/-- An edge outside its channel's own run completes the interval that it stops. -/
theorem exec_tdcStamp_stop (hr : (s.chanOf ch.val).tdc.run = false) (hd : d ≠ ch.val) (hn : s.stopsFor ch.val = [d])
    (hs : (s.chanOf d).tdc.start = some (p, v)) (hp : p < st) (ht : (s.chanOf d).tdc.takes st = true)
    (hmax : st - p ≤ 68719476735) :
    exec (.tdcStamp ch fine) s =
      .next (((s.edgeStamped ch.val rest st).modTdc d fun k => { k with start := none }).tdcValue d (st - p) (v || wm)) := by
  have hruns := s.edgeStamped_sameRuns ch.val rest st
  have hchan : (s.edgeStamped ch.val rest st).chanOf d = s.chanOf d := (s.edgeStamped_becomes ch.val rest st []).2.2.2 d hd
  have hown : (s.chanOf ch.val).tdc.takes st = false := by rw [TdcSt.takes, hr]; rfl
  have hserves : s.edgeServes ch.val st := .inr ⟨d, by rw [hn]; exact List.mem_singleton_self _, ht⟩
  rw [exec_tdcStamp_served he hst hserves (fun h => by simp [hown] at h), TdcSt.dead_eq_false hl, if_neg Bool.false_ne_true,
    State.tdcStops_of_stopsFor_singleton ((hruns.stopsFor _).trans hn) (hchan ▸ hs) hp
      (hchan ▸ (Bool.and_eq_true_iff.1 ht).2), State.tdcSpan_of_le hmax, State.tdcOwn_of_not_takes]
  obtain ⟨-, -, -, hkept⟩ := (s.edgeStamped ch.val rest st).intervalStopped_becomes d (st - p) (v || wm)
  rw [hkept ch.val hd.symm, hruns.takes, hown]

end own

end Sys2Proof.Machine
end

section
/-! SUPPORT. What TDC edges, gates and starts settle (R228 to R231). -/

namespace Sys2Proof.Machine

/-- Settles O38: an edge is nothing, skipped or stamped, a stamped one is a value, a start, a stop or an edge of the open gate, and what
finds no end in time is discarded. -/
theorem tdcMeasures : Obligations.TdcMeasures := by
  unfold Obligations.TdcMeasures
  refine ⟨fun ch fine st tm w rest s he hst => ⟨?_, ?_, ?_, ?_⟩, ?_, ?_⟩
  · intro l hm hl hd hs
    have hdead : (s.chanOf ch.val).tdc.dead st = true := by rw [TdcSt.dead, hl]; exact decide_eq_true hd
    obtain ⟨htdc, honly⟩ := s.edgeSkipped_becomes ch.val rest w
    have hexec := exec_tdcStamp_served he hst hs fun _ h => absurd h hm
    rw [if_pos hdead] at hexec
    exact ⟨_, hexec, s.getF_edgeSkipped .., htdc, honly⟩
  · intro hown hstops
    refine ⟨_, exec_tdcStamp_unserved he hst ?_, s.edgesLeft_becomes ch.val rest []⟩
    rintro (ht | ⟨d, hd, ht⟩)
    · simp [hown] at ht
    · simp [hstops d hd] at ht
  · intro hl ht hn
    have hruns := s.edgeStamped_sameRuns ch.val rest st
    have htakes : ((s.edgeStamped ch.val rest st).chanOf ch.val).tdc.takes st = true := (hruns.takes ..).trans ht
    have hstart : ((s.edgeStamped ch.val rest st).chanOf ch.val).tdc.start = (s.chanOf ch.val).tdc.start := hruns.read TdcSt.start _
    have hstarts := s.edgeStarts_becomes ch.val rest st w
    have hexec := exec_tdcStamp_own he hst hl ht hn
    refine ⟨?_, ?_, ?_, ?_⟩
    · intro p v hm hs hmax
      obtain ⟨htdc, honly⟩ := (hstarts _).tdcValue (List.mem_singleton_self _) (s.getF_edgeStarts ..) (st - p) (v || w)
      rw [State.tdcOwn_period htakes ((hruns.meas _).trans hm) (hstart.trans hs), State.tdcSpan_of_le hmax] at hexec
      exact ⟨_, hexec (fun h => by simp [h] at hm), htdc, honly⟩
    · intro p v hm hs hmax
      obtain ⟨htdc, honly⟩ := (hstarts _).tdcDisc (List.mem_singleton_self _)
      rw [State.tdcOwn_period htakes ((hruns.meas _).trans hm) (hstart.trans hs), State.tdcSpan_of_lt hmax] at hexec
      exact ⟨_, hexec (fun h => by simp [h] at hm), htdc, State.getF_tdcDisc (s.getF_edgeStarts ..), honly⟩
    · intro hm hs
      obtain ⟨htdc, honly⟩ := hstarts []
      rw [State.tdcOwn_first htakes (by rwa [hruns.meas]) (hstart.trans hs)] at hexec
      exact ⟨_, hexec (fun h => by simp [h] at hm), htdc, honly⟩
    · intro f hm hg hf
      exact ⟨_, hexec fun _ => hg, (s.edgeStamped_becomes ch.val rest st _).tdcOwn_gate ht ((hruns.meas _).trans hm) hf⟩
  · intro d p v hl hn hd hr hs hp ht hmax
    obtain ⟨hown, gframe, -, hchan⟩ := s.edgeStamped_becomes ch.val rest st []
    obtain ⟨htdc, hframe, hregs, hchans⟩ := (s.edgeStamped ch.val rest st).intervalStopped_becomes d (st - p) (v || w)
    refine ⟨_, exec_tdcStamp_stop he hst hl hr hd hn hs hp ht hmax, ?_, ?_, ?_, ?_, ?_, hregs⟩
    · rw [htdc]
      rfl
    · rw [htdc, hchan d hd]
      rfl
    · rw [htdc, hchan d hd]
      rfl
    · rw [hchans ch.val hd.symm, hown]
    · exact (congrArg (fun a : State => { a with reg := s.reg, chan := s.chan }) hframe).trans gframe
  · intro ch s hr hm hb hp he
    have hexec := exec_tdcGateEnd hr hm hb hp he
    refine ⟨fun hd => ?_, fun f hd hf hn => ?_, fun hd hfew => ?_⟩
    · rw [State.gateClose_of_dead hd] at hexec
      exact ⟨_, hexec, (TdcBecomes.refl ..).modTdc⟩
    · rw [State.gateClose_of_counted hd hf hn] at hexec
      exact ⟨_, hexec, (TdcBecomes.refl ..).modTdc.modTdc⟩
    · rw [State.gateClose_of_few hd hfew] at hexec
      obtain ⟨htdc, honly⟩ := ((TdcBecomes.refl ch.val _ s).modTdc (f := TdcSt.nextGate)).tdcDisc (List.mem_singleton_self _)
      exact ⟨_, hexec, htdc, State.getF_tdcDisc (State.getF_modTdc ..), honly⟩
  · intro ch p w s hs hm hp he
    obtain ⟨htdc, honly⟩ := ((TdcBecomes.refl ch.val _ s).modTdc (f := fun k => { k with start := none })).tdcDisc
      (List.mem_singleton_self _)
    exact ⟨_, exec_tdcStartTimeout hs hm hp he, htdc, State.getF_tdcDisc (State.getF_modTdc ..), honly⟩

end Sys2Proof.Machine
end

section
/-! SUPPORT. What the end of a run discards, and what its start resets (R227, R229, R232, R233). -/

namespace Sys2Proof.Machine

variable {w : List Nat} {c d n : Nat} {s t : State} {k : TdcSt}

/-! ### Keys at one index -/

/-- A field whose number is not among those of `l` has a key that is not among theirs at the same index. -/
theorem key_not_mem_keysAt {f : Fld} {l : List Fld} {i : Nat} (hf : f.id ∉ l.map Fld.id) : f.key i ∉ keysAt i l := by
  intro hk
  obtain ⟨g, hg, he⟩ := List.mem_map.1 hk
  exact Fld.key_ne_same (fun e => hf (by rw [e]; exact List.mem_map_of_mem hg)) he.symm

/-! ### What is pending is discarded (R227, R232, R233) -/

/-- The TDC without a pending start and with the open gate discarded, as one whose measurement is `m`. -/
def TdcSt.dropped (k : TdcSt) (m : Nat) : TdcSt := { k.noGate with start := none, gDead := k.run && m == 3 }

/-- A pending start of an interval is counted as discarded. -/
theorem State.tdcDrop_of_interval (hs : (s.chanOf c).tdc.start.isSome = true) (hm : s.meas c = 1) :
    s.tdcDrop c = (s.modTdc c (·.dropped (s.meas c))).tdcDisc c := if_pos (by rw [hs, hm]; rfl)

theorem TdcBecomes.tdcDrop (h : TdcBecomes c w s t k) (hw : F.OCT_TDCDISC_DISC.key (chIx c) ∈ w) :
    TdcBecomes c w s (t.tdcDrop c) (k.dropped (t.meas c)) := by
  have h1 : TdcBecomes c w s (t.modTdc c (·.dropped (t.meas c))) (k.dropped (t.meas c)) := h.modTdc
  unfold State.tdcDrop
  extract_lets
  split
  · exact h1.tdcDisc hw
  · exact h1

theorem State.getF_tdcDrop_of_interval (hs : (t.chanOf c).tdc.start.isSome = true) (hm : t.meas c = 1)
    (h : t.getF F.OCT_TDCDISC_DISC (chIx c) = s.getF F.OCT_TDCDISC_DISC (chIx c)) :
    (t.tdcDrop c).getF F.OCT_TDCDISC_DISC (chIx c) = (s.getF F.OCT_TDCDISC_DISC (chIx c) + 1) % 2 ^ F.OCT_TDCDISC_DISC.width := by
  rw [State.tdcDrop_of_interval hs hm]
  exact State.getF_tdcDisc ((State.getF_modTdc ..).trans h)

/-! ### Gates that end before the run (R230, R232) -/

section only

variable (h : ChanOnly c w s t) (hw : F.OCT_TDCDISC_DISC.key (chIx c) ∈ w)
include h hw

theorem ChanOnly.gateClose : ChanOnly c w s (t.gateClose c) := by
  unfold State.gateClose
  extract_lets _ s1
  have h1 : ChanOnly c w s s1 := h.modTdc
  split
  · exact h1
  · split
    · split
      · exact h1.modTdc
      · exact h1.setF hw
    · exact h1.setF hw

theorem ChanOnly.gatesTo {st : Nat} : ChanOnly c w s (t.gatesTo c st) := by
  unfold State.gatesTo
  extract_lets
  split
  · exact h
  · exact (h.gateClose hw).modTdc.setF hw

end only

/-! ### The end of a stopped run (R232) -/

/-- The gates that ended before the stop tick `n` of the run have counted. -/
def State.gatesStopped (s : State) (c n : Nat) : State := if s.meas c == 3 then s.gatesTo c (n * 4096) else s

/-- The TDC after a run that has stopped. -/
def TdcSt.atRest (k : TdcSt) : TdcSt := { k with run := false, stopT := none, cfg := none, gDead := false }

theorem State.tdcOver_of_stopping (h : (s.chanOf c).tdc.stopT = some n) :
    s.tdcOver c = ((s.gatesStopped c n).tdcDrop c).modTdc c TdcSt.atRest := by
  rw [State.tdcOver, h]
  rfl

theorem State.tdcOver_of_not_stopping (h : (s.chanOf c).tdc.stopT = none) : s.tdcOver c = s := by
  rw [State.tdcOver, h]

theorem State.tdc_tdcOver_of_stopping (h : (s.chanOf c).tdc.stopT = some n) : ((s.tdcOver c).chanOf c).tdc =
    (((s.gatesStopped c n).chanOf c).tdc.dropped ((s.gatesStopped c n).meas c)).atRest := by
  rw [State.tdcOver_of_stopping h]
  exact ((TdcBecomes.refl c _ _).tdcDrop (List.mem_singleton_self _)).modTdc.1

theorem State.tdcOver_chanOnly (s : State) (c : Nat) (hw : F.OCT_TDCDISC_DISC.key (chIx c) ∈ w) : ChanOnly c w s (s.tdcOver c) := by
  cases h : (s.chanOf c).tdc.stopT with
  | none => rw [State.tdcOver_of_not_stopping h]; exact .refl c w s
  | some n =>
    have hgates : ChanOnly c w s (s.gatesStopped c n) := by
      unfold State.gatesStopped
      split
      · exact (ChanOnly.refl c w s).gatesTo hw
      · exact .refl c w s
    rw [State.tdcOver_of_stopping h]
    exact (TdcBecomes.tdcDrop ⟨rfl, hgates⟩ hw).2.modTdc

/-- A run that stops in the middle of an interval counts it as discarded. -/
theorem State.getF_tdcOver_of_interval (h : (s.chanOf c).tdc.stopT = some n) (hs : (s.chanOf c).tdc.start.isSome = true)
    (hm : s.meas c = 1) : (s.tdcOver c).getF F.OCT_TDCDISC_DISC (chIx c) =
      (s.getF F.OCT_TDCDISC_DISC (chIx c) + 1) % 2 ^ F.OCT_TDCDISC_DISC.width := by
  have hgates : s.gatesStopped c n = s := if_neg (by rw [hm]; decide)
  rw [State.tdcOver_of_stopping h, State.getF_modTdc, hgates]
  exact State.getF_tdcDrop_of_interval hs hm rfl

/-- After a stopped run the configuration is that of the register again. -/
theorem State.stopT_cfg_tdcOver (s : State) (c : Nat) : ((s.tdcOver c).chanOf c).tdc.stopT = none ∧
    ((s.tdcOver c).chanOf c).tdc.cfg = if (s.chanOf c).tdc.stopT.isSome then none else (s.chanOf c).tdc.cfg := by
  cases h : (s.chanOf c).tdc.stopT with
  | none => rw [State.tdcOver_of_not_stopping h]; exact ⟨h, rfl⟩
  | some n => rw [State.tdc_tdcOver_of_stopping h]; exact ⟨rfl, rfl⟩

/-! ### The RUN boundary (R229, R232) -/

/-- A run begins, from the tick after the octet's local time. -/
def State.runStarted (s : State) (c : Nat) : State :=
  ((s.tdcOver c).setFs (chIx c) [(F.OCT_TDCCTL_RUN, 1), (F.OCT_TDCSTAT_ACTIVE, 1)]).modTdc c fun k => { k.noGate with
    run := true, t0 := Time.toNs (s.localNow (octOf c)) + 1, div := 0, gate := 0, start := none }

/-- The fields that the start of a run writes, and the end of the one before it. -/
def runKeys (c : Nat) : List Nat := keysAt (chIx c) [F.OCT_TDCCTL_RUN, F.OCT_TDCSTAT_ACTIVE, F.OCT_TDCDISC_DISC]

theorem State.runStarted_becomes (s : State) (c : Nat) : TdcBecomes c (runKeys c) s (s.runStarted c)
    { ((s.tdcOver c).chanOf c).tdc.noGate with
      run := true, t0 := Time.toNs (s.localNow (octOf c)) + 1, div := 0, gate := 0, start := none } := by
  have h : TdcBecomes c (runKeys c) s (s.tdcOver c) ((s.tdcOver c).chanOf c).tdc :=
    ⟨rfl, s.tdcOver_chanOnly c (by simp [runKeys, keysAt])⟩
  exact (h.setFs (by simp [runKeys, keysAt])).modTdc

theorem State.getF_runStarted (s : State) (c : Nat) :
    (s.runStarted c).getF F.OCT_TDCCTL_RUN (chIx c) = 1 ∧ (s.runStarted c).getF F.OCT_TDCSTAT_ACTIVE (chIx c) = 1 := by
  have hn : ([(F.OCT_TDCCTL_RUN, 1), (F.OCT_TDCSTAT_ACTIVE, 1)].map fun p => p.1.id).Nodup := by decide
  rw [State.runStarted, State.getF_modTdc, State.getF_modTdc]
  exact ⟨State.getF_setFs_mem (p := (F.OCT_TDCCTL_RUN, 1)) (by simp) hn _,
    State.getF_setFs_mem (p := (F.OCT_TDCSTAT_ACTIVE, 1)) (by simp) hn _⟩

theorem State.getF_runStarted_disc (h : (s.chanOf c).tdc.stopT = none) :
    (s.runStarted c).getF F.OCT_TDCDISC_DISC (chIx c) = s.getF F.OCT_TDCDISC_DISC (chIx c) := by
  rw [State.runStarted, State.getF_modTdc, State.tdcOver_of_not_stopping h]
  exact State.getF_setFs_other (List.forall_mem_cons.2 ⟨Fld.key_ne_same (by decide),
    List.forall_mem_singleton.2 (Fld.key_ne_same (by decide))⟩)

/-- A run that starts has the configuration of the register, unless it keeps one that no stop has ended (R232). -/
theorem State.tdcCfg_runStarted (s : State) (c : Nat) :
    (s.runStarted c).tdcCfg c = (if (s.chanOf c).tdc.stopT.isSome then none else (s.chanOf c).tdc.cfg).getD
      (s.getF F.OCT_TDCCFG_MEAS (chIx c), s.getF F.OCT_TDCCFG_STOPCH (chIx c), s.getF F.OCT_TDCCFG_FGATE (chIx c)) := by
  obtain ⟨htdc, -, hregs, -⟩ := s.runStarted_becomes c
  rw [State.tdcCfg, htdc, hregs.getF (key_not_mem_keysAt (by decide)), hregs.getF (key_not_mem_keysAt (by decide)),
    hregs.getF (key_not_mem_keysAt (by decide)), ← (s.stopT_cfg_tdcOver c).2]
  rfl

/-! ### EDIV of the stop channel (R229) -/

theorem State.stopDiv_of_interval (h : s.meas c = 1) :
    s.stopDiv c = s.modTdc (s.tdcCfg c).2.1 fun k => { k with sdiv := 0 } := if_pos h

theorem State.stopDiv_of_not_interval (h : s.meas c ≠ 1) : s.stopDiv c = s := if_neg h

theorem State.getF_stopDiv (s : State) (c : Nat) (f : Fld) (i : Nat) : (s.stopDiv c).getF f i = s.getF f i := by
  unfold State.stopDiv
  split <;> rfl

/-- What does not depend on the count of edges for other channels reads the same. -/
theorem State.tdc_stopDiv_kept {α : Type} (g : TdcSt → α) (s : State) (c d : Nat)
    (hg : ∀ k, g { k with sdiv := 0 } = g k := by intro; rfl) : g ((s.stopDiv c).chanOf d).tdc = g (s.chanOf d).tdc := by
  unfold State.stopDiv
  split
  · by_cases hd : d = (s.tdcCfg c).2.1
    · rw [hd, State.tdc_modTdc_same, hg]
    · rw [State.chanOf_modTdc_other hd]
  · rfl

/-- A run that measures no intervals, or stops them itself, resets no other channel. -/
theorem ChanOnly.stopDiv (h : ChanOnly c w s t) (hm : t.meas c ≠ 1 ∨ (t.tdcCfg c).2.1 = c) : ChanOnly c w s (t.stopDiv c) := by
  by_cases h1 : t.meas c = 1
  · rw [State.stopDiv_of_interval h1, hm.resolve_left (not_not_intro h1)]
    exact h.modTdc
  · rwa [State.stopDiv_of_not_interval h1]

/-- Another channel that is put back leaves what was left. -/
theorem ChanOnly.modTdc_setChan (h : ChanOnly c w s t) (d : Nat) (f : TdcSt → TdcSt) :
    ChanOnly c w s ((t.modTdc d f).setChan d (s.chanOf d)) := by
  obtain ⟨hframe, hregs, hchans⟩ := h
  have hmod : { t.modTdc d f with reg := s.reg, chan := s.chan } = s := hframe
  refine ⟨hmod, fun j hj => hregs j hj, fun k hk => ?_⟩
  by_cases hkd : k = d
  · rw [hkd, State.chanOf_setChan_same]
  · exact (Tbl.get_set_other hkd).trans ((State.chanOf_modTdc_other hkd).trans (hchans k hk))

end Sys2Proof.Machine
end

section
/-! SUPPORT. RUN, SNAP and CLR of a TDC, the end of its stopped run, its DLL, and the warm flag (R227, R232 to R234). -/

namespace Sys2Proof.Machine

variable {w : List Nat} {s t : State} {n : Fin 16} {ch : Fin 64} {x i : Nat} {l : List (Fld × Nat)}

/-! ### Orders of the owner (R232) -/

@[simp] theorem State.localNow_ordered (s : State) (y : Nat) (o : Order) (k : Nat) : (s.ordered y o).localNow k = s.localNow k := rfl

theorem SiteOnly.setFs (h : SiteOnly x w s t) (hk : ∀ p ∈ l, p.1.key i ∈ w) : SiteOnly x w s (t.setFs i l) :=
  List.foldlRecOn (motive := SiteOnly x w s) l _ h fun _ ha p hp => ha.setF (hk p hp)

theorem State.chan_setFs (s : State) (i : Nat) (l : List (Fld × Nat)) : (s.setFs i l).chan = s.chan :=
  (congrArg State.chan (s.setFs_regsOnly i l).1 :)

/-- What SNAP shows of a TDC at `ns` (R232). -/
def snapRegs (k : TdcSt) (ns : Nat) : List (Fld × Nat) :=
  [(F.OCT_TDCCNT_CNT, k.cnt), (F.OCT_TDCSUM_LO_SUM, k.sum), (F.OCT_TDCSUM_HI_SUM, k.sum / 4294967296),
    (F.OCT_TDCSQ_LO_SQ, k.sq), (F.OCT_TDCSQ_HI_SQ, k.sq / 4294967296), (F.OCT_TDCMIN_LO_MIN, k.min),
    (F.OCT_TDCMIN_HI_MIN, k.min / 4294967296), (F.OCT_TDCMAX_LO_MAX, k.max), (F.OCT_TDCMAX_HI_MAX, k.max / 4294967296),
    (F.OCT_TDCECNT_LO_ECNT, k.ecnt), (F.OCT_TDCECNT_HI_ECNT, k.ecnt / 4294967296), (F.OCT_TDCSTAT_SWARM, b2n k.warm),
    (F.OCT_TDCSNT_NS, ns)]

theorem State.getF_snapRegs {k : TdcSt} {ns v : Nat} {f : Fld} (hf : (f, v) ∈ snapRegs k ns) (s : State) (i : Nat) :
    (s.setFs i (snapRegs k ns)).getF f i = v % 2 ^ f.width :=
  State.getF_setFs_mem hf (by simp only [snapRegs, List.map_cons, List.map_nil]; decide) i

/-- The accumulators and counters of a TDC are zero. -/
def State.tdcCleared (s : State) (c : Nat) : State :=
  (s.setFs (chIx c) [(F.OCT_TDCDISC_DISC, 0), (F.OCT_TDCSKIP_SKIP, 0)]).modTdc c fun k =>
    { k with cnt := 0, sum := 0, ecnt := 0, sq := 0, min := 68719476735, max := 0, warm := false }

theorem State.tdcCleared_becomes (s : State) (c : Nat) :
    TdcBecomes c (keysAt (chIx c) [F.OCT_TDCDISC_DISC, F.OCT_TDCSKIP_SKIP]) s (s.tdcCleared c) { (s.chanOf c).tdc with
      cnt := 0, sum := 0, ecnt := 0, sq := 0, min := 68719476735, max := 0, warm := false } :=
  ((TdcBecomes.refl c _ s).setFs (by simp [keysAt])).modTdc

theorem State.getF_tdcCleared (s : State) (c : Nat) :
    (s.tdcCleared c).getF F.OCT_TDCDISC_DISC (chIx c) = 0 ∧ (s.tdcCleared c).getF F.OCT_TDCSKIP_SKIP (chIx c) = 0 := by
  have hn : ([(F.OCT_TDCDISC_DISC, 0), (F.OCT_TDCSKIP_SKIP, 0)].map fun p => p.1.id).Nodup := by decide
  rw [State.tdcCleared, State.getF_modTdc, State.getF_modTdc]
  exact ⟨State.getF_setFs_mem (p := (F.OCT_TDCDISC_DISC, 0)) (by simp) hn _,
    State.getF_setFs_mem (p := (F.OCT_TDCSKIP_SKIP, 0)) (by simp) hn _⟩

section order

variable (h : s.hostFree n) (ho : s.ownsCh n.val ch.val = true)
include h ho

theorem exec_tdcRunStart (hr : s.flag F.OCT_TDCCTL_RUN (chIx ch.val) = false) :
    ∃ q, exec (.tdcRunStart (.vf n) ch) s = .next (((s.ordered n.val q).runStarted ch.val).stopDiv ch.val) := by
  change ∃ q, execTdcRunStart (.vf n) ch s = _
  rw [execTdcRunStart, State.hostOrder_of_ownsCh h ho]
  exact ⟨_, if_pos (by simp [State.fnOwns_of_ownsCh h ho, hr])⟩

theorem exec_tdcRunStop (hr : s.flag F.OCT_TDCCTL_RUN (chIx ch.val) = true) :
    ∃ q, exec (.tdcRunStop (.vf n) ch) s =
      .next (((s.ordered n.val q).setF F.OCT_TDCCTL_RUN (chIx ch.val) 0).modTdc ch.val fun k =>
        { k with stopT := some (Time.toNs (s.localNow (octOf ch.val)) + 1), cfg := some (s.tdcCfg ch.val) }) := by
  change ∃ q, execTdcRunStop (.vf n) ch s = _
  rw [execTdcRunStop, State.hostOrder_of_ownsCh h ho]
  exact ⟨_, if_pos (by simp [State.fnOwns_of_ownsCh h ho, hr])⟩

theorem exec_tdcSnap : ∃ q, exec (.tdcSnap (.vf n) ch) s =
    .next ((s.ordered n.val q).setFs (chIx ch.val)
      (snapRegs (s.chanOf ch.val).tdc (Time.ns32 (s.localNow (octOf ch.val))))) := by
  change ∃ q, execTdcSnap (.vf n) ch s = _
  rw [execTdcSnap, State.hostOrder_of_ownsCh h ho]
  exact ⟨_, if_pos (State.fnOwns_of_ownsCh h ho)⟩

theorem exec_tdcClr (hr : s.flag F.OCT_TDCCTL_RUN (chIx ch.val) = false) :
    ∃ q, exec (.tdcClr (.vf n) ch) s = .next ((s.ordered n.val q).tdcCleared ch.val) := by
  change ∃ q, execTdcClr (.vf n) ch s = _
  rw [execTdcClr, State.hostOrder_of_ownsCh h ho]
  exact ⟨_, (if_pos (State.fnOwns_of_ownsCh h ho)).trans (if_neg (by simp [hr]))⟩

theorem exec_tdcClr_rejected (hr : s.flag F.OCT_TDCCTL_RUN (chIx ch.val) = true) :
    ∃ q, exec (.tdcClr (.vf n) ch) s = .next ((s.ordered n.val q).setF F.OCT_TDCSTAT_CFG_REJ (chIx ch.val) 1) := by
  change ∃ q, execTdcClr (.vf n) ch s = _
  rw [execTdcClr, State.hostOrder_of_ownsCh h ho]
  exact ⟨_, (if_pos (State.fnOwns_of_ownsCh h ho)).trans (if_pos hr)⟩

/-- What the start of a run leaves: it begins anew at the next tick, and EDIV of its stop channel with it. -/
theorem tdcRunStart_spec (hr : s.flag F.OCT_TDCCTL_RUN (chIx ch.val) = false) :
    ∃ t, exec (.tdcRunStart (.vf n) ch) s = .next t ∧
      (t.chanOf ch.val).tdc.run = true ∧ (t.chanOf ch.val).tdc.t0 = Time.toNs (s.localNow (octOf ch.val)) + 1 ∧
      (t.chanOf ch.val).tdc.stopT = none ∧ (t.chanOf ch.val).tdc.div = 0 ∧ (t.chanOf ch.val).tdc.gate = 0 ∧
      (t.chanOf ch.val).tdc.start = none ∧ (t.chanOf ch.val).tdc.gFirst = none ∧
      t.getF F.OCT_TDCCTL_RUN (chIx ch.val) = 1 ∧ t.getF F.OCT_TDCSTAT_ACTIVE (chIx ch.val) = 1 ∧
      ((s.chanOf ch.val).tdc.stopT = none → t.getF F.OCT_TDCDISC_DISC (chIx ch.val) = s.getF F.OCT_TDCDISC_DISC (chIx ch.val)) ∧
      (∀ m : Nat × Nat × Nat, m = (if (s.chanOf ch.val).tdc.stopT.isSome then none else (s.chanOf ch.val).tdc.cfg).getD
          (s.getF F.OCT_TDCCFG_MEAS (chIx ch.val), s.getF F.OCT_TDCCFG_STOPCH (chIx ch.val), s.getF F.OCT_TDCCFG_FGATE (chIx ch.val)) →
        (m.1 ≠ 1 ∨ m.2.1 = ch.val →
          ChanOrder ch.val n.val (keysAt (chIx ch.val) [F.OCT_TDCCTL_RUN, F.OCT_TDCSTAT_ACTIVE, F.OCT_TDCDISC_DISC]) s t) ∧
        (m.1 = 1 → m.2.1 ≠ ch.val →
          t.chanOf m.2.1 = { s.chanOf m.2.1 with tdc := { (s.chanOf m.2.1).tdc with sdiv := 0 } } ∧
          ChanOrder ch.val n.val (keysAt (chIx ch.val) [F.OCT_TDCCTL_RUN, F.OCT_TDCSTAT_ACTIVE, F.OCT_TDCDISC_DISC]) s
            (t.setChan m.2.1 (s.chanOf m.2.1)))) := by
  obtain ⟨q, hq⟩ := exec_tdcRunStart h ho hr
  obtain ⟨htdc, honly⟩ := (s.ordered n.val q).runStarted_becomes ch.val
  obtain ⟨hrun, hactive⟩ := (s.ordered n.val q).getF_runStarted ch.val
  rw [State.localNow_ordered] at htdc
  have hread {α : Type} (g : TdcSt → α) (hg : ∀ k, g { k with sdiv := 0 } = g k := by intro; rfl) :
      g ((((s.ordered n.val q).runStarted ch.val).stopDiv ch.val).chanOf ch.val).tdc = _ :=
    (State.tdc_stopDiv_kept g _ _ _ hg).trans (congrArg g htdc)
  refine ⟨_, hq, hread TdcSt.run, hread TdcSt.t0,
    (hread TdcSt.stopT).trans ((s.ordered n.val q).stopT_cfg_tdcOver ch.val).1, hread TdcSt.div, hread TdcSt.gate,
    hread TdcSt.start, hread TdcSt.gFirst, (State.getF_stopDiv ..).trans hrun, (State.getF_stopDiv ..).trans hactive,
    fun hs => (State.getF_stopDiv ..).trans (State.getF_runStarted_disc hs), fun m hm => ?_⟩
  have hcfg : ((s.ordered n.val q).runStarted ch.val).tdcCfg ch.val = m := (State.tdcCfg_runStarted ..).trans hm.symm
  have hmeas : ((s.ordered n.val q).runStarted ch.val).meas ch.val = m.1 := congrArg Prod.fst hcfg
  refine ⟨fun hno => (s.ordered_chanOrder ..).chanOnly (honly.stopDiv (by rwa [hmeas, hcfg])), fun h1 hj => ?_⟩
  rw [State.stopDiv_of_interval (hmeas.trans h1), hcfg]
  refine ⟨?_, (s.ordered_chanOrder ..).chanOnly (honly.modTdc_setChan m.2.1 _)⟩
  rw [State.modTdc, State.chanOf_modChan_same, honly.2.2 _ hj, State.chanOf_ordered]

end order

/-! ### The end of a stopped run (R232) -/

theorem exec_tdcStopDone_ends {n : Nat} (hs : (s.chanOf ch.val).tdc.stopT = some n)
    (hn : n ≤ Time.toNs (s.localNow (octOf ch.val)))
    (he : (s.chanOf ch.val).tdc.edges.all (fun p => decide (Time.ofNs n ≤ p.1)) = true) :
    exec (.tdcStopDone ch) s = .next ((s.tdcOver ch.val).setF F.OCT_TDCSTAT_ACTIVE (chIx ch.val) 0) := by
  change execTdcStopDone ch s = _
  simp only [execTdcStopDone, hs]
  exact if_pos ⟨hn, he⟩

theorem exec_tdcStopDone_early {n : Nat} (hs : (s.chanOf ch.val).tdc.stopT = some n)
    (hn : Time.toNs (s.localNow (octOf ch.val)) < n) : exec (.tdcStopDone ch) s = .next s := by
  change execTdcStopDone ch s = _
  simp only [execTdcStopDone, hs]
  exact if_neg fun h => Nat.not_le.2 hn h.1

theorem exec_tdcStopDone_idle (hs : (s.chanOf ch.val).tdc.stopT = none) (hr : (s.chanOf ch.val).tdc.run = false) :
    exec (.tdcStopDone ch) s = .next (s.setF F.OCT_TDCSTAT_ACTIVE (chIx ch.val) 0) := by
  change execTdcStopDone ch s = _
  simp only [execTdcStopDone, hs, hr]
  rfl

/-! ### The DLL (R227) -/

/-- The DLL is out of lock, and what was pending is discarded. -/
def State.dllLost (s : State) (c : Nat) : State :=
  (s.setFs (chIx c) [(F.OCT_TDCSTAT_DLLLOCK, 0), (F.OCT_TDCSTAT_DLLUL, 1)]).tdcDrop c

theorem State.dllLost_becomes (s : State) (c : Nat) :
    TdcBecomes c (keysAt (chIx c) [F.OCT_TDCSTAT_DLLLOCK, F.OCT_TDCSTAT_DLLUL, F.OCT_TDCDISC_DISC]) s (s.dllLost c)
      ((s.chanOf c).tdc.dropped
        ((s.setFs (chIx c) [(F.OCT_TDCSTAT_DLLLOCK, 0), (F.OCT_TDCSTAT_DLLUL, 1)]).meas c)) :=
  ((TdcBecomes.refl c _ s).setFs (by simp [keysAt])).tdcDrop (by simp [keysAt])

theorem State.getF_dllLost (s : State) (c : Nat) :
    (s.dllLost c).getF F.OCT_TDCSTAT_DLLLOCK (chIx c) = 0 ∧ (s.dllLost c).getF F.OCT_TDCSTAT_DLLUL (chIx c) = 1 := by
  have hn : ([(F.OCT_TDCSTAT_DLLLOCK, 0), (F.OCT_TDCSTAT_DLLUL, 1)].map fun p => p.1.id).Nodup := by decide
  have hregs := ((TdcBecomes.refl c (keysAt (chIx c) [F.OCT_TDCDISC_DISC])
    (s.setFs (chIx c) [(F.OCT_TDCSTAT_DLLLOCK, 0), (F.OCT_TDCSTAT_DLLUL, 1)])).tdcDrop (by simp [keysAt])).2.2.1
  rw [State.dllLost, hregs.getF (key_not_mem_keysAt (by decide)), hregs.getF (key_not_mem_keysAt (by decide))]
  exact ⟨State.getF_setFs_mem (p := (F.OCT_TDCSTAT_DLLLOCK, 0)) (by simp) hn _,
    State.getF_setFs_mem (p := (F.OCT_TDCSTAT_DLLUL, 1)) (by simp) hn _⟩

/-- Fields other than MEAS leave the measurement of a run. -/
theorem State.meas_setFs {c : Nat} (h : ∀ p ∈ l, F.OCT_TDCCFG_MEAS.key (chIx c) ≠ p.1.key i) : (s.setFs i l).meas c = s.meas c := by
  rw [State.meas, State.tdcCfg, State.chanOf_setFs, State.getF_setFs_other h, State.meas, State.tdcCfg]
  cases (s.chanOf c).tdc.cfg <;> rfl

theorem State.getF_dllLost_disc {c : Nat} (hs : (s.chanOf c).tdc.start.isSome = true) (hm : s.meas c = 1) :
    (s.dllLost c).getF F.OCT_TDCDISC_DISC (chIx c) =
      (s.getF F.OCT_TDCDISC_DISC (chIx c) + 1) % 2 ^ F.OCT_TDCDISC_DISC.width := by
  have hother {f : Fld} (hl : f.id ≠ F.OCT_TDCSTAT_DLLLOCK.id) (hu : f.id ≠ F.OCT_TDCSTAT_DLLUL.id) :
      ∀ p ∈ [(F.OCT_TDCSTAT_DLLLOCK, 0), (F.OCT_TDCSTAT_DLLUL, 1)], f.key (chIx c) ≠ p.1.key (chIx c) :=
    List.forall_mem_cons.2 ⟨Fld.key_ne_same hl, List.forall_mem_singleton.2 (Fld.key_ne_same hu)⟩
  exact State.getF_tdcDrop_of_interval (by rwa [State.chanOf_setFs])
    ((State.meas_setFs (hother (by decide) (by decide))).trans hm) (State.getF_setFs_other (hother (by decide) (by decide)))

theorem exec_dllUnlock (hl : s.flag F.OCT_TDCSTAT_DLLLOCK (chIx ch.val) = true) : exec (.dllUnlock ch) s =
    .next ((s.dllLost ch.val).modTdc ch.val fun k => { k with edges := [], gDead := (s.chanOf ch.val).tdc.gDead }) :=
  if_pos hl

/-! ### The warm flag (R234) -/

theorem State.setAll_regsOnly (s : State) (f : Fld) (l : List Nat) (v : Nat) : RegsOnly (l.map f.key) s (s.setAll f l v) :=
  List.foldlRecOn (motive := RegsOnly (l.map f.key) s) l _ (.refl _ s) fun _ ha _ hi => ha.setF (List.mem_map_of_mem hi)

theorem State.getF_setAll (s : State) (f : Fld) {l : List Nat} (hi : i ∈ l) (v : Nat) :
    (s.setAll f l v).getF f i = v % 2 ^ f.width := by
  induction l generalizing s with
  | nil => cases hi
  | cons j l ih =>
    by_cases hl : i ∈ l
    · exact ih (s.setF f j v) hl
    · obtain rfl : i = j := (List.mem_cons.1 hi).resolve_right hl
      have hk : f.key i ∉ l.map f.key := fun hm => by
        obtain ⟨k, hk, he⟩ := List.mem_map.1 hm
        exact Fld.key_ne_index (fun e : k = i => hl (e ▸ hk)) he
      exact (((s.setF f i v).setAll_regsOnly f l v).2.getF hk).trans (State.getF_setF_same ..)

theorem exec_ocxoWarmChange (level : Bool) (s : State) : exec (.ocxoWarmChange level) s =
    .next (({ s with warm := level } : State).setAll F.OCT_TDCSTAT_WARMNOW (List.range 64) (b2n level)) := by
  change ok ({ s with warm := level } : State).warmShow = _
  simp only [ok, State.warmShow, chIx_eq, State.setAll]

end Sys2Proof.Machine
end

section
/-! SUPPORT. What the controls of a TDC settle (R227, R232 to R234). -/

namespace Sys2Proof.Machine

/-- Settles O39: each control is one change of the channel, a start also resets EDIV of its stop channel, and the end of a run or of the
lock discards what is pending. -/
theorem tdcControls : Obligations.TdcControls := by
  unfold Obligations.TdcControls
  refine ⟨fun n ch s h ho => ⟨fun hr => tdcRunStart_spec h ho hr, ?_, ?_, ?_, ?_⟩, ?_, ?_, ?_, ?_, ?_⟩
  · intro hr
    obtain ⟨q, hq⟩ := exec_tdcRunStop h ho hr
    obtain ⟨htdc, honly⟩ := (((TdcBecomes.refl ch.val _ (s.ordered n.val q)).setF (n := 0)
      (List.mem_singleton_self (F.OCT_TDCCTL_RUN.key (chIx ch.val)))).modTdc (f := fun k =>
        { k with stopT := some (Time.toNs (s.localNow (octOf ch.val)) + 1), cfg := some (s.tdcCfg ch.val) }))
    refine ⟨_, hq, htdc, ?_, (s.ordered_chanOrder ..).chanOnly honly⟩
    rw [State.getF_modTdc, State.getF_setF_same, Nat.zero_mod]
  · obtain ⟨q, hq⟩ := exec_tdcSnap h ho
    refine ⟨_, hq, State.getF_snapRegs (by simp [snapRegs]) .., State.getF_snapRegs (by simp [snapRegs]) ..,
      State.getF_snapRegs (by simp [snapRegs]) .., State.getF_snapRegs (by simp [snapRegs]) ..,
      State.getF_snapRegs (by simp [snapRegs]) .., State.getF_snapRegs (by simp [snapRegs]) .., State.chan_setFs .., ?_⟩
    exact (s.ordered_siteOnly ..).setFs (by simp [snapRegs, keysAt])
  · intro hr
    obtain ⟨q, hq⟩ := exec_tdcClr h ho hr
    obtain ⟨htdc, honly⟩ := (s.ordered n.val q).tdcCleared_becomes ch.val
    obtain ⟨hdisc, hskip⟩ := (s.ordered n.val q).getF_tdcCleared ch.val
    exact ⟨_, hq, htdc, hdisc, hskip, (s.ordered_chanOrder ..).chanOnly honly⟩
  · intro hr
    obtain ⟨q, hq⟩ := exec_tdcClr_rejected h ho hr
    exact ⟨_, hq, State.getF_setF_same .., (s.ordered_siteOnly ..).setF (List.mem_singleton_self _)⟩
  · intro ch n s hs
    refine ⟨fun hn he => ?_, fun hn => exec_tdcStopDone_early hs hn⟩
    have htdc := State.tdc_tdcOver_of_stopping hs
    refine ⟨_, exec_tdcStopDone_ends hs hn he, congrArg TdcSt.run htdc, congrArg TdcSt.stopT htdc, congrArg TdcSt.start htdc,
      congrArg TdcSt.cfg htdc, congrArg TdcSt.gFirst htdc, State.getF_setF_same .., fun hm hstart => ?_,
      (s.tdcOver_chanOnly ch.val (by simp [keysAt])).setF (by simp [keysAt])⟩
    rw [State.getF_setF_other (Fld.key_ne_same (by decide)), State.getF_tdcOver_of_interval hs hstart hm]
  · intro ch s hs hr
    exact ⟨_, exec_tdcStopDone_idle hs hr, State.getF_setF_same .., (RegsOnly.refl _ s).setF (List.mem_singleton_self _)⟩
  · exact fun ch s => ⟨_, rfl, State.getF_setF_same .., (RegsOnly.refl _ s).setF (List.mem_singleton_self _)⟩
  · intro ch s hl
    obtain ⟨htdc, honly⟩ := (s.dllLost_becomes ch.val).modTdc (f := fun k =>
      { k with edges := [], gDead := (s.chanOf ch.val).tdc.gDead })
    obtain ⟨hlock, hul⟩ := s.getF_dllLost ch.val
    exact ⟨_, exec_dllUnlock hl, (State.getF_modTdc ..).trans hlock, (State.getF_modTdc ..).trans hul, htdc,
      fun hs hm => (State.getF_modTdc ..).trans (State.getF_dllLost_disc hs hm), honly⟩
  · intro level s
    obtain ⟨hframe, hregs⟩ := State.setAll_regsOnly { s with warm := level } F.OCT_TDCSTAT_WARMNOW (List.range 64) (b2n level)
    refine ⟨_, exec_ocxoWarmChange level s, (congrArg State.warm hframe :), fun c hc => ?_,
      congrArg (fun a : State => { a with warm := s.warm }) hframe, ?_⟩
    · rw [chIx_eq, State.getF_setAll _ _ (List.mem_range.2 hc)]
      exact b2n_mod_two level
    · simp only [chIx_eq]
      exact hregs

end Sys2Proof.Machine
end

section
/-! SUPPORT. The queue, and what holds of every command. -/

namespace Sys2Proof.Machine

/-- Settles O1: the step is defined on the front of the queue. -/
theorem stepRunsFrontCommand : Obligations.StepRunsFrontCommand := fun _ _ _ => step_of_pending_cons

/-- Settles O2: an empty queue leaves nothing to run, no table word is decoded, and no word is placed for a fetch. -/
theorem idleStepKeepsState : Obligations.IdleStepKeepsState :=
  ⟨fun _ => step_of_pending_nil, fun _ _ => rfl, fun _ _ _ => rfl⟩

/-- Settles O4: at reset every table is empty, and the empty table is canonical. -/
theorem resetIsCanonical : Obligations.ResetIsCanonical := by
  unfold Obligations.ResetIsCanonical
  simp [State.canonical, State.regsWf, State.memsWf, State.storesWf, State.unitsWf, State.reset, Tbl.wf_nil]

/-- Settles O8: every command is made of updates that end in a next state and leave the queue. -/
theorem commandsAnswerNextAndKeepQueue : Obligations.CommandsAnswerNextAndKeepQueue := by
  intro c s
  obtain ⟨t, ht, hk⟩ := exec_ends (.refl s) c
  exact ⟨t, ht, hk.pending⟩

end Sys2Proof.Machine
end

section
/-! SUPPORT. The end of a save (R382, R384) for a position that no octet has: its UNSAVED stands where CLVSTAT.SAVED does. -/

namespace Sys2Proof.Machine

/-- The position whose UNSAVED is the entry of CLVSTAT.SAVED, of octet 0. -/
def farPosition : Nat := 11534336

/-- Octet 0 saves the settings of that position. -/
def farSave : State := { State.reset with oct := [(0, { saving := some farPosition })] }

theorem unsaved_farPosition : F.OCT_QSRC_UNSAVED.key (qIx 0 farPosition) = F.OCT_CLVSTAT_SAVED.key 0 := rfl

/-- Refutes O51: the statement does not bound the position that is being saved. The UNSAVED of position 11,534,336 and the SAVED of
octet 0 are one entry, which a save that succeeds cannot leave at both 0 and 1. -/
theorem not_cloveServesSlices : ¬ Obligations.CloveServesSlices := by
  intro h
  obtain ⟨_, _, _, _, _, _, _, _, _, hsave⟩ := h
  obtain ⟨⟨t, _, _, _, hunsaved, hsaved, _⟩, _⟩ := (hsave 0 farSave).1 farPosition rfl
  have hsame : t.getF F.OCT_QSRC_UNSAVED (qIx 0 farPosition) = t.getF F.OCT_CLVSTAT_SAVED 0 := rfl
  exact absurd (hsaved.symm.trans (hsame.symm.trans hunsaved)) Nat.one_ne_zero

end Sys2Proof.Machine
end

section
/-! SUPPORT. A vote that meets the end of a reset (R286, R313): it carries the epoch that FAB_SEPOCH shows, but is judged by the next. -/

namespace Sys2Proof.Machine

/-- Chips 0 and 1 are the members of site 0, which this chip 0 leads; a transaction runs undecided, and the site, whose bursts
have ended, comes out of its reset in this cycle. -/
def voteInReset : State := { State.reset with
  reg := [(F.SITE_MAP_WORD.key 1, 1), (F.SITE_MAP_WORD.key 2, 3)]
  site := [(0, { saf := { lead := some { txid := 0, beat := 0 } }, resetting := 1 })]
  pending := [.siteResetBurstsEnded 0] }

/-- The leader's transaction of site 0 after a command. -/
def leadAfter (r : Res) : Option SafLead :=
  match r with
  | .next t => (t.safOf 0).lead
  | _ => none

theorem leaderOf_voteInReset : voteInReset.leaderOf 0 0 1 := by decide

/-- The NO of chip 1 is NACKed STALE: the transaction stays. -/
theorem leadAfter_voteReceive_voteInReset : (leadAfter (exec (.voteReceive 0 0 0 1 1) voteInReset)).isSome = true := by decide

/-- Refutes O44: the premise compares the message's epoch with FAB_SEPOCH as it stands. Where the site's reset ends in the same cycle
the message is judged by the epoch to come, so that a NO vote of the standing epoch aborts nothing. -/
theorem not_saffronLeader : ¬ Obligations.SaffronLeader := by
  intro h
  obtain ⟨hvote, _⟩ := h
  obtain ⟨hno, _⟩ := hvote 0 0 0 1 1 voteInReset { txid := 0, beat := 0 } leaderOf_voteInReset rfl rfl rfl rfl rfl
  obtain ⟨t, ht, _, hlead, _⟩ := hno (by decide)
  have hkept := leadAfter_voteReceive_voteInReset
  rw [ht, leadAfter, show (t.safOf 0).lead = none from hlead] at hkept
  cases hkept

end Sys2Proof.Machine
end

section
/-! SUPPORT. The last sleep vote (R315) where the route to a chip of the shelf leaves by a port number beyond the twelve, which sleeps. -/

namespace Sys2Proof.Machine

/-- Chip 0 is the root of a shelf with chip 1, which is reached by "port" 12. That port sleeps; chip 0 has voted. -/
def farVote : State := { State.reset with
  reg := [(F.FAB_SLPLEAD_US.key 0, 1), (F.FAB_SLPSTAT_STATE.key 0, 1), (F.FAB_PSTAT_STATE.key 12, 3)]
  fab := { State.reset.fab with
    peers := [{ chip := 1, port := 12, hops := 1, cbnd := 0, fbnd := 0, wide := false, detour := false }], votes := [0] } }

/-- FAB_SLPSTAT.STATE after a command. -/
def sleepStateAfter (r : Res) : Nat :=
  match r with
  | .next t => t.getF F.FAB_SLPSTAT_STATE 0
  | _ => 0

theorem portState_farVote : ∀ k, k < 12 → farVote.portState k ≠ 3 := by decide

/-- The SLEEP-AT that goes out is itself a wake request, and cancels the sleep. -/
theorem sleepStateAfter_sleepVoteReceive_farVote : sleepStateAfter (exec (.sleepVoteReceive 1) farVote) = 0 := by decide

/-- Refutes O48: the statement keeps the ports 0 to 11 awake, but does not bound the port of a peer. Where SLEEP-AT leaves by a sleeping
port 12 it is a wake request, which the sleep just voted does not outlast. -/
theorem not_sleepAndWake : ¬ Obligations.SleepAndWake := by
  intro h
  obtain ⟨_, _, hvote, _⟩ := h
  obtain ⟨t, ht, hstate, _⟩ := (hvote 1 farVote (by decide) (by decide) (by decide)).2 (by decide) (by decide) rfl portState_farVote
  have hcancelled := sleepStateAfter_sleepVoteReceive_farVote
  rw [ht, sleepStateAfter, hstate] at hcancelled
  cases hcancelled

end Sys2Proof.Machine
end

section
/-! SUPPORT. A conversion that is clean (R407, R408). -/

namespace Sys2Proof.Machine

variable {s : State}

/-- The state in which a conversion of the input selected is judged: CUR shows it and CONV counts. -/
def State.converted (s : State) : State := (s.setF F.MON_STAT_CUR 0 s.mon0).incF F.MON_CONV_CNT 0

theorem State.monOf_converted (s : State) (k : Nat) : s.converted.monOf k = s.monOf k := rfl

theorem State.getF_converted_satf (s : State) (i : Nat) : s.converted.getF F.MON_FLG_SATF i = s.getF F.MON_FLG_SATF i := by
  rw [converted, incF, addF, getF_setF_other (Fld.key_ne_of_id_lt (by decide) (by decide)).symm,
    getF_setF_other (Fld.key_ne_of_id_lt (by decide) (by decide)).symm]

theorem exec_conversionEnd_clean {raw : Int} (hv : s.sumac.vio = true) (h0 : 0 ≤ raw) (h1 : raw ≤ 65535)
    (hd : s.getF F.MON_STAT_DLEFT 0 = 0) :
    exec (.conversionEnd raw) s = .next { s.converted.monClean s.mon0 raw.toNat with mon0 := s.getF F.MON_SEL_SEL 0 } := by
  simp only [exec, execConversionEnd, if_pos hv, if_neg (show ¬ (raw < 0 ∨ 65535 < raw) by omega), hd]
  rfl

theorem State.monClean_below {i c : Nat} (h : (s.monOf i).cnt + 1 < 4294967296) :
    s.monClean i c = s.setMon i { (s.monOf i).track c with sum := (s.monOf i).sum + c, cnt := (s.monOf i).cnt + 1 } := if_pos h

theorem State.monClean_full {i c : Nat} (h : ¬ (s.monOf i).cnt + 1 < 4294967296) :
    s.monClean i c = (s.setMon i ((s.monOf i).track c)).setF F.MON_FLG_SATF i 1 := if_neg h

/-- Settles O53: a clean conversion is counted below the limit, and only tracked at it. -/
theorem monitorCountSaturates : Obligations.MonitorCountSaturates := by
  refine ⟨fun raw s hv h0 h1 hd => ⟨fun hc => ?_, fun hc => ?_⟩, by decide⟩ <;>
    refine ⟨_, exec_conversionEnd_clean hv h0 h1 hd, ?_⟩
  · have hmon := State.monOf_setMon_same s.converted s.mon0
    rw [State.monClean_below (s := s.converted) (show _ + 1 < 4294967296 by rw [State.monOf_converted]; omega)]
    exact ⟨congrArg MonSt.sum (hmon _), congrArg MonSt.cnt (hmon _), s.getF_converted_satf _⟩
  · have hmon := State.monOf_setMon_same s.converted s.mon0 ((s.monOf s.mon0).track raw.toNat)
    rw [State.monClean_full (s := s.converted) (show ¬ _ + 1 < 4294967296 by rw [State.monOf_converted]; omega)]
    exact ⟨(congrArg MonSt.sum hmon :), (congrArg MonSt.cnt hmon :), State.getF_setF_same ..⟩

end Sys2Proof.Machine
end

section
/-! SUPPORT. Events and their messages (R446). -/

namespace Sys2Proof.Machine

variable {s t : State}

theorem State.raise_standing {f k : Nat} (h : hasBit (s.getF F.HST_EVT_EVT f) k = true) : s.raise f k = s.noteEv f k := by
  rw [raise, if_pos h]

/-- The state in which the event bit has just been set. -/
def State.eventSet (s : State) (f k : Nat) : State := (s.noteEv f k).setF F.HST_EVT_EVT f (setBit (s.getF F.HST_EVT_EVT f) k)

theorem State.raise_masked {f k : Nat} (h : hasBit (s.getF F.HST_EVT_EVT f) k = false)
    (hm : hasBit (s.getF F.HST_EVMSK_MSK f) k = true) : s.raise f k = s.eventSet f k := by
  rw [raise, h, hm]
  rfl

theorem State.raise_unmasked {f k : Nat} (h : hasBit (s.getF F.HST_EVT_EVT f) k = false)
    (hm : hasBit (s.getF F.HST_EVMSK_MSK f) k = false) : s.raise f k = (s.eventSet f k).msix f k := by
  rw [raise, h, hm]
  rfl

theorem State.msix_sends {f k : Nat} (he : hasBit s.msixEn f = true) (hm : s.getF F.MSIX_CTRL_MASK (k * 17 + f) = 0) :
    s.msix f k = s.log (.msix (if h : f < 16 then .vf ⟨f, h⟩ else .pf0) k) := by
  rw [msix, he, hm]
  rfl

theorem State.msix_waits {f k : Nat} (h : hasBit s.msixEn f = false ∨ s.getF F.MSIX_CTRL_MASK (k * 17 + f) ≠ 0) :
    s.msix f k = s.setF F.MSIX_PBA_PEND f (setBit (s.getF F.MSIX_PBA_PEND f) k) := by
  rw [msix, if_neg]
  simpa [← Bool.not_eq_true, imp_iff_not_or] using h

theorem State.mask_eventSet {f k i : Nat} (hf : f < 1048576) :
    (s.eventSet f k).getF F.MSIX_CTRL_MASK i = s.getF F.MSIX_CTRL_MASK i :=
  State.getF_setF_other (Fld.key_ne_of_id_lt (by decide) hf).symm

/-! ### A write of HST_EVMSK -/

/-- What a new mask `m` does for vector `k`: a standing event that it unmasks sends its message. -/
def State.unmaskOne (s : State) (f m : Nat) (a : State) (k : Nat) : State :=
  if hasBit (s.getF F.HST_EVMSK_MSK f) k && !hasBit m k && hasBit (s.getF F.HST_EVT_EVT f) k then a.msix f k else a

/-- The mask that a function's write leaves. -/
def evmskOf (fn : Fn) (m : Nat) : Nat := m % (if fn = .pf0 then 256 else 65536)

theorem exec_evmskWrite {fn : Fn} (h : fn = .pf0 ∨ s.vfLive fn = true) (m : Nat) : exec (.evmskWrite fn m) s =
    .next ((List.range 16).foldl (s.unmaskOne (fnIx fn) (evmskOf fn m)) (s.setF F.HST_EVMSK_MSK (fnIx fn) (evmskOf fn m))) := by
  have hm : (if fn = .pf0 then m % 256 else m % 65536) = evmskOf fn m := by
    unfold evmskOf
    split <;> rfl
  simp only [exec, execEvmskWrite, hm]
  rw [if_pos (by simpa using h)]
  rfl

/-- Between `s` and `t` function `f` may have sent messages or set pending bits, and no message is gone. -/
structure Messaged (f : Nat) (s t : State) : Prop where
  frame : { t with reg := s.reg, out := s.out } = s
  regs : RegsBut [F.MSIX_PBA_PEND.key f] s t
  out : s.out ⊆ t.out

theorem Messaged.refl (f : Nat) (s : State) : Messaged f s s := ⟨rfl, .refl _ s, List.Subset.refl _⟩

theorem Messaged.msix {f : Nat} (h : Messaged f s t) (k : Nat) : Messaged f s (t.msix f k) := by
  refine ⟨?_, h.regs.trans (t.msix_regs f k), ?_⟩
  · have hm := congrArg (fun u : State => { u with reg := s.reg, out := s.out }) (t.msix_frame f k)
    exact hm.trans h.frame
  · obtain ⟨fn, hs⟩ | hs := t.msix_cases f k <;> rw [hs]
    · exact fun _ hx => List.mem_cons_of_mem _ (h.out hx)
    · exact h.out

theorem Messaged.unmaskOne {f m : Nat} {a : State} (h : Messaged f s t) (k : Nat) : Messaged f s (a.unmaskOne f m t k) := by
  unfold State.unmaskOne
  split
  · exact h.msix k
  · exact h

theorem Messaged.foldl_unmaskOne {f m : Nat} {a : State} {l : List Nat} (h : Messaged f s t) :
    Messaged f s (l.foldl (a.unmaskOne f m) t) :=
  List.foldlRecOn (motive := Messaged f s) l _ h fun _ hb k _ => hb.unmaskOne k

theorem Messaged.mask {f i : Nat} (h : Messaged f s t) (hi : i < 1048576) :
    t.getF F.MSIX_CTRL_MASK i = s.getF F.MSIX_CTRL_MASK i :=
  h.regs.getF (by simpa using Fld.key_ne_of_id_lt (by decide) hi)

/-- A vector that is unmasked while its event stands, in a table whose entry is not masked, is in the log. -/
theorem State.foldl_unmaskOne_sends {f m k : Nat} {l : List Nat} (hk : k ∈ l) (h1 : hasBit (s.getF F.HST_EVMSK_MSK f) k = true)
    (h0 : hasBit m k = false) (hev : hasBit (s.getF F.HST_EVT_EVT f) k = true) (hi : k * 17 + f < 1048576)
    (he : hasBit t.msixEn f = true) (hm : t.getF F.MSIX_CTRL_MASK (k * 17 + f) = 0) :
    Out.msix (if h : f < 16 then .vf ⟨f, h⟩ else .pf0) k ∈ (l.foldl (s.unmaskOne f m) t).out := by
  obtain ⟨before, after, rfl⟩ := List.append_of_mem hk
  rw [List.foldl_append, List.foldl_cons]
  have hb : Messaged f t (before.foldl (s.unmaskOne f m) t) := (Messaged.refl f t).foldl_unmaskOne
  refine (Messaged.foldl_unmaskOne (Messaged.refl f _)).out ?_
  rw [unmaskOne, h1, h0, hev, show (true && !false && true) = true from rfl, if_pos rfl, msix_sends]
  · exact List.mem_cons_self
  · have hen := congrArg State.msixEn hb.frame
    rw [show (before.foldl (s.unmaskOne f m) t).msixEn = t.msixEn from hen, he]
  · rw [hb.mask hi, hm]

theorem State.unmaskOne_of_no_event {f m k : Nat} (h : hasBit (s.getF F.HST_EVT_EVT f) k = false) : s.unmaskOne f m t k = t := by
  rw [unmaskOne, h, Bool.and_false]
  rfl

theorem State.foldl_unmaskOne_of_no_event {f m : Nat} {l : List Nat} (h : ∀ k ∈ l, hasBit (s.getF F.HST_EVT_EVT f) k = false) :
    l.foldl (s.unmaskOne f m) t = t :=
  List.foldlRecOn (motive := (· = t)) l _ rfl fun _ hb k hk => (unmaskOne_of_no_event (h k hk)).trans hb

theorem fnIx_lt (fn : Fn) : fnIx fn < 17 := by
  cases fn with
  | pf0 => decide
  | vf n => exact Nat.lt_succ_of_lt n.isLt

theorem fn_of_fnIx (fn : Fn) : (if h : fnIx fn < 16 then Fn.vf ⟨fnIx fn, h⟩ else .pf0) = fn := by
  cases fn with
  | pf0 => rfl
  | vf n => exact dif_pos n.isLt

theorem evmskOf_lt (fn : Fn) (m : Nat) : evmskOf fn m < 2 ^ 16 := by
  unfold evmskOf
  split <;> omega

/-- Settles O58: an event sends its message when it rises unmasked, and when a mask write uncovers it. -/
theorem eventVectors : Obligations.EventVectors := by
  refine ⟨fun s f k h => ?_, fun s f k hk h => ?_, fun fn m v s hfn hv => ?_, fun fn m s hfn hl => ?_⟩
  · rw [State.raise_standing h]
    rfl
  · have hf : f.val < 1048576 := by omega
    refine ⟨State.hasBit_getF_raise hk s _, fun hm => ?_, fun hm => ?_⟩
    · rw [State.raise_masked h hm]
      rfl
    · rw [State.raise_unmasked h hm]
      refine ⟨fun he hmask => ?_, fun hw => ?_⟩
      · rw [State.msix_sends (s := s.eventSet f k) he ((State.mask_eventSet hf).trans hmask)]
        rfl
      · have hwait := State.msix_waits (s := s.eventSet f k) (f := f) (k := k) (by rwa [State.mask_eventSet hf])
        rw [hwait, State.getF_setF_same]
        exact ⟨rfl, (hasBit_mod_two_pow (by simp [F.MSIX_PBA_PEND]; omega) _).trans (hasBit_setBit ..)⟩
  · obtain rfl : v = evmskOf fn m := hv
    have hix : fnIx fn < 1048576 := Nat.lt_trans (fnIx_lt fn) (by decide)
    have hs := (Messaged.refl (fnIx fn) (s.setF F.HST_EVMSK_MSK (fnIx fn) (evmskOf fn m))).foldl_unmaskOne (m := evmskOf fn m) (a := s)
      (l := List.range 16)
    refine ⟨_, exec_evmskWrite hfn m, ?_, fun k hk h1 h0 hev he hm => ?_, fun hno => ?_, ?_, fun j hj => ?_⟩
    · rw [hs.regs.getF (by simpa using Fld.key_ne_same (by decide)), State.getF_setF_same]
      exact Nat.mod_eq_of_lt (evmskOf_lt fn m)
    · have hsent := State.foldl_unmaskOne_sends (s := s) (t := s.setF F.HST_EVMSK_MSK (fnIx fn) (evmskOf fn m)) (List.mem_range.2 hk) h1 h0
        hev (by have := fnIx_lt fn; omega) he ((State.getF_setF_other (Fld.key_ne_of_id_lt (by decide) hix).symm).trans hm)
      rwa [fn_of_fnIx] at hsent
    · rw [State.foldl_unmaskOne_of_no_event fun k hk => hno k (List.mem_range.1 hk)]
      rfl
    · exact congrArg (fun u : State => { u with reg := s.reg, out := s.out }) hs.frame
    · simp only [keysAt, List.map_cons, List.map_nil, List.mem_cons, List.not_mem_nil, or_false, not_or] at hj
      exact (hs.regs j (by simpa using hj.2)).trans ((RegsBut.refl _ s).setF (List.mem_singleton_self _) j (by simpa using hj.1))
  · have hp : (fn = .pf0 || s.vfLive fn) = false := by simp [hfn, hl]
    simp only [exec, execEvmskWrite]
    rw [if_neg (by simp [hp])]
    rfl

end Sys2Proof.Machine
end

section
/-! SUPPORT. The NVM keys and GO (R422 to R424). -/

namespace Sys2Proof.Machine

variable {s t : State}

/-- Between `s` and `t` nothing changes but the register fields whose keys are in `w` and the record of the boot. -/
def BootOnly (w : List Nat) (s t : State) : Prop := { t with reg := s.reg, boot := s.boot } = s ∧ RegsBut w s t

theorem BootOnly.refl (w : List Nat) (s : State) : BootOnly w s s := ⟨rfl, .refl w s⟩

theorem BootOnly.setF {w : List Nat} (h : BootOnly w s t) {f : Fld} {i v : Nat} (hk : f.key i ∈ w) : BootOnly w s (t.setF f i v) :=
  ⟨h.1, h.2.setF hk⟩

theorem BootOnly.setBoot {w : List Nat} (h : BootOnly w s t) {b : BootSt} : BootOnly w s { t with boot := b } := h

theorem State.getF_setBoot (s : State) (b : BootSt) (f : Fld) (i : Nat) : ({ s with boot := b } : State).getF f i = s.getF f i := rfl

theorem State.keyOff_boot (s : State) : s.keyOff.boot = { s.boot with keySeq := 0 } := rfl

theorem State.getF_keyOff_keyarm (s : State) : s.keyOff.getF F.NVM_STAT_KEYARM 0 = 0 := State.getF_setF_same ..

theorem BootOnly.keyOff {w : List Nat} (h : BootOnly w s t) (hk : F.NVM_STAT_KEYARM.key 0 ∈ w) : BootOnly w s t.keyOff :=
  h.setBoot.setF hk

theorem exec_nvmKey_first {d : Nat} (h : d % 4294967296 = 0x53544F52) :
    exec (.nvmKey .pf0 d) s = .next { s.keyOff with boot := { s.keyOff.boot with keySeq := 1 } } := by
  simp only [exec, execNvmKey, h]
  rfl

theorem exec_nvmKey_second {d : Nat} (h : d % 4294967296 = 0xACABB0AD) (hk : s.boot.keySeq = 1) :
    exec (.nvmKey .pf0 d) s =
      .next (({ s.keyOff with boot := { s.keyOff.boot with keyNs := s.time.ticks } } : State).setF F.NVM_STAT_KEYARM 0 1) := by
  simp only [exec, execNvmKey, h, hk]
  rfl

theorem exec_nvmKey_wrong {d : Nat} (h1 : d % 4294967296 ≠ 0x53544F52) (h2 : d % 4294967296 ≠ 0xACABB0AD ∨ s.boot.keySeq ≠ 1) :
    exec (.nvmKey .pf0 d) s = .next s.keyOff := by
  simp only [exec, execNvmKey, if_neg h1, if_neg (not_and_or.2 h2)]
  rfl

theorem exec_keyarmExpire (s : State) :
    exec .keyarmExpire s = .next (if s.keyPast then s.setF F.NVM_STAT_KEYARM 0 0 else s) := rfl

theorem State.keyPast_iff : s.keyPast = true ↔ s.boot.keyNs + 10000 ≤ s.time.ticks := decide_eq_true_iff

/-! ### GO -/

/-- May a command start now: armed, within its time, and with none in progress? -/
def State.goArmed (s : State) : Bool := s.flag F.NVM_STAT_KEYARM 0 && !s.keyPast && !s.flag F.NVM_STAT_BUSY 0

/-- The fields that system time is read from. -/
def nowKeys : List Nat := keysAt 0 [F.TBS_WRAPCNT_WRAP, F.TBS_NS_NS, F.TBS_FRAC_FRAC]

theorem RegsBut.nowFix {w : List Nat} (h : RegsBut w s t) (hw : ∀ k ∈ nowKeys, k ∉ w) : t.nowFix = s.nowFix := by
  rw [State.nowFix, State.nowFix, h.getF (hw _ (by decide)), h.getF (hw _ (by decide)), h.getF (hw _ (by decide))]

theorem RegsBut.now {w : List Nat} (h : RegsBut w s t) (hw : ∀ k ∈ nowKeys, k ∉ w) : t.now = s.now :=
  congrArg Time.ofFix (h.nowFix hw)

theorem RegsBut.nowNs {w : List Nat} (h : RegsBut w s t) (hw : ∀ k ∈ nowKeys, k ∉ w) : t.nowNs = s.nowNs :=
  congrArg Time.toNs (h.now hw)

theorem State.goArmed_of_armed (ha : s.flag F.NVM_STAT_KEYARM 0 = true) (ht : s.time.ticks < s.boot.keyNs + 10000)
    (hb : s.flag F.NVM_STAT_BUSY 0 = false) : s.goArmed = true := by
  have hp : s.keyPast = false := decide_eq_false (by omega)
  rw [goArmed, ha, hp, hb]
  rfl

theorem State.goArmed_of_not (h : s.flag F.NVM_STAT_KEYARM 0 = false ∨ s.boot.keyNs + 10000 ≤ s.time.ticks ∨
    s.flag F.NVM_STAT_BUSY 0 = true) : s.goArmed = false := by
  obtain h | h | h := h
  · simp [goArmed, h]
  · simp [goArmed, keyPast_iff.2 h]
  · simp [goArmed, h]

/-- The state in which NVM_CMD names a slot. -/
def State.slotNamed (s : State) (n : Nat) : State := s.setF F.NVM_CMD_SLOT 0 n

theorem BootOnly.slotNamed {w : List Nat} (h : BootOnly w s t) (hk : F.NVM_CMD_SLOT.key 0 ∈ w) {n : Nat} :
    BootOnly w s (t.slotNamed n) :=
  h.setF hk

theorem State.slotNamed_boot (s : State) (n : Nat) : (s.slotNamed n).boot = s.boot := rfl

theorem State.slotNamed_psbuf (s : State) (n : Nat) : (s.slotNamed n).psbuf = s.psbuf := rfl

/-- The state in which a command has started. -/
def State.goStarted (s : State) (cmd slot : Nat) : State :=
  let s1 := s.keyOff.setF F.NVM_CMD_CMD 0 cmd
  ({ s1 with boot := { s1.boot with cmd := some (cmd, slot), cmdBuf := s.psbuf, cmdNs := s.nowNs } } : State).setF F.NVM_STAT_BUSY 0 1

/-- The state in which GO has failed. -/
def State.goFailed (s : State) (cmd : Nat) : State := (s.keyOff.setF F.NVM_CMD_CMD 0 cmd).setF F.NVM_STAT_FAIL 0 1

theorem State.nvmGo_starts {cmd slot : Nat} {allowed : Bool} (h : s.goArmed = true) (ha : allowed = true) :
    s.nvmGo cmd slot allowed = s.goStarted cmd slot := by
  refine if_pos ?_
  rw [← goArmed, h, ha]
  rfl

theorem State.nvmGo_fails {cmd slot : Nat} {allowed : Bool} (h : s.goArmed = false ∨ allowed = false) :
    s.nvmGo cmd slot allowed = s.goFailed cmd := by
  refine if_neg ?_
  rw [← goArmed]
  obtain h | h := h <;> simp [h]

theorem State.goStarted_boot (s : State) (cmd slot : Nat) :
    (s.goStarted cmd slot).boot = { s.boot with keySeq := 0, cmd := some (cmd, slot), cmdBuf := s.psbuf, cmdNs := s.nowNs } := rfl

theorem State.goStarted_slotNamed_boot (s : State) (cmd n : Nat) : ((s.slotNamed n).goStarted cmd n).boot =
    { s.boot with keySeq := 0, cmd := some (cmd, n), cmdBuf := s.psbuf, cmdNs := s.nowNs } := by
  have hn : (s.slotNamed n).nowNs = s.nowNs := (RegsBut.setF (RegsBut.refl [F.NVM_CMD_SLOT.key 0] s) (List.mem_singleton_self _)).nowNs
    (by decide)
  rw [goStarted_boot, hn, slotNamed_boot, slotNamed_psbuf]

theorem State.getF_goStarted_busy (s : State) (cmd slot : Nat) : (s.goStarted cmd slot).getF F.NVM_STAT_BUSY 0 = 1 :=
  State.getF_setF_same ..

theorem State.getF_goStarted_keyarm (s : State) (cmd slot : Nat) : (s.goStarted cmd slot).getF F.NVM_STAT_KEYARM 0 = 0 := by
  have hcmd : (s.keyOff.setF F.NVM_CMD_CMD 0 cmd).getF F.NVM_STAT_KEYARM 0 = 0 := by
    rw [getF_setF_other (Fld.key_ne_same (by decide)), getF_keyOff_keyarm]
  rw [goStarted, getF_setF_other (Fld.key_ne_same (by decide)), getF_setBoot, hcmd]

theorem BootOnly.goStarted {w : List Nat} (h : BootOnly w s t) {cmd slot : Nat}
    (hk : ∀ k ∈ keysAt 0 [F.NVM_STAT_KEYARM, F.NVM_STAT_BUSY, F.NVM_CMD_CMD], k ∈ w) : BootOnly w s (t.goStarted cmd slot) :=
  ((h.keyOff (hk _ (by decide))).setF (hk _ (by decide))).setBoot.setF (hk _ (by decide))

theorem State.goFailed_boot (s : State) (cmd : Nat) : (s.goFailed cmd).boot = { s.boot with keySeq := 0 } := rfl

theorem State.getF_goFailed_fail (s : State) (cmd : Nat) : (s.goFailed cmd).getF F.NVM_STAT_FAIL 0 = 1 := State.getF_setF_same ..

theorem BootOnly.goFailed {w : List Nat} (h : BootOnly w s t) {cmd : Nat}
    (hk : ∀ k ∈ keysAt 0 [F.NVM_STAT_KEYARM, F.NVM_STAT_FAIL, F.NVM_CMD_CMD], k ∈ w) : BootOnly w s (t.goFailed cmd) :=
  ((h.keyOff (hk _ (by decide))).setF (hk _ (by decide))).setF (hk _ (by decide))

theorem State.goArmed_slotNamed (s : State) (n : Nat) : (s.slotNamed n).goArmed = s.goArmed := by
  have hflag : ∀ f : Fld, f.id ≠ F.NVM_CMD_SLOT.id → (s.slotNamed n).flag f 0 = s.flag f 0 := fun f hf =>
    congrArg (· != 0) (getF_setF_other (Fld.key_ne_same hf))
  rw [goArmed, hflag _ (by decide), hflag _ (by decide)]
  rfl

theorem exec_nvmStore (s : State) : exec (.nvmStore .pf0) s = .next (s.nvmGo 1 0 true) := rfl

theorem exec_nvmProgram (n : Fin 2) (s : State) : exec (.nvmProgram .pf0 n) s =
    .next ((s.slotNamed n.val).nvmGo 2 n.val (s.keyState n.val == 0 && (s.psBytes 48).any (fun b => b != 0#8) &&
      (s.psBytes 48).any (fun b => b != 255#8))) := rfl

theorem exec_nvmRevoke (n : Fin 2) (s : State) : exec (.nvmRevoke .pf0 n) s =
    .next ((s.slotNamed n.val).nvmGo 3 n.val (s.keyState n.val == 1 && s.keyState (1 - n.val) == 1)) := rfl

/-! ### A write ends -/

theorem RegsBut.mono {w v : List Nat} (h : RegsBut w s t) (hv : w ⊆ v) : RegsBut v s t := fun k hk => h k fun hw => hk (hv hw)

/-- Between `s` and `t` nothing changes but the register fields whose keys are in `w`, the NVM, and the values drawn for it. -/
def NvmOnly (w : List Nat) (s t : State) : Prop :=
  { t with reg := s.reg, boot := s.boot, nvm := s.nvm, wear := s.wear, free := s.free } = s ∧ RegsBut w s t

theorem NvmOnly.refl (w : List Nat) (s : State) : NvmOnly w s s := ⟨rfl, .refl w s⟩

theorem NvmOnly.setF {w : List Nat} (h : NvmOnly w s t) {f : Fld} {i v : Nat} (hk : f.key i ∈ w) : NvmOnly w s (t.setF f i v) :=
  ⟨h.1, h.2.setF hk⟩

theorem NvmOnly.setFs {w : List Nat} (h : NvmOnly w s t) {i : Nat} {l : List (Fld × Nat)} (hk : ∀ p ∈ l, p.1.key i ∈ w) :
    NvmOnly w s (t.setFs i l) :=
  List.foldlRecOn (motive := NvmOnly w s) l _ h fun _ ha p hp => ha.setF (hk p hp)

theorem NvmOnly.ite {w : List Nat} {c : Prop} [Decidable c] {u : State} (ht : NvmOnly w s t) (hu : NvmOnly w s u) :
    NvmOnly w s (if c then t else u) := by
  split
  · exact ht
  · exact hu

/-- A page write touches the fields of wear alone. -/
theorem NvmOnly.nvmPut {w : List Nat} (h : NvmOnly w s t) (hk : F.NVM_WEAR_MAX.key 0 ∈ w) (a : Nat) (l : List Byte) :
    NvmOnly w s (t.nvmPut a l) :=
  NvmOnly.ite (NvmOnly.setF h hk) h

theorem NvmOnly.nvmCut {w : List Nat} (h : NvmOnly w s t) (hk : F.NVM_WEAR_MAX.key 0 ∈ w) (a : Nat) : NvmOnly w s (t.nvmCut a) :=
  NvmOnly.nvmPut (t := { t with free := t.free + 255 }) h hk a _

/-- The fields of the fault log and of wear. -/
def logKeys : List Nat := keysAt 0 [F.NVM_WEAR_MAX, F.NVM_FLHEAD_HEAD, F.NVM_FLCNT_CNT, F.NVM_FLDROP_CNT]

theorem NvmOnly.faultLog {w : List Nat} (h : NvmOnly w s t) (hk : ∀ k ∈ logKeys, k ∈ w) (typ unit : Nat) :
    NvmOnly w s (t.faultLog typ unit) :=
  NvmOnly.ite (h.setF (hk _ (by decide)))
    (((NvmOnly.nvmPut (t := { t with free := t.free + 12, boot := { t.boot with logTick := some t.time.ticks } }) h
      (hk _ (by decide)) _ _).setF (hk _ (by decide))).setF (hk _ (by decide)))

/-- The bytes of a write, into a table from address `a`. -/
def nvmTable (m : Tbl Byte) (a : Nat) (l : List Byte) : Tbl Byte :=
  (l.zip (List.range l.length)).foldl (fun t p => Tbl.set (fun _ => (0 : Byte)) t (a + p.2) p.1) m

theorem State.nvmPut_nvm (s : State) (a : Nat) (l : List Byte) : (s.nvmPut a l).nvm = nvmTable s.nvm a l := by
  unfold nvmPut
  extract_lets pg n m s1
  split <;> rfl

theorem nvmTable_concat (m : Tbl Byte) (a : Nat) (l : List Byte) (b : Byte) :
    nvmTable m a (l ++ [b]) = Tbl.set (fun _ => (0 : Byte)) (nvmTable m a l) (a + l.length) b := by
  rw [nvmTable, List.length_append, List.length_singleton, List.range_succ, List.zip_append (by simp), List.foldl_append]
  rfl

theorem get_nvmTable (m : Tbl Byte) (a : Nat) (l : List Byte) {k : Nat} (hk : k < l.length) :
    Tbl.get (fun _ => (0 : Byte)) (nvmTable m a l) (a + k) = l[k] := by
  induction l using List.reverseRecOn with
  | nil => exact absurd hk (Nat.not_lt_zero k)
  | append_singleton l b ih =>
    rw [nvmTable_concat]
    by_cases he : k = l.length
    · subst he
      rw [Tbl.get_set_same, List.getElem_concat_length rfl]
    · have hk' : k < l.length := by
        rw [List.length_append, List.length_singleton] at hk
        omega
      rw [Tbl.get_set_other (by omega), ih hk', List.getElem_append_left hk']

/-- What was put is read back. -/
theorem State.nvmBytes_nvmPut (s : State) (a : Nat) (l : List Byte) : (s.nvmPut a l).nvmBytes a l.length = l := by
  refine List.ext_getElem (by simp [nvmBytes]) fun k h1 h2 => ?_
  simp only [nvmBytes, List.getElem_map, List.getElem_range, nvmPut_nvm, get_nvmTable _ _ _ h2]

theorem State.nvmBytes_of_nvm (h : t.nvm = s.nvm) (a n : Nat) : t.nvmBytes a n = s.nvmBytes a n := by
  rw [nvmBytes, nvmBytes, h]

theorem State.length_storedPage (s : State) : s.storedPage.length = 1024 := by
  simp [storedPage, cmdBytes, leBytes]

/-- The command is over: BUSY falls and PF0 has its event. -/
def State.cmdOver (s : State) : State :=
  (({ s with boot := { s.boot with cmd := none } } : State).setF F.NVM_STAT_BUSY 0 0).raisePf 6

theorem exec_nvmWriteDone_good {c n : Nat} (hc : s.boot.cmd = some (c, n)) (hw : c ≠ 1 ∨ s.storeWaits = false) :
    exec (.nvmWriteDone true) s = .next ((s.nvmWritten c n).setF F.NVM_STAT_DONE 0 1).cmdOver.standbyTry := by
  have hgo : ¬ (c = 1 ∧ s.storeWaits = true) := by
    rintro ⟨h1, h2⟩
    simp [h1, h2] at hw
  simp only [exec, execNvmWriteDone, hc, if_neg hgo]
  rfl

theorem exec_nvmWriteDone_bad {c n : Nat} (hc : s.boot.cmd = some (c, n)) (hw : c ≠ 1 ∨ s.storeWaits = false) :
    exec (.nvmWriteDone false) s =
      .next ((s.cmdCut.setF F.NVM_STAT_FAIL 0 1).faultLog 5 (if c = 1 then s.storePage else 2 + n)).cmdOver.standbyTry := by
  have hgo : ¬ (c = 1 ∧ s.storeWaits = true) := by
    rintro ⟨h1, h2⟩
    simp [h1, h2] at hw
  simp only [exec, execNvmWriteDone, hc, if_neg hgo]
  rfl

theorem State.standbyTry_frame (s : State) : { s.standbyTry with reg := s.reg, nutmeg := s.nutmeg, out := s.out } = s := by
  unfold standbyTry
  split <;> rfl

theorem State.standbyTry_regs (s : State) : RegsBut [F.GLB_PWRSTAT_STATE.key 0] s s.standbyTry := by
  unfold standbyTry
  split
  · exact (RegsBut.refl _ s).setF (f := F.GLB_PWRSTAT_STATE) (i := 0) (v := 3) (List.mem_singleton_self _)
  · exact .refl _ s

/-- What the end of a command writes, apart from what the write left. -/
def overKeys : List Nat :=
  [F.NVM_STAT_BUSY.key 0, F.HST_EVT_EVT.key 16, F.MSIX_PBA_PEND.key 16, F.GLB_PWRSTAT_STATE.key 0]

theorem State.cmdOver_frame (s : State) :
    { s.cmdOver.standbyTry with reg := s.reg, boot := s.boot, evAt := s.evAt, out := s.out, nutmeg := s.nutmeg } = s := by
  have h1 := State.raise_frame (({ s with boot := { s.boot with cmd := none } } : State).setF F.NVM_STAT_BUSY 0 0) 16 6
  have h2 := s.cmdOver.standbyTry_frame
  have h3 := congrArg (fun u : State => { u with reg := s.reg, boot := s.boot, evAt := s.evAt, out := s.out, nutmeg := s.nutmeg }) h1
  exact (congrArg (fun u : State => { u with reg := s.reg, boot := s.boot, evAt := s.evAt, out := s.out, nutmeg := s.nutmeg }) h2).trans h3

theorem State.cmdOver_nvm (s : State) : s.cmdOver.standbyTry.nvm = s.nvm := (congrArg State.nvm s.cmdOver_frame :)

theorem State.cmdOver_regs (s : State) : RegsBut overKeys s s.cmdOver.standbyTry := by
  have h1 : RegsBut overKeys s (({ s with boot := { s.boot with cmd := none } } : State).setF F.NVM_STAT_BUSY 0 0) :=
    (RegsBut.refl _ s).setF (f := F.NVM_STAT_BUSY) (i := 0) (v := 0) (by decide)
  have h2 : RegsBut overKeys s s.cmdOver := h1.trans ((State.raise_regs _ 16 6).mono (by decide))
  exact h2.trans (s.cmdOver.standbyTry_regs.mono (by decide))

theorem State.cmdOver_boot (s : State) : s.cmdOver.standbyTry.boot = { s.boot with cmd := none } := by
  have h1 := congrArg State.boot (State.raise_frame (({ s with boot := { s.boot with cmd := none } } : State).setF F.NVM_STAT_BUSY 0 0) 16 6)
  have h2 := congrArg State.boot s.cmdOver.standbyTry_frame
  exact h2.trans h1

theorem State.getF_cmdOver_busy (s : State) : s.cmdOver.standbyTry.getF F.NVM_STAT_BUSY 0 = 0 := by
  rw [s.cmdOver.standbyTry_regs.getF (by decide), cmdOver, raisePf, (State.raise_regs _ 16 6).getF (by decide)]
  exact getF_setF_same ..

theorem State.hasBit_evt_cmdOver (s : State) : hasBit (s.cmdOver.standbyTry.getF F.HST_EVT_EVT 16) 6 = true := by
  rw [s.cmdOver.standbyTry_regs.getF (by decide)]
  exact State.hasBit_getF_raise (by decide) _ 16

/-- The field that holds the state of a key slot. -/
def keyFld (n : Nat) : Fld := if n = 0 then F.NVM_KSTAT_K0 else F.NVM_KSTAT_K1

theorem keyFld_cases (n : Nat) : keyFld n = F.NVM_KSTAT_K0 ∨ keyFld n = F.NVM_KSTAT_K1 := by
  unfold keyFld
  split
  · exact .inl rfl
  · exact .inr rfl

theorem keyState_kept {w : List Nat} (h : RegsBut w s t) (h0 : F.NVM_KSTAT_K0.key 0 ∉ w) (h1 : F.NVM_KSTAT_K1.key 0 ∉ w) (n : Nat) :
    t.keyState n = s.keyState n := by
  obtain hn | hn := keyFld_cases n <;> rw [State.keyState, State.keyState, ← keyFld, hn]
  · exact h.getF h0
  · exact h.getF h1

theorem keyState_setF (s : State) (n : Nat) {v : Nat} (hv : v < 4) : (s.setF (keyFld n) 0 v).keyState n = v := by
  rw [State.keyState, ← keyFld, State.getF_setF_same]
  obtain hn | hn := keyFld_cases n <;> rw [hn] <;> exact Nat.mod_eq_of_lt hv

theorem State.nvmWritten_key (s : State) {c : Nat} (hc : c = 2 ∨ c = 3) (n : Nat) : (s.nvmWritten c n).keyState n = c - 1 := by
  obtain rfl | rfl := hc
  · exact keyState_setF _ n (by decide)
  · exact keyState_setF _ n (by decide)

theorem State.cmdCut_key {c n : Nat} (h : s.boot.cmd = some (c, n)) (hc : c ≠ 1) : s.cmdCut.keyState n = 3 := by
  have hs : s.cmdCut = s.slotCorrupt n := by
    unfold cmdCut
    rw [h]
    split
    · next he => simp_all
    · next he => simp_all
    · next he => simp_all
  rw [hs]
  have hcut := (NvmOnly.refl [F.NVM_WEAR_MAX.key 0] (s.setF (keyFld n) 0 3)).nvmCut (List.mem_singleton_self _) ((2 + n) * 1024)
  exact (keyState_kept hcut.2 (by decide) (by decide) n).trans (keyState_setF s n (by decide))

/-- What a write of the NVM may write besides. -/
def writtenKeys (n : Nat) : List Nat :=
  keysAt 0 [F.NVM_WEAR_MAX, F.NVM_KSTAT_K0, F.NVM_KSTAT_K1, F.NVM_STAT_PSCOPY, F.NVM_STAT_PSVALID, F.NVM_PSSEQ_SEQ] ++
    (List.range 12).map fun w => F.NVM_KDIG_DIG.key (n * 12 + w)

theorem keyFld_mem_writtenKeys (n m : Nat) : (keyFld n).key 0 ∈ writtenKeys m := by
  obtain hn | hn := keyFld_cases n <;> rw [hn] <;> exact List.mem_append_left _ (by decide)

theorem wear_mem_writtenKeys (n : Nat) : F.NVM_WEAR_MAX.key 0 ∈ writtenKeys n := List.mem_append_left _ (by decide)

theorem State.nvmWritten_only (s : State) (c n : Nat) : NvmOnly (writtenKeys n) s (s.nvmWritten c n) := by
  unfold nvmWritten
  split
  · refine ((NvmOnly.refl _ s).nvmPut (wear_mem_writtenKeys n) _ _).setFs fun p hp => List.mem_append_left _ ?_
    simp only [List.mem_cons, List.not_mem_nil, or_false] at hp
    obtain rfl | rfl | rfl := hp <;> simp [keysAt]
  · refine NvmOnly.setF (NvmOnly.nvmPut (List.foldlRecOn (motive := NvmOnly (writtenKeys n) s) _ _ (.refl _ s) fun _ ha w hw =>
      ha.setF (List.mem_append_right _ (List.mem_map_of_mem hw))) (wear_mem_writtenKeys n) _ _) (keyFld_mem_writtenKeys n n)
  · exact ((NvmOnly.refl _ s).nvmPut (wear_mem_writtenKeys n) _ _).setF (keyFld_mem_writtenKeys n n)

theorem State.cmdCut_only (s : State) : NvmOnly (writtenKeys 0) s s.cmdCut := by
  unfold cmdCut
  split
  · exact (NvmOnly.refl _ s).nvmCut (wear_mem_writtenKeys 0) _
  · exact ((NvmOnly.refl _ s).setF (keyFld_mem_writtenKeys _ 0)).nvmCut (wear_mem_writtenKeys 0) _
  · exact .refl _ s

/-- What a write and its end leave of the rest of the chip. -/
theorem NvmOnly.over {w : List Nat} (h : NvmOnly w s t) : t.cmdOver.standbyTry.dram = s.dram ∧ t.cmdOver.standbyTry.bb = s.bb ∧
    t.cmdOver.standbyTry.cstore = s.cstore ∧ t.cmdOver.standbyTry.chan = s.chan ∧ t.cmdOver.standbyTry.site = s.site := by
  have hf := t.cmdOver_frame
  exact ⟨(congrArg State.dram hf).trans (congrArg State.dram h.1 :), (congrArg State.bb hf).trans (congrArg State.bb h.1 :),
    (congrArg State.cstore hf).trans (congrArg State.cstore h.1 :), (congrArg State.chan hf).trans (congrArg State.chan h.1 :),
    (congrArg State.site hf).trans (congrArg State.site h.1 :)⟩

/-- The fields that show what a STORE has written. -/
def State.storeFlds (s : State) : List (Fld × Nat) :=
  [(F.NVM_STAT_PSCOPY, s.storePage - 114), (F.NVM_STAT_PSVALID, 1), (F.NVM_PSSEQ_SEQ, s.getF F.NVM_PSSEQ_SEQ 0 + 1)]

theorem State.nvmWritten_store (s : State) (n : Nat) :
    s.nvmWritten 1 n = (s.nvmPut (s.storePage * 1024) s.storedPage).setFs 0 s.storeFlds := rfl

theorem State.getF_nvmWritten_store (s : State) (n : Nat) : (s.nvmWritten 1 n).getF F.NVM_STAT_PSVALID 0 = 1 := by
  rw [nvmWritten_store]
  exact getF_setFs_mem (p := (F.NVM_STAT_PSVALID, 1)) (by simp [storeFlds])
    (by simp [storeFlds, F.NVM_STAT_PSCOPY, F.NVM_STAT_PSVALID, F.NVM_PSSEQ_SEQ]) 0

theorem State.nvmBytes_nvmWritten_store (s : State) (n : Nat) :
    (s.nvmWritten 1 n).nvmBytes (s.storePage * 1024) 1024 = s.storedPage := by
  have hset : ((s.nvmPut (s.storePage * 1024) s.storedPage).setFs 0 s.storeFlds).nvm = (s.nvmPut (s.storePage * 1024) s.storedPage).nvm :=
    (congrArg State.nvm ((s.nvmPut (s.storePage * 1024) s.storedPage).setFs_regsOnly 0 s.storeFlds).1 :)
  have hb := s.nvmBytes_nvmPut (s.storePage * 1024) s.storedPage
  rw [s.length_storedPage] at hb
  rw [nvmWritten_store, nvmBytes_of_nvm hset, hb]

theorem State.getF_over_of_setF (s : State) {f : Fld} {v : Nat} (hf : f.key 0 ∉ overKeys) :
    ((s.setF f 0 v).cmdOver.standbyTry).getF f 0 = v % 2 ^ f.width := by
  rw [(s.setF f 0 v).cmdOver_regs.getF hf, getF_setF_same]

theorem nvmKey_first {d : Nat} (h : d % 4294967296 = 0x53544F52) : ∃ t, exec (.nvmKey .pf0 d) s = .next t ∧
    t.boot = { s.boot with keySeq := 1 } ∧ t.getF F.NVM_STAT_KEYARM 0 = 0 ∧ BootOnly [F.NVM_STAT_KEYARM.key 0] s t := by
  refine ⟨_, exec_nvmKey_first h, rfl, ?_, ((BootOnly.refl _ s).keyOff (List.mem_singleton_self _)).setBoot⟩
  rw [State.getF_setBoot, s.getF_keyOff_keyarm]

theorem nvmKey_second {d : Nat} (h : d % 4294967296 = 0xACABB0AD) (hk : s.boot.keySeq = 1) : ∃ t, exec (.nvmKey .pf0 d) s = .next t ∧
    t.boot = { s.boot with keySeq := 0, keyNs := s.time.ticks } ∧ t.getF F.NVM_STAT_KEYARM 0 = 1 ∧
    BootOnly [F.NVM_STAT_KEYARM.key 0] s t :=
  ⟨_, exec_nvmKey_second h hk, rfl, State.getF_setF_same ..,
    ((BootOnly.refl _ s).keyOff (List.mem_singleton_self _)).setBoot.setF (List.mem_singleton_self _)⟩

theorem nvmKey_wrong {d : Nat} (h1 : d % 4294967296 ≠ 0x53544F52) (h2 : d % 4294967296 ≠ 0xACABB0AD ∨ s.boot.keySeq ≠ 1) :
    ∃ t, exec (.nvmKey .pf0 d) s = .next t ∧ t.boot = { s.boot with keySeq := 0 } ∧ t.getF F.NVM_STAT_KEYARM 0 = 0 ∧
      BootOnly [F.NVM_STAT_KEYARM.key 0] s t :=
  ⟨_, exec_nvmKey_wrong h1 h2, rfl, s.getF_keyOff_keyarm, (BootOnly.refl _ s).keyOff (List.mem_singleton_self _)⟩

theorem nvmStore_starts (h : s.goArmed = true) : ∃ t, exec (.nvmStore .pf0) s = .next t ∧
    t.boot = { s.boot with keySeq := 0, cmd := some (1, 0), cmdBuf := s.psbuf, cmdNs := s.nowNs } ∧
    t.getF F.NVM_STAT_BUSY 0 = 1 ∧ t.getF F.NVM_STAT_KEYARM 0 = 0 ∧
    BootOnly (keysAt 0 [F.NVM_STAT_KEYARM, F.NVM_STAT_BUSY, F.NVM_CMD_CMD]) s t := by
  rw [exec_nvmStore, State.nvmGo_starts h rfl]
  exact ⟨_, rfl, s.goStarted_boot 1 0, s.getF_goStarted_busy .., s.getF_goStarted_keyarm .., (BootOnly.refl _ s).goStarted fun _ hk => hk⟩

/-- A command on a slot that may start. -/
theorem slotCommand_starts {i : Instr} {cmd n : Nat} {allowed : Bool} (hi : exec i s = .next ((s.slotNamed n).nvmGo cmd n allowed))
    (h : s.goArmed = true) (ha : allowed = true) : ∃ t, exec i s = .next t ∧
    t.boot = { s.boot with keySeq := 0, cmd := some (cmd, n), cmdBuf := s.psbuf, cmdNs := s.nowNs } ∧
    t.getF F.NVM_STAT_BUSY 0 = 1 ∧ t.getF F.NVM_STAT_KEYARM 0 = 0 ∧
    BootOnly (keysAt 0 [F.NVM_STAT_KEYARM, F.NVM_STAT_BUSY, F.NVM_CMD_CMD, F.NVM_CMD_SLOT]) s t := by
  rw [State.nvmGo_starts ((s.goArmed_slotNamed n).trans h) ha] at hi
  exact ⟨_, hi, s.goStarted_slotNamed_boot cmd n, State.getF_goStarted_busy .., State.getF_goStarted_keyarm ..,
    ((BootOnly.refl _ s).slotNamed (by decide)).goStarted (by decide)⟩

/-- A command on a slot that may not. -/
theorem slotCommand_fails {i : Instr} {cmd n : Nat} {allowed : Bool} (hi : exec i s = .next ((s.slotNamed n).nvmGo cmd n allowed))
    (h : s.goArmed = false ∨ allowed = false) : ∃ t, exec i s = .next t ∧ t.getF F.NVM_STAT_FAIL 0 = 1 ∧
    t.boot = { s.boot with keySeq := 0 } := by
  rw [State.nvmGo_fails (h.imp_left (s.goArmed_slotNamed n).trans)] at hi
  exact ⟨_, hi, State.getF_goFailed_fail .., rfl⟩

/-- The end of a command whose write succeeds. -/
theorem nvmWriteDone_good {c n : Nat} (hc : s.boot.cmd = some (c, n)) (hw : c ≠ 1 ∨ s.storeWaits = false) :
    ∃ t, exec (.nvmWriteDone true) s = .next t ∧ t.boot.cmd = none ∧ t.getF F.NVM_STAT_BUSY 0 = 0 ∧
      hasBit (t.getF F.HST_EVT_EVT 16) 6 = true ∧ t.getF F.NVM_STAT_DONE 0 = 1 ∧
      (c = 1 → t.getF F.NVM_STAT_PSVALID 0 = 1 ∧ t.nvmBytes (s.storePage * 1024) 1024 = s.storedPage) ∧
      (c = 2 ∨ c = 3 → t.keyState n = c - 1) ∧
      t.dram = s.dram ∧ t.bb = s.bb ∧ t.cstore = s.cstore ∧ t.chan = s.chan ∧ t.site = s.site := by
  have hdone : NvmOnly (F.NVM_STAT_DONE.key 0 :: writtenKeys n) s ((s.nvmWritten c n).setF F.NVM_STAT_DONE 0 1) :=
    NvmOnly.setF ⟨(s.nvmWritten_only c n).1, (s.nvmWritten_only c n).2.mono (List.subset_cons_self _ _)⟩ List.mem_cons_self
  have hset : RegsBut [F.NVM_STAT_DONE.key 0] (s.nvmWritten c n) ((s.nvmWritten c n).setF F.NVM_STAT_DONE 0 1) :=
    (RegsBut.refl _ _).setF (List.mem_singleton_self _)
  have hregs := ((s.nvmWritten c n).setF F.NVM_STAT_DONE 0 1).cmdOver_regs
  refine ⟨_, exec_nvmWriteDone_good hc hw, (congrArg BootSt.cmd (State.cmdOver_boot _) :), State.getF_cmdOver_busy _,
    State.hasBit_evt_cmdOver _, State.getF_over_of_setF _ (by decide), fun h1 => ?_, fun h => ?_, hdone.over⟩
  · subst h1
    refine ⟨?_, ?_⟩
    · rw [hregs.getF (by decide), hset.getF (by decide), s.getF_nvmWritten_store]
    · rw [State.nvmBytes_of_nvm (State.cmdOver_nvm _), State.nvmBytes_of_nvm (State.setF_nvm ..), s.nvmBytes_nvmWritten_store]
  · rw [keyState_kept hregs (by decide) (by decide), keyState_kept hset (by decide) (by decide), s.nvmWritten_key h]

/-- The end of a command whose write fails. -/
theorem nvmWriteDone_bad {c n : Nat} (hc : s.boot.cmd = some (c, n)) (hw : c ≠ 1 ∨ s.storeWaits = false) :
    ∃ t, exec (.nvmWriteDone false) s = .next t ∧ t.boot.cmd = none ∧ t.getF F.NVM_STAT_BUSY 0 = 0 ∧
      hasBit (t.getF F.HST_EVT_EVT 16) 6 = true ∧ t.getF F.NVM_STAT_FAIL 0 = 1 ∧ (c ≠ 1 → t.keyState n = 3) ∧
      t.dram = s.dram ∧ t.bb = s.bb ∧ t.cstore = s.cstore ∧ t.chan = s.chan ∧ t.site = s.site := by
  have hcut : NvmOnly (writtenKeys 0 ++ F.NVM_STAT_FAIL.key 0 :: logKeys) s (s.cmdCut.setF F.NVM_STAT_FAIL 0 1) :=
    NvmOnly.setF ⟨s.cmdCut_only.1, s.cmdCut_only.2.mono (List.subset_append_left ..)⟩ (by simp)
  have hset : RegsBut [F.NVM_STAT_FAIL.key 0] s.cmdCut (s.cmdCut.setF F.NVM_STAT_FAIL 0 1) :=
    (RegsBut.refl _ _).setF (List.mem_singleton_self _)
  have hlog : NvmOnly logKeys (s.cmdCut.setF F.NVM_STAT_FAIL 0 1)
      ((s.cmdCut.setF F.NVM_STAT_FAIL 0 1).faultLog 5 (if c = 1 then s.storePage else 2 + n)) :=
    (NvmOnly.refl _ _).faultLog (fun _ hk => hk) _ _
  refine ⟨_, exec_nvmWriteDone_bad hc hw, (congrArg BootSt.cmd (State.cmdOver_boot _) :), State.getF_cmdOver_busy _,
    State.hasBit_evt_cmdOver _, ?_, fun h => ?_,
    (hcut.faultLog (fun _ hk => List.mem_append_right _ (List.mem_cons_of_mem _ hk)) _ _).over⟩
  · rw [(State.cmdOver_regs _).getF (by decide), hlog.2.getF (by decide)]
    exact State.getF_setF_same ..
  · rw [keyState_kept (State.cmdOver_regs _) (by decide) (by decide), keyState_kept hlog.2 (by decide) (by decide),
      keyState_kept hset (by decide) (by decide), State.cmdCut_key hc h]

/-- Settles O57: the keys arm in their order, GO starts what is armed and allowed, and the end of the command shows. -/
theorem nvmCommands : Obligations.NvmCommands := by
  refine ⟨fun d s => ⟨nvmKey_first, nvmKey_second, nvmKey_wrong, fun n => rfl⟩, fun s => ⟨fun h => ?_, fun h => ?_⟩,
    fun s ha ht hb => ?_, fun n s h => ?_, fun n s => ⟨fun h => ?_, fun h => ?_, fun v => ⟨rfl, rfl, rfl⟩⟩,
    fun okd c n s hc hw => ?_, fun okd s h => ?_⟩
  · rw [exec_keyarmExpire, if_pos (State.keyPast_iff.2 h)]
    exact ⟨_, rfl, State.getF_setF_same .., (RegsOnly.refl _ s).setF (List.mem_singleton_self _)⟩
  · rw [exec_keyarmExpire, if_neg (mt State.keyPast_iff.1 (by omega))]
  · have hgo := State.goArmed_of_armed ha ht hb
    refine ⟨nvmStore_starts hgo, fun n h0 hz hf => slotCommand_starts (exec_nvmProgram n s) hgo ?_,
      fun n h1 h2 => slotCommand_starts (exec_nvmRevoke n s) hgo (by simp [h1, h2])⟩
    rw [h0, Bool.and_assoc]
    exact Bool.and_eq_true_iff.2 ⟨rfl, Bool.and_eq_true_iff.2 ⟨hz, hf⟩⟩
  · have hgo := State.goArmed_of_not h
    refine ⟨?_, slotCommand_fails (exec_nvmProgram n s) (.inl hgo), slotCommand_fails (exec_nvmRevoke n s) (.inl hgo)⟩
    rw [exec_nvmStore, State.nvmGo_fails (.inl hgo)]
    exact ⟨_, rfl, s.getF_goFailed_fail 1, rfl, (BootOnly.refl _ s).goFailed fun _ hk => hk⟩
  · obtain ⟨t, ht, hfail, hboot⟩ := slotCommand_fails (exec_nvmProgram n s) (.inr (by simp [h]))
    exact ⟨t, ht, hfail, (congrArg BootSt.cmd hboot :)⟩
  · obtain ⟨t, ht, hfail, hboot⟩ := slotCommand_fails (exec_nvmRevoke n s)
      (.inr (by rw [Bool.and_eq_false_iff, beq_eq_false_iff_ne, beq_eq_false_iff_ne]; exact h))
    exact ⟨t, ht, hfail, (congrArg BootSt.cmd hboot :)⟩
  · cases okd with
    | true =>
      obtain ⟨t, ht, hcmd, hbusy, hev, hdone, hstore, hkey, hrest⟩ := nvmWriteDone_good hc hw
      exact ⟨t, ht, hcmd, hbusy, hev, fun _ => hdone, fun h => absurd h (by decide), fun _ => hstore,
        fun h _ => (hkey (.inl h)).trans (by rw [h]; rfl), fun h _ => (hkey (.inr h)).trans (by rw [h]; rfl), hrest⟩
    | false =>
      obtain ⟨t, ht, hcmd, hbusy, hev, hfail, hkey, hrest⟩ := nvmWriteDone_bad hc hw
      exact ⟨t, ht, hcmd, hbusy, hev, fun h => absurd h (by decide), fun _ => hfail, fun h => absurd h (by decide),
        fun h _ => hkey (by omega), fun h _ => hkey (by omega), hrest⟩
  · obtain h | ⟨⟨n, hn⟩, hw⟩ := h
    · simp only [exec, execNvmWriteDone, h]
      rfl
    · simp only [exec, execNvmWriteDone, hn, hw]
      rfl

end Sys2Proof.Machine
end

section
/-! SUPPORT. A boot (R420, R427) from a chip whose latest intent record names a count that the chip has not: it stands where the state of
key slot 0 does. -/

namespace Sys2Proof.Machine

variable {s t : State}

/-- The intent record of the count whose RCNT is the entry of NVM_KSTAT.K0. -/
def farIntent : RecIntent := { seq := 1, k := 61865984, base := false, val := 1 }

theorem rcnt_farIntent : F.FLT_RCNT_RCNT.key farIntent.k = F.NVM_KSTAT_K0.key 0 := rfl

/-- A chip with no power whose NVM holds that record, and no key. -/
def farBoot : State := { State.reset with boot := { State.reset.boot with intents := [(1, some farIntent)] } }

theorem imgHdr_nil (a : Nat) : imgHdr [] a = none := by
  refine if_neg fun h => ?_
  have hmagic : w32 (flashBytes [] (a * 8388608) 1536) 0 = 0xFFFFFFFF := by
    rw [flashBytes, List.drop_nil]
    decide +kernel
  rw [hmagic] at h
  exact absurd h.1 (by decide)

theorem usable_nil (a : Nat) : usable [] a = none := by
  rw [usable, imgHdr_nil]
  rfl

theorem State.image_of_no_flash (h : s.boot.flash = []) : s.image = ⟨none, none⟩ := by
  simp [image, h, usable_nil]

/-! ### The boot record before the counts -/

/-- The record of the boot is the same in both states. -/
def BootKept (s t : State) : Prop := t.boot = s.boot

theorem BootKept.refl (s : State) : BootKept s s := rfl

theorem BootKept.foldl {α : Type} {l : List α} {f : State → α → State} (h : BootKept s t)
    (hf : ∀ {a x}, BootKept s a → BootKept s (f a x)) : BootKept s (l.foldl f t) :=
  List.foldlRecOn (motive := BootKept s) l f h fun _ ha _ _ => hf ha

theorem BootKept.setF (h : BootKept s t) {f : Fld} {i v : Nat} : BootKept s (t.setF f i v) := h

theorem BootKept.setFs (h : BootKept s t) {i : Nat} {l : List (Fld × Nat)} : BootKept s (t.setFs i l) := h.foldl (·.setF)

theorem BootKept.modOct (h : BootKept s t) {o : Nat} {f : OctSt → OctSt} : BootKept s (t.modOct o f) := h

theorem BootKept.modChan (h : BootKept s t) {c : Nat} {f : ChanSt → ChanSt} : BootKept s (t.modChan c f) := h

theorem BootKept.bootPlls (h : BootKept s t) : BootKept s (t.bootPlls true) := h.setF.foldl (·.setF)

theorem BootKept.sliceTrims (h : BootKept s t) {o p : Nat} : BootKept s (t.sliceTrims o p) := h.setFs.setFs.modOct

theorem BootKept.bootTrims (h : BootKept s t) : BootKept s t.bootTrims :=
  (h.foldl (·.foldl (·.sliceTrims))).foldl fun ha => ha.modChan.setFs

theorem BootKept.showSettings (h : BootKept s t) : BootKept s t.showSettings := by
  unfold State.showSettings
  split <;> exact h.setFs

/-- The state in which a boot with a reference looks for its counts. -/
def State.beforeCounts (s : State) : State := (s.bootPlls true).bootTrims.showSettings

theorem State.beforeCounts_boot (s : State) : s.beforeCounts.boot = s.boot := (BootKept.refl s).bootPlls.bootTrims.showSettings

/-! ### The counts -/

theorem State.nvmRecord_only (s : State) (kind a n : Nat) (l : List Nat) : NvmOnly [F.NVM_WEAR_MAX.key 0] s (s.nvmRecord kind a n l) :=
  (NvmOnly.refl _ s).nvmPut (List.mem_singleton_self _) _ _

theorem State.keyState_putSnap (s : State) (p : RecSnap) (n : Nat) : (s.putSnap p).keyState n = s.keyState n :=
  keyState_kept (State.nvmRecord_only { s with boot := _ } 2 _ 256 _).2 (by decide) (by decide) n

/-- The counts of the latest snapshot. -/
def State.snapCounts (s : State) : State :=
  (List.range 17).foldl (fun b k => (b.setF F.FLT_RCNT_RCNT k (s.lastSnap.cnt.getD k 0)).setF F.FLT_RBASE_RBASE k (s.lastSnap.base.getD k 0)) s

theorem State.bootCounts_farIntent (h : s.boot.intents = [(1, some farIntent)]) (hs : s.boot.snaps = []) :
    s.bootCounts = (s.snapCounts.recSet farIntent).putSnap ((s.snapCounts.recSet farIntent).snapNow 1) := by
  have hsnap : s.lastSnap.seq = 0 := by
    rw [lastSnap, hs]
    rfl
  have hint : s.lastIntent = some farIntent := by
    rw [lastIntent, h]
    rfl
  rw [bootCounts, hint, hsnap]
  rfl

theorem State.keyState_bootCounts_farIntent (h : s.boot.intents = [(1, some farIntent)]) (hs : s.boot.snaps = []) :
    s.bootCounts.keyState 0 = 1 := by
  rw [bootCounts_farIntent h hs, keyState_putSnap]
  exact getF_setF_same s.snapCounts F.NVM_KSTAT_K0 0 1

theorem BootKept.snapCounts (h : BootKept s t) : BootKept s t.snapCounts := BootKept.foldl h fun ha => ha.setF.setF

theorem State.nvmPut_boot (s : State) (a : Nat) (l : List Byte) : (s.nvmPut a l).boot = s.boot := by
  unfold nvmPut
  extract_lets pg n m s1
  split <;> rfl

theorem State.flash_putSnap (s : State) (p : RecSnap) : (s.putSnap p).boot.flash = s.boot.flash :=
  (congrArg BootSt.flash (State.nvmPut_boot
    { s with boot := { s.boot with snaps := Tbl.set (fun _ => none) s.boot.snaps (p.seq % 8) (some p) } } _ _) :)

theorem State.flash_bootCounts_farIntent (h : s.boot.intents = [(1, some farIntent)]) (hs : s.boot.snaps = []) :
    s.bootCounts.boot.flash = s.boot.flash := by
  rw [bootCounts_farIntent h hs, flash_putSnap]
  exact (congrArg BootSt.flash (BootKept.snapCounts (.refl s)) :)

theorem State.flash_faultLog (s : State) (typ unit : Nat) : (s.faultLog typ unit).boot.flash = s.boot.flash := by
  unfold faultLog
  extract_lets now busy h d ws body b s1
  split
  · rfl
  · exact (congrArg BootSt.flash (State.nvmPut_boot s1 _ _) :)

/-- What GLB_RSTCAUSE and the fault log take. -/
def causeKeys : List Nat :=
  keysAt 0 [F.GLB_RSTCAUSE_COLD, F.GLB_RSTCAUSE_PGLOSS, F.GLB_RSTCAUSE_WAKEUP, F.GLB_RSTCAUSE_REBOOT, F.GLB_RSTCAUSE_SELFREC] ++ logKeys

/-- GLB_RSTCAUSE as Nutmeg has it. -/
def State.causeShown (s : State) : State :=
  let b2n := fun (b : Bool) => if b then 1 else 0
  s.setFs 0 [(F.GLB_RSTCAUSE_COLD, b2n s.nutmeg.cold), (F.GLB_RSTCAUSE_PGLOSS, bit s.nutmeg.cause 1),
    (F.GLB_RSTCAUSE_WAKEUP, b2n s.nutmeg.standby), (F.GLB_RSTCAUSE_REBOOT, bit s.nutmeg.cause 3),
    (F.GLB_RSTCAUSE_SELFREC, b2n s.nutmeg.selfRec)]

theorem State.causeShown_regs (s : State) : RegsBut causeKeys s s.causeShown :=
  (s.setFs_regsOnly 0 _).2.mono (by simp [causeKeys, keysAt])

theorem State.bootCause_regs (s : State) : RegsBut causeKeys s s.bootCause := by
  have hlog := ((NvmOnly.refl logKeys s.causeShown).faultLog (fun _ hk => hk) 2 0).2.mono 
    (show logKeys ⊆ causeKeys from List.subset_append_right _ _)
  unfold bootCause
  extract_lets n b2n s1 s2
  have h2 : RegsBut causeKeys s s2 := by
    unfold s2
    split
    · exact s.causeShown_regs.trans hlog
    · exact s.causeShown_regs
  exact h2

theorem State.flash_bootCause (s : State) : s.bootCause.boot.flash = s.boot.flash := by
  have hs : s.causeShown.boot.flash = s.boot.flash := (congrArg BootSt.flash (BootKept.setFs (.refl s) (i := 0)) :)
  unfold bootCause
  extract_lets n b2n s1 s2
  have h2 : s2.boot.flash = s.boot.flash := by
    unfold s2
    split
    · exact (State.flash_faultLog s.causeShown 2 0).trans hs
    · exact hs
  exact h2

/-! ### The halt -/

theorem State.setPhase_reg (s : State) (p : Nat) : (s.setPhase p).reg = (s.setF F.GLB_BOOTSTAT_PHASE 0 p).reg := by
  unfold setPhase
  split <;> rfl

/-- The fields that show a halt. -/
def haltKeys : List Nat :=
  keysAt 0 [F.GLB_BOOTSTAT_FAILSEC, F.GLB_BOOTSTAT_FAILWHY] ++ [F.HST_EVT_EVT.key 16, F.MSIX_PBA_PEND.key 16] ++ logKeys

theorem State.bootFail_regs (s : State) (sec why : Nat) : RegsBut haltKeys (s.setPhase (if why = 1 then 10 else 9)) (s.bootFail sec why) := by
  have hwhy := ((s.setPhase (if why = 1 then 10 else 9)).setFs_regsOnly 0
    [(F.GLB_BOOTSTAT_FAILSEC, sec), (F.GLB_BOOTSTAT_FAILWHY, why)]).2.mono (v := haltKeys) (by simp [haltKeys, keysAt])
  have hlog := fun u : State => ((NvmOnly.refl logKeys u).faultLog (fun _ hk => hk) 3 sec).2.mono
    (show logKeys ⊆ haltKeys from List.subset_append_right _ _)
  exact (hwhy.trans ((State.raise_regs _ 16 4).mono (by decide))).trans (hlog _)

theorem State.phase_setPhase (s : State) {p : Nat} (hp : p < 16) : (s.setPhase p).phase = p := by
  rw [phase, getF, setPhase_reg, ← getF, getF_setF_same]
  exact Nat.mod_eq_of_lt hp

theorem State.phase_bootFail (s : State) (sec : Nat) {why : Nat} (h : why ≠ 1) : (s.bootFail sec why).phase = 9 := by
  have hregs := s.bootFail_regs sec why
  rw [if_neg h] at hregs
  rw [phase, hregs.getF (by decide)]
  exact s.phase_setPhase (by decide)

/-- The state in which a boot looks for its key: FBFIRST is as the settings have it. -/
def State.rolesRead (s : State) : State := { s with boot := { s.boot with fbFirst := hasBit (settingsWord s.settings) 0 } }

/-- The version of the copy at a flash address, as GLB_IMGVER shows it. -/
def copyVer (fl : List Byte) (a : Nat) : Nat := match imgHdr fl a with | some h => h.ver | none => 65535

/-- The state in which a boot looks for its image: the flash's reading mode and the copies' versions show. -/
def State.copiesRead (s : State) (word : Nat) : State :=
  let s3 := s.setFs 0 [(F.GLB_BOOTSTAT_SLOWRD, if (sfdpFast s.boot.sfdp).isSome then 0 else 1),
    (F.GLB_IMGVER_PRI, copyVer s.boot.flash 0), (F.GLB_IMGVER_FBK, copyVer s.boot.flash 1)]
  { s3 with boot := { s3.boot with rdMode := readMode s3.boot.sfdp word } }

/-- What a boot with a key does. -/
def State.bootImage (s : State) (fl : List Byte) : State :=
  if s.image.main.isNone && s.image.other.isNone then s.bootFail 0 (if (imgHdr fl 0).isSome || (imgHdr fl 1).isSome then 4 else 2)
  else s.bootSections s.image

/-- What a boot does once the counts are in place. -/
def State.bootGoes (s : State) : State :=
  if s.rolesRead.keyState 0 ≠ 1 ∧ s.rolesRead.keyState 1 ≠ 1 then s.rolesRead.bootFail 0 1
  else (s.rolesRead.copiesRead (settingsWord s.settings)).bootImage s.boot.flash

theorem State.bootStart_eq (s : State) : s.bootStart true = s.beforeCounts.bootCounts.bootCause.bootGoes := by
  unfold bootStart beforeCounts
  generalize (s.bootPlls true).bootTrims.showSettings.bootCounts.bootCause = u
  rfl

theorem State.keyState_rolesRead (s : State) (n : Nat) : s.rolesRead.keyState n = s.keyState n := rfl

theorem State.flash_copiesRead (s : State) (word : Nat) : (s.copiesRead word).boot.flash = s.boot.flash := rfl

theorem State.flash_rolesRead (s : State) : s.rolesRead.boot.flash = s.boot.flash := rfl

theorem State.phase_bootImage_of_no_flash (h : s.boot.flash = []) (fl : List Byte) : (s.bootImage fl).phase = 9 := by
  rw [bootImage, image_of_no_flash h]
  refine State.phase_bootFail _ _ ?_
  split <;> decide

/-- With a key VALID and no image in the flash, the boot is FAILED. -/
theorem State.phase_bootGoes_of_no_flash (hk : s.keyState 0 = 1) (hf : s.boot.flash = []) : s.bootGoes.phase = 9 := by
  rw [bootGoes, if_neg fun h => h.1 (s.keyState_rolesRead 0 ▸ hk)]
  exact State.phase_bootImage_of_no_flash (by rw [flash_copiesRead, flash_rolesRead, hf]) _

/-- The state in which the power of that chip has come up, on a board whose flash is empty. -/
def farPowered : State := { farBoot.powerReset with
  nutmeg := { farBoot.powerReset.nutmeg with pgood := true }, boot := { farBoot.powerReset.boot with flash := [], sfdp := [] } }

theorem intents_farPowered : farPowered.boot.intents = [(1, some farIntent)] := by decide +kernel

theorem snaps_farPowered : farPowered.boot.snaps = [] := by decide +kernel

theorem flash_farPowered : farPowered.boot.flash = [] := rfl

theorem exec_pgoodRise_farBoot : exec (.pgoodRise ⟨[], [], true⟩) farBoot = .next (farPowered.bootStart true) := rfl

/-- The boot goes on, because slot 0 reads VALID by the time it is looked at, and finds no image. -/
theorem phase_bootStart_farPowered : (farPowered.bootStart true).phase = 9 := by
  have hboot := farPowered.beforeCounts_boot
  have hint : farPowered.beforeCounts.boot.intents = [(1, some farIntent)] := by rw [hboot, intents_farPowered]
  have hsnap : farPowered.beforeCounts.boot.snaps = [] := by rw [hboot, snaps_farPowered]
  rw [State.bootStart_eq]
  refine State.phase_bootGoes_of_no_flash ?_ ?_
  · rw [keyState_kept (State.bootCause_regs _) (by decide) (by decide), State.keyState_bootCounts_farIntent hint hsnap]
  · rw [State.flash_bootCause, State.flash_bootCounts_farIntent hint hsnap, hboot, flash_farPowered]

/-- Refutes O55: the statement does not bound the count that an intent record names. The RCNT of count 61,865,984 is the entry of
NVM_KSTAT.K0; a boot that carries out that intent finds slot 0 VALID, and does not end in PHASE 10 though no key was there before. -/
theorem not_powerAndBoot : ¬ Obligations.PowerAndBoot := by
  intro h
  obtain ⟨hrise, _⟩ := h
  obtain ⟨t, ht, _, _, _, _, _, _, _, _, _, _, _, _, hnokey⟩ := (hrise ⟨[], [], true⟩ farBoot).1 rfl
  obtain ⟨hphase, _⟩ := hnokey (by decide) (by decide)
  have htold := Host.Outcome.next.inj (exec_pgoodRise_farBoot.symm.trans ht)
  rw [← htold, phase_bootStart_farPowered] at hphase
  exact absurd hphase (by decide)

end Sys2Proof.Machine
end

section
/-! SUPPORT. FLASH words that arrive (R299 to R302), and SYS words that the chip sends. -/

namespace Sys2Proof.Machine

variable {s t a : State}

/-- Copies that come on a port which hears them, and agree on a word. -/
structure Voted (s : State) (p : Nat) (c : Copies) (w : Nat) : Prop where
  up : s.portState p = 2
  heard : s.blockLost p = false
  vote : copiesVote c = some w

theorem bits_ftype (w : Nat) : bits (w % 4294967296) 2 0 = bits w 2 0 := by
  simp only [bits]
  omega

theorem State.flashArrive_voted {p w : Nat} {c : Copies} (h : Voted s p c w) {ftype : Nat → Bool} {act : State → Nat → State}
    (hf : ftype (bits (w % 4294967296) 2 0) = true) :
    s.flashArrive p c ftype act = act (s.forwardCopies p c) (w % 4294967296) := by
  rw [bits_ftype] at hf
  simp only [flashArrive, h.up, h.heard, h.vote, hf]
  rfl

theorem State.flashArrive_silent {p : Nat} {c : Copies} (hup : s.portState p = 2) (hb : s.blockLost p = false)
    (hv : copiesVote c = none) (ftype : Nat → Bool) (act : State → Nat → State) :
    s.flashArrive p c ftype act = (s.forwardCopies p c).incF F.FAB_PFLERR_CNT p := by
  simp only [flashArrive, hup, hb, hv]
  rfl

theorem State.flashArrive_unheard {p : Nat} (h : s.portState p ≠ 2 ∨ s.blockLost p = true) (c : Copies) (ftype : Nat → Bool)
    (act : State → Nat → State) : s.flashArrive p c ftype act = s :=
  if_pos (by simpa using h)

theorem State.flashSite_taken {w x : Nat} (hx : s.siteBySsn (bits w 15 3) = some x) (he : s.epochNow x % 16 = bits w 26 23)
    (act : State → Nat → State) : s.flashSite w act = act s x := by
  simp only [flashSite, hx, if_pos he]

theorem State.flashSite_stale {w x : Nat} (hx : s.siteBySsn (bits w 15 3) = some x) (he : s.epochNow x % 16 ≠ bits w 26 23)
    (act : State → Nat → State) : s.flashSite w act = s.incF F.FAB_FLSTALE_CNT 0 := by
  simp only [flashSite, hx, if_neg he]

/-! ### CODE and ABORT reach the engines -/

/-- Only the FLASH group of engines differs. -/
theorem State.flashShow_frame (s : State) (x code : Nat) : { s.flashShow x code with eng := s.eng } = s := by
  refine List.foldlRecOn (motive := fun a : State => { a with eng := s.eng } = s) engines _ rfl fun a ha e _ => ?_
  split
  · split
    · exact ha
    · exact ha
  · exact ha

/-- What showing a code does for engine `e`. -/
def State.flashOne (x code : Nat) (a : State) (e : Nat) : State :=
  match (a.engOf e).item with
  | some i => if i.site == x then a.modEng e (fun g => { g with flash := code }) else a
  | none => a

theorem State.flashShow_eq (s : State) (x code : Nat) : s.flashShow x code = engines.foldl (flashOne x code) s := rfl

theorem State.item_flashOne (x code e k : Nat) : ((s.flashOne x code e).engOf k).item = (s.engOf k).item := by
  unfold flashOne
  split
  · split
    · by_cases hk : k = e
      · subst hk
        rw [engOf_modEng_same]
      · rw [engOf_modEng_other hk]
    · rfl
  · rfl

theorem State.engOf_flashOne_other {x code e k : Nat} (h : k ≠ e) : (s.flashOne x code e).engOf k = s.engOf k := by
  unfold flashOne
  split
  · split
    · exact engOf_modEng_other h
    · rfl
  · rfl

theorem State.flash_flashOne {x code e : Nat} {i : Item} (hi : (s.engOf e).item = some i) (hx : i.site = x) :
    ((s.flashOne x code e).engOf e).flash = code := by
  unfold flashOne
  rw [hi]
  simp only [hx, beq_self_eq_true, if_true]
  rw [engOf_modEng_same]

theorem State.flash_foldl_flashOne {x code e : Nat} {i : Item} {l : List Nat} (hl : l.Nodup) (he : e ∈ l)
    (hi : (s.engOf e).item = some i) (hx : i.site = x) : ((l.foldl (flashOne x code) s).engOf e).flash = code := by
  induction l generalizing s with
  | nil => cases he
  | cons d l ih =>
    obtain ⟨hd, hl⟩ := List.nodup_cons.1 hl
    by_cases hed : e = d
    · subst hed
      have hkept : (l.foldl (flashOne x code) (s.flashOne x code e)).engOf e = (s.flashOne x code e).engOf e :=
        List.foldlRecOn (motive := fun a : State => a.engOf e = (s.flashOne x code e).engOf e) l _ rfl fun a ha k hk =>
          (engOf_flashOne_other (ne_of_mem_of_not_mem hk hd).symm).trans ha
      rw [List.foldl_cons, hkept, flash_flashOne hi hx]
    · exact ih hl ((List.mem_cons.1 he).resolve_left hed) ((item_flashOne ..).trans hi)

theorem State.flash_flashShow {x code e : Nat} {i : Item} (he : e < 16) (hi : (s.engOf e).item = some i) (hx : i.site = x) :
    ((s.flashShow x code).engOf e).flash = code :=
  flash_foldl_flashOne List.nodup_range (List.mem_range.2 he) hi hx

/-- FAB in every engine that runs a burst of site `x`. -/
def State.abortShow (s : State) (x : Nat) : State :=
  engines.foldl (fun c e => if (c.engOf e).site = x then c.setF F.SE_EXCB_PFAB e 1 else c) s

theorem State.abortShow_eq (s : State) (x : Nat) :
    s.abortShow x = s.setSome F.SE_EXCB_PFAB 0 (fun e => (s.engOf e).site ≠ x) (fun _ => 1) engines := by
  have hfold : ∀ (l : List Nat) (c : State), c.eng = s.eng →
      l.foldl (fun c e => if (c.engOf e).site = x then c.setF F.SE_EXCB_PFAB e 1 else c) c =
        c.setSome F.SE_EXCB_PFAB 0 (fun e => (s.engOf e).site ≠ x) (fun _ => 1) l := by
    intro l
    induction l with
    | nil => exact fun _ _ => rfl
    | cons e l ih =>
      intro c hc
      have hone : (if (c.engOf e).site = x then c.setF F.SE_EXCB_PFAB e 1 else c) =
          if (s.engOf e).site ≠ x then c else c.setF F.SE_EXCB_PFAB (0 + e) 1 := by
        rw [engOf, hc, ← engOf, Nat.zero_add, ite_not]
      rw [List.foldl_cons, hone]
      refine ih _ ?_
      split <;> exact hc
  exact hfold _ _ rfl

theorem State.abortShow_regsOnly (s : State) (x : Nat) : RegsOnly ((List.range 16).map F.SE_EXCB_PFAB.key) s (s.abortShow x) :=
  List.foldlRecOn (motive := RegsOnly _ s) engines _ (.refl _ s) fun a ha e he => by
    split
    · exact ha.setF (List.mem_map_of_mem he)
    · exact ha

theorem State.getF_abortShow {x e : Nat} (he : e < 16) :
    (s.abortShow x).getF F.SE_EXCB_PFAB e = if (s.engOf e).site = x then 1 else s.getF F.SE_EXCB_PFAB e := by
  have h := getF_setSome_mem (s := s) (f := F.SE_EXCB_PFAB) (b := 0) (p := fun e => (s.engOf e).site ≠ x) (v := fun _ => 1)
    List.nodup_range (List.mem_range.2 he)
  rw [Nat.zero_add, ite_not] at h
  rw [abortShow_eq]
  exact h

/-! ### SYS words that go out -/

/-- Between `s` and `t` nothing changes but ports, and no output is gone. -/
structure Sent (s t : State) : Prop where
  frame : { t with port := s.port, out := s.out } = s
  out : s.out ⊆ t.out

theorem Sent.refl (s : State) : Sent s s := ⟨rfl, List.Subset.refl _⟩

theorem Sent.log (h : Sent s t) {o : Out} : Sent s (t.log o) := ⟨h.frame, List.Subset.trans h.out (List.subset_cons_self _ _)⟩

theorem Sent.modPort (h : Sent s t) {k : Nat} {f : PortSt → PortSt} : Sent s (t.modPort k f) := ⟨h.frame, h.out⟩

theorem Sent.reg (h : Sent s t) : t.reg = s.reg := (congrArg State.reg h.frame :)

theorem Sent.fab (h : Sent s t) : t.fab = s.fab := (congrArg State.fab h.frame :)

theorem Sent.sendFlash (h : Sent s t) {k w : Nat} : Sent s (t.sendFlash false k w) := h.log.modPort.log

theorem Sent.flashOn (h : Sent s t) {k w : Nat} : Sent s (t.flashOn none k w) := by
  unfold State.flashOn
  split
  · split
    · exact h.sendFlash
    · exact h
  · exact h

theorem Sent.foldl {α : Type} {l : List α} {f : State → α → State} (h : Sent s t) (hf : ∀ {a x}, Sent s a → Sent s (f a x)) :
    Sent s (l.foldl f t) :=
  List.foldlRecOn (motive := Sent s) l f h fun _ ha _ _ => hf ha

theorem Sent.flashTree (h : Sent s t) {w : Nat} : Sent s (t.flashTree none w) := h.foldl (·.flashOn)

theorem Sent.flashSystem (h : Sent s t) {w : Nat} : Sent s (t.flashSystem w) := (h.foldl (·.flashOn)).flashTree

theorem Sent.carries (h : Sent s t) (k : Nat) : t.carries k = s.carries k := by
  simp only [State.carries, State.portState, State.flag, State.getF, h.reg]

/-- A word for a tree link whose own port carries traffic leaves on that port. -/
theorem State.flashOn_sends {k : Nat} (h : s.carries k = true) (w : Nat) : Out.flash k w ∈ (s.flashOn none k w).out := by
  have hport : s.treePort k = some k := if_pos (by rw [h, Bool.true_or])
  simp only [flashOn, hport, h, if_true]
  exact List.mem_cons_of_mem _ List.mem_cons_self

/-- So does each word of a series. -/
theorem State.foldl_flashOn_sends {g w : Nat → Nat} {l : List Nat} {k : Nat} (hk : k ∈ l) (h : s.carries (g k) = true) :
    Out.flash (g k) (w k) ∈ (l.foldl (fun a j => a.flashOn none (g j) (w j)) s).out := by
  obtain ⟨before, after, rfl⟩ := List.append_of_mem hk
  rw [List.foldl_append, List.foldl_cons]
  refine (Sent.foldl (.refl _) (·.flashOn)).out (flashOn_sends ?_ _)
  rw [((Sent.refl s).foldl (l := before) (f := fun a j => a.flashOn none (g j) (w j)) (·.flashOn)).carries, h]

theorem State.flashTree_sends {k : Nat} (hk : k < 5) (h : s.carries k = true) (w : Nat) :
    Out.flash k (w + (2 ^ k - 1) * 134217728) ∈ (s.flashTree none w).out :=
  foldl_flashOn_sends (g := fun k => k) (w := fun k => w + (2 ^ k - 1) * 134217728) (by simp; omega) h

theorem exec_sysFlashSend {code : Nat} (h1 : 1 ≤ code % 16) (h2 : code % 16 < 15) (ha : s.treeAsleep = false) :
    exec (.sysFlashSend .pf0 code) s = .next ((s.setF F.FAB_SYSFL_CODE 0 (code % 16)).flashSystem (flashWord 4 0 (code % 16) 0 0)) := by
  have hc : ¬ (code % 16 = 0 ∨ code % 16 = 15) := by omega
  simp only [exec, execSysFlashSend, if_neg hc, ha]
  rfl

/-- The shelf word goes out on T5 to T8 and then along the shelf tree. -/
theorem State.flashSystem_sends (s : State) (w : Nat) :
    (∀ k, k < 5 → s.carries k = true → Out.flash k (w + (2 ^ k - 1) * 134217728) ∈ (s.flashSystem w).out) ∧
      ∀ j, j < 4 → s.carries (5 + j) = true → Out.flash (5 + j) (w + (2 ^ j - 1) * 8) ∈ (s.flashSystem w).out := by
  have hshelf : Sent s ([0, 1, 2, 3].foldl (fun a j => a.flashOn none (5 + j) (w + (2 ^ j - 1) * 8)) s) := (Sent.refl s).foldl (·.flashOn)
  refine ⟨fun k hk h => flashTree_sends hk ((hshelf.carries k).trans h) w, fun j hj h => (Sent.refl _).flashTree.out ?_⟩
  exact foldl_flashOn_sends (g := fun j => 5 + j) (w := fun j => w + (2 ^ j - 1) * 8) (by simp; omega) h

theorem State.carries_setF {f : Fld} {i v k : Nat} (hs : F.FAB_PSTAT_STATE.id < f.id) (hf : F.FAB_PSTAT_FARV.id < f.id)
    (hk : k < 1048576) : (s.setF f i v).carries k = s.carries k := by
  rw [carries, carries, portState, portState, flag, flag, getF_setF_other (Fld.key_ne_of_id_lt hs hk),
    getF_setF_other (Fld.key_ne_of_id_lt hf hk)]

/-- CANCEL of a voted sleep. -/
theorem State.cancelReceived_voted (h : s.getF F.FAB_SLPSTAT_STATE 0 = 1) : s.cancelReceived = s.giveUpSleep := by
  simp only [cancelReceived, h, if_true]

theorem State.getF_giveUpSleep (s : State) :
    s.giveUpSleep.getF F.FAB_SLPSTAT_STATE 0 = 0 ∧ s.giveUpSleep.getF F.FAB_SLPSTAT_CANCELLED 0 = 1 :=
  have hstate : ((s.setF F.FAB_SLPSTAT_STATE 0 0).setF F.FAB_SLPSTAT_CANCELLED 0 1).getF F.FAB_SLPSTAT_STATE 0 = 0 := by
    rw [getF_setF_other (Fld.key_ne_same (by decide)), getF_setF_same]
    rfl
  have hcan : ((s.setF F.FAB_SLPSTAT_STATE 0 0).setF F.FAB_SLPSTAT_CANCELLED 0 1).getF F.FAB_SLPSTAT_CANCELLED 0 = 1 :=
    getF_setF_same ..
  ⟨hstate, hcan⟩

theorem bits_lt_two_pow {n hi lo : Nat} : bits n hi lo < 2 ^ (hi + 1 - lo) := Nat.mod_lt _ (Nat.two_pow_pos _)

/-- A SYS word that is no CANCEL is shown. -/
theorem sysShown (s : State) {code : Nat} (hc : code < 16) :
    ((s.setF F.FAB_SYSRX_CODE 0 code).raisePf 0).getF F.FAB_SYSRX_CODE 0 = code ∧
      hasBit (((s.setF F.FAB_SYSRX_CODE 0 code).raisePf 0).getF F.HST_EVT_EVT 16) 0 = true ∧
      { (s.setF F.FAB_SYSRX_CODE 0 code).raisePf 0 with reg := s.reg, out := s.out, evAt := s.evAt } = s := by
  refine ⟨?_, State.hasBit_getF_raise (by decide) _ 16, ?_⟩
  · rw [State.raisePf, (State.raise_regs _ 16 0).getF (by decide), State.getF_setF_same]
    exact Nat.mod_eq_of_lt hc
  · exact (congrArg (fun u : State => { u with reg := s.reg, out := s.out, evAt := s.evAt })
      (State.raise_frame (s.setF F.FAB_SYSRX_CODE 0 code) 16 0) :)

/-! ### The commands -/

/-- What CODE, MATCH, ABORT and FAULT do with the voted word. -/
def codeAct (a : State) (w : Nat) : State := a.flashSite w (fun b x => b.flashShow x (bits w 19 16))

def matchAct (src : Nat) (a : State) (w : Nat) : State :=
  a.flashSite w (fun b x => b.modSite x (fun t => { t with chipMatch := matchWord t.chipMatch src (bits w 22 20) (bits w 17 16) }))

def abortAct (a : State) (w : Nat) : State := a.flashSite w State.abortShow

def faultAct (a : State) (w : Nat) : State := a.flashSite w (fun b x => b.sourceOn x 8)

/-- What SYS does with it. -/
def sysAct (a : State) (w : Nat) : State :=
  if bits w 19 16 = 15 then a.cancelReceived else (a.setF F.FAB_SYSRX_CODE 0 (bits w 19 16)).raisePf 0

section arrivals

variable {p : Fin 12} {c : Copies}

theorem exec_flashCode : exec (.flashCode p c) s = .next (s.flashArrive p.val c (fun t => t == 0) codeAct) := rfl

theorem exec_flashMatch {src : Nat} : exec (.flashMatch p c src) s = .next (s.flashArrive p.val c (fun t => t == 1) (matchAct src)) := rfl

theorem exec_flashAbort : exec (.flashAbort p c) s = .next (s.flashArrive p.val c (fun t => t == 2) abortAct) := rfl

theorem exec_flashFault : exec (.flashFault p c) s = .next (s.flashArrive p.val c (fun t => t == 3) faultAct) := rfl

theorem exec_flashSys : exec (.flashSys p c) s = .next (s.flashArrive p.val c (fun t => t == 4) sysAct) := rfl

theorem exec_flashReservedFtype :
    exec (.flashReservedFtype p c) s = .next (s.flashArrive p.val c (fun t => decide (5 ≤ t)) fun a _ => a) := rfl

end arrivals

/-- Settles O45: the voted word acts in its site where EPL matches, and is counted otherwise. -/
theorem flashWords : Obligations.FlashWords := by
  refine ⟨fun p c s a w v x hup hb hw hv ha hx => ?_, fun p c src s a hup hb hw ha => ?_, fun p c src s h => ?_,
    fun p c s a w v hup hb hw hv ha => ?_, fun code c s hc => ?_⟩
  · subst hv ha
    have hvote : Voted s p.val c w := ⟨hup, hb, hw⟩
    refine ⟨fun he => ⟨fun hf => ?_, fun hf src => ?_, fun hf => ?_, fun hf => ?_⟩,
      fun he => ⟨fun hf => ?_, fun hf src => ?_, fun hf => ?_, fun hf => ?_⟩⟩
    · rw [exec_flashCode, State.flashArrive_voted hvote (by simp [hf]), codeAct, State.flashSite_taken hx he]
      exact ⟨_, rfl, State.flashShow_frame .., fun e i hi hit hix => State.flash_flashShow hi hit hix⟩
    · rw [exec_flashMatch, State.flashArrive_voted hvote (by simp [hf]), matchAct, State.flashSite_taken hx he]
      exact ⟨_, rfl, congrArg SiteSt.chipMatch (State.siteOf_modSite_same ..), (SiteOnly.refl ..).modSite⟩
    · rw [exec_flashAbort, State.flashArrive_voted hvote (by simp [hf]), abortAct, State.flashSite_taken hx he]
      exact ⟨_, rfl, fun e hlt => State.getF_abortShow hlt, State.abortShow_regsOnly ..⟩
    · rw [exec_flashFault, State.flashArrive_voted hvote (by simp [hf]), faultAct, State.flashSite_taken hx he]
    · rw [exec_flashCode, State.flashArrive_voted hvote (by simp [hf]), codeAct, State.flashSite_stale hx he]
    · rw [exec_flashMatch, State.flashArrive_voted hvote (by simp [hf]), matchAct, State.flashSite_stale hx he]
    · rw [exec_flashAbort, State.flashArrive_voted hvote (by simp [hf]), abortAct, State.flashSite_stale hx he]
    · rw [exec_flashFault, State.flashArrive_voted hvote (by simp [hf]), faultAct, State.flashSite_stale hx he]
  · subst ha
    have hsilent := State.flashArrive_silent (s := s) hup hb hw
    simp only [exec_flashCode, exec_flashMatch, exec_flashAbort, exec_flashFault, exec_flashSys, exec_flashReservedFtype, hsilent, and_self]
  · have hun := State.flashArrive_unheard (s := s) h
    simp only [exec_flashCode, exec_flashMatch, exec_flashAbort, exec_flashFault, exec_flashSys, exec_flashReservedFtype, hun, and_self]
  · subst hv ha
    have hvote : Voted s p.val c w := ⟨hup, hb, hw⟩
    refine ⟨fun hf hn => ?_, fun hf hn hs => ?_, fun hf => ?_⟩
    · rw [exec_flashSys, State.flashArrive_voted hvote (by simp [hf]), sysAct, if_neg hn]
      exact ⟨_, rfl, sysShown _ bits_lt_two_pow⟩
    · rw [exec_flashSys, State.flashArrive_voted hvote (by simp [hf]), sysAct, if_pos hn, State.cancelReceived_voted hs]
      exact ⟨_, rfl, (State.getF_giveUpSleep _).1, (State.getF_giveUpSleep _).2, rfl, rfl⟩
    · rw [exec_flashReservedFtype, State.flashArrive_voted hvote (by simpa using hf)]
  · subst hc
    refine ⟨fun h1 h2 ha => ?_, fun h => ?_⟩
    · have hsent := (Sent.refl (s.setF F.FAB_SYSFL_CODE 0 (code % 16))).flashSystem (w := flashWord 4 0 (code % 16) 0 0)
      obtain ⟨htree, hshelf⟩ := (s.setF F.FAB_SYSFL_CODE 0 (code % 16)).flashSystem_sends (flashWord 4 0 (code % 16) 0 0)
      refine ⟨_, exec_sysFlashSend h1 h2 ha, ?_, ?_, ?_, fun k hk hcar => htree k hk ?_, fun j hj hcar => hshelf j hj ?_⟩
      · rw [State.getF, hsent.reg, ← State.getF, State.getF_setF_same]
        exact Nat.mod_eq_of_lt (Nat.mod_lt _ (by decide))
      · exact (congrArg (fun u : State => { u with reg := s.reg, out := s.out, port := s.port }) hsent.frame :)
      · intro k hk
        rw [hsent.reg]
        exact (RegsBut.refl _ s).setF (List.mem_singleton_self _) k hk
      · rw [State.carries_setF (by decide) (by decide) (by omega), hcar]
      · rw [State.carries_setF (by decide) (by decide) (by omega), hcar]
    · simp only [exec, execSysFlashSend, if_pos h]
      rfl

end Sys2Proof.Machine
end

section
/-! SUPPORT. The reset of a site (R331) that cancels a waiting post: the word that posted it completes, and calls with a stack pointer
that the chip has not. -/

namespace Sys2Proof.Machine

/-- The stack pointer whose entry, on engine 0, is that of FLT_SSRC of site 0. -/
def farPointer : Nat := 537919488

theorem stk_farPointer : F.SE_STK_ADDR.key (0 * 8 + farPointer) = F.FLT_SSRC_SRC.key 0 := rfl

/-- A CALL word in issue. -/
def farCall : Issued :=
  { pc := 0, word := 24576, s := 0, e := 0, n := 1, p := 1, mask := 0, s0 := 0, delay := none, shadow := false, hret := false,
    before := ⟨[], [], [], 0⟩, wid := 0, wid0 := 0, vidx := 0, evt0 := false, mode := none, rs := 0, rn := 0, inExc := false, excCode := 0,
    yielded := false, exc := [], grid0 := [] }

/-- Engine 0 runs a burst of site 0 and waits with a post. -/
def farStop : State := { State.reset with
  reg := [(F.SE_SP_SP.key 0, farPointer), (F.SITE_MAP_WORD.key 1, 1)]
  eng := [(0, { item := some { serial := 0, siteNo := 0, src := 0, desc := [], arrNs := 0 }
                post := some { num := 0, site := 0, desc := [] }, cur := some farCall })] }

/-- FLT_SSRC of site 0 after a command. -/
def sourcesAfter (r : Res) : Nat :=
  match r with
  | .next t => t.getF F.FLT_SSRC_SRC 0
  | _ => 0

theorem sourcesAfter_siteReset_farStop : sourcesAfter (exec (.siteReset .pf0 0) farStop) = 2 := by decide +kernel

/-- Refutes O49: the statement does not bound what a register's entry holds. With 537,919,488 in SE_SP of engine 0, the word whose post the
reset cancels completes with a CALL that pushes its return address into the entry of FLT_SSRC, and the source of the reset is gone. -/
theorem not_siteResetAndScrub : ¬ Obligations.SiteResetAndScrub := by
  intro h
  obtain ⟨hreset, _⟩ := h
  obtain ⟨hruns, _⟩ := hreset .pf0 0 farStop rfl (by decide) (.inl rfl)
  obtain ⟨t, ht, _, _, _, _, _, _, _, _, _, hsource, _⟩ := hruns (by decide)
  have hsrc := sourcesAfter_siteReset_farStop
  rw [ht] at hsrc
  rw [show t.getF F.FLT_SSRC_SRC (0 : Fin 16).val = 2 from hsrc] at hsource
  exact absurd hsource (by decide)

end Sys2Proof.Machine
end

section
/-! SUPPORT. Slots that the device reads and writes, and what a stream-in descriptor brings (R257, R443 to R445). -/

namespace Sys2Proof.Machine

variable {s t u : State}

/-! ### The host registers -/

/-- From `s` to `t` no register from HST_RCONS on changes. -/
def HostKept (s t : State) : Prop := ∀ g : Fld, F.HST_RCONS_CONS.id ≤ g.id → ∀ j, t.getF g j = s.getF g j

theorem HostKept.refl (s : State) : HostKept s s := fun _ _ _ => rfl

theorem HostKept.ite {c : Prop} [Decidable c] (ht : HostKept s t) (hu : HostKept s u) : HostKept s (if c then t else u) := by
  split
  · exact ht
  · exact hu

theorem HostKept.foldl_mem {α : Type} {l : List α} {f : State → α → State} (h : HostKept s t)
    (hf : ∀ {a x}, x ∈ l → HostKept s a → HostKept s (f a x)) : HostKept s (l.foldl f t) :=
  List.foldlRecOn (motive := HostKept s) l f h fun _ ha _ hx => hf hx ha

/-- A field that stands before HST_RCONS is written. -/
theorem HostKept.setF (h : HostKept s t) {f : Fld} {i v : Nat} (hf : f.id < F.HST_RCONS_CONS.id) (hi : i < 1048576) :
    HostKept s (t.setF f i v) := fun g hg j =>
  (State.getF_setF_other (Fld.key_ne_of_id_lt (Nat.lt_of_lt_of_le hf hg) hi).symm).trans (h g hg j)

/-- All but the registers may change. -/
theorem HostKept.of_reg (h : HostKept s t) (hr : u.reg = t.reg) : HostKept s u := fun g hg j =>
  (congrArg (FMap.get · g j) hr).trans (h g hg j)

theorem HostKept.regsBut {w : List Nat} (h : RegsBut w s t)
    (hw : ∀ k ∈ w, ∃ f : Fld, ∃ i, k = f.key i ∧ f.id < F.HST_RCONS_CONS.id ∧ i < 1048576) : HostKept s t := fun g hg j =>
  h.getF fun hm => by
    obtain ⟨f, i, hk, hf, hi⟩ := hw _ hm
    exact Fld.key_ne_of_id_lt (Nat.lt_of_lt_of_le hf hg) hi hk.symm

/-! ### An item that is taken or rejected (R257, R258) -/

/-- What an item that arrives may change beside registers. -/
def ArrivedFrame (s t : State) : Prop :=
  { t with reg := s.reg, ready := s.ready, boot := s.boot, site := s.site, serial := s.serial } = s

theorem HostKept.depth (h : HostKept s t) {x p : Nat} {up : Bool} (hx : x < 16) (hp : p < 8) : HostKept s (t.depth x p up) :=
  h.setF (by decide) (by omega)

theorem HostKept.setUsed (h : HostKept s t) {x n : Nat} (hx : x < 16) : HostKept s (t.setUsed x n) :=
  (h.setF (by decide) (by omega)).setF (by decide) (by omega)

theorem HostKept.idleRefused (h : HostKept s t) : HostKept s t.idleRefused :=
  .ite (((h.of_reg rfl).setF (f := F.GLB_PWRSTAT_BUSY) (i := 0) (by decide) (by decide)).setF (f := F.GLB_PWRSTAT_PWR_REJ)
    (by decide) (by decide)) h

theorem Item.site_lt (i : Item) : i.site < 16 := i.siteNo.isLt

theorem Item.prio_lt (i : Item) : i.prio < 8 := Nat.mod_lt _ (by decide)

theorem waitBin_lt (n : Nat) : waitBin n < 16 := by
  unfold waitBin
  split <;> omega

theorem HostKept.bindTo (h : HostKept s t) {i : Item} {e : Nat} : HostKept s (t.bindTo i e) := by
  have hs := i.site_lt
  have hw := waitBin_lt (t.nowNs - i.arrNs)
  have h1 : HostKept s { t with ready := bindItem t.ready i.serial e } := h.of_reg rfl
  exact ((h1.depth hs i.prio_lt).setF (by decide) (by omega)).idleRefused

theorem best_mem {α : Type} {b : α → α → Bool} {l : List α} {x : α} (h : best b l = some x) : x ∈ l := by
  have key : ∀ (l' : List α) (m : Option α), (∀ y, m = some y → y ∈ l) → l' ⊆ l → ∀ y,
      l'.foldl (fun (m : Option α) y => match m with
        | none => some y
        | some x => if b y x then some y else some x) m = some y → y ∈ l := by
    intro l'
    induction l' with
    | nil => exact fun m hm _ y hy => hm y hy
    | cons z l' ih =>
      intro m hm hl
      refine ih _ ?_ fun y hy => hl (List.mem_cons_of_mem _ hy)
      have hz : z ∈ l := hl List.mem_cons_self
      intro y hy
      cases m with
      | none => exact Option.some.inj hy ▸ hz
      | some w =>
        dsimp only at hy
        split at hy
        · exact Option.some.inj hy ▸ hz
        · exact Option.some.inj hy ▸ hm w rfl
  exact key l none (fun _ hy => by cases hy) (List.Subset.refl _) x h

theorem HostKept.preempt (h : HostKept s t) : HostKept s t.preempt := by
  refine h.foldl_mem fun {a i} _ ha => .ite ?_ ha
  split
  · next e he =>
    have hl : e < 16 := List.mem_range.1 (List.mem_of_mem_filter (best_mem he))
    exact ha.bindTo.setF (by decide) (by omega)
  · exact ha

theorem HostKept.enter (h : HostKept s t) {i : Item} : HostKept s (t.enter i) := by
  unfold State.enter
  extract_lets _ s1
  have hn : HostKept s t.numbered := h.of_reg rfl
  have h1 : HostKept s s1 := (hn.setUsed i.site_lt).of_reg rfl
  have h2 (l : List Item) : HostKept s { s1 with ready := l } := h1.of_reg rfl
  exact .ite (h1.of_reg rfl) ((h2 _).depth i.site_lt i.prio_lt).preempt

theorem HostKept.reject (h : HostKept s t) {i : Item} {reason : Nat} : HostKept s (t.reject i reason) := by
  have hs := i.site_lt
  have hn : HostKept s t.numbered := h.of_reg rfl
  exact ((hn.setF (f := F.DSP_SSTAT_REJ) (by decide) (by omega)).setF (f := F.DSP_SREJCNT_CNT) (by decide) (by omega)).of_reg rfl

theorem HostKept.takeItem (h : HostKept s t) {i : Item} : HostKept s (t.takeItem i) := by
  unfold State.takeItem
  split
  · exact h.enter
  · exact h.reject

theorem ArrivedFrame.preempt (h : ArrivedFrame s t) : ArrivedFrame s t.preempt := by
  have h1 := congrArg (fun u : State => { u with
    reg := s.reg, ready := s.ready, boot := s.boot, site := s.site, serial := s.serial }) t.preempt_frame
  exact Eq.trans h1 h

theorem State.reject_frame (s : State) (i : Item) (reason : Nat) : ArrivedFrame s (s.reject i reason) := rfl

theorem State.enter_frame (s : State) (i : Item) : ArrivedFrame s (s.enter i) := by
  unfold State.enter
  extract_lets _ s1
  have h1 : ArrivedFrame s s1 := rfl
  split
  · exact h1
  · exact ArrivedFrame.preempt (t := ({ s1 with ready := _ } : State).depth _ _ _) h1

theorem State.takeItem_frame (s : State) (i : Item) : ArrivedFrame s (s.takeItem i) := by
  unfold State.takeItem
  split
  · exact s.enter_frame i
  · exact s.reject_frame i _

theorem ArrivedFrame.sameMems (h : ArrivedFrame s t) : s.sameMems t := by
  have hm {α : Type} (g : State → α) : g { t with
    reg := s.reg, ready := s.ready, boot := s.boot, site := s.site, serial := s.serial } = g s := congrArg g h
  exact ⟨hm State.bb, hm State.acqMem, hm State.dram, hm State.nvm, hm State.psbuf, hm State.cstore, hm State.mirror,
    hm State.tstore⟩

theorem ArrivedFrame.eng (h : ArrivedFrame s t) : t.eng = s.eng := (congrArg State.eng h :)

theorem ArrivedFrame.chan (h : ArrivedFrame s t) : t.chan = s.chan := (congrArg State.chan h :)

/-! ### SUBMIT_SLOT_READ -/

/-- The item of a slot that is read. -/
def State.slotItem (s : State) (n : Nat) (slot : List Nat) : Item :=
  s.newItem n 2 ((List.range 12).map (fun k => slot.getD k 0 % 4294967296))

/-- Are bytes 48 to 63 of a slot not all 0? -/
def slotBad (slot : List Nat) : Bool := [12, 13, 14, 15].any (fun k => slot.getD k 0 % 4294967296 != 0)

/-- What becomes of the item of a slot. -/
def State.slotTaken (s : State) (n : Nat) (slot : List Nat) : State :=
  if slotBad slot then s.reject (s.slotItem n slot) 1 else s.takeItem (s.slotItem n slot)

theorem State.slotTaken_frame (s : State) (n : Nat) (slot : List Nat) : ArrivedFrame s (s.slotTaken n slot) := by
  unfold State.slotTaken
  split
  · exact s.reject_frame _ _
  · exact s.takeItem_frame _

theorem State.slotTaken_host (s : State) (n : Nat) (slot : List Nat) : HostKept s (s.slotTaken n slot) :=
  (HostKept.refl s).reject.ite (HostKept.refl s).takeItem

theorem exec_submitSlotRead_waits {n : Fin 16} {slot : List Nat} (h : s.slotWaits n.val 0 = true) (ht : s.vfTurn n.val = true) :
    exec (.submitSlotRead n slot true) s = .next ((s.slotTaken n.val slot).incF F.HST_RCONS_CONS (ringIx n.val 0)) := by
  change execSubmitSlotRead n slot true s = _
  unfold execSubmitSlotRead
  extract_lets x i s1
  rw [if_pos (by rw [h, ht]; rfl), if_pos rfl]
  rfl

theorem exec_submitSlotRead_failed {n : Fin 16} {slot : List Nat} (h : s.slotWaits n.val 0 = true) (ht : s.vfTurn n.val = true) :
    exec (.submitSlotRead n slot false) s = .next (s.hstErr n.val F.HST_ERR_DMAERR) := by
  change execSubmitSlotRead n slot false s = _
  unfold execSubmitSlotRead
  extract_lets x
  rw [if_pos (by rw [h, ht]; rfl)]
  rfl

theorem exec_submitSlotRead_idle {n : Fin 16} {slot : List Nat} (h : s.slotWaits n.val 0 = false ∨ s.vfTurn n.val = false)
    (okd : Bool) : exec (.submitSlotRead n slot okd) s = .next s := by
  change execSubmitSlotRead n slot okd s = _
  unfold execSubmitSlotRead
  extract_lets x
  refine if_neg ?_
  rw [Bool.and_eq_true]
  rintro ⟨h1, h2⟩
  obtain h | h := h
  · exact absurd h1 (by rw [h]; decide)
  · exact absurd h2 (by rw [h]; decide)

theorem slotBad_iff {slot : List Nat} : slotBad slot = true ↔ ∃ k ∈ [12, 13, 14, 15], slot.getD k 0 % 4294967296 ≠ 0 := by
  simp only [slotBad, List.any_eq_true, bne_iff_ne]

/-- A slot whose last bytes are not 0 is rejected, and its item is nowhere. -/
theorem State.slotTaken_bad {n : Fin 16} {slot : List Nat} (h : slotBad slot = true) :
    (s.slotTaken n.val slot).getF F.DSP_SSTAT_REJ n.val = 1 ∧ (s.slotTaken n.val slot).ready = s.ready := by
  have hn : (s.slotItem n.val slot).site = n.val := Nat.mod_eq_of_lt n.isLt
  rw [State.slotTaken, if_pos h]
  refine ⟨?_, rfl⟩
  unfold State.reject
  rw [hn]
  exact (State.getF_setF_other (Fld.key_ne_same (by decide))).trans (State.getF_setF_same ..)

/-! ### HST_ERR -/

/-- The registers that an error of a VF writes. -/
theorem State.hstErr_vf {n : Fin 16} {b : Fld} (hb : b.id ≠ F.HST_EVT_EVT.id) (hp : b.id ≠ F.MSIX_PBA_PEND.id) (hw : 0 < b.width) :
    (s.hstErr n.val b).getF b n.val = 1 ∧ hasBit ((s.hstErr n.val b).getF F.HST_EVT_EVT n.val) 15 = true ∧
      { s.hstErr n.val b with reg := s.reg, evAt := s.evAt, out := s.out } = s ∧
      RegsBut (keysAt n.val [b, F.HST_EVT_EVT, F.MSIX_PBA_PEND]) s (s.hstErr n.val b) := by
  have he : s.hstErr n.val b = (s.setF b n.val 1).raise n.val 15 := if_pos n.isLt
  have hr := State.raise_regs (s.setF b n.val 1) n.val 15
  have h1 : (1 : Nat) % 2 ^ b.width = 1 := Nat.mod_eq_of_lt (Nat.one_lt_two_pow hw.ne')
  rw [he]
  refine ⟨?_, State.hasBit_getF_raise (by decide) _ _, ?_, ?_⟩
  · rw [hr.getF (by simpa using ⟨Fld.key_ne_same hb, Fld.key_ne_same hp⟩), State.getF_setF_same, h1]
  · exact congrArg (fun u : State => { u with reg := s.reg }) (State.raise_frame (s.setF b n.val 1) n.val 15)
  · exact ((RegsBut.refl _ s).setF (by simp [keysAt])).trans fun k hk => hr k fun hm => hk (List.mem_cons_of_mem _ hm)

/-! ### COMPLETION_WRITE -/

/-- The first write of a record: the record, its number, and zeros. -/
def recordOut (n : Fin 16) (a q : Nat) (r : List Nat) : Out := .dma (.vf n) a (r.flatMap (leBytes 4) ++ leBytes 4 q ++ leBytes 8 0)

/-- The later write of a record: the completion word. -/
def recordDone (n : Fin 16) (a q : Nat) : Out := .dma (.vf n) (a + 28) (leBytes 4 (4294967295 - q))

/-- The next record of a VF goes to the slot at `a`, and its ring advances. -/
def State.recordSent (s : State) (n : Fin 16) (r : List Nat) (rest : List (List Nat)) (a : Nat) : State :=
  ((((s.log (recordOut n a (s.getF F.HST_CQSEQ_CSEQ n.val) r)).log (recordDone n a (s.getF F.HST_CQSEQ_CSEQ n.val))).modSite n.val
    (fun t => { t with released := rest })).incF F.HST_RPROD_PROD (ringIx n.val 1)).incF F.HST_CQSEQ_CSEQ n.val

theorem exec_completionWrite_sends {n : Fin 16} {r : List Nat} {rest : List (List Nat)} {a : Nat}
    (hr : (s.siteOf n.val).released = r :: rest) (ha : s.freeSlot n.val 1 32 = some a) :
    exec (.completionWrite n) s = .next ((s.recordSent n r rest a).raiseVf n.val 0) := by
  change execCompletionWrite n s = _
  unfold execCompletionWrite
  simp only [hr, ha]
  rfl

theorem exec_completionWrite_waits {n : Fin 16} (h : (s.siteOf n.val).released = [] ∨ s.freeSlot n.val 1 32 = none) :
    exec (.completionWrite n) s = .next s := by
  change execCompletionWrite n s = _
  unfold execCompletionWrite
  extract_lets x
  split
  · next hr ha =>
    obtain h | h := h
    · cases hr.symm.trans h
    · cases ha.symm.trans h
  · rfl

theorem ringIx_lt {n r : Nat} (hn : n < 16) (hr : r < 4) : ringIx n r < 64 := by
  unfold ringIx
  omega

/-- What a sent record leaves in the state, its event included. -/
theorem State.recordSent_raised (s : State) (n : Fin 16) (r : List Nat) (rest : List (List Nat)) (a : Nat) :
    ∃ t, t = (s.recordSent n r rest a).raiseVf n.val 0 ∧ (t.siteOf n.val).released = rest ∧
      recordOut n a (s.getF F.HST_CQSEQ_CSEQ n.val) r ∈ t.out ∧ recordDone n a (s.getF F.HST_CQSEQ_CSEQ n.val) ∈ t.out ∧
      t.getF F.HST_RPROD_PROD (ringIx n.val 1) = (s.getF F.HST_RPROD_PROD (ringIx n.val 1) + 1) % 4294967296 ∧
      t.getF F.HST_CQSEQ_CSEQ n.val = (s.getF F.HST_CQSEQ_CSEQ n.val + 1) % 4294967296 ∧
      hasBit (t.getF F.HST_EVT_EVT n.val) 0 = true ∧ { t with reg := s.reg, site := s.site, out := s.out, evAt := s.evAt } = s := by
  have hx := ringIx_lt n.isLt (r := 1) (by decide)
  have hn := n.isLt
  generalize hu : s.recordSent n r rest a = u
  have hf := u.raise_frame n.val 0
  have hg := u.raise_regs n.val 0
  have ho := u.out_subset_raiseVf n.val 0
  have hs : (u.raise n.val 0).site = u.site := (congrArg State.site hf :)
  refine ⟨_, rfl, ?_, ho ?_, ho ?_, ?_, ?_, State.hasBit_getF_raise (by decide) _ _, ?_⟩
  · have h1 : (u.raiseVf n.val 0).siteOf n.val = u.siteOf n.val := congrArg (Tbl.get _ · n.val) hs
    rw [h1, ← hu]
    change (((_ : State).modSite n.val fun t => { t with released := rest }).siteOf n.val).released = rest
    rw [State.siteOf_modSite_same]
  · rw [← hu]
    exact List.mem_cons_of_mem _ List.mem_cons_self
  · rw [← hu]
    exact List.mem_cons_self
  · refine (hg.getF ?_).trans ?_
    · simpa using ⟨Fld.key_ne (by decide) (by omega) (by omega), Fld.key_ne (by decide) (by omega) (by omega)⟩
    · rw [← hu]
      exact (State.getF_setF_other (Fld.key_ne (by decide) (by omega) (by omega))).trans (State.getF_setF_same ..)
  · refine (hg.getF ?_).trans ?_
    · simpa using ⟨Fld.key_ne_same (by decide), Fld.key_ne_same (by decide)⟩
    · rw [← hu]
      refine (State.getF_incF_same ..).trans ?_
      have hk : F.HST_CQSEQ_CSEQ.key n.val ≠ F.HST_RPROD_PROD.key (ringIx n.val 1) := Fld.key_ne (by decide) (by omega) (by omega)
      exact congrArg (fun v => (v + 1) % 4294967296) (State.getF_setF_other hk)
  · have h1 := congrArg (fun v : State => { v with reg := s.reg, site := s.site, out := s.out, evAt := s.evAt }) hf
    refine Eq.trans h1 ?_
    rw [← hu]
    rfl

/-! ### What a stream-in descriptor brings -/

/-- From `s` to `t` bytes may have been written for a site: to beat buffers, DRAM or segment rings. -/
structure Brought (s t : State) : Prop where
  frame : { t with reg := s.reg, reqs := s.reqs, serial := s.serial, bb := s.bb, dram := s.dram, oct := s.oct } = s
  host : HostKept s t

theorem Brought.refl (s : State) : Brought s s := ⟨rfl, .refl s⟩

theorem Brought.site (h : Brought s t) : t.site = s.site := (congrArg State.site h.frame :)

theorem HostKept.trans (h : HostKept s t) (g : HostKept t u) : HostKept s u := fun f hf j => (g f hf j).trans (h f hf j)

/-- A step of which the frame is known goes on from what was brought before. -/
theorem Brought.trans (h : Brought s t) (g : Brought t u) : Brought s u :=
  ⟨Eq.trans (congrArg (fun v : State => { v with
    reg := s.reg, reqs := s.reqs, serial := s.serial, bb := s.bb, dram := s.dram, oct := s.oct }) g.frame) h.frame, h.host.trans g.host⟩

theorem Brought.foldl {α : Type} {l : List α} {f : State → α → State} (h : Brought s t) (hf : ∀ a x, Brought a (f a x)) :
    Brought s (l.foldl f t) :=
  List.foldlRecOn (motive := Brought s) l f h fun a ha x _ => ha.trans (hf a x)

theorem Brought.ite {c : Prop} [Decidable c] (ht : Brought s t) (hu : Brought s u) : Brought s (if c then t else u) := by
  split
  · exact ht
  · exact hu

theorem BbOnly.brought (h : BbOnly s t) : Brought s t :=
  ⟨congrArg (fun v : State => { v with reg := s.reg, reqs := s.reqs, serial := s.serial, dram := s.dram, oct := s.oct }) h,
    (HostKept.refl s).of_reg h.reg⟩

theorem Asked.brought (h : Asked s t) : Brought s t :=
  ⟨congrArg (fun v : State => { v with bb := s.bb, dram := s.dram, oct := s.oct }) h.1,
    .regsBut h.2 fun _ hk => ⟨_, 0, List.mem_singleton.1 hk, by decide, by decide⟩⟩

theorem State.granule_brought (s : State) {o : Nat} (ho : o < 8) (data : List Byte) : Brought s (s.granule o data) := by
  have h1 : Brought s (s.incF F.OCT_WFWPTR_WPTR o) := ⟨rfl, (HostKept.refl s).setF (by decide) (by omega)⟩
  unfold State.granule
  extract_lets n g s1 b
  have h2 : Brought s (s1.putBytes o (b * 2048) (data.take 2048)) := h1.trans (State.putBytes_bbOnly _ _ _ _).brought
  have h3 (f : WaveSt → WaveSt) : Brought s ((s1.putBytes o (b * 2048) (data.take 2048)).modWave o f) := h2.trans ⟨rfl, .refl _⟩
  exact .ite (.refl s) (.ite h1 (h3 _))

theorem bits_lt_two_pow_of (n hi lo : Nat) : bits n hi lo < 2 ^ (hi + 1 - lo) := Nat.mod_lt _ (Nat.two_pow_pos _)

theorem State.streamInPut_brought (s : State) (x : Nat) (w : List Nat) (data : List Byte) : Brought s (s.streamInPut x w data) := by
  unfold State.streamInPut
  extract_lets g o at0
  split
  · exact .refl s
  · split
    · exact ((BbOnly.refl s).foldl (·.bbWriteByte)).brought
    · refine ((Brought.refl s).foldl fun a p => ?_).trans ((Asked.refl _).foldl (·.request)).brought
      exact ⟨rfl, .refl a⟩
    · exact (Brought.refl s).foldl fun a k => a.granule_brought (bits_lt_two_pow_of _ 4 2) _

/-! ### How a descriptor ends -/

/-- A descriptor has ended: nothing of it is held, and CONS goes on. -/
def State.descEnds (s : State) (n : Nat) : State :=
  (s.modSite n (fun q => { q with siTaken := 0 })).incF F.HST_RCONS_CONS (ringIx n 3)

/-- The number and the reason of a descriptor that fails are shown. -/
def State.descErr (s : State) (n i r : Nat) : State := (s.setF F.HST_SIERR_IDX n i).setF F.HST_SIERRC_RSN n r

/-- Descriptor number `i` has ended with an error. -/
def State.descFails (s : State) (n i r : Nat) : State := ((s.descErr n i r).descEnds n).raiseVf n 3

/-- The bytes of a descriptor, those included that were taken before. -/
def descBody (desc : List Nat) (data : List Byte) (okd : Bool) : List Byte :=
  if okd then padTo (desc.getD 1 0 % 4294967296) (data.take (desc.getD 1 0 % 4294967296)) else data.take (desc.getD 1 0 % 4294967296)

/-- Does the descriptor of a VF's stream-in ring go on: one waits, or is in progress? -/
def State.descTurn (s : State) (n : Fin 16) : Bool := s.slotWaits n.val 3 || (s.vfLive (.vf n) && (s.siteOf n.val).siTaken != 0)

/-- The reason for which a descriptor is refused; one in progress has been checked. -/
def State.descReason (s : State) (n : Nat) (desc : List Nat) : Nat := if (s.siteOf n).siTaken = 0 then s.streamInCheck n desc else 0

section descriptor

variable {n : Fin 16} {desc : List Nat} {data : List Byte} {okd : Bool}

theorem exec_streamInDescriptor_idle (h : s.descTurn n = false) : exec (.streamInDescriptor n desc data okd) s = .next s := by
  change execStreamInDescriptor n desc data okd s = _
  unfold execStreamInDescriptor
  extract_lets
  refine if_neg ?_
  intro ht
  exact Bool.false_ne_true (h.symm.trans ht)

theorem exec_streamInDescriptor_turn (h : s.descTurn n = true) : exec (.streamInDescriptor n desc data okd) s = .next (
    if s.descReason n.val desc ≠ 0 then s.descFails n.val (s.getF F.HST_RCONS_CONS (ringIx n.val 3)) (s.descReason n.val desc)
    else if bits (desc.getD 0 0) 1 0 = 1 ∧ s.waiting 2 n.val = true then s
    else if okd && s.ringFull desc (s.siteOf n.val).siTaken then
      (s.streamInPut n.val desc (((descBody desc data okd).drop (2048 * (s.siteOf n.val).siTaken)).take (2048 * s.wfRoom desc))).modSite
        n.val (fun q => { q with siTaken := (s.siteOf n.val).siTaken + s.wfRoom desc })
    else if okd then
      ((s.streamInPut n.val desc ((descBody desc data okd).drop (2048 * (s.siteOf n.val).siTaken))).descEnds n.val).raiseVf n.val 2
    else (s.streamInPut n.val desc ((descBody desc data okd).drop (2048 * (s.siteOf n.val).siTaken))).descFails n.val
      (s.getF F.HST_RCONS_CONS (ringIx n.val 3)) 5) := by
  change execStreamInDescriptor n desc data okd s = _
  unfold execStreamInDescriptor
  extract_lets x i m r len ends fail body k s1
  refine (if_pos h).trans ?_
  have hr : s.descReason n.val desc = r := rfl
  have hm : (s.siteOf n.val).siTaken = m := rfl
  rw [hr, hm]
  split
  · rfl
  · split
    · rfl
    · split
      · rfl
      · split <;> rfl

/-- A descriptor that is refused ends with its reason. -/
theorem exec_streamInDescriptor_refused (h : s.descTurn n = true) (hr : s.descReason n.val desc ≠ 0) :
    exec (.streamInDescriptor n desc data okd) s =
      .next (s.descFails n.val (s.getF F.HST_RCONS_CONS (ringIx n.val 3)) (s.descReason n.val desc)) := by
  rw [exec_streamInDescriptor_turn h, if_pos hr]

/-- A descriptor for DRAM waits until HOST traffic of its site has been served. -/
theorem exec_streamInDescriptor_waits (h : s.descTurn n = true) (hr : s.descReason n.val desc = 0)
    (hk : bits (desc.getD 0 0) 1 0 = 1) (hw : s.waiting 2 n.val = true) : exec (.streamInDescriptor n desc data okd) s = .next s := by
  rw [exec_streamInDescriptor_turn h, if_neg (not_not_intro hr), if_pos ⟨hk, hw⟩]

/-- A descriptor for a segment ring without slots for all of it gives the ring what it takes. -/
theorem exec_streamInDescriptor_part (h : s.descTurn n = true) (hr : s.descReason n.val desc = 0)
    (hw : bits (desc.getD 0 0) 1 0 = 1 → s.waiting 2 n.val = false) (hf : s.ringFull desc (s.siteOf n.val).siTaken = true) :
    ∃ u, Brought s u ∧ exec (.streamInDescriptor n desc data true) s =
      .next (u.modSite n.val (fun q => { q with siTaken := (s.siteOf n.val).siTaken + s.wfRoom desc })) := by
  refine ⟨s.streamInPut n.val desc (((descBody desc data true).drop (2048 * (s.siteOf n.val).siTaken)).take
    (2048 * s.wfRoom desc)), s.streamInPut_brought _ _ _, ?_⟩
  rw [exec_streamInDescriptor_turn h, if_neg (not_not_intro hr), if_neg (fun hc => by rw [hw hc.1] at hc; exact Bool.false_ne_true hc.2),
    if_pos (by rw [hf]; rfl)]

/-- A descriptor whose bytes all find room brings them and ends. -/
theorem exec_streamInDescriptor_whole (h : s.descTurn n = true) (hr : s.descReason n.val desc = 0)
    (hw : bits (desc.getD 0 0) 1 0 = 1 → s.waiting 2 n.val = false) (hf : s.ringFull desc (s.siteOf n.val).siTaken = false) :
    exec (.streamInDescriptor n desc data true) s =
      .next (((s.streamInPut n.val desc ((descBody desc data true).drop (2048 * (s.siteOf n.val).siTaken))).descEnds n.val).raiseVf
        n.val 2) := by
  rw [exec_streamInDescriptor_turn h, if_neg (not_not_intro hr), if_neg (fun hc => by rw [hw hc.1] at hc; exact Bool.false_ne_true hc.2),
    if_neg (by rw [hf]; decide), if_pos rfl]

/-- A descriptor whose host read fails brings what came, and ends with reason 5. -/
theorem exec_streamInDescriptor_failed (h : s.descTurn n = true) (hr : s.descReason n.val desc = 0)
    (hw : bits (desc.getD 0 0) 1 0 = 1 → s.waiting 2 n.val = false) :
    ∃ u, Brought s u ∧ exec (.streamInDescriptor n desc data false) s =
      .next (u.descFails n.val (s.getF F.HST_RCONS_CONS (ringIx n.val 3)) 5) := by
  refine ⟨s.streamInPut n.val desc ((descBody desc data false).drop (2048 * (s.siteOf n.val).siTaken)), s.streamInPut_brought _ _ _, ?_⟩
  rw [exec_streamInDescriptor_turn h, if_neg (not_not_intro hr), if_neg (fun hc => by rw [hw hc.1] at hc; exact Bool.false_ne_true hc.2),
    if_neg (by simp), if_neg (by decide)]

theorem descBody_of_length (h : data.length = desc.getD 1 0 % 4294967296) : descBody desc data true = data := by
  rw [descBody, if_pos rfl, ← h, List.take_length, padTo, Nat.sub_self, List.replicate_zero, List.append_nil]

end descriptor

/-! ### What the end of a descriptor shows -/

section ends

variable {n : Fin 16}

/-- A descriptor has ended and its event is raised. -/
theorem State.descEnds_raised (h : HostKept s t) {k : Nat} (hk : k < 16) :
    ((t.descEnds n.val).raiseVf n.val k).getF F.HST_RCONS_CONS (ringIx n.val 3) =
        (s.getF F.HST_RCONS_CONS (ringIx n.val 3) + 1) % 4294967296 ∧
      (((t.descEnds n.val).raiseVf n.val k).siteOf n.val).siTaken = 0 ∧
      hasBit (((t.descEnds n.val).raiseVf n.val k).getF F.HST_EVT_EVT n.val) k = true := by
  have hx := ringIx_lt n.isLt (r := 3) (by decide)
  have hn := n.isLt
  refine ⟨?_, ?_, State.hasBit_getF_raise hk _ _⟩
  · refine (((t.descEnds n.val).raise_regs n.val k).getF ?_).trans ?_
    · simpa using ⟨Fld.key_ne (by decide) (by omega) (by omega), Fld.key_ne (by decide) (by omega) (by omega)⟩
    · refine (State.getF_incF_same ..).trans ?_
      exact congrArg (fun v => (v + 1) % 4294967296) (h F.HST_RCONS_CONS (Nat.le_refl _) _)
  · have hs : ((t.descEnds n.val).raise n.val k).site = (t.descEnds n.val).site :=
      (congrArg State.site ((t.descEnds n.val).raise_frame n.val k) :)
    have h1 : ((t.descEnds n.val).raiseVf n.val k).siteOf n.val = (t.descEnds n.val).siteOf n.val := congrArg (Tbl.get _ · n.val) hs
    rw [h1]
    change (((_ : State).modSite n.val fun q => { q with siTaken := 0 }).siteOf n.val).siTaken = 0
    rw [State.siteOf_modSite_same]

theorem State.sameMems_descEnds (s : State) (x : Nat) : s.sameMems (s.descEnds x) := ⟨rfl, rfl, rfl, rfl, rfl, rfl, rfl, rfl⟩

theorem State.sameMems_descErr (s : State) (x i r : Nat) : s.sameMems (s.descErr x i r) := ⟨rfl, rfl, rfl, rfl, rfl, rfl, rfl, rfl⟩

theorem State.getF_descErr (s : State) {i r : Nat} (hr : r < 8) :
    (s.descErr n.val i r).getF F.HST_SIERRC_RSN n.val = r ∧
      (s.descErr n.val i r).getF F.HST_SIERR_IDX n.val = i % 4294967296 ∧
      (s.descErr n.val i r).getF F.HST_RCONS_CONS (ringIx n.val 3) = s.getF F.HST_RCONS_CONS (ringIx n.val 3) := by
  have hx := ringIx_lt n.isLt (r := 3) (by decide)
  have hn := n.isLt
  unfold State.descErr
  refine ⟨?_, ?_, ?_⟩
  · rw [State.getF_setF_same]
    exact Nat.mod_eq_of_lt hr
  · rw [State.getF_setF_other (Fld.key_ne_same (by decide)), State.getF_setF_same]
    rfl
  · rw [State.getF_setF_other (Fld.key_ne (by decide) (by omega) (by omega)),
      State.getF_setF_other (Fld.key_ne (by decide) (by omega) (by omega))]

/-- Of the fields of `n` but its event and pending bits, the end of a descriptor changes CONS alone. -/
theorem State.getF_descEnds_raised (s : State) {f : Fld} (h1 : f.id ≠ F.HST_RCONS_CONS.id) (h2 : f.id ≠ F.HST_EVT_EVT.id)
    (h3 : f.id ≠ F.MSIX_PBA_PEND.id) (k : Nat) : ((s.descEnds n.val).raiseVf n.val k).getF f n.val = s.getF f n.val := by
  have hx := ringIx_lt n.isLt (r := 3) (by decide)
  have hn := n.isLt
  have hg : ((s.descEnds n.val).raiseVf n.val k).getF f n.val = (s.descEnds n.val).getF f n.val :=
    ((s.descEnds n.val).raise_regs n.val k).getF (by simpa using ⟨Fld.key_ne_same h2, Fld.key_ne_same h3⟩)
  rw [hg, State.descEnds, State.incF, State.addF, State.getF_setF_other (Fld.key_ne h1 (by omega) (by omega))]
  rfl

/-- What a descriptor that fails shows. -/
theorem State.descFails_shows (t : State) {i r : Nat} (hr : r < 8) :
    (t.descFails n.val i r).getF F.HST_SIERRC_RSN n.val = r ∧
      (t.descFails n.val i r).getF F.HST_SIERR_IDX n.val = i % 4294967296 ∧
      (t.descFails n.val i r).getF F.HST_RCONS_CONS (ringIx n.val 3) =
        (t.getF F.HST_RCONS_CONS (ringIx n.val 3) + 1) % 4294967296 ∧
      hasBit ((t.descFails n.val i r).getF F.HST_EVT_EVT n.val) 3 = true ∧ t.sameMems (t.descFails n.val i r) := by
  obtain ⟨hrsn, hidx, hcons⟩ := t.getF_descErr (n := n) (i := i) hr
  obtain ⟨hc, -, he⟩ := State.descEnds_raised (n := n) (k := 3) (HostKept.refl (t.descErr n.val i r)) (by decide)
  refine ⟨?_, ?_, ?_, he, ?_⟩
  · rw [State.descFails, State.getF_descEnds_raised _ (by decide) (by decide) (by decide), hrsn]
  · rw [State.descFails, State.getF_descEnds_raised _ (by decide) (by decide) (by decide), hidx]
  · rw [State.descFails, hc, hcons]
  · exact ((t.sameMems_descErr ..).trans (State.sameMems_descEnds ..)).trans (State.sameMems_raiseVf ..)

end ends

theorem State.streamInCheck_lt (s : State) (x : Nat) (w : List Nat) : s.streamInCheck x w < 8 := by
  unfold State.streamInCheck
  extract_lets
  split_ifs <;> decide

end Sys2Proof.Machine
end

section
/-! SUPPORT. Trigger levels at the slots they feed (R214, R465). -/

namespace Sys2Proof.Machine

variable {s t u : State}

/-! ### A trigger of acquisition -/

/-- From `s` to `t` nothing changes but register fields, channels and the acquisition memory. -/
def AcqOnly (s t : State) : Prop := { t with reg := s.reg, chan := s.chan, acqMem := s.acqMem } = s

theorem AcqOnly.refl (s : State) : AcqOnly s s := rfl

theorem AcqOnly.ite {c : Prop} [Decidable c] (ht : AcqOnly s t) (hu : AcqOnly s u) : AcqOnly s (if c then t else u) := by
  split
  · exact ht
  · exact hu

theorem AcqOnly.foldl {α : Type} {l : List α} {f : State → α → State} (h : AcqOnly s t)
    (hf : ∀ {a x}, AcqOnly s a → AcqOnly s (f a x)) : AcqOnly s (l.foldl f t) :=
  List.foldlRecOn (motive := AcqOnly s) l f h fun _ ha _ _ => hf ha

theorem AcqOnly.modAcq (h : AcqOnly s t) {c : Nat} {f : AcqSt → AcqSt} : AcqOnly s (t.modAcq c f) := h

theorem AcqOnly.setF (h : AcqOnly s t) {f : Fld} {i v : Nat} : AcqOnly s (t.setF f i v) := h

theorem AcqOnly.setFs (h : AcqOnly s t) {i : Nat} {l : List (Fld × Nat)} : AcqOnly s (t.setFs i l) := h.foldl (·.setF)

theorem AcqOnly.setAcq (h : AcqOnly s t) {c a : Nat} {v : Byte} : AcqOnly s (t.setAcq c a v) := h

theorem AcqOnly.incBin (h : AcqOnly s t) {c b : Nat} : AcqOnly s (t.incBin c b) := h.setF.ite (h.foldl (·.setAcq))

theorem AcqOnly.decBin (h : AcqOnly s t) {c b : Nat} : AcqOnly s (t.decBin c b) := h.ite (h.foldl (·.setAcq))

theorem AcqOnly.rovCount (h : AcqOnly s t) {c p code : Nat} : AcqOnly s (t.rovCount c p code) := by
  unfold State.rovCount
  split
  · exact h.incBin
  · exact h

theorem AcqOnly.rovTake (h : AcqOnly s t) {c p code : Nat} : AcqOnly s (t.rovTake c p code) :=
  h.rovCount.ite (h.modAcq.ite (h.rovCount.modAcq.ite h))

theorem AcqOnly.acqTake (h : AcqOnly s t) {c : Nat} {q : AcqUi} : AcqOnly s (t.acqTake c q) := by
  unfold State.acqTake
  extract_lets s1 s2
  have h1 : AcqOnly s s1 := h.incBin.ite h
  have h2 : AcqOnly s s2 := by
    unfold s2
    split
    · exact h1.incBin.ite h1
    · exact h1
  split
  · exact h2.rovTake
  · exact h2

theorem AcqOnly.acqUntake (h : AcqOnly s t) {c : Nat} {q : AcqUi} : AcqOnly s (t.acqUntake c q) := by
  unfold State.acqUntake
  extract_lets s1 s2
  have h1 : AcqOnly s s1 := h.decBin.ite h
  have h2 : AcqOnly s s2 := by
    unfold s2
    split
    · exact h1.decBin.ite h1
    · exact h1
  split
  · exact h2.decBin.modAcq
  · exact h2

theorem AcqOnly.acqRef (h : AcqOnly s t) {c : Nat} {v : Time} {r : AcqUi} {k : Nat} : AcqOnly s (t.acqRef c v r k) :=
  h.setFs.modAcq

theorem AcqOnly.acqWindow (h : AcqOnly s t) {c : Nat} {v : Time} {r : AcqUi} {l : List AcqUi} :
    AcqOnly s (t.acqWindow c v r l) := by
  unfold State.acqWindow
  extract_lets _ _ s1
  have h1 : AcqOnly s s1 := h.modAcq
  exact (h1.ite (h1.foldl fun ha => ha.acqTake.ite (ha.acqUntake.ite ha)).modAcq).ite h

theorem AcqOnly.acqTrigger (h : AcqOnly s t) {c : Nat} {v : Time} : AcqOnly s (t.acqTrigger c v) := by
  refine h.modAcq.ite ?_
  unfold State.acqJudge
  extract_lets
  split
  · exact h
  · exact (h.acqRef.ite h).acqWindow

theorem State.acqTrigIn_acqOnly (s : State) (x slot : Nat) (v : Time) : AcqOnly s (s.acqTrigIn x slot v) :=
  (AcqOnly.refl s).foldl fun ha => ha.acqTrigger.ite ha

/-! ### A level -/

/-- Two words that agree below bit `k` and above it agree in every other bit. -/
theorem hasBit_congr_other {m n k j : Nat} (hl : m % 2 ^ k = n % 2 ^ k) (hh : m / 2 ^ k / 2 = n / 2 ^ k / 2) (hj : j ≠ k) :
    hasBit m j = hasBit n j := by
  obtain h | h := Nat.lt_or_gt_of_ne hj
  · rw [← hasBit_mod_two_pow h m, ← hasBit_mod_two_pow h n, hl]
  · obtain ⟨d, rfl⟩ : ∃ d, j = k + 1 + d := ⟨j - (k + 1), by omega⟩
    simp only [hasBit, Nat.pow_add, Nat.pow_one, ← Nat.div_div_eq_div_mul, hh]

theorem hasBit_setBit_other {n k j : Nat} (hj : j ≠ k) : hasBit (setBit n k) j = hasBit n j := by
  unfold setBit
  split
  · rfl
  · next h =>
    have hz : n / 2 ^ k % 2 = 0 := by simpa [hasBit] using h
    refine hasBit_congr_other (Nat.add_mod_right ..) ?_ hj
    rw [Nat.add_div_right n (Nat.two_pow_pos k)]
    omega

/-- A word with a bit set is another, with that bit clear, and the bit's value. -/
theorem eq_add_of_hasBit {n k : Nat} (h : hasBit n k = true) : ∃ m, n = m + 2 ^ k ∧ m / 2 ^ k % 2 = 0 := by
  have hz : n / 2 ^ k % 2 = 1 := by simpa [hasBit] using h
  have hle : 2 ^ k ≤ n := by
    by_contra hc
    rw [Nat.div_eq_of_lt (Nat.lt_of_not_le hc)] at hz
    omega
  have hn : n = n - 2 ^ k + 2 ^ k := (Nat.sub_add_cancel hle).symm
  refine ⟨n - 2 ^ k, hn, ?_⟩
  rw [hn, Nat.add_div_right _ (Nat.two_pow_pos k)] at hz
  omega

theorem hasBit_clearBit (n k : Nat) : hasBit (clearBit n k) k = false := by
  unfold clearBit
  split
  · next h =>
    obtain ⟨m, rfl, hm⟩ := eq_add_of_hasBit h
    rw [Nat.add_sub_cancel, hasBit, hm]
    rfl
  · next h => exact Bool.eq_false_iff.2 h

theorem hasBit_clearBit_other {n k j : Nat} (hj : j ≠ k) : hasBit (clearBit n k) j = hasBit n j := by
  unfold clearBit
  split
  · next h =>
    obtain ⟨m, rfl, hm⟩ := eq_add_of_hasBit h
    rw [Nat.add_sub_cancel]
    refine hasBit_congr_other (Nat.add_mod_right ..).symm ?_ hj
    rw [Nat.add_div_right m (Nat.two_pow_pos k)]
    omega
  · rfl

/-- Word `n` with bit `k` at a level. -/
def putBit (level : Bool) (n k : Nat) : Nat := if level then setBit n k else clearBit n k

theorem hasBit_putBit (level : Bool) (n k : Nat) : hasBit (putBit level n k) k = level := by
  cases level
  · exact hasBit_clearBit n k
  · exact hasBit_setBit n k

theorem hasBit_putBit_other {level : Bool} {n k j : Nat} (hj : j ≠ k) : hasBit (putBit level n k) j = hasBit n j := by
  cases level
  · exact hasBit_clearBit_other hj
  · exact hasBit_setBit_other hj

/-- A level, registered at `v`, reaches slot `k` of site `x`; an edge triggers while the receivers are on. -/
def State.slotLevel (s : State) (x : Nat) (level trig : Bool) (v : Time) (k : Nat) : State :=
  if level && trig then (s.modSite x (fun t => { t with trigIn := putBit level t.trigIn k })).acqTrigIn x k v
  else s.modSite x (fun t => { t with trigIn := putBit level t.trigIn k })

/-- The instant at which a level is registered. -/
def State.trigTime (s : State) : Time := Time.ofNs (Time.toNs (s.localNow 11))

/-- A level reaches the slots of site `x` that ball `b` feeds. -/
def State.siteLevel (s : State) (b : Nat) (level : Bool) (t : State) (x : Nat) : State :=
  (s.slotsOf x b).foldl (fun c k => c.slotLevel x level s.rxOn s.trigTime k) t

theorem State.trigLevel_eq (s : State) (b : Nat) (level : Bool) :
    s.trigLevel b level = (sites.filter (fun x => s.present x)).foldl (s.siteLevel b level) s := rfl

/-- From `s` to `t` nothing changes but what triggers write, and levels at slots. -/
def LevelOnly (s t : State) : Prop := { t with reg := s.reg, chan := s.chan, site := s.site, acqMem := s.acqMem } = s

/-- At slot `k` of a site a level has arrived; every other slot of every site is as it was. -/
theorem State.slotLevel_effect (s : State) (x : Nat) (level trig : Bool) (v : Time) (k : Nat) :
    LevelOnly s (s.slotLevel x level trig v k) ∧ hasBit ((s.slotLevel x level trig v k).siteOf x).trigIn k = level ∧
      ∀ y j, y ≠ x ∨ j ≠ k → hasBit ((s.slotLevel x level trig v k).siteOf y).trigIn j = hasBit (s.siteOf y).trigIn j := by
  generalize hu : s.modSite x (fun t => { t with trigIn := putBit level t.trigIn k }) = u
  have hl : LevelOnly s u := by
    rw [← hu]
    rfl
  have hx : (u.siteOf x).trigIn = putBit level (s.siteOf x).trigIn k := by
    rw [← hu, State.siteOf_modSite_same]
  have hk : hasBit (u.siteOf x).trigIn k = level := by rw [hx, hasBit_putBit]
  have ho : ∀ y j, y ≠ x ∨ j ≠ k → hasBit (u.siteOf y).trigIn j = hasBit (s.siteOf y).trigIn j := by
    intro y j h
    by_cases hy : y = x
    · subst hy
      rw [hx, hasBit_putBit_other (h.resolve_left (not_not_intro rfl))]
    · rw [← hu, State.siteOf_modSite_other hy]
  have ha := u.acqTrigIn_acqOnly x k v
  have hs : (u.acqTrigIn x k v).site = u.site := (congrArg State.site ha :)
  have hi (y : Nat) : (u.acqTrigIn x k v).siteOf y = u.siteOf y := congrArg (Tbl.get _ · y) hs
  rw [State.slotLevel, hu]
  split
  · refine ⟨?_, by rw [hi, hk], fun y j h => by rw [hi, ho y j h]⟩
    exact Eq.trans (congrArg (fun w : State => { w with reg := s.reg, chan := s.chan, site := s.site, acqMem := s.acqMem }) ha) hl
  · exact ⟨hl, hk, ho⟩

/-- Between `s` and `t` slots of sites may have taken a level. -/
structure Levelled (level : Bool) (s t : State) : Prop where
  frame : LevelOnly s t
  bits : ∀ y j, hasBit (t.siteOf y).trigIn j = level ∨ hasBit (t.siteOf y).trigIn j = hasBit (s.siteOf y).trigIn j

theorem Levelled.refl (level : Bool) (s : State) : Levelled level s s := ⟨rfl, fun _ _ => .inr rfl⟩

theorem Levelled.trans {level : Bool} (h : Levelled level s t) (g : Levelled level t u) : Levelled level s u := by
  refine ⟨?_, fun y j => ?_⟩
  · exact Eq.trans (congrArg (fun w : State => { w with reg := s.reg, chan := s.chan, site := s.site, acqMem := s.acqMem }) g.frame)
      h.frame
  · obtain h1 | h1 := g.bits y j
    · exact .inl h1
    · rw [h1]
      exact h.bits y j

theorem Levelled.foldl {level : Bool} {α : Type} {f : State → α → State} (hf : ∀ a x, Levelled level a (f a x)) (l : List α)
    (s : State) : Levelled level s (l.foldl f s) :=
  List.foldlRecOn (motive := Levelled level s) l f (.refl level s) fun _ ha _ _ => ha.trans (hf _ _)

/-- A slot that has the level keeps it. -/
theorem Levelled.keeps {level : Bool} (h : Levelled level s t) {y j : Nat} (hb : hasBit (s.siteOf y).trigIn j = level) :
    hasBit (t.siteOf y).trigIn j = level := (h.bits y j).elim id fun e => e.trans hb

theorem State.slotLevel_levelled (s : State) (x : Nat) (level trig : Bool) (v : Time) (k : Nat) :
    Levelled level s (s.slotLevel x level trig v k) := by
  obtain ⟨hf, hk, ho⟩ := s.slotLevel_effect x level trig v k
  refine ⟨hf, fun y j => ?_⟩
  by_cases h : y = x ∧ j = k
  · obtain ⟨rfl, rfl⟩ := h
    exact .inl hk
  · exact .inr (ho y j (by tauto))

theorem State.siteLevel_levelled (s : State) (b : Nat) (level : Bool) (t : State) (x : Nat) :
    Levelled level t (s.siteLevel b level t x) := .foldl (fun a _ => a.slotLevel_levelled ..) _ _

/-- A fold whose steps only put a level leaves it where one of its steps has put it. -/
theorem Levelled.foldl_reaches {level : Bool} {α : Type} {f : State → α → State} (hf : ∀ a x, Levelled level a (f a x)) {l : List α}
    {x : α} (hx : x ∈ l) {y j : Nat} (hb : ∀ a, hasBit ((f a x).siteOf y).trigIn j = level) (s : State) :
    hasBit ((l.foldl f s).siteOf y).trigIn j = level := by
  induction l generalizing s with
  | nil => cases hx
  | cons z l ih =>
    obtain rfl | hx := List.mem_cons.1 hx
    · exact (Levelled.foldl hf l _).keeps (hb s)
    · exact ih hx (f s z)

/-- A level reaches every slot that the ball feeds. -/
theorem State.trigLevel_reaches {b x k : Nat} {level : Bool} (hx : x < 16) (hk : k < 4) (hp : s.present x = true)
    (hs : s.trgInSlot x k = some b) : hasBit ((s.trigLevel b level).siteOf x).trigIn k = level := by
  rw [State.trigLevel_eq]
  refine Levelled.foldl_reaches (s.siteLevel_levelled b level) (x := x)
    (List.mem_filter.2 ⟨List.mem_range.2 hx, hp⟩) (fun a => ?_) s
  refine Levelled.foldl_reaches (fun c j => c.slotLevel_levelled ..) (x := k) ?_ (fun c => ?_) a
  · refine List.mem_filter.2 ⟨?_, by rw [hs]; exact beq_self_eq_true _⟩
    exact (by decide : ∀ j < 4, j ∈ [0, 1, 2, 3]) k hk
  · exact (c.slotLevel_effect ..).2.1

theorem State.trigLevel_frame (s : State) (b : Nat) (level : Bool) : LevelOnly s (s.trigLevel b level) :=
  (Levelled.foldl (s.siteLevel_levelled b level) _ s).frame

/-- The state in which the level of a ball has just changed. -/
def State.ballAt (s : State) (b : Nat) (level : Bool) : State := { s with trgIn := putBit level s.trgIn b }

theorem exec_trgInEdge_same {b : Fin 16} {level : Bool} (h : hasBit s.trgIn b.val = level) : exec (.trgInEdge b level) s = .next s :=
  if_pos h

theorem exec_trgInEdge_change {b : Fin 16} {level : Bool} (h : hasBit s.trgIn b.val ≠ level) :
    exec (.trgInEdge b level) s = .next ((s.ballAt b.val level).trigLevel b.val level) := if_neg h

theorem State.trgIn_trigLevel (s : State) (b : Nat) (level : Bool) : (s.trigLevel b level).trgIn = s.trgIn :=
  (congrArg State.trgIn (s.trigLevel_frame b level) :)

end Sys2Proof.Machine
end

section
/-! The slots and the trigger inputs (R443 to R445, R465). -/

namespace Sys2Proof.Machine

variable {s : State} {n : Fin 16} {desc : List Nat} {data : List Byte}

/-- A descriptor that has passed its checks ends, waits for room, or fails (R445). -/
theorem streamIn_passed (h : s.descTurn n = true) (hr : s.descReason n.val desc = 0)
    (hw : bits (desc.getD 0 0) 1 0 = 1 → s.waiting 2 n.val = false) :
    (s.ringFull desc (s.siteOf n.val).siTaken = false → ∃ t, exec (.streamInDescriptor n desc data true) s = .next t ∧
      t.getF F.HST_RCONS_CONS (ringIx n.val 3) = (s.getF F.HST_RCONS_CONS (ringIx n.val 3) + 1) % 4294967296 ∧
      (t.siteOf n.val).siTaken = 0 ∧ hasBit (t.getF F.HST_EVT_EVT n.val) 2 = true) ∧
    (s.ringFull desc (s.siteOf n.val).siTaken = true → ∃ t, exec (.streamInDescriptor n desc data true) s = .next t ∧
      (t.siteOf n.val).siTaken = (s.siteOf n.val).siTaken + s.wfRoom desc ∧
      t.getF F.HST_RCONS_CONS (ringIx n.val 3) = s.getF F.HST_RCONS_CONS (ringIx n.val 3)) := by
  refine ⟨fun hf => ?_, fun hf => ?_⟩
  · exact ⟨_, exec_streamInDescriptor_whole h hr hw hf, State.descEnds_raised (s.streamInPut_brought ..).host (by decide)⟩
  · obtain ⟨u, hu, he⟩ := exec_streamInDescriptor_part (data := data) h hr hw hf
    refine ⟨_, he, ?_, hu.host F.HST_RCONS_CONS (Nat.le_refl _) _⟩
    rw [State.siteOf_modSite_same]

/-- A descriptor whose host read fails shows reason 5. -/
theorem streamIn_failed (h : s.descTurn n = true) (hr : s.descReason n.val desc = 0)
    (hw : bits (desc.getD 0 0) 1 0 = 1 → s.waiting 2 n.val = false) :
    ∃ t, exec (.streamInDescriptor n desc data false) s = .next t ∧ t.getF F.HST_SIERRC_RSN n.val = 5 ∧
      hasBit (t.getF F.HST_EVT_EVT n.val) 3 = true := by
  obtain ⟨u, -, he⟩ := exec_streamInDescriptor_failed (data := data) h hr hw
  obtain ⟨hr, -, -, hv, -⟩ := u.descFails_shows (n := n) (i := s.getF F.HST_RCONS_CONS (ringIx n.val 3)) (r := 5) (by decide)
  exact ⟨_, he, hr, hv⟩

/-- A descriptor that waits is refused, brings its bytes, or waits on (R445). -/
theorem streamIn_waiting (h : s.slotWaits n.val 3 = true) (hz : (s.siteOf n.val).siTaken = 0) :
    (∀ r, r = s.streamInCheck n.val desc → r ≠ 0 → ∀ okd, ∃ t, exec (.streamInDescriptor n desc data okd) s = .next t ∧
      t.getF F.HST_SIERRC_RSN n.val = r ∧
      t.getF F.HST_SIERR_IDX n.val = s.getF F.HST_RCONS_CONS (ringIx n.val 3) % 4294967296 ∧
      t.getF F.HST_RCONS_CONS (ringIx n.val 3) = (s.getF F.HST_RCONS_CONS (ringIx n.val 3) + 1) % 4294967296 ∧
      hasBit (t.getF F.HST_EVT_EVT n.val) 3 = true ∧ s.sameMems t) ∧
    (s.streamInCheck n.val desc = 0 → bits (desc.getD 0 0) 1 0 = 1 → s.waiting 2 n.val = true →
      ∀ okd, exec (.streamInDescriptor n desc data okd) s = .next s) ∧
    (s.streamInCheck n.val desc = 0 → (bits (desc.getD 0 0) 1 0 = 1 → s.waiting 2 n.val = false) →
      (s.ringFull desc 0 = false →
        (data.length = desc.getD 1 0 % 4294967296 → exec (.streamInDescriptor n desc data true) s =
          .next (((s.streamInPut n.val desc data).descEnds n.val).raiseVf n.val 2)) ∧
        ∃ t, exec (.streamInDescriptor n desc data true) s = .next t ∧
          t.getF F.HST_RCONS_CONS (ringIx n.val 3) = (s.getF F.HST_RCONS_CONS (ringIx n.val 3) + 1) % 4294967296 ∧
          (t.siteOf n.val).siTaken = 0 ∧ hasBit (t.getF F.HST_EVT_EVT n.val) 2 = true) ∧
      (s.ringFull desc 0 = true → ∃ t, exec (.streamInDescriptor n desc data true) s = .next t ∧
        (t.siteOf n.val).siTaken = s.wfRoom desc ∧ t.getF F.HST_RCONS_CONS (ringIx n.val 3) = s.getF F.HST_RCONS_CONS (ringIx n.val 3)) ∧
      ∃ t, exec (.streamInDescriptor n desc data false) s = .next t ∧ t.getF F.HST_SIERRC_RSN n.val = 5 ∧
        hasBit (t.getF F.HST_EVT_EVT n.val) 3 = true) := by
  have ht : s.descTurn n = true := by rw [State.descTurn, h, Bool.true_or]
  have hr : s.descReason n.val desc = s.streamInCheck n.val desc := if_pos hz
  refine ⟨?_, fun hc hk hw okd => exec_streamInDescriptor_waits ht (hr.trans hc) hk hw, fun hc hw => ?_⟩
  · rintro _ rfl hc okd
    exact ⟨_, exec_streamInDescriptor_refused ht (hr.symm ▸ hc), hr ▸ s.descFails_shows (hr ▸ s.streamInCheck_lt _ _)⟩
  · obtain ⟨hend, hpart⟩ := streamIn_passed (data := data) ht (hr.trans hc) hw
    rw [hz] at hend hpart
    refine ⟨fun hf => ⟨fun hl => ?_, hend hf⟩, fun hf => ?_, streamIn_failed ht (hr.trans hc) hw⟩
    · rw [exec_streamInDescriptor_whole ht (hr.trans hc) hw (by rw [hz, hf]), descBody_of_length hl, hz, Nat.mul_zero, List.drop_zero]
    · simpa only [Nat.zero_add] using hpart hf

/-- A level that changes shows at its ball and at the slots it feeds (R465). -/
theorem trgIn_change {b : Fin 16} {level : Bool} (h : hasBit s.trgIn b.val ≠ level) :
    ∃ t, exec (.trgInEdge b level) s = .next t ∧ hasBit t.trgIn b.val = level ∧
      (∀ k, k ≠ b.val → hasBit t.trgIn k = hasBit s.trgIn k) ∧
      (∀ x k, x < 16 → k < 4 → s.present x = true → s.trgInSlot x k = some b.val → hasBit (t.siteOf x).trigIn k = level) ∧
      { t with reg := s.reg, chan := s.chan, site := s.site, trgIn := s.trgIn, acqMem := s.acqMem } = s := by
  have hf := (s.ballAt b.val level).trigLevel_frame b.val level
  have hi := (s.ballAt b.val level).trgIn_trigLevel b.val level
  refine ⟨_, exec_trgInEdge_change h, ?_, fun k hk => ?_, fun x k hx hk hp hs => ?_, ?_⟩
  · rw [hi]
    exact hasBit_putBit ..
  · rw [hi]
    exact hasBit_putBit_other hk
  · exact State.trigLevel_reaches hx hk hp hs
  · exact (congrArg (fun w : State => { w with trgIn := s.trgIn }) hf :)

/-- Settles O60: an arriving item and a descriptor's bytes leave the host registers alone (`HostKept`), so the counts and events of a slot
are those of its own end; levels go through a fold whose steps only put the level (`Levelled`). -/
theorem slotsAndTriggers : Obligations.SlotsAndTriggers := by
  unfold Obligations.SlotsAndTriggers
  refine ⟨fun n slot s => ⟨fun h ht => ⟨fun hz => ?_, ?_, ?_⟩, exec_submitSlotRead_idle⟩,
    fun n s => ⟨fun r rest a hr ha => ?_, exec_completionWrite_waits⟩,
    fun n desc data s => ⟨streamIn_waiting, fun hv hz hk => ?_, fun h hd okd => ?_⟩,
    fun b level s => ⟨trgIn_change, exec_trgInEdge_same⟩⟩
  · rw [exec_submitSlotRead_waits h ht, State.slotTaken, if_neg]
    · rfl
    · rw [slotBad_iff]
      exact fun ⟨k, hk, hne⟩ => hne (hz k hk)
  · have hf := s.slotTaken_frame n.val slot
    have hx := ringIx_lt n.isLt (r := 0) (by decide)
    have hn := n.isLt
    refine ⟨_, exec_submitSlotRead_waits h ht, ?_, fun hb => ?_, hf.sameMems, hf.eng, hf.chan⟩
    · refine (State.getF_incF_same ..).trans ?_
      exact congrArg (fun v => (v + 1) % 4294967296) (s.slotTaken_host n.val slot F.HST_RCONS_CONS (Nat.le_refl _) _)
    · obtain ⟨hrej, hready⟩ := State.slotTaken_bad (s := s) (n := n) (slotBad_iff.2 hb)
      exact ⟨(State.getF_setF_other (Fld.key_ne (by decide) (by omega) (by omega))).trans hrej, hready⟩
  · exact ⟨_, exec_submitSlotRead_failed h ht, State.hstErr_vf (by decide) (by decide) (by decide)⟩
  · obtain ⟨t, ht, hs⟩ := s.recordSent_raised n r rest a
    exact ⟨t, ht ▸ exec_completionWrite_sends hr ha, hs⟩
  · have ht : s.descTurn n = true := by
      rw [State.descTurn, hv, bne_iff_ne.2 hz, Bool.true_and, Bool.or_true]
    exact streamIn_passed ht (if_neg hz) fun h1 => by rw [hk] at h1; cases h1
  · refine exec_streamInDescriptor_idle ?_
    rw [State.descTurn, h, Bool.false_or]
    obtain h1 | h1 := hd
    · rw [h1]
      exact Bool.and_false _
    · rw [h1]
      exact Bool.false_and _

end Sys2Proof.Machine
end

section
/-! SUPPORT. What sending over the fabric, its topology and Sumac's sources change (R299 to R317, R386 to R396): the elementary steps that
they are made of, and what every run of such steps keeps. -/

namespace Sys2Proof.Machine

variable {top : Bool} {s t u : State}

/-! ### The elementary steps -/

/-- The fields that sending writes. -/
def sendIds : List Nat := [F.FAB_SLPSTAT_STATE, F.FAB_SLPSTAT_CANCELLED, F.SITE_SFLWAIT_CNT].map Fld.id

/-- The fields that the topology and Sumac's sources write beside them. -/
def showIds : List Nat :=
  [F.FAB_TOPOVER_VER, F.FAB_ID_SROOT, F.FAB_SLPT_NS, F.FLT_SSRC_SRC, F.FLT_SSRC_STK, F.FLT_SSRC_QUIETING, F.FLT_SSRC_SAFE,
    F.FLT_STAT_CSRC, F.FLT_STAT_CSAFE, F.FLT_STAT_CLATCH, F.FLT_STAT_SSAFE, F.FLT_STAT_ERR, F.SE_EXCB_PSAFE].map Fld.id

/-- From `s` a run of steps leads on: of those that sending takes, and where `top` holds, of those that the topology and Sumac's sources
take. The state of a port changes by sleep and wake alone, cells enter the retry buffer of a port that is UP, and what has left the chip
has left. -/
inductive FabSteps (top : Bool) (s : State) : State → Prop
  | refl : FabSteps top s s
  | port {t : State} (h : FabSteps top s t) (k : Nat) (g : PortSt → PortSt) (hg : ∀ p, (g p).attempts = p.attempts)
      (hr : t.portState k = 2 ∨ ∀ p, (g p).retry = p.retry) : FabSteps top s (t.modPort k g)
  | fab {t : State} (h : FabSteps top s t) (f : FabSt) (hl : f.links = t.fab.links) (hp : top = true ∨ f.peers = t.fab.peers) :
      FabSteps top s { t with fab := f }
  | draw {t : State} (h : FabSteps top s t) (n : Nat) : FabSteps top s { t with free := n }
  | log {t : State} (h : FabSteps top s t) (o : Out) : FabSteps top s (t.log o)
  | site {t : State} (h : FabSteps top s t) (x : Nat) (g : SiteSt → SiteSt)
      (hg : ∀ q, { g q with clUsed := q.clUsed, clHeld := q.clHeld } = q) : FabSteps top s (t.modSite x g)
  | sleep {t : State} (h : FabSteps top s t) (k v : Nat) (hk : k < 1048576)
      (hv : t.portState k = 2 ∧ v = 3 ∨ t.portState k = 3 ∧ v = 4) : FabSteps top s (t.setF F.FAB_PSTAT_STATE k v)
  | reg {t : State} (h : FabSteps top s t) (f : Fld) (i v : Nat) (hf : f.id ∈ sendIds ∨ top = true ∧ f.id ∈ showIds)
      (hi : i < 1048576) : FabSteps top s (t.setF f i v)
  | raise {t : State} (h : FabSteps top s t) (ht : top = true) (f k : Nat) (hf : f < 1048576) : FabSteps top s (t.raise f k)
  | rest {t : State} (h : FabSteps top s t) (ht : top = true) (a : SumacSt) (b : TimeSt) :
      FabSteps top s { t with sumac := a, time := b }

/-! ### What every run keeps -/

theorem FabSteps.trans (h : FabSteps top s t) (g : FabSteps top t u) : FabSteps top s u := by
  induction g with
  | refl => exact h
  | port _ k g hg hr ih => exact ih.port k g hg hr
  | fab _ f hl hp ih => exact ih.fab f hl hp
  | draw _ n ih => exact ih.draw n
  | log _ o ih => exact ih.log o
  | site _ x g hg ih => exact ih.site x g hg
  | sleep _ k v hk hv ih => exact ih.sleep k v hk hv
  | reg _ f i v hf hi ih => exact ih.reg f i v hf hi
  | raise _ ht f k hf ih => exact ih.raise ht f k hf
  | rest _ ht a b ih => exact ih.rest ht a b

theorem FabSteps.up (h : FabSteps false s t) : FabSteps top s t := by
  induction h with
  | refl => exact .refl
  | port _ k g hg hr ih => exact ih.port k g hg hr
  | fab _ f hl hp ih => exact ih.fab f hl (.inr (hp.resolve_left (by decide)))
  | draw _ n ih => exact ih.draw n
  | log _ o ih => exact ih.log o
  | site _ x g hg ih => exact ih.site x g hg
  | sleep _ k v hk hv ih => exact ih.sleep k v hk hv
  | reg _ f i v hf hi ih => exact ih.reg f i v (.inl (hf.resolve_right fun ⟨h, _⟩ => by cases h)) hi
  | raise _ ht => cases ht
  | rest _ ht => cases ht

theorem FabSteps.frame (h : FabSteps top s t) : { t with
    reg := s.reg, port := s.port, fab := s.fab, out := s.out, free := s.free, site := s.site, evAt := s.evAt, sumac := s.sumac,
    time := s.time } = s := by
  induction h with
  | @raise t _ _ f k _ ih =>
    exact (congrArg (fun u : State => { u with
      port := s.port, fab := s.fab, out := s.out, free := s.free, site := s.site, evAt := s.evAt, sumac := s.sumac,
      time := s.time, reg := s.reg }) (t.raise_frame f k)).trans ih
  | refl => rfl
  | port | fab | draw | log | site | sleep | reg | rest => assumption

/-- Sending alone leaves more as it was. -/
theorem FabSteps.sendFrame (h : FabSteps false s t) : { t with
    reg := s.reg, port := s.port, fab := s.fab, out := s.out, free := s.free, site := s.site } = s := by
  induction h with
  | raise _ ht => cases ht
  | rest _ ht => cases ht
  | refl => rfl
  | port | fab | draw | log | site | sleep | reg => assumption

theorem FabSteps.sameMems (h : FabSteps top s t) : s.sameMems t := by
  have hm {α : Type} (g : State → α) : g { t with
    reg := s.reg, port := s.port, fab := s.fab, out := s.out, free := s.free, site := s.site, evAt := s.evAt, sumac := s.sumac,
    time := s.time } = g s := congrArg g h.frame
  exact ⟨hm State.bb, hm State.acqMem, hm State.dram, hm State.nvm, hm State.psbuf, hm State.cstore, hm State.mirror,
    hm State.tstore⟩

/-- The fields that a run can write. -/
def stepIds (top : Bool) : List Nat :=
  F.FAB_PSTAT_STATE.id :: (sendIds ++ if top then F.HST_EVT_EVT.id :: F.MSIX_PBA_PEND.id :: showIds else [])

/-- Any other field reads as before. -/
theorem FabSteps.getF (h : FabSteps top s t) {g : Fld} {j : Nat} (hg : g.id ∉ stepIds top) (hj : j < 1048576) :
    t.getF g j = s.getF g j := by
  have hset {f : Fld} {i v : Nat} {t : State} (hf : f.id ∈ stepIds top) (hi : i < 1048576) :
      (t.setF f i v).getF g j = t.getF g j :=
    State.getF_setF_other (Fld.key_ne (fun e => hg (e ▸ hf)) hj hi)
  induction h with
  | refl => rfl
  | port _ _ _ _ _ ih => exact ih
  | fab _ _ _ _ ih => exact ih
  | draw _ _ ih => exact ih
  | log _ _ ih => exact ih
  | site _ _ _ _ ih => exact ih
  | sleep _ k v hk hv ih => exact (hset List.mem_cons_self hk).trans ih
  | reg _ f i v hf hi ih =>
    refine (hset (List.mem_cons_of_mem _ (List.mem_append.2 ?_)) hi).trans ih
    obtain hf | ⟨rfl, hf⟩ := hf
    · exact .inl hf
    · exact .inr (List.mem_cons_of_mem _ (List.mem_cons_of_mem _ hf))
  | raise _ ht f k hf ih =>
    subst ht
    refine ((State.raise_regs _ f k).getF ?_).trans ih
    have hne (e : Fld) (he : e.id ∈ stepIds true) : g.key j ≠ e.key f := Fld.key_ne (fun h => hg (h ▸ he)) hj hf
    simpa using ⟨hne _ (by decide), hne _ (by decide)⟩
  | rest _ _ _ _ ih => exact ih

/-- A port sleeps where it was UP, wakes where it slept, or stays. -/
theorem FabSteps.portState (h : FabSteps top s t) {j : Nat} (hj : j < 1048576) :
    t.portState j = s.portState j ∨ (s.portState j = 2 ∨ s.portState j = 3) ∧ (t.portState j = 3 ∨ t.portState j = 4) := by
  have hset {f : Fld} {i v : Nat} {t : State} (hf : f.id ≠ F.FAB_PSTAT_STATE.id) (hi : i < 1048576) :
      (t.setF f i v).portState j = t.portState j := State.getF_setF_other (Fld.key_ne hf.symm hj hi)
  induction h with
  | refl => exact .inl rfl
  | port _ _ _ _ _ ih => exact ih
  | fab _ _ _ _ ih => exact ih
  | draw _ _ ih => exact ih
  | log _ _ ih => exact ih
  | site _ _ _ _ ih => exact ih
  | @sleep t _ k v hk hv ih =>
    by_cases hjk : j = k
    · subst hjk
      have hn : (t.setF F.FAB_PSTAT_STATE j v).portState j = v % 2 ^ F.FAB_PSTAT_STATE.width := State.getF_setF_same ..
      right
      obtain ⟨ht, rfl⟩ | ⟨ht, rfl⟩ := hv
      · refine ⟨?_, .inl (hn.trans (by decide))⟩
        omega
      · refine ⟨?_, .inr (hn.trans (by decide))⟩
        omega
    · have hn : (t.setF F.FAB_PSTAT_STATE k v).portState j = t.portState j := State.getF_setF_other (Fld.key_ne_index hjk)
      rwa [hn]
  | reg _ f i v hf hi ih =>
    have hids : F.FAB_PSTAT_STATE.id ∉ sendIds ∧ F.FAB_PSTAT_STATE.id ∉ showIds := by decide
    have hne : f.id ≠ F.FAB_PSTAT_STATE.id := fun e => hf.elim (e ▸ hids.1) fun h => (e ▸ hids.2) h.2
    rwa [hset hne hi]
  | @raise t _ ht f k hf ih =>
    have hn : (t.raise f k).portState j = t.portState j := (State.raise_regs _ f k).getF (by
      simpa using ⟨Fld.key_ne (by decide) hj hf, Fld.key_ne (by decide) hj hf⟩)
    rwa [hn]
  | rest _ _ _ _ ih => exact ih

/-- A port that is neither UP nor asleep stays as it is. -/
theorem FabSteps.portState_still (h : FabSteps top s t) {j : Nat} (hj : j < 1048576) (h2 : s.portState j ≠ 2)
    (h3 : s.portState j ≠ 3) : t.portState j = s.portState j :=
  (h.portState hj).resolve_right fun ⟨hs, _⟩ => hs.elim h2 h3

theorem FabSteps.attempts (h : FabSteps top s t) (j : Nat) : (t.portOf j).attempts = (s.portOf j).attempts := by
  induction h with
  | refl => rfl
  | port _ k g hg _ ih =>
    by_cases hjk : j = k
    · subst hjk
      exact (congrArg PortSt.attempts (State.portOf_modPort_same ..)).trans ((hg _).trans ih)
    · exact (congrArg PortSt.attempts (State.portOf_modPort_other hjk)).trans ih
  | fab _ _ _ _ ih => exact ih
  | draw _ _ ih => exact ih
  | log _ _ ih => exact ih
  | site _ _ _ _ ih => exact ih
  | sleep _ _ _ _ _ ih => exact ih
  | reg _ _ _ _ _ _ ih => exact ih
  | @raise t _ _ f k _ ih =>
    have hp : (t.raise f k).port = t.port := (congrArg State.port (t.raise_frame f k) :)
    exact (congrArg (fun l => (Tbl.get (fun _ => ({} : PortSt)) l j).attempts) hp).trans ih
  | rest _ _ _ _ ih => exact ih

/-- The retry buffer of a port that is neither UP nor asleep stays as it is. -/
theorem FabSteps.retry (h : FabSteps top s t) {j : Nat} (hj : j < 1048576) (h2 : s.portState j ≠ 2) (h3 : s.portState j ≠ 3) :
    (t.portOf j).retry = (s.portOf j).retry := by
  induction h with
  | refl => rfl
  | port h k g _ hr ih =>
    by_cases hjk : j = k
    · subst hjk
      have hst := h.portState_still hj h2 h3
      exact (congrArg PortSt.retry (State.portOf_modPort_same ..)).trans ((hr.resolve_left (by omega) _).trans ih)
    · exact (congrArg PortSt.retry (State.portOf_modPort_other hjk)).trans ih
  | fab _ _ _ _ ih => exact ih
  | draw _ _ ih => exact ih
  | log _ _ ih => exact ih
  | site _ _ _ _ ih => exact ih
  | sleep _ _ _ _ _ ih => exact ih
  | reg _ _ _ _ _ _ ih => exact ih
  | @raise t _ _ f k _ ih =>
    have hp : (t.raise f k).port = t.port := (congrArg State.port (t.raise_frame f k) :)
    exact (congrArg (fun l => (Tbl.get (fun _ => ({} : PortSt)) l j).retry) hp).trans ih
  | rest _ _ _ _ ih => exact ih

theorem FabSteps.links (h : FabSteps top s t) : t.fab.links = s.fab.links := by
  induction h with
  | refl => rfl
  | fab _ f hl _ ih => exact hl.trans ih
  | @raise t _ _ f k _ ih =>
    have hp : (t.raise f k).fab = t.fab := (congrArg State.fab (t.raise_frame f k) :)
    rw [hp, ih]
  | port _ _ _ _ _ ih => exact ih
  | draw _ _ ih => exact ih
  | log _ _ ih => exact ih
  | site _ _ _ _ ih => exact ih
  | sleep _ _ _ _ _ ih => exact ih
  | reg _ _ _ _ _ _ ih => exact ih
  | rest _ _ _ _ ih => exact ih

theorem FabSteps.peers (h : FabSteps false s t) : t.fab.peers = s.fab.peers := by
  induction h with
  | refl => rfl
  | fab _ f _ hp ih => exact (hp.resolve_left (by decide)).trans ih
  | raise _ ht => cases ht
  | rest _ ht => cases ht
  | port _ _ _ _ _ ih => exact ih
  | draw _ _ ih => exact ih
  | log _ _ ih => exact ih
  | site _ _ _ _ ih => exact ih
  | sleep _ _ _ _ _ ih => exact ih
  | reg _ _ _ _ _ _ ih => exact ih

/-- A site keeps all but what it has sent in its window and what waits for the next. -/
theorem FabSteps.siteOf (h : FabSteps top s t) (x : Nat) :
    { t.siteOf x with clUsed := (s.siteOf x).clUsed, clHeld := (s.siteOf x).clHeld } = s.siteOf x := by
  induction h with
  | refl => rfl
  | @site t _ y g hg ih =>
    by_cases hxy : x = y
    · subst hxy
      rw [State.siteOf_modSite_same]
      exact Eq.trans (congrArg (fun q : SiteSt => { q with clUsed := (s.siteOf x).clUsed, clHeld := (s.siteOf x).clHeld })
        (hg (t.siteOf x))) ih
    · rwa [State.siteOf_modSite_other hxy]
  | @raise t _ _ f k _ ih =>
    have hp : (t.raise f k).site = t.site := (congrArg State.site (t.raise_frame f k) :)
    have hs : (t.raise f k).siteOf x = t.siteOf x := congrArg (Tbl.get _ · x) hp
    rwa [hs]
  | port _ _ _ _ _ ih => exact ih
  | fab _ _ _ _ ih => exact ih
  | draw _ _ ih => exact ih
  | log _ _ ih => exact ih
  | sleep _ _ _ _ _ ih => exact ih
  | reg _ _ _ _ _ _ ih => exact ih
  | rest _ _ _ _ ih => exact ih

theorem State.out_subset_raise (s : State) (f k : Nat) : s.out ⊆ (s.raise f k).out := s.out_subset_raiseVf f k

theorem FabSteps.out (h : FabSteps top s t) : s.out ⊆ t.out := by
  induction h with
  | refl => exact List.Subset.refl _
  | log _ _ ih => exact List.Subset.trans ih (List.subset_cons_self _ _)
  | raise _ _ f k _ ih => exact List.Subset.trans ih (State.out_subset_raise _ f k)
  | port _ _ _ _ _ ih => exact ih
  | fab _ _ _ _ ih => exact ih
  | draw _ _ ih => exact ih
  | site _ _ _ _ ih => exact ih
  | sleep _ _ _ _ _ ih => exact ih
  | reg _ _ _ _ _ _ ih => exact ih
  | rest _ _ _ _ ih => exact ih

theorem hasBit_setBit_of {n k : Nat} (j : Nat) (h : hasBit n k = true) : hasBit (setBit n j) k = true := by
  by_cases hk : k = j
  · rw [hk, hasBit_setBit]
  · rwa [hasBit_setBit_other hk]

/-- Raising an event leaves those that stand. -/
theorem State.event_raise {f g k j : Nat} (hf : f < 1048576) (hg : g < 1048576) (hk : k < 16)
    (he : hasBit (s.getF F.HST_EVT_EVT f) k = true) : hasBit ((s.raise g j).getF F.HST_EVT_EVT f) k = true := by
  have hset : hasBit (((s.noteEv g j).setF F.HST_EVT_EVT g (setBit (s.getF F.HST_EVT_EVT g) j)).getF F.HST_EVT_EVT f) k = true := by
    by_cases hfg : f = g
    · subst hfg
      rw [State.getF_setF_same]
      exact (hasBit_mod_two_pow hk _).trans (hasBit_setBit_of j he)
    · rw [State.getF_setF_other (Fld.key_ne_index hfg)]
      exact he
  obtain ⟨-, h⟩ | ⟨-, h | h⟩ := s.raise_cases g j <;> rw [h]
  · exact he
  · exact hset
  · rw [(State.msix_regs _ g j).getF (by simpa using Fld.key_ne (by decide) hf hg)]
    exact hset

/-- An event that stands goes on standing. -/
theorem FabSteps.event (h : FabSteps top s t) {f k : Nat} (hf : f < 1048576) (hk : k < 16)
    (he : hasBit (s.getF F.HST_EVT_EVT f) k = true) : hasBit (t.getF F.HST_EVT_EVT f) k = true := by
  have hset {g : Fld} {i v : Nat} {t : State} (hg : g.id ≠ F.HST_EVT_EVT.id) (hi : i < 1048576) :
      (t.setF g i v).getF F.HST_EVT_EVT f = t.getF F.HST_EVT_EVT f := State.getF_setF_other (Fld.key_ne hg.symm hf hi)
  induction h with
  | refl => exact he
  | port _ _ _ _ _ ih => exact ih
  | fab _ _ _ _ ih => exact ih
  | draw _ _ ih => exact ih
  | log _ _ ih => exact ih
  | site _ _ _ _ ih => exact ih
  | sleep _ j v hj _ ih => rwa [hset (by decide) hj]
  | reg _ g i v hg hi ih =>
    have hids : F.HST_EVT_EVT.id ∉ sendIds ∧ F.HST_EVT_EVT.id ∉ showIds := by decide
    have hne : g.id ≠ F.HST_EVT_EVT.id := fun e => hg.elim (e ▸ hids.1) fun h => (e ▸ hids.2) h.2
    rwa [hset hne hi]
  | raise _ _ i j hi ih => exact State.event_raise hf hi hk ih
  | rest _ _ _ _ ih => exact ih

end Sys2Proof.Machine
end

section
/-! SUPPORT. Sending, wake requests, Sumac's sources and the topology are runs of the steps of `FabSteps`. -/

namespace Sys2Proof.Machine

variable {top : Bool} {s t : State}

/-! ### Runs put together -/

theorem FabSteps.ite {c : Prop} [Decidable c] {u : State} (ht : FabSteps top s t) (hu : FabSteps top s u) :
    FabSteps top s (if c then t else u) := by
  split
  · exact ht
  · exact hu

theorem FabSteps.foldl_mem {α : Type} {l : List α} {f : State → α → State} (h : FabSteps top s t)
    (hf : ∀ {a x}, x ∈ l → FabSteps top s a → FabSteps top s (f a x)) : FabSteps top s (l.foldl f t) :=
  List.foldlRecOn (motive := FabSteps top s) l f h fun _ ha _ hx => hf hx ha

/-- A port changes in what training and its retry buffer do not show. -/
theorem FabSteps.line (h : FabSteps top s t) {k : Nat} {g : PortSt → PortSt} (hg : ∀ p, (g p).attempts = p.attempts := by intro; rfl)
    (hr : ∀ p, (g p).retry = p.retry := by intro; rfl) : FabSteps top s (t.modPort k g) := h.port k g hg (.inr hr)

/-- A field that sending writes. -/
theorem FabSteps.sendReg (h : FabSteps top s t) {f : Fld} {i v : Nat} (hf : f.id ∈ sendIds) (hi : i < 1048576) :
    FabSteps top s (t.setF f i v) := h.reg f i v (.inl hf) hi

/-! ### Words (R300, R301) -/

theorem FabSteps.sendFlash (h : FabSteps top s t) {copy : Bool} {k w : Nat} : FabSteps top s (t.sendFlash copy k w) :=
  .ite ((h.log _).line.log _) ((h.log _).line.log _)

theorem FabSteps.flashOn (h : FabSteps top s t) {k w : Nat} : FabSteps top s (t.flashOn none k w) := by
  unfold State.flashOn
  split
  · exact h.sendFlash.ite h
  · exact h

theorem FabSteps.flashTree (h : FabSteps top s t) {w : Nat} : FabSteps top s (t.flashTree none w) :=
  h.foldl_mem fun _ ha => ha.flashOn

/-! ### Wake requests (R316) -/

theorem FabSteps.awakeCheck (h : FabSteps top s t) : FabSteps top s t.awakeCheck := (h.sendReg (by decide) (by decide)).ite h

theorem FabSteps.wakeTones (h : FabSteps top s t) : FabSteps top s t.wakeTones := by
  refine FabSteps.awakeCheck (h.foldl_mem fun {a k} hk ha => ?_)
  split
  · next h3 => exact (ha.log _).sleep k 4 (sleepPorts_lt hk) (.inr ⟨eq_of_beq h3, rfl⟩)
  · exact ha

theorem FabSteps.giveUpSleep (h : FabSteps top s t) : FabSteps top s t.giveUpSleep := by
  have h1 : FabSteps top s ((t.setF F.FAB_SLPSTAT_STATE 0 0).setF F.FAB_SLPSTAT_CANCELLED 0 1) :=
    (h.sendReg (by decide) (by decide)).sendReg (by decide) (by decide)
  exact h1.fab _ rfl (.inr rfl)

theorem FabSteps.cancelSleep (h : FabSteps top s t) : FabSteps top s t.cancelSleep := h.flashTree.giveUpSleep

theorem FabSteps.holdWake (h : FabSteps top s t) : FabSteps top s t.holdWake := h.ite (h.fab _ rfl (.inr rfl))

theorem FabSteps.wakeRequest (h : FabSteps top s t) : FabSteps top s t.wakeRequest := by
  unfold State.wakeRequest
  refine h.wakeTones.ite (.ite ?_ (h.holdWake.ite h))
  split
  · exact h.cancelSleep.ite h.holdWake
  · exact h

theorem FabSteps.flashSend (h : FabSteps top s t) {w : Nat} : FabSteps top s (t.flashSend w) :=
  h.flashTree.wakeRequest.ite h.flashTree

theorem FabSteps.faultWord (h : FabSteps top s t) {x : Nat} : FabSteps top s (t.faultWord x) := h.ite h.flashSend

theorem FabSteps.faultWords (h : FabSteps top s t) {k b : Nat} : FabSteps top s (t.faultWords k b) :=
  .ite (h.wakeRequest.foldl_mem fun _ ha => ha.faultWord) (h.wakeRequest.ite h.wakeRequest.faultWord)

/-! ### Cells (R305, R311, R313) -/

theorem FabSteps.cellOn (h : FabSteps top s t) {k : Nat} {c : Cell} (hk : t.portState k = 2) : FabSteps top s (t.cellOn k c) := by
  unfold State.cellOn
  extract_lets n
  have h1 : FabSteps top s (t.modPort k fun p => { p with txSeq := (n + 1) % 4096, retry := p.retry ++ [(n, 0, c)] }) :=
    h.port k _ (fun _ => rfl) (.inl hk)
  exact (h1.log (.cell k n c)).line.log _

theorem FabSteps.portCell (h : FabSteps top s t) {k : Nat} {c : Cell} (hk : t.portState k = 2) : FabSteps top s (t.portCell k c) := by
  unfold State.portCell
  exact .ite (h.cellOn hk) h.line

/-- A port that takes a cell goes on being UP. -/
theorem State.portState_portCell (s : State) (k : Nat) (c : Cell) (j : Nat) : (s.portCell k c).portState j = s.portState j := by
  unfold State.portCell
  split <;> rfl

theorem FabSteps.route (h : FabSteps top s t) {c : Cell} : FabSteps top s (t.route c) := by
  unfold State.route
  split
  · exact h.fab _ rfl (.inr rfl)
  · next p _ =>
    extract_lets c1 s1
    split
    · next h2 => exact h.portCell (by simpa using h2)
    · have h1 : FabSteps top s s1 := h.line
      exact h1.wakeRequest.ite h1

theorem FabSteps.cellMade (h : FabSteps top s t) {cls dst : Nat} : FabSteps top s (t.cellMade cls dst) :=
  (h.draw (t.free + 1)).fab _ rfl (.inr rfl)

theorem FabSteps.send (h : FabSteps top s t) {cls dst : Nat} {m : Msg} : FabSteps top s (t.send cls dst m) := h.cellMade.route

theorem FabSteps.sendSite (h : FabSteps top s t) {x dst : Nat} {m : Msg} (hx : x < 1048576) : FabSteps top s (t.sendSite x dst m) := by
  unfold State.sendSite
  extract_lets c s1
  have h1 : FabSteps top s s1 := h.cellMade
  have hu : FabSteps top s (s1.modSite x fun t => { t with clUsed := t.clUsed + 1 }) := h1.site x _ fun _ => rfl
  have hh : FabSteps top s (s1.modSite x fun t => { t with clHeld := t.clHeld ++ [c] }) := h1.site x _ fun _ => rfl
  exact .ite hu.route (hh.sendReg (by decide) hx)

theorem FabSteps.sendMembers (h : FabSteps top s t) {x : Nat} {m : Msg} (hx : x < 1048576) : FabSteps top s (t.sendMembers x m) :=
  h.foldl_mem fun _ ha => ha.sendSite hx

/-! ### Sumac's sources (R386 to R392) -/

/-- A field that the topology or a source writes. -/
theorem FabSteps.showReg (h : FabSteps true s t) {f : Fld} {i v : Nat} (hf : f.id ∈ showIds) (hi : i < 1048576) :
    FabSteps true s (t.setF f i v) := h.reg f i v (.inr ⟨rfl, hf⟩) hi

theorem FabSteps.putSumac (h : FabSteps true s t) {a : SumacSt} : FabSteps true s { t with sumac := a } := h.rest rfl a t.time

theorem FabSteps.putTime (h : FabSteps true s t) {a : TimeSt} : FabSteps true s { t with time := a } := h.rest rfl t.sumac a

theorem FabSteps.pendSafe (h : FabSteps true s t) {x : Nat} : FabSteps true s (t.pendSafe x) := by
  refine h.foldl_mem fun {a e} he ha => ?_
  have hl : e < 16 := List.mem_range.1 he
  split
  · exact (ha.showReg (by decide) (by omega)).ite ha
  · exact ha

theorem FabSteps.siteSafeBit (h : FabSteps true s t) {x : Nat} {v : Bool} (hx : x < 1048576) : FabSteps true s (t.siteSafeBit x v) := by
  unfold State.siteSafeBit
  extract_lets _ s1 s2
  have h1 : FabSteps true s s1 := h.showReg (by decide) hx
  have h2 : FabSteps true s s2 := (h1.showReg (f := F.FLT_STAT_SSAFE) (by decide) (by decide)).pendSafe.putSumac
  exact ((h2.raise rfl _ _ hx).ite h2).ite
    ((FabSteps.putSumac (h1.showReg (f := F.FLT_STAT_SSAFE) (by decide) (by decide))).ite h1)

theorem sites_lt {x : Nat} (hx : x ∈ sites) : x < 1048576 := by
  have := List.mem_range.1 hx
  omega

theorem FabSteps.sumacShow (h : FabSteps true s t) : FabSteps true s t.sumacShow := by
  unfold State.sumacShow
  extract_lets _ _ s1 s2 s3 _ s4
  have h1 : FabSteps true s s1 :=
    ((h.showReg (by decide) (by decide)).showReg (by decide) (by decide)).showReg (by decide) (by decide)
  have h2 : FabSteps true s s2 := (h1.raise rfl _ _ (by decide)).ite h1
  have h3 : FabSteps true s s3 := h2.foldl_mem fun hx ha => ha.siteSafeBit (sites_lt hx)
  have h4 : FabSteps true s s4 := h3.showReg (by decide) (by decide)
  exact h3.ite ((h4.log _).ite h4)

theorem FabSteps.setSrcs (h : FabSteps true s t) {k v : Nat} (hk : k < 1048576) : FabSteps true s (t.setSrcs k v) := by
  have h1 : FabSteps true s (t.setF F.FLT_SSRC_SRC k v) := h.showReg (by decide) hk
  exact (h1.showReg (by decide) (by decide)).ite h1

theorem FabSteps.stopQuiet (h : FabSteps true s t) {k : Nat} (hk : k < 1048576) : FabSteps true s (t.stopQuiet k) :=
  FabSteps.putSumac (h.showReg (f := F.FLT_SSRC_QUIETING) (by decide) hk)

theorem FabSteps.stick (h : FabSteps true s t) {k b : Nat} (hk : k < 1048576) : FabSteps true s (t.stick k b) :=
  h.showReg (by decide) hk

theorem FabSteps.sourceOn (h : FabSteps true s t) {k b : Nat} (hk : k < 1048576) : FabSteps true s (t.sourceOn k b) :=
  .ite h.putSumac (((h.setSrcs hk).stick hk).stopQuiet hk).faultWords.sumacShow

theorem FabSteps.sourceOff (h : FabSteps true s t) {k b : Nat} (hk : k < 1048576) : FabSteps true s (t.sourceOff k b) := by
  unfold State.sourceOff
  extract_lets s1
  have h1 : FabSteps true s s1 := h.setSrcs hk
  exact .ite h.putSumac (((h1.showReg (by decide) hk).ite h1).sumacShow.ite h)

theorem FabSteps.sourcePulse (h : FabSteps true s t) {k b : Nat} (hk : k < 1048576) : FabSteps true s (t.sourcePulse k b) := by
  unfold State.sourcePulse
  extract_lets s1 s2
  have h1 : FabSteps true s s1 := (h.stick hk).stopQuiet hk
  have h2 : FabSteps true s s2 := h1.ite h1.faultWords
  exact ((h2.showReg (by decide) hk).ite h2).sumacShow

theorem FabSteps.siteFault (h : FabSteps true s t) {x b : Nat} (hx : x < 1048576) : FabSteps true s (t.siteFault x b) :=
  (h.sourcePulse hx).ite (h.sourceOn hx)

/-! ### The topology (R310, R315) -/

/-- Cells on ports that are UP. -/
theorem FabSteps.flood (h : FabSteps top s t) {l : LinkState} : FabSteps top s (t.flood l) := by
  have key (l' : List Nat) (hl : ∀ k ∈ l', t.portState k = 2) (a : State) (ha : FabSteps top s a)
      (hp : ∀ k, a.portState k = t.portState k) : FabSteps top s (l'.foldl (fun a k =>
        (a.cellMade 0 (a.getF F.FAB_PSTAT_FAR k)).portCell k (a.makeCell 0 (a.getF F.FAB_PSTAT_FAR k) 0 0 (.linkState l))) a) := by
    induction l' generalizing a with
    | nil => exact ha
    | cons k l' ih =>
      refine ih (fun j hj => hl j (List.mem_cons_of_mem _ hj)) _ (ha.cellMade.portCell ?_) fun j => ?_
      · exact (hp k).trans (hl k List.mem_cons_self)
      · exact (State.portState_portCell ..).trans (hp j)
  refine key _ (fun k hk => ?_) t h fun _ => rfl
  have := (List.mem_filter.1 hk).2
  simp only [Bool.and_eq_true, beq_iff_eq] at this
  exact this.1

theorem FabSteps.findParent (h : FabSteps true s t) : FabSteps true s t.findParent := by
  unfold State.findParent
  refine h.ite ?_
  split
  · exact h.ite h.putTime
  · exact h

theorem FabSteps.retryWaiting (h : FabSteps top s t) : FabSteps top s t.retryWaiting :=
  FabSteps.foldl_mem (h.fab _ rfl (.inr rfl)) fun _ ha => ha.route

theorem FabSteps.timeAsleep (h : FabSteps true s t) : FabSteps true s t.timeAsleep := by
  unfold State.timeAsleep
  split
  · exact h.putTime.ite h
  · exact h

theorem FabSteps.enterSleep (h : FabSteps true s t) : FabSteps true s t.enterSleep := by
  unfold State.enterSleep
  extract_lets s1 held src fab s2
  have h1 : FabSteps true s s1 := by
    refine h.timeAsleep.foldl_mem fun {a k} hk ha => ?_
    split
    · next h2 => exact ha.sleep k 3 (sleepPorts_lt hk) (.inl ⟨h2, rfl⟩)
    · exact ha
  have h2 : FabSteps true s s2 :=
    (h1.sendReg (f := F.FAB_SLPSTAT_STATE) (i := 0) (v := 3) (by decide) (by decide)).fab _ rfl (.inl rfl)
  exact h2.wakeTones.ite h2

theorem FabSteps.scheduleSleep (h : FabSteps true s t) {n : Nat} : FabSteps true s (t.scheduleSleep n) := by
  unfold State.scheduleSleep
  extract_lets s1 src fab s2
  have h1 : FabSteps true s s1 := h.showReg (by decide) (by decide)
  have h2 : FabSteps true s s2 :=
    (h1.sendReg (f := F.FAB_SLPSTAT_STATE) (i := 0) (v := 2) (by decide) (by decide)).fab _ rfl (.inl rfl)
  split
  · exact h1.enterSleep
  · split
    · exact h2.cancelSleep.ite h2
    · exact h2

theorem FabSteps.tallyVotes (h : FabSteps true s t) : FabSteps true s t.tallyVotes := by
  unfold State.tallyVotes
  extract_lets n src s1
  have h1 : FabSteps true s s1 := h.fab _ rfl (.inl rfl)
  have h2 : FabSteps true s ((t.shelfChips.filter (fun c => c != t.chipNo)).foldl (fun a c =>
      a.send 0 c (.sleepAt (n % 4294967296))) s1) := h1.foldl_mem fun _ ha => ha.send
  exact .ite h2.scheduleSleep h

theorem FabSteps.topology (h : FabSteps true s t) : FabSteps true s t.topology := by
  unfold State.topology
  extract_lets me l known new old gone come root src s1 n s2 src2 a s3 s4 s5 s6
  have h1 : FabSteps true s s1 := h.fab _ rfl (.inl rfl)
  have hv : FabSteps true s (s1.addF F.FAB_TOPOVER_VER 0 n) := h1.showReg (by decide) (by decide)
  have hr : FabSteps true s ((s1.addF F.FAB_TOPOVER_VER 0 n).raisePf 7) := hv.raise rfl 16 7 (by decide)
  have h2 : FabSteps true s s2 := h1.ite hr
  clear_value s2
  have h3 : FabSteps true s s3 := by
    have ha : FabSteps true s a := h2.fab { s2.fab with votes := [] } rfl (.inl rfl)
    exact h2.ite ((ha.sendReg (by decide) (by decide)).ite ha)
  have h4 : FabSteps true s s4 := h3.showReg (by decide) (by decide)
  have h6 : FabSteps true s s6 := h4.findParent.foldl_mem fun hx ha => (ha.siteFault (sites_lt hx)).ite ha
  exact h6.retryWaiting.tallyVotes

theorem FabSteps.drainHeld (h : FabSteps top s t) {k : Nat} : FabSteps top s (t.drainHeld k) := by
  unfold State.drainHeld
  split
  · next h2 =>
    have key (l : List Cell) (a : State) (ha : FabSteps top s a) (hk : a.portState k = 2) :
        FabSteps top s (l.foldl (fun a c => a.portCell k c) a) := by
      induction l generalizing a with
      | nil => exact ha
      | cons c l ih => exact ih _ (ha.portCell hk) ((State.portState_portCell ..).trans hk)
    exact key _ _ h.line h2
  · exact h

end Sys2Proof.Machine
end

section
/-! SUPPORT. Ports that train, discover, go down and are retired (R298, R306 to R311). -/

namespace Sys2Proof.Machine

variable {s t u : State} {j k : Nat}

theorem State.portOf_setF (s : State) (f : Fld) (i v j : Nat) : (s.setF f i v).portOf j = s.portOf j := rfl

/-! ### A port that no longer carries traffic (R306, R310) -/

/-- Nothing waits on the port any more. -/
def State.portEmptied (s : State) (k : Nat) : State :=
  s.modPort k fun q => { q with retry := [], held := [], nacking := false, hello := none }

/-- What a link that goes down is made of: the port is emptied, the change may be known and goes round, the partner is forgotten, and the
topology follows. -/
structure LinkDown (k : Nat) (s t : State) : Prop where
  ex : ∃ a b, (a = s.portEmptied k ∨ a = (s.portEmptied k).putLink (s.ownLink k false)) ∧ FabSteps true a b ∧
    FabSteps true (b.setF F.FAB_PSTAT_FARV k 0) t

theorem State.linkDown_steps (s : State) (k : Nat) : LinkDown k s (s.linkDown k) := by
  unfold State.linkDown
  extract_lets p cells s1 l s2
  have hout (b : State) : FabSteps true (b.setF F.FAB_PSTAT_FARV k 0)
      (cells.foldl (fun a c => a.route c) (b.setF F.FAB_PSTAT_FARV k 0).topology) :=
    FabSteps.refl.topology.foldl_mem fun _ ha => ha.route
  by_cases h : s.flag F.FAB_PSTAT_FARV k = true
  · have h2 : s2 = (s1.putLink l).flood l := if_pos h
    exact ⟨_, s2, .inr rfl, h2 ▸ FabSteps.refl.flood, hout s2⟩
  · have h2 : s2 = s1 := if_neg h
    exact ⟨_, s2, .inl rfl, h2 ▸ FabSteps.refl, hout s2⟩

section down

variable (h : LinkDown k s t)
include h

theorem LinkDown.sameMems : s.sameMems t := by
  obtain ⟨a, b, ha, hb, ht⟩ := h.ex
  have h0 : s.sameMems a := by
    obtain rfl | rfl := ha <;> exact ⟨rfl, rfl, rfl, rfl, rfl, rfl, rfl, rfl⟩
  have h1 : b.sameMems (b.setF F.FAB_PSTAT_FARV k 0) := ⟨rfl, rfl, rfl, rfl, rfl, rfl, rfl, rfl⟩
  exact ((h0.trans hb.sameMems).trans h1).trans ht.sameMems

/-- A field that neither the topology writes, nor FARV, reads as before. -/
theorem LinkDown.getF {g : Fld} (hg : g.id ∉ stepIds true) (hf : g.id ≠ F.FAB_PSTAT_FARV.id) (hj : j < 1048576) (hk : k < 1048576) :
    t.getF g j = s.getF g j := by
  obtain ⟨a, b, ha, hb, ht⟩ := h.ex
  rw [ht.getF hg hj, State.getF_setF_other (Fld.key_ne hf hj hk), hb.getF hg hj]
  obtain rfl | rfl := ha <;> rfl

theorem LinkDown.farv (hk : k < 1048576) : t.getF F.FAB_PSTAT_FARV k = 0 := by
  obtain ⟨a, b, -, -, ht⟩ := h.ex
  rw [ht.getF (by decide) hk, State.getF_setF_same]
  rfl

/-- Another port that is neither UP nor asleep stays as it is, and so does this one. -/
theorem LinkDown.portState (hj : j < 1048576) (hk : k < 1048576) (h2 : s.portState j ≠ 2) (h3 : s.portState j ≠ 3) :
    t.portState j = s.portState j := by
  obtain ⟨a, b, ha, hb, ht⟩ := h.ex
  have ha' : a.portState j = s.portState j := by
    obtain rfl | rfl := ha <;> rfl
  have hb' : b.portState j = s.portState j := (hb.portState_still hj (ha' ▸ h2) (ha' ▸ h3)).trans ha'
  have hm : (b.setF F.FAB_PSTAT_FARV k 0).portState j = s.portState j :=
    (State.getF_setF_other (Fld.key_ne (by decide) hj hk)).trans hb'
  exact (ht.portState_still hj (hm ▸ h2) (hm ▸ h3)).trans hm

theorem LinkDown.attempts (j : Nat) : (t.portOf j).attempts = (s.portOf j).attempts := by
  obtain ⟨a, b, ha, hb, ht⟩ := h.ex
  rw [ht.attempts, State.portOf_setF, hb.attempts]
  have hp : ((s.portEmptied k).portOf j).attempts = (s.portOf j).attempts := by
    by_cases hjk : j = k
    · rw [hjk, State.portEmptied, State.portOf_modPort_same]
    · rw [State.portEmptied, State.portOf_modPort_other hjk]
  obtain rfl | rfl := ha <;> exact hp

/-- Nothing is left to be resent on the port. -/
theorem LinkDown.retry (hk : k < 1048576) (h2 : s.portState k ≠ 2) (h3 : s.portState k ≠ 3) : (t.portOf k).retry = [] := by
  obtain ⟨a, b, ha, hb, ht⟩ := h.ex
  have ha' : a.portState k = s.portState k := by
    obtain rfl | rfl := ha <;> rfl
  have hb' : b.portState k = s.portState k := (hb.portState_still hk (ha' ▸ h2) (ha' ▸ h3)).trans ha'
  have hm : (b.setF F.FAB_PSTAT_FARV k 0).portState k = s.portState k :=
    (State.getF_setF_other (Fld.key_ne_same (by decide))).trans hb'
  rw [ht.retry hk (hm ▸ h2) (hm ▸ h3), State.portOf_setF, hb.retry hk (ha' ▸ h2) (ha' ▸ h3)]
  have hp : ((s.portEmptied k).portOf k).retry = [] := by rw [State.portEmptied, State.portOf_modPort_same]
  obtain rfl | rfl := ha <;> exact hp

end down

/-! ### Training (R308, R309) -/

/-- The port is in training. -/
def State.inTraining (s : State) (k : Nat) : State := s.setF F.FAB_PSTAT_STATE k 1

/-- The attempt is counted. -/
def State.attempted (s t : State) (k : Nat) : State :=
  (if (s.portOf k).attempts = 0 then t else t.incF F.FAB_PRTRN_CNT k).modPort k fun p => { p with attempts := p.attempts + 1 }

theorem State.startTraining_idle (h : s.portState k = 0 ∨ s.portState k = 1) :
    s.startTraining k = s.attempted (s.inTraining k) k := by
  unfold State.startTraining
  extract_lets was s1 s2 s3
  have h2 : s2 = s1 := if_neg (by
    have hw : was = 0 ∨ was = 1 := h
    obtain hw | hw := hw <;> rw [hw] <;> decide)
  unfold s3
  rw [h2]
  rfl

theorem State.startTraining_eq (s : State) (k : Nat) : s.startTraining k = s.attempted (s.inTraining k) k ∨
    s.startTraining k = s.attempted ((s.inTraining k).linkDown k) k := by
  unfold State.startTraining
  extract_lets was s1 s2 s3
  by_cases h : (was = 2 || was = 3 || was = 4) = true
  · have h2 : s2 = s1.linkDown k := if_pos h
    right
    unfold s3
    rw [h2]
    rfl
  · have h2 : s2 = s1 := if_neg h
    left
    unfold s3
    rw [h2]
    rfl

theorem State.portState_inTraining (s : State) (k : Nat) : (s.inTraining k).portState k = 1 := State.getF_setF_same ..

theorem State.attempted_facts (hs : (t.portOf k).attempts = (s.portOf k).attempts) :
    ((s.attempted t k).portOf k).attempts = (s.portOf k).attempts + 1 ∧ (s.attempted t k).portState k = t.portState k ∧
      ((s.attempted t k).portOf k).fails = (t.portOf k).fails ∧ t.sameMems (s.attempted t k) := by
  unfold State.attempted
  generalize hu : (if (s.portOf k).attempts = 0 then t else t.incF F.FAB_PRTRN_CNT k) = u
  have hp : u.portOf k = t.portOf k := by
    rw [← hu]
    split <;> rfl
  have hst : u.portState k = t.portState k := by
    rw [← hu]
    split
    · rfl
    · exact State.getF_setF_other (Fld.key_ne_same (by decide))
  have hm : t.sameMems u := by
    rw [← hu]
    split <;> exact ⟨rfl, rfl, rfl, rfl, rfl, rfl, rfl, rfl⟩
  refine ⟨?_, hst, ?_, hm.trans ⟨rfl, rfl, rfl, rfl, rfl, rfl, rfl, rfl⟩⟩
  · rw [State.portOf_modPort_same, hp, hs]
  · rw [State.portOf_modPort_same, hp]

/-- The keys of what an attempt writes. -/
def attemptKeys (k : Nat) : List Nat := keysAt k [F.FAB_PSTAT_STATE, F.FAB_PRTRN_CNT]

theorem PortOnly.setF {w : List Nat} (h : PortOnly k w s t) {f : Fld} {i v : Nat} (hk : f.key i ∈ w) : PortOnly k w s (t.setF f i v) :=
  ⟨h.1, h.2.1.setF hk, h.2.2⟩

theorem PortOnly.modPort {w : List Nat} (h : PortOnly k w s t) {g : PortSt → PortSt} : PortOnly k w s (t.modPort k g) :=
  ⟨h.1, h.2.1, fun i hi => (State.portOf_modPort_other hi).trans (h.2.2 i hi)⟩

theorem PortOnly.refl (k : Nat) (w : List Nat) (s : State) : PortOnly k w s s := ⟨rfl, .refl w s, fun _ _ => rfl⟩

theorem PortOnly.trained (h : PortOnly k (attemptKeys k) s t) : PortOnly k (attemptKeys k) s (t.attempted (t.inTraining k) k) := by
  have h1 : PortOnly k (attemptKeys k) s (t.inTraining k) := h.setF List.mem_cons_self
  unfold State.attempted
  split
  · exact h1.modPort
  · exact (h1.setF (List.mem_cons_of_mem _ List.mem_cons_self)).modPort

/-- What the start of an attempt leaves. -/
theorem State.startTraining_facts (s : State) (hk : k < 1048576) :
    (s.startTraining k).portState k = 1 ∧ ((s.startTraining k).portOf k).attempts = (s.portOf k).attempts + 1 ∧
      s.sameMems (s.startTraining k) := by
  have hi := s.portState_inTraining k
  have hm : s.sameMems (s.inTraining k) := ⟨rfl, rfl, rfl, rfl, rfl, rfl, rfl, rfl⟩
  obtain h | h := s.startTraining_eq k <;> rw [h]
  · obtain ⟨ha, hs, -, hms⟩ := State.attempted_facts (s := s) (t := s.inTraining k) (k := k) rfl
    exact ⟨hs.trans hi, ha, hm.trans hms⟩
  · have hd := (s.inTraining k).linkDown_steps k
    obtain ⟨ha, hs, -, hms⟩ := State.attempted_facts (s := s) (t := (s.inTraining k).linkDown k) (k := k) (hd.attempts k)
    exact ⟨hs.trans ((hd.portState hk hk (by omega) (by omega)).trans hi), ha, (hm.trans hd.sameMems).trans hms⟩

theorem exec_portTrainStart_starts {p : Fin 12} (he : s.flag F.FAB_PCTL_EN p.val = true) (h1 : s.portState p.val ≠ 1)
    (h5 : s.portState p.val ≠ 5) : exec (.portTrainStart p) s = .next (s.startTraining p.val) ∧
      exec (.retrain .pf0 p) s = .next (s.startTraining p.val) := by
  have hc : (s.flag F.FAB_PCTL_EN p.val && s.portState p.val != 1 && s.portState p.val != 5) = true := by
    rw [he, bne_iff_ne.2 h1, bne_iff_ne.2 h5]
    rfl
  exact ⟨congrArg Host.Outcome.next (if_pos hc), congrArg Host.Outcome.next (if_pos hc)⟩

theorem exec_portTrainStart_idle {p : Fin 12} (h : s.flag F.FAB_PCTL_EN p.val = false ∨ s.portState p.val = 1 ∨ s.portState p.val = 5) :
    exec (.portTrainStart p) s = .next s ∧ exec (.retrain .pf0 p) s = .next s := by
  have hc : (s.flag F.FAB_PCTL_EN p.val && s.portState p.val != 1 && s.portState p.val != 5) ≠ true := by
    obtain h | h | h := h <;> rw [h] <;> simp
  exact ⟨congrArg Host.Outcome.next (if_neg hc), congrArg Host.Outcome.next (if_neg hc)⟩

/-! ### The end of training (R308 to R310) -/

/-- The HELLO of this chip. -/
def State.helloMsg (s : State) : Msg := .hello s.chipNo s.fab.digest (s.flag F.FAB_ID_TROOT 0) (s.getF F.FAB_TOPOVER_VER 0)

theorem State.sameMems_modPort (s : State) (k : Nat) (g : PortSt → PortSt) : s.sameMems (s.modPort k g) :=
  ⟨rfl, rfl, rfl, rfl, rfl, rfl, rfl, rfl⟩

theorem State.sameMems_log (s : State) (o : Out) : s.sameMems (s.log o) := ⟨rfl, rfl, rfl, rfl, rfl, rfl, rfl, rfl⟩

theorem State.sendLine_eq (s : State) (k tag : Nat) (ws : List Nat) : ∃ (l : LinePos) (f : PortSt → Time) (b : List Bool), s.sendLine k tag ws =
    (s.modPort k fun p => { p with line := l, lineAt := f p }).log (.line k b) := ⟨_, _, _, rfl⟩

/-- The cell is on the port. -/
def State.cellPut (s : State) (k : Nat) (c : Cell) : State :=
  s.modPort k fun p => { p with txSeq := ((s.portOf k).txSeq + 1) % 4096, retry := p.retry ++ [((s.portOf k).txSeq, 0, c)] }

/-- A cell goes out on a port: its words leave, and the line goes on. -/
theorem State.cellOn_eq (s : State) (k : Nat) (c : Cell) : ∃ (l : LinePos) (f : PortSt → Time) (b : List Bool), s.cellOn k c =
    (((s.cellPut k c).log (.cell k (s.portOf k).txSeq c)).modPort k fun p => { p with line := l, lineAt := f p }).log (.line k b) :=
  State.sendLine_eq ..

/-- What leaves the chip with a cell, and what of the port stays. -/
theorem State.cellOn_facts (s : State) (k : Nat) (c : Cell) : ∃ b, (s.cellOn k c).out = .line k b :: .cell k (s.portOf k).txSeq c :: s.out ∧
    ((s.cellOn k c).portOf k).fails = (s.portOf k).fails ∧ ((s.cellOn k c).portOf k).rxSeq = (s.portOf k).rxSeq ∧
      (s.cellOn k c).reg = s.reg ∧ s.sameMems (s.cellOn k c) := by
  obtain ⟨l, f, b, he⟩ := s.cellOn_eq k c
  have hp : (s.cellPut k c).portOf k = { s.portOf k with
      txSeq := ((s.portOf k).txSeq + 1) % 4096, retry := (s.portOf k).retry ++ [((s.portOf k).txSeq, 0, c)] } :=
    State.portOf_modPort_same ..
  have hl : (s.cellOn k c).portOf k = { (s.cellPut k c).portOf k with line := l, lineAt := f ((s.cellPut k c).portOf k) } := by
    rw [he]
    exact State.portOf_modPort_same ((s.cellPut k c).log (.cell k (s.portOf k).txSeq c)) k fun p => { p with line := l, lineAt := f p }
  refine ⟨b, ?_, ?_, ?_, ?_, ?_⟩
  · rw [he]
    rfl
  · rw [hl, hp]
  · rw [hl, hp]
  · rw [he]
    rfl
  · rw [he]
    exact (((State.sameMems_modPort s ..).trans (State.sameMems_log ..)).trans (State.sameMems_modPort ..)).trans (State.sameMems_log ..)

/-- HELLO leaves in one cell. -/
theorem State.sendHello_eq (s : State) (k : Nat) : ∃ u c, s.sendHello k = u.cellOn k c ∧ c.msg = some s.helloMsg ∧
    u.out = s.out ∧ u.portOf k = s.portOf k ∧ u.reg = s.reg ∧ s.sameMems u := by
  unfold State.sendHello
  split
  · exact ⟨_, _, rfl, rfl, rfl, rfl, rfl, rfl, rfl, rfl, rfl, rfl, rfl, rfl, rfl⟩
  · exact ⟨_, _, rfl, rfl, rfl, rfl, rfl, rfl, rfl, rfl, rfl, rfl, rfl, rfl, rfl⟩

/-- The port is UP, with its flight, and begins anew. -/
def State.trainedUp (s : State) (k flight : Nat) : State :=
  (s.setFs k [(F.FAB_PSTAT_STATE, 2), (F.FAB_PSTAT_FLIGHT, flight)]).modPort k fun p => { p with
    fails := 0, txSeq := 0, rxSeq := 0, nacking := false }

theorem exec_portTrainDone_up {p : Fin 12} (h : s.portState p.val = 1) (flight : Nat) :
    exec (.portTrainDone p true flight) s = .next ((s.trainedUp p.val flight).sendHello p.val) := by
  change execPortTrainDone p true flight s = _
  unfold execPortTrainDone
  extract_lets k s1 n s2
  rw [if_neg (not_not_intro h)]
  rfl

/-- The failed attempt is counted. -/
def State.attemptFailed (s : State) (k : Nat) : State := s.modPort k fun p => { p with fails := (s.portOf k).fails + 1 }

theorem exec_portTrainDone_failed {p : Fin 12} (h : s.portState p.val = 1) (flight : Nat) :
    exec (.portTrainDone p false flight) s = .next (if 3 ≤ (s.portOf p.val).fails + 1 then (s.attemptFailed p.val).retirePort p.val
      else (s.attemptFailed p.val).startTraining p.val) := by
  change execPortTrainDone p false flight s = _
  unfold execPortTrainDone
  extract_lets k s1 n s2
  rw [if_neg (not_not_intro h)]
  rfl

theorem exec_portTrainDone_other {p : Fin 12} (h : s.portState p.val ≠ 1) (okd : Bool) (flight : Nat) :
    exec (.portTrainDone p okd flight) s = .next s := if_pos h

/-- The registers of a port that has just come UP. -/
theorem State.trainedUp_regs (s : State) (k flight : Nat) : (s.trainedUp k flight).portState k = 2 ∧
    (s.trainedUp k flight).getF F.FAB_PSTAT_FLIGHT k = flight % 2 ^ F.FAB_PSTAT_FLIGHT.width ∧
      (s.trainedUp k flight).helloMsg = s.helloMsg := by
  have hset (f : Fld) (i : Nat) : (s.trainedUp k flight).getF f i =
      ((s.setF F.FAB_PSTAT_STATE k 2).setF F.FAB_PSTAT_FLIGHT k flight).getF f i := rfl
  have hid (f : Fld) (hf : f.id < F.FAB_PSTAT_STATE.id) : (s.trainedUp k flight).getF f 0 = s.getF f 0 := by
    rw [hset, State.getF_setF_other (Fld.key_ne_of_id_lt (Nat.lt_trans hf (by decide)) (by decide)),
      State.getF_setF_other (Fld.key_ne_of_id_lt hf (by decide))]
  refine ⟨?_, ?_, ?_⟩
  · rw [State.portState, hset, State.getF_setF_other (Fld.key_ne_same (by decide)), State.getF_setF_same]
    rfl
  · rw [hset, State.getF_setF_same]
  · unfold State.helloMsg State.chipNo State.flag
    rw [hid _ (by decide), hid _ (by decide), hid _ (by decide)]
    rfl

/-- A port that trains is UP, has its flight, and has sent HELLO (R308, R310). -/
theorem portTrainDone_up {p : Fin 12} (h : s.portState p.val = 1) (flight : Nat) :
    ∃ t c b, exec (.portTrainDone p true flight) s = .next t ∧ t.portState p.val = 2 ∧
      t.getF F.FAB_PSTAT_FLIGHT p.val = flight % 2 ^ F.FAB_PSTAT_FLIGHT.width ∧ (t.portOf p.val).fails = 0 ∧
      (t.portOf p.val).rxSeq = 0 ∧ t.out = Out.line p.val b :: Out.cell p.val 0 c :: s.out ∧ c.msg = some s.helloMsg ∧ s.sameMems t := by
  obtain ⟨hst, hfl, hmsg⟩ := s.trainedUp_regs p.val flight
  have hport : (s.trainedUp p.val flight).portOf p.val = { s.portOf p.val with fails := 0, txSeq := 0, rxSeq := 0, nacking := false } :=
    State.portOf_modPort_same ..
  have hmem : s.sameMems (s.trainedUp p.val flight) := ⟨rfl, rfl, rfl, rfl, rfl, rfl, rfl, rfl⟩
  have hout : (s.trainedUp p.val flight).out = s.out := rfl
  have he := exec_portTrainDone_up h flight
  generalize s.trainedUp p.val flight = v at *
  obtain ⟨u, c, hu, hc, ho, hp, hr, hm⟩ := v.sendHello_eq p.val
  obtain ⟨b, hout', hfails, hrx, hreg, hm'⟩ := u.cellOn_facts p.val c
  have hget (f : Fld) (i : Nat) : (u.cellOn p.val c).getF f i = v.getF f i := by rw [State.getF, hreg, hr, State.getF]
  refine ⟨v.sendHello p.val, c, b, he, ?_, ?_, ?_, ?_, ?_, hc.trans (congrArg some hmsg), ?_⟩ <;> rw [hu]
  · exact (hget _ _).trans hst
  · exact (hget _ _).trans hfl
  · rw [hfails, hp, hport]
  · rw [hrx, hp, hport]
  · rw [hout', hp, hport, ho, hout]
  · exact (hmem.trans hm).trans hm'

/-- An attempt that fails leaves the port in training while it has not failed three times in a row (R309). -/
theorem portTrainDone_again {p : Fin 12} (h : s.portState p.val = 1) (hf : (s.portOf p.val).fails < 2) (flight : Nat) :
    ∃ t, exec (.portTrainDone p false flight) s = .next t ∧ t.portState p.val = 1 ∧
      (t.portOf p.val).fails = (s.portOf p.val).fails + 1 ∧ PortOnly p.val (attemptKeys p.val) s t := by
  refine ⟨_, (exec_portTrainDone_failed h flight).trans (congrArg _ (if_neg (by omega))), ?_⟩
  have hi : (s.attemptFailed p.val).portState p.val = 1 := h
  have hp : ((s.attemptFailed p.val).portOf p.val).fails = (s.portOf p.val).fails + 1 := by
    rw [State.attemptFailed, State.portOf_modPort_same]
  rw [State.startTraining_idle (.inr hi)]
  obtain ⟨-, hs, hfails, -⟩ := State.attempted_facts (s := s.attemptFailed p.val) (t := (s.attemptFailed p.val).inTraining p.val)
    (k := p.val) rfl
  exact ⟨hs.trans (State.portState_inTraining ..), hfails.trans hp, (PortOnly.refl _ _ s).modPort.trained⟩

/-! ### A port is retired (R309) -/

/-- The loss of the parent leaves ports and events that stand. -/
theorem State.parentLost_keeps (s : State) (hj : j < 1048576) {i : Nat} (hi : i < 16) (he : hasBit (s.getF F.HST_EVT_EVT 16) i = true) :
    s.parentLost.portState j = s.portState j ∧ hasBit (s.parentLost.getF F.HST_EVT_EVT 16) i = true := by
  have hset {f : Fld} {v : Nat} {t : State} (h1 : f.id ≠ F.FAB_PSTAT_STATE.id) : (t.setF f 0 v).portState j = t.portState j :=
    State.getF_setF_other (Fld.key_ne h1.symm hj (by decide))
  have hev {f : Fld} {v : Nat} {t : State} (h1 : f.id ≠ F.HST_EVT_EVT.id) : (t.setF f 0 v).getF F.HST_EVT_EVT 16 =
      t.getF F.HST_EVT_EVT 16 := State.getF_setF_other (Fld.key_ne h1.symm (by decide) (by decide))
  unfold State.parentLost
  extract_lets st s1 s2
  have h1 : s1.portState j = s.portState j ∧ hasBit (s1.getF F.HST_EVT_EVT 16) i = true := by
    refine ⟨?_, State.event_raise (by decide) (by decide) hi ?_⟩
    · refine ((State.raise_regs _ 16 3).getF ?_).trans ?_
      · simpa using ⟨Fld.key_ne (by decide) hj (by decide), Fld.key_ne (by decide) hj (by decide)⟩
      · exact (hset (by decide)).trans (hset (by decide))
    · rwa [hev (by decide), hev (by decide)]
  split
  · exact ⟨(hset (by decide)).trans h1.1, by rw [hev (by decide)]; exact h1.2⟩
  · exact h1

/-- A retired port stays retired, and event 2 of PF0 stands. -/
theorem State.retirePort_facts (s : State) (hk : k < 1048576) :
    (s.retirePort k).portState k = 5 ∧ hasBit ((s.retirePort k).getF F.HST_EVT_EVT 16) 2 = true := by
  unfold State.retirePort
  extract_lets s1 s2
  have hr : ((s.setF F.FAB_PSTAT_STATE k 5).raise 16 2).portState k = 5 := by
    refine ((State.raise_regs _ 16 2).getF ?_).trans (State.getF_setF_same ..)
    simpa using ⟨Fld.key_ne (by decide) hk (by decide), Fld.key_ne (by decide) hk (by decide)⟩
  have hl : NvmOnly logKeys ((s.setF F.FAB_PSTAT_STATE k 5).raise 16 2) s1 := (NvmOnly.refl _ _).faultLog (fun _ hm => hm) 4 k
  have hkey {f : Fld} {i : Nat} (hf : f.id ≠ F.NVM_WEAR_MAX.id ∧ f.id ≠ F.NVM_FLHEAD_HEAD.id ∧ f.id ≠ F.NVM_FLCNT_CNT.id ∧
      f.id ≠ F.NVM_FLDROP_CNT.id) (hi : i < 1048576) : f.key i ∉ logKeys := by
    obtain ⟨ha, hb, hc, hd⟩ := hf
    simpa [logKeys, keysAt] using ⟨Fld.key_ne ha hi (by decide), Fld.key_ne hb hi (by decide), Fld.key_ne hc hi (by decide),
      Fld.key_ne hd hi (by decide)⟩
  have h1 : s1.portState k = 5 ∧ hasBit (s1.getF F.HST_EVT_EVT 16) 2 = true := by
    refine ⟨(hl.2.getF (hkey (by decide) hk)).trans hr, ?_⟩
    rw [hl.2.getF (hkey (by decide) (by decide))]
    exact State.hasBit_getF_raise (by decide) _ _
  have h2 : s2.portState k = 5 ∧ hasBit (s2.getF F.HST_EVT_EVT 16) 2 = true := by
    obtain ⟨hs, he⟩ := s1.parentLost_keeps hk (by decide) h1.2
    unfold s2
    split
    · exact ⟨hs.trans h1.1, he⟩
    · exact h1
  obtain ⟨h5, he⟩ := h2
  have ht : FabSteps true s2 s2.topology := FabSteps.refl.topology
  exact ⟨(ht.portState_still hk (by omega) (by omega)).trans h5, ht.event (by decide) (by decide) he⟩

theorem portTrainDone_retires {p : Fin 12} (h : s.portState p.val = 1) (hf : 2 ≤ (s.portOf p.val).fails) (flight : Nat) :
    ∃ t, exec (.portTrainDone p false flight) s = .next t ∧ t.portState p.val = 5 ∧ hasBit (t.getF F.HST_EVT_EVT 16) 2 = true := by
  have hk := p.isLt
  exact ⟨_, (exec_portTrainDone_failed h flight).trans (congrArg _ (if_pos (by omega))), State.retirePort_facts _ (by omega)⟩

/-! ### HELLO (R310) -/

/-- A port whose partner has a number that may not be: shown, and DOWN. -/
theorem State.dupPort_facts (s : State) (hk : k < 1048576) : (s.dupPort k).getF F.FAB_PSTAT_DUPID k = 1 ∧
    (s.dupPort k).portState k = 0 ∧ s.sameMems (s.dupPort k) := by
  unfold State.dupPort
  generalize hu : s.setFs k [(F.FAB_PSTAT_DUPID, 1), (F.FAB_PSTAT_STATE, 0)] = u
  have hd : u.getF F.FAB_PSTAT_DUPID k = 1 := by
    rw [← hu]
    exact (State.getF_setF_other (Fld.key_ne_same (by decide))).trans (State.getF_setF_same ..)
  have hs : u.portState k = 0 := by
    rw [← hu]
    exact State.getF_setF_same ..
  have hm : s.sameMems u := by
    rw [← hu]
    exact ⟨rfl, rfl, rfl, rfl, rfl, rfl, rfl, rfl⟩
  have hl := u.linkDown_steps k
  exact ⟨(hl.getF (by decide) (by decide) hk hk).trans hd, (hl.portState hk hk (by omega) (by omega)).trans hs, hm.trans hl.sameMems⟩

/-- Another port that is found a duplicate leaves a port that is DOWN alone. -/
theorem State.dupPort_other (s : State) (hj : j < 1048576) (hk : k < 1048576) (hjk : j ≠ k) (h0 : s.portState j = 0) :
    (s.dupPort k).getF F.FAB_PSTAT_DUPID j = s.getF F.FAB_PSTAT_DUPID j ∧ (s.dupPort k).portState j = 0 := by
  unfold State.dupPort
  generalize hu : s.setFs k [(F.FAB_PSTAT_DUPID, 1), (F.FAB_PSTAT_STATE, 0)] = u
  have hd : u.getF F.FAB_PSTAT_DUPID j = s.getF F.FAB_PSTAT_DUPID j := by
    rw [← hu]
    exact (State.getF_setF_other (Fld.key_ne (by decide) hj hk)).trans (State.getF_setF_other (Fld.key_ne_index hjk))
  have hs : u.portState j = 0 := by
    rw [← hu]
    exact ((State.getF_setF_other (Fld.key_ne_index hjk)).trans (State.getF_setF_other (Fld.key_ne (by decide) hj hk))).trans h0
  have hl := u.linkDown_steps k
  exact ⟨(hl.getF (by decide) (by decide) hj hk).trans hd, (hl.portState hj hk (by omega) (by omega)).trans hs⟩

/-- Ports found duplicates, of which port `k` was the first. -/
theorem State.dupPorts_facts (s : State) (hk : k < 1048576) (l : List Nat) (hl : ∀ j ∈ l, j ≠ k ∧ j < 1048576) :
    (l.foldl (fun a j => a.dupPort j) (s.dupPort k)).getF F.FAB_PSTAT_DUPID k = 1 ∧
      (l.foldl (fun a j => a.dupPort j) (s.dupPort k)).portState k = 0 ∧
      s.sameMems (l.foldl (fun a j => a.dupPort j) (s.dupPort k)) := by
  refine List.foldlRecOn (motive := fun a : State => a.getF F.FAB_PSTAT_DUPID k = 1 ∧ a.portState k = 0 ∧ s.sameMems a) l _
    (s.dupPort_facts hk) fun a ⟨hd, h0, hm⟩ j hj => ?_
  obtain ⟨hne, hlt⟩ := hl j hj
  obtain ⟨hd', h0'⟩ := a.dupPort_other hk hlt hne.symm h0
  exact ⟨hd'.trans hd, h0', hm.trans (a.dupPort_facts hlt).2.2⟩

/-- May a HELLO that names `chip` not be admitted on port `k`? -/
def State.helloBad (s : State) (k chip digest : Nat) : Prop := chip = s.chipNo ∨ ((s.peer chip).isSome ∧
  (s.fab.links.any (fun e => e.a == chip && e.up && e.digest != digest) || !(s.rivals k chip digest).isEmpty))

/-- A HELLO that is refused. -/
theorem helloReceive_refused {p : Fin 12} {chip digest : Nat} (h : s.portState p.val = 2) (hb : s.helloBad p.val chip digest)
    (troot : Bool) : ∃ t, exec (.helloReceive p chip digest troot) s = .next t ∧ t.getF F.FAB_PSTAT_DUPID p.val = 1 ∧
      t.portState p.val = 0 ∧ s.sameMems t := by
  have hk := p.isLt
  refine ⟨_, (if_neg (not_not_intro h)).trans (if_pos hb), s.dupPorts_facts (by omega) _ fun j hj => ?_⟩
  have hr := List.mem_filter.1 (List.mem_of_mem_filter hj)
  have hlt := List.mem_range.1 hr.1
  have hne : j ≠ p.val := by
    rintro rfl
    simpa using hr.2
  exact ⟨hne, by omega⟩

/-- The partner is admitted. -/
def State.admitted (s : State) (k chip digest : Nat) : State :=
  (s.setFs k [(F.FAB_PSTAT_FAR, chip), (F.FAB_PSTAT_FARV, 1)]).modPort k fun p => { p with hello := some (chip, digest, s.nowNs) }

/-- It is the time root where its HELLO says so. -/
def State.rooted (s : State) (troot : Bool) (chip : Nat) : State :=
  if troot then { s with fab := { s.fab with root := some chip } } else s

theorem State.getF_rooted (s : State) (troot : Bool) (chip : Nat) (f : Fld) (i : Nat) : (s.rooted troot chip).getF f i = s.getF f i := by
  unfold State.rooted
  split <;> rfl

theorem State.sameMems_rooted (s : State) (troot : Bool) (chip : Nat) : s.sameMems (s.rooted troot chip) := by
  unfold State.rooted
  split <;> exact ⟨rfl, rfl, rfl, rfl, rfl, rfl, rfl, rfl⟩

theorem State.sameMems_putLink (s : State) (l : LinkState) : s.sameMems (s.putLink l) := ⟨rfl, rfl, rfl, rfl, rfl, rfl, rfl, rfl⟩

/-- A change of a link is known, goes round, and the topology follows. -/
def State.linkNews (s : State) (l : LinkState) : State := ((s.putLink l).flood l).topology

theorem State.linkNews_steps (s : State) (l : LinkState) : FabSteps true (s.putLink l) (s.linkNews l) := FabSteps.refl.flood.topology

theorem exec_helloReceive_admitted {p : Fin 12} {chip digest : Nat} (h : s.portState p.val = 2) (hb : ¬ s.helloBad p.val chip digest)
    (troot : Bool) : exec (.helloReceive p chip digest troot) s =
      .next ((((s.admitted p.val chip digest).rooted troot chip).linkNews
        (((s.admitted p.val chip digest).rooted troot chip).ownLink p.val true)).drainHeld p.val) :=
  (if_neg (not_not_intro h)).trans (if_neg hb)

theorem State.getF_admitted (s : State) (k chip digest : Nat) (f : Fld) (i : Nat) :
    (s.admitted k chip digest).getF f i = ((s.setF F.FAB_PSTAT_FAR k chip).setF F.FAB_PSTAT_FARV k 1).getF f i := rfl

theorem State.sameMems_admitted (s : State) (k chip digest : Nat) : s.sameMems (s.admitted k chip digest) :=
  ⟨rfl, rfl, rfl, rfl, rfl, rfl, rfl, rfl⟩

/-- A HELLO that is admitted. -/
theorem helloReceive_admitted {p : Fin 12} {chip digest : Nat} (h : s.portState p.val = 2) (hb : ¬ s.helloBad p.val chip digest)
    (troot : Bool) : ∃ t, exec (.helloReceive p chip digest troot) s = .next t ∧
      t.getF F.FAB_PSTAT_FAR p.val = chip % 2 ^ F.FAB_PSTAT_FAR.width ∧ t.getF F.FAB_PSTAT_FARV p.val = 1 ∧ s.sameMems t := by
  have hk : p.val < 1048576 := by have := p.isLt; omega
  refine ⟨_, exec_helloReceive_admitted h hb troot, ?_⟩
  generalize hv : (s.admitted p.val chip digest).rooted troot chip = v
  have hfar : v.getF F.FAB_PSTAT_FAR p.val = chip % 2 ^ F.FAB_PSTAT_FAR.width := by
    rw [← hv, State.getF_rooted, State.getF_admitted, State.getF_setF_other (Fld.key_ne_same (by decide)), State.getF_setF_same]
  have hfarv : v.getF F.FAB_PSTAT_FARV p.val = 1 := by
    rw [← hv, State.getF_rooted, State.getF_admitted, State.getF_setF_same]
    rfl
  have hm : s.sameMems v := hv ▸ (s.sameMems_admitted ..).trans (State.sameMems_rooted ..)
  have hs : FabSteps true (v.putLink (v.ownLink p.val true)) ((v.linkNews (v.ownLink p.val true)).drainHeld p.val) :=
    (v.linkNews_steps _).drainHeld
  exact ⟨(hs.getF (by decide) hk).trans hfar, (hs.getF (by decide) hk).trans hfarv,
    (hm.trans (State.sameMems_putLink ..)).trans hs.sameMems⟩

/-! ### Link states (R310) -/

theorem exec_linkStateReceive_news {l : LinkState} (ha : l.a ≠ s.chipNo) (hn : s.fab.links.contains l = false) :
    exec (.linkStateReceive l) s = .next ((s.rooted l.root l.a).linkNews l) := by
  refine if_neg ?_
  rw [hn, Bool.or_false, decide_eq_true_eq]
  exact ha

theorem linkStateReceive_news {l : LinkState} (ha : l.a ≠ s.chipNo) (hn : s.fab.links.contains l = false) :
    ∃ t, exec (.linkStateReceive l) s = .next t ∧ l ∈ t.fab.links ∧ s.sameMems t := by
  have hs := (s.rooted l.root l.a).linkNews_steps l
  refine ⟨_, exec_linkStateReceive_news ha hn, ?_, ((State.sameMems_rooted ..).trans (State.sameMems_putLink ..)).trans hs.sameMems⟩
  rw [hs.links]
  exact List.mem_append_right _ (List.mem_singleton_self l)

theorem exec_linkStateReceive_known {l : LinkState} (h : l.a = s.chipNo ∨ s.fab.links.contains l = true) :
    exec (.linkStateReceive l) s = .next s := by
  refine if_pos ?_
  rw [Bool.or_eq_true, decide_eq_true_eq]
  exact h

/-! ### A port that falls silent (R310, R317) -/

/-- The port is DOWN. -/
def State.portDowned (s : State) (k : Nat) : State := (s.setF F.FAB_PSTAT_STATE k 0).linkDown k

theorem exec_portDown_up {p : Fin 12} (h : s.portState p.val = 2) : exec (.portDown p) s =
    .next (if s.partnerDeep p.val then (s.portDowned p.val).log (.wakeTone p.val) else s.portDowned p.val) :=
  congrArg Host.Outcome.next (if_pos h)

theorem State.portDowned_facts (s : State) (hk : k < 1048576) : (s.portDowned k).portState k = 0 ∧
    (s.portDowned k).getF F.FAB_PSTAT_FARV k = 0 ∧ ((s.portDowned k).portOf k).retry = [] ∧ s.sameMems (s.portDowned k) := by
  have hl := (s.setF F.FAB_PSTAT_STATE k 0).linkDown_steps k
  have h0 : (s.setF F.FAB_PSTAT_STATE k 0).portState k = 0 := State.getF_setF_same ..
  have hm : s.sameMems (s.setF F.FAB_PSTAT_STATE k 0) := ⟨rfl, rfl, rfl, rfl, rfl, rfl, rfl, rfl⟩
  exact ⟨(hl.portState hk hk (by omega) (by omega)).trans h0, hl.farv hk, hl.retry hk (by omega) (by omega), hm.trans hl.sameMems⟩

/-- The partner of a sleep given up, that has passed, is taken to be in the deep state. -/
theorem State.partnerDeep_of_gaveUp (hs : sleepPorts.contains k = true)
    (hg : ∃ n, s.getF F.FAB_SLPSTAT_STATE 0 = 0 ∧ s.fab.gaveUp = some n ∧ n ≤ s.nowNs) : s.partnerDeep k = true := by
  obtain ⟨n, h0, hg, hn⟩ := hg
  unfold State.partnerDeep
  rw [hs, h0, hg]
  simpa using hn

theorem portDown_up {p : Fin 12} (h : s.portState p.val = 2) : ∃ t, exec (.portDown p) s = .next t ∧ t.portState p.val = 0 ∧
    t.getF F.FAB_PSTAT_FARV p.val = 0 ∧ (t.portOf p.val).retry = [] ∧ s.sameMems t ∧
    (sleepPorts.contains p.val = true → (∃ n, s.getF F.FAB_SLPSTAT_STATE 0 = 0 ∧ s.fab.gaveUp = some n ∧ n ≤ s.nowNs) →
      Out.wakeTone p.val ∈ t.out) := by
  have hk : p.val < 1048576 := by have := p.isLt; omega
  obtain ⟨h0, hv, hr, hm⟩ := s.portDowned_facts hk
  refine ⟨_, exec_portDown_up h, ?_⟩
  by_cases hd : s.partnerDeep p.val = true
  · rw [if_pos hd]
    exact ⟨h0, hv, hr, hm.trans (State.sameMems_log ..), fun _ _ => List.mem_cons_self⟩
  · rw [if_neg hd]
    exact ⟨h0, hv, hr, hm, fun hs hg => absurd (State.partnerDeep_of_gaveUp hs hg) hd⟩

/-! ### Code violations (R298) -/

theorem codeViolation_counts {p : Fin 12} {line : List Bool} (h : (readBlock line).2 = true) :
    ∃ t, exec (.codeViolation ⟨p, line⟩) s = .next t ∧
      t.getF F.FAB_PCV_CNT p.val = (s.getF F.FAB_PCV_CNT p.val + 1) % 2 ^ F.FAB_PCV_CNT.width ∧
      (t.portOf p.val) = { s.portOf p.val with lostTill := s.now + Time.ofQ ((128 - (readBlock line).1.length) * 8500) } ∧
      PortOnly p.val [F.FAB_PCV_CNT.key p.val] s t := by
  refine ⟨_, congrArg Host.Outcome.next (if_pos h), State.getF_incF_same .., State.portOf_modPort_same .., ?_⟩
  exact ((PortOnly.refl _ _ s).setF (List.mem_singleton_self _)).modPort

theorem exec_codeViolation_none {p : Fin 12} {line : List Bool} (h : (readBlock line).2 = false) :
    exec (.codeViolation ⟨p, line⟩) s = .next s := by
  refine congrArg Host.Outcome.next (if_neg ?_)
  rw [h]
  decide

end Sys2Proof.Machine
end

section
/-! Ports that train, discover and go down (R298, R308 to R310). -/

namespace Sys2Proof.Machine

/-- A HELLO with this chip's number, or with that of a chip whose digest is another, is refused. -/
theorem State.helloBad_iff {s : State} {k chip digest : Nat} (hc : chip ≠ s.chipNo) : s.helloBad k chip digest ↔
    (s.peer chip).isSome = true ∧ ((∃ e ∈ s.fab.links, e.a = chip ∧ e.up = true ∧ e.digest ≠ digest) ∨ s.rivals k chip digest ≠ []) := by
  simp only [State.helloBad, hc, false_or, Bool.or_eq_true, List.any_eq_true, Bool.and_eq_true, beq_iff_eq, bne_iff_ne, and_assoc,
    Bool.not_eq_true', List.isEmpty_eq_false_iff]

/-- Settles O47: what a link that goes down, a topology that follows and cells that go out can change is a run of `FabSteps`, which keeps a
port that is DOWN, in training or retired as it is. -/
theorem portsTrainAndDiscover : Obligations.PortsTrainAndDiscover := by
  unfold Obligations.PortsTrainAndDiscover
  refine ⟨fun p s => ⟨fun he h1 h5 => ?_, exec_portTrainStart_idle⟩, fun p flight s h => ⟨portTrainDone_up h flight,
    fun hf => portTrainDone_again h hf flight, fun hf => portTrainDone_retires h hf flight⟩,
    fun p okd flight s h => exec_portTrainDone_other h okd flight, fun p chip digest troot s h => ⟨fun hc => ?_, fun hc ha => ?_,
      fun hp hb => ?_⟩, fun l s => ⟨linkStateReceive_news, exec_linkStateReceive_known⟩, fun p s => ⟨portDown_up, fun h => ?_⟩,
    fun p line s => ⟨codeViolation_counts, exec_codeViolation_none⟩⟩
  · have hk : p.val < 1048576 := by have := p.isLt; omega
    obtain ⟨hx, hy⟩ := exec_portTrainStart_starts he h1 h5
    obtain ⟨hs, ha, hm⟩ := s.startTraining_facts hk
    refine ⟨_, hx, hy, hs, ha, hm, fun h0 => ?_⟩
    rw [State.startTraining_idle (.inl h0)]
    exact (PortOnly.refl _ _ s).trained
  · exact helloReceive_refused h (.inl hc) troot
  · refine helloReceive_admitted h (fun hb => ?_) troot
    obtain ⟨hp, hb⟩ := (State.helloBad_iff hc).1 hb
    obtain hn | ⟨hd, hr⟩ := ha
    · rw [hn] at hp
      cases hp
    · obtain ⟨e, he, hea, heu, hed⟩ | hb := hb
      · exact hed (hd e he hea heu)
      · exact hb hr
  · by_cases hc : chip = s.chipNo
    · exact helloReceive_refused h (.inl hc) troot
    · exact helloReceive_refused h ((State.helloBad_iff hc).2 ⟨hp, hb⟩) troot
  · exact congrArg Host.Outcome.next (if_neg h)

end Sys2Proof.Machine
end

section
/-! SUPPORT. Sumac's registers follow its sources (R388, R391 to R395). -/

namespace Sys2Proof.Machine

variable {s t u : State} {k x b : Nat} {ids : List Nat}

/-! ### What Sumac alone changes -/

/-- Between `s` and `t` nothing changes but fields with numbers in `ids`, Sumac, the record of host events and the outputs. -/
structure SumacOnly (ids : List Nat) (s t : State) : Prop where
  frame : { t with reg := s.reg, sumac := s.sumac, evAt := s.evAt, out := s.out } = s
  fields : ∀ (g : Fld) (j : Nat), g.id ∉ ids → j < 1048576 → t.getF g j = s.getF g j

theorem SumacOnly.refl (ids : List Nat) (s : State) : SumacOnly ids s s := ⟨rfl, fun _ _ _ _ => rfl⟩

theorem SumacOnly.trans {v : List Nat} (h : SumacOnly ids s t) (g : SumacOnly v t u) (hv : v ⊆ ids) : SumacOnly ids s u :=
  ⟨Eq.trans (congrArg (fun a : State => { a with reg := s.reg, sumac := s.sumac, evAt := s.evAt, out := s.out }) g.frame) h.frame,
    fun f j hf hj => (g.fields f j (fun hm => hf (hv hm)) hj).trans (h.fields f j hf hj)⟩

theorem SumacOnly.ite {c : Prop} [Decidable c] (ht : SumacOnly ids s t) (hu : SumacOnly ids s u) :
    SumacOnly ids s (if c then t else u) := by
  split
  · exact ht
  · exact hu

theorem SumacOnly.foldl_mem {α : Type} {l : List α} {f : State → α → State} (h : SumacOnly ids s t)
    (hf : ∀ {a y}, y ∈ l → SumacOnly ids s a → SumacOnly ids s (f a y)) : SumacOnly ids s (l.foldl f t) :=
  List.foldlRecOn (motive := SumacOnly ids s) l f h fun _ ha _ hy => hf hy ha

theorem SumacOnly.setF (h : SumacOnly ids s t) {f : Fld} {i v : Nat} (hf : f.id ∈ ids) (hi : i < 1048576) :
    SumacOnly ids s (t.setF f i v) := by
  refine ⟨h.frame, fun g j hg hj => ?_⟩
  have hne : g.id ≠ f.id := fun e => hg (e ▸ hf)
  exact (State.getF_setF_other (Fld.key_ne hne hj hi)).trans (h.fields g j hg hj)

/-- Sumac's own record may change. -/
theorem SumacOnly.put (h : SumacOnly ids s t) {a : SumacSt} : SumacOnly ids s { t with sumac := a } := ⟨h.frame, h.fields⟩

theorem SumacOnly.log (h : SumacOnly ids s t) {o : Out} : SumacOnly ids s (t.log o) := ⟨h.frame, h.fields⟩

theorem SumacOnly.raise (h : SumacOnly ids s t) (he : F.HST_EVT_EVT.id ∈ ids) (hp : F.MSIX_PBA_PEND.id ∈ ids) {f n : Nat}
    (hf : f < 1048576) : SumacOnly ids s (t.raise f n) := by
  refine ⟨Eq.trans (congrArg (fun a : State => { a with reg := s.reg, sumac := s.sumac, evAt := s.evAt, out := s.out })
    (t.raise_frame f n)) h.frame, fun g j hg hj => ?_⟩
  refine ((State.raise_regs t f n).getF ?_).trans (h.fields g j hg hj)
  simpa using ⟨Fld.key_ne (fun e => hg (e ▸ he)) hj hf, Fld.key_ne (fun e => hg (e ▸ hp)) hj hf⟩

theorem SumacOnly.sameMems (h : SumacOnly ids s t) : s.sameMems t := by
  have hm {α : Type} (g : State → α) : g { t with reg := s.reg, sumac := s.sumac, evAt := s.evAt, out := s.out } = g s :=
    congrArg g h.frame
  exact ⟨hm State.bb, hm State.acqMem, hm State.dram, hm State.nvm, hm State.psbuf, hm State.cstore, hm State.mirror,
    hm State.tstore⟩

/-- What of Sumac's record only its safe-state intervals leave. -/
def SumacSt.rest (a b : SumacSt) : Prop := { a with ivals := b.ivals } = b

/-! ### The registers that follow (R388, R392) -/

/-- The numbers of the fields that follow the sources. -/
def shownIds : List Nat :=
  [F.FLT_STAT_CSAFE, F.FLT_SSRC_SAFE, F.FLT_STAT_CLATCH, F.FLT_STAT_SSAFE, F.FLT_STAT_ERR, F.SE_EXCB_PSAFE, F.HST_EVT_EVT,
    F.MSIX_PBA_PEND].map Fld.id

/-- Those of them that follow the safe state of a site. -/
def siteIds : List Nat := [F.FLT_SSRC_SAFE, F.FLT_STAT_SSAFE, F.SE_EXCB_PSAFE, F.HST_EVT_EVT, F.MSIX_PBA_PEND].map Fld.id

/-- Nothing changes but fields with numbers in `ids`, the intervals of safe state, the record of host events and the outputs. -/
structure Shown (ids : List Nat) (s t : State) : Prop where
  only : SumacOnly ids s t
  sumac : t.sumac.rest s.sumac

theorem Shown.refl (ids : List Nat) (s : State) : Shown ids s s := ⟨.refl _ s, rfl⟩

theorem Shown.ite {c : Prop} [Decidable c] (ht : Shown ids s t) (hu : Shown ids s u) : Shown ids s (if c then t else u) := by
  split
  · exact ht
  · exact hu

theorem Shown.foldl_mem {α : Type} {l : List α} {f : State → α → State} (h : Shown ids s t)
    (hf : ∀ {a y}, y ∈ l → Shown ids s a → Shown ids s (f a y)) : Shown ids s (l.foldl f t) :=
  List.foldlRecOn (motive := Shown ids s) l f h fun _ ha _ hy => hf hy ha

theorem Shown.trans {v : List Nat} (h : Shown ids s t) (g : Shown v t u) (hv : v ⊆ ids) : Shown ids s u :=
  ⟨h.only.trans g.only hv,
    Eq.trans (congrArg (fun a : SumacSt => { a with ivals := s.sumac.ivals }) (g.sumac)) h.sumac⟩

theorem Shown.setF (h : Shown ids s t) {f : Fld} {i v : Nat} (hf : f.id ∈ ids) (hi : i < 1048576) : Shown ids s (t.setF f i v) :=
  ⟨h.only.setF hf hi, h.sumac⟩

theorem Shown.raise (h : Shown ids s t) (he : F.HST_EVT_EVT.id ∈ ids) (hp : F.MSIX_PBA_PEND.id ∈ ids) {f n : Nat} (hf : f < 1048576) : Shown ids s (t.raise f n) := by
  have hs : (t.raise f n).sumac = t.sumac := (congrArg State.sumac (t.raise_frame f n) :)
  exact ⟨h.only.raise he hp hf, by rw [hs]; exact h.sumac⟩

theorem Shown.safeIval (h : Shown ids s t) {v : Bool} : Shown ids s (t.safeIval x v) := ⟨h.only.put, h.sumac⟩

theorem Shown.pendSafe (h : Shown siteIds s t) : Shown siteIds s (t.pendSafe x) := by
  refine h.foldl_mem fun {a e} he ha => ?_
  have hl : e < 16 := List.mem_range.1 he
  split
  · exact (ha.setF (by decide) (by omega)).ite ha
  · exact ha

theorem Shown.siteSafeBit (h : Shown siteIds s t) {v : Bool} (hx : x < 1048576) : Shown siteIds s (t.siteSafeBit x v) := by
  unfold State.siteSafeBit
  extract_lets _ s1 s2
  have h1 : Shown siteIds s s1 := h.setF (by decide) hx
  have h2 : Shown siteIds s s2 := (h1.setF (f := F.FLT_STAT_SSAFE) (by decide) (by decide)).pendSafe.safeIval
  exact ((h2.raise (by decide) (by decide) hx).ite h2).ite ((h1.setF (f := F.FLT_STAT_SSAFE) (by decide) (by decide)).safeIval.ite h1)

/-! ### Safe-state bits -/

/-- Site `x` shows safe state. -/
structure SafeShown (x : Nat) (s : State) : Prop where
  safe : s.getF F.FLT_SSRC_SAFE x = 1
  ssafe : hasBit (s.getF F.FLT_STAT_SSAFE 0) x = true

/-- A site that shows safe state does so while only other things change. -/
theorem SafeShown.of_getF (h : SafeShown x s) (h1 : t.getF F.FLT_SSRC_SAFE x = s.getF F.FLT_SSRC_SAFE x)
    (h2 : t.getF F.FLT_STAT_SSAFE 0 = s.getF F.FLT_STAT_SSAFE 0) : SafeShown x t := ⟨h1.trans h.safe, h2 ▸ h.ssafe⟩

theorem SafeShown.setF (h : SafeShown x s) {f : Fld} {i v : Nat} (hx : x < 1048576) (hi : i < 1048576)
    (h1 : f.id ≠ F.FLT_SSRC_SAFE.id) (h2 : f.id ≠ F.FLT_STAT_SSAFE.id) : SafeShown x (s.setF f i v) :=
  h.of_getF (State.getF_setF_other (Fld.key_ne h1.symm hx hi)) (State.getF_setF_other (Fld.key_ne h2.symm (by decide) hi))

theorem SafeShown.raise (h : SafeShown x s) {f n : Nat} (hx : x < 1048576) (hf : f < 1048576) : SafeShown x (s.raise f n) :=
  h.of_getF ((State.raise_regs s f n).getF (by simpa using ⟨Fld.key_ne (by decide) hx hf, Fld.key_ne (by decide) hx hf⟩))
    ((State.raise_regs s f n).getF (by simpa using ⟨Fld.key_ne (by decide) (by decide) hf, Fld.key_ne (by decide) (by decide) hf⟩))

theorem SafeShown.ite {c : Prop} [Decidable c] (ht : SafeShown x t) (hu : SafeShown x u) : SafeShown x (if c then t else u) := by
  split
  · exact ht
  · exact hu

theorem SafeShown.pendSafe (h : SafeShown x s) {y : Nat} (hx : x < 1048576) : SafeShown x (s.pendSafe y) := by
  refine List.foldlRecOn (motive := SafeShown x) (List.range 16) _ h fun a ha e he => ?_
  have hl : e < 16 := List.mem_range.1 he
  split
  · exact (ha.setF hx (by omega) (by decide) (by decide)).ite ha
  · exact ha

theorem SafeShown.safeIval (h : SafeShown x s) {y : Nat} {v : Bool} : SafeShown x (s.safeIval y v) := h.of_getF rfl rfl

/-- A site that is in safe state comes to show it. -/
theorem State.siteSafeBit_true (s : State) (hx : x < 16) : SafeShown x (s.siteSafeBit x true) := by
  have hx' : x < 1048576 := by omega
  unfold State.siteSafeBit
  extract_lets was s1 s2
  have hs : s1.getF F.FLT_SSRC_SAFE x = 1 := State.getF_setF_same ..
  have hb : s1.getF F.FLT_STAT_SSAFE 0 = s.getF F.FLT_STAT_SSAFE 0 := State.getF_setF_other (Fld.key_ne (by decide) (by decide) hx')
  by_cases hw : was = true
  · have h1 : SafeShown x s1 := ⟨hs, hb ▸ hw⟩
    simpa only [hw, Bool.not_true, Bool.and_false, Bool.false_and, Bool.false_eq_true, if_false] using h1
  · have hset : SafeShown x (s1.setF F.FLT_STAT_SSAFE 0 (setBit (s.getF F.FLT_STAT_SSAFE 0) x)) := by
      refine ⟨(State.getF_setF_other (Fld.key_ne (by decide) hx' (by decide))).trans hs, ?_⟩
      rw [State.getF_setF_same]
      exact (hasBit_mod_two_pow hx _).trans (hasBit_setBit _ x)
    have h2 : SafeShown x s2 := (hset.pendSafe hx').safeIval
    simp only [hw, Bool.not_false, Bool.and_true, if_true]
    exact (h2.raise hx' hx').ite h2

/-- The bit of another site changes nothing of it. -/
theorem SafeShown.siteSafeBit (h : SafeShown x s) {y : Nat} {v : Bool} (hx : x < 16) (hy : y < 1048576) (hxy : x ≠ y) :
    SafeShown x (s.siteSafeBit y v) := by
  have hx' : x < 1048576 := by omega
  unfold State.siteSafeBit
  extract_lets was s1 s2
  have h1 : SafeShown x s1 := h.of_getF (State.getF_setF_other (Fld.key_ne_index hxy))
    (State.getF_setF_other (Fld.key_ne (by decide) (by decide) hy))
  have hset (n : Nat) (hn : hasBit n x = true) : SafeShown x (s1.setF F.FLT_STAT_SSAFE 0 n) := by
    refine ⟨(State.getF_setF_other (Fld.key_ne (by decide) hx' (by decide))).trans h1.safe, ?_⟩
    rw [State.getF_setF_same]
    exact (hasBit_mod_two_pow hx _).trans hn
  have h2 : SafeShown x s2 := ((hset _ (hasBit_setBit_of y h.ssafe)).pendSafe hx').safeIval
  exact ((h2.raise hx' hy).ite h2).ite
    ((hset _ ((hasBit_clearBit_other hxy).trans h.ssafe)).safeIval.ite h1)

/-! ### Every register follows -/

/-- The registers of the chip scope. -/
def State.chipShown (s : State) : State :=
  ((s.setF F.FLT_STAT_CSAFE 0 (if s.chipSafe then 1 else 0)).setF F.FLT_SSRC_SAFE 16 (if s.chipSafe then 1 else 0)).setF
    F.FLT_STAT_CLATCH 0 (s.getF F.FLT_SSRC_LATCHED 16)

/-- The bits of every site follow. -/
def State.sitesShown (s t : State) : State := sites.foldl (fun a x => a.siteSafeBit x (s.siteSafe x)) t

theorem State.sumacShow_eq (s : State) : ∃ v, (v = s.chipShown ∨ v = s.chipShown.raisePf 1) ∧
    (s.sumacShow = s.sitesShown v ∨ ∃ n, s.sumacShow = (s.sitesShown v).setF F.FLT_STAT_ERR 0 n ∨
      ∃ o, s.sumacShow = ((s.sitesShown v).setF F.FLT_STAT_ERR 0 n).log o) := by
  unfold State.sumacShow
  extract_lets c wasC s1 s2 s3 e s4
  refine ⟨s2, ?_, ?_⟩
  · unfold s2
    split
    · exact .inr rfl
    · exact .inl rfl
  · split
    · exact .inl rfl
    · split
      · exact .inr ⟨_, .inr ⟨_, rfl⟩⟩
      · exact .inr ⟨_, .inl rfl⟩

theorem State.chipShown_shown (s : State) : Shown shownIds s s.chipShown :=
  (((Shown.refl _ s).setF (by decide) (by decide)).setF (by decide) (by decide)).setF (by decide) (by decide)

theorem State.sitesShown_shown (s t : State) : Shown siteIds t (s.sitesShown t) :=
  (Shown.refl _ t).foldl_mem fun hx ha => ha.siteSafeBit (sites_lt hx)

theorem State.sumacShow_shown (s : State) : Shown shownIds s s.sumacShow := by
  obtain ⟨v, hv, he⟩ := s.sumacShow_eq
  have h1 : Shown shownIds s v := by
    obtain rfl | rfl := hv
    · exact s.chipShown_shown
    · exact s.chipShown_shown.raise (by decide) (by decide) (by decide)
  have h3 : Shown shownIds s (s.sitesShown v) := h1.trans (s.sitesShown_shown v) (by decide)
  obtain he | ⟨n, he | ⟨o, he⟩⟩ := he <;> rw [he]
  · exact h3
  · exact h3.setF (by decide) (by decide)
  · have h4 : Shown shownIds s ((s.sitesShown v).setF F.FLT_STAT_ERR 0 n) := h3.setF (by decide) (by decide)
    exact ⟨h4.only.log, h4.sumac⟩

/-- A chip in safe state shows it once the registers have followed. -/
theorem State.sumacShow_csafe (h : s.chipSafe = true) : s.sumacShow.getF F.FLT_STAT_CSAFE 0 = 1 := by
  obtain ⟨v, hv, he⟩ := s.sumacShow_eq
  have h0 : s.chipShown.getF F.FLT_STAT_CSAFE 0 = 1 := by
    refine (State.getF_setF_other (Fld.key_ne (by decide) (by decide) (by decide))).trans
      ((State.getF_setF_other (Fld.key_ne (by decide) (by decide) (by decide))).trans ((State.getF_setF_same ..).trans ?_))
    rw [if_pos h]
    rfl
  have h1 : v.getF F.FLT_STAT_CSAFE 0 = 1 := by
    obtain rfl | rfl := hv
    · exact h0
    · exact (((Shown.refl [F.HST_EVT_EVT.id, F.MSIX_PBA_PEND.id] s.chipShown).raise (f := 16) (n := 1) (by decide) (by decide)
        (by decide)).only.fields _ 0 (by decide) (by decide)).trans h0
  have h3 : (s.sitesShown v).getF F.FLT_STAT_CSAFE 0 = 1 :=
    ((s.sitesShown_shown v).only.fields _ 0 (by decide) (by decide)).trans h1
  have herr (n : Nat) : ((s.sitesShown v).setF F.FLT_STAT_ERR 0 n).getF F.FLT_STAT_CSAFE 0 = 1 :=
    (State.getF_setF_other (Fld.key_ne (by decide) (by decide) (by decide))).trans h3
  obtain he | ⟨n, he | ⟨o, he⟩⟩ := he <;> rw [he]
  · exact h3
  · exact herr n
  · exact herr n

/-- A site in safe state shows it once the registers have followed. -/
theorem State.sitesShown_safe (t : State) (hx : x < 16) (h : s.siteSafe x = true) : SafeShown x (s.sitesShown t) := by
  have key (l : List Nat) (hl : ∀ y ∈ l, y < 1048576) (hm : x ∈ l) (a : State) :
      SafeShown x (l.foldl (fun a x => a.siteSafeBit x (s.siteSafe x)) a) := by
    have keep (l : List Nat) (hl : ∀ y ∈ l, y < 1048576) (a : State) (ha : SafeShown x a) :
        SafeShown x (l.foldl (fun a x => a.siteSafeBit x (s.siteSafe x)) a) :=
      List.foldlRecOn (motive := SafeShown x) l _ ha fun a ha y hy => by
        by_cases hxy : x = y
        · subst hxy
          rw [h]
          exact a.siteSafeBit_true hx
        · exact ha.siteSafeBit hx (hl y hy) hxy
    induction l generalizing a with
    | nil => cases hm
    | cons y l ih =>
      have hl' : ∀ z ∈ l, z < 1048576 := fun z hz => hl z (List.mem_cons_of_mem _ hz)
      obtain rfl | hm := List.mem_cons.1 hm
      · exact keep l hl' _ ((congrArg (fun v => SafeShown x (a.siteSafeBit x v)) h).mpr (a.siteSafeBit_true hx))
      · exact ih hl' hm _
  exact key sites (fun y hy => sites_lt hy) (List.mem_range.2 hx) t

theorem State.sumacShow_safe (hx : x < 16) (h : s.siteSafe x = true) : SafeShown x s.sumacShow := by
  have hx' : x < 1048576 := by omega
  obtain ⟨v, -, he⟩ := s.sumacShow_eq
  have h3 : SafeShown x (s.sitesShown v) := State.sitesShown_safe v hx h
  obtain he | ⟨n, he | ⟨o, he⟩⟩ := he <;> rw [he]
  · exact h3
  · exact h3.setF hx' (by decide) (by decide) (by decide)
  · exact (h3.setF (f := F.FLT_STAT_ERR) (i := 0) (v := n) hx' (by decide) (by decide) (by decide)).of_getF rfl rfl

end Sys2Proof.Machine
end

section
/-! SUPPORT. Sources become active and inactive (R386, R387, R394). -/

namespace Sys2Proof.Machine

variable {s t u : State} {k x b : Nat} {ids : List Nat}

/-! ### The sources of a scope -/

/-- The field that holds the sources of a scope. -/
def srcFld (k : Nat) : Fld := if k = 16 then F.FLT_STAT_CSRC else F.FLT_SSRC_SRC

/-- Where a scope stands in it. -/
def srcIx (k : Nat) : Nat := if k = 16 then 0 else k

theorem State.srcs_eq (s : State) (k : Nat) : s.srcs k = s.getF (srcFld k) (srcIx k) := by
  unfold srcs srcFld srcIx
  split <;> rfl

theorem State.srcs_site (s : State) (hx : x < 16) : s.srcs x = s.getF F.FLT_SSRC_SRC x := if_neg (by omega)

theorem srcIx_lt (hk : k ≤ 16) : srcIx k < 1048576 := by
  unfold srcIx
  split <;> omega

theorem srcFld_mem {v : List Nat} (h1 : F.FLT_STAT_CSRC.id ∈ v) (h2 : F.FLT_SSRC_SRC.id ∈ v) (k : Nat) : (srcFld k).id ∈ v := by
  unfold srcFld
  split
  · exact h1
  · exact h2

theorem srcFld_not_mem {v : List Nat} (h1 : F.FLT_STAT_CSRC.id ∉ v) (h2 : F.FLT_SSRC_SRC.id ∉ v) (k : Nat) : (srcFld k).id ∉ v := by
  unfold srcFld
  split
  · exact h1
  · exact h2

theorem State.srcs_setSrcs (s : State) (k v : Nat) : (s.setSrcs k v).srcs k = v % 2 ^ (srcFld k).width := by
  rw [srcs_eq]
  unfold setSrcs srcFld srcIx
  split <;> exact State.getF_setF_same ..

theorem State.srcs_setF {f : Fld} {i v : Nat} (h1 : F.FLT_STAT_CSRC.id ≠ f.id) (h2 : F.FLT_SSRC_SRC.id ≠ f.id) (hk : k ≤ 16)
    (hi : i < 1048576) : (s.setF f i v).srcs k = s.srcs k := by
  rw [srcs_eq, srcs_eq]
  refine getF_setF_other (Fld.key_ne ?_ (srcIx_lt hk) hi)
  unfold srcFld
  split
  · exact h1
  · exact h2

theorem State.getF_setSrcs {f : Fld} {i v : Nat} (h1 : f.id ≠ F.FLT_STAT_CSRC.id) (h2 : f.id ≠ F.FLT_SSRC_SRC.id) (hk : k ≤ 16)
    (hi : i < 1048576) : (s.setSrcs k v).getF f i = s.getF f i := by
  have hset : (s.setF F.FLT_SSRC_SRC k v).getF f i = s.getF f i := getF_setF_other (Fld.key_ne h2 hi (by omega))
  unfold setSrcs
  split
  · exact (getF_setF_other (Fld.key_ne h1 hi (by decide))).trans hset
  · exact hset

/-- A bit of a scope's sources: a site has 13, the chip 7. -/
def SrcBit (k b : Nat) : Prop := k = 16 ∧ b < 7 ∨ k < 16 ∧ b < 13

theorem SrcBit.le (h : SrcBit k b) : k ≤ 16 := by
  obtain ⟨rfl, -⟩ | ⟨h, -⟩ := h <;> omega

theorem SrcBit.lt (h : SrcBit k b) : b < (srcFld k).width := by
  unfold srcFld
  obtain ⟨rfl, h⟩ | ⟨hk, h⟩ := h
  · exact h
  · rw [if_neg (by omega)]
    exact h

theorem SrcBit.lt_stk (h : SrcBit k b) : b < F.FLT_SSRC_STK.width := by
  obtain ⟨-, h⟩ | ⟨-, h⟩ := h
  · exact Nat.lt_trans h (by decide)
  · exact h

theorem ne_zero_of_hasBit {n : Nat} (h : hasBit n b = true) : n ≠ 0 := by
  rintro rfl
  simp [hasBit] at h

/-! ### What holds a scope in safe state -/

/-- What holds scope `k` in safe state, and its sticky bits, are as they were. -/
structure ScopeKept (k : Nat) (s t : State) : Prop where
  srcs : t.srcs k = s.srcs k
  latched : t.getF F.FLT_SSRC_LATCHED k = s.getF F.FLT_SSRC_LATCHED k
  quieting : t.getF F.FLT_SSRC_QUIETING k = s.getF F.FLT_SSRC_QUIETING k
  stk : t.getF F.FLT_SSRC_STK k = s.getF F.FLT_SSRC_STK k
  exiting : t.sumac.exiting = s.sumac.exiting

/-- The numbers of its fields. -/
def scopeIds : List Nat :=
  [F.FLT_STAT_CSRC, F.FLT_SSRC_SRC, F.FLT_SSRC_LATCHED, F.FLT_SSRC_QUIETING, F.FLT_SSRC_STK].map Fld.id

theorem ScopeKept.of_fields (hk : k ≤ 16) (hf : ∀ (g : Fld) (j : Nat), g.id ∈ scopeIds → j < 1048576 → t.getF g j = s.getF g j)
    (he : t.sumac.exiting = s.sumac.exiting) : ScopeKept k s t := by
  have hk' : k < 1048576 := by omega
  refine ⟨?_, hf _ k (by decide) hk', hf _ k (by decide) hk', hf _ k (by decide) hk', he⟩
  rw [State.srcs_eq, State.srcs_eq]
  exact hf _ _ (srcFld_mem (by decide) (by decide) k) (srcIx_lt hk)

theorem ScopeKept.trans (h : ScopeKept k s t) (g : ScopeKept k t u) : ScopeKept k s u :=
  ⟨g.srcs.trans h.srcs, g.latched.trans h.latched, g.quieting.trans h.quieting, g.stk.trans h.stk, g.exiting.trans h.exiting⟩

theorem ScopeKept.scopeHeld (h : ScopeKept k s t) : t.scopeHeld k = s.scopeHeld k := by
  unfold State.scopeHeld State.flag
  rw [h.srcs, h.latched, h.quieting, h.exiting]

theorem Shown.scopeKept (h : Shown ids s t) (hids : ∀ i ∈ scopeIds, i ∉ ids) (hk : k ≤ 16) : ScopeKept k s t :=
  .of_fields hk (fun g j hg hj => h.only.fields g j (hids _ hg) hj) ((congrArg SumacSt.exiting h.sumac :))

theorem State.sumacShow_scopeKept (s : State) (hk : k ≤ 16) : ScopeKept k s s.sumacShow :=
  s.sumacShow_shown.scopeKept (by decide) hk

theorem FabSteps.scopeKept (h : FabSteps false s t) (hk : k ≤ 16) : ScopeKept k s t :=
  .of_fields hk (fun _ _ hg hj => h.getF ((by decide : ∀ i ∈ scopeIds, i ∉ stepIds false) _ hg) hj)
    ((congrArg (fun a : State => a.sumac.exiting) h.sendFrame :))

theorem State.scopeHeld_of_srcs (h : hasBit (s.srcs k) b = true) : s.scopeHeld k = true := by
  have hn : (s.srcs k != 0) = true := bne_iff_ne.2 (ne_zero_of_hasBit h)
  simp only [scopeHeld, hn, Bool.true_or]

theorem State.scopeHeld_of_quieting (h : s.getF F.FLT_SSRC_QUIETING k = 1) : s.scopeHeld k = true := by
  simp [scopeHeld, flag, h]

theorem State.scopeHeld_of_latched (h : s.getF F.FLT_SSRC_LATCHED k = 1) : s.scopeHeld k = true := by
  simp [scopeHeld, flag, h]

theorem State.siteSafe_of_scopeHeld (h : s.scopeHeld k = true) (hx : k = 16 ∨ k = x) : s.siteSafe x = true := by
  obtain rfl | rfl := hx
  · exact Bool.or_eq_true_iff.2 (.inl h)
  · exact Bool.or_eq_true_iff.2 (.inr h)

/-- A scope that is held comes to show it: the chip, or the site, and every site that the chip holds. -/
structure ScopeShown (k : Nat) (t : State) : Prop where
  held : t.scopeHeld k = true
  csafe : k = 16 → t.getF F.FLT_STAT_CSAFE 0 = 1
  safe : ∀ x, x < 16 → k = 16 ∨ k = x → SafeShown x t

theorem State.sumacShow_scopeShown (hk : k ≤ 16) (h : s.scopeHeld k = true) : ScopeShown k s.sumacShow :=
  ⟨(s.sumacShow_scopeKept hk).scopeHeld.trans h, fun e => s.sumacShow_csafe (by rwa [e] at h),
    fun _ hx hkx => State.sumacShow_safe hx (State.siteSafe_of_scopeHeld h hkx)⟩

/-! ### Wire faults (R386) -/

theorem State.wired_wireUnder (s : State) (k b : Nat) (v : Bool) (j c : Nat) : (s.wireUnder k b v).wired j c = s.wired j c := by
  unfold wired wireUnder
  refine List.any_map.trans (congrArg (fun f => s.sumac.wires.any f) (funext fun w => ?_))
  dsimp only [Function.comp]
  split
  next h => rw [h.1, h.2]
  · rfl

theorem State.wired_of_wires (h : t.sumac.wires = s.sumac.wires) (k b : Nat) : t.wired k b = s.wired k b := by
  rw [wired, wired, h]

/-- Once the wires of a source agree no more it has no wire fault. -/
theorem wired_filter (a : SumacSt) (k b : Nat) :
    (a.wires.filter (fun w => !(w.1 == k && w.2.1 == b))).any (fun w => w.1 == k && w.2.1 == b) = false := by
  rw [List.any_eq_false]
  intro w hw
  exact Bool.eq_false_iff.1 ((Bool.not_eq_true' _).mp (List.mem_filter.1 hw).2)

/-! ### A source becomes active -/

/-- What of Sumac's record its sources leave: all but the intervals, the exits, the wire faults, and the instants that R395 and R402 need. -/
def SumacSt.pins (a b : SumacSt) : Prop :=
  { a with ivals := b.ivals, exiting := b.exiting, lastOn := b.lastOn, cutNs := b.cutNs, wires := b.wires } = b

theorem SumacSt.rest.pins {a b : SumacSt} (h : a.rest b) : a.pins b := by
  unfold SumacSt.pins
  exact congrArg (fun c : SumacSt => { c with exiting := b.exiting, lastOn := b.lastOn, cutNs := b.cutNs, wires := b.wires }) h

theorem SumacSt.pins.trans {a b c : SumacSt} (h : a.pins b) (g : b.pins c) : a.pins c :=
  Eq.trans (congrArg (fun d : SumacSt =>
    { d with ivals := c.ivals, exiting := c.exiting, lastOn := c.lastOn, cutNs := c.cutNs, wires := c.wires }) h) g

/-- A source of scope `k`, held, that is active: its bit stands, and its scope is held. One that was inactive leaves its sticky bit, and
its scope shows. -/
structure SourceOn (k b : Nat) (s t : State) : Prop where
  only : FaultOnly s t
  active : hasBit (t.srcs k) b = true
  pins : t.sumac.pins s.sumac
  wired : ∀ j c, t.wired j c = s.wired j c
  fresh : hasBit (s.srcs k) b = false → hasBit (t.getF F.FLT_SSRC_STK k) b = true ∧ ScopeShown k t

theorem SourceOn.held (h : SourceOn k b s t) : t.scopeHeld k = true := State.scopeHeld_of_srcs h.active

theorem SourceOn.siteSafe (h : SourceOn k b s t) (hx : k = 16 ∨ k = x) : t.siteSafe x = true := State.siteSafe_of_scopeHeld h.held hx

/-- The state in which a source's words go out: its bit and its sticky bit stand, and no quiet period runs. -/
def State.sourceUp (s : State) (k b : Nat) : State := ((s.setSrcs k (setBit (s.srcs k) b)).stick k b).stopQuiet k

theorem State.srcs_sourceUp (s : State) (h : SrcBit k b) : hasBit ((s.sourceUp k b).srcs k) b = true := by
  have hs : (s.sourceUp k b).srcs k = (s.setSrcs k (setBit (s.srcs k) b)).srcs k :=
    (State.srcs_setF (s := (s.setSrcs k (setBit (s.srcs k) b)).stick k b) (f := F.FLT_SSRC_QUIETING) (i := k) (v := 0) (by decide)
      (by decide) h.le (by have := h.le; omega)).trans
      (State.srcs_setF (f := F.FLT_SSRC_STK) (by decide) (by decide) h.le (by have := h.le; omega))
  rw [hs, srcs_setSrcs]
  exact (hasBit_mod_two_pow h.lt _).trans (hasBit_setBit _ b)

/-- The sticky bit, with the quiet period stopped. -/
theorem State.stk_stopQuiet (s : State) (h : SrcBit k b) :
    hasBit (((s.stick k b).stopQuiet k).getF F.FLT_SSRC_STK k) b = true := by
  have hk : k < 1048576 := by have := h.le; omega
  have hs : ((s.stick k b).stopQuiet k).getF F.FLT_SSRC_STK k = (s.stick k b).getF F.FLT_SSRC_STK k :=
    State.getF_setF_other (Fld.key_ne (by decide) hk hk)
  have h1 : (s.stick k b).getF F.FLT_SSRC_STK k = setBit (s.getF F.FLT_SSRC_STK k) b % 2 ^ F.FLT_SSRC_STK.width :=
    State.getF_setF_same ..
  rw [hs, h1]
  exact (hasBit_mod_two_pow h.lt_stk _).trans (hasBit_setBit _ b)

theorem State.stopQuiet_pins (s : State) (k : Nat) : (s.stopQuiet k).sumac.pins s.sumac := rfl

theorem State.sumac_setSrcs (s : State) (k v : Nat) : (s.setSrcs k v).sumac = s.sumac := by
  unfold setSrcs
  split <;> rfl

theorem State.sumac_sourceUp (s : State) (k b : Nat) : (s.sourceUp k b).sumac.pins s.sumac ∧ (s.sourceUp k b).sumac.wires = s.sumac.wires := by
  have h := s.sumac_setSrcs k (setBit (s.srcs k) b)
  exact ⟨h ▸ State.stopQuiet_pins _ k, (congrArg SumacSt.wires h :)⟩

theorem FabSteps.sumac (h : FabSteps false s t) : t.sumac = s.sumac := (congrArg State.sumac h.sendFrame :)

theorem State.sourceOn_spec (s : State) (h : SrcBit k b) : SourceOn k b s (s.sourceOn k b) := by
  have hk : k < 1048576 := by have := h.le; omega
  have hf : FaultOnly s (s.sourceOn k b) := (FaultOnly.refl s).sourceOn hk
  revert hf
  unfold sourceOn
  by_cases hb : hasBit (s.srcs k) b = true
  · rw [if_pos hb]
    exact fun hf => ⟨hf, hb, rfl, fun j c => s.wired_wireUnder k b true j c, fun hn => absurd hb (by rw [hn]; decide)⟩
  · rw [if_neg hb]
    have hw : FabSteps false (s.sourceUp k b) ((s.sourceUp k b).faultWords k b) := FabSteps.refl.faultWords
    obtain ⟨hp, hwire⟩ := s.sumac_sourceUp k b
    have hkept := hw.scopeKept h.le
    have hup := hkept.srcs ▸ s.srcs_sourceUp h
    have hshow := State.sumacShow_shown ((s.sourceUp k b).faultWords k b)
    have hscope := ((s.sourceUp k b).faultWords k b).sumacShow_scopeKept h.le
    intro hf
    refine ⟨hf, hscope.srcs ▸ hup, hshow.sumac.pins.trans (hw.sumac ▸ hp), fun j c => ?_, fun _ => ⟨?_, ?_⟩⟩
    · have hwires : ((s.sourceUp k b).faultWords k b).sumacShow.sumac.wires = s.sumac.wires :=
        (congrArg SumacSt.wires hshow.sumac :).trans ((congrArg SumacSt.wires hw.sumac).trans hwire)
      exact State.wired_of_wires hwires j c
    · exact (hscope.stk.trans hkept.stk) ▸ State.stk_stopQuiet _ h
    · exact State.sumacShow_scopeShown h.le (State.scopeHeld_of_srcs hup)

/-! ### A source becomes inactive -/

/-- The fields that a source which becomes inactive writes. -/
def offIds : List Nat := F.FLT_STAT_CSRC.id :: F.FLT_SSRC_SRC.id :: F.FLT_SSRC_QUIETING.id :: shownIds

/-- The bit of a held source falls; the quiet period of its scope starts with the last of them (R394). -/
structure SourceOff (k b : Nat) (s t : State) : Prop where
  only : SumacOnly offIds s t
  sumac : t.sumac.rest s.sumac
  srcs : t.srcs k = clearBit (s.srcs k) b % 2 ^ (srcFld k).width
  last : clearBit (s.srcs k) b = 0 → t.getF F.FLT_SSRC_QUIETING k = 1

theorem SourceOff.held (h : SourceOff k b s t) (hl : clearBit (s.srcs k) b = 0) : t.scopeHeld k = true :=
  State.scopeHeld_of_quieting (h.last hl)

theorem State.setSrcs_shown (s : State) (v : Nat) (hk : k ≤ 16) : Shown offIds s (s.setSrcs k v) := by
  have h1 : Shown offIds s (s.setF F.FLT_SSRC_SRC k v) := (Shown.refl _ s).setF (by decide) (by omega)
  exact (h1.setF (by decide) (by decide)).ite h1

theorem State.sourceOff_spec (hw : s.wired k b = false) (hb : hasBit (s.srcs k) b = true) (hk : k ≤ 16) :
    SourceOff k b s (s.sourceOff k b) := by
  have hk' : k < 1048576 := by omega
  unfold sourceOff
  simp only [hw, hb, Bool.false_eq_true, if_false, if_true]
  have h1 := s.setSrcs_shown (clearBit (s.srcs k) b) hk
  have hsrc := s.srcs_setSrcs k (clearBit (s.srcs k) b)
  revert h1 hsrc
  generalize s.setSrcs k (clearBit (s.srcs k) b) = v
  intro h1 hsrc
  have hq : Shown offIds s (v.setF F.FLT_SSRC_QUIETING k 1) := h1.setF (by decide) hk'
  have hqs : (v.setF F.FLT_SSRC_QUIETING k 1).srcs k = v.srcs k := State.srcs_setF (by decide) (by decide) hk hk'
  by_cases h0 : v.srcs k = 0
  · rw [if_pos (beq_iff_eq.2 h0)]
    have hshow := State.sumacShow_shown (v.setF F.FLT_SSRC_QUIETING k 1)
    have hscope := (v.setF F.FLT_SSRC_QUIETING k 1).sumacShow_scopeKept hk
    have hall := hq.trans hshow (by decide)
    exact ⟨hall.only, hall.sumac, hscope.srcs.trans (hqs.trans hsrc), fun _ => hscope.quieting.trans (State.getF_setF_same ..)⟩
  · rw [if_neg (by simpa using h0)]
    have hscope := v.sumacShow_scopeKept hk
    have hall := h1.trans v.sumacShow_shown (by decide)
    exact ⟨hall.only, hall.sumac, hscope.srcs.trans hsrc, fun hz => absurd (hsrc.trans (by rw [hz, Nat.zero_mod])) h0⟩

/-- A source without a wire fault that was inactive stays as it is. -/
theorem State.sourceOff_idle (hw : s.wired k b = false) (hb : hasBit (s.srcs k) b = false) : s.sourceOff k b = s := by
  simp only [sourceOff, hw, hb, Bool.false_eq_true, if_false]

/-- What a source that becomes inactive leaves alone, with a wire fault or without. -/
theorem State.sourceOff_only (s : State) (b : Nat) (hk : k ≤ 16) : SumacOnly offIds s (s.sourceOff k b) := by
  by_cases hw : s.wired k b = true
  · rw [sourceOff, if_pos hw]
    exact (SumacOnly.refl _ s).put
  · by_cases hb : hasBit (s.srcs k) b = true
    · exact (State.sourceOff_spec (Bool.eq_false_iff.2 hw) hb hk).only
    · rw [State.sourceOff_idle (Bool.eq_false_iff.2 hw) (Bool.eq_false_iff.2 hb)]
      exact .refl _ s

theorem State.sourceOff_pins (s : State) (b : Nat) (hk : k ≤ 16) : (s.sourceOff k b).sumac.pins s.sumac := by
  by_cases hw : s.wired k b = true
  · rw [sourceOff, if_pos hw]
    rfl
  · by_cases hb : hasBit (s.srcs k) b = true
    · exact (State.sourceOff_spec (Bool.eq_false_iff.2 hw) hb hk).sumac.pins
    · rw [State.sourceOff_idle (Bool.eq_false_iff.2 hw) (Bool.eq_false_iff.2 hb)]
      rfl

/-- Without a wire fault the source is inactive afterwards. -/
theorem State.sourceOff_clears (hw : s.wired k b = false) (h : SrcBit k b) : hasBit ((s.sourceOff k b).srcs k) b = false := by
  by_cases hb : hasBit (s.srcs k) b = true
  · rw [(State.sourceOff_spec hw hb h.le).srcs]
    exact (hasBit_mod_two_pow h.lt _).trans (hasBit_clearBit _ b)
  · rw [State.sourceOff_idle hw (Bool.eq_false_iff.2 hb)]
    exact Bool.eq_false_iff.2 hb

/-! ### Pulses (R387) -/

/-- A pulse of site `x`: its sticky bit stands, its scope shows, and the quiet period starts unless a held source is active. -/
structure Pulsed (x b : Nat) (s t : State) : Prop where
  only : FaultOnly s t
  srcs : t.srcs x = s.srcs x
  stk : hasBit (t.getF F.FLT_SSRC_STK x) b = true
  shown : ScopeShown x t
  quiet : s.srcs x = 0 → t.getF F.FLT_SSRC_QUIETING x = 1

/-- The state in which a pulse's words go out. -/
def State.pulseUp (s : State) (k b : Nat) : State := (s.stick k b).stopQuiet k

theorem State.srcs_pulseUp (s : State) (b : Nat) (hk : k ≤ 16) : (s.pulseUp k b).srcs k = s.srcs k :=
  (State.srcs_setF (s := s.stick k b) (f := F.FLT_SSRC_QUIETING) (i := k) (v := 0) (by decide) (by decide) hk (by omega)).trans
    (State.srcs_setF (f := F.FLT_SSRC_STK) (by decide) (by decide) hk (by omega))

theorem State.sourcePulse_spec (s : State) (h : SrcBit k b) : Pulsed k b s (s.sourcePulse k b) := by
  have hk : k < 1048576 := by have := h.le; omega
  have hf : FaultOnly s (s.sourcePulse k b) := (FaultOnly.refl s).sourcePulse hk
  revert hf
  have hup := s.srcs_pulseUp b h.le
  have hstk : hasBit ((s.pulseUp k b).getF F.FLT_SSRC_STK k) b = true := State.stk_stopQuiet s h
  have hw : FabSteps false (s.pulseUp k b) (if hasBit (s.srcs k) b then s.pulseUp k b else (s.pulseUp k b).faultWords k b) :=
    FabSteps.refl.ite FabSteps.refl.faultWords
  have hu : s.sourcePulse k b = (if (if hasBit (s.srcs k) b then s.pulseUp k b else (s.pulseUp k b).faultWords k b).srcs k == 0
    then (if hasBit (s.srcs k) b then s.pulseUp k b else (s.pulseUp k b).faultWords k b).setF F.FLT_SSRC_QUIETING k 1
    else if hasBit (s.srcs k) b then s.pulseUp k b else (s.pulseUp k b).faultWords k b).sumacShow := rfl
  rw [hu]
  have hkept := hw.scopeKept h.le
  revert hkept
  generalize (if hasBit (s.srcs k) b then s.pulseUp k b else (s.pulseUp k b).faultWords k b) = v
  intro hkept hf
  have hsrc : v.srcs k = s.srcs k := hkept.srcs.trans hup
  have hst : hasBit (v.getF F.FLT_SSRC_STK k) b = true := hkept.stk ▸ hstk
  by_cases h0 : v.srcs k = 0
  · rw [if_pos (beq_iff_eq.2 h0)] at hf ⊢
    have hscope := (v.setF F.FLT_SSRC_QUIETING k 1).sumacShow_scopeKept h.le
    have hq : (v.setF F.FLT_SSRC_QUIETING k 1).getF F.FLT_SSRC_QUIETING k = 1 := State.getF_setF_same ..
    have hvs : (v.setF F.FLT_SSRC_QUIETING k 1).getF F.FLT_SSRC_STK k = v.getF F.FLT_SSRC_STK k :=
      State.getF_setF_other (Fld.key_ne (by decide) hk hk)
    refine ⟨hf, hscope.srcs.trans ((State.srcs_setF (by decide) (by decide) h.le hk).trans hsrc), ?_,
      State.sumacShow_scopeShown h.le (State.scopeHeld_of_quieting hq), fun _ => hscope.quieting.trans hq⟩
    rw [hscope.stk, hvs]
    exact hst
  · rw [if_neg (by simpa using h0)] at hf ⊢
    have hscope := v.sumacShow_scopeKept h.le
    have hheld : v.scopeHeld k = true := by
      have hn : (v.srcs k != 0) = true := bne_iff_ne.2 h0
      simp only [scopeHeld, hn, Bool.true_or]
    exact ⟨hf, hscope.srcs.trans hsrc, hscope.stk ▸ hst, State.sumacShow_scopeShown h.le hheld, fun hz => absurd (hsrc.trans hz) h0⟩

end Sys2Proof.Machine
end

section
/-! SUPPORT. Fault sources, quiet periods, counts, wires, FLT_IN and the interlock: what their commands do (R386 to R400). -/

namespace Sys2Proof.Machine

variable {s t u : State} {k x b : Nat} {ids : List Nat}

/-! ### Sources (R386, R387) -/

theorem FaultOnly.units (h : FaultOnly s t) : s.sameMems t ∧ t.eng = s.eng ∧ t.chan = s.chan ∧ t.oct = s.oct ∧ t.site = s.site :=
  ⟨h.sameMems, (congrArg State.eng h.frame :), (congrArg State.chan h.frame :), (congrArg State.oct h.frame :), h.site⟩

theorem faultSourceActive_chip (b : Fin 7) (s : State) (hb : b.val ≠ 6) : ∃ t, exec (.faultSourceActive (.chip b)) s = .next t ∧
    hasBit (t.getF F.FLT_STAT_CSRC 0) b.val = true ∧ t.chipSafe = true ∧ (∀ x, t.siteSafe x = true) ∧
    (hasBit (s.srcs 16) b.val = false → hasBit (t.getF F.FLT_SSRC_STK 16) b.val = true ∧ t.getF F.FLT_STAT_CSAFE 0 = 1 ∧
      ∀ x, x < 16 → hasBit (t.getF F.FLT_STAT_SSAFE 0) x = true) ∧
    s.sameMems t ∧ t.eng = s.eng ∧ t.chan = s.chan ∧ t.oct = s.oct ∧ t.site = s.site := by
  have h := s.sourceOn_spec (k := 16) (b := b.val) (.inl ⟨rfl, b.isLt⟩)
  refine ⟨_, congrArg Host.Outcome.next (if_neg hb), h.active, h.held, fun x => h.siteSafe (.inl rfl), fun hn => ?_, h.only.units⟩
  obtain ⟨hstk, hshown⟩ := h.fresh hn
  exact ⟨hstk, hshown.csafe rfl, fun x hx => (hshown.safe x hx (.inl rfl)).ssafe⟩

theorem faultSourceActive_site (x : Fin 16) (b : Fin 13) (s : State) : ∃ t, exec (.faultSourceActive (.site x b)) s = .next t ∧
    t.siteSafe x.val = true ∧ (isPulse b.val = false → hasBit (t.getF F.FLT_SSRC_SRC x.val) b.val = true) ∧
    (isPulse b.val = true ∨ hasBit (s.srcs x.val) b.val = false → hasBit (t.getF F.FLT_SSRC_STK x.val) b.val = true ∧
      t.getF F.FLT_SSRC_SAFE x.val = 1 ∧ hasBit (t.getF F.FLT_STAT_SSAFE 0) x.val = true) ∧
    (isPulse b.val = true → t.getF F.FLT_SSRC_SRC x.val = s.getF F.FLT_SSRC_SRC x.val ∧
      (s.getF F.FLT_SSRC_SRC x.val = 0 → t.getF F.FLT_SSRC_QUIETING x.val = 1)) ∧
    s.sameMems t ∧ t.eng = s.eng ∧ t.chan = s.chan ∧ t.oct = s.oct ∧ t.site = s.site := by
  have hsb : SrcBit x.val b.val := .inr ⟨x.isLt, b.isLt⟩
  by_cases hp : isPulse b.val = true
  · have h := s.sourcePulse_spec hsb
    have hsafe := h.shown.safe x.val x.isLt (.inr rfl)
    refine ⟨_, congrArg Host.Outcome.next (if_pos hp), State.siteSafe_of_scopeHeld h.shown.held (.inr rfl), fun hn => ?_,
      fun _ => ⟨h.stk, hsafe.safe, hsafe.ssafe⟩, fun _ => ?_, h.only.units⟩
    · rw [hp] at hn
      cases hn
    · rw [← State.srcs_site _ x.isLt, ← State.srcs_site _ x.isLt]
      exact ⟨h.srcs, h.quiet⟩
  · have h := s.sourceOn_spec hsb
    refine ⟨_, congrArg Host.Outcome.next (if_neg hp), h.siteSafe (.inr rfl), fun _ => State.srcs_site _ x.isLt ▸ h.active,
      fun hn => ?_, fun hn => absurd hn hp, h.only.units⟩
    obtain ⟨hstk, hshown⟩ := h.fresh (hn.resolve_left hp)
    have hsafe := hshown.safe x.val x.isLt (.inr rfl)
    exact ⟨hstk, hsafe.safe, hsafe.ssafe⟩

theorem selfFault_spec (s : State) : ∃ t, exec .selfFault s = .next t ∧ exec (.faultSourceActive (.chip 6)) s = .next t ∧
    hasBit (t.getF F.FLT_STAT_CSRC 0) 6 = true ∧ t.chipSafe = true ∧ t.nutmeg = { s.nutmeg with selfRec := true } ∧
    (hasBit (s.srcs 16) 6 = false → t.getF F.FLT_STAT_CSAFE 0 = 1) ∧
    s.sameMems t ∧ t.eng = s.eng ∧ t.chan = s.chan ∧ t.oct = s.oct ∧ t.site = s.site := by
  have h := s.sourceOn_spec (k := 16) (b := 6) (.inl ⟨rfl, by decide⟩)
  have hn : (s.sourceOn 16 6).nutmeg = s.nutmeg := (congrArg State.nutmeg h.only.frame :)
  refine ⟨_, rfl, rfl, h.active, h.held, congrArg (fun n : NutmegSt => { n with selfRec := true }) hn,
    fun hb => (h.fresh hb).2.csafe rfl, ?_⟩
  have hu := h.only.units
  exact hu

/-! ### Sources that become inactive (R386, R394) -/

theorem exec_faultSourceClear {src : FaultSrc} {k b : Nat} (hsrc : srcAt src = (k, b)) (hw : s.wired k b = false) :
    exec (.faultSourceClear src) s = .next (if s.srcClears k b then s.sourceOff k b else s) := by
  have hk : (srcAt src).1 = k := congrArg Prod.fst hsrc
  have hb : (srcAt src).2 = b := congrArg Prod.snd hsrc
  simp only [exec, execFaultSourceClear, hk, hb, hw, Bool.false_and, Bool.false_eq_true, if_false]
  rfl

/-- The wires of a source agree no more. -/
def State.unwired (s : State) (k b : Nat) : State :=
  { s with sumac := { s.sumac with wires := s.sumac.wires.filter (fun w => !(w.1 == k && w.2.1 == b)) } }

theorem State.wired_unwired (s : State) (k b : Nat) : (s.unwired k b).wired k b = false := wired_filter s.sumac k b

theorem exec_faultSourceClear_wired {src : FaultSrc} {k b : Nat} (hsrc : srcAt src = (k, b)) (hw : s.wired k b = true)
    (hs : k ≠ 16 ∨ b ≠ 6) : exec (.faultSourceClear src) s =
      .next (if s.sumac.wires.any (fun w => w == (k, b, true)) then s.unwired k b else (s.unwired k b).sourceOff k b) := by
  have hk : (srcAt src).1 = k := congrArg Prod.fst hsrc
  have hb : (srcAt src).2 = b := congrArg Prod.snd hsrc
  have hn : (k == 16 && b == 6) = false := by
    obtain h | h := hs <;> simp [h]
  simp only [exec, execFaultSourceClear, hk, hb, hw, hn, Bool.not_false, Bool.and_true, if_true]
  rfl

/-- What ends a wire fault: the source is as it would be without it. -/
theorem faultSourceClear_wired {src : FaultSrc} (hsrc : srcAt src = (k, b)) (hw : s.wired k b = true) (hs : k ≠ 16 ∨ b ≠ 6)
    (hk : k ≤ 16) : ∃ t, exec (.faultSourceClear src) s = .next t ∧ t.wired k b = false ∧
      { t with reg := s.reg, sumac := s.sumac, evAt := s.evAt, out := s.out } = s := by
  refine ⟨_, exec_faultSourceClear_wired hsrc hw hs, ?_⟩
  have h1 : SumacOnly offIds s (s.unwired k b) := (SumacOnly.refl _ s).put
  have hu := s.wired_unwired k b
  split
  · exact ⟨hu, h1.frame⟩
  · refine ⟨?_, (h1.trans ((s.unwired k b).sourceOff_only b hk) (fun _ h => h)).frame⟩
    by_cases hb : hasBit ((s.unwired k b).srcs k) b = true
    · exact (State.wired_of_wires (congrArg SumacSt.wires (State.sourceOff_spec hu hb hk).sumac :) k b).trans hu
    · rw [State.sourceOff_idle hu (Bool.eq_false_iff.2 hb)]
      exact hu

theorem faultSourceClear_met {src : FaultSrc} (hsrc : srcAt src = (k, b)) (hw : s.wired k b = false) (hc : s.srcClears k b = true)
    (hb : hasBit (s.srcs k) b = true) (hk : k ≤ 16) : ∃ t, exec (.faultSourceClear src) s = .next t ∧ SourceOff k b s t :=
  ⟨_, (exec_faultSourceClear hsrc hw).trans (congrArg Host.Outcome.next (if_pos hc)), State.sourceOff_spec hw hb hk⟩

theorem faultSourceClear_site (x : Fin 16) (b : Fin 13) (s : State) :
    (s.wired x.val b.val = false → s.srcClears x.val b.val = true → hasBit (s.getF F.FLT_SSRC_SRC x.val) b.val = true →
      ∃ t, exec (.faultSourceClear (.site x b)) s = .next t ∧
        t.getF F.FLT_SSRC_SRC x.val = clearBit (s.getF F.FLT_SSRC_SRC x.val) b.val % 2 ^ 13 ∧
        (clearBit (s.getF F.FLT_SSRC_SRC x.val) b.val = 0 → t.getF F.FLT_SSRC_QUIETING x.val = 1 ∧ t.siteSafe x.val = true) ∧
        { t with reg := s.reg, sumac := s.sumac, evAt := s.evAt, out := s.out } = s) ∧
    (s.wired x.val b.val = false → s.srcClears x.val b.val = false → exec (.faultSourceClear (.site x b)) s = .next s) ∧
    (s.wired x.val b.val = true → ∃ t, exec (.faultSourceClear (.site x b)) s = .next t ∧ t.wired x.val b.val = false ∧
      { t with reg := s.reg, sumac := s.sumac, evAt := s.evAt, out := s.out } = s) := by
  have hx : x.val ≠ 16 := by omega
  refine ⟨fun hw hc hb => ?_, fun hw hc => ?_, fun hw => faultSourceClear_wired rfl hw (.inl hx) (by omega)⟩
  · rw [← State.srcs_site _ x.isLt] at hb ⊢
    obtain ⟨t, he, h⟩ := faultSourceClear_met (src := .site x b) rfl hw hc hb (by omega)
    have hwidth : (srcFld x.val).width = 13 := congrArg Fld.width (if_neg hx)
    refine ⟨t, he, ?_, fun hl => ⟨h.last hl, State.siteSafe_of_scopeHeld (h.held hl) (.inr rfl)⟩, h.only.frame⟩
    rw [← State.srcs_site _ x.isLt, h.srcs, hwidth]
  · exact (exec_faultSourceClear rfl hw).trans (congrArg Host.Outcome.next (if_neg (Bool.eq_false_iff.1 hc)))

theorem faultSourceClear_chip (b : Fin 7) (s : State) (hw : s.wired 16 b.val = false) (hc : s.srcClears 16 b.val = true)
    (hb : hasBit (s.getF F.FLT_STAT_CSRC 0) b.val = true) : ∃ t, exec (.faultSourceClear (.chip b)) s = .next t ∧
      t.getF F.FLT_STAT_CSRC 0 = clearBit (s.getF F.FLT_STAT_CSRC 0) b.val % 2 ^ 7 ∧
      (clearBit (s.getF F.FLT_STAT_CSRC 0) b.val = 0 → t.getF F.FLT_SSRC_QUIETING 16 = 1) ∧
      { t with reg := s.reg, sumac := s.sumac, evAt := s.evAt, out := s.out } = s := by
  obtain ⟨t, he, h⟩ := faultSourceClear_met (src := .chip b) rfl hw hc hb (by decide)
  exact ⟨t, he, h.srcs, h.last, h.only.frame⟩

theorem faultSourceClear_chip_wired (b : Fin 7) (s : State) (hw : s.wired 16 b.val = true) :
    (b.val ≠ 6 → ∃ t, exec (.faultSourceClear (.chip b)) s = .next t ∧ t.wired 16 b.val = false ∧
      { t with reg := s.reg, sumac := s.sumac, evAt := s.evAt, out := s.out } = s) ∧
    (b.val = 6 → exec (.faultSourceClear (.chip b)) s = .next s) := by
  refine ⟨fun hb => faultSourceClear_wired rfl hw (.inr hb) (by decide), fun hb => ?_⟩
  obtain rfl : b = 6 := Fin.ext hb
  refine (if_neg ?_).trans (congrArg Host.Outcome.next (if_neg (by decide : ¬ (false = true))))
  simp [srcAt]

/-- R387: REMOTE ends when no FAULT word has come. -/
theorem remoteExpire_spec (x : Fin 16) (s : State) (hw : s.wired x.val 8 = false) :
    (hasBit (s.getF F.FLT_SSRC_SRC x.val) 8 = true → ∃ t, exec (.remoteExpire x) s = .next t ∧
      t.getF F.FLT_SSRC_SRC x.val = clearBit (s.getF F.FLT_SSRC_SRC x.val) 8 % 2 ^ 13 ∧
      (clearBit (s.getF F.FLT_SSRC_SRC x.val) 8 = 0 → t.getF F.FLT_SSRC_QUIETING x.val = 1) ∧
      { t with reg := s.reg, sumac := s.sumac, evAt := s.evAt, out := s.out } = s) ∧
    (hasBit (s.getF F.FLT_SSRC_SRC x.val) 8 = false → exec (.remoteExpire x) s = .next s) := by
  rw [← State.srcs_site _ x.isLt]
  have hwidth : (srcFld x.val).width = 13 := congrArg Fld.width (if_neg (by omega))
  refine ⟨fun hb => ?_, fun hb => congrArg Host.Outcome.next (State.sourceOff_idle hw hb)⟩
  have h := State.sourceOff_spec hw hb (by omega)
  refine ⟨_, rfl, ?_, h.last, h.only.frame⟩
  rw [← State.srcs_site _ x.isLt, h.srcs, hwidth]

/-! ### Wire faults (R386) -/

/-- The record of a wire fault. -/
def State.wireRecorded (s : State) (k b : Nat) : State :=
  (s.setFs 0 [(F.FLT_STAT_WIREF, 1), (F.FLT_WIRE_SRC, b), (F.FLT_WIRE_CHIPSRC, if k = 16 then 1 else 0),
    (F.FLT_WIRE_SITE, if k = 16 then 0 else k)]).satF F.FLT_WIRE_CNT 0 1

/-- What the record shows, and goes on showing while sources change. -/
theorem FaultOnly.wireRecord (h : FaultOnly (s.wireRecorded k b) t) :
    t.getF F.FLT_STAT_WIREF 0 = 1 ∧ t.getF F.FLT_WIRE_SRC 0 = b % 2 ^ F.FLT_WIRE_SRC.width ∧
    t.getF F.FLT_WIRE_CHIPSRC 0 = (if k = 16 then 1 else 0) % 2 ^ F.FLT_WIRE_CHIPSRC.width ∧
    t.getF F.FLT_WIRE_SITE 0 = (if k = 16 then 0 else k) % 2 ^ F.FLT_WIRE_SITE.width ∧
    t.getF F.FLT_WIRE_CNT 0 = satAt F.FLT_WIRE_CNT.width (s.getF F.FLT_WIRE_CNT 0 + 1) := by
  have hu : s.wireRecorded k b = ((((s.setF F.FLT_STAT_WIREF 0 1).setF F.FLT_WIRE_SRC 0 b).setF F.FLT_WIRE_CHIPSRC 0
    (if k = 16 then 1 else 0)).setF F.FLT_WIRE_SITE 0 (if k = 16 then 0 else k)).satF F.FLT_WIRE_CNT 0 1 := rfl
  refine ⟨(h.fields _ 0 (by decide) (by decide)).trans ?_, (h.fields _ 0 (by decide) (by decide)).trans ?_,
    (h.fields _ 0 (by decide) (by decide)).trans ?_, (h.fields _ 0 (by decide) (by decide)).trans ?_,
    (h.fields _ 0 (by decide) (by decide)).trans ?_⟩ <;> rw [hu]
  · simp (disch := decide) only [State.satF, State.getF_setF_other, State.getF_setF_same]
    rfl
  · simp (disch := decide) only [State.satF, State.getF_setF_other, State.getF_setF_same]
  · simp (disch := decide) only [State.satF, State.getF_setF_other, State.getF_setF_same]
  · simp (disch := decide) only [State.satF, State.getF_setF_other, State.getF_setF_same]
  · rw [State.getF_satF_same]
    simp (disch := decide) only [State.getF_setF_other]

theorem State.wireRecorded_sameMems (s : State) (k b : Nat) : s.sameMems (s.wireRecorded k b) := ⟨rfl, rfl, rfl, rfl, rfl, rfl, rfl, rfl⟩

/-- Where a source's wires come to agree it counts as active. -/
theorem wireFault_active {src : FaultSrc} (hsrc : srcAt src = (k, b)) (hw : s.wired k b = false) :
    ∃ t, exec (.wireFault src) s = .next t ∧ t.wired k b = true ∧ t.reg = ((s.wireRecorded k b).sourceOn k b).reg ∧
      ((s.wireRecorded k b).sourceOn k b).sameMems t ∧ t.site = ((s.wireRecorded k b).sourceOn k b).site := by
  have hk : (srcAt src).1 = k := congrArg Prod.fst hsrc
  have hb : (srcAt src).2 = b := congrArg Prod.snd hsrc
  have hany (v : Bool) (l : List (Nat × Nat × Bool)) : ((k, b, v) :: l).any (fun w => w.1 == k && w.2.1 == b) = true := by simp
  subst hk hb
  refine ⟨_, if_neg (Bool.eq_false_iff.1 hw), hany _ _, ?_⟩
  split
  next h =>
    rw [h.1, h.2]
    exact ⟨rfl, ⟨rfl, rfl, rfl, rfl, rfl, rfl, rfl, rfl⟩, rfl⟩
  next => exact ⟨rfl, ⟨rfl, rfl, rfl, rfl, rfl, rfl, rfl, rfl⟩, rfl⟩

/-- What a wire fault records and leaves alone. -/
theorem wireFault_spec {src : FaultSrc} (hsrc : srcAt src = (k, b)) (hsb : SrcBit k b) (hw : s.wired k b = false) :
    ∃ t, exec (.wireFault src) s = .next t ∧
      t.getF F.FLT_STAT_WIREF 0 = 1 ∧ t.getF F.FLT_WIRE_SRC 0 = b % 2 ^ F.FLT_WIRE_SRC.width ∧
      t.getF F.FLT_WIRE_CHIPSRC 0 = (if k = 16 then 1 else 0) % 2 ^ F.FLT_WIRE_CHIPSRC.width ∧
      t.getF F.FLT_WIRE_SITE 0 = (if k = 16 then 0 else k) % 2 ^ F.FLT_WIRE_SITE.width ∧
      t.getF F.FLT_WIRE_CNT 0 = satAt F.FLT_WIRE_CNT.width (s.getF F.FLT_WIRE_CNT 0 + 1) ∧
      t.wired k b = true ∧ hasBit (t.srcs k) b = true ∧ s.sameMems t ∧ t.site = s.site := by
  obtain ⟨t, he, hwd, hreg, hmem, hsite⟩ := wireFault_active hsrc hw
  have h := (s.wireRecorded k b).sourceOn_spec hsb
  have hget (f : Fld) (i : Nat) : t.getF f i = ((s.wireRecorded k b).sourceOn k b).getF f i := congrArg (FMap.get · f i) hreg
  obtain ⟨h1, h2, h3, h4, h5⟩ := h.only.wireRecord
  refine ⟨t, he, (hget _ _).trans h1, (hget _ _).trans h2, (hget _ _).trans h3, (hget _ _).trans h4, (hget _ _).trans h5, hwd, ?_,
    ((s.wireRecorded_sameMems k b).trans h.only.sameMems).trans hmem, hsite.trans h.only.site⟩
  rw [State.srcs_eq, hget, ← State.srcs_eq]
  exact h.active

theorem wireFault_site (x : Fin 16) (b : Fin 13) (s : State) :
    (s.wired x.val b.val = false → ∃ t, exec (.wireFault (.site x b)) s = .next t ∧
      t.getF F.FLT_STAT_WIREF 0 = 1 ∧ t.getF F.FLT_WIRE_SRC 0 = b.val ∧ t.getF F.FLT_WIRE_CHIPSRC 0 = 0 ∧
      t.getF F.FLT_WIRE_SITE 0 = x.val ∧ t.getF F.FLT_WIRE_CNT 0 = satAt F.FLT_WIRE_CNT.width (s.getF F.FLT_WIRE_CNT 0 + 1) ∧
      t.wired x.val b.val = true ∧ hasBit (t.getF F.FLT_SSRC_SRC x.val) b.val = true ∧ s.sameMems t ∧ t.site = s.site) ∧
    (s.wired x.val b.val = true → exec (.wireFault (.site x b)) s = .next s) := by
  have hx : x.val ≠ 16 := by omega
  refine ⟨fun hw => ?_, fun hw => if_pos hw⟩
  obtain ⟨t, he, h1, h2, h3, h4, h5, h6, h7, h8⟩ := wireFault_spec (src := .site x b) rfl (.inr ⟨x.isLt, b.isLt⟩) hw
  rw [if_neg hx] at h3 h4
  rw [State.srcs_site _ x.isLt] at h7
  exact ⟨t, he, h1, h2.trans (Nat.mod_eq_of_lt (Nat.lt_trans b.isLt (by decide))), h3, h4.trans (Nat.mod_eq_of_lt x.isLt), h5, h6, h7, h8⟩

theorem wireFault_chip (b : Fin 7) (s : State) (hw : s.wired 16 b.val = false) : ∃ t, exec (.wireFault (.chip b)) s = .next t ∧
    t.getF F.FLT_STAT_WIREF 0 = 1 ∧ t.getF F.FLT_WIRE_SRC 0 = b.val ∧ t.getF F.FLT_WIRE_CHIPSRC 0 = 1 ∧
    t.wired 16 b.val = true ∧ hasBit (t.getF F.FLT_STAT_CSRC 0) b.val = true ∧ s.sameMems t ∧ t.site = s.site := by
  obtain ⟨t, he, h1, h2, h3, -, -, h6, h7, h8⟩ := wireFault_spec (src := .chip b) rfl (.inl ⟨rfl, b.isLt⟩) hw
  exact ⟨t, he, h1, h2.trans (Nat.mod_eq_of_lt (Nat.lt_trans b.isLt (by decide))), h3, h6, h7, h8⟩

end Sys2Proof.Machine
end

section
/-! SUPPORT. Quiet periods, recovery counts and CLEAR (R394 to R396, R426). -/

namespace Sys2Proof.Machine

variable {s t u : State} {k x b : Nat} {ids : List Nat}

/-! ### A latch, with its entry of the fault log -/

/-- Between `s` and `t` nothing changes but fields with numbers in `ids`, Sumac, the NVM with its own record, the record of host events, the
outputs, and the values drawn. -/
structure LatchOnly (ids : List Nat) (s t : State) : Prop where
  frame : { t with
    reg := s.reg, sumac := s.sumac, evAt := s.evAt, out := s.out, boot := s.boot, nvm := s.nvm, wear := s.wear, free := s.free } = s
  fields : ∀ (g : Fld) (j : Nat), g.id ∉ ids → j < 1048576 → t.getF g j = s.getF g j

theorem LatchOnly.refl (ids : List Nat) (s : State) : LatchOnly ids s s := ⟨rfl, fun _ _ _ _ => rfl⟩

theorem LatchOnly.setF (h : LatchOnly ids s t) {f : Fld} {i v : Nat} (hf : f.id ∈ ids) (hi : i < 1048576) :
    LatchOnly ids s (t.setF f i v) := by
  refine ⟨h.frame, fun g j hg hj => ?_⟩
  have hne : g.id ≠ f.id := fun e => hg (e ▸ hf)
  exact (State.getF_setF_other (Fld.key_ne hne hj hi)).trans (h.fields g j hg hj)

theorem LatchOnly.put (h : LatchOnly ids s t) {a : SumacSt} {c : BootSt} : LatchOnly ids s { t with sumac := a, boot := c } :=
  ⟨h.frame, h.fields⟩

theorem LatchOnly.shown {v : List Nat} (h : LatchOnly ids s t) (g : SumacOnly v t u) (hv : v ⊆ ids) : LatchOnly ids s u :=
  ⟨Eq.trans (congrArg (fun a : State => { a with
      reg := s.reg, sumac := s.sumac, evAt := s.evAt, out := s.out, boot := s.boot, nvm := s.nvm, wear := s.wear, free := s.free })
      g.frame) h.frame,
    fun f j hf hj => (g.fields f j (fun hm => hf (hv hm)) hj).trans (h.fields f j hf hj)⟩

/-- The numbers of the fields of the fault log and of wear. -/
def logIds : List Nat := [F.NVM_WEAR_MAX, F.NVM_FLHEAD_HEAD, F.NVM_FLCNT_CNT, F.NVM_FLDROP_CNT].map Fld.id

theorem LatchOnly.nvm (h : LatchOnly ids s t) (g : NvmOnly logKeys t u) (hl : logIds ⊆ ids) : LatchOnly ids s u := by
  refine ⟨Eq.trans (congrArg (fun a : State => { a with
      reg := s.reg, sumac := s.sumac, evAt := s.evAt, out := s.out, boot := s.boot, nvm := s.nvm, wear := s.wear, free := s.free })
      g.1) h.frame, fun f j hf hj => (g.2.getF fun hm => ?_).trans (h.fields f j hf hj)⟩
  obtain ⟨e, he, hkey⟩ := List.mem_map.1 hm
  have hid : f.id ≠ e.id := fun hid => hf (hl (hid ▸ List.mem_map_of_mem he))
  exact Fld.key_ne hid hj (by decide : (0 : Nat) < 1048576) hkey.symm

theorem LatchOnly.units (h : LatchOnly ids s t) : t.bb = s.bb ∧ t.dram = s.dram ∧ t.site = s.site ∧ t.eng = s.eng :=
  ⟨(congrArg State.bb h.frame :), (congrArg State.dram h.frame :), (congrArg State.site h.frame :), (congrArg State.eng h.frame :)⟩

/-- The fields that a latch writes. -/
def latchIds : List Nat := F.FLT_SSRC_LATCHED.id :: (shownIds ++ logIds)

theorem State.latch_only (s : State) (hk : k ≤ 16) : LatchOnly latchIds s (s.latch k) := by
  have h1 : LatchOnly latchIds s (s.setF F.FLT_SSRC_LATCHED k 1) := (LatchOnly.refl _ s).setF (by decide) (by omega)
  exact (h1.shown (State.sumacShow_shown _).only (by decide)).nvm ((NvmOnly.refl _ _).faultLog (fun _ h => h) 1 k) (by decide)

theorem NvmOnly.sumac {w : List Nat} (h : NvmOnly w s t) : t.sumac = s.sumac := (congrArg State.sumac h.1 :)

/-- A scope that latches is held. -/
theorem State.latch_latched (s : State) (hk : k ≤ 16) : (s.latch k).getF F.FLT_SSRC_LATCHED k = 1 := by
  have hl : NvmOnly logKeys (s.setF F.FLT_SSRC_LATCHED k 1).sumacShow (s.latch k) := (NvmOnly.refl _ _).faultLog (fun _ h => h) 1 k
  have hkey : F.FLT_SSRC_LATCHED.key k ∉ logKeys := fun hm => by
    obtain ⟨e, he, hkey⟩ := List.mem_map.1 hm
    have hid : F.FLT_SSRC_LATCHED.id ≠ e.id := fun hid =>
      (by decide : F.FLT_SSRC_LATCHED.id ∉ logIds) (hid ▸ List.mem_map_of_mem he)
    exact Fld.key_ne hid (by omega : k < 1048576) (by decide : (0 : Nat) < 1048576) hkey.symm
  rw [hl.2.getF hkey, (State.sumacShow_scopeKept _ hk).latched]
  exact State.getF_setF_same ..

theorem State.latch_sumac (s : State) (k : Nat) : (s.latch k).sumac.rest s.sumac := by
  have hl : NvmOnly logKeys (s.setF F.FLT_SSRC_LATCHED k 1).sumacShow (s.latch k) := (NvmOnly.refl _ _).faultLog (fun _ h => h) 1 k
  rw [hl.sumac]
  exact (State.sumacShow_shown (s.setF F.FLT_SSRC_LATCHED k 1)).sumac

/-! ### The end of a quiet period (R394, R395) -/

theorem State.flag_eq_false {f : Fld} {i : Nat} : s.flag f i = false ↔ s.getF f i = 0 := by simp [flag]

/-- The fields that the end of a quiet period writes, beside those of a latch. -/
def quietIds : List Nat := F.FLT_SSRC_QUIETING.id :: latchIds

/-- The quiet period of scope `k` is over, and the registers follow. -/
theorem State.quietOver (s : State) (hk : k ≤ 16) :
    SumacOnly (F.FLT_SSRC_QUIETING.id :: shownIds) s (s.setF F.FLT_SSRC_QUIETING k 0).sumacShow ∧
    (s.setF F.FLT_SSRC_QUIETING k 0).sumacShow.getF F.FLT_SSRC_QUIETING k = 0 ∧
    (s.setF F.FLT_SSRC_QUIETING k 0).sumacShow.sumac.rest s.sumac :=
  ⟨((SumacOnly.refl _ s).setF (f := F.FLT_SSRC_QUIETING) (by decide) (by omega)).trans (State.sumacShow_shown _).only (by decide),
    (State.sumacShow_scopeKept _ hk).quieting.trans (State.getF_setF_same ..), (State.sumacShow_shown _).sumac⟩

theorem quietEnd_increment (k : Fin 17) (hq : s.flag F.FLT_SSRC_QUIETING k.val = true) (hl : s.flag F.FLT_SSRC_LATCHED k.val = false)
    (hu : s.recUsed k.val < s.getF F.FLT_RLIM_RLIM 0) : ∃ t, exec (.quietEnd k) s = .next t ∧
      t.getF F.FLT_SSRC_QUIETING k.val = 0 ∧ hasBit t.sumac.storing k.val = true ∧ hasBit t.sumac.exiting k.val = true ∧
      t.scopeHeld k.val = true ∧ { t with reg := s.reg, sumac := s.sumac, evAt := s.evAt, out := s.out } = s := by
  have hk : k.val ≤ 16 := by omega
  have hql : ¬ (s.flag F.FLT_SSRC_QUIETING k.val && s.flag F.FLT_SSRC_LATCHED k.val) = true := by rw [hl, Bool.and_false]; decide
  refine ⟨_, (if_neg hql).trans ((if_pos hq).trans (if_pos hu)), ?_⟩
  generalize hv : ({ s with sumac := { s.changeDue with
    exiting := setBit s.sumac.exiting k.val, storing := setBit s.sumac.storing k.val } } : State) = v
  obtain ⟨honly, hzero, hrest⟩ := v.quietOver hk
  have hve : v.sumac.exiting = setBit s.sumac.exiting k.val := by rw [← hv]
  have hvs : v.sumac.storing = setBit s.sumac.storing k.val := by rw [← hv]
  have he := (congrArg SumacSt.exiting hrest :).trans hve
  have hex : hasBit (v.setF F.FLT_SSRC_QUIETING k.val 0).sumacShow.sumac.exiting k.val = true :=
    he ▸ hasBit_setBit s.sumac.exiting k.val
  have hst : hasBit (v.setF F.FLT_SSRC_QUIETING k.val 0).sumacShow.sumac.storing k.val = true :=
    (congrArg SumacSt.storing hrest :).trans hvs ▸ hasBit_setBit s.sumac.storing k.val
  have h1 : SumacOnly (F.FLT_SSRC_QUIETING.id :: shownIds) s v := by
    rw [← hv]
    exact (SumacOnly.refl _ s).put
  refine ⟨hzero, hst, hex, ?_, (h1.trans honly fun _ h => h).frame⟩
  simp only [State.scopeHeld, hex, Bool.or_true]

theorem quietEnd_latches (k : Fin 17) (hq : s.flag F.FLT_SSRC_QUIETING k.val = true) (hl : s.flag F.FLT_SSRC_LATCHED k.val = false)
    (hu : s.getF F.FLT_RLIM_RLIM 0 ≤ s.recUsed k.val) : ∃ t, exec (.quietEnd k) s = .next t ∧
      t.getF F.FLT_SSRC_QUIETING k.val = 0 ∧ t.getF F.FLT_SSRC_LATCHED k.val = 1 ∧ t.scopeHeld k.val = true ∧ t.bb = s.bb ∧
      t.dram = s.dram ∧ t.site = s.site ∧ t.eng = s.eng := by
  have hk : k.val ≤ 16 := by omega
  have hql : ¬ (s.flag F.FLT_SSRC_QUIETING k.val && s.flag F.FLT_SSRC_LATCHED k.val) = true := by rw [hl, Bool.and_false]; decide
  refine ⟨_, (if_neg hql).trans ((if_pos hq).trans (if_neg (Nat.not_lt.2 hu))), ?_⟩
  have h := (s.setF F.FLT_SSRC_QUIETING k.val 0).latch_only hk
  have hlat := (s.setF F.FLT_SSRC_QUIETING k.val 0).latch_latched hk
  exact ⟨(h.fields _ _ (by decide) (by omega)).trans (State.getF_setF_same ..), hlat, State.scopeHeld_of_latched hlat, h.units⟩

theorem quietEnd_latched (k : Fin 17) (hq : s.flag F.FLT_SSRC_QUIETING k.val = true) (hl : s.flag F.FLT_SSRC_LATCHED k.val = true) :
    ∃ t, exec (.quietEnd k) s = .next t ∧ t.getF F.FLT_SSRC_QUIETING k.val = 0 ∧
      t.getF F.FLT_SSRC_LATCHED k.val = s.getF F.FLT_SSRC_LATCHED k.val ∧
      { t with reg := s.reg, sumac := s.sumac, evAt := s.evAt, out := s.out } = s := by
  have hql : (s.flag F.FLT_SSRC_QUIETING k.val && s.flag F.FLT_SSRC_LATCHED k.val) = true := by rw [hq, hl]; rfl
  obtain ⟨honly, hzero, -⟩ := s.quietOver (k := k.val) (by omega)
  exact ⟨_, if_pos hql, hzero, honly.fields _ _ (by decide) (by omega), honly.frame⟩

/-- R402: the RESET of a site in this cycle has stopped the quiet period, and the count has reached its limit. -/
theorem quietEnd_reset (k : Fin 17) (hq : s.flag F.FLT_SSRC_QUIETING k.val = false) (hr : s.resetCut k.val = true)
    (hl : s.flag F.FLT_SSRC_LATCHED k.val = false) (hu : s.getF F.FLT_RLIM_RLIM 0 ≤ s.recUsed k.val) :
    ∃ t, exec (.quietEnd k) s = .next t ∧ t.getF F.FLT_SSRC_LATCHED k.val = 1 ∧ t.bb = s.bb ∧ t.dram = s.dram ∧ t.site = s.site ∧
      t.eng = s.eng := by
  have hk : k.val ≤ 16 := by omega
  have hc : (s.resetCut k.val && !s.flag F.FLT_SSRC_LATCHED k.val && decide (s.getF F.FLT_RLIM_RLIM 0 ≤ s.recUsed k.val)) = true := by
    rw [hr, hl, decide_eq_true hu]
    rfl
  have hql : ¬ (s.flag F.FLT_SSRC_QUIETING k.val && s.flag F.FLT_SSRC_LATCHED k.val) = true := by rw [hq, Bool.false_and]; decide
  exact ⟨_, (if_neg hql).trans ((if_neg (Bool.eq_false_iff.1 hq)).trans (if_pos hc)), s.latch_latched hk, (s.latch_only hk).units⟩

theorem quietEnd_idle (k : Fin 17) (hq : s.flag F.FLT_SSRC_QUIETING k.val = false) (h : s.resetCut k.val = false ∨
    s.flag F.FLT_SSRC_LATCHED k.val = true ∨ s.recUsed k.val < s.getF F.FLT_RLIM_RLIM 0) : exec (.quietEnd k) s = .next s := by
  have hql : ¬ (s.flag F.FLT_SSRC_QUIETING k.val && s.flag F.FLT_SSRC_LATCHED k.val) = true := by rw [hq, Bool.false_and]; decide
  refine (if_neg hql).trans ((if_neg (Bool.eq_false_iff.1 hq)).trans (if_neg ?_))
  obtain h | h | h := h
  · simp [h]
  · simp [h]
  · simp [Nat.not_le.2 h]

/-! ### The writes of a change are over (R395, R426) -/

/-- The fields that a change of a count writes. -/
def changeKeys (k : Nat) (base : Bool) : List Nat :=
  [F.NVM_WEAR_MAX.key 0, (if base then F.FLT_RBASE_RBASE else F.FLT_RCNT_RCNT).key k]

theorem NvmOnly.nvmRecord {w : List Nat} (h : NvmOnly w s t) (hk : F.NVM_WEAR_MAX.key 0 ∈ w) (kind a n : Nat) (l : List Nat) :
    NvmOnly w s (t.nvmRecord kind a n l) := h.nvmPut hk a _

theorem NvmOnly.putBoot {w : List Nat} (h : NvmOnly w s t) {c : BootSt} : NvmOnly w s { t with boot := c } := h

theorem State.recChange_only (s : State) (k : Nat) (base : Bool) (val : Nat) : NvmOnly (changeKeys k base) s (s.recChange k base val) := by
  have hw : F.NVM_WEAR_MAX.key 0 ∈ changeKeys k base := List.mem_cons_self
  have h1 : NvmOnly (changeKeys k base) s (s.putIntent ⟨s.boot.recSeq + 1, k, base, val⟩) := (NvmOnly.refl _ s).putBoot.nvmRecord hw _ _ _ _
  have h2 : NvmOnly (changeKeys k base) s ((s.putIntent ⟨s.boot.recSeq + 1, k, base, val⟩).recSet ⟨s.boot.recSeq + 1, k, base, val⟩) :=
    h1.setF (List.mem_cons_of_mem _ List.mem_cons_self)
  exact h2.putBoot.nvmRecord hw _ _ _ _

theorem State.getF_recChange (s : State) {k : Nat} (hk : k < 1048576) (base : Bool) (val : Nat) :
    (s.recChange k base val).getF (if base then F.FLT_RBASE_RBASE else F.FLT_RCNT_RCNT) k = val % 4294967296 := by
  have hsnap (u : State) (p : RecSnap) : NvmOnly [F.NVM_WEAR_MAX.key 0] u (u.putSnap p) :=
    (NvmOnly.refl _ u).putBoot.nvmRecord List.mem_cons_self _ _ _ _
  unfold recChange
  extract_lets i a
  have ha : a.getF (if base then F.FLT_RBASE_RBASE else F.FLT_RCNT_RCNT) k = val % 4294967296 := by
    have hwidth : (if base then F.FLT_RBASE_RBASE else F.FLT_RCNT_RCNT).width = 32 := by split <;> rfl
    have hset : a.getF (if base then F.FLT_RBASE_RBASE else F.FLT_RCNT_RCNT) k =
        val % 2 ^ (if base then F.FLT_RBASE_RBASE else F.FLT_RCNT_RCNT).width := State.getF_setF_same ..
    rw [hset, hwidth]
    rfl
  rw [(hsnap a _).2.getF ?_, ha]
  rw [List.mem_singleton]
  split <;> exact Fld.key_ne (by decide) hk (by decide)

theorem State.nvmRecord_boot (s : State) (kind a n : Nat) (l : List Nat) : (s.nvmRecord kind a n l).boot = s.boot := by
  unfold nvmRecord nvmPut
  dsimp only
  split <;> rfl

/-- The record of intents after a change. -/
theorem State.recChange_boot (s : State) (k : Nat) (base : Bool) (val : Nat) :
    (s.recChange k base val).boot.recSeq = s.boot.recSeq + 1 ∧
    Tbl.get (fun _ => none) (s.recChange k base val).boot.intents ((s.boot.recSeq + 1) % 8) = some ⟨s.boot.recSeq + 1, k, base, val⟩ := by
  unfold recChange
  extract_lets i a
  have ha : a.boot = { s.boot with recSeq := i.seq, intents := Tbl.set (fun _ => none) s.boot.intents (i.seq % 8) (some i) } :=
    State.nvmRecord_boot ..
  have hb : (a.putSnap (a.snapNow i.seq)).boot.recSeq = a.boot.recSeq ∧ (a.putSnap (a.snapNow i.seq)).boot.intents = a.boot.intents := by
    unfold putSnap
    rw [State.nvmRecord_boot]
    exact ⟨rfl, rfl⟩
  rw [hb.1, hb.2, ha]
  exact ⟨rfl, Tbl.get_set_same (fun _ : Nat => (none : Option RecIntent)) s.boot.intents ((s.boot.recSeq + 1) % 8) (some i)⟩

/-- What a failed change writes. -/
def failIds : List Nat := F.FLT_STAT_NVMFAIL.id :: latchIds

/-- A failed change latches its scope and shows it; counts stay. -/
theorem State.recFail_spec (s : State) (hk : k ≤ 16) : (s.recFail k).getF F.FLT_STAT_NVMFAIL 0 = 1 ∧
    (s.recFail k).getF F.FLT_SSRC_LATCHED k = 1 ∧ LatchOnly failIds s (s.recFail k) ∧ (s.recFail k).sumac.rest s.sumac := by
  unfold recFail
  have h1 : NvmOnly logKeys s (s.intentCut (s.boot.recSeq + 1)) := (NvmOnly.refl _ s).putBoot.nvmCut (by decide) _
  revert h1
  generalize s.intentCut (s.boot.recSeq + 1) = v
  intro h1
  have h2 : LatchOnly failIds s (v.setF F.FLT_STAT_NVMFAIL 0 1) :=
    ((LatchOnly.refl _ s).nvm h1 (by decide)).setF (by decide) (by decide)
  have h3 : NvmOnly logKeys (v.setF F.FLT_STAT_NVMFAIL 0 1) ((v.setF F.FLT_STAT_NVMFAIL 0 1).faultLog 5 k) :=
    (NvmOnly.refl _ _).faultLog (fun _ h => h) 5 k
  have hs : ((v.setF F.FLT_STAT_NVMFAIL 0 1).faultLog 5 k).sumac = s.sumac := h3.sumac.trans h1.sumac
  have hn : ((v.setF F.FLT_STAT_NVMFAIL 0 1).faultLog 5 k).getF F.FLT_STAT_NVMFAIL 0 = 1 :=
    (h3.2.getF (by decide)).trans (State.getF_setF_same ..)
  have h4 : LatchOnly failIds s ((v.setF F.FLT_STAT_NVMFAIL 0 1).faultLog 5 k) := h2.nvm h3 (by decide)
  revert hs hn h4
  generalize (v.setF F.FLT_STAT_NVMFAIL 0 1).faultLog 5 k = w
  intro hs hn h4
  have h5 := w.latch_only hk
  refine ⟨(h5.fields _ _ (by decide) (by decide)).trans hn, w.latch_latched hk, ⟨?_, fun f j hf hj => ?_⟩, hs ▸ w.latch_sumac k⟩
  · exact Eq.trans (congrArg (fun a : State => { a with
      reg := s.reg, sumac := s.sumac, evAt := s.evAt, out := s.out, boot := s.boot, nvm := s.nvm, wear := s.wear, free := s.free })
      h5.frame) h4.frame
  · exact (h5.fields f j (fun hm => hf (List.mem_cons_of_mem _ hm)) hj).trans (h4.fields f j hf hj)

/-- The writes of an increment are over. -/
def State.storeOver (s : State) (k : Nat) : State :=
  { s with sumac := { s.sumac with storing := clearBit s.sumac.storing k, exiting := clearBit s.sumac.exiting k } }

theorem recoveryWriteDone_stored (k : Fin 17) (h : hasBit s.sumac.storing k.val = true) : ∃ t, exec (.recoveryWriteDone k true) s = .next t ∧
    hasBit t.sumac.storing k.val = false ∧ hasBit t.sumac.exiting k.val = false ∧
    t.getF F.FLT_RCNT_RCNT k.val = (s.getF F.FLT_RCNT_RCNT k.val + 1) % 4294967296 ∧ t.boot.recSeq = s.boot.recSeq + 1 ∧
    Tbl.get (fun _ => none) t.boot.intents ((s.boot.recSeq + 1) % 8) =
      some ⟨s.boot.recSeq + 1, k.val, false, s.getF F.FLT_RCNT_RCNT k.val + 1⟩ ∧ t.bb = s.bb ∧ t.dram = s.dram ∧
    t.site = s.site ∧ t.eng = s.eng := by
  refine ⟨((s.storeOver k.val).recChange k.val false (s.getF F.FLT_RCNT_RCNT k.val + 1)).sumacShow, if_pos h, ?_⟩
  have hk : k.val < 1048576 := by omega
  have h1 := (s.storeOver k.val).recChange_only k.val false (s.getF F.FLT_RCNT_RCNT k.val + 1)
  have hcnt := (s.storeOver k.val).getF_recChange hk false (s.getF F.FLT_RCNT_RCNT k.val + 1)
  obtain ⟨hseq, hint⟩ := (s.storeOver k.val).recChange_boot k.val false (s.getF F.FLT_RCNT_RCNT k.val + 1)
  revert h1 hcnt hseq hint
  generalize (s.storeOver k.val).recChange k.val false (s.getF F.FLT_RCNT_RCNT k.val + 1) = v
  intro h1 hcnt hseq hint
  have hshow := v.sumacShow_shown
  have hb : v.sumacShow.boot = v.boot := (congrArg State.boot hshow.only.frame :)
  have hs : v.sumac = (s.storeOver k.val).sumac := h1.sumac
  have hst : v.sumacShow.sumac.storing = clearBit s.sumac.storing k.val :=
    (congrArg SumacSt.storing hshow.sumac :).trans (congrArg SumacSt.storing hs)
  have hex : v.sumacShow.sumac.exiting = clearBit s.sumac.exiting k.val :=
    (congrArg SumacSt.exiting hshow.sumac :).trans (congrArg SumacSt.exiting hs)
  refine ⟨hst ▸ hasBit_clearBit _ _, hex ▸ hasBit_clearBit _ _, (hshow.only.fields _ _ (by decide) hk).trans hcnt, hb ▸ hseq, hb ▸ hint,
    (congrArg State.bb hshow.only.frame :).trans (congrArg State.bb h1.1 :),
    (congrArg State.dram hshow.only.frame :).trans (congrArg State.dram h1.1 :),
    (congrArg State.site hshow.only.frame :).trans (congrArg State.site h1.1 :),
    (congrArg State.eng hshow.only.frame :).trans (congrArg State.eng h1.1 :)⟩

theorem recoveryWriteDone_storeFailed (k : Fin 17) (h : hasBit s.sumac.storing k.val = true) :
    ∃ t, exec (.recoveryWriteDone k false) s = .next t ∧ hasBit t.sumac.storing k.val = false ∧
      t.getF F.FLT_STAT_NVMFAIL 0 = 1 ∧ t.getF F.FLT_SSRC_LATCHED k.val = 1 ∧
      t.getF F.FLT_RCNT_RCNT k.val = s.getF F.FLT_RCNT_RCNT k.val ∧ t.bb = s.bb ∧ t.dram = s.dram ∧ t.site = s.site := by
  obtain ⟨hn, hl, honly, hrest⟩ := (s.storeOver k.val).recFail_spec (k := k.val) (by omega)
  obtain ⟨hbb, hdram, hsite, -⟩ := honly.units
  exact ⟨_, if_pos h, (congrArg SumacSt.storing hrest :) ▸ hasBit_clearBit _ _, hn, hl, honly.fields _ _ (by decide) (by omega), hbb, hdram,
    hsite⟩

/-- The writes of a CLEAR are over. -/
def State.clearOver (s : State) (k : Nat) : State := { s with sumac := { s.sumac with clearing := clearBit s.sumac.clearing k } }

theorem recoveryWriteDone_cleared (k : Fin 17) (hs : hasBit s.sumac.storing k.val = false) (h : hasBit s.sumac.clearing k.val = true) :
    ∃ t, exec (.recoveryWriteDone k true) s = .next t ∧ hasBit t.sumac.clearing k.val = false ∧
      t.getF F.FLT_RBASE_RBASE k.val = Tbl.get (fun _ => 0) s.sumac.newBase k.val % 4294967296 ∧
      t.getF F.FLT_RCNT_RCNT k.val = s.getF F.FLT_RCNT_RCNT k.val := by
  refine ⟨(s.clearOver k.val).recChange k.val true (Tbl.get (fun _ => 0) s.sumac.newBase k.val),
    (if_neg (Bool.eq_false_iff.1 hs)).trans (if_pos h), ?_⟩
  have hk : k.val < 1048576 := by omega
  have h1 := (s.clearOver k.val).recChange_only k.val true (Tbl.get (fun _ => 0) s.sumac.newBase k.val)
  refine ⟨(congrArg SumacSt.clearing h1.sumac :) ▸ hasBit_clearBit _ _, State.getF_recChange _ hk true _, h1.2.getF ?_⟩
  simpa [changeKeys] using ⟨Fld.key_ne (by decide) hk (by decide), Fld.key_ne (f := F.FLT_RCNT_RCNT) (g := F.FLT_RBASE_RBASE) (by decide) hk hk⟩

theorem recoveryWriteDone_clearFailed (k : Fin 17) (hs : hasBit s.sumac.storing k.val = false) (h : hasBit s.sumac.clearing k.val = true) :
    ∃ t, exec (.recoveryWriteDone k false) s = .next t ∧ hasBit t.sumac.clearing k.val = false ∧
      t.getF F.FLT_STAT_NVMFAIL 0 = 1 ∧ t.getF F.FLT_SSRC_LATCHED k.val = 1 ∧
      t.getF F.FLT_RBASE_RBASE k.val = s.getF F.FLT_RBASE_RBASE k.val := by
  obtain ⟨hn, hl, honly, hrest⟩ := (s.clearOver k.val).recFail_spec (k := k.val) (by omega)
  exact ⟨_, (if_neg (Bool.eq_false_iff.1 hs)).trans (if_pos h), (congrArg SumacSt.clearing hrest :) ▸ hasBit_clearBit _ _, hn, hl,
    honly.fields _ _ (by decide) (by omega)⟩

theorem recoveryWriteDone_idle (k : Fin 17) (hs : hasBit s.sumac.storing k.val = false) (h : hasBit s.sumac.clearing k.val = false)
    (okd : Bool) : exec (.recoveryWriteDone k okd) s = .next s :=
  (if_neg (Bool.eq_false_iff.1 hs)).trans (if_neg (Bool.eq_false_iff.1 h))

end Sys2Proof.Machine
end

section
/-! SUPPORT. CLEAR, FAULT words, FLT_IN and the interlock (R391, R393, R396, R398 to R400). -/

namespace Sys2Proof.Machine

variable {s t u : State} {k x b : Nat} {ids : List Nat}

/-! ### CLEAR (R395, R396) -/

/-- Does the function's CLEAR of scope `k` act? -/
def State.clearsScope (s : State) (fn : Fn) (k : Nat) : Bool :=
  (if k = 16 then fn == Fn.pf0 else s.fnSite fn k) && !hasBit s.sumac.clearing k

/-- The change of RBASE is due. -/
def State.clearDue (s : State) (k : Nat) : State :=
  { s with sumac := { s.changeDue with
    clearing := setBit s.sumac.clearing k, newBase := Tbl.set (fun _ => 0) s.sumac.newBase k (s.getF F.FLT_RCNT_RCNT k) } }

/-- The scope leaves LATCHED, without a quiet period unless a source of this cycle needs one. -/
def State.unlatched (s : State) (k : Nat) : State :=
  ((if s.srcs k = 0 ∧ s.justOn k = false then (s.clearDue k).setF F.FLT_SSRC_QUIETING k 0 else s.clearDue k).setF
    F.FLT_SSRC_LATCHED k 0).sumacShow

theorem exec_fltClear (fn : Fn) (k : Fin 17) (h : s.clearsScope fn k.val = true) : exec (.fltClear fn k) s =
    .next (if s.flag F.FLT_SSRC_LATCHED k.val then s.unlatched k.val else s.clearDue k.val) := if_pos h

theorem exec_fltClear_ignored (fn : Fn) (k : Fin 17) (h : s.clearsScope fn k.val = false) : exec (.fltClear fn k) s = .next s :=
  if_neg (Bool.eq_false_iff.1 h)

/-- The fields that a CLEAR writes. -/
def clearIds : List Nat := F.FLT_SSRC_LATCHED.id :: F.FLT_SSRC_QUIETING.id :: shownIds

theorem State.clearDue_only (s : State) (k : Nat) : SumacOnly clearIds s (s.clearDue k) := (SumacOnly.refl _ s).put

theorem State.unlatched_spec (s : State) (hk : k ≤ 16) : SumacOnly clearIds s (s.unlatched k) ∧
    (s.unlatched k).getF F.FLT_SSRC_LATCHED k = 0 ∧ (s.unlatched k).sumac.rest (s.clearDue k).sumac := by
  have hk' : k < 1048576 := by omega
  unfold unlatched
  have h1 := s.clearDue_only k
  have h2 : SumacOnly clearIds s
      (if s.srcs k = 0 ∧ s.justOn k = false then (s.clearDue k).setF F.FLT_SSRC_QUIETING k 0 else s.clearDue k) :=
    (h1.setF (f := F.FLT_SSRC_QUIETING) (by decide) hk').ite h1
  have hs : (if s.srcs k = 0 ∧ s.justOn k = false then (s.clearDue k).setF F.FLT_SSRC_QUIETING k 0 else s.clearDue k).sumac =
      (s.clearDue k).sumac := by split <;> rfl
  revert h2 hs
  generalize (if s.srcs k = 0 ∧ s.justOn k = false then (s.clearDue k).setF F.FLT_SSRC_QUIETING k 0 else s.clearDue k) = v
  intro h2 hs
  have hshow := State.sumacShow_shown (v.setF F.FLT_SSRC_LATCHED k 0)
  refine ⟨(h2.setF (by decide) hk').trans hshow.only (by decide),
    (State.sumacShow_scopeKept _ hk).latched.trans (State.getF_setF_same ..), ?_⟩
  rw [← hs]
  exact hshow.sumac

theorem State.clearsScope_of_owner {fn : Fn} {k : Fin 17}
    (ho : fn = .pf0 ∧ k.val = 16 ∨ (∃ n : Fin 16, fn = .vf n ∧ k.val = n.val ∧ s.vfLive fn = true))
    (hc : hasBit s.sumac.clearing k.val = false) : s.clearsScope fn k.val = true := by
  unfold clearsScope
  rw [hc]
  obtain ⟨rfl, hk⟩ | ⟨n, rfl, hk, hl⟩ := ho
  · rw [if_pos hk]
    rfl
  · rw [if_neg (by omega)]
    simp [fnSite, fnIsSite, hk, hl]

theorem State.clearsScope_of_busy {fn : Fn} (hc : hasBit s.sumac.clearing k = true) : s.clearsScope fn k = false := by
  unfold clearsScope
  rw [hc, Bool.not_true, Bool.and_false]

theorem State.clearsScope_of_other {fn : Fn} {k : Fin 17} (h : fn = .pf0 ∧ k.val ≠ 16 ∨ ∃ n : Fin 16, fn = .vf n ∧ k.val ≠ n.val) :
    s.clearsScope fn k.val = false := by
  unfold clearsScope
  obtain ⟨rfl, hk⟩ | ⟨n, rfl, hk⟩ := h
  · rw [if_neg hk]
    rfl
  · split
    · rfl
    · simp [fnSite, fnIsSite, Ne.symm hk]

theorem fltClear_acts (fn : Fn) (k : Fin 17) (h : s.clearsScope fn k.val = true) : ∃ t, exec (.fltClear fn k) s = .next t ∧
    Tbl.get (fun _ => 0) t.sumac.newBase k.val = s.getF F.FLT_RCNT_RCNT k.val ∧
    t.getF F.FLT_RBASE_RBASE k.val = s.getF F.FLT_RBASE_RBASE k.val ∧ t.getF F.FLT_SSRC_LATCHED k.val = 0 ∧
    hasBit t.sumac.clearing k.val = true ∧ t.getF F.FLT_SSRC_STK k.val = s.getF F.FLT_SSRC_STK k.val ∧ s.sameMems t ∧
    t.eng = s.eng ∧ t.chan = s.chan ∧ { t with reg := s.reg, sumac := s.sumac, evAt := s.evAt, out := s.out } = s := by
  have hk : k.val < 1048576 := by omega
  refine ⟨_, exec_fltClear fn k h, ?_⟩
  have hkey : SumacOnly clearIds s (if s.flag F.FLT_SSRC_LATCHED k.val then s.unlatched k.val else s.clearDue k.val) ∧
      (if s.flag F.FLT_SSRC_LATCHED k.val then s.unlatched k.val else s.clearDue k.val).getF F.FLT_SSRC_LATCHED k.val = 0 ∧
      (if s.flag F.FLT_SSRC_LATCHED k.val then s.unlatched k.val else s.clearDue k.val).sumac.rest (s.clearDue k.val).sumac := by
    by_cases hl : s.flag F.FLT_SSRC_LATCHED k.val = true
    · rw [if_pos hl]
      exact s.unlatched_spec (by omega)
    · rw [if_neg hl]
      exact ⟨s.clearDue_only k.val, State.flag_eq_false.1 (Bool.eq_false_iff.2 hl), rfl⟩
  revert hkey
  generalize (if s.flag F.FLT_SSRC_LATCHED k.val then s.unlatched k.val else s.clearDue k.val) = v
  rintro ⟨honly, hl, hrest⟩
  have hn : v.sumac.newBase = Tbl.set (fun _ => 0) s.sumac.newBase k.val (s.getF F.FLT_RCNT_RCNT k.val) :=
    (congrArg SumacSt.newBase hrest :)
  have hc : v.sumac.clearing = setBit s.sumac.clearing k.val := (congrArg SumacSt.clearing hrest :)
  refine ⟨?_, honly.fields _ _ (by decide) hk, hl, hc ▸ hasBit_setBit _ _, honly.fields _ _ (by decide) hk, honly.sameMems,
    (congrArg State.eng honly.frame :), (congrArg State.chan honly.frame :), honly.frame⟩
  rw [hn, Tbl.get_set_same]

/-! ### FAULT words are repeated (R391) -/

theorem Sent.treeAsleep (h : Sent s t) : t.treeAsleep = s.treeAsleep :=
  (congrArg (fun u : State => u.treeAsleep) h.frame :)

theorem Sent.faultWord (h : Sent s t) (ha : s.treeAsleep = false) : Sent s (t.faultWord x) := by
  have hf (w : Nat) : t.flashSend w = t.flashTree none w := if_neg (by
    rw [h.treeAsleep, ha]
    decide)
  unfold State.faultWord
  split
  · exact h
  · rw [hf]
    exact h.flashTree

theorem State.faultWord_sends (ha : s.treeAsleep = false) (hp : s.peersOf x ≠ []) (hk : k < 5) (hc : s.carries k = true) :
    Out.flash k (flashWord 3 (s.ssn x) 0 0 (s.epl x) + (2 ^ k - 1) * 134217728) ∈ (s.faultWord x).out := by
  have hf (w : Nat) : s.flashSend w = s.flashTree none w := if_neg (by
    rw [ha]
    decide)
  unfold faultWord
  rw [if_neg (by simpa using hp), hf]
  exact State.flashTree_sends hk hc _

theorem foldl_faultWord_sends (ha : s.treeAsleep = false) {l : List Nat} (hx : x ∈ l) (hp : s.peersOf x ≠ []) (hk : k < 5)
    (hc : s.carries k = true) :
    Out.flash k (flashWord 3 (s.ssn x) 0 0 (s.epl x) + (2 ^ k - 1) * 134217728) ∈ (l.foldl (fun a y => a.faultWord y) s).out := by
  have hsent (l : List Nat) (v : State) (hv : v.treeAsleep = false) : Sent v (l.foldl (fun a y => a.faultWord y) v) :=
    (Sent.refl v).foldl fun h => h.faultWord hv
  obtain ⟨before, after, rfl⟩ := List.append_of_mem hx
  rw [List.foldl_append, List.foldl_cons]
  have hb := hsent before s ha
  revert hb
  generalize before.foldl (fun a y => a.faultWord y) s = v
  intro hb
  have hv : v.treeAsleep = false := hb.treeAsleep.trans ha
  have hpv : v.peersOf x = s.peersOf x := (congrArg (fun u : State => u.peersOf x) hb.frame :)
  have hsv : v.ssn x = s.ssn x := (congrArg (fun u : State => u.ssn x) hb.frame :)
  have hev : v.epl x = s.epl x := congrArg (fun r => FMap.get r F.FAB_SEPOCH_EPOCH x % 16) hb.reg
  refine (hsent after (v.faultWord x) (((Sent.refl v).faultWord hv).treeAsleep.trans hv)).out ?_
  rw [← hsv, ← hev]
  exact State.faultWord_sends hv (hpv ▸ hp) hk (hb.carries k ▸ hc)

theorem faultRepeat_spec (s : State) : ∃ t, exec .faultRepeat s = .next t ∧ s.sameMems t ∧ t.eng = s.eng ∧ t.chan = s.chan ∧
    t.site = s.site ∧ t.sumac = s.sumac ∧ (s.treeAsleep = false → { t with out := s.out, port := s.port } = s ∧
      ∀ x k, x < 16 → s.present x = true → s.faultsOut x = true → s.peersOf x ≠ [] → k < 5 → s.carries k = true →
        Out.flash k (flashWord 3 (s.ssn x) 0 0 (s.epl x) + (2 ^ k - 1) * 134217728) ∈ t.out) := by
  have hf : FaultOnly s ((sites.filter (fun x => s.present x && s.faultsOut x)).foldl (fun a x => a.faultWord x) s) :=
    (FaultOnly.refl s).foldl_mem fun _ h => h.ite h.flashSend
  have hs : FabSteps false s ((sites.filter (fun x => s.present x && s.faultsOut x)).foldl (fun a x => a.faultWord x) s) :=
    FabSteps.refl.foldl_mem fun _ h => h.faultWord
  obtain ⟨hmem, heng, hchan, -, hsite⟩ := hf.units
  refine ⟨_, rfl, hmem, heng, hchan, hsite, hs.sumac, fun ha => ⟨?_, fun x k hx hp ho hpe hk hc => ?_⟩⟩
  · exact ((Sent.refl s).foldl fun h => h.faultWord ha).frame
  · exact foldl_faultWord_sends ha (List.mem_filter.2 ⟨List.mem_range.2 hx, by rw [hp, ho]; rfl⟩) hpe hk hc

/-! ### FLT_IN (R393) -/

/-- The pair as it is recognised. -/
def State.fltinSeen (s : State) (p n : Bool) : State := { s with sumac := { s.sumac with fltP := p, fltN := n } }

/-- An impossible state of the pair shows. -/
def State.fltinLine (s : State) : State := if s.sumac.fltP == s.sumac.fltN then s.setF F.FLT_STAT_FLTIN_LINE 0 1 else s

theorem State.fltinLine_kept (s : State) : s.fltinLine.sumac = s.sumac ∧ s.sameMems s.fltinLine ∧ s.fltinLine.eng = s.eng ∧
    s.fltinLine.chan = s.chan ∧ s.fltinLine.site = s.site := by
  unfold fltinLine
  split <;> exact ⟨rfl, ⟨rfl, rfl, rfl, rfl, rfl, rfl, rfl, rfl⟩, rfl, rfl, rfl⟩

theorem State.fltinShow_fault (h : s.flag F.FLT_CFG_FLTINEN 0 = true) (hp : (s.sumac.fltP && !s.sumac.fltN) = false) :
    s.fltinShow = s.fltinLine.sourceOn 16 2 := if_pos (by rw [h, hp]; rfl)

theorem State.fltinShow_clear (h : s.flag F.FLT_CFG_FLTINEN 0 = false ∨ (s.sumac.fltP && !s.sumac.fltN) = true) :
    s.fltinShow = s.sourceOff 16 2 := by
  refine if_neg ?_
  obtain h | h := h
  · rw [h, Bool.false_and]
    decide
  · rw [h, Bool.not_true, Bool.and_false]
    decide

theorem SumacOnly.units (h : SumacOnly ids s t) : s.sameMems t ∧ t.eng = s.eng ∧ t.chan = s.chan ∧ t.site = s.site :=
  ⟨h.sameMems, (congrArg State.eng h.frame :), (congrArg State.chan h.frame :), (congrArg State.site h.frame :)⟩

theorem fltinChange_fault (p n : Bool) (he : s.flag F.FLT_CFG_FLTINEN 0 = true) (hp : (p && !n) = false) :
    ∃ t, exec (.fltinChange p n) s = .next t ∧ t.sumac.fltP = p ∧ t.sumac.fltN = n ∧ hasBit (t.getF F.FLT_STAT_CSRC 0) 2 = true ∧
      (p = n → t.getF F.FLT_STAT_FLTIN_LINE 0 = 1) ∧ s.sameMems t ∧ t.eng = s.eng ∧ t.chan = s.chan ∧ t.site = s.site := by
  refine ⟨_, congrArg Host.Outcome.next (State.fltinShow_fault (s := s.fltinSeen p n) he hp), ?_⟩
  obtain ⟨hs, hm, heng, hchan, hsite⟩ := (s.fltinSeen p n).fltinLine_kept
  have hline : p = n → (s.fltinSeen p n).fltinLine.getF F.FLT_STAT_FLTIN_LINE 0 = 1 := fun e => by
    refine (congrArg (fun u : State => u.getF F.FLT_STAT_FLTIN_LINE 0) (if_pos (beq_iff_eq.2 e))).trans ?_
    exact State.getF_setF_same ..
  have h := (s.fltinSeen p n).fltinLine.sourceOn_spec (k := 16) (b := 2) (.inl ⟨rfl, by decide⟩)
  obtain ⟨hmem, heng', hchan', -, hsite'⟩ := h.only.units
  have hm0 : s.sameMems (s.fltinSeen p n) := ⟨rfl, rfl, rfl, rfl, rfl, rfl, rfl, rfl⟩
  exact ⟨(congrArg SumacSt.fltP h.pins :).trans (congrArg SumacSt.fltP hs), (congrArg SumacSt.fltN h.pins :).trans (congrArg SumacSt.fltN hs),
    h.active, fun e => (h.only.fields _ _ (by decide) (by decide)).trans (hline e), (hm0.trans hm).trans hmem, heng'.trans heng,
    hchan'.trans hchan, hsite'.trans hsite⟩

theorem fltinChange_clear (p n : Bool) (h : s.flag F.FLT_CFG_FLTINEN 0 = false ∨ (p && !n) = true) :
    ∃ t, exec (.fltinChange p n) s = .next t ∧ t.sumac.fltP = p ∧ t.sumac.fltN = n ∧
      (s.wired 16 2 = false → hasBit (t.getF F.FLT_STAT_CSRC 0) 2 = false) ∧
      s.sameMems t ∧ t.eng = s.eng ∧ t.chan = s.chan ∧ t.site = s.site := by
  refine ⟨_, congrArg Host.Outcome.next (State.fltinShow_clear (s := s.fltinSeen p n) h), ?_⟩
  have hp := (s.fltinSeen p n).sourceOff_pins (k := 16) 2 (by decide)
  have ho : SumacOnly offIds s ((s.fltinSeen p n).sourceOff 16 2) :=
    (SumacOnly.refl _ s).put.trans ((s.fltinSeen p n).sourceOff_only (k := 16) 2 (by decide)) fun _ h => h
  exact ⟨(congrArg SumacSt.fltP hp :), (congrArg SumacSt.fltN hp :),
    fun hw => State.sourceOff_clears (s := s.fltinSeen p n) hw (.inl ⟨rfl, by decide⟩), ho.units⟩

theorem fltinChange_spec (p n : Bool) (s : State) : ∃ t, exec (.fltinChange p n) s = .next t ∧ t.sumac.fltP = p ∧ t.sumac.fltN = n ∧
    (s.flag F.FLT_CFG_FLTINEN 0 = true → (p && !n) = false → hasBit (t.getF F.FLT_STAT_CSRC 0) 2 = true ∧
      (p = n → t.getF F.FLT_STAT_FLTIN_LINE 0 = 1)) ∧
    (s.flag F.FLT_CFG_FLTINEN 0 = false ∨ (p && !n) = true → s.wired 16 2 = false → hasBit (t.getF F.FLT_STAT_CSRC 0) 2 = false) ∧
    s.sameMems t ∧ t.eng = s.eng ∧ t.chan = s.chan ∧ t.site = s.site := by
  by_cases hc : s.flag F.FLT_CFG_FLTINEN 0 = false ∨ (p && !n) = true
  · obtain ⟨t, he, h1, h2, h3, hu⟩ := fltinChange_clear p n hc
    refine ⟨t, he, h1, h2, fun hen hpn => ?_, fun _ => h3, hu⟩
    rw [hen, hpn] at hc
    simp at hc
  · obtain ⟨hen, hpn⟩ := not_or.1 hc
    obtain ⟨t, he, h1, h2, h3, h4, hu⟩ := fltinChange_fault p n (Bool.not_eq_false _ ▸ hen) (Bool.eq_false_iff.2 hpn)
    exact ⟨t, he, h1, h2, fun _ _ => ⟨h3, h4⟩, fun hn => absurd hn hc, hu⟩

/-! ### The interlock (R398 to R400) -/

/-- The field that shows an input closed: false is ILK_A, true ILK_B. -/
def closedFld (b : Bool) : Fld := if b then F.FLT_ILK_BCL else F.FLT_ILK_ACL

/-- Is an input recognised open? -/
def SumacSt.isOpen (a : SumacSt) (b : Bool) : Bool := if b then a.openB else a.openA

/-- Input `b` opens. -/
def State.ilkOpened (s : State) (b : Bool) : State :=
  ((({ s with sumac := { s.sumac with
    openA := !b || s.sumac.openA, openB := b || s.sumac.openB,
    bothOpen := s.sumac.bothOpen || ((!b || s.sumac.openA) && (b || s.sumac.openB) && s.flag F.FLT_ILK_DISCREP 0),
    openNs := some (b, s.nowNs), wasBoth := s.sumac.bothOpen } } : State).setF (closedFld b) 0 0).setF F.FLT_ILK_OPENED 0 1).satF
    F.FLT_ILKCNT_OPN 0 1

theorem exec_ilkOpen (b : Bool) (s : State) :
    exec (.ilkOpen b) s = if s.sumac.isOpen b then .next s else .next ((s.ilkOpened b).sourceOn 16 3) := rfl

theorem State.ilkOpened_fields (s : State) (b : Bool) : (s.ilkOpened b).getF (closedFld b) 0 = 0 ∧
    (s.ilkOpened b).getF F.FLT_ILK_OPENED 0 = 1 ∧
    (s.ilkOpened b).getF F.FLT_ILKCNT_OPN 0 = satAt F.FLT_ILKCNT_OPN.width (s.getF F.FLT_ILKCNT_OPN 0 + 1) := by
  refine ⟨?_, (State.getF_setF_other (by decide : F.FLT_ILK_OPENED.key 0 ≠ F.FLT_ILKCNT_OPN.key 0)).trans
    (State.getF_setF_same ..), ?_⟩
  · cases b
    all_goals
      refine (State.getF_setF_other ?_).trans ((State.getF_setF_other ?_).trans ((State.getF_setF_same ..).trans (Nat.zero_mod _)))
      · decide
      · decide
  · refine (State.getF_satF_same ..).trans (congrArg (fun n => satAt F.FLT_ILKCNT_OPN.width (n + 1)) ?_)
    refine (State.getF_setF_other (by decide)).trans ((State.getF_setF_other ?_).trans rfl)
    cases b <;> decide

theorem State.ilkOpened_kept (s : State) (b : Bool) : (s.ilkOpened b).sumac.isOpen b = true ∧ s.sameMems (s.ilkOpened b) ∧
    (s.ilkOpened b).eng = s.eng ∧ (s.ilkOpened b).chan = s.chan ∧ (s.ilkOpened b).site = s.site := by
  refine ⟨?_, ⟨rfl, rfl, rfl, rfl, rfl, rfl, rfl, rfl⟩, rfl, rfl, rfl⟩
  cases b <;> rfl

theorem SumacSt.pins.isOpen {a c : SumacSt} (h : a.pins c) (b : Bool) : a.isOpen b = c.isOpen b :=
  (congrArg (fun d : SumacSt => d.isOpen b) h :)

theorem ilkOpen_spec (b : Bool) (s : State) : (s.sumac.isOpen b = false → ∃ t, exec (.ilkOpen b) s = .next t ∧
      t.getF (closedFld b) 0 = 0 ∧ t.getF F.FLT_ILK_OPENED 0 = 1 ∧
      t.getF F.FLT_ILKCNT_OPN 0 = satAt F.FLT_ILKCNT_OPN.width (s.getF F.FLT_ILKCNT_OPN 0 + 1) ∧
      hasBit (t.getF F.FLT_STAT_CSRC 0) 3 = true ∧ t.chipSafe = true ∧ t.sumac.isOpen b = true ∧
      s.sameMems t ∧ t.eng = s.eng ∧ t.chan = s.chan ∧ t.site = s.site) ∧
    (s.sumac.isOpen b = true → exec (.ilkOpen b) s = .next s) := by
  refine ⟨fun ho => ⟨_, (exec_ilkOpen b s).trans (if_neg (Bool.eq_false_iff.1 ho)), ?_⟩, fun ho => (exec_ilkOpen b s).trans (if_pos ho)⟩
  have h := (s.ilkOpened b).sourceOn_spec (k := 16) (b := 3) (.inl ⟨rfl, by decide⟩)
  obtain ⟨h1, h2, h3⟩ := s.ilkOpened_fields b
  obtain ⟨hopen, hm, heng, hchan, hsite⟩ := s.ilkOpened_kept b
  obtain ⟨hmem, heng', hchan', -, hsite'⟩ := h.only.units
  have hids : (closedFld b).id ∉ faultIds := by cases b <;> decide
  exact ⟨(h.only.fields _ _ hids (by decide)).trans h1, (h.only.fields _ _ (by decide) (by decide)).trans h2,
    (h.only.fields _ _ (by decide) (by decide)).trans h3, h.active, h.held, (h.pins.isOpen b).trans hopen, hm.trans hmem,
    heng'.trans heng, hchan'.trans hchan, hsite'.trans hsite⟩

/-- Input `b` closes. -/
def State.ilkClosed (s : State) (b : Bool) : State :=
  ({ s with sumac := { s.sumac with openA := s.sumac.openA && b, openB := s.sumac.openB && !b } } : State).setF (closedFld b) 0 1

theorem exec_ilkClose (b : Bool) (s : State) : exec (.ilkClose b) s =
    if (s.ilkClosed b).flag F.FLT_ILK_ACL 0 && (s.ilkClosed b).flag F.FLT_ILK_BCL 0 then
      .next (if (s.ilkClosed b).discrepOver.flag F.FLT_ILK_DISCREP 0 then (s.ilkClosed b).discrepOver
        else (s.ilkClosed b).discrepOver.sourceOff 16 3)
    else if (s.ilkClosed b).sumac.openNs = some (!b, s.nowNs) ∧ (s.ilkClosed b).sumac.wasBoth = true then
      .next (s.ilkClosed b).discrepOver
    else .next (s.ilkClosed b) := rfl

/-- What closing input `b` may have done before the source ILK is judged. -/
structure Closed (b : Bool) (s t : State) : Prop where
  only : SumacOnly ([closedFld b, F.FLT_ILK_DISCREP].map Fld.id ++ offIds) s t
  regs : RegsBut (keysAt 0 [closedFld b, F.FLT_ILK_DISCREP]) s t
  closed : t.getF (closedFld b) 0 = 1
  notOpen : t.sumac.isOpen b = false
  wires : t.sumac.wires = s.sumac.wires

theorem closedFld_mem (b : Bool) : (closedFld b).id ∈ [closedFld b, F.FLT_ILK_DISCREP].map Fld.id ++ offIds := List.mem_cons_self

theorem discrep_mem (b : Bool) : F.FLT_ILK_DISCREP.id ∈ [closedFld b, F.FLT_ILK_DISCREP].map Fld.id ++ offIds :=
  List.mem_cons_of_mem _ List.mem_cons_self

theorem closedFld_ne_discrep (b : Bool) : (closedFld b).key 0 ≠ F.FLT_ILK_DISCREP.key 0 := by cases b <;> decide

theorem State.ilkClosed_closed (s : State) (b : Bool) : Closed b s (s.ilkClosed b) :=
  ⟨(SumacOnly.refl _ s).put.setF (closedFld_mem b) (by decide), (RegsBut.refl _ s).setF List.mem_cons_self,
    (State.getF_setF_same ..).trans (by cases b <;> rfl),
    by cases b
       · exact Bool.and_false s.sumac.openA
       · exact Bool.and_false s.sumac.openB,
    rfl⟩

theorem Closed.discrepOver {b : Bool} (h : Closed b s t) : Closed b s t.discrepOver := by
  unfold State.discrepOver
  split
  · exact ⟨h.only.put.setF (discrep_mem b) (by decide), h.regs.setF (List.mem_cons_of_mem _ List.mem_cons_self),
      (State.getF_setF_other (closedFld_ne_discrep b)).trans h.closed, h.notOpen, h.wires⟩
  · exact h

/-- A DISCREPANCY is over where its first half is; where there was none there is none. -/
theorem State.discrep_ilkClosed (s : State) (b : Bool) :
    (s.flag F.FLT_ILK_DISCREP 0 = false ∨ s.sumac.bothOpen = true → (s.ilkClosed b).discrepOver.getF F.FLT_ILK_DISCREP 0 = 0) ∧
    (s.flag F.FLT_ILK_DISCREP 0 = true ∧ s.sumac.bothOpen = false → (s.ilkClosed b).discrepOver.flag F.FLT_ILK_DISCREP 0 = true) := by
  have hd : (s.ilkClosed b).getF F.FLT_ILK_DISCREP 0 = s.getF F.FLT_ILK_DISCREP 0 :=
    State.getF_setF_other (closedFld_ne_discrep b).symm
  have hb : (s.ilkClosed b).sumac.bothOpen = s.sumac.bothOpen := rfl
  unfold discrepOver
  rw [hb]
  by_cases hbo : s.sumac.bothOpen = true
  · rw [if_pos hbo]
    exact ⟨fun _ => (State.getF_setF_same ..).trans rfl, fun h => absurd (hbo.symm.trans h.2) (by decide)⟩
  · rw [if_neg hbo]
    refine ⟨fun h => hd.trans (State.flag_eq_false.1 (h.resolve_right hbo)), fun h => ?_⟩
    rw [← h.1, flag, flag, hd]

theorem State.both_ilkClosed (s : State) (b : Bool) :
    ((s.ilkClosed b).flag F.FLT_ILK_ACL 0 && (s.ilkClosed b).flag F.FLT_ILK_BCL 0) = s.flag (closedFld !b) 0 := by
  have hsame : (s.ilkClosed b).flag (closedFld b) 0 = true := bne_iff_ne.2 (by rw [(s.ilkClosed_closed b).closed]; decide)
  have hother : (s.ilkClosed b).flag (closedFld !b) 0 = s.flag (closedFld !b) 0 :=
    congrArg (· != 0) (State.getF_setF_other (by cases b <;> decide))
  cases b
  · rw [show F.FLT_ILK_ACL = closedFld false from rfl, show F.FLT_ILK_BCL = closedFld !false from rfl, hsame, hother, Bool.true_and]
  · rw [show F.FLT_ILK_ACL = closedFld !true from rfl, show F.FLT_ILK_BCL = closedFld true from rfl, hsame, hother, Bool.and_true]

theorem ilkClose_spec (b : Bool) (s : State) : ∃ t, exec (.ilkClose b) s = .next t ∧ t.getF (closedFld b) 0 = 1 ∧
    t.sumac.isOpen b = false ∧
    (s.flag (closedFld !b) 0 = true → s.wired 16 3 = false → s.flag F.FLT_ILK_DISCREP 0 = false ∨ s.sumac.bothOpen = true →
      hasBit (t.getF F.FLT_STAT_CSRC 0) 3 = false ∧ t.getF F.FLT_ILK_DISCREP 0 = 0) ∧
    (s.flag (closedFld !b) 0 = false ∨ s.flag F.FLT_ILK_DISCREP 0 = true ∧ s.sumac.bothOpen = false →
      RegsBut (keysAt 0 [closedFld b, F.FLT_ILK_DISCREP]) s t) ∧
    { t with reg := s.reg, sumac := s.sumac, evAt := s.evAt, out := s.out } = s := by
  have hv := s.ilkClosed_closed b
  have hw := hv.discrepOver
  obtain ⟨hzero, hstays⟩ := s.discrep_ilkClosed b
  have hboth := s.both_ilkClosed b
  by_cases ho : s.flag (closedFld !b) 0 = true
  · have he := (exec_ilkClose b s).trans (if_pos (hboth.trans ho))
    by_cases hd : (s.ilkClosed b).discrepOver.flag F.FLT_ILK_DISCREP 0 = true
    · refine ⟨_, he.trans (congrArg Host.Outcome.next (if_pos hd)), hw.closed, hw.notOpen, fun _ _ h => ?_, fun _ => hw.regs, hw.only.frame⟩
      rw [State.flag_eq_false.2 (hzero h)] at hd
      cases hd
    · have hoff := (s.ilkClosed b).discrepOver.sourceOff_only (k := 16) 3 (by decide)
      have hids : (closedFld b).id ∉ offIds := by cases b <;> decide
      refine ⟨_, he.trans (congrArg Host.Outcome.next (if_neg hd)), (hoff.fields _ _ hids (by decide)).trans hw.closed,
        ((State.sourceOff_pins _ 3 (by decide)).isOpen b).trans hw.notOpen, fun _ hwd h => ⟨?_, ?_⟩, fun h => ?_,
        (hw.only.trans hoff (List.subset_append_right _ _)).frame⟩
      · exact State.sourceOff_clears (k := 16) (b := 3) ((State.wired_of_wires hw.wires 16 3).trans hwd) (.inl ⟨rfl, by decide⟩)
      · exact (hoff.fields _ _ (by decide) (by decide)).trans (hzero h)
      · exact absurd (hstays (h.resolve_left fun hf => by rw [ho] at hf; cases hf)) hd
  · have he := (exec_ilkClose b s).trans (if_neg (fun h => ho (hboth.symm.trans h)))
    by_cases hn : (s.ilkClosed b).sumac.openNs = some (!b, s.nowNs) ∧ (s.ilkClosed b).sumac.wasBoth = true
    · exact ⟨_, he.trans (if_pos hn), hw.closed, hw.notOpen, fun h => absurd h ho, fun _ => hw.regs, hw.only.frame⟩
    · exact ⟨_, he.trans (if_neg hn), hv.closed, hv.notOpen, fun h => absurd h ho, fun _ => hv.regs, hv.only.frame⟩

/-- A disagreement latches. -/
def State.discrepLatched (s : State) : State :=
  (({ s with sumac := { s.sumac with bothOpen := false } } : State).setF F.FLT_ILK_DISCREP 0 1).satF F.FLT_ILKCNT_DSC 0 1

theorem discrepancyLatch_spec (s : State) :
    (s.flag F.FLT_ILK_ACL 0 ≠ s.flag F.FLT_ILK_BCL 0 → s.flag F.FLT_ILK_DISCREP 0 = false ∨ s.sumac.bothOpen = true →
      ∃ t, exec .discrepancyLatch s = .next t ∧ t.getF F.FLT_ILK_DISCREP 0 = 1 ∧ hasBit (t.getF F.FLT_STAT_CSRC 0) 3 = true ∧
        t.getF F.FLT_ILKCNT_DSC 0 = satAt F.FLT_ILKCNT_DSC.width (s.getF F.FLT_ILKCNT_DSC 0 + 1) ∧ t.sumac.bothOpen = false ∧
        s.sameMems t ∧ t.site = s.site) ∧
    (s.flag F.FLT_ILK_ACL 0 = s.flag F.FLT_ILK_BCL 0 ∨ s.flag F.FLT_ILK_DISCREP 0 = true ∧ s.sumac.bothOpen = false →
      exec .discrepancyLatch s = .next s) := by
  refine ⟨fun hne h => ?_, fun h => if_neg ?_⟩
  · have hc : (s.flag F.FLT_ILK_ACL 0 != s.flag F.FLT_ILK_BCL 0 && (!s.flag F.FLT_ILK_DISCREP 0 || s.sumac.bothOpen)) = true := by
      rw [bne_iff_ne.2 hne, Bool.true_and, Bool.or_eq_true_iff, Bool.not_eq_true']
      exact h
    have hon := s.discrepLatched.sourceOn_spec (k := 16) (b := 3) (.inl ⟨rfl, by decide⟩)
    have hm : s.sameMems s.discrepLatched := ⟨rfl, rfl, rfl, rfl, rfl, rfl, rfl, rfl⟩
    have hd : s.discrepLatched.getF F.FLT_ILK_DISCREP 0 = 1 :=
      (State.getF_setF_other (by decide : F.FLT_ILK_DISCREP.key 0 ≠ F.FLT_ILKCNT_DSC.key 0)).trans (State.getF_setF_same ..)
    have hcnt : s.discrepLatched.getF F.FLT_ILKCNT_DSC 0 = satAt F.FLT_ILKCNT_DSC.width (s.getF F.FLT_ILKCNT_DSC 0 + 1) :=
      (State.getF_satF_same ..).trans (congrArg (fun n => satAt F.FLT_ILKCNT_DSC.width (n + 1)) (State.getF_setF_other (by decide)))
    exact ⟨_, if_pos hc, (hon.only.fields _ _ (by decide) (by decide)).trans hd, hon.active,
      (hon.only.fields _ _ (by decide) (by decide)).trans hcnt, (congrArg SumacSt.bothOpen hon.pins :), hm.trans hon.only.sameMems,
      hon.only.site⟩
  · obtain h | ⟨h1, h2⟩ := h
    · simp [h]
    · simp [h1, h2]

/-- Settles O52: a source that becomes active is judged on the state in which its words go out, and every register that follows it
leaves what holds the scopes. -/
theorem faultSourcesAndInputs : Obligations.FaultSourcesAndInputs := by
  refine ⟨⟨faultSourceActive_chip, faultSourceActive_site, selfFault_spec, faultSourceClear_site, faultSourceClear_chip,
    faultSourceClear_chip_wired, wireFault_site, wireFault_chip, fun k s used hu => ?_, fun k s => ⟨fun h =>
      ⟨recoveryWriteDone_stored k h, recoveryWriteDone_storeFailed k h⟩, fun hs h =>
      ⟨recoveryWriteDone_cleared k hs h, recoveryWriteDone_clearFailed k hs h⟩, recoveryWriteDone_idle k⟩, fun fn k s => ?_,
    faultRepeat_spec, remoteExpire_spec⟩, fltinChange_spec, fun b s => ?_, fun b s => ?_, discrepancyLatch_spec⟩
  · obtain rfl : used = s.recUsed k.val := hu
    exact ⟨quietEnd_increment k, quietEnd_latches k, quietEnd_latched k, quietEnd_reset k, quietEnd_idle k⟩
  · exact ⟨fun ho hc => fltClear_acts fn k (State.clearsScope_of_owner ho hc),
      fun hc => exec_fltClear_ignored fn k (State.clearsScope_of_busy hc),
      fun hf hk => exec_fltClear_ignored fn k (State.clearsScope_of_other (.inl ⟨hf, hk⟩)),
      fun n hf hk => exec_fltClear_ignored fn k (State.clearsScope_of_other (.inr ⟨n, hf, hk⟩))⟩
  · cases b <;> exact ilkOpen_spec _ s
  · cases b <;> exact ilkClose_spec _ s

end Sys2Proof.Machine
end

section
/-! SUPPORT. What Saffron's operations change, and what they write of a site's transactions (R282 to R294). -/

namespace Sys2Proof.Machine

variable {s t u : State} {x k : Nat}

/-! ### What Saffron changes -/

/-- The fields of Saffron that its operations write. -/
def safFlds : List Fld :=
  [F.SAF_OPEN_TXID, F.SAF_OPEN_STATE, F.SAF_STGN_N, F.SAF_SWAP_MASK, F.SAF_QUE_TXID, F.SAF_QUE_STATE, F.SAF_RUN_TXID, F.SAF_RUN_STATE,
    F.SAF_RTGT_F, F.SAF_STAT_INDOUBT, F.SAF_LAST_TXID, F.SAF_LAST_OUTCOME, F.SAF_LAST_NOCHIP, F.SAF_LAST_NOREASON, F.SAF_STAT_SUPERSEDED,
    F.SAF_STAT_ABORTED]

/-- With those that sending a message and raising an event write. -/
def safIds : List Nat := F.HST_EVT_EVT.id :: F.MSIX_PBA_PEND.id :: (stepIds false ++ safFlds.map Fld.id)

theorem saf_mem {f : Fld} (hf : f ∈ safFlds) : f.id ∈ safIds :=
  List.mem_cons_of_mem _ (List.mem_cons_of_mem _ (List.mem_append_right _ (List.mem_map_of_mem hf)))

/-- Between `s` and `t` nothing changes but fields with numbers in `safIds`, the ports, the fabric without its peers, the outputs, the values
drawn, the record of host events, and of a site its transactions and what it has sent in its window. -/
structure SafOnly (s t : State) : Prop where
  frame : { t with
    reg := s.reg, port := s.port, fab := s.fab, out := s.out, free := s.free, site := s.site, evAt := s.evAt } = s
  fields : ∀ (g : Fld) (j : Nat), g.id ∉ safIds → j < 1048576 → t.getF g j = s.getF g j
  peers : t.fab.peers = s.fab.peers
  nextB : ∀ y, (t.siteOf y).nextB = (s.siteOf y).nextB

theorem SafOnly.refl (s : State) : SafOnly s s := ⟨rfl, fun _ _ _ _ => rfl, rfl, fun _ => rfl⟩

theorem SafOnly.trans (h : SafOnly s t) (g : SafOnly t u) : SafOnly s u :=
  ⟨Eq.trans (congrArg (fun a : State => { a with
      reg := s.reg, port := s.port, fab := s.fab, out := s.out, free := s.free, site := s.site, evAt := s.evAt }) g.frame) h.frame,
    fun f j hf hj => (g.fields f j hf hj).trans (h.fields f j hf hj), g.peers.trans h.peers,
    fun y => (g.nextB y).trans (h.nextB y)⟩

theorem SafOnly.setF (h : SafOnly s t) {f : Fld} {i v : Nat} (hf : f ∈ safFlds) (hi : i < 1048576) : SafOnly s (t.setF f i v) := by
  refine ⟨h.frame, fun g j hg hj => ?_, h.peers, h.nextB⟩
  have hne : g.id ≠ f.id := fun e => hg (e ▸ saf_mem hf)
  exact (State.getF_setF_other (Fld.key_ne hne hj hi)).trans (h.fields g j hg hj)

theorem SafOnly.setFs (h : SafOnly s t) {l : List (Fld × Nat)} {i : Nat} (hl : l.map Prod.fst ⊆ safFlds) (hi : i < 1048576) :
    SafOnly s (t.setFs i l) :=
  List.foldlRecOn (motive := SafOnly s) l _ h fun _ ha _ hp => ha.setF (hl (List.mem_map_of_mem hp)) hi

theorem SafOnly.modSaf (h : SafOnly s t) {f : SafSt → SafSt} : SafOnly s (t.modSaf x f) := by
  refine ⟨h.frame, h.fields, h.peers, fun y => ?_⟩
  by_cases hy : y = x
  · subst hy
    exact (congrArg SiteSt.nextB (State.siteOf_modSite_same ..)).trans (h.nextB y)
  · exact (congrArg SiteSt.nextB (State.siteOf_modSite_other hy)).trans (h.nextB y)

theorem SafOnly.ite {c : Prop} [Decidable c] (ht : SafOnly s t) (hu : SafOnly s u) : SafOnly s (if c then t else u) := by
  split
  · exact ht
  · exact hu

theorem SafOnly.sent (h : SafOnly s t) (g : FabSteps false t u) : SafOnly s u := by
  refine ⟨?_, fun f j hf hj => (g.getF (fun hm => hf ?_) hj).trans (h.fields f j hf hj), g.peers.trans h.peers,
    fun y => (congrArg SiteSt.nextB (g.siteOf y) :).trans (h.nextB y)⟩
  · exact Eq.trans (congrArg (fun a : State => { a with
      reg := s.reg, port := s.port, fab := s.fab, out := s.out, free := s.free, site := s.site, evAt := s.evAt }) g.sendFrame) h.frame
  · exact List.mem_cons_of_mem _ (List.mem_cons_of_mem _ (List.mem_append_left _ hm))

theorem SafOnly.raise (h : SafOnly s t) {f n : Nat} (hf : f < 1048576) : SafOnly s (t.raise f n) := by
  have hfr := t.raise_frame f n
  refine ⟨?_, fun g j hg hj => ((State.raise_regs t f n).getF ?_).trans (h.fields g j hg hj),
    (congrArg (fun a : State => a.fab.peers) hfr :).trans h.peers, fun y => ?_⟩
  · exact Eq.trans (congrArg (fun a : State => { a with
      reg := s.reg, port := s.port, fab := s.fab, out := s.out, free := s.free, site := s.site, evAt := s.evAt }) hfr) h.frame
  · have he : g.id ≠ F.HST_EVT_EVT.id := fun e => hg (e ▸ List.mem_cons_self)
    have hp : g.id ≠ F.MSIX_PBA_PEND.id := fun e => hg (e ▸ List.mem_cons_of_mem _ List.mem_cons_self)
    simpa using ⟨Fld.key_ne he hj hf, Fld.key_ne hp hj hf⟩
  · have hs : (t.raise f n).site = t.site := (congrArg State.site hfr :)
    exact (congrArg (fun l => (Tbl.get (fun _ => ({} : SiteSt)) l y).nextB) hs).trans (h.nextB y)

theorem SafOnly.sameMems (h : SafOnly s t) : s.sameMems t := by
  have hm {α : Type} (g : State → α) : g { t with
    reg := s.reg, port := s.port, fab := s.fab, out := s.out, free := s.free, site := s.site, evAt := s.evAt } = g s := congrArg g h.frame
  exact ⟨hm State.bb, hm State.acqMem, hm State.dram, hm State.nvm, hm State.psbuf, hm State.cstore, hm State.mirror,
    hm State.tstore⟩

/-! ### What Saffron reads -/

theorem SafOnly.now (h : SafOnly s t) : t.now = s.now := by
  have hf : t.nowFix = s.nowFix := by
    rw [State.nowFix, State.nowFix, h.fields _ _ (by decide) (by decide), h.fields _ _ (by decide) (by decide),
      h.fields _ _ (by decide) (by decide)]
  exact congrArg Time.ofFix hf

theorem SafOnly.nowNs (h : SafOnly s t) : t.nowNs = s.nowNs := congrArg Time.toNs h.now

theorem SafOnly.chipNo (h : SafOnly s t) : t.chipNo = s.chipNo := h.fields _ _ (by decide) (by decide)

theorem SafOnly.map (h : SafOnly s t) (hx : x < 16) (hk : k < 64) : t.map x k = s.map x k := h.fields _ _ (by decide) (by omega)

theorem SafOnly.members (h : SafOnly s t) (hx : x < 16) : t.members x = s.members x := by
  have h1 : t.shelf x = s.shelf x := congrArg (bits · 7 4) (h.map hx (by decide))
  have h2 : t.memb x = s.memb x := h.map hx (by decide)
  rw [State.members, State.members, h1, h2]

theorem SafOnly.peersOf (h : SafOnly s t) (hx : x < 16) : t.peersOf x = s.peersOf x := by
  rw [State.peersOf, State.peersOf, h.members hx, h.chipNo]

theorem SafOnly.peer (h : SafOnly s t) : t.peer = s.peer := by
  funext c
  rw [State.peer, State.peer, h.peers]

theorem SafOnly.lOver (h : SafOnly s t) (hx : x < 16) (f : Nat) (b : SafBuf) : t.lOver x f b = s.lOver x f b := by
  have hx' : x < 1048576 := by omega
  have hbnd : t.safBnd x = s.safBnd x := by
    unfold State.safBnd
    rw [h.peersOf hx, h.peer]
  have hrun : t.beatsRun x = s.beatsRun x := congrArg (· != 0) (h.fields _ _ (by decide) hx')
  have hblen : t.getF F.SITE_BLEN_BLEN x = s.getF F.SITE_BLEN_BLEN x := h.fields _ _ (by decide) hx'
  have hgap : t.getF F.SITE_BGAP_GAP x = s.getF F.SITE_BGAP_GAP x := h.fields _ _ (by decide) hx'
  have hbnow : t.getF F.SITE_BNOW_BNOW x = s.getF F.SITE_BNOW_BNOW x := h.fields _ _ (by decide) hx'
  simp only [State.lOver, State.lNs, State.xNs, State.beatNs, State.blenAfter, State.gapAfter, hbnd, hrun, hblen, hgap, hbnow, h.nextB x,
    h.nowNs, h.now]

/-! ### The transactions of a site -/

@[simp] theorem State.safOf_modSaf (s : State) (x : Nat) (f : SafSt → SafSt) : (s.modSaf x f).safOf x = f (s.safOf x) :=
  congrArg SiteSt.saf (State.siteOf_modSite_same ..)

@[simp] theorem State.safOf_setF (s : State) (f : Fld) (i v y : Nat) : (s.setF f i v).safOf y = s.safOf y := rfl

@[simp] theorem State.safOf_setFs (s : State) (i : Nat) (l : List (Fld × Nat)) (y : Nat) : (s.setFs i l).safOf y = s.safOf y :=
  (congrArg (fun a : State => a.safOf y) (s.setFs_regsOnly i l).1 :)

@[simp] theorem State.safOf_raise (s : State) (f n y : Nat) : (s.raise f n).safOf y = s.safOf y := by
  have hs : (s.raise f n).site = s.site := (congrArg State.site (s.raise_frame f n) :)
  exact congrArg (fun l => (Tbl.get (fun _ => ({} : SiteSt)) l y).saf) hs

theorem FabSteps.safOf {top : Bool} (h : FabSteps top s t) (y : Nat) : t.safOf y = s.safOf y := (congrArg SiteSt.saf (h.siteOf y) :)

@[simp] theorem State.safOf_sendMembers (s : State) {x : Nat} (hx : x < 1048576) (m : Msg) (y : Nat) :
    (s.sendMembers x m).safOf y = s.safOf y := (FabSteps.refl.sendMembers (top := false) hx).safOf y

/-! ### What SAF_OPEN, SAF_QUE and SAF_RUN show (R294) -/

/-- SAF_OPEN and SAF_STGN. -/
def State.showOpn (s : State) (x : Nat) (o : Option SafBuf) : State :=
  match o with
  | some b => s.setFs x [(F.SAF_OPEN_TXID, b.txid), (F.SAF_OPEN_STATE, 1), (F.SAF_STGN_N, b.writes.length)]
  | none => s.setFs x [(F.SAF_OPEN_TXID, 0), (F.SAF_OPEN_STATE, 0), (F.SAF_STGN_N, 0)]

/-- SAF_QUE. -/
def State.showQue (s : State) (x : Nat) (o : Option SafBuf) : State :=
  match o with
  | some b => s.setFs x [(F.SAF_QUE_TXID, b.txid), (F.SAF_QUE_STATE, 2)]
  | none => s.setFs x [(F.SAF_QUE_TXID, 0), (F.SAF_QUE_STATE, 0)]

/-- The buffer that SAF_RUN shows, and whether it is in doubt. -/
def SafSt.shownRun (t : SafSt) : Option (SafBuf × Bool) :=
  match t.run, t.prior with
  | some b, _ => some (b, false)
  | none, b :: _ => some (b, false)
  | none, [] => t.dbt.head?.map (fun b => (b, true))

/-- The state that SAF_RUN shows of a buffer. -/
def SafSt.runState (t : SafSt) (b : SafBuf) (d : Bool) : Nat :=
  if b.held || b.resolved then 6 else if d then 7
  else match t.lead with
    | some l => if l.deferred then 5 else 3
    | none => if b.deferred then 5 else if b.prepared then 4 else 3

/-- SAF_RUN and SAF_RTGT. -/
def State.showRunning (s : State) (x : Nat) (t : SafSt) : State :=
  match t.shownRun with
  | some (b, d) => s.setFs x [(F.SAF_RUN_TXID, b.txid), (F.SAF_RUN_STATE, t.runState b d), (F.SAF_RTGT_F, b.target)]
  | none => s.setFs x [(F.SAF_RUN_TXID, 0), (F.SAF_RUN_STATE, 0)]

theorem State.safShow_eq (s : State) (x : Nat) : s.safShow x =
    (((s.showOpn x (s.safOf x).opn).showQue x (s.safOf x).que).showRunning x (s.safOf x)).setF F.SAF_STAT_INDOUBT x
      (if (s.safOf x).dbt.isEmpty then 0 else 1) := rfl

/-- Fields of site `x` outside a list stay when the list is set. -/
theorem State.getF_setFs_id {f : Fld} {l : List (Fld × Nat)} (h : f.id ∉ l.map (fun p => p.1.id)) :
    (s.setFs x l).getF f x = s.getF f x :=
  State.getF_setFs_other fun _ hp => Fld.key_ne_same fun e => h (e ▸ List.mem_map_of_mem (f := fun p : Fld × Nat => p.1.id) hp)

theorem State.getF_showOpn {f : Fld} (h : f.id ∉ [F.SAF_OPEN_TXID, F.SAF_OPEN_STATE, F.SAF_STGN_N].map Fld.id) (o : Option SafBuf) :
    (s.showOpn x o).getF f x = s.getF f x := by
  cases o <;> exact State.getF_setFs_id h

theorem State.getF_showQue {f : Fld} (h : f.id ∉ [F.SAF_QUE_TXID, F.SAF_QUE_STATE].map Fld.id) (o : Option SafBuf) :
    (s.showQue x o).getF f x = s.getF f x := by
  cases o <;> exact State.getF_setFs_id h

theorem State.getF_showRunning {f : Fld} (h : f.id ∉ [F.SAF_RUN_TXID, F.SAF_RUN_STATE, F.SAF_RTGT_F].map Fld.id) (a : SafSt) :
    (s.showRunning x a).getF f x = s.getF f x := by
  unfold showRunning
  split
  next b d _ => exact State.getF_setFs_id (l := [(F.SAF_RUN_TXID, b.txid), (F.SAF_RUN_STATE, a.runState b d), (F.SAF_RTGT_F, b.target)]) h
  next =>
    exact State.getF_setFs_id (l := [(F.SAF_RUN_TXID, 0), (F.SAF_RUN_STATE, 0)]) fun hm =>
      h (List.mem_append_left (as := [F.SAF_RUN_TXID, F.SAF_RUN_STATE].map Fld.id) [F.SAF_RTGT_F.id] hm)

/-- The fields that `safShow` writes. -/
def shownFlds : List Fld :=
  [F.SAF_OPEN_TXID, F.SAF_OPEN_STATE, F.SAF_STGN_N, F.SAF_QUE_TXID, F.SAF_QUE_STATE, F.SAF_RUN_TXID, F.SAF_RUN_STATE, F.SAF_RTGT_F,
    F.SAF_STAT_INDOUBT]

theorem State.getF_safShow {f : Fld} (h : f.id ∉ shownFlds.map Fld.id) : (s.safShow x).getF f x = s.getF f x := by
  have hsub {l : List Fld} (hl : l ⊆ shownFlds) : f.id ∉ l.map Fld.id := fun hm => h (List.map_subset Fld.id hl hm)
  have hin : f.id ≠ F.SAF_STAT_INDOUBT.id := fun e => h (e ▸ List.mem_map_of_mem (by decide : F.SAF_STAT_INDOUBT ∈ shownFlds))
  rw [safShow_eq, getF_setF_other (Fld.key_ne_same hin), getF_showRunning (hsub (by decide)), getF_showQue (hsub (by decide)),
    getF_showOpn (hsub (by decide))]

theorem State.safShow_opn {b : SafBuf} (h : (s.safOf x).opn = some b) : (s.safShow x).getF F.SAF_OPEN_TXID x = b.txid % 2 ^ 16 ∧
    (s.safShow x).getF F.SAF_OPEN_STATE x = 1 ∧ (s.safShow x).getF F.SAF_STGN_N x = b.writes.length % 2 ^ 11 := by
  have hl : ([(F.SAF_OPEN_TXID, b.txid), (F.SAF_OPEN_STATE, 1), (F.SAF_STGN_N, b.writes.length)].map fun p => p.1.id).Nodup := by
    simp [F.SAF_OPEN_TXID, F.SAF_OPEN_STATE, F.SAF_STGN_N]
  have key {f : Fld} (h1 : f.id ≠ F.SAF_STAT_INDOUBT.id) (h2 : f.id ∉ [F.SAF_RUN_TXID, F.SAF_RUN_STATE, F.SAF_RTGT_F].map Fld.id)
      (h3 : f.id ∉ [F.SAF_QUE_TXID, F.SAF_QUE_STATE].map Fld.id) : (s.safShow x).getF f x =
        (s.setFs x [(F.SAF_OPEN_TXID, b.txid), (F.SAF_OPEN_STATE, 1), (F.SAF_STGN_N, b.writes.length)]).getF f x := by
    rw [safShow_eq, getF_setF_other (Fld.key_ne_same h1), getF_showRunning h2, getF_showQue h3, h]
    rfl
  refine ⟨(key (by decide) (by decide) (by decide)).trans ?_, (key (by decide) (by decide) (by decide)).trans ?_,
    (key (by decide) (by decide) (by decide)).trans ?_⟩
  · exact State.getF_setFs_mem (p := (F.SAF_OPEN_TXID, b.txid)) (by simp) hl x
  · exact State.getF_setFs_mem (p := (F.SAF_OPEN_STATE, 1)) (by simp) hl x
  · exact State.getF_setFs_mem (p := (F.SAF_STGN_N, b.writes.length)) (by simp) hl x

theorem State.safShow_que {b : SafBuf} (h : (s.safOf x).que = some b) : (s.safShow x).getF F.SAF_QUE_TXID x = b.txid % 2 ^ 16 := by
  rw [safShow_eq, getF_setF_other (Fld.key_ne_same (by decide)), getF_showRunning (by decide), h]
  exact State.getF_setFs_mem (p := (F.SAF_QUE_TXID, b.txid)) (by simp) (by simp [F.SAF_QUE_TXID, F.SAF_QUE_STATE]) x

theorem State.safShow_run {b : SafBuf} (h : (s.safOf x).run = some b) : (s.safShow x).getF F.SAF_RUN_TXID x = b.txid % 2 ^ 16 ∧
    (b.held = true → (s.safShow x).getF F.SAF_RUN_STATE x = 6) := by
  have hr : (s.safOf x).shownRun = some (b, false) := by
    unfold SafSt.shownRun
    rw [h]
  have hl : ([(F.SAF_RUN_TXID, b.txid), (F.SAF_RUN_STATE, (s.safOf x).runState b false), (F.SAF_RTGT_F, b.target)].map fun p =>
      p.1.id).Nodup := by
    simp [F.SAF_RUN_TXID, F.SAF_RUN_STATE, F.SAF_RTGT_F]
  rw [safShow_eq, getF_setF_other (Fld.key_ne_same (by decide)), getF_setF_other (Fld.key_ne_same (by decide)), showRunning, hr]
  refine ⟨State.getF_setFs_mem (p := (F.SAF_RUN_TXID, b.txid)) (by simp) hl x, fun hh => ?_⟩
  refine (State.getF_setFs_mem (p := (F.SAF_RUN_STATE, (s.safOf x).runState b false)) (by simp) hl x).trans ?_
  rw [SafSt.runState, hh]
  rfl

theorem State.safShow_indoubt (h : (s.safOf x).dbt = []) : (s.safShow x).getF F.SAF_STAT_INDOUBT x = 0 := by
  rw [safShow_eq, h]
  exact State.getF_setF_same ..

theorem SafOnly.showOpn (h : SafOnly s t) (hx : x < 1048576) {o : Option SafBuf} : SafOnly s (t.showOpn x o) := by
  cases o <;> exact h.setFs (by decide : [F.SAF_OPEN_TXID, F.SAF_OPEN_STATE, F.SAF_STGN_N] ⊆ safFlds) hx

theorem SafOnly.showQue (h : SafOnly s t) (hx : x < 1048576) {o : Option SafBuf} : SafOnly s (t.showQue x o) := by
  cases o <;> exact h.setFs (by decide : [F.SAF_QUE_TXID, F.SAF_QUE_STATE] ⊆ safFlds) hx

theorem SafOnly.showRunning (h : SafOnly s t) (hx : x < 1048576) {a : SafSt} : SafOnly s (t.showRunning x a) := by
  unfold State.showRunning
  split
  · exact h.setFs (by decide : [F.SAF_RUN_TXID, F.SAF_RUN_STATE, F.SAF_RTGT_F] ⊆ safFlds) hx
  · exact h.setFs (by decide : [F.SAF_RUN_TXID, F.SAF_RUN_STATE] ⊆ safFlds) hx

theorem SafOnly.safShow (h : SafOnly s t) (hx : x < 1048576) : SafOnly s (t.safShow x) := by
  rw [State.safShow_eq]
  exact ((h.showOpn hx).showQue hx |>.showRunning hx).setF (by decide) hx

@[simp] theorem State.safOf_safShow (s : State) (x y : Nat) : (s.safShow x).safOf y = s.safOf y := by
  have hopn (u : State) (o : Option SafBuf) : (u.showOpn x o).safOf y = u.safOf y := by
    cases o <;> exact State.safOf_setFs ..
  have hque (u : State) (o : Option SafBuf) : (u.showQue x o).safOf y = u.safOf y := by
    cases o <;> exact State.safOf_setFs ..
  have hrun (u : State) (a : SafSt) : (u.showRunning x a).safOf y = u.safOf y := by
    unfold showRunning
    split <;> exact State.safOf_setFs ..
  rw [safShow_eq, safOf_setF, hrun, hque, hopn]

/-! ### A transaction is finished (R294) -/

/-- What `safLast` sets beside SAF_LAST. -/
def State.lastFlag (s : State) (x code : Nat) : State :=
  if code = 6 then s.setF F.SAF_STAT_SUPERSEDED x 1
  else if code = 3 ∨ code = 4 ∨ code = 5 ∨ code = 7 ∨ code = 9 then s.setF F.SAF_STAT_ABORTED x 1 else s

theorem State.safLast_eq (s : State) (x txid code chip reason : Nat) : s.safLast x txid code chip reason =
    ((s.setFs x [(F.SAF_LAST_TXID, txid), (F.SAF_LAST_OUTCOME, code), (F.SAF_LAST_NOCHIP, chip), (F.SAF_LAST_NOREASON, reason)]).lastFlag
      x code).raiseVf x 13 := rfl

theorem SafOnly.safLast (h : SafOnly s t) (hx : x < 1048576) {txid code chip reason : Nat} :
    SafOnly s (t.safLast x txid code chip reason) := by
  rw [State.safLast_eq]
  have h1 := h.setFs (l := [(F.SAF_LAST_TXID, txid), (F.SAF_LAST_OUTCOME, code), (F.SAF_LAST_NOCHIP, chip), (F.SAF_LAST_NOREASON, reason)])
    (by decide : [F.SAF_LAST_TXID, F.SAF_LAST_OUTCOME, F.SAF_LAST_NOCHIP, F.SAF_LAST_NOREASON] ⊆ safFlds) hx
  exact ((h1.setF (by decide) hx).ite ((h1.setF (by decide) hx).ite h1)).raise hx

@[simp] theorem State.safOf_safLast (s : State) (x txid code chip reason y : Nat) : (s.safLast x txid code chip reason).safOf y = s.safOf y := by
  rw [safLast_eq, State.raiseVf, safOf_raise, lastFlag]
  split
  · rw [safOf_setF, safOf_setFs]
  · split
    · rw [safOf_setF, safOf_setFs]
    · rw [safOf_setFs]

theorem State.getF_lastFlag {f : Fld} (h1 : f.id ≠ F.SAF_STAT_SUPERSEDED.id) (h2 : f.id ≠ F.SAF_STAT_ABORTED.id) (code : Nat) :
    (s.lastFlag x code).getF f x = s.getF f x := by
  unfold lastFlag
  split
  · exact getF_setF_other (Fld.key_ne_same h1)
  · split
    · exact getF_setF_other (Fld.key_ne_same h2)
    · rfl

theorem State.getF_raise {f : Fld} {i n k : Nat} (h1 : f.id ≠ F.HST_EVT_EVT.id) (h2 : f.id ≠ F.MSIX_PBA_PEND.id) (hi : i < 1048576)
    (hn : n < 1048576) : (s.raise n k).getF f i = s.getF f i :=
  (State.raise_regs s n k).getF (by simpa using ⟨Fld.key_ne h1 hi hn, Fld.key_ne h2 hi hn⟩)

/-- What SAF_LAST and SAF_STAT show. -/
structure Lasts (x txid code : Nat) (t : State) : Prop where
  txid : t.getF F.SAF_LAST_TXID x = txid % 2 ^ 16
  outcome : t.getF F.SAF_LAST_OUTCOME x = code % 16
  superseded : code = 6 → t.getF F.SAF_STAT_SUPERSEDED x = 1
  aborted : code = 5 → t.getF F.SAF_STAT_ABORTED x = 1

theorem State.safLast_lasts (s : State) {x : Nat} (hx : x < 1048576) (txid code chip reason : Nat) :
    Lasts x txid code (s.safLast x txid code chip reason) := by
  have hl : ([(F.SAF_LAST_TXID, txid), (F.SAF_LAST_OUTCOME, code), (F.SAF_LAST_NOCHIP, chip), (F.SAF_LAST_NOREASON, reason)].map fun p =>
      p.1.id).Nodup := by
    simp [F.SAF_LAST_TXID, F.SAF_LAST_OUTCOME, F.SAF_LAST_NOCHIP, F.SAF_LAST_NOREASON]
  rw [safLast_eq, State.raiseVf]
  refine ⟨?_, ?_, fun hc => ?_, fun hc => ?_⟩
  · rw [getF_raise (by decide) (by decide) hx hx, getF_lastFlag (by decide) (by decide)]
    exact State.getF_setFs_mem (p := (F.SAF_LAST_TXID, txid)) (by simp) hl x
  · rw [getF_raise (by decide) (by decide) hx hx, getF_lastFlag (by decide) (by decide)]
    exact State.getF_setFs_mem (p := (F.SAF_LAST_OUTCOME, code)) (by simp) hl x
  · rw [getF_raise (by decide) (by decide) hx hx, hc, lastFlag, if_pos rfl]
    exact State.getF_setF_same ..
  · rw [getF_raise (by decide) (by decide) hx hx, hc, lastFlag, if_neg (by decide), if_pos (by decide)]
    exact State.getF_setF_same ..

theorem Lasts.of_getF {txid code : Nat} (h : Lasts x txid code s)
    (hg : ∀ f ∈ [F.SAF_LAST_TXID, F.SAF_LAST_OUTCOME, F.SAF_STAT_SUPERSEDED, F.SAF_STAT_ABORTED], t.getF f x = s.getF f x) :
    Lasts x txid code t :=
  ⟨(hg _ (by decide)).trans h.txid, (hg _ (by decide)).trans h.outcome, fun hc => (hg _ (by decide)).trans (h.superseded hc),
    fun hc => (hg _ (by decide)).trans (h.aborted hc)⟩

theorem Lasts.modSaf {txid code : Nat} (h : Lasts x txid code s) {y : Nat} {f : SafSt → SafSt} : Lasts x txid code (s.modSaf y f) :=
  h.of_getF fun _ _ => rfl

theorem Lasts.safShow {txid code : Nat} (h : Lasts x txid code s) : Lasts x txid code (s.safShow x) :=
  h.of_getF fun f hf => State.getF_safShow
    ((by decide : ∀ f ∈ [F.SAF_LAST_TXID, F.SAF_LAST_OUTCOME, F.SAF_STAT_SUPERSEDED, F.SAF_STAT_ABORTED], f.id ∉ shownFlds.map Fld.id) f hf)

/-! ### The leader's transactions end -/

/-- The record of an outcome. -/
def SafSt.noted (t : SafSt) (txid : Nat) (committed : Bool) (beat : Nat) : SafSt :=
  { t with last := ((txid, committed, beat) :: t.last.filter (fun p => p.1 != txid)).take 8 }

@[simp] theorem State.safOf_safNote (s : State) (x txid : Nat) (committed : Bool) (beat : Nat) :
    (s.safNote x txid committed beat).safOf x = (s.safOf x).noted txid committed beat := safOf_modSaf ..

theorem SafOnly.safNote (h : SafOnly s t) {txid beat : Nat} {committed : Bool} : SafOnly s (t.safNote x txid committed beat) := h.modSaf

theorem SafOnly.sendMembers (h : SafOnly s t) (hx : x < 1048576) {m : Msg} : SafOnly s (t.sendMembers x m) :=
  h.sent (FabSteps.refl.sendMembers hx)

theorem SafOnly.safEnd (h : SafOnly s t) (hx : x < 1048576) {txid code chip reason : Nat} : SafOnly s (t.safEnd x txid code chip reason) :=
  ((h.sendMembers hx).safNote).safLast hx

theorem State.safOf_safEnd (s : State) {x : Nat} (hx : x < 1048576) (txid code chip reason : Nat) :
    (s.safEnd x txid code chip reason).safOf x = (s.safOf x).noted txid false 0 := by
  rw [safEnd, safOf_safLast, safOf_safNote, safOf_sendMembers s hx]

theorem State.safEnd_lasts (s : State) {x : Nat} (hx : x < 1048576) (txid code chip reason : Nat) :
    Lasts x txid code (s.safEnd x txid code chip reason) := State.safLast_lasts _ hx ..

end Sys2Proof.Machine
end

section
/-! SUPPORT. The leader begins a transaction and judges its own vote (R285, R286). -/

namespace Sys2Proof.Machine

variable {s t u : State} {x k : Nat} {b p : SafBuf} {l : SafLead}

/-! ### A VF's order that acts -/

theorem fnIsSite_self (x : Fin 16) : fnIsSite (.vf x) x.val = true := by simp [fnIsSite]

theorem State.fnSite_of_hostFree {x : Fin 16} (h : s.hostFree x) (o : Order) : (s.ordered x.val o).fnSite (.vf x) x.val = true := by
  rw [State.fnSite_ordered, State.fnSite, fnIsSite_self, h.1]
  rfl

/-- A write of the site's VF, with no other order on record, acts. -/
theorem State.hostOrder_acts {x : Fin 16} (h : s.hostFree x) (d : RegDesc) (ix val : Nat) (f : State → Res) :
    ∃ o, s.hostOrder (.vf x) (fnIsSite (.vf x) x.val) d ix val (fun s => if !s.fnSite (.vf x) x.val then ok s else f s) =
      f (s.ordered x.val o) := by
  rw [fnIsSite_self, State.hostOrder_of_hostFree h]
  refine ⟨_, if_neg ?_⟩
  rw [State.fnSite_of_hostFree h]
  decide

theorem SafOnly.ordered (s : State) (x : Nat) (o : Order) : SafOnly s (s.ordered x o) := by
  refine ⟨rfl, fun _ _ _ _ => rfl, rfl, fun y => ?_⟩
  by_cases hy : y = x
  · subst hy
    exact (congrArg SiteSt.nextB (State.siteOf_modSite_same ..) :)
  · exact congrArg SiteSt.nextB (State.siteOf_modSite_other hy)

@[simp] theorem State.safOf_ordered (s : State) (x : Nat) (o : Order) : (s.ordered x o).safOf x = s.safOf x :=
  (congrArg SiteSt.saf (State.siteOf_modSite_same ..) :)

/-! ### A vote reads no transaction -/

theorem State.voteOn_modSite (s : State) (y : Nat) (f : SiteSt → SiteSt) (x : Nat) (b : SafBuf) :
    (s.modSite y f).voteOn x b = s.voteOn x b := rfl

theorem State.safTarget_modSite (s : State) (y : Nat) (f : SiteSt → SiteSt) (x tgt : Nat) (b : SafBuf) :
    (s.modSite y f).safTarget x tgt b = s.safTarget x tgt b := rfl

theorem State.stageable_modSite (s : State) (y : Nat) (f : SiteSt → SiteSt) (x a : Nat) :
    (s.modSite y f).stageable x a = s.stageable x a := rfl

/-- The bits of a buffer that do not stand in its writes do not bear on its instants. -/
theorem State.lOver_congr (h : p.writes = b.writes) (f : Nat) : s.lOver x f p = s.lOver x f b := by
  have hb (j : Nat) : p.beat x j = b.beat x j := by rw [SafBuf.beat, SafBuf.beat, h]
  simp only [State.lOver, State.lNs, State.xNs, State.beatNs, State.blenAfter, State.gapAfter, SafBuf.anchor, hb]

/-! ### A vote on a running transaction (R286) -/

theorem State.lPast_of_run (hr : (s.safOf x).run = some b) (l : SafLead) : s.lPast x l = s.lOver x l.beat b := by
  rw [State.lPast, hr]

/-- A transaction whose L lies behind is deferred, or where it was deferred already ended. -/
def State.clockOnce (s : State) (x : Nat) : State :=
  match (s.safOf x).lead with
  | some l => if l.decided || !s.lPast x l then s else if l.deferred then s.safAbortRun x 4 0 0 else s.safDefer x l
  | none => s

theorem State.safClock_eq (s : State) (x : Nat) : s.safClock x = (s.clockOnce x).clockOnce x := rfl

theorem State.clockOnce_ahead (hl : (s.safOf x).lead = some l) (hp : s.lPast x l = false) : s.clockOnce x = s := by
  rw [clockOnce, hl]
  exact if_pos (by rw [hp, Bool.not_false, Bool.or_true])

theorem State.clockOnce_behind (hl : (s.safOf x).lead = some l) (hd : l.decided = false) (hf : l.deferred = false)
    (hp : s.lPast x l = true) : s.clockOnce x = s.safDefer x l := by
  rw [clockOnce, hl]
  exact (if_neg (by rw [hd, hp]; decide)).trans (if_neg (by rw [hf]; decide))

/-- A transaction whose L lies ahead stays as it is. -/
theorem State.safClock_ahead (hl : (s.safOf x).lead = some l) (hp : s.lPast x l = false) : s.safClock x = s := by
  rw [safClock_eq, clockOnce_ahead hl hp, clockOnce_ahead hl hp]

/-- One whose L lies behind is deferred, and waits for the L of the next beat. -/
theorem State.safClock_behind {m : SafLead} (hl : (s.safOf x).lead = some l) (hd : l.decided = false) (hf : l.deferred = false)
    (hp : s.lPast x l = true) (hm : ((s.safDefer x l).safOf x).lead = some m) (hmp : (s.safDefer x l).lPast x m = false) :
    s.safClock x = s.safDefer x l := by
  rw [safClock_eq, clockOnce_behind hl hd hf hp, clockOnce_ahead hm hmp]

/-- The leader's record with one more YES. -/
def SafLead.voted (l : SafLead) (chip : Nat) : SafLead := { l with yes := if l.yes.contains chip then l.yes else chip :: l.yes }

theorem State.safVote_yes {chip : Nat} (hc : s.safClock x = t) (hl : (t.safOf x).lead = some l) (hd : l.decided = false) :
    s.safVote x chip 0 = if (t.members x).all (fun c => (l.voted chip).yes.contains c) then
      (t.modSaf x (fun q => { q with lead := some (l.voted chip) })).safCommit x (l.voted chip)
    else t.modSaf x (fun q => { q with lead := some (l.voted chip) }) := by
  unfold State.safVote
  dsimp only
  rw [hc, hl]
  exact (if_neg (by rw [hd]; decide)).trans (if_neg (by decide))

/-- All votes are YES: the leader's own buffer is to apply at the target. -/
theorem State.safCommit_now (hx : x < 1048576) (hr : (s.safOf x).run = some b)
    (hc : l.deferred = false ∨ s.lPast x { l with beat := beatBack l.beat } = true) :
    SafOnly s (s.safCommit x l) ∧ ((s.safCommit x l).safOf x).opn = (s.safOf x).opn ∧
      ((s.safCommit x l).safOf x).openRej = (s.safOf x).openRej ∧
      ((s.safCommit x l).safOf x).run = some { b with held := true, target := l.beat, deferred := l.deferred } := by
  have hn : ¬ (l.deferred && l.ns == s.nowNs && !s.lPast x { l with beat := beatBack l.beat }) = true := by
    obtain h | h := hc <;> simp [h]
  have he : s.safCommit x l = (s.sendMembers x (.commit l.txid l.beat)).safDecide x l (s.safOf x).run := if_neg hn
  have hs : (s.safCommit x l).safOf x = SafSt.noted { s.safOf x with
      lead := some { l with decided := true, ns := (s.sendMembers x (.commit l.txid l.beat)).nowNs },
      run := some { b with held := true, target := l.beat, deferred := l.deferred } } l.txid true l.beat := by
    rw [he, State.safDecide, State.safOf_safNote, State.safOf_modSaf, State.safOf_sendMembers s hx, hr]
    rfl
  refine ⟨?_, ?_⟩
  · rw [he]
    exact ((SafOnly.refl s).sendMembers hx).modSaf.safNote
  · rw [hs]
    exact ⟨rfl, rfl, rfl⟩

/-! ### PREPARE on the leader (R285) -/

/-- The transaction runs with the leader's own buffer, and PREPARE is out. -/
def State.safBegun (s : State) (x f : Nat) (b : SafBuf) : State :=
  ((s.peersOf x).filter (fun c => (s.peer c).isSome)).foldl (fun a c => a.sendSite x c (.prepare b.txid f))
    ((s.modSaf x (fun t => { t with
      run := some { b with frozen := true, prepared := true, target := f }, lead := some { txid := b.txid, beat := f } })).setF
      F.SAF_RTGT_F x f)

theorem State.safBegin_yes {tgt f : Nat} (ht : s.safTarget x tgt b = some f) (hv : s.voteOn x b = 0)
    (hp : ∀ c ∈ s.peersOf x, (s.peer c).isSome = true) : s.safBegin x tgt b = (s.safBegun x f b).safVote x s.chipNo 0 := by
  have hf : (s.peersOf x).find? (fun c => (s.peer c).isNone) = none := List.find?_eq_none.2 fun c hc => by
    simpa [Option.isSome_iff_ne_none] using hp c hc
  unfold State.safBegin
  rw [ht]
  dsimp only
  rw [hv, hf]
  rfl

theorem State.safBegin_badTarget {tgt : Nat} (ht : s.safTarget x tgt b = none) : s.safBegin x tgt b = s.safEnd x b.txid 7 0 0 := by
  unfold State.safBegin
  rw [ht]

/-- The buffer that a transaction runs with. -/
def SafBuf.runs (b : SafBuf) (f : Nat) : SafBuf := { b with frozen := true, prepared := true, target := f }

/-- What stands once PREPARE is out. -/
theorem State.safBegun_spec (s : State) (hx : x < 1048576) (f : Nat) (b : SafBuf) : SafOnly s (s.safBegun x f b) ∧
    (s.safBegun x f b).safOf x = { s.safOf x with run := some (b.runs f), lead := some { txid := b.txid, beat := f } } := by
  have hsent : FabSteps false ((s.modSaf x (fun t => { t with
      run := some { b with frozen := true, prepared := true, target := f }, lead := some { txid := b.txid, beat := f } })).setF
      F.SAF_RTGT_F x f) (s.safBegun x f b) := FabSteps.refl.foldl_mem fun _ h => h.sendSite hx
  refine ⟨((SafOnly.refl s).modSaf.setF (by decide) hx).sent hsent, ?_⟩
  rw [hsent.safOf, State.safOf_setF, State.safOf_modSaf]
  rfl

/-! ### The beat before the next one -/

theorem beatBack_next (f : Nat) : beatBack ((f + 1) % 4294967296) = f % 4294967296 := by
  unfold beatBack
  omega

/-- A target ahead of the running beat is no earlier than its low 32 bits say. -/
theorem sext_mod_le {f n : Nat} (h1 : 1 ≤ (f + 4294967296 - n) % 4294967296) (h2 : (f + 4294967296 - n) % 4294967296 < 2147483648) :
    sext 32 (f % 4294967296 + 8589934592 - n - 1) ≤ sext 32 (f + 8589934592 - n - 1) := by
  simp only [sext, Nat.reducePow, Nat.reduceSub]
  split_ifs <;> omega

theorem sext_sub_self (f : Nat) : sext 32 (f % 4294967296 + 4294967296 - f) = sext 32 (f + 4294967296 - f) := by
  simp only [sext, Nat.reducePow, Nat.reduceSub]
  split_ifs <;> omega

/-- The low 32 bits of a target stand for an instant that is not later. -/
theorem State.beatNs_mod_le {tgt f : Nat} {n : Int} (ht : s.safTarget x tgt b = some f) (hn : s.beatNs x f b = some n) :
    ∃ m, s.beatNs x (f % 4294967296) b = some m ∧ m ≤ n := by
  unfold State.safTarget at ht
  unfold State.beatNs at hn ⊢
  by_cases hr : s.beatsRun x = true
  · rw [if_pos hr] at ht hn ⊢
    dsimp only at ht
    split at ht
    next hd =>
      cases ht
      cases hn
      refine ⟨_, rfl, ?_⟩
      have hle := mul_le_mul_of_nonneg_right (sext_mod_le hd.1 hd.2) (Int.natCast_nonneg (s.getF F.SITE_BLEN_BLEN x))
      omega
    next => cases ht
  · rw [if_neg hr] at ht hn ⊢
    cases ha : b.anchor x with
    | none =>
      rw [ha] at hn
      cases hn
    | some q =>
      rw [ha] at ht hn
      dsimp only at ht
      split at ht
      next =>
        cases ht
        cases hn
        refine ⟨_, rfl, le_of_eq ?_⟩
        dsimp only
        rw [sext_sub_self]
      next => cases ht

/-- The L of the beat before the next one lies behind where the target's own does. -/
theorem State.lOver_beatBack {tgt f : Nat} (ht : s.safTarget x tgt b = some f) (h : s.lOver x f b = true) :
    s.lOver x (beatBack ((f + 1) % 4294967296)) b = true := by
  rw [beatBack_next]
  unfold State.lOver State.lNs State.xNs at h ⊢
  cases hn : s.beatNs x f b with
  | none =>
    rw [hn] at h
    cases h
  | some n =>
    obtain ⟨m, hm, hle⟩ := State.beatNs_mod_le ht hn
    rw [hn] at h
    rw [hm]
    simp only [Option.map_some, decide_eq_true_eq] at h ⊢
    omega

end Sys2Proof.Machine
end

section
/-! SUPPORT. What the host does with Saffron: OPEN, staging, PREPARE, ABORT and RESOLVE (R283 to R294). -/

namespace Sys2Proof.Machine

variable {s t u : State} {x : Fin 16} {b p : SafBuf} {l : SafLead} {o : Order}

theorem Fin.site_lt (x : Fin 16) : x.val < 1048576 := by omega

/-- A refusal changes nothing but its bit. -/
theorem ctlRej_spec (s : State) (x : Fin 16) (o : Order) : ((s.ordered x.val o).ctlRej x.val).getF F.SAF_STAT_CTL_REJ x.val = 1 ∧
    ((s.ordered x.val o).ctlRej x.val).safOf x.val = s.safOf x.val ∧
    SiteOnly x.val [F.SAF_STAT_CTL_REJ.key x.val] s ((s.ordered x.val o).ctlRej x.val) :=
  ⟨State.getF_setF_same .., State.safOf_ordered .., (s.ordered_siteOnly x.val o _).setF List.mem_cons_self⟩

/-! ### OPEN (R283) -/

theorem exec_safOpen (h : s.hostFree x) : ∃ o, exec (.safOpen (.vf x) x) s =
    if !s.isLeader x.val then .next ((s.ordered x.val o).ctlRej x.val)
    else if (s.safOf x.val).opn.isSome then .next (((s.ordered x.val o).modSaf x.val (fun t => { t with
      openRej := some (s.nowNs, s.getF F.SAF_STAT_CTL_REJ x.val) })).ctlRej x.val)
    else .next ((s.ordered x.val o).safOpenNew x.val) := by
  obtain ⟨o, ho⟩ := State.hostOrder_acts h R.SAF_CTL x.val 1 fun s => if !s.isLeader x.val then ok (s.ctlRej x.val)
    else if (s.safOf x.val).opn.isSome then ok ((s.modSaf x.val (fun t => { t with
      openRej := some (s.nowNs, s.getF F.SAF_STAT_CTL_REJ x.val) })).ctlRej x.val)
    else ok (s.safOpenNew x.val)
  refine ⟨o, Eq.trans ho ?_⟩
  rw [State.safOf_ordered]
  rfl

theorem safOpen_opens (h : s.hostFree x) (hl : s.isLeader x.val = true) (hn : (s.safOf x.val).opn = none) :
    ∃ t, exec (.safOpen (.vf x) x) s = .next t ∧
      t.safOf x.val = { s.safOf x.val with opn := some { txid := (s.safOf x.val).nextTx },
                                           nextTx := ((s.safOf x.val).nextTx + 1) % 65536 } ∧
      t.getF F.SAF_OPEN_TXID x.val = (s.safOf x.val).nextTx % 2 ^ F.SAF_OPEN_TXID.width ∧ t.getF F.SAF_OPEN_STATE x.val = 1 ∧
      t.getF F.SAF_STGN_N x.val = 0 ∧ t.getF F.SAF_SWAP_MASK x.val = 0 ∧ s.sameMems t := by
  obtain ⟨o, he⟩ := exec_safOpen h
  rw [hl, hn] at he
  refine ⟨_, he, ?_⟩
  have hx := Fin.site_lt x
  unfold State.safOpenNew
  extract_lets n s1
  have hn : n = (s.safOf x.val).nextTx := congrArg SafSt.nextTx (State.safOf_ordered ..)
  have h1 : SafOnly s s1 := ((SafOnly.ordered s x.val o).modSaf).setF (by decide) hx
  have hsaf : s1.safOf x.val = { s.safOf x.val with opn := some { txid := n }, nextTx := (n + 1) % 65536 } := by
    refine (State.safOf_setF ..).trans ((State.safOf_modSaf ..).trans ?_)
    rw [State.safOf_ordered]
  have hsw : (s1.sendMembers x.val (.opn n)).getF F.SAF_SWAP_MASK x.val = 0 :=
    ((FabSteps.refl.sendMembers (top := false) hx).getF (by decide) hx).trans (State.getF_setF_same ..)
  have hs2 := (State.safOf_sendMembers s1 hx (.opn n) x.val).trans hsaf
  have hopn : ((s1.sendMembers x.val (.opn n)).safOf x.val).opn = some { txid := n } := by rw [hs2]
  obtain ⟨htx, hst, hnum⟩ := State.safShow_opn hopn
  refine ⟨?_, hn ▸ htx, hst, hnum, (State.getF_safShow (by decide)).trans hsw, ((h1.sendMembers hx).safShow hx).sameMems⟩
  rw [State.safOf_safShow, hs2, hn]

theorem safOpen_member (h : s.hostFree x) (hl : s.isLeader x.val = false) : ∃ t, exec (.safOpen (.vf x) x) s = .next t ∧
    t.getF F.SAF_STAT_CTL_REJ x.val = 1 ∧ t.safOf x.val = s.safOf x.val ∧ SiteOnly x.val [F.SAF_STAT_CTL_REJ.key x.val] s t := by
  obtain ⟨o, he⟩ := exec_safOpen h
  rw [hl] at he
  exact ⟨_, he, ctlRej_spec s x o⟩

theorem safOpen_again (h : s.hostFree x) (hl : s.isLeader x.val = true) (hn : (s.safOf x.val).opn.isSome = true) :
    ∃ t, exec (.safOpen (.vf x) x) s = .next t ∧ t.getF F.SAF_STAT_CTL_REJ x.val = 1 ∧
      (t.safOf x.val).opn = (s.safOf x.val).opn ∧ (t.safOf x.val).nextTx = (s.safOf x.val).nextTx ∧
      SiteOnly x.val [F.SAF_STAT_CTL_REJ.key x.val] s t := by
  obtain ⟨o, he⟩ := exec_safOpen h
  rw [hl, hn] at he
  have hs : (((s.ordered x.val o).modSaf x.val (fun t => { t with
      openRej := some (s.nowNs, s.getF F.SAF_STAT_CTL_REJ x.val) })).ctlRej x.val).safOf x.val =
        { s.safOf x.val with openRej := some (s.nowNs, s.getF F.SAF_STAT_CTL_REJ x.val) } := by
    refine (State.safOf_setF ..).trans ((State.safOf_modSaf ..).trans ?_)
    rw [State.safOf_ordered]
  exact ⟨_, he, State.getF_setF_same .., (congrArg SafSt.opn hs :), (congrArg SafSt.nextTx hs :),
    (s.ordered_siteOnly x.val o _).modSite.setF List.mem_cons_self⟩

/-! ### Staging (R284) -/

/-- A word is staged. -/
def SafBuf.staged (b : SafBuf) (a data : Nat) : SafBuf := { b with writes := b.writes ++ [(a, data % 4294967296)] }

/-- May the open buffer take a word? -/
def State.takes (s : State) (x : Nat) : Option SafBuf :=
  match (s.safOf x).opn with
  | some b => if s.stageable x (s.getF F.SAF_STGA_ADDR x) && decide (b.writes.length < 1024) then some b else none
  | none => none

theorem exec_safStage (h : s.hostFree x) (data : Nat) : ∃ o, exec (.safStage (.vf x) x data) s = .next (match s.takes x.val with
    | some b => ((((s.ordered x.val o).setF F.SAF_STGD_DATA x.val data).modSaf x.val (fun t => { t with
        opn := some (b.staged (s.getF F.SAF_STGA_ADDR x.val) data) })).safShow x.val)
    | none => ((s.ordered x.val o).setF F.SAF_STGD_DATA x.val data).setF F.SAF_STAT_STG_REJ x.val 1) := by
  obtain ⟨o, ho⟩ := State.hostOrder_acts h R.SAF_STGD x.val data fun s =>
    let addr := s.getF F.SAF_STGA_ADDR x.val
    let s1 := s.setF F.SAF_STGD_DATA x.val data
    match (s.safOf x.val).opn with
    | some b =>
      if s.stageable x.val addr && decide (b.writes.length < 1024) then
        ok ((s1.modSaf x.val (fun t => { t with
          opn := some { b with writes := b.writes ++ [(addr, data % 4294967296)] } })).safShow x.val)
      else ok (s1.setF F.SAF_STAT_STG_REJ x.val 1)
    | none => ok (s1.setF F.SAF_STAT_STG_REJ x.val 1)
  refine ⟨o, Eq.trans ho ?_⟩
  dsimp only
  rw [State.safOf_ordered]
  unfold State.takes
  cases (s.safOf x.val).opn with
  | none => rfl
  | some b =>
    have hst : (s.ordered x.val o).stageable x.val ((s.ordered x.val o).getF F.SAF_STGA_ADDR x.val) =
        s.stageable x.val (s.getF F.SAF_STGA_ADDR x.val) := rfl
    dsimp only
    rw [hst]
    by_cases hc : (s.stageable x.val (s.getF F.SAF_STGA_ADDR x.val) && decide (b.writes.length < 1024)) = true
    · rw [if_pos hc, if_pos hc]
      rfl
    · rw [if_neg hc, if_neg hc]
      rfl

theorem safStage_stages (data : Nat) (h : s.hostFree x) (b : SafBuf) (hb : (s.safOf x.val).opn = some b)
    (hs : s.stageable x.val (s.getF F.SAF_STGA_ADDR x.val) = true) (hw : b.writes.length < 1024) :
    ∃ t, exec (.safStage (.vf x) x data) s = .next t ∧
        t.safOf x.val = { s.safOf x.val with
                          opn := some { b with writes := b.writes ++ [(s.getF F.SAF_STGA_ADDR x.val, data % 4294967296)] } } ∧
        t.getF F.SAF_STGD_DATA x.val = data % 4294967296 ∧
        t.getF F.SAF_STGN_N x.val = (b.writes.length + 1) % 2 ^ F.SAF_STGN_N.width ∧ s.sameMems t := by
  obtain ⟨o, he⟩ := exec_safStage h data
  have ht : s.takes x.val = some b := by
    rw [State.takes, hb]
    exact if_pos (by rw [hs, decide_eq_true hw]; rfl)
  rw [ht] at he
  refine ⟨_, he, ?_⟩
  dsimp only
  have hsaf : (((s.ordered x.val o).setF F.SAF_STGD_DATA x.val data).modSaf x.val (fun t => { t with
      opn := some (b.staged (s.getF F.SAF_STGA_ADDR x.val) data) })).safOf x.val =
        { s.safOf x.val with opn := some (b.staged (s.getF F.SAF_STGA_ADDR x.val) data) } := by
    refine (State.safOf_modSaf ..).trans ?_
    rw [State.safOf_setF, State.safOf_ordered]
  have hm : s.sameMems (((s.ordered x.val o).setF F.SAF_STGD_DATA x.val data).modSaf x.val (fun t => { t with
      opn := some (b.staged (s.getF F.SAF_STGA_ADDR x.val) data) })) := ⟨rfl, rfl, rfl, rfl, rfl, rfl, rfl, rfl⟩
  have hd : (((s.ordered x.val o).setF F.SAF_STGD_DATA x.val data).modSaf x.val (fun t => { t with
      opn := some (b.staged (s.getF F.SAF_STGA_ADDR x.val) data) })).getF F.SAF_STGD_DATA x.val = data % 4294967296 :=
    State.getF_setF_same ..
  revert hsaf hm hd
  generalize (((s.ordered x.val o).setF F.SAF_STGD_DATA x.val data).modSaf x.val (fun t => { t with
      opn := some (b.staged (s.getF F.SAF_STGA_ADDR x.val) data) })) = v
  intro hsaf hm hd
  obtain ⟨-, -, hnum⟩ := State.safShow_opn (s := v) (congrArg SafSt.opn hsaf :)
  refine ⟨(State.safOf_safShow ..).trans hsaf, (State.getF_safShow (by decide)).trans hd, hnum.trans ?_,
    hm.trans ((SafOnly.refl v).safShow (Fin.site_lt x)).sameMems⟩
  simp [SafBuf.staged, F.SAF_STGN_N]

theorem safStage_refused (data : Nat) (h : s.hostFree x) (hn : (s.safOf x.val).opn = none ∨
    s.stageable x.val (s.getF F.SAF_STGA_ADDR x.val) = false ∨ (∀ b, (s.safOf x.val).opn = some b → 1024 ≤ b.writes.length)) :
    ∃ t, exec (.safStage (.vf x) x data) s = .next t ∧ t.getF F.SAF_STAT_STG_REJ x.val = 1 ∧ t.safOf x.val = s.safOf x.val ∧
      SiteOnly x.val (keysAt x.val [F.SAF_STGD_DATA, F.SAF_STAT_STG_REJ]) s t := by
  obtain ⟨o, he⟩ := exec_safStage h data
  have ht : s.takes x.val = none := by
    rw [State.takes]
    cases hb : (s.safOf x.val).opn with
    | none => rfl
    | some b =>
      refine if_neg ?_
      obtain hn | hn | hn := hn
      · rw [hn] at hb
        cases hb
      · rw [hn, Bool.false_and]
        decide
      · simp [Nat.not_lt.2 (hn b hb)]
  rw [ht] at he
  exact ⟨_, he, State.getF_setF_same .., State.safOf_ordered ..,
    ((s.ordered_siteOnly x.val o _).setF List.mem_cons_self).setF (List.mem_cons_of_mem _ List.mem_cons_self)⟩

/-! ### PREPARE (R285, R286, R290) -/

/-- The open buffer, as the leader prepares it. -/
def State.prepares (s : State) (x tgt : Nat) (b0 : SafBuf) : State :=
  let b := s.leaveOpen x b0
  let s1 := s.modSaf x (fun t => { t with opn := none })
  if (s.safOf x).run.isNone ∧ s.safLapsing x = false then (((s1.safBegin x tgt b).safShow x).openAfter x)
  else
    let s2 := match (s.safOf x).que with
      | some q => (s1.modSaf x (fun t => { t with que := none })).safEnd x q.txid 6 0 0
      | none => s1
    (((s2.modSaf x (fun t => { t with que := some b, leadQue := some (b.txid, tgt) })).safShow x).openAfter x)

theorem exec_safPrepare (h : s.hostFree x) : ∃ o, exec (.safPrepare (.vf x) x) s = .next (match s.isLeader x.val, (s.safOf x.val).opn with
    | true, some b => (s.ordered x.val o).prepares x.val (s.getF F.SAF_TGT_F x.val) b
    | _, _ => (s.ordered x.val o).ctlRej x.val) := by
  obtain ⟨o, ho⟩ := State.hostOrder_acts h R.SAF_CTL x.val 2 fun s => match s.isLeader x.val, (s.safOf x.val).opn with
    | true, some b0 =>
      let b := s.leaveOpen x.val b0
      let tgt := s.getF F.SAF_TGT_F x.val
      let s1 := s.modSaf x.val (fun t => { t with opn := none })
      if (s.safOf x.val).run.isNone ∧ s.safLapsing x.val = false then ok (((s1.safBegin x.val tgt b).safShow x.val).openAfter x.val)
      else
        let s2 := match (s.safOf x.val).que with
          | some q => (s1.modSaf x.val (fun t => { t with que := none })).safEnd x.val q.txid 6 0 0
          | none => s1
        ok (((s2.modSaf x.val (fun t => { t with que := some b, leadQue := some (b.txid, tgt) })).safShow x.val).openAfter x.val)
    | _, _ => ok (s.ctlRej x.val)
  refine ⟨o, Eq.trans ho ?_⟩
  have hl : (s.ordered x.val o).isLeader x.val = s.isLeader x.val := rfl
  dsimp only
  rw [hl, State.safOf_ordered]
  cases s.isLeader x.val with
  | false => rfl
  | true =>
    cases (s.safOf x.val).opn with
    | none => rfl
    | some b =>
      unfold State.prepares
      dsimp only
      rw [State.safOf_ordered]
      split <;> rfl

theorem safPrepare_refused (h : s.hostFree x) (hn : s.isLeader x.val = false ∨ (s.safOf x.val).opn = none) :
    ∃ t, exec (.safPrepare (.vf x) x) s = .next t ∧ t.getF F.SAF_STAT_CTL_REJ x.val = 1 ∧ t.safOf x.val = s.safOf x.val ∧
      SiteOnly x.val [F.SAF_STAT_CTL_REJ.key x.val] s t := by
  obtain ⟨o, he⟩ := exec_safPrepare h
  have hc : exec (.safPrepare (.vf x) x) s = .next ((s.ordered x.val o).ctlRej x.val) := by
    refine he.trans (congrArg Host.Outcome.next ?_)
    obtain hn | hn := hn
    · rw [hn]
    · rw [hn]
      cases s.isLeader x.val <;> rfl
  exact ⟨_, hc, ctlRej_spec s x o⟩

end Sys2Proof.Machine
end

section
/-! SUPPORT. PREPARE, ABORT and RESOLVE act (R285 to R290). -/

namespace Sys2Proof.Machine

variable {s t u : State} {x : Fin 16} {b p : SafBuf} {l : SafLead} {o : Order}

/-! ### The open transaction leaves its slot -/

/-- The leader's state with no open transaction. -/
def State.taken (s : State) (x : Nat) (o : Order) : State := (s.ordered x o).modSaf x (fun t => { t with opn := none })

theorem State.taken_only (s : State) (x : Nat) (o : Order) : SafOnly s (s.taken x o) := (SafOnly.ordered s x o).modSaf

theorem State.safOf_taken (s : State) (x : Nat) (o : Order) : (s.taken x o).safOf x = { s.safOf x with opn := none } := by
  refine (State.safOf_modSaf ..).trans ?_
  rw [State.safOf_ordered]

/-- No OPEN of this cycle was refused. -/
theorem State.openAfter_idle {x : Nat} (h : ∀ n old, (s.safOf x).openRej = some (n, old) → n ≠ s.nowNs) : s.openAfter x = s := by
  unfold State.openAfter
  split
  next n old he => exact if_neg (h n old he)
  next => rfl

/-- What PREPARE on the leader leads to when the slot of the running transaction is free. -/
theorem safPrepare_begins (h : s.hostFree x) (hl : s.isLeader x.val = true) (hb : (s.safOf x.val).opn = some b)
    (hr : (s.safOf x.val).run = none) (hlap : s.safLapsing x.val = false) : ∃ o, exec (.safPrepare (.vf x) x) s =
      .next ((((s.taken x.val o).safBegin x.val (s.getF F.SAF_TGT_F x.val) (s.leaveOpen x.val b)).safShow x.val).openAfter x.val) := by
  obtain ⟨o, he⟩ := exec_safPrepare h
  rw [hl, hb] at he
  refine ⟨o, he.trans (congrArg Host.Outcome.next (if_pos ?_))⟩
  have hlap' : (s.ordered x.val o).safLapsing x.val = s.safLapsing x.val := by
    unfold State.safLapsing
    rw [State.safOf_ordered]
    rfl
  rw [State.safOf_ordered, hr, hlap', hlap]
  exact ⟨rfl, rfl⟩

/-- Where the transaction of a PREPARE has begun, and an OPEN refused in this cycle is not waiting. -/
theorem safPrepare_shows {w : State} (he : exec (.safPrepare (.vf x) x) s = .next ((w.safShow x.val).openAfter x.val))
    (hj : ∀ n old, (s.safOf x.val).openRej = some (n, old) → n ≠ s.nowNs) (hw : SafOnly s w)
    (hjw : (w.safOf x.val).openRej = (s.safOf x.val).openRej) : exec (.safPrepare (.vf x) x) s = .next (w.safShow x.val) := by
  have hs := (SafOnly.refl w).safShow (Fin.site_lt x)
  rw [he, State.openAfter_idle]
  rw [State.safOf_safShow, hjw, hs.nowNs, hw.nowNs]
  exact hj

theorem List.all_contains_singleton {l : List Nat} {c : Nat} : l.all (fun a => [c].contains a) = true ↔ ∀ a ∈ l, a = c := by
  simp

/-- The leader's record with its own YES alone. -/
theorem SafLead.voted_first {c : Nat} (h : l.yes = []) : l.voted c = { l with yes := [c] } := by
  simp [SafLead.voted, h]

/-! ### The leader's own vote -/

/-- What stands once the transaction has begun. -/
theorem safBegun_taken (s : State) (x : Fin 16) (o : Order) (f : Nat) (b : SafBuf) :
    SafOnly s ((s.taken x.val o).safBegun x.val f (s.leaveOpen x.val b)) ∧
    ((s.taken x.val o).safBegun x.val f (s.leaveOpen x.val b)).safOf x.val = { s.safOf x.val with
      opn := none, run := some ((s.leaveOpen x.val b).runs f), lead := some { txid := b.txid, beat := f } } := by
  obtain ⟨hg, hgs⟩ := (s.taken x.val o).safBegun_spec (Fin.site_lt x) f (s.leaveOpen x.val b)
  rw [State.safOf_taken] at hgs
  exact ⟨(s.taken_only x.val o).trans hg, hgs⟩

/-- The running transaction's L, of a beat, as the open buffer stands before. -/
theorem SafOnly.lPast {x : Nat} (h : SafOnly s t) (hx : x < 16) (hr : (t.safOf x).run = some p) (hw : p.writes = b.writes) (l : SafLead) :
    t.lPast x l = s.lOver x l.beat b := by
  rw [State.lPast_of_run hr, h.lOver hx]
  exact State.lOver_congr hw _

/-- The transaction as it begins, with a vote that is YES. -/
theorem safBegin_taken {f : Nat} (o : Order) (hv : s.voteOn x.val (s.leaveOpen x.val b) = 0)
    (ht : s.safTarget x.val (s.getF F.SAF_TGT_F x.val) (s.leaveOpen x.val b) = some f)
    (hp : ∀ c ∈ s.peersOf x.val, (s.peer c).isSome = true) :
    (s.taken x.val o).safBegin x.val (s.getF F.SAF_TGT_F x.val) (s.leaveOpen x.val b) =
      ((s.taken x.val o).safBegun x.val f (s.leaveOpen x.val b)).safVote x.val s.chipNo 0 := by
  have ho := s.taken_only x.val o
  have hv' : (s.taken x.val o).voteOn x.val (s.leaveOpen x.val b) = 0 := by
    rw [State.taken, State.modSaf, State.voteOn_modSite, State.ordered, State.voteOn_modSite, hv]
  have ht' : (s.taken x.val o).safTarget x.val (s.getF F.SAF_TGT_F x.val) (s.leaveOpen x.val b) = some f := by
    rw [State.taken, State.modSaf, State.safTarget_modSite, State.ordered, State.safTarget_modSite, ht]
  rw [State.safBegin_yes ht' hv' (by rwa [ho.peersOf x.isLt, ho.peer]), ho.chipNo]

/-- What a PREPARE in time leaves. -/
structure Prepared (x f : Nat) (b : SafBuf) (s w : State) : Prop where
  only : SafOnly s w
  opn : (w.safOf x).opn = none
  openRej : (w.safOf x).openRej = (s.safOf x).openRej
  txid : ∃ p, (w.safOf x).run = some p ∧ p.txid = b.txid
  alone : (∀ c ∈ s.members x, c = s.chipNo) →
    (w.safOf x).run = some { (s.leaveOpen x b).runs f with held := true, target := f, deferred := false }
  waits : (∃ c ∈ s.members x, c ≠ s.chipNo) → (w.safOf x).lead = some { txid := b.txid, beat := f, yes := [s.chipNo] } ∧
    (w.safOf x).run = some ((s.leaveOpen x b).runs f)

/-- The leader's vote reaches it before L(f). -/
theorem safVote_ahead {f : Nat} (o : Order) (hp : s.lOver x.val f b = false) :
    Prepared x.val f b s (((s.taken x.val o).safBegun x.val f (s.leaveOpen x.val b)).safVote x.val s.chipNo 0) := by
  obtain ⟨hg, hgs⟩ := safBegun_taken s x o f b
  revert hg hgs
  generalize (s.taken x.val o).safBegun x.val f (s.leaveOpen x.val b) = g
  intro hg hgs
  have hlead : (g.safOf x.val).lead = some { txid := b.txid, beat := f } := by rw [hgs]
  have hrun : (g.safOf x.val).run = some ((s.leaveOpen x.val b).runs f) := by rw [hgs]
  have hpast : g.lPast x.val { txid := b.txid, beat := f } = false := (hg.lPast x.isLt hrun rfl _).trans hp
  rw [State.safVote_yes (State.safClock_ahead hlead hpast) hlead rfl, SafLead.voted_first rfl, hg.members x.isLt]
  generalize hw : g.modSaf x.val (fun q => { q with lead := some { txid := b.txid, beat := f, yes := [s.chipNo] } }) = w
  have hwo : SafOnly s w := hw ▸ hg.modSaf
  have hws : w.safOf x.val = { s.safOf x.val with
      opn := none, run := some ((s.leaveOpen x.val b).runs f), lead := some { txid := b.txid, beat := f, yes := [s.chipNo] } } := by
    rw [← hw, State.safOf_modSaf, hgs]
  have hwr : (w.safOf x.val).run = some ((s.leaveOpen x.val b).runs f) := by rw [hws]
  by_cases hall : ∀ c ∈ s.members x.val, c = s.chipNo
  · rw [if_pos (List.all_contains_singleton.2 hall)]
    obtain ⟨hc, hopn, hrej, hcr⟩ := State.safCommit_now (l := { txid := b.txid, beat := f, yes := [s.chipNo] }) (Fin.site_lt x) hwr (.inl rfl)
    refine ⟨hwo.trans hc, hopn.trans (by rw [hws]), hrej.trans (by rw [hws]), ⟨_, hcr, rfl⟩, fun _ => hcr, fun ⟨c, hm, hne⟩ => ?_⟩
    exact absurd (hall c hm) hne
  · rw [if_neg fun h => hall (List.all_contains_singleton.1 h)]
    exact ⟨hwo, by rw [hws], by rw [hws], ⟨_, hwr, rfl⟩, fun h => absurd h hall, fun _ => ⟨by rw [hws], hwr⟩⟩

/-- The leader's record of a transaction deferred at `ns` to beat `f`. -/
def laterLead (txid f ns : Nat) : SafLead := { txid := txid, beat := f, deferred := true, ns := ns }

/-- The leader's vote, of a transaction of this chip alone, reaches it between L(f) and L(f + 1): it applies a beat later. -/
theorem safVote_behind {f : Nat} (o : Order)
    (ht : s.safTarget x.val (s.getF F.SAF_TGT_F x.val) (s.leaveOpen x.val b) = some f) (hp : s.lOver x.val f b = true)
    (hn : s.lOver x.val ((f + 1) % 4294967296) b = false) (hall : ∀ c ∈ s.members x.val, c = s.chipNo) {w : State}
    (hw : ((s.taken x.val o).safBegun x.val f (s.leaveOpen x.val b)).safVote x.val s.chipNo 0 = w) :
    SafOnly s w ∧ (w.safOf x.val).openRej = (s.safOf x.val).openRej ∧
      (w.safOf x.val).run = some { (s.leaveOpen x.val b).runs f with held := true, target := (f + 1) % 4294967296, deferred := true } := by
  have hx := Fin.site_lt x
  obtain ⟨hg, hgs⟩ := safBegun_taken s x o f b
  revert hw hg hgs
  generalize (s.taken x.val o).safBegun x.val f (s.leaveOpen x.val b) = g
  intro hw hg hgs
  have hlead : (g.safOf x.val).lead = some { txid := b.txid, beat := f } := by rw [hgs]
  have hrun : (g.safOf x.val).run = some ((s.leaveOpen x.val b).runs f) := by rw [hgs]
  have hpast : g.lPast x.val { txid := b.txid, beat := f } = true := (hg.lPast x.isLt hrun rfl _).trans hp
  generalize hd : g.safDefer x.val { txid := b.txid, beat := f } = d at hw
  have hdo : SafOnly s d := by
    rw [← hd]
    unfold State.safDefer
    exact (hg.sendMembers hx).modSaf
  generalize hm : laterLead b.txid ((f + 1) % 4294967296) g.nowNs = m
  have hds : d.safOf x.val = { s.safOf x.val with
      opn := none, run := some { (s.leaveOpen x.val b).runs f with target := (f + 1) % 4294967296, deferred := true }, lead := some m } := by
    rw [← hd, ← hm, State.safDefer]
    refine (State.safOf_modSaf ..).trans ?_
    rw [State.safOf_sendMembers g hx, hgs]
    rfl
  have hbeat : m.beat = (f + 1) % 4294967296 := hm ▸ rfl
  have hmd : m.decided = false := hm ▸ rfl
  have hmy : m.yes = [] := hm ▸ rfl
  have hmdef : m.deferred = true := hm ▸ rfl
  have hdl : (d.safOf x.val).lead = some m := by rw [hds]
  have hdr : (d.safOf x.val).run = some { (s.leaveOpen x.val b).runs f with target := (f + 1) % 4294967296, deferred := true } := by rw [hds]
  have hdp : d.lPast x.val m = false := (hdo.lPast (b := b) x.isLt hdr rfl m).trans (hbeat ▸ hn)
  have hclock : g.safClock x.val = d := by
    subst hd
    exact State.safClock_behind hlead rfl rfl hpast hdl hdp
  rw [State.safVote_yes hclock hdl hmd, SafLead.voted_first hmy, hdo.members x.isLt, if_pos (List.all_contains_singleton.2 hall)] at hw
  have hvo : SafOnly s (d.modSaf x.val (fun q => { q with lead := some { m with yes := [s.chipNo] } })) := hdo.modSaf
  have hvs : (d.modSaf x.val (fun q => { q with lead := some { m with yes := [s.chipNo] } })).safOf x.val = { s.safOf x.val with
      opn := none, run := some { (s.leaveOpen x.val b).runs f with target := (f + 1) % 4294967296, deferred := true },
      lead := some { m with yes := [s.chipNo] } } := by
    refine (State.safOf_modSaf ..).trans ?_
    rw [hds]
  revert hw hvo hvs
  generalize d.modSaf x.val (fun q => { q with lead := some { m with yes := [s.chipNo] } }) = v
  intro hw hvo hvs
  have hvr : (v.safOf x.val).run = some { (s.leaveOpen x.val b).runs f with target := (f + 1) % 4294967296, deferred := true } := by rw [hvs]
  have hback : v.lPast x.val { { m with yes := [s.chipNo] } with beat := beatBack ({ m with yes := [s.chipNo] } : SafLead).beat } = true := by
    refine (hvo.lPast (b := s.leaveOpen x.val b) x.isLt hvr rfl _).trans ?_
    dsimp only
    rw [hbeat]
    exact State.lOver_beatBack ht ((State.lOver_congr rfl f).trans hp)
  obtain ⟨hc, -, hrej, hcr⟩ := State.safCommit_now (Fin.site_lt x) hvr (.inr hback)
  subst hw
  refine ⟨hvo.trans hc, hrej.trans (by rw [hvs]), hcr.trans ?_⟩
  dsimp only
  rw [hbeat, hmdef]

/-! ### PREPARE with the slot free -/

theorem safPrepare_deferred (h : s.hostFree x) (hl : s.isLeader x.val = true) (hb : (s.safOf x.val).opn = some b)
    (hj : ∀ n old, (s.safOf x.val).openRej = some (n, old) → n ≠ s.nowNs) (f : Nat) (hr : (s.safOf x.val).run = none)
    (hlap : s.safLapsing x.val = false) (hv : s.voteOn x.val (s.leaveOpen x.val b) = 0)
    (ht : s.safTarget x.val (s.getF F.SAF_TGT_F x.val) (s.leaveOpen x.val b) = some f) (hp : s.lOver x.val f b = true)
    (hn : s.lOver x.val ((f + 1) % 4294967296) b = false) (hpe : ∀ c ∈ s.peersOf x.val, (s.peer c).isSome = true)
    (hall : ∀ c ∈ s.members x.val, c = s.chipNo) : ∃ t, exec (.safPrepare (.vf x) x) s = .next t ∧ t.getF F.SAF_RUN_STATE x.val = 6 ∧
        (t.safOf x.val).run = some { b with swap := s.getF F.SAF_SWAP_MASK x.val, frozen := true, prepared := true,
                                            target := (f + 1) % 4294967296, held := true, deferred := true } ∧ s.sameMems t := by
  obtain ⟨o, he⟩ := safPrepare_begins h hl hb hr hlap
  rw [safBegin_taken o hv ht hpe] at he
  obtain ⟨hw, hrej, hrun⟩ := safVote_behind o ht hp hn hall rfl
  exact ⟨_, safPrepare_shows he hj hw hrej, (State.safShow_run hrun).2 rfl, (congrArg SafSt.run (State.safOf_safShow ..)).trans hrun,
    (hw.safShow (Fin.site_lt x)).sameMems⟩

theorem safPrepare_inTime (h : s.hostFree x) (hl : s.isLeader x.val = true) (hb : (s.safOf x.val).opn = some b)
    (hj : ∀ n old, (s.safOf x.val).openRej = some (n, old) → n ≠ s.nowNs) (f : Nat) (hr : (s.safOf x.val).run = none)
    (hlap : s.safLapsing x.val = false) (hv : s.voteOn x.val (s.leaveOpen x.val b) = 0)
    (ht : s.safTarget x.val (s.getF F.SAF_TGT_F x.val) (s.leaveOpen x.val b) = some f) (hp : s.lOver x.val f b = false)
    (hpe : ∀ c ∈ s.peersOf x.val, (s.peer c).isSome = true) : ∃ t, exec (.safPrepare (.vf x) x) s = .next t ∧
        (t.safOf x.val).opn = none ∧ t.getF F.SAF_RUN_TXID x.val = b.txid % 2 ^ F.SAF_RUN_TXID.width ∧ s.sameMems t ∧
        ((∀ c ∈ s.members x.val, c = s.chipNo) → t.getF F.SAF_RUN_STATE x.val = 6 ∧
          (t.safOf x.val).run = some { b with swap := s.getF F.SAF_SWAP_MASK x.val, frozen := true, prepared := true, target := f,
                                              held := true, deferred := false }) ∧
        ((∃ c ∈ s.members x.val, c ≠ s.chipNo) →
          (t.safOf x.val).lead = some { txid := b.txid, beat := f, yes := [s.chipNo] } ∧
          (t.safOf x.val).run = some { b with swap := s.getF F.SAF_SWAP_MASK x.val, frozen := true, prepared := true, target := f }) := by
  obtain ⟨o, he⟩ := safPrepare_begins h hl hb hr hlap
  rw [safBegin_taken o hv ht hpe] at he
  have hw := safVote_ahead (x := x) o hp
  obtain ⟨p, hpr, hpt⟩ := hw.txid
  refine ⟨_, safPrepare_shows he hj hw.only hw.openRej, ?_⟩
  rw [State.safOf_safShow]
  exact ⟨hw.opn, hpt ▸ (State.safShow_run hpr).1, (hw.only.safShow (Fin.site_lt x)).sameMems,
    fun ha => ⟨(State.safShow_run (hw.alone ha)).2 rfl, hw.alone ha⟩, hw.waits⟩

theorem safPrepare_badTarget (h : s.hostFree x) (hl : s.isLeader x.val = true) (hb : (s.safOf x.val).opn = some b)
    (hj : ∀ n old, (s.safOf x.val).openRej = some (n, old) → n ≠ s.nowNs) (hr : (s.safOf x.val).run = none)
    (hlap : s.safLapsing x.val = false) (ht : s.safTarget x.val (s.getF F.SAF_TGT_F x.val) (s.leaveOpen x.val b) = none) :
    ∃ t, exec (.safPrepare (.vf x) x) s = .next t ∧ (t.safOf x.val).opn = none ∧ (t.safOf x.val).run = none ∧
      t.getF F.SAF_LAST_TXID x.val = b.txid % 2 ^ F.SAF_LAST_TXID.width ∧ t.getF F.SAF_LAST_OUTCOME x.val = 7 ∧ s.sameMems t := by
  have hx := Fin.site_lt x
  obtain ⟨o, he⟩ := safPrepare_begins h hl hb hr hlap
  rw [State.safBegin_badTarget (s := s.taken x.val o) ht] at he
  have hs : ((s.taken x.val o).safEnd x.val b.txid 7 0 0).safOf x.val =
      SafSt.noted { s.safOf x.val with opn := none } b.txid false 0 := by
    rw [State.safOf_safEnd _ hx, State.safOf_taken]
  have hlast := ((s.taken x.val o).safEnd_lasts hx b.txid 7 0 0).safShow
  have ho : SafOnly s ((s.taken x.val o).safEnd x.val b.txid 7 0 0) := (s.taken_only x.val o).safEnd hx
  have hsh := State.safOf_safShow ((s.taken x.val o).safEnd x.val b.txid 7 0 0) x.val x.val
  refine ⟨_, safPrepare_shows he hj ho (congrArg SafSt.openRej hs :), ?_, ?_, hlast.txid, hlast.outcome, (ho.safShow hx).sameMems⟩
  · exact (congrArg SafSt.opn hsh).trans (congrArg SafSt.opn hs :)
  · exact (congrArg SafSt.run hsh).trans ((congrArg SafSt.run hs :).trans hr)

/-! ### PREPARE behind a running transaction (R290) -/

/-- The queued transaction before is superseded. -/
def State.supersede (s : State) (x : Nat) (q : Option SafBuf) : State :=
  match q with
  | some q => (s.modSaf x (fun t => { t with que := none })).safEnd x q.txid 6 0 0
  | none => s

theorem safPrepare_queues (h : s.hostFree x) (hl : s.isLeader x.val = true) (hb : (s.safOf x.val).opn = some b)
    (hr : (s.safOf x.val).run.isSome = true ∨ s.safLapsing x.val = true) : ∃ o, exec (.safPrepare (.vf x) x) s =
      .next (((((s.taken x.val o).supersede x.val (s.safOf x.val).que).modSaf x.val (fun t => { t with
        que := some (s.leaveOpen x.val b), leadQue := some (b.txid, s.getF F.SAF_TGT_F x.val) })).safShow x.val).openAfter x.val) := by
  obtain ⟨o, he⟩ := exec_safPrepare h
  rw [hl, hb] at he
  refine ⟨o, he.trans (congrArg Host.Outcome.next ?_)⟩
  have hlap : (s.ordered x.val o).safLapsing x.val = s.safLapsing x.val := by
    unfold State.safLapsing
    rw [State.safOf_ordered]
    rfl
  have hn : ¬ (((s.ordered x.val o).safOf x.val).run.isNone ∧ (s.ordered x.val o).safLapsing x.val = false) := by
    rw [State.safOf_ordered, hlap]
    rintro ⟨h1, h2⟩
    obtain hr | hr := hr
    · rw [Option.isNone_iff_eq_none.1 h1] at hr
      cases hr
    · rw [h2] at hr
      cases hr
  refine (if_neg hn).trans ?_
  rw [State.safOf_ordered]
  cases (s.safOf x.val).que <;> rfl

/-- A queue slot that was free. -/
theorem safPrepare_queued (h : s.hostFree x) (hl : s.isLeader x.val = true) (hb : (s.safOf x.val).opn = some b)
    (hj : ∀ n old, (s.safOf x.val).openRej = some (n, old) → n ≠ s.nowNs)
    (hr : (s.safOf x.val).run.isSome = true ∨ s.safLapsing x.val = true) (hq : (s.safOf x.val).que = none) :
    ∃ t, exec (.safPrepare (.vf x) x) s = .next t ∧
      t.safOf x.val = { s.safOf x.val with opn := none, que := some { b with swap := s.getF F.SAF_SWAP_MASK x.val },
                                           leadQue := some (b.txid, s.getF F.SAF_TGT_F x.val) } ∧
      t.getF F.SAF_QUE_TXID x.val = b.txid % 2 ^ F.SAF_QUE_TXID.width ∧ s.sameMems t := by
  obtain ⟨o, he⟩ := safPrepare_queues h hl hb hr
  have hsup : (s.taken x.val o).supersede x.val none = s.taken x.val o := rfl
  rw [hq, hsup] at he
  have hs : ((s.taken x.val o).modSaf x.val (fun t => { t with
      que := some (s.leaveOpen x.val b), leadQue := some (b.txid, s.getF F.SAF_TGT_F x.val) })).safOf x.val = { s.safOf x.val with
        opn := none, que := some (s.leaveOpen x.val b), leadQue := some (b.txid, s.getF F.SAF_TGT_F x.val) } := by
    refine (State.safOf_modSaf ..).trans ?_
    rw [State.safOf_taken]
  have ho : SafOnly s ((s.taken x.val o).modSaf x.val (fun t => { t with
      que := some (s.leaveOpen x.val b), leadQue := some (b.txid, s.getF F.SAF_TGT_F x.val) })) := (s.taken_only x.val o).modSaf
  exact ⟨_, safPrepare_shows he hj ho (congrArg SafSt.openRej hs :), (State.safOf_safShow ..).trans hs,
    State.safShow_que (b := s.leaveOpen x.val b) (congrArg SafSt.que hs), (ho.safShow (Fin.site_lt x)).sameMems⟩

theorem safPrepare_supersedes (h : s.hostFree x) (hl : s.isLeader x.val = true) (hb : (s.safOf x.val).opn = some b)
    (hj : ∀ n old, (s.safOf x.val).openRej = some (n, old) → n ≠ s.nowNs) (q : SafBuf)
    (hr : (s.safOf x.val).run.isSome = true ∨ s.safLapsing x.val = true) (hq : (s.safOf x.val).que = some q) :
    ∃ t, exec (.safPrepare (.vf x) x) s = .next t ∧
      (t.safOf x.val).opn = none ∧ (t.safOf x.val).que = some { b with swap := s.getF F.SAF_SWAP_MASK x.val } ∧
      t.getF F.SAF_LAST_TXID x.val = q.txid % 2 ^ F.SAF_LAST_TXID.width ∧ t.getF F.SAF_LAST_OUTCOME x.val = 6 ∧
      t.getF F.SAF_STAT_SUPERSEDED x.val = 1 ∧ s.sameMems t := by
  have hx := Fin.site_lt x
  obtain ⟨o, he⟩ := safPrepare_queues h hl hb hr
  rw [hq] at he
  have hlast : Lasts x.val q.txid 6 ((s.taken x.val o).supersede x.val (some q)) := State.safEnd_lasts _ hx ..
  have ho : SafOnly s ((s.taken x.val o).supersede x.val (some q)) := (s.taken_only x.val o).modSaf.safEnd hx
  have hs : ((s.taken x.val o).supersede x.val (some q)).safOf x.val =
      SafSt.noted { s.safOf x.val with opn := none, que := none } q.txid false 0 := by
    refine (State.safOf_safEnd _ hx ..).trans ?_
    rw [State.safOf_modSaf, State.safOf_taken]
  revert he hlast ho hs
  generalize (s.taken x.val o).supersede x.val (some q) = v
  intro he hlast ho hs
  have hs2 := State.safOf_modSaf v x.val (fun t => { t with
    que := some (s.leaveOpen x.val b), leadQue := some (b.txid, s.getF F.SAF_TGT_F x.val) })
  rw [hs] at hs2
  have hsh := State.safOf_safShow (v.modSaf x.val (fun t => { t with
    que := some (s.leaveOpen x.val b), leadQue := some (b.txid, s.getF F.SAF_TGT_F x.val) })) x.val x.val
  have hls := (hlast.modSaf (y := x.val) (f := fun t => { t with
    que := some (s.leaveOpen x.val b), leadQue := some (b.txid, s.getF F.SAF_TGT_F x.val) })).safShow
  exact ⟨_, safPrepare_shows he hj ho.modSaf (congrArg SafSt.openRej hs2 :), (congrArg SafSt.opn (hsh.trans hs2) :),
    (congrArg SafSt.que (hsh.trans hs2) :), hls.txid, hls.outcome, hls.superseded rfl, (ho.modSaf.safShow hx).sameMems⟩

end Sys2Proof.Machine
end

section
/-! SUPPORT. ABORT and RESOLVE (R286, R288, R293, R294). -/

namespace Sys2Proof.Machine

variable {s t u : State} {x : Fin 16} {b p : SafBuf} {l : SafLead} {o : Order}

/-! ### A message taken back (R293) -/

theorem SafOnly.modPort (h : SafOnly s t) {k : Nat} {f : PortSt → PortSt} : SafOnly s (t.modPort k f) := ⟨h.frame, h.fields, h.peers, h.nextB⟩

/-- The messages of this cycle are put otherwise: nothing but what is on its way changes. -/
theorem State.reword_spec (s : State) (x : Nat) (old new : Msg) : SafOnly s (s.reword x old new) ∧
    (s.reword x old new).safOf x = s.safOf x := by
  unfold State.reword
  extract_lets f _ s1
  generalize hv : s1.modSite x (fun t => { t with clHeld := t.clHeld.map f }) = v
  have h1 : SafOnly s s1 := ⟨rfl, fun _ _ _ _ => rfl, rfl, fun _ => rfl⟩
  have h2 : SafOnly s v := by
    rw [← hv]
    refine ⟨h1.frame, h1.fields, h1.peers, fun y => ?_⟩
    by_cases hy : y = x
    · subst hy
      exact (congrArg SiteSt.nextB (State.siteOf_modSite_same ..)).trans (h1.nextB y)
    · exact (congrArg SiteSt.nextB (State.siteOf_modSite_other hy)).trans (h1.nextB y)
  have hs : v.safOf x = s.safOf x := by
    rw [← hv]
    exact (congrArg SiteSt.saf (State.siteOf_modSite_same ..) :)
  exact List.foldlRecOn (motive := fun t => SafOnly s t ∧ t.safOf x = s.safOf x) (List.range 12) _ ⟨h2, hs⟩
    fun _ ha _ _ => ⟨ha.1.modPort, ha.2⟩

/-! ### ABORT (R286, R294) -/

/-- The open transaction ends. -/
def State.endOpn (s : State) (x : Nat) : State :=
  match (s.safOf x).opn with
  | some b => (s.modSaf x (fun t => { t with opn := none })).safEnd x b.txid 5 0 0
  | none => s

/-- The queued transaction ends. -/
def State.endQue (s : State) (x : Nat) : State :=
  match (s.safOf x).que with
  | some b => (s.modSaf x (fun t => { t with que := none, leadQue := none })).safEnd x b.txid 5 0 0
  | none => s

/-- The running transaction ends unless it has been committed before this cycle. -/
def State.endRun (s : State) (x now : Nat) : State :=
  match (s.safOf x).lead with
  | some l => if !l.decided then s.safAbortRun x 5 0 0 else if l.ns = now then s.safRecall x l else s
  | none => s

theorem exec_safAbort (h : s.hostFree x) : ∃ o, exec (.safAbort (.vf x) x) s =
    if !s.isLeader x.val then .next ((s.ordered x.val o).ctlRej x.val)
    else .next (((((s.ordered x.val o).endOpn x.val).endQue x.val).endRun x.val s.nowNs).safShow x.val) := by
  obtain ⟨o, ho⟩ := State.hostOrder_acts h R.SAF_CTL x.val 4 fun s => if !s.isLeader x.val then ok (s.ctlRej x.val)
    else ok ((((s.endOpn x.val).endQue x.val).endRun x.val s.nowNs).safShow x.val)
  exact ⟨o, ho⟩

theorem State.endOpn_spec (s : State) {x : Nat} (hx : x < 1048576) : SafOnly s (s.endOpn x) ∧ ((s.endOpn x).safOf x).opn = none ∧
    ((s.endOpn x).safOf x).que = (s.safOf x).que ∧ ((s.endOpn x).safOf x).run = (s.safOf x).run ∧
    ((s.endOpn x).safOf x).lead = (s.safOf x).lead := by
  unfold State.endOpn
  cases ho : (s.safOf x).opn with
  | none => exact ⟨.refl s, ho, rfl, rfl, rfl⟩
  | some b =>
    refine ⟨(SafOnly.refl s).modSaf.safEnd hx, ?_⟩
    dsimp only
    rw [State.safOf_safEnd _ hx, State.safOf_modSaf]
    exact ⟨rfl, rfl, rfl, rfl⟩

theorem State.endQue_spec (s : State) {x : Nat} (hx : x < 1048576) : SafOnly s (s.endQue x) ∧ ((s.endQue x).safOf x).que = none ∧
    ((s.endQue x).safOf x).opn = (s.safOf x).opn ∧ ((s.endQue x).safOf x).run = (s.safOf x).run ∧
    ((s.endQue x).safOf x).lead = (s.safOf x).lead := by
  unfold State.endQue
  cases ho : (s.safOf x).que with
  | none => exact ⟨.refl s, ho, rfl, rfl, rfl⟩
  | some b =>
    refine ⟨(SafOnly.refl s).modSaf.safEnd hx, ?_⟩
    dsimp only
    rw [State.safOf_safEnd _ hx, State.safOf_modSaf]
    exact ⟨rfl, rfl, rfl, rfl⟩

/-- A running transaction that ends leaves its slot, with its outcome. -/
structure RunEnded (x txid : Nat) (s t : State) : Prop where
  only : SafOnly s t
  opn : (t.safOf x).opn = (s.safOf x).opn
  que : (t.safOf x).que = (s.safOf x).que
  run : (t.safOf x).run = none
  lead : (t.safOf x).lead = none
  last : Lasts x txid 5 t

theorem State.safAbortRun_ended {x : Nat} (hx : x < 1048576) (hl : (s.safOf x).lead = some l) :
    RunEnded x l.txid s (s.safAbortRun x 5 0 0) := by
  have he : s.safAbortRun x 5 0 0 = (s.modSaf x (fun t => { t with run := none, lead := none })).safEnd x l.txid 5 0 0 := by
    unfold State.safAbortRun
    rw [hl]
  have hs := (State.safOf_safEnd (s.modSaf x (fun t => { t with run := none, lead := none })) hx l.txid 5 0 0).trans
    (congrArg (SafSt.noted · l.txid false 0) (State.safOf_modSaf ..))
  rw [← he] at hs
  refine ⟨?_, (congrArg SafSt.opn hs :), (congrArg SafSt.que hs :), (congrArg SafSt.run hs :), (congrArg SafSt.lead hs :), ?_⟩
  · rw [he]
    exact (SafOnly.refl s).modSaf.safEnd hx
  · rw [he]
    exact State.safEnd_lasts _ hx ..

theorem State.safRecall_ended (s : State) {x : Nat} (hx : x < 1048576) (l : SafLead) : RunEnded x l.txid s (s.safRecall x l) := by
  obtain ⟨ho, hs⟩ := s.reword_spec x (.commit l.txid l.beat) (.abort l.txid 5)
  unfold State.safRecall
  revert ho hs
  generalize s.reword x (.commit l.txid l.beat) (.abort l.txid 5) = v
  intro ho hs
  have hall : (((v.modSaf x (fun t => { t with run := none, lead := none })).safNote x l.txid false 0).safLast x l.txid 5 0 0).safOf x =
      SafSt.noted { s.safOf x with run := none, lead := none } l.txid false 0 := by
    rw [State.safOf_safLast, State.safOf_safNote, State.safOf_modSaf, hs]
  exact ⟨ho.modSaf.safNote.safLast hx, (congrArg SafSt.opn hall :), (congrArg SafSt.que hall :), (congrArg SafSt.run hall :),
    (congrArg SafSt.lead hall :), State.safLast_lasts _ hx ..⟩

/-- Which transactions ABORT ends. -/
theorem State.endRun_spec (s : State) {x : Nat} (hx : x < 1048576) (now : Nat) :
    (∃ l, (s.safOf x).lead = some l ∧ (l.decided = false ∨ l.ns = now) ∧ RunEnded x l.txid s (s.endRun x now)) ∨
    s.endRun x now = s ∧ ∀ l, (s.safOf x).lead = some l → l.decided = true ∧ l.ns ≠ now := by
  unfold State.endRun
  cases hl : (s.safOf x).lead with
  | none => exact .inr ⟨rfl, fun l h => by cases h⟩
  | some l =>
    by_cases hd : l.decided = true
    · by_cases hn : l.ns = now
      · refine .inl ⟨l, rfl, .inr hn, ?_⟩
        simpa only [hd, hn, Bool.not_true, Bool.false_eq_true, if_false, if_true] using s.safRecall_ended hx l
      · refine .inr ⟨by simp only [hd, hn, Bool.not_true, Bool.false_eq_true, if_false], fun m hm => ?_⟩
        cases hm
        exact ⟨hd, hn⟩
    · refine .inl ⟨l, rfl, .inl (Bool.eq_false_iff.2 hd), ?_⟩
      simpa only [Bool.eq_false_iff.2 hd, Bool.not_false, if_true] using State.safAbortRun_ended hx hl

theorem safAbort_leader (h : s.hostFree x) (hl : s.isLeader x.val = true) : ∃ t, exec (.safAbort (.vf x) x) s = .next t ∧
      (t.safOf x.val).opn = none ∧ (t.safOf x.val).que = none ∧ s.sameMems t ∧
      (∀ b, (s.safOf x.val).opn = some b → (s.safOf x.val).que = none → (s.safOf x.val).lead = none →
        t.getF F.SAF_LAST_TXID x.val = b.txid % 2 ^ F.SAF_LAST_TXID.width ∧ t.getF F.SAF_LAST_OUTCOME x.val = 5 ∧
        t.getF F.SAF_STAT_ABORTED x.val = 1) ∧
      (∀ l, (s.safOf x.val).lead = some l → l.decided = false → (t.safOf x.val).run = none ∧ (t.safOf x.val).lead = none ∧
        t.getF F.SAF_LAST_TXID x.val = l.txid % 2 ^ F.SAF_LAST_TXID.width ∧ t.getF F.SAF_LAST_OUTCOME x.val = 5) ∧
      (∀ l, (s.safOf x.val).lead = some l → l.decided = true → l.ns ≠ s.nowNs → (t.safOf x.val).run = (s.safOf x.val).run ∧
        (t.safOf x.val).lead = some l) ∧
      (∀ l, (s.safOf x.val).lead = some l → l.decided = true → l.ns = s.nowNs → (t.safOf x.val).run = none ∧
        (t.safOf x.val).lead = none ∧ t.getF F.SAF_LAST_TXID x.val = l.txid % 2 ^ F.SAF_LAST_TXID.width ∧
        t.getF F.SAF_LAST_OUTCOME x.val = 5) := by
  have hx := Fin.site_lt x
  obtain ⟨o, he⟩ := exec_safAbort h
  rw [hl] at he
  refine ⟨_, he, ?_⟩
  rw [State.safOf_safShow]
  have hu := State.safOf_ordered s x.val o
  obtain ⟨ho1, hopn1, hque1, hrun1, hlead1⟩ := (s.ordered x.val o).endOpn_spec hx
  obtain ⟨ho2, hque2, hopn2, hrun2, hlead2⟩ := ((s.ordered x.val o).endOpn x.val).endQue_spec hx
  have hquiet : (s.safOf x.val).que = none → ((s.ordered x.val o).endOpn x.val).endQue x.val = (s.ordered x.val o).endOpn x.val := fun hq => by
    rw [State.endQue, hque1, hu, hq]
  have hlast : ∀ b, (s.safOf x.val).opn = some b → Lasts x.val b.txid 5 ((s.ordered x.val o).endOpn x.val) := fun b hb => by
    rw [State.endOpn, hu, hb]
    exact State.safEnd_lasts _ hx ..
  rw [hu] at hrun1 hlead1
  revert ho1 hopn1 hque1 hrun1 hlead1 ho2 hque2 hopn2 hrun2 hlead2 hquiet hlast
  generalize ((s.ordered x.val o).endOpn x.val) = v
  generalize hw : v.endQue x.val = w
  intro ho1 hopn1 hque1 hrun1 hlead1 ho2 hque2 hopn2 hrun2 hlead2 hquiet hlast
  have hall : SafOnly s w := ((SafOnly.ordered s x.val o).trans ho1).trans ho2
  have hlead : (w.safOf x.val).lead = (s.safOf x.val).lead := hlead2.trans hlead1
  have hrun : (w.safOf x.val).run = (s.safOf x.val).run := hrun2.trans hrun1
  obtain ⟨m, hm, hmd, hend⟩ | ⟨hsame, hnot⟩ := w.endRun_spec hx s.nowNs
  · have hlm := hlead.symm.trans hm
    have hls := hend.last.safShow
    refine ⟨hend.opn.trans (hopn2.trans hopn1), hend.que.trans hque2, ((hall.trans hend.only).safShow hx).sameMems, fun b _ _ hn => ?_,
      fun l hl _ => ?_, fun l hl hd hne => ?_, fun l hl _ _ => ?_⟩
    · rw [hlm] at hn
      cases hn
    · cases hlm.symm.trans hl
      exact ⟨hend.run, hend.lead, hls.txid, hls.outcome⟩
    · cases hlm.symm.trans hl
      rw [hd] at hmd
      exact absurd (hmd.resolve_left (by decide)) hne
    · cases hlm.symm.trans hl
      exact ⟨hend.run, hend.lead, hls.txid, hls.outcome⟩
  · rw [hsame]
    refine ⟨hopn2.trans hopn1, hque2, (hall.safShow hx).sameMems, fun b hb hq _ => ?_, fun l hl hd => ?_, fun l hl _ _ =>
      ⟨hrun, hlead.trans hl⟩, fun l hl _ hn => absurd hn (hnot l (hlead.trans hl)).2⟩
    · have hls := (hlast b hb).safShow
      rw [hquiet hq]
      exact ⟨hls.txid, hls.outcome, hls.aborted rfl⟩
    · have hd' := (hnot l (hlead.trans hl)).1
      rw [hd] at hd'
      cases hd'

theorem safAbort_member (h : s.hostFree x) (hl : s.isLeader x.val = false) : ∃ t, exec (.safAbort (.vf x) x) s = .next t ∧
    t.getF F.SAF_STAT_CTL_REJ x.val = 1 ∧ t.safOf x.val = s.safOf x.val ∧ SiteOnly x.val [F.SAF_STAT_CTL_REJ.key x.val] s t := by
  obtain ⟨o, he⟩ := exec_safAbort h
  rw [hl] at he
  exact ⟨_, he, ctlRej_spec s x o⟩

end Sys2Proof.Machine
end

section
/-! SUPPORT. RESOLVE, and the host's writes together (R283 to R294). -/

namespace Sys2Proof.Machine

variable {s t u : State} {x : Fin 16} {b p : SafBuf} {l : SafLead} {o : Order}

/-! ### RESOLVE (R288, R294) -/

/-- The fields that the gap of a resolved buffer depends on. -/
def gapFlds : List Fld := [F.SITE_BSTAT_RUN, F.SITE_BNOW_BNOW, F.SITE_BLEN_BLEN, F.SITE_BGAP_GAP]

/-- The gap of a resolved buffer reads the beats of the site and the time. -/
theorem State.nextGap_congr {x : Nat} (hf : ∀ f ∈ gapFlds, t.getF f x = s.getF f x) (hn : t.now = s.now)
    (h1 : (t.siteOf x).bStart = (s.siteOf x).bStart) (h2 : (t.siteOf x).nextB = (s.siteOf x).nextB)
    (h3 : (t.siteOf x).winEnd = (s.siteOf x).winEnd) (b : SafBuf) : t.nextGap x b = s.nextGap x b := by
  have hrun : t.beatsRun x = s.beatsRun x := congrArg (· != 0) (hf _ (by decide))
  have hnn : t.nowNs = s.nowNs := congrArg Time.toNs hn
  have hg := hf F.SITE_BGAP_GAP (by decide)
  have hl := hf F.SITE_BLEN_BLEN (by decide)
  have hb := hf F.SITE_BNOW_BNOW (by decide)
  have hsched : t.sched x = s.sched x := by
    simp only [State.sched, hg, hl, hb, h1, h2, h3]
  simp only [State.nextGap, State.gapBeat, State.blenAfter, State.gapAfter, hrun, hnn, hn, hg, hl, hsched] <;> rfl

/-- The state in which a RESOLVE acts. -/
def State.resolving (s : State) (x : Nat) (o : Order) (txid : Nat) : State := (s.ordered x o).setF F.SAF_RESOLVE_TXID x txid

theorem State.safOf_resolving (s : State) (x : Nat) (o : Order) (txid : Nat) : (s.resolving x o txid).safOf x = s.safOf x :=
  (State.safOf_setF ..).trans (State.safOf_ordered ..)

theorem State.nextGap_resolving (s : State) (x : Fin 16) (o : Order) (txid : Nat) (b : SafBuf) :
    (s.resolving x.val o txid).nextGap x.val b = s.nextGap x.val b := by
  have hset {f : Fld} {j : Nat} (hj : j < 1048576) (hf : f.id ≠ F.SAF_RESOLVE_TXID.id) : (s.resolving x.val o txid).getF f j = s.getF f j :=
    State.getF_setF_other (Fld.key_ne hf hj (Fin.site_lt x))
  have hsite : (s.resolving x.val o txid).siteOf x.val = { s.siteOf x.val with orders := [o] } :=
    State.siteOf_modSite_same s x.val (fun t => { t with orders := [o] })
  refine State.nextGap_congr (fun f hf => hset (Fin.site_lt x) ((by decide : ∀ f ∈ gapFlds, f.id ≠ F.SAF_RESOLVE_TXID.id) f hf)) ?_
    (congrArg SiteSt.bStart hsite :) (congrArg SiteSt.nextB hsite :) (congrArg SiteSt.winEnd hsite :) b
  have hn : (s.resolving x.val o txid).nowFix = s.nowFix := by
    rw [State.nowFix, State.nowFix, hset (by decide) (by decide), hset (by decide) (by decide), hset (by decide) (by decide)]
  exact congrArg Time.ofFix hn

/-- A write of RESOLVE by the site's VF, with no other order on record, acts. -/
theorem exec_safResolve (h : s.hostFree x) (txid : Nat) :
    (∃ o, exec (.safResolveCommit (.vf x) x txid) s = .next ((s.resolving x.val o txid).safRule x.val (txid % 65536) true false)) ∧
    ∃ o, exec (.safResolveAbort (.vf x) x txid) s = .next ((s.resolving x.val o txid).safRule x.val (txid % 65536) false false) := by
  have key (d : RegDesc) (ix val : Nat) (f : State → Res) : ∃ o, s.hostOrder (.vf x) (fnIsSite (.vf x) x.val) d ix val
      (fun s => if s.fnSite (.vf x) x.val then f s else ok s) = f (s.ordered x.val o) := by
    rw [fnIsSite_self, State.hostOrder_of_hostFree h]
    exact ⟨_, if_pos (State.fnSite_of_hostFree h _)⟩
  exact ⟨key R.SAF_RESOLVE x.val (1 + txid * 65536) fun s => ok ((s.setF F.SAF_RESOLVE_TXID x.val txid).safRule x.val (txid % 65536) true false),
    key R.SAF_RESOLVE x.val (2 + txid * 65536) fun s => ok ((s.setF F.SAF_RESOLVE_TXID x.val txid).safRule x.val (txid % 65536) false false)⟩

/-- The first buffer of a transaction, where it is not resolved, is the first that is not. -/
theorem find?_unresolved {l : List SafBuf} {txid : Nat} (hf : l.find? (fun q => q.txid == txid) = some b) (hr : b.resolved = false) :
    l.find? (fun q => q.txid == txid && !q.resolved) = some b := by
  obtain ⟨hb, as, bs, rfl, has⟩ := List.find?_eq_some_iff_append.1 hf
  refine List.find?_eq_some_iff_append.2 ⟨by rw [hb, hr]; rfl, as, bs, rfl, fun a ha => ?_⟩
  have hn := has a ha
  rw [Bool.not_eq_true'] at hn ⊢
  rw [hn, Bool.false_and]

/-- The ruling of this cycle on record. -/
def State.ruledOn (s t : State) (x txid : Nat) (commit : Bool) (b : SafBuf) : State :=
  t.modSaf x (fun q => { q with ruled := some ⟨s.nowNs, txid, commit, false, b, s.safWas x⟩ })

theorem State.safRule_acts {x txid : Nat} (hf : (s.safOf x).dbt.find? (fun q => q.txid == txid) = some b) (hr : b.resolved = false)
    (commit : Bool) : s.safRule x txid commit false = s.ruledOn (s.safResolve x txid commit) x txid commit b := by
  unfold State.safRule
  rw [find?_unresolved hf hr]
  rfl

/-- A buffer in doubt is to apply at the next gap. -/
def State.resolved (s : State) (x txid : Nat) (b : SafBuf) : State :=
  (s.modSaf x (fun t => { t with
    dbt := t.dbt.map (fun q => if q.txid = txid then { q with resolved := true, target := s.nextGap x b } else q) })).safShow x

theorem State.safResolve_commit {x txid : Nat} (hf : (s.safOf x).dbt.find? (fun q => q.txid == txid) = some b) (hr : b.resolved = false) :
    s.safResolve x txid true = s.resolved x txid b := by
  unfold State.safResolve
  rw [hf]
  exact (if_neg (by rw [hr]; decide)).trans (if_pos rfl)

theorem State.safResolve_abort {x txid : Nat} (hf : (s.safOf x).dbt.find? (fun q => q.txid == txid) = some b) (hr : b.resolved = false) :
    s.safResolve x txid false = ((s.safDrop x txid 9).safDoubt x).safShow x := by
  unfold State.safResolve
  rw [hf]
  exact (if_neg (by rw [hr]; decide)).trans (if_neg (by decide))

theorem safResolve_commits {txid : Nat} (h : s.hostFree x)
    (hf : (s.safOf x.val).dbt.find? (fun q => q.txid == txid % 65536) = some b) (hr : b.resolved = false) :
    ∃ t, exec (.safResolveCommit (.vf x) x txid) s = .next t ∧
      (t.safOf x.val).dbt = (s.safOf x.val).dbt.map (fun q =>
        if q.txid = txid % 65536 then { q with resolved := true, target := s.nextGap x.val b } else q) ∧
      t.getF F.SAF_RESOLVE_TXID x.val = txid % 65536 ∧ s.sameMems t := by
  have hx := Fin.site_lt x
  obtain ⟨⟨o, he⟩, -⟩ := exec_safResolve h txid
  have hu := s.safOf_resolving x.val o txid
  have hf' := hu.symm ▸ hf
  rw [State.safRule_acts hf' hr, State.safResolve_commit hf' hr] at he
  have hgap := s.nextGap_resolving x o txid b
  have htx : (s.resolving x.val o txid).getF F.SAF_RESOLVE_TXID x.val = txid % 65536 := State.getF_setF_same ..
  have hm : s.sameMems (s.resolving x.val o txid) := ⟨rfl, rfl, rfl, rfl, rfl, rfl, rfl, rfl⟩
  revert he hu hgap htx hm
  generalize s.resolving x.val o txid = v
  intro he hu hgap htx hm
  have hs : (v.ruledOn (v.resolved x.val (txid % 65536) b) x.val (txid % 65536) true b).safOf x.val = { s.safOf x.val with
      dbt := (s.safOf x.val).dbt.map (fun q => if q.txid = txid % 65536 then { q with resolved := true, target := s.nextGap x.val b } else q),
      ruled := some ⟨v.nowNs, txid % 65536, true, false, b, v.safWas x.val⟩ } := by
    rw [State.ruledOn, State.safOf_modSaf, State.resolved, State.safOf_safShow, State.safOf_modSaf, hu, hgap]
  have ho : SafOnly v (v.resolved x.val (txid % 65536) b) := (SafOnly.refl v).modSaf.safShow hx
  exact ⟨_, he, (congrArg SafSt.dbt hs :), (ho.modSaf.fields _ _ (by decide) hx).trans htx, hm.trans (ho.modSaf (x := x.val)).sameMems⟩

/-- INDOUBT follows the buffers in doubt: a source of the site, and nothing of Saffron. -/
theorem State.safDoubt_steps (s : State) {x : Nat} (hx : x < 1048576) : FabSteps true s (s.safDoubt x) :=
  (FabSteps.refl.sourceOff hx).ite (FabSteps.refl.sourceOn hx)

theorem State.safDrop_spec (s : State) {x : Nat} (hx : x < 1048576) (txid : Nat) : SafOnly s (s.safDrop x txid 9) ∧
    ((s.safDrop x txid 9).safOf x).dbt = (s.safOf x).dbt.filter (fun q => q.txid != txid) ∧ Lasts x txid 9 (s.safDrop x txid 9) := by
  refine ⟨(SafOnly.refl s).modSaf.safLast hx, ?_, State.safLast_lasts _ hx ..⟩
  unfold State.safDrop
  rw [State.safOf_safLast, State.safOf_modSaf]

theorem safResolve_aborts {txid : Nat} (h : s.hostFree x)
    (hf : (s.safOf x.val).dbt.find? (fun q => q.txid == txid % 65536) = some b) (hr : b.resolved = false) :
    ∃ t, exec (.safResolveAbort (.vf x) x txid) s = .next t ∧
      (t.safOf x.val).dbt = (s.safOf x.val).dbt.filter (fun q => q.txid != txid % 65536) ∧
      t.getF F.SAF_LAST_OUTCOME x.val = 9 ∧ t.getF F.SAF_RESOLVE_TXID x.val = txid % 65536 ∧ s.sameMems t ∧
      ((∀ q ∈ (s.safOf x.val).dbt, q.txid = txid % 65536) → t.getF F.SAF_STAT_INDOUBT x.val = 0) := by
  have hx := Fin.site_lt x
  obtain ⟨-, o, he⟩ := exec_safResolve h txid
  have hu := s.safOf_resolving x.val o txid
  have hf' := hu.symm ▸ hf
  rw [State.safRule_acts hf' hr, State.safResolve_abort hf' hr] at he
  have htx : (s.resolving x.val o txid).getF F.SAF_RESOLVE_TXID x.val = txid % 65536 := State.getF_setF_same ..
  have hm : s.sameMems (s.resolving x.val o txid) := ⟨rfl, rfl, rfl, rfl, rfl, rfl, rfl, rfl⟩
  obtain ⟨hdo, hdd, hdl⟩ := (s.resolving x.val o txid).safDrop_spec hx (txid % 65536)
  rw [hu] at hdd
  refine ⟨_, he, ?_⟩
  have hstep := State.safDoubt_steps ((s.resolving x.val o txid).safDrop x.val (txid % 65536) 9) hx
  revert htx hm hdo hdd hdl hstep
  unfold State.ruledOn
  generalize ((s.resolving x.val o txid).safDrop x.val (txid % 65536) 9).safDoubt x.val = w
  generalize (s.resolving x.val o txid).safDrop x.val (txid % 65536) 9 = d
  generalize s.resolving x.val o txid = v
  intro htx hm hdo hdd hdl hstep
  have hwd : (w.safOf x.val).dbt = (s.safOf x.val).dbt.filter (fun q => q.txid != txid % 65536) :=
    (congrArg SafSt.dbt (hstep.safOf x.val)).trans hdd
  have hshow := (SafOnly.refl w).safShow hx
  refine ⟨?_, (State.getF_safShow (by decide)).trans ((hstep.getF (by decide) hx).trans hdl.outcome),
    (State.getF_safShow (by decide)).trans ((hstep.getF (by decide) hx).trans ((hdo.fields _ _ (by decide) hx).trans htx)),
    ((hm.trans hdo.sameMems).trans hstep.sameMems).trans hshow.modSaf.sameMems, fun hall => ?_⟩
  · rw [State.safOf_modSaf, State.safOf_safShow]
    exact hwd
  · refine State.safShow_indoubt (hwd.trans (List.filter_eq_nil_iff.2 fun q hq => ?_))
    rw [hall q hq]
    simp

/-- Settles O42: each write of the host leaves a transaction in its slot, and between L(f) and L(f + 1) a transaction of this chip alone
applies a beat later. -/
theorem saffronHost : Obligations.SaffronHost := by
  refine ⟨fun x s h => ⟨safOpen_opens h, safOpen_member h, safOpen_again h⟩,
    fun x data s h => ⟨safStage_stages data h, safStage_refused data h⟩, fun x s h => safPrepare_refused h, fun x s b h hl hb hj => ?_,
    fun x s h => ⟨safAbort_member h, safAbort_leader h⟩, fun x txid s b h hf hr => ⟨safResolve_commits h hf hr, safResolve_aborts h hf hr⟩⟩
  exact ⟨safPrepare_deferred h hl hb hj, safPrepare_inTime h hl hb hj, safPrepare_badTarget h hl hb hj, safPrepare_queued h hl hb hj,
    safPrepare_supersedes h hl hb hj⟩

end Sys2Proof.Machine
end

section
/-! SUPPORT. What follows a change of a line clock: lanes, pairs, UNCLK sources and rates, and what of the chip does not (R360 to R367). -/

namespace Sys2Proof.Machine

variable {top : Bool} {s t u : State}

/-! ### What a change of clocks can change -/

/-- The numbers of the fields that a change of clocks writes. -/
def clockIds : List Nat :=
  [F.OCT_FESTAT_IDLE, F.OCT_LMISS_MISS, F.OCT_LSTAT_LQN, F.OCT_LSTAT_TSQN, F.OCT_TSQHEAD_ID, F.OCT_TSQHEAD_STATUS, F.OCT_TSQHEAD_VALID,
    F.OCT_TSQT_LO_FRAC, F.OCT_TSQT_HI_NS, F.OCT_PSTAT_RATEBLK, F.OCT_LRXREC_VALID, F.CLK_LPSTAT_SSCON, F.OCT_CKSTAT_FLINE,
    F.OCT_CKSTAT_UNCLK].map Fld.id ++ (faultIds ++ offIds)

/-- Between `s` and `t` nothing changes but fields with numbers in `clockIds`, live values, channels, Sumac, the ports, the fabric, the record
of host events, the outputs, the values drawn, and where `top` holds, octets. -/
structure ClockOnly (top : Bool) (s t : State) : Prop where
  frame : { t with
    reg := s.reg, live := s.live, chan := s.chan, oct := s.oct, port := s.port, fab := s.fab, sumac := s.sumac, evAt := s.evAt, out := s.out,
    free := s.free } = s
  fields : ∀ (g : Fld) (j : Nat), g.id ∉ clockIds → j < 1048576 → t.getF g j = s.getF g j
  octs : top = false → t.oct = s.oct

theorem ClockOnly.refl (s : State) : ClockOnly top s s := ⟨rfl, fun _ _ _ _ => rfl, fun _ => rfl⟩

theorem ClockOnly.up (h : ClockOnly false s t) : ClockOnly top s t := ⟨h.frame, h.fields, fun _ => h.octs rfl⟩

theorem ClockOnly.ite {c : Prop} [Decidable c] (ht : ClockOnly top s t) (hu : ClockOnly top s u) :
    ClockOnly top s (if c then t else u) := by
  split
  · exact ht
  · exact hu

theorem ClockOnly.foldl_mem {α : Type} {l : List α} {f : State → α → State} (h : ClockOnly top s t)
    (hf : ∀ {a y}, y ∈ l → ClockOnly top s a → ClockOnly top s (f a y)) : ClockOnly top s (l.foldl f t) :=
  List.foldlRecOn (motive := ClockOnly top s) l f h fun _ ha _ hy => hf hy ha

theorem ClockOnly.setF (h : ClockOnly top s t) {f : Fld} {i v : Nat} (hf : f.id ∈ clockIds) (hi : i < 1048576) :
    ClockOnly top s (t.setF f i v) := by
  refine ⟨h.frame, fun g j hg hj => ?_, h.octs⟩
  have hne : g.id ≠ f.id := fun e => hg (e ▸ hf)
  exact (State.getF_setF_other (Fld.key_ne hne hj hi)).trans (h.fields g j hg hj)

theorem ClockOnly.setFs (h : ClockOnly top s t) {l : List (Fld × Nat)} {i : Nat} (hl : l.map (fun p => p.1.id) ⊆ clockIds) (hi : i < 1048576) :
    ClockOnly top s (t.setFs i l) :=
  h.foldl_mem fun hp ha => ha.setF (hl (List.mem_map_of_mem (f := fun p : Fld × Nat => p.1.id) hp)) hi

/-- The channels, the live values and the outputs may change. -/
theorem ClockOnly.put (h : ClockOnly top s t) {chan : Tbl ChanSt} {live : FMap} {out : List Out} :
    ClockOnly top s { t with chan := chan, live := live, out := out } := ⟨h.frame, h.fields, h.octs⟩

theorem ClockOnly.modChan (h : ClockOnly top s t) {c : Nat} {f : ChanSt → ChanSt} : ClockOnly top s (t.modChan c f) := h.put

theorem ClockOnly.modLane (h : ClockOnly top s t) {c : Nat} {f : LaneSt → LaneSt} : ClockOnly top s (t.modLane c f) := h.put

theorem ClockOnly.log (h : ClockOnly top s t) {o : Out} : ClockOnly top s (t.log o) := h.put

theorem ClockOnly.setL (h : ClockOnly top s t) {f : Fld} {i v : Nat} : ClockOnly top s (t.setL f i v) := h.put

theorem ClockOnly.drawn (h : ClockOnly top s t) : ClockOnly top s t.drawn := ⟨h.frame, h.fields, h.octs⟩

theorem ClockOnly.modOct (h : ClockOnly true s t) {o : Nat} {f : OctSt → OctSt} : ClockOnly true s (t.modOct o f) :=
  ⟨h.frame, h.fields, fun e => by cases e⟩

theorem ClockOnly.fault (h : ClockOnly top s t) (g : FaultOnly t u) : ClockOnly top s u := by
  refine ⟨?_, fun f j hf hj => (g.fields f j (fun hm => hf ?_) hj).trans (h.fields f j hf hj),
    fun e => (congrArg State.oct g.frame :).trans (h.octs e)⟩
  · exact Eq.trans (congrArg (fun a : State => { a with
      reg := s.reg, live := s.live, chan := s.chan, oct := s.oct, port := s.port, fab := s.fab, sumac := s.sumac, evAt := s.evAt,
      out := s.out, free := s.free }) g.frame) h.frame
  · exact List.mem_append_right _ (List.mem_append_left _ hm)

theorem ClockOnly.off (h : ClockOnly top s t) (g : SumacOnly offIds t u) : ClockOnly top s u := by
  refine ⟨?_, fun f j hf hj => (g.fields f j (fun hm => hf ?_) hj).trans (h.fields f j hf hj),
    fun e => (congrArg State.oct g.frame :).trans (h.octs e)⟩
  · exact Eq.trans (congrArg (fun a : State => { a with
      reg := s.reg, live := s.live, chan := s.chan, oct := s.oct, port := s.port, fab := s.fab, sumac := s.sumac, evAt := s.evAt,
      out := s.out, free := s.free }) g.frame) h.frame
  · exact List.mem_append_right _ (List.mem_append_right _ hm)

theorem ClockOnly.sameMems (h : ClockOnly top s t) : s.sameMems t := by
  have hm {α : Type} (g : State → α) : g { t with
    reg := s.reg, live := s.live, chan := s.chan, oct := s.oct, port := s.port, fab := s.fab, sumac := s.sumac, evAt := s.evAt, out := s.out,
    free := s.free } = g s := congrArg g h.frame
  exact ⟨hm State.bb, hm State.acqMem, hm State.dram, hm State.nvm, hm State.psbuf, hm State.cstore, hm State.mirror,
    hm State.tstore⟩

/-! ### Pairs (R31, R46, R50) -/

theorem chIx_lt {c : Nat} (hc : c < 1048576) : chIx c < 1048576 := by
  unfold chIx octOf posOf
  omega

theorem lnIx_lt {c : Nat} (hc : c < 1048576) : lnIx c < 1048576 := chIx_lt hc

theorem octOf_lt {c : Nat} (hc : c < 1048576) : octOf c < 1048576 := by
  unfold octOf
  omega

theorem ClockOnly.compNear (h : ClockOnly top s t) {c : Nat} {tm : Time} : ClockOnly top s (t.compNear c tm) := by
  unfold State.compNear
  split
  · refine h.ite ?_
    exact h.put.put.ite h.put
  · exact h

variable {c : Nat}

theorem ClockOnly.pinShow (h : ClockOnly top s t) (hc : c < 1048576) {tm : Time} : ClockOnly top s (t.pinShow c tm) := by
  unfold State.pinShow State.pinTo
  extract_lets s1
  have h1 : ClockOnly top s s1 := h.setF (by decide) (chIx_lt hc)
  exact (h1.ite h1.modChan.log).compNear

theorem ClockOnly.coefRestart (h : ClockOnly top s t) : ClockOnly top s (t.coefRestart c) := h.foldl_mem fun _ ha => ha.setL

/-! ### Lanes (R165 to R168, R177) -/

theorem ClockOnly.emitSyms (h : ClockOnly top s t) {n : Nat} {bs : List Nat} {tm : Time} : ClockOnly top s (t.emitSyms c n bs tm).1 :=
  h.ite (h.modLane.ite h.modLane.log)

theorem ClockOnly.fillTo (h : ClockOnly top s t) {n : Nat} : ClockOnly top s (t.fillTo c n) := by
  unfold State.fillTo
  extract_lets
  split
  · exact h
  · exact h.emitSyms.modLane

theorem ClockOnly.fillRender (h : ClockOnly top s t) {tm : Time} : ClockOnly top s (t.fillRender c tm) := by
  unfold State.fillRender
  extract_lets
  split
  · exact h.fillTo
  · exact h

theorem ClockOnly.laneRender (h : ClockOnly top s t) {tm : Time} : ClockOnly top s (t.laneRender c tm) := by
  unfold State.laneRender
  extract_lets _ s1
  have h1 : ClockOnly top s s1 := h.fillRender
  split
  · exact h1.emitSyms.modLane.ite h1
  · exact h1

theorem ClockOnly.laneShow (h : ClockOnly top s t) (hc : c < 1048576) : ClockOnly top s (t.laneShow c) := by
  unfold State.laneShow
  extract_lets _ i s1
  have h1 : ClockOnly top s s1 := (h.setF (f := F.OCT_LSTAT_LQN) (by decide) (lnIx_lt hc)).setF (by decide) (lnIx_lt hc)
  have hids : [F.OCT_TSQHEAD_ID, F.OCT_TSQHEAD_STATUS, F.OCT_TSQHEAD_VALID, F.OCT_TSQT_LO_FRAC, F.OCT_TSQT_HI_NS].map Fld.id ⊆ clockIds := by
    decide
  split <;> exact h1.setFs hids (lnIx_lt hc)

theorem ClockOnly.laneDone (h : ClockOnly top s t) (hc : c < 1048576) {id status : Nat} {tm : Time} :
    ClockOnly top s (t.laneDone c id status tm) := by
  unfold State.laneDone
  extract_lets s1
  have h1 : ClockOnly top s s1 := h.modLane
  exact h1.ite (h1.setF (f := F.OCT_LMISS_MISS) (by decide) (lnIx_lt hc))

/-- What a lane sends is cut. -/
theorem ClockOnly.laneCut (h : ClockOnly top s t) (hc : c < 1048576) {status : Nat} {tm : Time} :
    ClockOnly top s (t.laneCut c status tm) := by
  unfold State.laneCut
  extract_lets s0
  have h0 : ClockOnly top s s0 := h.laneRender
  split
  · exact ((h0.laneDone hc).modLane.modLane.laneShow hc).ite h0.modLane
  · exact h0

theorem ClockOnly.laneRestart (h : ClockOnly top s t) (hc : c < 1048576) {tm : Time} : ClockOnly top s (t.laneRestart c tm) :=
  h.modLane.modLane.modChan.setF (f := F.OCT_LRXREC_VALID) (by decide) (lnIx_lt hc)

theorem ClockOnly.rateCheck (h : ClockOnly top s t) (hc : c < 1048576) {gap : Bool} {tm : Time} :
    ClockOnly top s (t.rateCheck c gap tm) := by
  have ho := octOf_lt hc
  have hcut : ClockOnly top s ((t.laneCut c 4 tm).rxRestart c) := (h.laneCut hc).modLane
  exact h.ite ((((hcut.setF (f := F.OCT_PSTAT_RATEBLK) (by decide) ho).modLane).pinShow hc).ite
    (((((h.setF (f := F.OCT_PSTAT_RATEBLK) (by decide) ho).coefRestart).laneRestart hc).pinShow hc).ite h))

/-! ### Octets and the whole chip -/

variable {o : Nat}

theorem chansOf_lt (ho : o < 8) {c : Nat} (hc : c ∈ chansOf o) : c < 1048576 := by
  obtain ⟨p, hp, rfl⟩ := List.mem_map.1 hc
  have := List.mem_range.1 hp
  omega

theorem ClockOnly.octRates (h : ClockOnly top s t) (ho : o < 8) {tm : Time} : ClockOnly top s (t.octRates o tm) :=
  (h.setF (f := F.OCT_PSTAT_RATEBLK) (by decide) (by omega)).ite (h.foldl_mem fun hc ha => ha.rateCheck (chansOf_lt ho hc))

theorem ClockOnly.sourceOn (h : ClockOnly top s t) {k b : Nat} (hk : k < 1048576) : ClockOnly top s (t.sourceOn k b) :=
  h.fault ((FaultOnly.refl t).sourceOn hk)

theorem ClockOnly.sourceOff (h : ClockOnly top s t) {k b : Nat} (hk : k ≤ 16) : ClockOnly top s (t.sourceOff k b) :=
  h.off (t.sourceOff_only b hk)

/-- What follows the line clocks. -/
theorem ClockOnly.clockShow (h : ClockOnly top s t) {tm : Time} : ClockOnly top s (t.clockShow tm) := by
  unfold State.clockShow
  extract_lets s0 s1 s2
  have h0 : ClockOnly top s s0 := h.foldl_mem fun hn ha =>
    ha.setF (f := F.CLK_LPSTAT_SSCON) (by decide) ((by decide : ∀ n ∈ [0, 1, 2, 3], n < 1048576) _ hn)
  have h1 : ClockOnly top s s1 := h0.drawn.foldl_mem fun ho ha => by
    have hl := List.mem_range.1 ho
    exact (ha.setF (f := F.OCT_CKSTAT_FLINE) (by decide) (by omega)).setF (by decide) (by omega)
  have h2 : ClockOnly top s s2 := h1.foldl_mem fun hx ha => by
    have hl := List.mem_range.1 hx
    exact (ha.sourceOn (by omega)).ite (ha.sourceOff (by omega))
  exact h2.foldl_mem fun ho ha => ha.octRates (List.mem_range.1 ho)

theorem ClockOnly.lanesAgain (h : ClockOnly top s t) (ho : o < 8) {tm : Time} : ClockOnly top s (t.lanesAgain o tm) :=
  (h.foldl_mem fun hc ha => ((ha.laneCut (chansOf_lt ho hc)).laneRestart (chansOf_lt ho hc)).pinShow (chansOf_lt ho hc)).ite h

theorem ClockOnly.octIdle (h : ClockOnly true s t) (ho : o < 8) {tm : Time} : ClockOnly true s (t.octIdle o tm) :=
  h.modOct.foldl_mem fun hc ha => ha.modChan.coefRestart.pinShow (chansOf_lt ho hc)

theorem ClockOnly.octClockOld (h : ClockOnly true s t) (ho : o < 8) {new : State} {tm : Time} :
    ClockOnly true s (t.octClockOld new o tm) := by
  have h1 : ClockOnly true s (t.waveAnchor o tm) := h.modOct.ite h
  exact (h1.foldl_mem fun hc ha => ha.laneCut (chansOf_lt ho hc)).ite h1

theorem ClockOnly.octClockNew (h : ClockOnly true s t) (ho : o < 8) {tm : Time} : ClockOnly true s (t.octClockNew o tm) :=
  (h.octIdle ho).lanesAgain ho

end Sys2Proof.Machine
end

section
/-! SUPPORT. The reference, PLLs that lose lock and relock, and UPDNOW (R358, R363, R364, R367). -/

namespace Sys2Proof.Machine

variable {s t u : State} {p q : Pll}

/-! ### The fields of a PLL -/

/-- LOCK of a PLL. -/
abbrev lockFld (p : Pll) : Fld := (pllFlds p).1.1
/-- LOL of a PLL. -/
abbrev lolFld (p : Pll) : Fld := (pllFlds p).1.2.1
/-- BYP of a PLL. -/
abbrev bypFld (p : Pll) : Fld := (pllFlds p).1.2.2.1
/-- LOLCNT of a PLL. -/
abbrev cntFld (p : Pll) : Fld := (pllFlds p).1.2.2.2
/-- Where they stand. -/
abbrev pllIx (p : Pll) : Nat := (pllFlds p).2

/-- The numbers of the fields of PLLs. -/
def pllIds : List Nat :=
  [F.CLK_LPSTAT_LOCK, F.CLK_LPSTAT_LOL, F.CLK_LPSTAT_BYP, F.CLK_LPSTAT_LOLCNT, F.CLK_CORESTAT_LOCK, F.CLK_CORESTAT_LOL,
    F.CLK_CORESTAT_BYP, F.CLK_CORESTAT_LOLCNT, F.CLK_TBSTAT_LOCK, F.CLK_TBSTAT_LOL, F.CLK_TBSTAT_BYP, F.CLK_TBSTAT_LOLCNT].map Fld.id

/-- What holds of the fields of each PLL: they are four, LOCK, LOL and BYP are bits, and none follows the clocks. -/
structure PllFields (p : Pll) : Prop where
  ids : [(lockFld p).id, (lolFld p).id, (bypFld p).id, (cntFld p).id] ⊆ pllIds
  distinct : [(lockFld p).id, (lolFld p).id, (bypFld p).id, (cntFld p).id].Nodup
  lock : (lockFld p).width = 1
  lol : (lolFld p).width = 1
  byp : (bypFld p).width = 1
  ix : (pllIx p) < 1048576

theorem pll_fields (p : Pll) : PllFields p := by
  cases p with
  | line n =>
    exact ⟨(by decide : [F.CLK_LPSTAT_LOCK.id, F.CLK_LPSTAT_LOL.id, F.CLK_LPSTAT_BYP.id, F.CLK_LPSTAT_LOLCNT.id] ⊆ pllIds),
      (by decide : [F.CLK_LPSTAT_LOCK.id, F.CLK_LPSTAT_LOL.id, F.CLK_LPSTAT_BYP.id, F.CLK_LPSTAT_LOLCNT.id].Nodup), rfl, rfl, rfl,
      show n.val < 1048576 by omega⟩
  | core => exact ⟨by decide, by decide, rfl, rfl, rfl, by decide⟩
  | timebase => exact ⟨by decide, by decide, rfl, rfl, rfl, by decide⟩

theorem pllIds_clock : ∀ i ∈ pllIds, i ∉ clockIds := by decide

/-- The numbers of the BYP fields. -/
def bypIds : List Nat := [F.CLK_LPSTAT_BYP, F.CLK_CORESTAT_BYP, F.CLK_TBSTAT_BYP].map Fld.id

theorem bypFld_mem (p : Pll) : (bypFld p).id ∈ bypIds := by
  cases p with
  | line n => exact (by decide : F.CLK_LPSTAT_BYP.id ∈ bypIds)
  | core => decide
  | timebase => decide

/-- No other field of a PLL is a BYP. -/
theorem not_bypIds (p : Pll) : ∀ i ∈ [(lockFld p).id, (lolFld p).id, (cntFld p).id], i ∉ bypIds := by
  cases p with
  | line n => exact (by decide : ∀ i ∈ [F.CLK_LPSTAT_LOCK.id, F.CLK_LPSTAT_LOL.id, F.CLK_LPSTAT_LOLCNT.id], i ∉ bypIds)
  | core => decide
  | timebase => decide

/-- BYP of another PLL stands elsewhere. -/
theorem byp_key_ne (h : q ≠ p) : (bypFld q).key (pllIx q) ≠ (bypFld p).key (pllIx p) := by
  cases q with
  | line n =>
    cases p with
    | line m => exact Fld.key_ne_index (f := F.CLK_LPSTAT_BYP) (i := n.val) (j := m.val) fun e => h (congrArg Pll.line (Fin.ext e))
    | core => exact Fld.key_ne (f := F.CLK_LPSTAT_BYP) (g := F.CLK_CORESTAT_BYP) (i := n.val) (j := 0) (by decide) (by omega) (by decide)
    | timebase => exact Fld.key_ne (f := F.CLK_LPSTAT_BYP) (g := F.CLK_TBSTAT_BYP) (i := n.val) (j := 0) (by decide) (by omega) (by decide)
  | core =>
    cases p with
    | line m => exact Fld.key_ne (f := F.CLK_CORESTAT_BYP) (g := F.CLK_LPSTAT_BYP) (i := 0) (j := m.val) (by decide) (by decide) (by omega)
    | core => exact absurd rfl h
    | timebase => decide
  | timebase =>
    cases p with
    | line m => exact Fld.key_ne (f := F.CLK_TBSTAT_BYP) (g := F.CLK_LPSTAT_BYP) (i := 0) (j := m.val) (by decide) (by decide) (by omega)
    | core => decide
    | timebase => exact absurd rfl h

/-! ### A PLL goes to the bypass oscillator (R367) -/

/-- Its fields show it. -/
def State.pllBypassed (s : State) (p : Pll) : State :=
  (s.setFs (pllIx p) [(lockFld p, 0), (lolFld p, 1), (bypFld p, 1)]).satF (cntFld p) (pllIx p) 1

/-- What they show. -/
structure Bypassed (p : Pll) (s t : State) : Prop where
  lock : t.getF (lockFld p) (pllIx p) = 0
  lol : t.getF (lolFld p) (pllIx p) = 1
  byp : t.getF (bypFld p) (pllIx p) = 1
  cnt : t.getF (cntFld p) (pllIx p) = satAt (cntFld p).width (s.getF (cntFld p) (pllIx p) + 1)

theorem State.pllBypassed_fields (s : State) (p : Pll) : Bypassed p s (s.pllBypassed p) := by
  obtain ⟨-, hd, h1, h2, h3, -⟩ := pll_fields p
  have hd3 : ([(lockFld p, 0), (lolFld p, 1), (bypFld p, 1)].map fun r => r.1.id).Nodup :=
    List.Nodup.sublist (List.sublist_append_left [(lockFld p).id, (lolFld p).id, (bypFld p).id] [(cntFld p).id]) hd
  have hc : (cntFld p).id ∉ [(lockFld p).id, (lolFld p).id, (bypFld p).id] := fun hm =>
    (List.nodup_append.1 (show ([(lockFld p).id, (lolFld p).id, (bypFld p).id] ++ [(cntFld p).id]).Nodup from hd)).2.2 _ hm _ List.mem_cons_self rfl
  have hget {f : Fld} {v : Nat} (hp : (f, v) ∈ [(lockFld p, 0), (lolFld p, 1), (bypFld p, 1)]) :
      (s.pllBypassed p).getF f (pllIx p) = v % 2 ^ f.width := by
    have hne : f.id ≠ (cntFld p).id := fun e => hc (e ▸ List.mem_map_of_mem (f := fun r : Fld × Nat => r.1.id) hp)
    exact (State.getF_setF_other (Fld.key_ne_same hne)).trans (State.getF_setFs_mem hp hd3 (pllIx p))
  refine ⟨(hget (by simp)).trans (Nat.zero_mod _), (hget (v := 1) (by simp)).trans (by rw [h2]; rfl),
    (hget (v := 1) (by simp)).trans (by rw [h3]; rfl), ?_⟩
  refine (State.getF_satF_same ..).trans (congrArg (fun n => satAt (cntFld p).width (n + 1)) ?_)
  exact State.getF_setFs_other fun r hr => Fld.key_ne_same fun e => hc (e ▸ List.mem_map_of_mem (f := fun r : Fld × Nat => r.1.id) hr)

theorem Bypassed.clock {top : Bool} {s₀ : State} (h : Bypassed p s₀ s) (g : ClockOnly top s t) : Bypassed p s₀ t := by
  obtain ⟨hids, -, -, -, -, hi⟩ := pll_fields p
  have hf {f : Fld} (hm : f.id ∈ [(lockFld p).id, (lolFld p).id, (bypFld p).id, (cntFld p).id]) : t.getF f (pllIx p) = s.getF f (pllIx p) :=
    g.fields f (pllIx p) (pllIds_clock _ (hids hm)) hi
  exact ⟨(hf (by simp)).trans h.lock, (hf (by simp)).trans h.lol, (hf (by simp)).trans h.byp, (hf (by simp)).trans h.cnt⟩

theorem State.pllFault_clock (s : State) (p : Pll) (on : Bool) : ClockOnly false s (s.pllFault p on) := by
  cases p with
  | line n => exact (ClockOnly.refl s).clockShow
  | core => exact ((ClockOnly.refl s).sourceOn (by decide)).ite ((ClockOnly.refl s).sourceOff (by decide))
  | timebase => exact ((ClockOnly.refl s).sourceOn (by decide)).ite ((ClockOnly.refl s).sourceOff (by decide))

theorem State.pllLose_eq (hb : s.flag (bypFld p) (pllIx p) = false) (ho : s.pllOff p = false) :
    s.pllLose p = (s.pllBypassed p).pllFault p true := if_neg (by rw [hb, ho]; decide)

theorem State.pllLose_idle (h : s.flag (bypFld p) (pllIx p) = true ∨ s.pllOff p = true) : s.pllLose p = s := by
  refine if_pos ?_
  obtain h | h := h
  · rw [h, Bool.true_or]
  · rw [h, Bool.or_true]

/-- From `s` to `t` PLLs go to the bypass oscillator, and none leaves it. -/
structure Lost (s t : State) : Prop where
  frame : { t with
    reg := s.reg, live := s.live, chan := s.chan, oct := s.oct, port := s.port, fab := s.fab, sumac := s.sumac, evAt := s.evAt, out := s.out,
    free := s.free } = s
  oct : t.oct = s.oct
  fields : ∀ (g : Fld) (j : Nat), g.id ∉ pllIds ++ clockIds → j < 1048576 → t.getF g j = s.getF g j
  byp : ∀ q : Pll, s.flag (bypFld q) (pllIx q) = true → t.flag (bypFld q) (pllIx q) = true

theorem Lost.refl (s : State) : Lost s s := ⟨rfl, rfl, fun _ _ _ _ => rfl, fun _ h => h⟩

theorem Lost.trans (h : Lost s t) (g : Lost t u) : Lost s u :=
  ⟨Eq.trans (congrArg (fun a : State => { a with
      reg := s.reg, live := s.live, chan := s.chan, oct := s.oct, port := s.port, fab := s.fab, sumac := s.sumac, evAt := s.evAt,
      out := s.out, free := s.free }) g.frame) h.frame, g.oct.trans h.oct,
    fun f j hf hj => (g.fields f j hf hj).trans (h.fields f j hf hj), fun q hq => g.byp q (h.byp q hq)⟩

theorem ClockOnly.lost (h : ClockOnly false s t) : Lost s t := by
  refine ⟨h.frame, h.octs rfl, fun g j hg hj => h.fields g j (fun hm => hg (List.mem_append_right _ hm)) hj, fun q hq => ?_⟩
  obtain ⟨hids, -, -, -, -, hi⟩ := pll_fields q
  rwa [State.flag, h.fields (bypFld q) (pllIx q) (pllIds_clock _ (hids (by simp))) hi]

theorem State.pllBypassed_lost (s : State) (p : Pll) : Lost s (s.pllBypassed p) := by
  obtain ⟨hids, hd, -, -, -, hi⟩ := pll_fields p
  have hr : RegsBut [(lockFld p).key (pllIx p), (lolFld p).key (pllIx p), (bypFld p).key (pllIx p), (cntFld p).key (pllIx p)] s (s.pllBypassed p) :=
    ((((RegsBut.refl _ s).setF (by simp)).setF (by simp)).setF (by simp)).setF (by simp)
  refine ⟨rfl, rfl, fun g j hg hj => hr.getF ?_, fun q hq => ?_⟩
  · have hne {f : Fld} (hm : f.id ∈ [(lockFld p).id, (lolFld p).id, (bypFld p).id, (cntFld p).id]) : g.key j ≠ f.key (pllIx p) :=
      Fld.key_ne (fun e => hg (e ▸ List.mem_append_left _ (hids hm))) hj hi
    simpa using ⟨hne (f := lockFld p) (by simp), hne (f := lolFld p) (by simp), hne (f := bypFld p) (by simp),
      hne (f := cntFld p) (by simp)⟩
  · by_cases hqp : q = p
    · subst hqp
      exact bne_iff_ne.2 (by rw [(s.pllBypassed_fields q).byp]; decide)
    · obtain ⟨-, -, -, -, -, hj⟩ := pll_fields q
      have hne {f : Fld} (hm : f.id ∈ [(lockFld p).id, (lolFld p).id, (cntFld p).id]) : (bypFld q).key (pllIx q) ≠ f.key (pllIx p) :=
        Fld.key_ne (fun e => not_bypIds p _ hm (e ▸ bypFld_mem q)) hj hi
      rwa [State.flag, hr.getF]
      simpa using ⟨hne (f := lockFld p) (by simp), hne (f := lolFld p) (by simp), byp_key_ne hqp, hne (f := cntFld p) (by simp)⟩

end Sys2Proof.Machine
end

section
/-! SUPPORT. The reference comes and goes, PLLs lose lock and relock (R358, R367, R278). -/

namespace Sys2Proof.Machine

variable {s t u : State} {p q : Pll}

theorem Lost.sameMems (h : Lost s t) : s.sameMems t := by
  have hm {α : Type} (g : State → α) : g { t with
    reg := s.reg, live := s.live, chan := s.chan, oct := s.oct, port := s.port, fab := s.fab, sumac := s.sumac, evAt := s.evAt, out := s.out,
    free := s.free } = g s := congrArg g h.frame
  exact ⟨hm State.bb, hm State.acqMem, hm State.dram, hm State.nvm, hm State.psbuf, hm State.cstore, hm State.mirror,
    hm State.tstore⟩

theorem Lost.site (h : Lost s t) : t.site = s.site := (congrArg State.site h.frame :)

theorem Lost.eng (h : Lost s t) : t.eng = s.eng := (congrArg State.eng h.frame :)

theorem Lost.time (h : Lost s t) : t.time = s.time := (congrArg State.time h.frame :)

theorem Lost.pllOff (h : Lost s t) (p : Pll) : t.pllOff p = s.pllOff p := by
  cases p with
  | line n => exact congrArg (· == 2) (h.fields F.GLB_PWRSTAT_STATE 0 (by decide) (by decide))
  | core => rfl
  | timebase => rfl

theorem State.pllFault_lost (s : State) (p : Pll) : Lost s ((s.pllBypassed p).pllFault p true) :=
  (s.pllBypassed_lost p).trans ((s.pllBypassed p).pllFault_clock p true).lost

theorem State.pllLose_lost (s : State) (p : Pll) : Lost s (s.pllLose p) := by
  by_cases h : s.flag (bypFld p) (pllIx p) = true ∨ s.pllOff p = true
  · rw [State.pllLose_idle h]
    exact Lost.refl s
  · obtain ⟨hb, ho⟩ := not_or.1 h
    rw [State.pllLose_eq (Bool.eq_false_iff.2 hb) (Bool.eq_false_iff.2 ho)]
    exact s.pllFault_lost p

/-- A PLL that is on is then in bypass. -/
theorem State.pllLose_byp (ho : s.pllOff p = false) : (s.pllLose p).flag (bypFld p) (pllIx p) = true := by
  cases hb : s.flag (bypFld p) (pllIx p) with
  | true => rwa [State.pllLose_idle (.inl hb)]
  | false =>
    rw [State.pllLose_eq hb ho]
    have h := ((s.pllBypassed_fields p).clock ((s.pllBypassed p).pllFault_clock p true)).byp
    exact bne_iff_ne.2 (by rw [h]; decide)

theorem State.pllsLose_lost (s : State) (l : List Pll) : Lost s (l.foldl (fun a p => a.pllLose p) s) :=
  List.foldlRecOn (motive := Lost s) l (fun a p => a.pllLose p) (Lost.refl s) fun a ha p _ => ha.trans (a.pllLose_lost p)

/-- Every PLL of a list that is on goes there. -/
theorem State.pllsLose_byp {l : List Pll} (hp : p ∈ l) (ho : s.pllOff p = false) :
    (l.foldl (fun a p => a.pllLose p) s).flag (bypFld p) (pllIx p) = true := by
  obtain ⟨l₁, l₂, rfl⟩ := List.append_of_mem hp
  rw [List.foldl_append, List.foldl_cons]
  refine (State.pllsLose_lost _ l₂).byp p (State.pllLose_byp ?_)
  rw [(s.pllsLose_lost l₁).pllOff, ho]

/-! ### The reference (R358) -/

/-- The registers say that it is lost. -/
def State.refGone (s : State) : State := (s.setFs 0 [(F.CLK_REF_REFOK, 0), (F.CLK_REF_REFLOSS, 1)]).satF F.CLK_REF_LCNT 0 1

theorem State.refGone_pllOff (s : State) (p : Pll) : s.refGone.pllOff p = s.pllOff p := by
  cases p with
  | line n =>
    have hr : RegsBut [F.CLK_REF_REFOK.key 0, F.CLK_REF_REFLOSS.key 0, F.CLK_REF_LCNT.key 0] s s.refGone :=
      (((RegsBut.refl _ s).setF (by simp)).setF (by simp)).setF (by simp)
    exact congrArg (· == 2) (hr.getF (f := F.GLB_PWRSTAT_STATE) (i := 0) (by decide))
  | core => rfl
  | timebase => rfl

theorem State.refGone_fields (s : State) : s.refGone.getF F.CLK_REF_REFOK 0 = 0 ∧ s.refGone.getF F.CLK_REF_REFLOSS 0 = 1 ∧
    s.refGone.getF F.CLK_REF_LCNT 0 = satAt F.CLK_REF_LCNT.width (s.getF F.CLK_REF_LCNT 0 + 1) := by
  have hn : ([(F.CLK_REF_REFOK, 0), (F.CLK_REF_REFLOSS, 1)].map fun r : Fld × Nat => r.1.id).Nodup := by decide
  have hl {f : Fld} (h : f.id ≠ F.CLK_REF_LCNT.id) : s.refGone.getF f 0 = (s.setFs 0 [(F.CLK_REF_REFOK, 0), (F.CLK_REF_REFLOSS, 1)]).getF f 0 :=
    State.getF_setF_other (Fld.key_ne_same h)
  refine ⟨(hl (by decide)).trans (State.getF_setFs_mem (p := (F.CLK_REF_REFOK, 0)) (by simp) hn 0),
    (hl (by decide)).trans (State.getF_setFs_mem (p := (F.CLK_REF_REFLOSS, 1)) (by simp) hn 0), (State.getF_satF_same ..).trans ?_⟩
  rw [State.getF_setFs_other (by decide)]

/-- R358: the loss of the reference takes every PLL that is on with it. -/
theorem refLoss_spec (h : s.flag F.CLK_REF_REFOK 0 = true) : ∃ t, exec .refLoss s = .next t ∧ t.getF F.CLK_REF_REFOK 0 = 0 ∧
    t.getF F.CLK_REF_REFLOSS 0 = 1 ∧ t.getF F.CLK_REF_LCNT 0 = satAt F.CLK_REF_LCNT.width (s.getF F.CLK_REF_LCNT 0 + 1) ∧
    (∀ p ∈ plls, s.pllOff p = false → t.flag (bypFld p) (pllIx p) = true) ∧
    s.sameMems t ∧ t.eng = s.eng ∧ t.oct = s.oct ∧ t.site = s.site ∧ t.time = s.time := by
  have hl := s.refGone.pllsLose_lost plls
  have hp {p : Pll} (hp : p ∈ plls) (ho : s.pllOff p = false) :
      (plls.foldl (fun a p => a.pllLose p) s.refGone).flag (bypFld p) (pllIx p) = true :=
    State.pllsLose_byp hp ((s.refGone_pllOff p).trans ho)
  have hx : exec .refLoss s = .next (plls.foldl (fun a p => a.pllLose p) s.refGone) := if_pos h
  generalize plls.foldl (fun a p => a.pllLose p) s.refGone = t at hl hp hx
  obtain ⟨h0, h1, h2⟩ := s.refGone_fields
  exact ⟨t, hx, (hl.fields _ 0 (by decide) (by decide)).trans h0, (hl.fields _ 0 (by decide) (by decide)).trans h1,
    (hl.fields _ 0 (by decide) (by decide)).trans h2, fun _ => hp, hl.sameMems, hl.eng, hl.oct, hl.site, hl.time⟩

theorem refLoss_idle (h : s.flag F.CLK_REF_REFOK 0 = false) : exec .refLoss s = .next s := if_neg (by rw [h]; decide)

/-! ### A PLL loses lock and relocks (R367, R278) -/

theorem hasBit_csrc {b : Nat} (h : SourceOn 16 b s t) : hasBit (t.getF F.FLT_STAT_CSRC 0) b = true := h.active

theorem pllLossOfLock_spec (hb : s.flag (bypFld p) (pllIx p) = false) (ho : s.pllOff p = false) :
    ∃ t, exec (.pllLossOfLock p) s = .next t ∧
      t.getF (lockFld p) (pllIx p) = 0 ∧ t.getF (lolFld p) (pllIx p) = 1 ∧ t.getF (bypFld p) (pllIx p) = 1 ∧
      t.getF (cntFld p) (pllIx p) = satAt (cntFld p).width (s.getF (cntFld p) (pllIx p) + 1) ∧
      (p = .core → hasBit (t.getF F.FLT_STAT_CSRC 0) 0 = true) ∧ (p = .timebase → hasBit (t.getF F.FLT_STAT_CSRC 0) 1 = true) ∧
      s.sameMems t ∧ t.eng = s.eng ∧ t.oct = s.oct ∧ t.site = s.site ∧ t.time = s.time := by
  have hl := s.pllFault_lost p
  obtain ⟨hlock, hlol, hbyp, hcnt⟩ := (s.pllBypassed_fields p).clock ((s.pllBypassed p).pllFault_clock p true)
  refine ⟨_, congrArg Host.Outcome.next (State.pllLose_eq hb ho), hlock, hlol, hbyp, hcnt, fun e => ?_, fun e => ?_, hl.sameMems, hl.eng,
    hl.oct, hl.site, hl.time⟩
  · subst e
    exact hasBit_csrc (State.sourceOn_spec _ (.inl ⟨rfl, by decide⟩))
  · subst e
    exact hasBit_csrc (State.sourceOn_spec _ (.inl ⟨rfl, by decide⟩))

theorem pllLossOfLock_idle (h : s.flag (bypFld p) (pllIx p) = true ∨ s.pllOff p = true) : exec (.pllLossOfLock p) s = .next s :=
  congrArg Host.Outcome.next (State.pllLose_idle h)

/-- A PLL has locked, and its site sources follow. -/
def State.pllLocked (s : State) (p : Pll) : State := (s.setFs (pllIx p) [(lockFld p, 1), (bypFld p, 0)]).pllFault p false

/-- What it shows then, and what stays. -/
structure Relocked (p : Pll) (s t : State) : Prop where
  lock : t.getF (lockFld p) (pllIx p) = 1
  byp : t.getF (bypFld p) (pllIx p) = 0
  mems : s.sameMems t
  eng : t.eng = s.eng
  oct : t.oct = s.oct
  site : t.site = s.site

theorem State.pllLocked_spec (s : State) (p : Pll) : Relocked p s (s.pllLocked p) := by
  obtain ⟨hids, hd, h1, -, -, hi⟩ := pll_fields p
  have hne : (lockFld p).id ≠ (bypFld p).id := by simp only [List.nodup_cons, List.mem_cons, not_or] at hd; exact hd.1.2.1
  have hc := (s.setFs (pllIx p) [(lockFld p, 1), (bypFld p, 0)]).pllFault_clock p false
  have hf {f : Fld} (hm : f.id ∈ [(lockFld p).id, (lolFld p).id, (bypFld p).id, (cntFld p).id]) :=
    hc.fields f (pllIx p) (pllIds_clock _ (hids hm)) hi
  refine ⟨(hf (by simp)).trans ?_, (hf (by simp)).trans ?_, hc.sameMems, hc.lost.eng, hc.lost.oct, hc.lost.site⟩
  · refine (State.getF_setF_other (Fld.key_ne_same hne)).trans ((State.getF_setF_same ..).trans ?_)
    rw [h1]
    rfl
  · exact (State.getF_setF_same ..).trans (Nat.zero_mod _)

/-- A timebase that is not the root's then enters ACQ. -/
theorem Relocked.enterAcq (h : Relocked .timebase s t) : Relocked .timebase s t.enterAcq := by
  obtain ⟨hl, hb, hm, he, ho, hs⟩ := h
  have hf {f : Fld} (hf : f.id ≠ F.TBS_STAT_STATE.id) : t.enterAcq.getF f 0 = t.getF f 0 :=
    (State.getF_setF_other (Fld.key_ne_same hf) : (t.setF F.TBS_STAT_STATE 0 1).getF f 0 = t.getF f 0)
  exact ⟨(hf (f := F.CLK_TBSTAT_LOCK) (by decide)).trans hl, (hf (f := F.CLK_TBSTAT_BYP) (by decide)).trans hb, hm, he, ho, hs⟩

theorem pllRelock_spec (hr : s.flag F.CLK_REF_REFOK 0 = true) (hl : s.flag (lockFld p) (pllIx p) = false) (ho : s.pllOff p = false) :
    ∃ t, exec (.pllRelock p) s = .next t ∧ Relocked p s t := by
  have hs := s.pllLocked_spec p
  have hx : s.pllLock p = if p = .timebase && s.flag (bypFld p) (pllIx p) && !s.flag F.FAB_ID_TROOT 0 then (s.pllLocked p).enterAcq
      else s.pllLocked p := if_pos (by rw [hr, hl, ho]; rfl)
  refine ⟨_, congrArg Host.Outcome.next hx, ?_⟩
  split
  case isTrue h =>
    simp only [Bool.and_eq_true, decide_eq_true_eq] at h
    obtain ⟨⟨rfl, -⟩, -⟩ := h
    exact hs.enterAcq
  case isFalse => exact hs

theorem pllRelock_idle (h : s.flag F.CLK_REF_REFOK 0 = false ∨ s.flag (lockFld p) (pllIx p) = true ∨ s.pllOff p = true) :
    exec (.pllRelock p) s = .next s := by
  refine congrArg Host.Outcome.next (if_neg ?_)
  obtain h | h | h := h <;> simp [h]

end Sys2Proof.Machine
end

section
/-! SUPPORT. UPDNOW, and what the reference and the PLLs do (R358, R363, R364, R367). -/

namespace Sys2Proof.Machine

variable {s t u : State} {n m : Nat}

/-! ### The live outputs of a line PLL (R363) -/

/-- The numbers of the live fields of outputs. -/
def lplIds : List Nat := [F.CLK_LPL_DIV, F.CLK_LPL_DLY, F.CLK_LPL_EN].map Fld.id

/-- One output is loaded. -/
def State.lpLoadAt (s : State) (frz : FMap) (n m : Nat) : State :=
  s.setFs (lpoIx n m) [(F.CLK_LPL_DIV, FMap.get frz F.CLK_LPO_DIV (lpoIx n m)), (F.CLK_LPL_DLY, FMap.get frz F.CLK_LPO_DLY (lpoIx n m)),
     (F.CLK_LPL_EN, FMap.get frz F.CLK_LPO_EN (lpoIx n m))]

/-- The live outputs `m` of PLL `n` hold the pending ones of `frz`. -/
def State.lpHolds (s : State) (frz : FMap) (n m : Nat) : Prop :=
  s.getF F.CLK_LPL_DIV (lpoIx n m) = frz.get F.CLK_LPO_DIV (lpoIx n m) % 2 ^ F.CLK_LPL_DIV.width ∧
  s.getF F.CLK_LPL_DLY (lpoIx n m) = frz.get F.CLK_LPO_DLY (lpoIx n m) % 2 ^ F.CLK_LPL_DLY.width ∧
  s.getF F.CLK_LPL_EN (lpoIx n m) = frz.get F.CLK_LPO_EN (lpoIx n m) % 2 ^ F.CLK_LPL_EN.width

theorem State.lpLoadAt_same (s : State) (frz : FMap) (n m : Nat) : (s.lpLoadAt frz n m).lpHolds frz n m := by
  have hn : ([(F.CLK_LPL_DIV, FMap.get frz F.CLK_LPO_DIV (lpoIx n m)), (F.CLK_LPL_DLY, FMap.get frz F.CLK_LPO_DLY (lpoIx n m)),
     (F.CLK_LPL_EN, FMap.get frz F.CLK_LPO_EN (lpoIx n m))].map fun p => p.1.id).Nodup := (by decide : lplIds.Nodup)
  exact ⟨State.getF_setFs_mem List.mem_cons_self hn _, State.getF_setFs_mem (List.mem_cons_of_mem _ List.mem_cons_self) hn _,
    State.getF_setFs_mem (List.mem_cons_of_mem _ (List.mem_cons_of_mem _ List.mem_cons_self)) hn _⟩

theorem State.lpLoadAt_other {frz : FMap} {k : Nat} (h : s.lpHolds frz n m) (hk : k ≠ m) (hi : lpoIx n m < 1048576) (hj : lpoIx n k < 1048576) :
    (s.lpLoadAt frz n k).lpHolds frz n m := by
  have hx : lpoIx n m ≠ lpoIx n k := by
    unfold lpoIx
    omega
  have hf {f : Fld} (hf : f ∈ [F.CLK_LPL_DIV, F.CLK_LPL_DLY, F.CLK_LPL_EN]) : (s.lpLoadAt frz n k).getF f (lpoIx n m) = s.getF f (lpoIx n m) := by
    refine State.getF_setFs_other fun p hp => ?_
    by_cases e : f.id = p.1.id
    · unfold Fld.key
      omega
    · exact Fld.key_ne e hi hj
  obtain ⟨h1, h2, h3⟩ := h
  exact ⟨(hf (by simp)).trans h1, (hf (by simp)).trans h2, (hf (by simp)).trans h3⟩

theorem State.lpLoad_eq (s : State) (frz : FMap) (n : Nat) : s.lpLoad frz n = [0, 1, 2, 3].foldl (fun a m => a.lpLoadAt frz n m) s := rfl

theorem State.lpLoad_frame (s : State) (frz : FMap) (n : Nat) : { s.lpLoad frz n with reg := s.reg } = s := rfl

/-- A load loads every output. -/
theorem State.lpLoad_holds (s : State) (frz : FMap) (hn : n < 4) : ∀ m < 4, (s.lpLoad frz n).lpHolds frz n m := by
  have hi {k : Nat} (hk : k < 4) : lpoIx n k < 1048576 := by
    unfold lpoIx
    omega
  have hs (a : State) {k m : Nat} (hk : k < 4) (hm : m < 4) (h : m = k ∨ a.lpHolds frz n m) : (a.lpLoadAt frz n k).lpHolds frz n m := by
    by_cases e : k = m
    · subst e
      exact a.lpLoadAt_same frz n k
    · exact State.lpLoadAt_other (h.resolve_left (Ne.symm e)) e (hi hm) (hi hk)
  intro m hm
  rw [State.lpLoad_eq]
  refine hs _ (by decide) hm ?_
  by_cases h3 : m = 3
  · exact .inl h3
  refine .inr (hs _ (by decide) hm ?_)
  by_cases h2 : m = 2
  · exact .inl h2
  refine .inr (hs _ (by decide) hm ?_)
  by_cases h1 : m = 1
  · exact .inl h1
  exact .inr (hs _ (by decide) hm (.inl (by omega)))

theorem State.lpHolds.clock {top : Bool} {frz : FMap} (h : s.lpHolds frz n m) (g : ClockOnly top s t) (hi : lpoIx n m < 1048576) :
    t.lpHolds frz n m := by
  obtain ⟨h1, h2, h3⟩ := h
  exact ⟨(g.fields _ _ (by decide) hi).trans h1, (g.fields _ _ (by decide) hi).trans h2, (g.fields _ _ (by decide) hi).trans h3⟩

theorem State.lpDiv_le (h : s.lpPendOk n = true) (hm : m < 4) : s.getF F.CLK_LPO_DIV (lpoIx n m) ≤ 8 := by
  have hk := List.all_eq_true.1 h m (by simp; omega)
  simp only [Bool.and_eq_true, decide_eq_true_eq] at hk
  exact hk.2

/-! ### UPDNOW (R363, R364) -/

/-- The octets whose output changes. -/
def State.updUsers (s : State) (n : Nat) : List Nat := (s.lpChanged n).flatMap fun m => s.usersOf n m

theorem State.updUsers_lt {o : Nat} (h : o ∈ s.updUsers n) : o < 8 := by
  obtain ⟨m, -, hm⟩ := List.mem_flatMap.1 h
  exact List.mem_range.1 (List.mem_of_mem_filter hm)

/-- What the old clock timed ends. -/
def State.updOld (s : State) (n : Nat) : State := (s.updUsers n).foldl (fun c o => c.octClockOld (s.lpLoad s.reg n) o s.now) s

/-- The load of UPDNOW. -/
def State.updLoad (s : State) (n : Nat) : State :=
  ((s.updUsers n).foldl (fun c o => c.octClockNew o s.now) ((s.updOld n).lpLoad s.reg n)).clockShow s.now

theorem State.updOld_clock (s : State) (n : Nat) : ClockOnly true s (s.updOld n) :=
  (ClockOnly.refl s).foldl_mem fun ho ha => ha.octClockOld (State.updUsers_lt ho)

theorem State.updLoad_clock (s : State) (n : Nat) : ClockOnly true ((s.updOld n).lpLoad s.reg n) (s.updLoad n) :=
  ((ClockOnly.refl _).foldl_mem fun ho ha => ha.octClockNew (State.updUsers_lt ho)).clockShow

/-- What a load keeps and what it shows. -/
structure Updated (n : Nat) (s t : State) : Prop where
  outs : ∀ m, m < 4 → t.getF F.CLK_LPL_DIV (lpoIx n m) = s.getF F.CLK_LPO_DIV (lpoIx n m) ∧
    t.getF F.CLK_LPL_DLY (lpoIx n m) = s.getF F.CLK_LPO_DLY (lpoIx n m) % 64 ∧
    t.getF F.CLK_LPL_EN (lpoIx n m) = s.getF F.CLK_LPO_EN (lpoIx n m) % 2
  mems : s.sameMems t
  eng : t.eng = s.eng
  stream : t.stream = s.stream
  time : t.time = s.time

theorem State.updLoad_spec (s : State) (hn : n < 4) (hp : s.lpPendOk n = true) : Updated n s (s.updLoad n) := by
  have h1 := s.updOld_clock n
  have h2 := s.updLoad_clock n
  have hh := (s.updOld n).lpLoad_holds s.reg hn
  have hl : { (s.updOld n).lpLoad s.reg n with reg := (s.updOld n).reg } = s.updOld n := State.lpLoad_frame ..
  generalize (s.updOld n).lpLoad s.reg n = b at h2 hh hl
  generalize s.updOld n = a at h1 hl
  have hk {α : Type} {g : State → α} (ha : g a = g s) (hb : g b = g a) (ht : g (s.updLoad n) = g b) : g (s.updLoad n) = g s :=
    ht.trans (hb.trans ha)
  refine ⟨fun m hm => ?_, ?_, hk (g := State.eng) (congrArg State.eng h1.frame :) (congrArg State.eng hl :) (congrArg State.eng h2.frame :),
    hk (g := State.stream) (congrArg State.stream h1.frame :) (congrArg State.stream hl :) (congrArg State.stream h2.frame :),
    hk (g := State.time) (congrArg State.time h1.frame :) (congrArg State.time hl :) (congrArg State.time h2.frame :)⟩
  · obtain ⟨hd, hy, he⟩ := (hh m hm).clock h2 (by unfold lpoIx; omega)
    refine ⟨hd.trans (Nat.mod_eq_of_lt ?_), hy, he⟩
    exact Nat.lt_of_le_of_lt (State.lpDiv_le hp hm) (by decide)
  · have hm {α : Type} (g : State → α) : g { b with reg := a.reg } = g a := congrArg g hl
    have hab : a.sameMems b := ⟨hm State.bb, hm State.acqMem, hm State.dram, hm State.nvm, hm State.psbuf, hm State.cstore, hm State.mirror,
      hm State.tstore⟩
    exact h1.sameMems.trans (hab.trans h2.sameMems)

end Sys2Proof.Machine
end

section
/-! SUPPORT. UPDNOW of the host, and what the reference and the PLLs do (R358, R363, R364, R367). -/

namespace Sys2Proof.Machine

variable {s t u : State}

/-- What UPDNOW of the owner's VF does. -/
def State.updOwned (s : State) (v n : Nat) : Res :=
  if s.beatsRun v || s.startsBeats v then ok (s.setF F.CLK_LPSTAT_UPD_REJ n 1)
  else if s.lpPendOk n then ok (s.updLoad n)
  else ok (s.setF F.CLK_LPSTAT_CFG_REJ n 1)

@[simp] theorem State.beatsRun_ordered (s : State) (x : Nat) (o : Order) (y : Nat) : (s.ordered x o).beatsRun y = s.beatsRun y := rfl
@[simp] theorem State.lpPendOk_ordered (s : State) (x : Nat) (o : Order) (n : Nat) : (s.ordered x o).lpPendOk n = s.lpPendOk n := rfl

@[simp] theorem State.startsBeats_ordered (s : State) (x : Nat) (o : Order) : (s.ordered x o).startsBeats x = s.startsBeats x := by
  rw [State.startsBeats, State.safOf_ordered]
  rfl

variable {v : Fin 16} {n : Fin 4}

theorem updnow_eq : exec (.updnow (.vf v) n) s = s.hostOrder (.vf v) (s.ownsLp v.val n.val) R.CLK_LPCTL n.val 1 (fun s =>
    if s.vfLive (.vf v) && s.ownsLp v.val n.val then s.updOwned v.val n.val else ok s) := rfl

theorem updnow_owned (h : s.hostFree v) (hn : s.ownsLp v.val n.val = true) :
    ∃ o, exec (.updnow (.vf v) n) s = (s.ordered v.val o).updOwned v.val n.val := by
  rw [updnow_eq, hn, State.hostOrder_of_hostFree h]
  have hl : (s.vfLive (.vf v) && s.ownsLp v.val n.val) = true := by rw [h.1, hn]; rfl
  exact ⟨_, if_pos hl⟩

theorem updnow_refused (h : s.hostFree v) (hn : s.ownsLp v.val n.val = true) (hb : s.beatsRun v.val = true ∨ s.startsBeats v.val = true) :
    ∃ t, exec (.updnow (.vf v) n) s = .next t ∧ t.getF F.CLK_LPSTAT_UPD_REJ n.val = 1 ∧
      SiteOnly v.val [F.CLK_LPSTAT_UPD_REJ.key n.val] s t := by
  obtain ⟨o, hx⟩ := updnow_owned h hn
  refine ⟨(s.ordered v.val o).setF F.CLK_LPSTAT_UPD_REJ n.val 1, hx.trans (if_pos ?_), State.getF_setF_same .., ?_⟩
  · rw [State.beatsRun_ordered, State.startsBeats_ordered]
    exact Bool.or_eq_true_iff.2 hb
  · exact (s.ordered_siteOnly v.val o _).setF (by simp)

theorem updnow_invalid (h : s.hostFree v) (hn : s.ownsLp v.val n.val = true) (hb : s.beatsRun v.val = false)
    (hg : s.startsBeats v.val = false) (hp : s.lpPendOk n.val = false) :
    ∃ t, exec (.updnow (.vf v) n) s = .next t ∧ t.getF F.CLK_LPSTAT_CFG_REJ n.val = 1 ∧
      SiteOnly v.val [F.CLK_LPSTAT_CFG_REJ.key n.val] s t := by
  obtain ⟨o, hx⟩ := updnow_owned h hn
  refine ⟨(s.ordered v.val o).setF F.CLK_LPSTAT_CFG_REJ n.val 1, hx.trans ?_, State.getF_setF_same .., ?_⟩
  · rw [State.updOwned, State.beatsRun_ordered, State.startsBeats_ordered, State.lpPendOk_ordered, hb, hg, hp]
    rfl
  · exact (s.ordered_siteOnly v.val o _).setF (by simp)

theorem updnow_loads (h : s.hostFree v) (hn : s.ownsLp v.val n.val = true) (hb : s.beatsRun v.val = false)
    (hg : s.startsBeats v.val = false) (hp : s.lpPendOk n.val = true) :
    ∃ t, exec (.updnow (.vf v) n) s = .next t ∧ Updated n.val s t := by
  obtain ⟨o, hx⟩ := updnow_owned h hn
  refine ⟨(s.ordered v.val o).updLoad n.val, hx.trans ?_, ?_⟩
  · rw [State.updOwned, State.beatsRun_ordered, State.startsBeats_ordered, State.lpPendOk_ordered, hb, hg, hp]
    rfl
  · obtain ⟨h1, h2, h3, h4, h5⟩ := (s.ordered v.val o).updLoad_spec n.isLt hp
    exact ⟨h1, h2, h3, h4, h5⟩

/-- UPDNOW of a VF that does not own the PLL, or that is not enabled, does nothing. -/
theorem updnow_other (h : s.ownsLp v.val n.val = false ∨ s.vfLive (.vf v) = false) : exec (.updnow (.vf v) n) s = .next s := by
  rw [updnow_eq]
  obtain h | h := h <;> exact (if_neg (by simp [h])).trans (if_neg (by simp [h]))

/-- Settles O50: the PLLs go to bypass one by one, and what follows their clocks writes none of their fields; UPDNOW loads after the old
clock's work is cut and before the new one's begins. -/
theorem clocksLoseAndRelock : Obligations.ClocksLoseAndRelock := by
  refine ⟨fun s => ⟨refLoss_spec, refLoss_idle⟩, fun s => ⟨_, rfl, State.getF_setF_same .., (RegsOnly.refl _ s).setF (by simp)⟩, fun p s =>
    ⟨pllLossOfLock_spec, pllLossOfLock_idle, fun hr hl ho => ?_, pllRelock_idle⟩, fun v n s h hn =>
    ⟨updnow_refused h hn, updnow_invalid h hn, fun hb hg hp => ?_⟩, fun _ _ => rfl, fun v n s => updnow_other⟩
  · obtain ⟨t, hx, ⟨h1, h2, h3, h4, h5, h6⟩⟩ := pllRelock_spec hr hl ho
    exact ⟨t, hx, h1, h2, h3, h4, h5, h6⟩
  · obtain ⟨t, hx, ⟨h1, h2, h3, h4, h5⟩⟩ := updnow_loads h hn hb hg hp
    exact ⟨t, hx, h1, h2, h3, h4, h5⟩

end Sys2Proof.Machine
end
